-- ==== Sys2Proof/Word.lean ====
section
/-! DEFINITION. The plain words of the block and the shape of its sparse stores. -/

namespace Sys2Proof

/-- One byte. -/
abbrev Byte := BitVec 8

/-- One 32-bit word: a vector lane, a completion tag, a binary32 pattern. -/
abbrev W32 := BitVec 32

/-- One 64-bit word. -/
abbrev W64 := BitVec 64

/-- A sparse store: (key, value) pairs in one canonical form, keys strictly rising and no value equal to
what an unlisted key reads as. Memory, register files and queues by number are held so; the operations
and the form are in Machine/Map.lean. -/
abbrev NMap (α : Type) := List (Nat × α)

/-- The 256 lanes of one vector register, lane 0 first (R159). -/
abbrev Lanes := List W32

end Sys2Proof
end

