-- ==== Sys2Proof/Syntax.lean ====
section
/-! DEFINITION. The commands of the block (one constructor of `Instr` per row of spec/opcode_table.json)
and the types of their operands. An operand is what the sender of the command supplies: which unit acts,
the value written, the bytes that arrive, the outcome of a physical measurement or test. What the unit
fetches for itself (a command list, a descriptor ring, a packet that has been delivered) is in `State`. -/

namespace Sys2Proof

/-- Core site `site` of cluster `cl` (R4). -/
structure CoreId where
  cl : Fin 12
  site : Fin 8
  deriving DecidableEq, Repr

/-- A PCIe function: 0 is the physical function, 1 to 8 the virtual functions (R693). -/
abbrev HostFn := Fin 9

/-- A video engine: 0 to 7 are VD0 to VD7, 8 to 11 are VE0 to VE3 (R4). -/
abbrev Engine := Fin 12

/-- Class of a video engine or stream (R577). -/
inductive VideoClass where
  | decode | encode
  deriving DecidableEq, Repr

/-- A memory unit: 0 to 15 are H0 to H15, 16 to 23 are LP0 to LP7 (R4, R695). -/
abbrev MemUnit := Fin 24

/-- The faults by which a core fences itself other than by its watchdog (R599). -/
inductive CoreFaultCause where
  | parity | uncorrectable | overrun | signature
  deriving DecidableEq, Repr

/-- What the ECC of one memory word reported (R435, R436). -/
inductive EccResult where
  | clean | corrected | uncorrectable
  deriving DecidableEq, Repr

/-- The functions that drain (the table of R614). -/
inductive DrainFn where
  | functionMode | containment | glide | chairlift
  | cluster (cl : Fin 12) | link (n : Fin 64) | engine (e : Engine)
  deriving DecidableEq, Repr

/-- What a compiled program records of itself (R10, R629, R476). -/
structure Program where
  hash : BitVec 64
  tm1Functions : Bool
  containment : Bool
  /-- The encoder model, for a program that submits ENCODE jobs. -/
  encModel : Option (BitVec 32)
  /-- The compiled spacing report: the largest core time between yield points, in core cycles. -/
  spacing : Nat
  /-- The largest LIVE_KIB of the program's YIELD commands. -/
  liveKib : Nat
  deriving DecidableEq, Repr

/-- Results of the self-test phases (R660, the objects of R665). -/
structure SelfTest where
  /-- Bits [7:0] failed core sites, bit 8 cluster SRAM or dispatcher failed, per cluster. -/
  clusters : List (BitVec 16)
  /-- H0 to H15 then LP0 to LP7: true when the unit passed. -/
  mems : List Bool
  /-- Bit 0: lane 0 passed. Bit 1: lane 1 passed. Per link. -/
  links : List (BitVec 2)
  /-- VD0 to VD7 then VE0 to VE3: true when the engine passed. -/
  engines : List Bool
  adderFail : Bool
  dispatchFail : Bool
  /-- First phase with a FAIL, 0 when none. -/
  failPhase : BitVec 8
  sfuFail : BitVec 64
  deriving DecidableEq, Repr

/-- Where an Unfoide request comes from (R672): an IPv6 address and UDP port, or an in-band function. -/
inductive Source where
  | net (addr : BitVec 128) (port : BitVec 16)
  | inband (fn : HostFn)
  deriving DecidableEq, Repr

/-- An Unfoide message: its 48-byte header as one 384-bit word (R669) and its payload. -/
structure Msg where
  src : Source
  hdr : BitVec 384
  payload : List (BitVec 8)
  deriving DecidableEq, Repr

/-- The registers of BAR0 that a host reads and that no row of its own covers (R695, R697). -/
inductive Bar0Reg where
  | hostBaseBlock | hostTarget | intCause | ctxCause | diagSel | diagBase
  deriving DecidableEq, Repr

/-- An access to BAR0 that no row of its own covers (R695): a read of a register, a write of one of the diagnostic window's two
registers, a read or a write in the window, a read or a write of the Unfoide window (R688), of the MSI-X table and of the pending bit
array, and a read or a write of an offset that the map does not name. A write of the MSI-X table sets one of the four words of a
vector's entry. -/
inductive Bar0Access where
  | reg (r : Bar0Reg)
  | winRead (off : BitVec 14) (len : Nat)
  | winWrite (off : BitVec 14) (data : List (BitVec 8))
  | msixRead (vector : Fin 66) (word : Fin 4)
  | msixWrite (vector : Fin 66) (word : Fin 4) (v : BitVec 32)
  | pbaRead (word : Fin 4)
  | pbaWrite
  | setDiagSel (v : BitVec 64)
  | setDiagBase (v : BitVec 64)
  | diagRead (off : BitVec 25) (len : Nat)
  | diagWrite
  | unnamedRead
  | unnamedWrite
  deriving DecidableEq, Repr

/-- A host access through a BAR: a read of `len` bytes or a write of bytes through BAR2 (R696), or one of BAR0 (R695). -/
inductive BarAccess where
  | read (len : Nat)
  | write (data : List (BitVec 8))
  | bar0 (a : Bar0Access)
  deriving DecidableEq, Repr

/-- Whether an access is a read, which is answered; a posted write is not (R696). -/
def BarAccess.isRead : BarAccess → Bool
  | .read _ => true
  | .write _ => false
  | .bar0 (.reg _) => true
  | .bar0 (.winRead _ _) => true
  | .bar0 (.msixRead _ _) => true
  | .bar0 (.pbaRead _) => true
  | .bar0 (.winWrite _ _) => false
  | .bar0 (.msixWrite _ _ _) => false
  | .bar0 .pbaWrite => false
  | .bar0 (.diagRead _ _) => true
  | .bar0 .unnamedRead => true
  | .bar0 (.setDiagSel _) => false
  | .bar0 (.setDiagBase _) => false
  | .bar0 .diagWrite => false
  | .bar0 .unnamedWrite => false

/-- A key that the in-band path writes, and the header of that write (R669, R678). -/
structure KeyWrite where
  key : BitVec 256
  hdr : BitVec 384
  deriving DecidableEq, Repr

/-- An offset in the BAR2 of a function (R696, R697). -/
structure BarPlace where
  fn : HostFn
  off : BitVec 64
  deriving DecidableEq, Repr

/-- PCIe AtomicOp requests (R698). -/
inductive AtomicKind where
  | fetchAdd | cas | swap
  deriving DecidableEq, Repr

/-- The identification registers of R694, and the vendor-specific capability (VSEC) by its words of 4 bytes. -/
inductive ConfigReg where
  | vendorId | deviceId | classCode | revisionId | subsystemVendorId | subsystemId
  | vsec (word : Fin 4)
  deriving DecidableEq, Repr

/-- A configuration request with an effect the spec gives: a write (R693, R697) of the number of VFs enabled, a move between D0 and
D3hot, a request for ASPM L1, or a masked bit of an MSI-X vector (R700), which stands in the table that BAR0 holds; or a read of an
identification value (R694). -/
inductive ConfigWrite where
  | numVfs (n : Fin 9)
  | d3hot (on : Bool)
  | aspmL1
  | msixMask (vector : Fin 66) (masked : Bool)
  | read (r : ConfigReg)
  deriving DecidableEq, Repr

/-- The commands: one constructor per row of spec/opcode_table.json, in the table's order.
Each docstring is the row's rule and what the row says of it. -/
inductive Instr where
  /-- END (R130). Ends a task command list; the task commits once every earlier command has finished. -/
  | endList (core : CoreId)
  /-- RING (R129). Writes one ring entry and clears its counters, after waiting until no earlier command still uses the ring. -/
  | ring (core : CoreId)
  /-- WAIT (R132). Holds later commands until a completion tag reaches a value by serial-number arithmetic. -/
  | wait (core : CoreId)
  /-- WAIT_RELEASE (R244). A waiting WAIT proceeds in the core cycle after its tag advances far enough. -/
  | waitRelease (core : CoreId)
  /-- SIGNAL (R132). Increments a completion tag by VALUE, taking effect at the task's commit. -/
  | signal (core : CoreId)
  /-- MOVE (R278). Issues a tensor mover descriptor, at once for a ring destination or at commit otherwise. -/
  | move (core : CoreId)
  /-- YIELD (R475). Marks a yield point with its declared live-state size. -/
  | yieldCmd (core : CoreId)
  /-- MMA_TILE (R133). Runs one core tile on the matrix arrays over a canonical leaf range. -/
  | mmaTile (core : CoreId)
  /-- SCHUSS (R152). Runs one thin product of up to four rows on the Schuss path. -/
  | schuss (core : CoreId)
  /-- ROUTINE (R214). Runs a standalone routine section over rows held in operand SRAM. -/
  | routine (core : CoreId)
  /-- MMA_ISSUE (R120). An MMA issues once all its conditions hold and streams 128 rows into the arrays without stopping. -/
  | mmaIssue (core : CoreId)
  /-- WEIGHT_BANK_FILL (R121). The weight port fills a free weight buffer bank with the next weight slice. -/
  | weightBankFill (core : CoreId) (bank : Fin 2)
  /-- DRAIN (R150). A finished sub-tile drains from its frames into its output slab and frees the frames. -/
  | drain (core : CoreId) (mi : Fin 8) (ni : Fin 4)
  /-- SLAB_DELIVERY (R127). A producer delivers a slab into a ring once there is room and advances FILLED after its last byte. -/
  | slabDelivery (core : CoreId) (ringNo : Fin 16)
  /-- ROUTINE_IMAGE_LOAD (R207). The sequencer loads a named routine image after the previous task commits, refusing a bad image. -/
  | routineImageLoad (core : CoreId)
  /-- ROUTINE_STEP (R219). One step of a routine section places its input rows in registers and runs the section's words. -/
  | routineStep (core : CoreId)
  /-- FINISHING_SECTION (R237). After the last tile section of a deferred group, stacks collapse and the finishing section runs over held sub-tiles. -/
  | finishingSection (core : CoreId)
  /-- YIELD_POINT (R477). At a yield point the core renews its lease, reports to the Split Timer and saves if pre-empting. -/
  | yieldPoint (core : CoreId)
  /-- TASK_SAVE_DONE (R481). After the last saved byte is written the lease reads SAVED and the core takes other work. -/
  | taskSaveDone (core : CoreId)
  /-- WATCHDOG_FAULT (R146). The core watchdog count reaches WATCHDOG and the core reports a watchdog fault and is fenced. -/
  | watchdogFault (core : CoreId)
  /-- CORE_FAULT (R599). A parity, uncorrectable core memory, routine overrun or signature error fences the core. -/
  | coreFault (core : CoreId) (cause : CoreFaultCause)
  /-- TASK_COMMIT (R470). At commit the dispatcher compares LEASE_SEQ and either publishes the task's outputs or suppresses a stale holder. -/
  | taskCommit (core : CoreId)
  /-- COMPLETION_RECORD (R473). After commit-time MOVEs finish, the task's completion record is written and mirrored. -/
  | completionRecord (core : CoreId)
  /-- LEASE_RENEWAL (R467). A holder waiting in a WAIT renews its lease once per millisecond. -/
  | leaseRenewal (core : CoreId)
  /-- LEASE_SCAN (R469). Every 1 µs expired RUNNING leases become EXPIRED and their positions join the re-issue list. -/
  | leaseScan (cl : Fin 12)
  /-- WORK_REQUEST (R464). An idle core asks its cluster dispatcher for work, which serves saved, re-issued or new positions by priority. -/
  | workRequest (core : CoreId)
  /-- TAKE (R462). Relay counter take: advances NEXT below LIMIT or sets EXHAUSTED. -/
  | take (pa : BitVec 52) (wide : Bool)
  /-- FETCH_ADD (R444). Atomic integer add on a scratch word, returning the prior value. -/
  | fetchAdd (pa : BitVec 52) (wide : Bool) (v : BitVec 64)
  /-- CAS (R444). Atomic compare-and-swap on a scratch word, returning the prior value. -/
  | cas (pa : BitVec 52) (wide : Bool) (expected : BitVec 64) (new : BitVec 64)
  /-- MIN_U (R444). Atomic unsigned minimum on a scratch word. -/
  | minU (pa : BitVec 52) (wide : Bool) (v : BitVec 64)
  /-- MAX_U (R444). Atomic unsigned maximum on a scratch word. -/
  | maxU (pa : BitVec 52) (wide : Bool) (v : BitVec 64)
  /-- MIN_S (R444). Atomic signed minimum on a scratch word. -/
  | minS (pa : BitVec 52) (wide : Bool) (v : BitVec 64)
  /-- MAX_S (R444). Atomic signed maximum on a scratch word. -/
  | maxS (pa : BitVec 52) (wide : Bool) (v : BitVec 64)
  /-- LIMIT (R454). A doorbell or LIMIT write raises a queue's LIMIT to submit positions and clears EXHAUSTED. -/
  | limit (fn : HostFn) (cl : Fin 12) (q : Fin 16) (v : BitVec 32)
  /-- QUEUE_CONTEXT (R453). Writing a queue's CONTEXT binds it and resets NEXT, LIMIT and EXHAUSTED unless refused. -/
  | queueContext (cl : Fin 12) (q : Fin 16) (v : BitVec 8)
  /-- PLAN_POSITION (R458). A PLAN position is handed to the device dispatcher, which walks the tiling plan. -/
  | planPosition (cl : Fin 12) (q : Fin 16)
  /-- CHUNK_TAKE (R284). A participating cluster takes its next chunk of cluster tiles when its cluster counter is exhausted. -/
  | chunkTake (cl : Fin 12)
  /-- CLUSTER_FILL (R287). The cluster mover fills the next cluster tile's A and W blocks into free cluster buffers. -/
  | clusterFill (cl : Fin 12)
  /-- REDUCE_POSITION (R92). A REDUCE position registers, checks and translates a reduction, opening or forwarding it. -/
  | reducePosition (cl : Fin 12) (q : Fin 16)
  /-- GROUP_POSITION (R488). A GROUP position opens a Split Timer group once its identifier is free. -/
  | groupPosition (cl : Fin 12) (q : Fin 16)
  /-- ADDER_CONTRIBUTION (R95). A memory-side adder processes one contribution atomically, pairing nodes by occupancy and pending slots. -/
  | adderContribution (ma : Fin 16) (hdr : BitVec 128) (recs : List (BitVec 8))
  /-- LEAF_DONE_MARKER (R97). An adder marks a task's leaf range done and resolves nodes whose leaves are all done. -/
  | leafDoneMarker (ma : Fin 16) (hdr : BitVec 128)
  /-- REDUCTION_CANCEL (R106). The runtime cancels an open reduction and the adder discards its pending values and occupancy bits. -/
  | reductionCancel (ctx : Fin 64) (redId : BitVec 16)
  /-- PREEMPT (R479). Writing PREEMPT makes the context PREEMPTING and stops all takes of it. -/
  | preempt (ctx : Fin 64) (v : Bool)
  /-- SAVE_AREA_COMPLETE (R482). When every task has left the cores the dispatcher writes the save area and the context reads SAVED. -/
  | saveAreaComplete (ctx : Fin 64)
  /-- RESTORE (R484). Writing RESTORE reads the save area and rebinds queues, tags and saved tasks. -/
  | restore (ctx : Fin 64) (v : Bool)
  /-- RESTORE_COMPLETE (R485). Once the save area has been read back the context reads RUNNING. -/
  | restoreComplete (ctx : Fin 64)
  /-- SAVED_TASK_RESUME (R486). A core that takes a saved task restores its rings, slabs and stack and resumes at CMD_INDEX. -/
  | savedTaskResume (core : CoreId)
  /-- FORCE_SWITCH (R498). Writing a group identifier switches that open group with reason FORCED. -/
  | forceSwitch (ctx : Fin 64) (group : BitVec 16)
  /-- PROGRAM_LOAD (R478). Loading a program into an IDLE context makes it RUNNING with its tags at 0. -/
  | programLoad (ctx : Fin 64) (prog : Program)
  /-- COMMIT (R617). Writing COMMIT stops the context's takes and waits for its tasks and home reductions to finish. -/
  | commit (ctx : Fin 64) (v : Bool)
  /-- COMMIT_RECORD (R618). Once the context is quiet the commit record is written locally and sent to both replica peers. -/
  | commitRecord (ctx : Fin 64)
  /-- COMMIT_DONE (R620). A commit completes when local and remote headers are written, or fails and logs COMMIT_FAILED. -/
  | commitDone (ctx : Fin 64)
  /-- RESTORE_COMMIT (R623). Writing a record address applies a commit record to the context after checks. -/
  | restoreCommit (ctx : Fin 64) (addr : BitVec 64)
  /-- NOP (R167). Vector no-operation. -/
  | nop (core : CoreId) (w : BitVec 64)
  /-- FADD (R167). binary32 lane add. -/
  | fadd (core : CoreId) (w : BitVec 64)
  /-- FSUB (R167). binary32 lane subtract. -/
  | fsub (core : CoreId) (w : BitVec 64)
  /-- FMUL (R167). binary32 lane multiply. -/
  | fmul (core : CoreId) (w : BitVec 64)
  /-- FMA (R167). Fused multiply-add with one rounding. -/
  | fma (core : CoreId) (w : BitVec 64)
  /-- FNMA (R167). Fused c minus a times b with one rounding. -/
  | fnma (core : CoreId) (w : BitVec 64)
  /-- FMAX (R168). Larger of two lanes with NaN and signed-zero rules. -/
  | fmax (core : CoreId) (w : BitVec 64)
  /-- FMIN (R168). Smaller of two lanes with NaN and signed-zero rules. -/
  | fmin (core : CoreId) (w : BitVec 64)
  /-- FMAXN (R168). FMAX that propagates NaN. -/
  | fmaxn (core : CoreId) (w : BitVec 64)
  /-- FMINN (R168). FMIN that propagates NaN. -/
  | fminn (core : CoreId) (w : BitVec 64)
  /-- FABS (R167). Clears the sign of each lane. -/
  | fabs (core : CoreId) (w : BitVec 64)
  /-- FNEG (R167). Inverts the sign of each lane. -/
  | fneg (core : CoreId) (w : BitVec 64)
  /-- FRINT (R167). Rounds each lane to the nearest integral value, ties to even. -/
  | frint (core : CoreId) (w : BitVec 64)
  /-- FFLOOR (R167). Rounds each lane down to an integral value. -/
  | ffloor (core : CoreId) (w : BitVec 64)
  /-- FCLAMP (R167). Clamps each lane between two bounds. -/
  | fclamp (core : CoreId) (w : BitVec 64)
  /-- FQUANT (R167). Rounds a lane by an output conversion control byte and widens it back. -/
  | fquant (core : CoreId) (w : BitVec 64)
  /-- HADD (R173). Packed bfloat16 add on 512 half-lanes. -/
  | hadd (core : CoreId) (w : BitVec 64)
  /-- HSUB (R173). Packed bfloat16 subtract. -/
  | hsub (core : CoreId) (w : BitVec 64)
  /-- HMUL (R173). Packed bfloat16 multiply. -/
  | hmul (core : CoreId) (w : BitVec 64)
  /-- HFMA (R173). Packed bfloat16 fused multiply-add. -/
  | hfma (core : CoreId) (w : BitVec 64)
  /-- HFNMA (R173). Packed bfloat16 fused negative multiply-add. -/
  | hfnma (core : CoreId) (w : BitVec 64)
  /-- HMAX (R173). Packed bfloat16 maximum. -/
  | hmax (core : CoreId) (w : BitVec 64)
  /-- HMIN (R173). Packed bfloat16 minimum. -/
  | hmin (core : CoreId) (w : BitVec 64)
  /-- CVTIF (R167). Converts signed int32 lanes to binary32 with RNE. -/
  | cvtif (core : CoreId) (w : BitVec 64)
  /-- CVTFI (R171). Converts binary32 lanes to signed int32 with saturation. -/
  | cvtfi (core : CoreId) (w : BitVec 64)
  /-- IADD (R167). Signed 32-bit add modulo 2^32. -/
  | iadd (core : CoreId) (w : BitVec 64)
  /-- ISUB (R167). Signed 32-bit subtract modulo 2^32. -/
  | isub (core : CoreId) (w : BitVec 64)
  /-- IMUL (R167). Signed 32-bit multiply keeping the low 32 bits. -/
  | imul (core : CoreId) (w : BitVec 64)
  /-- IMAX (R167). Signed 32-bit maximum. -/
  | imax (core : CoreId) (w : BitVec 64)
  /-- IMIN (R167). Signed 32-bit minimum. -/
  | imin (core : CoreId) (w : BitVec 64)
  /-- AND (R167). Bitwise AND of lanes. -/
  | and (core : CoreId) (w : BitVec 64)
  /-- OR (R167). Bitwise OR of lanes. -/
  | or (core : CoreId) (w : BitVec 64)
  /-- XOR (R167). Bitwise XOR of lanes. -/
  | xor (core : CoreId) (w : BitVec 64)
  /-- SHL (R172). Logical shift left by the low 8 bits of b. -/
  | shl (core : CoreId) (w : BitVec 64)
  /-- SHR (R172). Logical shift right by the low 8 bits of b. -/
  | shr (core : CoreId) (w : BitVec 64)
  /-- SAR (R172). Arithmetic shift right by the low 8 bits of b. -/
  | sar (core : CoreId) (w : BitVec 64)
  /-- FCMPEQ (R167). Floating-point equality compare into a mask. -/
  | fcmpeq (core : CoreId) (w : BitVec 64)
  /-- FCMPLT (R167). Floating-point less-than compare into a mask. -/
  | fcmplt (core : CoreId) (w : BitVec 64)
  /-- FCMPLE (R167). Floating-point less-or-equal compare into a mask. -/
  | fcmple (core : CoreId) (w : BitVec 64)
  /-- FCMPUN (R167). Unordered compare, set when either input is NaN. -/
  | fcmpun (core : CoreId) (w : BitVec 64)
  /-- ICMPEQ (R167). Signed integer equality compare into a mask. -/
  | icmpeq (core : CoreId) (w : BitVec 64)
  /-- ICMPLT (R167). Signed integer less-than compare into a mask. -/
  | icmplt (core : CoreId) (w : BitVec 64)
  /-- MAND (R167). Mask AND on all 512 bits. -/
  | mand (core : CoreId) (w : BitVec 64)
  /-- MOR (R167). Mask OR on all 512 bits. -/
  | mor (core : CoreId) (w : BitVec 64)
  /-- MXOR (R167). Mask XOR on all 512 bits. -/
  | mxor (core : CoreId) (w : BitVec 64)
  /-- MANDN (R167). Mask AND-NOT on all 512 bits. -/
  | mandn (core : CoreId) (w : BitVec 64)
  /-- MNOT (R167). Mask NOT on all 512 bits. -/
  | mnot (core : CoreId) (w : BitVec 64)
  /-- MPOP (R167). Counts set mask bits into every lane. -/
  | mpop (core : CoreId) (w : BitVec 64)
  /-- SEL (R169). Selects lanes of a or b by a mask as bit patterns. -/
  | sel (core : CoreId) (w : BitVec 64)
  /-- EXP (R181). Special-function exponential. -/
  | exp (core : CoreId) (w : BitVec 64)
  /-- LOG (R181). Special-function natural logarithm. -/
  | log (core : CoreId) (w : BitVec 64)
  /-- RCP (R181). Special-function reciprocal. -/
  | rcp (core : CoreId) (w : BitVec 64)
  /-- RSQRT (R181). Special-function reciprocal square root. -/
  | rsqrt (core : CoreId) (w : BitVec 64)
  /-- SINR (R181). Special-function sin(2πx). -/
  | sinr (core : CoreId) (w : BitVec 64)
  /-- COSR (R181). Special-function cos(2πx). -/
  | cosr (core : CoreId) (w : BitVec 64)
  /-- RAND (R174). Writes random words of a named stream at logical indices into active lanes. -/
  | rand (core : CoreId) (w : BitVec 64)
  /-- LD (R167). Loads 1,024 contiguous bytes of operand SRAM into a register. -/
  | ld (core : CoreId) (w : BitVec 64)
  /-- ST (R220). Stores 1,024 contiguous bytes under presence masks. -/
  | st (core : CoreId) (w : BitVec 64)
  /-- STQ (R224). Stores a register rounded by an output conversion control byte. -/
  | stq (core : CoreId) (w : BitVec 64)
  /-- LDX (R175). Per-lane indexed 4-byte load with address checks. -/
  | ldx (core : CoreId) (w : BitVec 64)
  /-- STX (R175). Per-lane indexed 4-byte store with address checks. -/
  | stx (core : CoreId) (w : BitVec 64)
  /-- PERM (R170). Permutes lanes from two sources by an index register. -/
  | perm (core : CoreId) (w : BitVec 64)
  /-- SHUF (R167). Rotates, swaps or broadcasts lanes. -/
  | shuf (core : CoreId) (w : BitVec 64)
  /-- PACK (R176). Narrows and packs lanes to a 16-bit or 8-bit format. -/
  | pack (core : CoreId) (w : BitVec 64)
  /-- UNPACK (R176). Widens packed elements to binary32. -/
  | unpack (core : CoreId) (w : BitVec 64)
  /-- LSUM (R177). Canonical tree sum over active lanes into every lane. -/
  | lsum (core : CoreId) (w : BitVec 64)
  /-- LMAX (R167). FMAX over active lanes into every lane. -/
  | lmax (core : CoreId) (w : BitVec 64)
  /-- LMIN (R167). FMIN over active lanes into every lane. -/
  | lmin (core : CoreId) (w : BitVec 64)
  /-- LMAXI (R177). Lowest lane index of the largest active value. -/
  | lmaxi (core : CoreId) (w : BitVec 64)
  /-- SAMPLE (R197). Samples one token per logit row with temperature, top-k and top-p and writes output records. -/
  | sample (core : CoreId) (w : BitVec 64)
  /-- STAT_LEAF (R212). Forms a row-statistic chunk leaf and pushes it onto its tree stack. -/
  | statLeaf (core : CoreId) (w : BitVec 64)
  /-- STAT_GET (R212). Broadcasts one field of the row's statistic into a register. -/
  | statGet (core : CoreId) (w : BitVec 64)
  /-- INDEX (R212). Writes a logical row, logical column or local row index into every lane. -/
  | index (core : CoreId) (w : BitVec 64)
  /-- COPY (R250). Copies a view with one conversion and permutation, including page fills and in-place transposes. -/
  | copy (core : CoreId)
  /-- FILL (R246). Writes a converted constant into every destination element. -/
  | fill (core : CoreId)
  /-- GATHER (R266). Copies source slices selected by indices into destination slices. -/
  | gather (core : CoreId)
  /-- SCATTER (R270). Writes source slices to destination slices selected by indices. -/
  | scatter (core : CoreId)
  /-- SCATTER_ADD (R271). Sends indexed source blocks as canonical contributions to a SUM_F32 reduction at commit. -/
  | scatterAdd (core : CoreId)
  /-- WINDOW (R300). Expands convolution windows into activation slabs in ring space. -/
  | window (core : CoreId)
  /-- WINDOW_T (R300). Expands convolution windows into weight-layout slabs in ring space. -/
  | windowT (core : CoreId)
  /-- PAD (R306). Copies with offsets, resolving outside coordinates by padding modes. -/
  | pad (core : CoreId)
  /-- UP2 (R308). Resamples selected axes up by two, nearest or linear. -/
  | up2 (core : CoreId)
  /-- DOWN2 (R308). Resamples selected axes down by two, nearest or linear. -/
  | down2 (core : CoreId)
  /-- CROP (R313). Samples boxes from a box list by nearest or bilinear crop-and-resize. -/
  | crop (core : CoreId)
  /-- LANDED_READ (R556). A read of a landing region proceeds for a granule once its landed bit is set. -/
  | landedRead (cl : Fin 12) (granule : Fin 262144)
  /-- DELTA_TASK (R357). The mover runs a glide delta pass in FULL or GLIDE mode, deciding and staging blocks. -/
  | deltaTask (core : CoreId)
  /-- GLIDE_ENABLE (R376). Writing Glide ENABLE drains or re-enables glided tasks. -/
  | glideEnable (v : Bool)
  /-- GLIDE_FORCE (R376). A FORCE write during the Glide drain aborts glided tasks in flight. -/
  | glideForce (v : Bool)
  /-- TM1_FUNCTION_MODE (R191). Writing MODE of object 0x2002 starts a drain toward the new special-function mode. -/
  | tm1FunctionMode (v : BitVec 8)
  /-- TM1_FUNCTION_MODE_FORCE (R192). A FORCE write during the mode drain aborts tasks and cancels reductions. -/
  | tm1FunctionModeForce (v : Bool)
  /-- TM1_CONTAINMENT_MODE (R630). Writing MODE of object 0x2001 drains toward the new containment setting. -/
  | tm1ContainmentMode (v : BitVec 8)
  /-- TM1_CONTAINMENT_FORCE (R630). A FORCE write during the containment drain aborts tasks in flight. -/
  | tm1ContainmentForce (v : Bool)
  /-- DRAIN_END (R614). When no work of a draining function remains its state reads DISABLED or the new mode applies. -/
  | drainEnd (f : DrainFn)
  /-- SEED_KEY (R403). Writing a seed key slot in-band stores a key unless an in-flight task uses the slot. -/
  | seedKey (ctx : Fin 64) (slot : Fin 8) (key : BitVec 256)
  /-- STEP_ADVANCE (R405). Adds one to the step counter, saturating and logging STEP_SATURATED at the limit. -/
  | stepAdvance (ctx : Fin 64) (v : Bool)
  /-- STEP_COUNTER (R404). Writes the step counter, serialised against task issue. -/
  | stepCounter (ctx : Fin 64) (v : BitVec 64)
  /-- RING_LIMIT (R518). A Chairlift doorbell raises RING_LIMIT to submit commands. -/
  | ringLimit (v : BitVec 32)
  /-- PUSH (R515). Starts receiving a weight version into an EMPTY entry from links, memory or the host. -/
  | push
  /-- FLIP (R510). Makes a VERIFIED newer version CURRENT and moves the old one on. -/
  | flip
  /-- PIN (R509). Adds COUNT pins to a resident version. -/
  | pin
  /-- UNPIN (R509). Removes COUNT pins from a version and may release its entry. -/
  | unpin
  /-- EVICT (R505). Moves a VERIFIED or PREVIOUS version to DRAINING, ARCHIVING or EMPTY. -/
  | evict
  /-- ABORT (R505). Ends a running transfer, returning its entry or bank to EMPTY or FREE. -/
  | abort
  /-- DEFINE_TABLE (R521). Defines a live table with two banks and an owner. -/
  | defineTable
  /-- LOAD_TABLE (R523). Starts loading the non-current bank of a table. -/
  | loadTable
  /-- FLIP_TABLE (R523). Advances a table's EPOCH so its READY bank becomes CURRENT. -/
  | flipTable
  /-- DROP_TABLE (R523). Frees a table identifier when no bank is referenced or loading. -/
  | dropTable
  /-- MANIFEST_CHECK (R514). The Chairlift checks a transfer's manifest CRC before accepting blocks. -/
  | manifestCheck (t : Fin 4)
  /-- CHAIRLIFT_BLOCK (R516). The Chairlift writes a block, reads it back, seals it or retries, advancing the entry when the last block completes. -/
  | chairliftBlock (t : Fin 4) (blk : BitVec 25)
  /-- ARCHIVE_COPY_DONE (R513). An archive copy completes and the ARCHIVING entry becomes EMPTY. -/
  | archiveCopyDone (slot : Fin 8) (entry : Fin 3)
  /-- CHAIRLIFT_ENABLE (R527). Writing Chairlift ENABLE drains or re-enables the command ring. -/
  | chairliftEnable (v : Bool)
  /-- CHAIRLIFT_FORCE (R527). A FORCE write during the Chairlift drain aborts running transfers. -/
  | chairliftForce (v : Bool)
  /-- FLIT_RECEIVE (R535). A link receiver accepts or discards a flit, returns credits, sends NAK and routes a packet head. -/
  | flitReceive (link : Fin 64) (flit : BitVec 2048)
  /-- NAK (R536). A received NAK makes the sender resend every unacknowledged flit in order. -/
  | nak (link : Fin 64) (ack : BitVec 12)
  /-- REPLAY_TIMEOUT (R536). After 2 µs without ACK progress the sender resends unacknowledged flits, or declares the link DOWN after 16. -/
  | replayTimeout (link : Fin 64)
  /-- PACKET_FORWARD (R548). The router sends a packet head on a link once it holds credits for the whole packet. -/
  | packetForward (link : Fin 64)
  /-- REMOTE_WRITE (R554). A WRITE packet is checked and applied at its destination and counted toward its descriptor. -/
  | remoteWrite
  /-- WRITE_DONE (R555). A WRITE_DONE arrival finishes the sending remote MOVE. -/
  | writeDone
  /-- WRITE_DONE_TIMEOUT (R621). A remote MOVE without WRITE_DONE 20 ms after its last packet completes with FENCED. -/
  | writeDoneTimeout (serial : BitVec 32)
  /-- CONTRIB (R559). The home assembles a contribution from its packets, applies it at the adder and sends CONTRIB_ACK. -/
  | contrib
  /-- CONTRIB_ACK (R559). An acknowledgement reaches the sending task, which counts outcomes and may send LEAF_DONE. -/
  | contribAck
  /-- LEAF_DONE (R559). A LEAF_DONE packet reaches the home and is applied and acknowledged. -/
  | leafDone
  /-- BCAST_BLOCK (R561). A broadcast block is delivered to the matching PUSH and forwarded down the broadcast tree. -/
  | bcastBlock
  /-- BCAST_MANIFEST (R562). A broadcast manifest part is delivered and forwarded; verification begins when complete. -/
  | bcastManifest
  /-- RESEND (R563). The origin answers a RESEND with a routed copy of the block. -/
  | resend
  /-- RESEND_TIMEOUT (R563). After 10 ms missing or unanswered, the Chairlift sends or repeats RESEND, failing the PUSH after three. -/
  | resendTimeout (t : Fin 4)
  /-- HEARTBEAT_SEND (R569). Every HB_PERIOD_US the module sends HEARTBEAT to listed peers and neighbours. -/
  | heartbeatSend
  /-- HEARTBEAT (R569). A heartbeat arrival restarts the peer's silence timer. -/
  | heartbeat
  /-- HEARTBEAT_TIMEOUT (R569). No heartbeat for HB_TIMEOUT_MS logs PEER_SILENT. -/
  | heartbeatTimeout (peer : BitVec 17)
  /-- NEIGHBOUR (R543). A NEIGHBOUR packet records the peer's ID and link, raising CABLING on mismatch. -/
  | neighbour
  /-- LINK_DOWN (R567). On a neighbour's LINK_DOWN the sender reroutes replay-buffer packets after LAST_SEQ. -/
  | linkDown
  /-- LINK_DOWN_TIMEOUT (R567). No LINK_DOWN within 1 ms makes the neighbour lost. -/
  | linkDownTimeout (link : Fin 64)
  /-- LANE_FAILURE (R565). A lane failure makes the link DEGRADED or DOWN and stops router use of a dead link. -/
  | laneFailure (link : Fin 64) (lane : Fin 2)
  /-- RETRAIN_TIMER (R565). Every 100 ms a failed lane or DOWN link tries training again. -/
  | retrainTimer (link : Fin 64)
  /-- LINK_TRAINING_DONE (R565). Training ends and the link or lane becomes UP, DEGRADED or DOWN. -/
  | linkTrainingDone (link : Fin 64) (lane0 : Bool) (lane1 : Bool)
  /-- LINK_ENABLE (R568). Writing a link's ENABLE drains it to DISABLED or starts training. -/
  | linkEnable (link : Fin 64) (v : Bool)
  /-- LINK_FORCE (R568). A FORCE write during a link drain makes it DOWN at once. -/
  | linkForce (link : Fin 64) (v : Bool)
  /-- MODULE_ID (R542). Writing MODULE_ID sets the ID and suspends a route table whose OWN_ID differs. -/
  | moduleId (v : BitVec 32)
  /-- VIDEO_RING_LIMIT (R575). A video doorbell raises a video ring's LIMIT to submit jobs. -/
  | videoRingLimit (fn : HostFn) (ringNo : Fin 16) (v : BitVec 32)
  /-- VIDEO_JOB_START (R578). An idle ACTIVE engine of the stream's class starts the next ready job and loads its stream context. -/
  | videoJobStart (cls : VideoClass)
  /-- OPEN_STREAM (R577). Opens a CLOSED stream with its pool and coding settings. -/
  | openStream (eng : Engine)
  /-- CLOSE_STREAM (R577). Closes a stream and frees its pool. -/
  | closeStream (eng : Engine)
  /-- RESET_STREAM (R577). Marks every buffer UNUSED and returns the stream to OPEN. -/
  | resetStream (eng : Engine)
  /-- DECODE (R579). Decodes a bitstream chunk into tensor and raw frames. -/
  | decode (eng : Engine)
  /-- ENCODE (R584). Encodes tensor or raw frames into a bitstream chunk. -/
  | encode (eng : Engine)
  /-- VIDEO_JOB_COMPLETE (R593). A video job ends, writing back its stream context, tag and completion record. -/
  | videoJobComplete (eng : Engine)
  /-- VIDEO_ENGINE_FAULT (R594). A parity or watchdog fault marks the engine FAILED and restarts the job elsewhere. -/
  | videoEngineFault (eng : Engine)
  /-- VIDEO_ENGINE_ENABLE (R595). Writing an engine's ENABLE drains it to DISABLED or returns it to ACTIVE. -/
  | videoEngineEnable (eng : Engine) (v : Bool)
  /-- VIDEO_ENGINE_FORCE (R595). A FORCE write during an engine drain aborts its job. -/
  | videoEngineForce (eng : Engine) (v : Bool)
  /-- VIDEO_ENGINE_RESET (R596). Writing RESET resets a DISABLED or FAILED engine and starts its known-answer test. -/
  | videoEngineReset (eng : Engine) (v : Bool)
  /-- VIDEO_ENGINE_TEST_DONE (R596). The engine test ends and the engine reads DISABLED or FAILED. -/
  | videoEngineTestDone (eng : Engine) (pass : Bool)
  /-- FENCE (R599). Writing FENCE fences the core. -/
  | fence (core : CoreId) (v : Bool)
  /-- UNFENCE (R602). Writing UNFENCE starts the self-tests of a fenced core. -/
  | unfence (core : CoreId) (v : Bool)
  /-- UNFENCE_TEST_DONE (R602). The core returns to IDLE when its tests pass, or stays fenced with cause 7. -/
  | unfenceTestDone (core : CoreId) (pass : Bool)
  /-- CLUSTER_ENABLE (R612). Writing a cluster's ENABLE drains it or returns it to ACTIVE. -/
  | clusterEnable (cl : Fin 12) (v : Bool)
  /-- CLUSTER_FORCE (R608). A FORCE write during a cluster drain fences its cores and makes it DISABLED. -/
  | clusterForce (cl : Fin 12) (v : Bool)
  /-- QUIESCE (R609). Writing QUIESCE stops the cluster's cores, expires its leases and fences requests to it. -/
  | quiesce (cl : Fin 12) (v : Bool)
  /-- RELEASE (R612). Clears a quiesced cluster's re-issue lists, saved tasks and leases. -/
  | release (cl : Fin 12) (v : Bool)
  /-- CLUSTER_RESET (R612). Resets a quiesced cluster and starts its self-test. -/
  | clusterReset (cl : Fin 12) (v : Bool)
  /-- CLUSTER_RESET_DONE (R612). The cluster self-test ends and the cluster reads DISABLED or FAILED. -/
  | clusterResetDone (cl : Fin 12) (pass : Bool)
  /-- CLUSTER_POWER (R612). Writing POWER turns a quiesced cluster OFF or powers it up. -/
  | clusterPower (cl : Fin 12) (v : Bool)
  /-- CLUSTER_CONTROL_FAULT (R613). A control-region error quiesces the cluster and pre-empts every running context. -/
  | clusterControlFault (cl : Fin 12) (cause : BitVec 32)
  /-- LOCKSTEP_MISMATCH (R627). A lockstep dispatcher mismatch is handled as a cluster fault or module loss. -/
  | lockstepMismatch (unit : Option (Fin 12))
  /-- RETIRE_PA (R605). Writing RETIRE_PA retires a block with a POISONED entry. -/
  | retirePa (v : BitVec 64)
  /-- GROOMER_SCRUB (R437). The Groomer reads each memory word once per period and writes back corrections. -/
  | groomerScrub (unit : MemUnit) (word : BitVec 40) (ecc : EccResult)
  /-- CACHE_MIB (R440). Writing CACHE_MIB resizes the cluster read cache unless tasks are issued. -/
  | cacheMib (cl : Fin 12) (v : BitVec 8)
  /-- STANDBY_POWER_UP (R659). Standby power comes up, straps are sampled and Patrol boots its image. -/
  | standbyPowerUp (straps : BitVec 20) (imgA : Bool) (imgB : Bool)
  /-- POWER_UP (R635). The main rails ramp in order toward the Start Gate. -/
  | powerUp
  /-- RAIL_FAULT (R635). A rail missing its window sends the module to STANDBY or Lodge. -/
  | railFault (rail : Fin 8)
  /-- START_GATE (R652). After PLL lock the gate releases every divider and FIFO on one root edge. -/
  | startGate
  /-- SELFTEST_DONE (R660). Self-test ends and the module enters READY or Lodge. -/
  | selftestDone (r : SelfTest)
  /-- ACCEPT_REDUCED (R663). A service write leaves Lodge with failed cores fenced. -/
  | acceptReduced (v : Bool)
  /-- RETEST (R664). A service write restarts power-up and every self-test phase. -/
  | retest (v : Bool)
  /-- GOVERNOR_LOOP (R638). Every 1 ms the governor moves POWER_CAP_MHZ by one Snowplow step. -/
  | governorLoop (watts : BitVec 16)
  /-- POWER_CLAMP (R640). Input above 2,200 W over 100 µs drops the core clock to 800 MHz. -/
  | powerClamp (watts : BitVec 16)
  /-- THERMAL_LOOP (R641). Every 100 ms Patrol moves THERMAL_CAP_MHZ from the sensors. -/
  | thermalLoop (tj : List Int) (th : List Int)
  /-- THERMAL_TRIP (R642). A sensor above its trip value holds the module, then resets the main domain. -/
  | thermalTrip (sensor : Fin 50) (reading : Int)
  /-- SAG_WARNING (R646). Input below the warning threshold holds compute, throttles and starts the snapshot. -/
  | sagWarning (volts : BitVec 16)
  /-- SNAPSHOT_WRITTEN (R649). The MRAM snapshot header is written and SNAP_VALID reads 1. -/
  | snapshotWritten
  /-- SAG_RECOVERED (R650). Input back above 700 V for 100 ms releases the hold. -/
  | sagRecovered
  /-- SAG_RESET (R651). Input below the reset threshold resets the main domain to STANDBY. -/
  | sagReset
  /-- POWER_CTRL (R658). Writing POWER_CTRL powers the main domain up or down. -/
  | powerCtrl (v : Bool)
  /-- TIME_NS (R656). Writing TIME_NS sets module time unless a context runs. -/
  | timeNs (v : BitVec 64)
  /-- SAG_WARN_V (R644). Writes the warning threshold, refused when the energy rule fails. -/
  | sagWarnV (v : BitVec 16)
  /-- SAG_RESET_V (R644). Writes the reset threshold, refused when the energy rule fails. -/
  | sagResetV (v : BitVec 16)
  /-- SNAP_CLEAR (R649). Writing SNAP_CLEAR invalidates the snapshot. -/
  | snapClear (v : Bool)
  /-- READ (R670). Unfoide request that returns one object value. -/
  | read (m : Msg)
  /-- WRITE (R673). Unfoide request that writes one object value, covering objects without a row of their own. -/
  | write (m : Msg)
  /-- READ_SEG (R670). Unfoide request that returns a segment of a large object. -/
  | readSeg (m : Msg)
  /-- WRITE_SEG (R670). Unfoide request that writes a segment of a large object. -/
  | writeSeg (m : Msg)
  /-- DISCOVER (R670). Unfoide request that returns the module's identity and state. -/
  | discover (m : Msg)
  /-- LIST (R670). Unfoide request that lists dictionary entries from a given index. -/
  | list (m : Msg)
  /-- DOORBELL (R688). An in-band DOORBELL write submits the window's request unless one is queued. -/
  | doorbell (fn : HostFn) (len : BitVec 32)
  /-- RESP_LEN (R688). Reading RESP_LEN returns the response length and sets the window STATE to idle. -/
  | respLen (fn : HostFn)
  /-- PLCA_NO_BEACON (R667). No beacon for 4 ms makes a follower fall back to CSMA/CD. -/
  | plcaNoBeacon
  /-- IMAGE_VERIFIED (R690). After the image length is written Patrol verifies it and FW_STATE reads VALID or INVALID. -/
  | imageVerified
  /-- ACTIVATE (R691). Writing ACTIVATE restarts Patrol into the target image. -/
  | activate (v : Bool)
  /-- PATROL_RESTART_DONE (R692). Patrol finishes its restart, logs held events and FW_UPDATED. -/
  | patrolRestartDone
  /-- OPERATOR_KEY (R678). Sets the operator key in-band and resets its authentication counter. -/
  | operatorKey (key : KeyWrite)
  /-- SERVICE_KEY (R678). Sets or changes the service key in-band and resets its authentication counter. -/
  | serviceKey (key : KeyWrite)
  /-- CLEAR (R450). Writing 1 to a CLEAR object clears its group of counters. -/
  | clear (index : BitVec 16) (v : Bool)
  /-- PERST (R702). PERST# or hot reset returns the endpoint to its power-on configuration. -/
  | perst
  /-- FLR_PF (R702). Function level reset of the PF resets it and every VF without retraining. -/
  | flrPf
  /-- FLR_VF (R702). Function level reset of a VF resets its configuration, MSI-X table and window. -/
  | flrVf (vf : Fin 8)
  /-- BAR2_ACCESS (R696). A host read or write through BAR2 reaches physical or VF-translated memory or is refused. -/
  | bar2Access (fn : HostFn) (off : BitVec 64) (acc : BarAccess)
  /-- ATOMICOP (R698). A PCIe FetchAdd or CAS to cluster scratch executes as a cluster atomic. -/
  | atomicOp (off : BarPlace) (wide : Bool) (op : AtomicKind) (a : BitVec 64) (b : BitVec 64)
  /-- HOST_WINDOW_WRITE (R699). A write reaching byte 4,095 of a Chairlift host window slot hands the block to the transfer. -/
  | hostWindowWrite (off : BitVec 24) (data : List (BitVec 8))
  /-- HOST_TARGET (R699). Writing HOST_TARGET or HOST_BASE_BLOCK retargets the Chairlift host window. -/
  | hostTarget (base : Bool) (v : BitVec 64)
  /-- INT_CAUSE (R700). A W1C write to INT_CAUSE or CTX_CAUSE clears interrupt bits. -/
  | intCause (fn : HostFn) (ctxReg : Bool) (v : BitVec 64)
  /-- STANDBY_POWER_LOSS (R651). The input falls below 400 V and the standby domain, Patrol and its state are lost. -/
  | standbyPowerLoss
  /-- THERMAL_TRIP_RESET (R642). 5 ms after a thermal trip the main domain is reset and the module goes to STANDBY. -/
  | thermalTripReset
  /-- PLCA_BEACON (R667). A PLCA beacon arriving at a follower in CSMA/CD fallback returns it to PLCA. -/
  | plcaBeacon
  /-- PCIE_LINK_TRAINING_DONE (R661). The PCIe endpoint's link training ends and LINK_STATE, rate and width are set, enabling configuration and BAR service. -/
  | pcieLinkTrainingDone (up : Bool) (gts : BitVec 8) (width : BitVec 8)
  /-- MODPRS (R706). The rack pulls MODPRS# low or releases it and the link's CABLE_PRESENT object changes. -/
  | modprs (link : Fin 64) (low : Bool)
  /-- PROGRAM_UNLOAD (R478). Unloading a context's program returns it to IDLE and releases its references. -/
  | programUnload (ctx : Fin 64)
  /-- CONFIGURATION_REQUEST (R693). A host configuration write, such as enabling VFs or entering D3hot, changes the endpoint's function state. -/
  | configurationRequest (fn : HostFn) (w : ConfigWrite)
  deriving DecidableEq, Repr

end Sys2Proof
end

