-- ==== Sys2Proof/Decode.lean ====
section
/-! DEFINITION. The commands that a word of the opcode table spells. -/

namespace Sys2Proof

/-- No row of spec/opcode_table.json gives bits: a command of this block is an event or a register access and no
word spells it, so no word decodes to a command. -/
def decodeTableWord (_nbits _w : Nat) : Option Instr := none

end Sys2Proof
end

