-- ==== Sys2Proof/Machine/Map.lean ====
section
/-! DEFINITION. The operations on sparse stores: `nget` reads a key, `nset` writes one and keeps the
canonical form (keys strictly rising, no entry equal to the default), `nwf` says the form. -/

namespace Sys2Proof.Machine

/-- The value at a key: the entry's, or the default where the key is unlisted. -/
def nget {α : Type} (d : α) : NMap α → Nat → α
  | [], _ => d
  | (k', v) :: r, k => if k' = k then v else nget d r k

/-- Insert or replace an entry in a store with rising keys. -/
def nput {α : Type} (k : Nat) (v : α) : NMap α → NMap α
  | [] => [(k, v)]
  | (k', v') :: r =>
    if k < k' then (k, v) :: (k', v') :: r
    else if k = k' then (k, v) :: r
    else (k', v') :: nput k v r

/-- Remove a key. -/
def ndel {α : Type} (k : Nat) : NMap α → NMap α
  | [] => []
  | (k', v') :: r => if k = k' then ndel k r else (k', v') :: ndel k r

/-- Write a key: an entry that would equal the default is not listed. -/
def nset {α : Type} [DecidableEq α] (d : α) (m : NMap α) (k : Nat) (v : α) : NMap α :=
  if v = d then ndel k m else nput k v m

/-- Change the value at a key. -/
def nmod {α : Type} [DecidableEq α] (d : α) (m : NMap α) (k : Nat) (f : α → α) : NMap α :=
  nset d m k (f (nget d m k))

/-- The keys rise strictly from above `lo`, and no entry equals the default. -/
def nwfFrom {α : Type} [DecidableEq α] (d : α) : Option Nat → NMap α → Bool
  | _, [] => true
  | lo, (k, v) :: r =>
    (match lo with
      | none => true
      | some l => decide (l < k)) && decide (v ≠ d) && nwfFrom d (some k) r

/-- The canonical form of a store. -/
def nwf {α : Type} [DecidableEq α] (d : α) (m : NMap α) : Bool := nwfFrom d none m

/-- Remove every key for which `p` holds. -/
def nfilterOut {α : Type} (p : Nat → Bool) (m : NMap α) : NMap α := m.filter (fun kv => !p kv.1)

/-- Write consecutive keys from `k`. -/
def nsetRun {α : Type} [DecidableEq α] (d : α) (m : NMap α) (k : Nat) : List α → NMap α
  | [] => m
  | v :: vs => nsetRun d (nset d m k v) (k + 1) vs

/-- Read `n` consecutive keys from `k`. -/
def ngetRun {α : Type} (d : α) (m : NMap α) (k n : Nat) : List α :=
  (List.range n).map (fun i => nget d m (k + i))

end Sys2Proof.Machine
end

