-- ==== Sys2Proof/Machine/Bits.lean ====
section
/-! DEFINITION. Bit fields, byte order and sign: every structure of the spec is read as one little-endian
number (R16) and its fields are taken out of it by `fld`. -/

namespace Sys2Proof.Machine

/-- Bits [hi:lo] of a number. -/
def fld (w hi lo : Nat) : Nat := (w >>> lo) % 2 ^ (hi + 1 - lo)

/-- One bit of a number. -/
def bitAt (w i : Nat) : Bool := (w >>> i) % 2 = 1

/-- A Boolean as a bit. -/
def b2n (b : Bool) : Nat := if b then 1 else 0

/-- Place `v`, cut to its width, at bits [hi:lo] of a word that is zero there. -/
def at' (v hi lo : Nat) : Nat := (v % 2 ^ (hi + 1 - lo)) <<< lo

/-- The little-endian number of a list of bytes (R16). -/
def leNat : List Byte → Nat
  | [] => 0
  | b :: r => b.toNat + 256 * leNat r

/-- `n` little-endian bytes of a number (R16). -/
def toLE : Nat → Nat → List Byte
  | 0, _ => []
  | n + 1, v => BitVec.ofNat 8 v :: toLE n (v / 256)

/-- An `n`-bit two's complement number. -/
def sx (n v : Nat) : Int :=
  if v % 2 ^ n < 2 ^ (n - 1) then (v % 2 ^ n : Nat) else (v % 2 ^ n : Nat) - (2 ^ n : Nat)

/-- The `n`-bit two's complement pattern of an integer. -/
def wrapInt (n : Nat) (v : Int) : Nat := (v % (2 ^ n : Nat)).toNat

/-- Ceiling of a division. -/
def cdiv (a b : Nat) : Nat := (a + b - 1) / b

/-- `n` rounded up to a multiple of `k`. -/
def roundUp (n k : Nat) : Nat := cdiv n k * k

/-- The least c with n ≤ 2^c. -/
def clog2 (n : Nat) : Nat := if n ≤ 1 then 0 else (n - 1).log2 + 1

/-- Whether a number is a power of two. -/
def isPow2 (n : Nat) : Bool := n ≠ 0 && 2 ^ n.log2 = n

/-- One step of serial-number order on 32-bit words: whether `a` has reached `b` (the difference a - b, taken
modulo 2^32, is below 2^31). -/
def serialGe (a b : Nat) : Bool := (a + 2 ^ 32 - b % 2 ^ 32) % 2 ^ 32 < 2 ^ 31

/-- Cut a list into pieces of `n`. -/
def chunks {α : Type} (n : Nat) (l : List α) : List (List α) :=
  if n = 0 then [] else
    (List.range (cdiv l.length n)).map (fun i => (l.drop (i * n)).take n)

/-- Add to a counter that stops at 0xFFFF. -/
def satAdd16 (c n : Nat) : Nat := min 0xFFFF (c + n)

/-- Add to a counter of 48 bits that wraps and whose bit 63 is a sticky overflow flag (R105, R157). -/
def wrapAdd48 (c n : Nat) : Nat :=
  let lo := c % 2 ^ 48 + n
  lo % 2 ^ 48 + (if lo ≥ 2 ^ 48 ∨ c ≥ 2 ^ 63 then 2 ^ 63 else 0)

/-- The element of a list at an index, or a default. -/
def nth {α : Type} (d : α) (l : List α) (i : Nat) : α := l.getD i d

/-- Replace the element of a list at an index. -/
def setNth {α : Type} (l : List α) (i : Nat) (v : α) : List α := l.set i v

/-- Change the element of a list at an index. -/
def modNth {α : Type} (l : List α) (i : Nat) (f : α → α) : List α := l.modify i f

end Sys2Proof.Machine
end

