-- ==== Sys2Proof/Machine/ChaCha.lean ====
section
/-! DEFINITION. The random bits of the block (chapter "Random bits, seeds and replay"): the ChaCha8 block
function, streams and logical indices. -/

namespace Sys2Proof.Machine

/-- A quarter round of RFC 8439 on words a, b, c, d of a 16-word state. -/
def quarter (st : List W32) (a b c d : Nat) : List W32 :=
  let x := nth 0 st a
  let y := nth 0 st b
  let z := nth 0 st c
  let w := nth 0 st d
  let x := x + y
  let w := (w ^^^ x).rotateLeft 16
  let z := z + w
  let y := (y ^^^ z).rotateLeft 12
  let x := x + y
  let w := (w ^^^ x).rotateLeft 8
  let z := z + w
  let y := (y ^^^ z).rotateLeft 7
  setNth (setNth (setNth (setNth st a x) b y) c z) d w

/-- A column round and a diagonal round. -/
def doubleRound (st : List W32) : List W32 :=
  let st := quarter st 0 4 8 12
  let st := quarter st 1 5 9 13
  let st := quarter st 2 6 10 14
  let st := quarter st 3 7 11 15
  let st := quarter st 0 5 10 15
  let st := quarter st 1 6 11 12
  let st := quarter st 2 7 8 13
  quarter st 3 4 9 14

/-- ChaCha with 8 rounds: four double rounds, then the input state added word by word (R380). -/
def chacha8 (st : List W32) : List W32 :=
  let r := doubleRound (doubleRound (doubleRound (doubleRound st)))
  (r.zip st).map (fun p => p.1 + p.2)

/-- Seed key word `j` (R381). -/
def keyWord (key : BitVec 256) (j : Nat) : W32 := BitVec.ofNat 32 (key.toNat >>> (32 * j))

/-- The input state of a block (R381). -/
def rngState (key : BitVec 256) (step : Nat) (stream block : Nat) : List W32 :=
  [0x61707865#32, 0x3320646E#32, 0x79622D32#32, 0x6B206574#32] ++
  (List.range 7).map (keyWord key) ++
  [keyWord key 7 ^^^ BitVec.ofNat 32 (step >>> 32), BitVec.ofNat 32 block,
   BitVec.ofNat 32 (block >>> 32), BitVec.ofNat 32 stream, BitVec.ofNat 32 step]

/-- The key check of a seed key: word 0 of the block with zero in words 12 to 15 (R401). -/
def keyCheck (key : BitVec 256) : W32 :=
  nth 0 (chacha8 ([0x61707865#32, 0x3320646E#32, 0x79622D32#32, 0x6B206574#32] ++
    (List.range 8).map (keyWord key) ++ [0#32, 0#32, 0#32, 0#32])) 0

/-- Bits per element of a purpose code, 0 for a reserved one (R385). -/
def purposeBits (p : Nat) : Nat := nth 0 [0, 4, 16, 32, 32, 32, 32, 32] p

/-- The stream identifier of a tensor and a purpose (R384). -/
def streamId (tensor purpose : Nat) : Nat := tensor % 2 ^ 24 * 256 + purpose

/-- Element `e` of a stream: the bits of the stream's purpose at its logical index (R389 to R391). -/
def randElem (key : BitVec 256) (step stream e : Nat) : Nat :=
  let b := purposeBits (stream % 256)
  if b = 0 then 0 else
    let e := e % 2 ^ 64
    let per := 512 / b
    let blk := chacha8 (rngState key step stream (e / per))
    let at0 := b * (e % per)
    fld (nth 0#32 blk (at0 / 32)).toNat (at0 % 32 + b - 1) (at0 % 32)

/-- The four stochastic-rounding bits of an element of a tensor (R48). -/
def srBits (key : BitVec 256) (step tensor e : Nat) : Nat := randElem key step (streamId tensor 1) e

end Sys2Proof.Machine
end

