-- ==== Sys2Proof/Machine/Flags.lean ====
section
/-! DEFINITION. The arithmetic events of a task (R57): the four counters and how they add up. -/

namespace Sys2Proof.Machine

/-- Counts of the four arithmetic events (R57). Inside one operation they are exact; the task's counters
saturate at 0xFFFF. -/
structure Ev where
  inexact : Nat
  overflow : Nat
  nanCreated : Nat
  saturated : Nat
  deriving DecidableEq, Repr

/-- No event. -/
def Ev.none : Ev := ⟨0, 0, 0, 0⟩

/-- Sum of two counts. -/
def Ev.plus (a b : Ev) : Ev :=
  ⟨a.inexact + b.inexact, a.overflow + b.overflow, a.nanCreated + b.nanCreated,
   a.saturated + b.saturated⟩

/-- Sum of a list of counts. -/
def Ev.sum (l : List Ev) : Ev := l.foldl Ev.plus Ev.none

/-- One INEXACT event when `b` holds. -/
def Ev.inx (b : Bool) : Ev := ⟨b2n b, 0, 0, 0⟩

/-- A result that became infinity: OVERFLOW, and INEXACT with it (R57). -/
def Ev.ovf : Ev := ⟨1, 1, 0, 0⟩

/-- A NaN made by an operation from inputs that are no NaN (R55). It counts no INEXACT, while a NaN made by a conversion counts both: R57
lets INEXACT include the results counted below it and defines INEXACT by rounding, which an operation's NaN has not undergone (DESIGN
CHOICE, log 131). -/
def Ev.nan : Ev := ⟨0, 0, 1, 0⟩

/-- A NaN made by a conversion of a number: NAN_CREATED, and INEXACT with it (R45, R57). -/
def Ev.nanConv : Ev := ⟨1, 0, 1, 0⟩

/-- A result clamped to the largest finite value: SATURATED, and INEXACT with it (R57). -/
def Ev.clamp : Ev := ⟨1, 0, 0, 1⟩

/-- Add events to a task's counters, each of which saturates at 0xFFFF (R57). -/
def Ev.count (c e : Ev) : Ev :=
  ⟨satAdd16 c.inexact e.inexact, satAdd16 c.overflow e.overflow,
   satAdd16 c.nanCreated e.nanCreated, satAdd16 c.saturated e.saturated⟩

end Sys2Proof.Machine
end

