-- ==== Sys2Proof/Machine/Float.lean ====
section
/-! DEFINITION. Number formats, conversions and rounding (chapter "Number formats, conversions and
rounding", R22 to R69). A value is held exactly; a result is one rounding of it into a format. -/

namespace Sys2Proof.Machine

/-- An exact value: NaN, an infinity, or (-1)^neg · m · 2^e. -/
inductive FVal where
  | nan
  | inf (neg : Bool)
  | fin (neg : Bool) (m : Nat) (e : Int)
  deriving DecidableEq, Repr

/-- Plus zero. -/
def FVal.zero : FVal := .fin false 0 0

def FVal.isNan : FVal → Bool
  | .nan => true
  | _ => false

def FVal.isInf : FVal → Bool
  | .inf _ => true
  | _ => false

def FVal.isZero : FVal → Bool
  | .fin _ 0 _ => true
  | _ => false

def FVal.isFinite : FVal → Bool
  | .fin _ _ _ => true
  | _ => false

def FVal.neg : FVal → FVal
  | .nan => .nan
  | .inf s => .inf (!s)
  | .fin s m e => .fin (!s) m e

def FVal.abs : FVal → FVal
  | .nan => .nan
  | .inf _ => .inf false
  | .fin _ m e => .fin false m e

/-- The sign bit of a value; a NaN has none (R24). -/
def FVal.sign : FVal → Bool
  | .nan => false
  | .inf s => s
  | .fin s _ _ => s

/-- An integer as an exact value. -/
def FVal.ofInt (i : Int) : FVal := .fin (decide (i < 0)) i.natAbs 0

/-- Exact sum. Opposite infinities give NaN (R55); an exact zero sum is +0 unless both are -0. -/
def FVal.add : FVal → FVal → FVal
  | .nan, _ => .nan
  | _, .nan => .nan
  | .inf a, .inf b => if a = b then .inf a else .nan
  | .inf a, _ => .inf a
  | _, .inf b => .inf b
  | .fin sa ma ea, .fin sb mb eb =>
    if ma = 0 ∧ mb = 0 then .fin (sa && sb) 0 0
    else
      let e := min ea eb
      let x : Int := (ma <<< (ea - e).toNat : Nat)
      let y : Int := (mb <<< (eb - e).toNat : Nat)
      let s := (if sa then -x else x) + (if sb then -y else y)
      if s = 0 then .fin false 0 0 else .fin (decide (s < 0)) s.natAbs e

/-- Exact difference. -/
def FVal.sub (a b : FVal) : FVal := a.add b.neg

/-- Exact product. Zero times infinity gives NaN (R55). -/
def FVal.mul : FVal → FVal → FVal
  | .nan, _ => .nan
  | _, .nan => .nan
  | .inf a, .inf b => .inf (a ^^ b)
  | .inf a, .fin sb mb _ => if mb = 0 then .nan else .inf (a ^^ sb)
  | .fin sa ma _, .inf b => if ma = 0 then .nan else .inf (sa ^^ b)
  | .fin sa ma ea, .fin sb mb eb => .fin (sa ^^ sb) (ma * mb) (ea + eb)

/-- Multiply by 2^k, exactly. -/
def FVal.scale (k : Int) : FVal → FVal
  | .fin s m e => .fin s m (e + k)
  | v => v

/-- The order of two values that are no NaN: whether `a` < `b`. Zeros are equal. -/
def FVal.lt : FVal → FVal → Bool
  | .nan, _ => false
  | _, .nan => false
  | .inf a, .inf b => a && !b
  | .inf a, .fin _ _ _ => a
  | .fin _ _ _, .inf b => !b
  | .fin sa ma ea, .fin sb mb eb =>
    let e := min ea eb
    let x : Int := (ma <<< (ea - e).toNat : Nat)
    let y : Int := (mb <<< (eb - e).toNat : Nat)
    decide ((if sa then -x else x) < (if sb then -y else y))

/-- Equality of two values that are no NaN; -0 equals +0. -/
def FVal.eq (a b : FVal) : Bool :=
  !a.isNan && !b.isNan && !a.lt b && !b.lt a

/-- floor(log2 |v|) of a finite nonzero value. -/
def FVal.exp2 : FVal → Int
  | .fin _ m e => e + m.log2
  | _ => 0

/-- Rounding modes (R43, R47, R50). `sr r` draws the four random bits `r` of the element. -/
inductive Rnd where
  | rne
  | rtz
  | sr (r : Nat)
  | rto
  deriving DecidableEq, Repr

/-- Round the magnitude m · 2^e to a grid of `fw` fraction bits whose quantum is never below 2^qmin
(R43, R44, R47), with the exponent unbounded above (R45): the significand, its quantum's exponent and
whether the value changed. -/
def gridRound (fw : Nat) (qmin : Int) (rnd : Rnd) (m : Nat) (e : Int) : Nat × Int × Bool :=
  if m = 0 then (0, qmin, false) else
    let q := max qmin (e + m.log2 - fw)
    if q ≤ e then (m <<< (e - q).toNat, q, false)
    else
      let s := (q - e).toNat
      let k := m >>> s
      let rem := m % 2 ^ s
      let up : Bool :=
        match rnd with
        | .rne => decide (2 * rem > 2 ^ s) || (decide (2 * rem = 2 ^ s) && k % 2 = 1)
        | .rtz => false
        | .sr r => decide ((rem <<< 4) >>> s + r ≥ 16)
        | .rto => decide (rem ≠ 0) && k % 2 = 0
      (if up then k + 1 else k, q, decide (rem ≠ 0))

/-- What the all-ones exponent of a format holds (R23). -/
inductive FKind where
  | ieee | e4m3 | finite
  deriving DecidableEq, Repr

/-- A floating-point element encoding: exponent width, fraction width, bias, kind (R23). -/
structure FFmt where
  ew : Nat
  fw : Nat
  bias : Nat
  kind : FKind
  deriving DecidableEq, Repr

def fmtF32 : FFmt := ⟨8, 23, 127, .ieee⟩
def fmtF16 : FFmt := ⟨5, 10, 15, .ieee⟩
def fmtBf16 : FFmt := ⟨8, 7, 127, .ieee⟩
def fmtE4M3 : FFmt := ⟨4, 3, 7, .e4m3⟩
def fmtE5M2 : FFmt := ⟨5, 2, 15, .ieee⟩
def fmtE2M3 : FFmt := ⟨2, 3, 1, .finite⟩
def fmtE3M2 : FFmt := ⟨3, 2, 3, .finite⟩
def fmtE2M1 : FFmt := ⟨2, 1, 1, .finite⟩

/-- The exponent of the subnormal quantum. -/
def FFmt.qmin (f : FFmt) : Int := 1 - (f.bias : Int) - (f.fw : Int)

/-- The code of the largest finite magnitude (R23). -/
def FFmt.maxCode (f : FFmt) : Nat :=
  match f.kind with
  | .ieee => ((2 ^ f.ew - 1) <<< f.fw) - 1
  | .e4m3 => 2 ^ (f.ew + f.fw) - 2
  | .finite => 2 ^ (f.ew + f.fw) - 1

/-- The sign bit's place. -/
def FFmt.signBit (f : FFmt) : Nat := 2 ^ (f.ew + f.fw)

/-- The code of plus infinity, for a format that has one. -/
def FFmt.infCode (f : FFmt) : Nat := (2 ^ f.ew - 1) <<< f.fw

/-- The canonical NaN of a format that has NaN (R23, R24). -/
def FFmt.nanCode (f : FFmt) : Nat :=
  match f.kind with
  | .ieee => f.infCode + 2 ^ (f.fw - 1)
  | .e4m3 => 2 ^ (f.ew + f.fw) - 1
  | .finite => 0

/-- The value of a code (R23, R24). -/
def FFmt.decode (f : FFmt) (c : Nat) : FVal :=
  let s := bitAt c (f.ew + f.fw)
  let e := fld c (f.ew + f.fw - 1) f.fw
  let t := c % 2 ^ f.fw
  if f.kind = .ieee ∧ e = 2 ^ f.ew - 1 then (if t = 0 then .inf s else .nan)
  else if f.kind = .e4m3 ∧ e = 2 ^ f.ew - 1 ∧ t = 2 ^ f.fw - 1 then .nan
  else if e = 0 then .fin s t f.qmin
  else .fin s (2 ^ f.fw + t) (f.qmin + (e - 1 : Nat))

/-- The code of a magnitude on the format's grid: quantum exponent `q`, significand `k`. -/
def FFmt.gridCode (f : FFmt) (k : Nat) (q : Int) : Nat := (q - f.qmin).toNat * 2 ^ f.fw + k

/-- Sign and magnitude code together. -/
def FFmt.withSign (f : FFmt) (neg : Bool) (c : Nat) : Nat := if neg then f.signBit + c else c

/-- Round a value into a format, once, with the events of R57 (R43 to R49, R24, R46). -/
def FFmt.round (f : FFmt) (rnd : Rnd) (e4nan : Bool) (v : FVal) : Nat × Ev :=
  match v with
  | .nan => (f.nanCode, .none)
  | .inf s =>
    match f.kind with
    | .ieee => (f.withSign s f.infCode, .none)
    | _ => if e4nan then (f.nanCode, .nanConv) else (f.withSign s f.maxCode, .clamp)
  | .fin s m e =>
    let (k, q, inx) := gridRound f.fw f.qmin rnd m e
    let c := f.gridCode k q
    if c ≤ f.maxCode then (f.withSign s c, .inx inx)
    else
      match f.kind with
      | .ieee =>
        if rnd = .rtz then (f.withSign s f.maxCode, .clamp) else (f.withSign s f.infCode, .ovf)
      | _ => if e4nan then (f.nanCode, .nanConv) else (f.withSign s f.maxCode, .clamp)

/-- Round an element of an MX block, already divided by the block's scale: what exceeds the largest
element saturates whatever the rounding mode (R30, R31). -/
def FFmt.roundMx (f : FFmt) (rnd : Rnd) (e4nan : Bool) (v : FVal) : Nat × Ev :=
  match v with
  | .fin s m e =>
    let (k, q, inx) := gridRound f.fw f.qmin rnd m e
    let c := f.gridCode k q
    if c ≤ f.maxCode then (f.withSign s c, .inx inx)
    else if e4nan then (f.nanCode, .nanConv) else (f.withSign s f.maxCode, .clamp)
  | _ => (0, .none)

/-- Round an MXINT8 element (R27, R31, R32): multiples of 2^-6, never -128. -/
def roundInt8 (rnd : Rnd) (v : FVal) : Nat × Ev :=
  match v with
  | .fin s m e =>
    -- the grid of R27 is uniform: the quantum is 2^-6 at every magnitude
    let (k, _, inx) := gridRound (m.log2 + (e + 6).toNat) (-6) rnd m e
    let (k', ev) := if k ≤ 127 then (k, Ev.inx inx) else (127, Ev.clamp)
    (if s then (256 - k') % 256 else k', ev)
  | _ => (0, .none)

/-- Whether a 4-bit format code is one of R22. -/
def fmtDefined (fmt : Nat) : Bool := fmt ≤ 0xC

/-- Whether a format code is a microscaling format (R22). -/
def fmtIsMx (fmt : Nat) : Bool := 5 ≤ fmt && fmt ≤ 0xA

/-- Whether a format code is a pair format. -/
def fmtIsPair (fmt : Nat) : Bool := fmt = 0xB || fmt = 0xC

/-- Bits per element (R22). -/
def fmtBits (fmt : Nat) : Nat :=
  nth 0 [32, 16, 16, 8, 8, 8, 8, 6, 6, 4, 8, 32, 64] fmt

/-- The element encoding of a format code; for a pair, that of its base format. -/
def fmtElem (fmt : Nat) : FFmt :=
  nth fmtF32 [fmtF32, fmtF16, fmtBf16, fmtE4M3, fmtE5M2, fmtE4M3, fmtE5M2, fmtE2M3, fmtE3M2, fmtE2M1,
    fmtF32, fmtBf16, fmtF32] fmt

/-- The exponent of an MX element format's largest binade (R29). -/
def fmtEmax (fmt : Nat) : Int := nth 0 [8, 15, 2, 4, 2, 0] (fmt - 5)

/-- The value of a pair (R37, R39). Of two zeros the value keeps the sign of hi (R25). -/
def pairValue (hi lo : FVal) : FVal :=
  match hi with
  | .fin s 0 _ => if lo.isZero then .fin s 0 0 else hi.add lo
  | .fin _ _ _ => hi.add lo
  | v => v

/-- The value of one stored element; `scale` is the E8M0 byte of its block, ignored by a format without
scales (R23, R26 to R28, R37). -/
def elemValue (fmt code scale : Nat) : FVal :=
  if fmtIsMx fmt then
    if scale = 0xFF then .nan
    else if fmt = 0xA then
      .fin (decide (sx 8 code < 0)) (sx 8 code).natAbs (-6 + (scale : Int) - 127)
    else ((fmtElem fmt).decode code).scale ((scale : Int) - 127)
  else if fmt = 0xB then pairValue (fmtBf16.decode (code % 2 ^ 16)) (fmtBf16.decode (code >>> 16))
  else if fmt = 0xC then pairValue (fmtF32.decode (code % 2 ^ 32)) (fmtF32.decode (code >>> 32))
  else (fmtElem fmt).decode code

/-- Convert a value into a pair of a base format of `w` bits (R36 to R38, R40). R38's two steps, hi = RNE(x) and lo = RNE(x - hi), are
taken as they stand, also where lo rounds up to half an ulp of hi and the pair is not normalised as R36 says every written pair is: the two
rules disagree there, and the model follows R38 (DESIGN CHOICE, log 130). -/
def roundPair (f : FFmt) (w : Nat) (v : FVal) : Nat × Ev :=
  let (hi, ev) := f.round .rne false v
  let hv := f.decode hi
  match hv with
  | .fin _ _ _ =>
    let d := v.sub hv
    if d.isZero then (hi, .none)
    else
      let (lo, ev2) := f.round .rne false d
      (hi + lo <<< w, .inx (decide (ev2.inexact ≠ 0)))
  | _ => (hi, ev)

/-- Convert a value into a format without scales (R41 to R49). -/
def elemRound (fmt : Nat) (rnd : Rnd) (e4nan : Bool) (v : FVal) : Nat × Ev :=
  if fmt = 0xB then roundPair fmtBf16 16 v
  else if fmt = 0xC then roundPair fmtF32 32 v
  else (fmtElem fmt).round rnd e4nan v

/-- Round one element of an MX block whose scale exponent is X (R30 to R33). -/
def mxElemRound (fmt : Nat) (x : Int) (rnd : Rnd) (e4nan : Bool) (v : FVal) : Nat × Ev :=
  if fmt = 0xA then roundInt8 rnd (v.scale (-x))
  else (fmtElem fmt).roundMx rnd (e4nan && fmt = 5) (v.scale (-x))

/-- The larger exponent of the finite nonzero values of a block. -/
def mxAmax (vals : List FVal) : Option Int :=
  vals.foldl (fun o v =>
    if v.isZero || !v.isFinite then o
    else match o with
      | none => some v.exp2
      | some x => some (max x v.exp2)) none

/-- An MX block (R29 to R34): its scale byte and, for each element, the code and the events. `rnds` gives each
element's rounding. -/
def mxElems (fmt : Nat) (rnds : List Rnd) (e4nan : Bool) (vals : List FVal) : Nat × List (Nat × Ev) :=
  if vals.any (fun v => !v.isFinite) then
    (0xFF, vals.map (fun v => (0, if v.isInf then Ev.nanConv else .none)))
  else
    let sc : Nat :=
      match mxAmax vals with
      | none => 0x7F
      | some a => (min 254 (max 0 (a - fmtEmax fmt + 127))).toNat
    (sc, (vals.zip rnds).map (fun vr => mxElemRound fmt ((sc : Int) - 127) vr.2 e4nan vr.1))

/-- Form an MX block: the scale byte, the element codes, the events of the block. -/
def mxForm (fmt : Nat) (rnds : List Rnd) (e4nan : Bool) (vals : List FVal) : Nat × List Nat × Ev :=
  let r := mxElems fmt rnds e4nan vals
  (r.1, r.2.map (·.1), Ev.sum (r.2.map (·.2)))

/-- The rounding mode of a control byte's RND field (R41), `r` being the element's random bits. -/
def rndOf (code r : Nat) : Rnd :=
  match code with
  | 0 => .rne
  | 1 => .rtz
  | _ => .sr r

/-- The fields of an output conversion control byte (R41). -/
def ctrlFmt (c : Nat) : Nat := fld c 7 4
def ctrlRnd (c : Nat) : Nat := fld c 3 2
def ctrlE4Nan (c : Nat) : Bool := bitAt c 1
def ctrlIsSr (c : Nat) : Bool := ctrlRnd c = 2

/-- A control byte that does not complete its task with DESCRIPTOR (R22, R17, R40, R42). -/
def ctrlOk (c : Nat) : Bool :=
  fmtDefined (ctrlFmt c) && ctrlRnd c ≠ 3 && !bitAt c 0
    && (!ctrlE4Nan c || ctrlFmt c = 3 || ctrlFmt c = 5)
    && (!fmtIsPair (ctrlFmt c) || ctrlRnd c = 0)

/-- Convert one value by a control byte into a format without scales. `r` is the element's random bits. -/
def ctrlRound (c r : Nat) (v : FVal) : Nat × Ev :=
  elemRound (ctrlFmt c) (rndOf (ctrlRnd c) r) (ctrlE4Nan c) v

/-- Convert the values of one MX block by a control byte. -/
def ctrlRoundMx (c : Nat) (rs : List Nat) (vals : List FVal) : Nat × List Nat × Ev :=
  mxForm (ctrlFmt c) (rs.map (rndOf (ctrlRnd c))) (ctrlE4Nan c) vals

/-- The scale byte of one MX block by a control byte, with each element's code and events. -/
def ctrlElemsMx (c : Nat) (rs : List Nat) (vals : List FVal) : Nat × List (Nat × Ev) :=
  mxElems (ctrlFmt c) (rs.map (rndOf (ctrlRnd c))) (ctrlE4Nan c) vals

/-- The binary32 value of a pattern. -/
def f32v (c : Nat) : FVal := fmtF32.decode c

/-- The bfloat16 value of a pattern. -/
def bfv (c : Nat) : FVal := fmtBf16.decode c

/-- Round to binary32 with RNE, no event taken. -/
def f32r (v : FVal) : Nat := (fmtF32.round .rne false v).1

/-- The canonical NaN of binary32 (R24). -/
def f32Nan : Nat := 0x7FC00000

/-- One arithmetic operation into a format with RNE: a NaN input propagates without an event (R54, R60),
a NaN made from other inputs counts NAN_CREATED (R55), else the exact result is rounded once. -/
def arith (f : FFmt) (ins : List FVal) (exact : FVal) : Nat × Ev :=
  if ins.any FVal.isNan then (f.nanCode, .none)
  else if exact.isNan then (f.nanCode, .nan)
  else f.round .rne false exact

def f32add (a b : Nat) : Nat × Ev := arith fmtF32 [f32v a, f32v b] ((f32v a).add (f32v b))
def f32sub (a b : Nat) : Nat × Ev := arith fmtF32 [f32v a, f32v b] ((f32v a).sub (f32v b))
def f32mul (a b : Nat) : Nat × Ev := arith fmtF32 [f32v a, f32v b] ((f32v a).mul (f32v b))

/-- a · b + c with one rounding. -/
def f32fma (a b c : Nat) : Nat × Ev :=
  arith fmtF32 [f32v a, f32v b, f32v c] (((f32v a).mul (f32v b)).add (f32v c))

/-- Whether a pattern is a binary32 NaN. -/
def f32IsNan (a : Nat) : Bool := (f32v a).isNan

/-- A NaN leaves an operation in canonical form (R24, R54). -/
def canonF32 (x : Nat) : Nat := if f32IsNan x then f32Nan else x

/-- An unsigned number as binary32 with RNE (the f32 of R77). -/
def f32OfNat (n : Nat) : Nat := f32r (.fin false n 0)

/-- Element bytes of `n` consecutive elements of a format (the packing table after R28). -/
def packElems (fmt : Nat) (codes : List Nat) : List Byte :=
  if fmtBits fmt = 6 then
    ((chunks 4 codes).map (fun g =>
      toLE 3 (nth 0 g 0 + nth 0 g 1 * 64 + nth 0 g 2 * 4096 + nth 0 g 3 * 262144))).flatten
  else if fmtBits fmt = 4 then
    ((chunks 2 codes).map (fun g => toLE 1 (nth 0 g 0 + nth 0 g 1 * 16))).flatten
  else (codes.map (toLE (fmtBits fmt / 8))).flatten

/-- Bytes that `n` elements take in the element plane. -/
def planeBytes (fmt n : Nat) : Nat :=
  if fmtBits fmt = 6 then cdiv n 4 * 3 else cdiv (n * fmtBits fmt) 8

/-- Element `i` of packed element bytes. -/
def unpackElem (fmt : Nat) (bytes : List Byte) (i : Nat) : Nat :=
  if fmtBits fmt = 6 then fld (leNat ((bytes.drop (i / 4 * 3)).take 3)) (6 * (i % 4) + 5) (6 * (i % 4))
  else if fmtBits fmt = 4 then fld (nth 0 bytes (i / 2)).toNat (4 * (i % 2) + 3) (4 * (i % 2))
  else leNat ((bytes.drop (i * (fmtBits fmt / 8))).take (fmtBits fmt / 8))

/-- Read a stored element as binary32 (R35, R39): exact where it fits, else one RNE rounding whose
OVERFLOW event counts. -/
def elemToF32 (fmt code scale : Nat) : Nat × Ev :=
  let v := elemValue fmt code scale
  if fmtIsMx fmt || fmtIsPair fmt then fmtF32.round .rne false v
  else (f32r v, .none)

/-- The three bfloat16 pieces of a binary32 operand (R66 to R68), and whether x3 was rounded. -/
def split3 (x : Nat) : FVal × FVal × FVal × Bool :=
  match f32v x with
  | .fin s m e =>
    let v := FVal.fin s m e
    let x1 := bfv (fmtBf16.round .rtz false v).1
    let r1 := v.sub x1
    let x2c := fmtBf16.round .rtz false (if r1.isZero then .fin s 0 0 else r1)
    let x2 := bfv x2c.1
    let r2 := r1.sub x2
    let x3c := fmtBf16.round .rtz false (if r2.isZero then .fin s 0 0 else r2)
    (x1, x2, bfv x3c.1, decide (x3c.2.inexact ≠ 0))
  | v => (v, .zero, .zero, false)

end Sys2Proof.Machine
end

