-- ==== Sys2Proof/Machine/Array.lean ====
section
/-! DEFINITION. The arithmetic of the matrix arrays (R61 to R69, R81, R113 to R118): slab layouts, passes and pieces,
the column tree of one slice, and the fold of slices. -/

namespace Sys2Proof.Machine

/-- The row group of a format in the table of R61; none where the arrays do not multiply it. -/
def mmaGroup (fmt : Nat) : Option Nat :=
  if fmt = 9 then some 0
  else if fmt = 0 then some 4
  else if fmt = 1 ∨ fmt = 2 then some 2
  else if fmt = 0xB then some 3
  else if fmt ≤ 0xA then some 1
  else none

/-- R61, R115: instruction-K of a group. -/
def groupIK (g : Nat) : Nat := nth 64 [256, 128, 64, 64, 64] g

/-- Passes per slice (R64, R69). -/
def groupPasses (g : Nat) : Nat := nth 1 [1, 1, 1, 3, 6] g

/-- Instruction-K of a format. -/
def fmtIK (fmt : Nat) : Nat := groupIK ((mmaGroup fmt).getD 2)

/-- Bytes of a slab of `rows` rows or columns of iK elements, scale plane included (R115, R116). -/
def slabBytes (fmt ik rows : Nat) : Nat := rows * planeBytes fmt ik + (if fmtIsMx fmt then rows * (ik / 32) else 0)

/-- Element `k` of row `i` of a slab of `rows` rows (R116): its code and its scale byte. -/
def slabElem (fmt ik rows : Nat) (slab : List Byte) (i k : Nat) : Nat × Nat :=
  let code := unpackElem fmt ((slab.drop (i * planeBytes fmt ik)).take (planeBytes fmt ik)) k
  let scale := if fmtIsMx fmt then (nth 0 slab (rows * planeBytes fmt ik + i * (ik / 32) + k / 32)).toNat else 127
  (code, scale)

/-- R66: a piece of a binary32 operand. -/
def f32Piece (x n : Nat) : FVal :=
  let p := split3 x
  if n = 1 then p.1 else if n = 2 then p.2.1 else p.2.2.1

/-- The lo piece of a Pair-BF16 element; that of a pair whose hi is infinite or NaN is ignored and reads as +0 (R37). -/
def pairLo (code : Nat) : FVal :=
  if (fmtBf16.decode (code % 2 ^ 16)).isFinite then fmtBf16.decode (code / 2 ^ 16) else .zero

/-- The piece of the activation operand in a pass (R64, R69): 1 is hi or the first piece. -/
def actPiece (g pass : Nat) : Nat := if g = 3 then nth 1 [1, 2, 1] pass else nth 1 [3, 2, 1, 2, 1, 1] pass

/-- The piece of the weight operand in a pass (R64, R69). -/
def wPiece (g pass : Nat) : Nat := if g = 3 then nth 1 [2, 1, 1] pass else nth 1 [1, 2, 3, 1, 2, 1] pass

/-- The exact value that an operand brings to a product, before scaling (R63, R64, R66, R81). -/
def operandValue (fmt piece code scale : Nat) : FVal :=
  if fmt = 0xB then (if piece = 1 then fmtBf16.decode (code % 2 ^ 16) else pairLo code)
  else if fmt = 0 then f32Piece code piece
  else if fmtIsMx fmt then elemValue fmt code (if scale = 0xFF then 0xFF else 127)
  else (fmtElem fmt).decode code

/-- One product: its exact value and whether it made a NaN (R56). In a pass other than the main one a zero piece times
an infinite or NaN piece contributes +0. An infinite Pair-BF16 operand times a finite pair whose lo has the other sign than its hi makes
opposite infinities in its passes: the model adds them as they are, to a NaN (DESIGN CHOICE, log 149). -/
def product (main : Bool) (x y : FVal) : FVal × Bool :=
  if !main && ((x.isZero && !y.isFinite) || (y.isZero && !x.isFinite)) then (.zero, false)
  else
    let p := x.mul y
    (p, p.isNan && !x.isNan && !y.isNan)

/-- A value rounded once to binary32 with RNE (R63). -/
def toF32V (v : FVal) : FVal := f32v (f32r v)

/-- One node of the column tree over `n` products: each node adds in binary32. -/
def columnNode : Nat → List (FVal × Bool) → FVal × Bool
  | 0, _ => (.zero, false)
  | _ + 1, [] => (.zero, false)
  | _ + 1, [x] => x
  | fuel + 1, l =>
    let h := l.length / 2
    let x := columnNode fuel (l.take h)
    let y := columnNode fuel (l.drop h)
    let s := x.1.add y.1
    (toF32V s, x.2 || y.2 || (s.isNan && !x.1.isNan && !y.1.isNan))

/-- The node over one 32-element scale group: (left + right) × 2^(Xa + Xw), rounded once (R81). -/
def groupNode (l : List (FVal × Bool)) (x : Int) : FVal × Bool :=
  let a := columnNode 8 (l.take 16)
  let b := columnNode 8 (l.drop 16)
  let s := a.1.add b.1
  (toF32V (s.scale x), a.2 || b.2 || (s.isNan && !a.1.isNan && !b.1.isNan))

/-- The sum of one slice for one output element (R81): a binary32 code, and whether a NaN was made. `fa`, `fw` are the
formats; `av`, `wv` give (code, scale) at each k of the slice. -/
def sliceSum (fa fw pass : Nat) (av wv : List (Nat × Nat)) : Nat × Bool :=
  let g := (mmaGroup fa).getD 2
  let main := pass + 1 = groupPasses g
  let ps := (av.zip wv).map (fun p =>
    product main (operandValue fa (actPiece g pass) p.1.1 p.1.2) (operandValue fw (wPiece g pass) p.2.1 p.2.2))
  let v :=
    if fmtIsMx fa || fmtIsMx fw then
      columnNode 10 ((List.range (ps.length / 32)).map (fun b =>
        let sa := (nth (0, 127) av (32 * b)).2
        let sw := (nth (0, 127) wv (32 * b)).2
        groupNode ((ps.drop (32 * b)).take 32)
          ((if sa = 0xFF then 0 else (sa : Int) - 127) + (if sw = 0xFF then 0 else (sw : Int) - 127))))
    else columnNode 10 ps
  (f32r v.1, v.2)

/-- R81, R120: a slice sum meets the frame: the first slice of a K-block writes it, each later one adds to it. The
result and whether a NaN was made (R56). -/
def foldSlice (first : Bool) (acc : Nat) (s : Nat × Bool) : Nat × Bool :=
  if first then s else
    let z := (f32v acc).add (f32v s.1)
    (f32r z, s.2 || (z.isNan && !f32IsNan acc && !f32IsNan s.1))

/-- One MMA on a sub-tile of `rows` rows (128, or the rows of a SCHUSS command): the new frame and the elements made
NaN. Rows and columns at or beyond the run-time extents stay +0 (R139, R140). -/
def mmaFold (fa fw pass rows rtRows rtCols : Nat) (first : Bool) (aSlab wSlab : List Byte) (acc : List Nat)
    (nanAt : List Nat) : List Nat × List Nat :=
  let ik := fmtIK fa
  let cells := (List.range rows).flatMap (fun i =>
    let av := (List.range ik).map (fun k => slabElem fa ik rows aSlab i k)
    (List.range 512).map (fun j =>
      if i < rtRows ∧ j < rtCols then
        let wv := (List.range ik).map (fun k => slabElem fw ik 512 wSlab j k)
        foldSlice first (nth 0 acc (i * 512 + j)) (sliceSum fa fw pass av wv)
      else (0, false)))
  let made := (List.range cells.length).filter (fun e => (nth (0, false) cells e).2 && !nanAt.contains e)
  (cells.map (·.1), nanAt ++ made)

/-- The format of the weights as a bank holds them: Pair-BF16 and FP32 stand there as bfloat16 pieces (R118). -/
def bankFmt (fw : Nat) : Nat := if fw = 0 ∨ fw = 0xB then 2 else fw

/-- R118, R121: what a bank receives of a weight slab for a pass: the 64 KiB of pieces for Pair-BF16 and FP32, else the
element and scale planes. -/
def bankBytes (fw pass : Nat) (slab : List Byte) : List Byte :=
  if fw = 0 ∨ fw = 0xB then
    let p := wPiece ((mmaGroup fw).getD 2) pass
    (List.range 32768).flatMap (fun e =>
      toLE 2 (fmtBf16.round .rne false (operandValue fw p (slabElem fw 64 512 slab (e / 64) (e % 64)).1 127)).1)
  else slab

/-- R68: operand elements of a slab whose third piece is rounded, over the first `n` rows. -/
def splitInexact (fmt ik rows n : Nat) (slab : List Byte) : Ev :=
  if fmt ≠ 0 then .none else
    ⟨((List.range n).map (fun i =>
      ((List.range ik).filter (fun k => (split3 (slabElem fmt ik rows slab i k).1).2.2.2)).length)).sum, 0, 0, 0⟩

end Sys2Proof.Machine
end

