-- ==== Sys2Proof/Machine/Sha.lean ====
section
/-! DEFINITION. The digests the block computes: CRC-32C over tensor blocks, tags and records, and
HMAC-SHA-256 over Unfoide messages (R675). -/

namespace Sys2Proof.Machine

/-- One bit of the reflected CRC-32C, polynomial 0x1EDC6F41. -/
def crcBit (c : Nat) : Nat := if c % 2 = 1 then (c / 2) ^^^ 0x82F63B78 else c / 2

/-- One byte of CRC-32C. -/
def crcByte (c : Nat) (b : Byte) : Nat :=
  crcBit (crcBit (crcBit (crcBit (crcBit (crcBit (crcBit (crcBit (c ^^^ b.toNat))))))))

/-- CRC-32C of a string of bytes. -/
def crc32c (l : List Byte) : Nat := l.foldl crcByte 0xFFFFFFFF ^^^ 0xFFFFFFFF

/-- The round constants of SHA-256. -/
def shaK : List W32 :=
  [0x428A2F98#32, 0x71374491#32, 0xB5C0FBCF#32, 0xE9B5DBA5#32, 0x3956C25B#32, 0x59F111F1#32,
   0x923F82A4#32, 0xAB1C5ED5#32, 0xD807AA98#32, 0x12835B01#32, 0x243185BE#32, 0x550C7DC3#32,
   0x72BE5D74#32, 0x80DEB1FE#32, 0x9BDC06A7#32, 0xC19BF174#32, 0xE49B69C1#32, 0xEFBE4786#32,
   0x0FC19DC6#32, 0x240CA1CC#32, 0x2DE92C6F#32, 0x4A7484AA#32, 0x5CB0A9DC#32, 0x76F988DA#32,
   0x983E5152#32, 0xA831C66D#32, 0xB00327C8#32, 0xBF597FC7#32, 0xC6E00BF3#32, 0xD5A79147#32,
   0x06CA6351#32, 0x14292967#32, 0x27B70A85#32, 0x2E1B2138#32, 0x4D2C6DFC#32, 0x53380D13#32,
   0x650A7354#32, 0x766A0ABB#32, 0x81C2C92E#32, 0x92722C85#32, 0xA2BFE8A1#32, 0xA81A664B#32,
   0xC24B8B70#32, 0xC76C51A3#32, 0xD192E819#32, 0xD6990624#32, 0xF40E3585#32, 0x106AA070#32,
   0x19A4C116#32, 0x1E376C08#32, 0x2748774C#32, 0x34B0BCB5#32, 0x391C0CB3#32, 0x4ED8AA4A#32,
   0x5B9CCA4F#32, 0x682E6FF3#32, 0x748F82EE#32, 0x78A5636F#32, 0x84C87814#32, 0x8CC70208#32,
   0x90BEFFFA#32, 0xA4506CEB#32, 0xBEF9A3F7#32, 0xC67178F2#32]

/-- The initial hash value of SHA-256. -/
def shaH0 : List W32 :=
  [0x6A09E667#32, 0xBB67AE85#32, 0x3C6EF372#32, 0xA54FF53A#32, 0x510E527F#32, 0x9B05688C#32,
   0x1F83D9AB#32, 0x5BE0CD19#32]

/-- The big-endian 32-bit words of a string. -/
def beWords (l : List Byte) : List W32 :=
  (chunks 4 l).map (fun g =>
    BitVec.ofNat 32 (((nth 0 g 0).toNat * 256 + (nth 0 g 1).toNat) * 65536
      + (nth 0 g 2).toNat * 256 + (nth 0 g 3).toNat))

/-- The message schedule: `n` more words after those of the block, newest first. -/
def shaSched : Nat → List W32 → List W32
  | 0, w => w
  | n + 1, w =>
    let a := nth 0 w 14
    let b := nth 0 w 1
    let s0 := a.rotateRight 7 ^^^ a.rotateRight 18 ^^^ (a >>> 3)
    let s1 := b.rotateRight 17 ^^^ b.rotateRight 19 ^^^ (b >>> 10)
    shaSched n ((nth 0 w 15 + s0 + nth 0 w 6 + s1) :: w)

/-- One round of SHA-256 on the working words a to h. -/
def shaRound (h : List W32) (kw : W32) : List W32 :=
  match h with
  | [a, b, c, d, e, f, g, hh] =>
    let s1 := e.rotateRight 6 ^^^ e.rotateRight 11 ^^^ e.rotateRight 25
    let ch := (e &&& f) ^^^ (~~~e &&& g)
    let t1 := hh + s1 + ch + kw
    let s0 := a.rotateRight 2 ^^^ a.rotateRight 13 ^^^ a.rotateRight 22
    let mj := (a &&& b) ^^^ (a &&& c) ^^^ (b &&& c)
    [t1 + s0 + mj, a, b, c, d + t1, e, f, g]
  | _ => h

/-- One block of SHA-256. -/
def shaBlock (h : List W32) (blk : List W32) : List W32 :=
  let w := (shaSched 48 blk.reverse).reverse
  let r := (w.zip shaK).foldl (fun st p => shaRound st (p.1 + p.2)) h
  (r.zip h).map (fun p => p.1 + p.2)

/-- The padded message of SHA-256. -/
def shaPad (l : List Byte) : List Byte :=
  let z := (119 - l.length % 64) % 64
  l ++ [0x80#8] ++ List.replicate z 0#8 ++ (toLE 8 (8 * l.length)).reverse

/-- SHA-256 of a string of bytes. -/
def sha256 (l : List Byte) : List Byte :=
  let h := (chunks 16 (beWords (shaPad l))).foldl shaBlock shaH0
  (h.map (fun w => (toLE 4 w.toNat).reverse)).flatten

/-- HMAC-SHA-256 with a key of at most 64 bytes. -/
def hmac256 (key msg : List Byte) : List Byte :=
  let k := key ++ List.replicate (64 - key.length) 0#8
  sha256 (k.map (· ^^^ 0x5C#8) ++ sha256 (k.map (· ^^^ 0x36#8) ++ msg))

end Sys2Proof.Machine
end

