-- ==== Sys2Proof/Config.lean ====
section
/-! DEFINITION. What this module fixes for good (its order code, its fuse map, its stepping) and the free
values: opaque constants that stand for every value the spec leaves open. No proof can see one. -/

namespace Sys2Proof.Config

/-- The order codes (R1). -/
inductive OrderCode where
  | l512 | l256 | c80
  deriving DecidableEq, Repr

/-- R1, object 0x1002: the name of an order code. -/
def OrderCode.name : OrderCode → String
  | .l512 => "TM2-88-L512"
  | .l256 => "TM2-88-L256"
  | .c80 => "TM2-80-L512"

/-- R1, R418: the capacity-tier packages of an order code, LP0 up. -/
def OrderCode.packages : OrderCode → Nat
  | .l256 => 4
  | _ => 8

/-- R694: the subsystem ID of an order code. -/
def OrderCode.subsystem : OrderCode → Nat
  | .l512 => 0x88
  | .l256 => 0x89
  | .c80 => 0x80

/-- R1, R3: a fused map of enabled core sites, one byte per cluster. The spec fixes the number of sites, 88 or 80, and 6 to 8 in each
cluster. DESIGN CHOICE (log 3): which ones. -/
def OrderCode.fuseMap : OrderCode → List (BitVec 8)
  | .c80 => [0x7F, 0x7F, 0x7F, 0x7F, 0x7F, 0x7F, 0x7F, 0x7F, 0x3F, 0x3F, 0x3F, 0x3F]
  | _ => [0x7F, 0x7F, 0x7F, 0x7F, 0x7F, 0x7F, 0x7F, 0x7F, 0xFF, 0xFF, 0xFF, 0xFF]

/-- The order code of the modelled module, the one definition that sets it: all that R1 lets differ follows from it.
DESIGN CHOICE (log 3). -/
def order : OrderCode := .l512

/-- R1, object 0x1002: the order code of the modelled module. -/
def orderCode : String := order.name

/-- R3, object 0x1003: the fused map of enabled core sites. -/
def fuseMap : List (BitVec 8) := order.fuseMap

/-- Whether site `s` of cluster `c` is enabled by the fuse map (R3). -/
def siteEnabled (c s : Nat) : Bool := (fuseMap.getD c 0).getLsbD s

/-- R1: capacity-tier packages attached. -/
def lpddrPresent : Nat := order.packages

/-- Free value: the byte left at an address by a write the spec leaves undefined (R13, R258). -/
opaque freeByte : Nat → BitVec 8

/-- Free value: a 32-bit pattern the spec leaves undefined. -/
opaque freeWord : Nat → BitVec 32

/-- Free value: a number the spec leaves open (a measurement, an order of service). -/
opaque freeNat : Nat → Nat

/-- Free value: R103, R104: the bit of an output block's occupancy bitmap that stands for a node, from LEAVES, NODE_A and NODE_B. The
spec gives the bitmap's size, not the order of its bits. -/
opaque occBit : Nat → Nat → Nat → Nat

/-- Free value: R552, R558: whether a reduction's DEST_ADDR whose MODULE field reads 0 names this module rather than module 0, from
OWN_ID and the address. The spec does not tell the two apart. -/
opaque zeroIsHere : Nat → Nat → Bool

/-- Free value: the place in its step (row × 512 + column) of the element that FQUANT or PACK rounds stochastically: the
words name no row (R211), and R224 needs one. Arguments: the instruction word and the element of its sources. -/
opaque quantPlace : Nat → Nat → Nat

/-- Free value: one coefficient byte of a TM1 function table (R714 does not print them). -/
opaque tm1TableByte : Nat → BitVec 8

/-- Free value: whether an image bears a valid signature of Baleista's key (R690): the ECDSA check over the
image's bytes, with the public key held in fuses. -/
opaque signatureValid : List (BitVec 8) → Bool

/-- Free value: a sample of an output frame (R571, R579): the coding standards fix it, the spec does not print them.
Arguments: the job's settings (codec, END, GRAIN), the bytes that decoding starts from (stream context, reference
pool, chunk), the frame's number in the job, the plane, and the sample's place. -/
opaque decodedSample : Nat → List (BitVec 8) → Nat → Nat → Nat → Nat → Nat

/-- Free value: what decoding a chunk finds: damage, the number and sizes of its frames, the buffers it needs and the
marks it leaves. Arguments: as for a sample, then the question and an index. -/
opaque decodedFact : Nat → List (BitVec 8) → Nat → Nat → Nat

/-- Free value: a byte of a stream context (R590) or of a picture in a reference pool (R587), whose layouts the spec
does not give: from the bytes a job starts from, the buffer (0 for the context), and the place. -/
opaque streamByte : List (BitVec 8) → Nat → Nat → BitVec 8

/-- Free value: the bytes of an encoded chunk (R573, R586), from the encoder model, the stream's settings and state,
and the samples of the source frames. -/
opaque encodedBytes : Nat → List (BitVec 8) → List (BitVec 8) → List (BitVec 8)

/-- R682, object 0x1001:0x01: the serial number. Per module: the spec gives none. -/
opaque serial : BitVec 64

/-- R682, object 0x1010:0x01: the MAC address, its first byte uppermost. Per module. -/
opaque mac : BitVec 48

/-- R682, object 0x1001:0x04: the hardware revision. Per module. -/
opaque hwRev : List (BitVec 8)

/-- R694: the revision ID: the hardware revision as a number from 0x01 up, here less 1. Per module. -/
opaque revision : Fin 255

/-- Free value: the host's translation of a page of an address space (R701): its request's number, the PASID and the page. -/
opaque atsPage : Nat → Nat → Nat → Nat

/-- R573, object 0x8000:0x03: the encoder model. The spec gives no number. -/
opaque encModel : BitVec 32

/-- R690: version (0) and length (1) in the header of a Patrol image, whose layout the spec does not give. -/
opaque imageField : List (BitVec 8) → Nat → Nat

/-- Versions of the images A and B that the module is delivered with. -/
opaque factoryVersion : Nat → BitVec 32

/-- Free value: the bytes of an object of the factory test range (R674), which the spec does not describe. -/
opaque factoryBytes : Nat → List (BitVec 8)

/-- Free value: the byte with type and access code of an entry of LIST (R670), whose codes the spec does not give. -/
opaque listCode : Nat → BitVec 8

end Sys2Proof.Config
end

