-- ==== Sys2Proof/Machine/Objects.lean ====
section
/-! DEFINITION. The object dictionary's tables (R679 to R682 and the object table of every chapter): for each
index range and subindex range the type, the access code and the default. Objects of a core stand at
0x5000 + 0x100 c + 0x10 s + offset, objects of a cluster at 0x5000 + 0x100 c + offset (offset from 0x80). -/

namespace Sys2Proof.Machine

/-- Object types (R679). -/
inductive ObjType where
  | bool | u8 | u16 | u32 | u64 | i32 | f32 | str | octets | time
  deriving DecidableEq, Repr

/-- Access codes (R674). -/
inductive Access where
  | ro | rw | wo | const | rwk
  deriving DecidableEq, Repr

/-- One row of an object table: the index range, the subindex range, type, access and default. -/
structure ObjRow where
  lo : Nat
  hi : Nat
  subLo : Nat
  subHi : Nat
  ty : ObjType
  acc : Access
  dflt : Nat
  deriving DecidableEq, Repr

/-- Objects of a core, by offset (R157, R203, R632), part 1. -/
def coreObjects0 : List ObjRow := [
  ⟨0, 0, 1, 1, .u8, .ro, 0⟩ /- SITE_STATE -/,
  ⟨0, 0, 2, 2, .u8, .ro, 255⟩ /- LOGICAL_ID -/,
  ⟨0, 0, 3, 3, .u32, .rw, 1600000⟩ /- WATCHDOG -/,
  ⟨1, 1, 1, 1, .u64, .ro, 0⟩ /- MMA_ISSUED -/,
  ⟨1, 1, 2, 2, .u64, .ro, 0⟩ /- STALL_WEIGHT -/,
  ⟨1, 1, 3, 3, .u64, .ro, 0⟩ /- STALL_ACT -/,
  ⟨1, 1, 4, 4, .u64, .ro, 0⟩ /- STALL_ACC -/,
  ⟨1, 1, 5, 5, .u64, .ro, 0⟩ /- SCHUSS_CYCLES -/,
  ⟨1, 1, 6, 6, .u64, .ro, 0⟩ /- DRAIN_CYCLES -/,
  ⟨1, 1, 7, 7, .bool, .wo, 0⟩ /- CLEAR -/,
  ⟨2, 2, 1, 1, .u64, .ro, 0⟩ /- VEC_OPS -/,
  ⟨2, 2, 2, 2, .u64, .ro, 0⟩ /- SFU_RESULTS -/,
  ⟨2, 2, 3, 3, .u64, .ro, 0⟩ /- SAMPLER_ROWS -/,
  ⟨2, 2, 4, 4, .u16, .ro, 0⟩ /- BAD_INDEX -/,
  ⟨2, 2, 5, 5, .bool, .wo, 0⟩ /- CLEAR -/,
  ⟨3, 3, 1, 1, .bool, .wo, 0⟩ /- FENCE -/,
  ⟨3, 3, 2, 2, .bool, .wo, 0⟩ /- UNFENCE -/,
  ⟨3, 3, 3, 3, .u8, .ro, 0⟩ /- FENCE_CAUSE -/,
  ⟨3, 3, 4, 4, .u16, .ro, 0⟩ /- CORE_CE -/]

/-- Objects of a core, by offset (R157, R203, R632). -/
def coreObjects : List ObjRow := coreObjects0

/-- Objects of a cluster, by offset (R291, R450, R501, R570, R632), part 1. -/
def clusterObjects0 : List ObjRow := [
  ⟨0x80, 0x80, 1, 1, .u64, .ro, 0⟩ /- BYTES_MOVED -/,
  ⟨0x80, 0x80, 2, 2, .u64, .ro, 0⟩ /- COALESCED -/,
  ⟨0x80, 0x80, 3, 3, .u16, .ro, 0⟩ /- BAD_INDEX -/,
  ⟨0x80, 0x80, 4, 4, .u16, .ro, 0⟩ /- WRAPPED -/,
  ⟨0x80, 0x80, 5, 5, .u16, .ro, 0⟩ /- CLAMPED -/,
  ⟨0x80, 0x80, 6, 6, .u16, .ro, 0⟩ /- OVERLAPS -/,
  ⟨0x80, 0x80, 7, 7, .u16, .ro, 0⟩ /- XLAT_FAULTS -/,
  ⟨0x80, 0x80, 8, 8, .u16, .ro, 0⟩ /- CSUM_REREADS -/,
  ⟨0x80, 0x80, 9, 9, .bool, .wo, 0⟩ /- CLEAR -/,
  ⟨0x90, 0x90, 1, 1, .u8, .rw, 16⟩ /- CACHE_MIB -/,
  ⟨0x90, 0x90, 2, 2, .u64, .ro, 0⟩ /- CACHE_HITS -/,
  ⟨0x90, 0x90, 3, 3, .u64, .ro, 0⟩ /- CACHE_MISSES -/,
  ⟨0x90, 0x90, 4, 4, .u64, .ro, 0⟩ /- ATOMICS -/,
  ⟨0x90, 0x90, 5, 5, .u16, .ro, 0⟩ /- SRAM_CE -/,
  ⟨0x90, 0x90, 6, 6, .u16, .ro, 0⟩ /- SRAM_UE -/,
  ⟨0x90, 0x90, 7, 7, .bool, .wo, 0⟩ /- CLEAR -/,
  ⟨0x98, 0x98, 1, 8, .u64, .rw, 0⟩ /- LANDING0 to LANDING7 -/,
  ⟨0xA0, 0xAF, 1, 1, .u8, .rw, 255⟩ /- CONTEXT -/,
  ⟨0xA0, 0xAF, 2, 2, .u8, .rw, 0⟩ /- PRIORITY -/,
  ⟨0xA0, 0xAF, 3, 3, .u64, .rw, 0⟩ /- RING_ADDR -/,
  ⟨0xA0, 0xAF, 4, 4, .u8, .rw, 10⟩ /- RING_LOG2 -/,
  ⟨0xA0, 0xAF, 5, 5, .u64, .rw, 0⟩ /- COMPL_ADDR -/,
  ⟨0xA0, 0xAF, 6, 6, .u32, .rw, 0⟩ /- LIMIT -/,
  ⟨0xA0, 0xAF, 7, 7, .u32, .ro, 0⟩ /- NEXT -/]

/-- Objects of a cluster, by offset (R291, R450, R501, R570, R632), part 2. -/
def clusterObjects1 : List ObjRow := [
  ⟨0xA0, 0xAF, 8, 8, .bool, .ro, 0⟩ /- EXHAUSTED -/,
  ⟨0xB0, 0xB0, 1, 1, .bool, .rw, 1⟩ /- ENABLE -/,
  ⟨0xB0, 0xB0, 2, 2, .u8, .ro, 0⟩ /- STATE -/,
  ⟨0xB0, 0xB0, 3, 3, .bool, .wo, 0⟩ /- FORCE -/,
  ⟨0xB0, 0xB0, 4, 4, .bool, .wo, 0⟩ /- QUIESCE -/,
  ⟨0xB0, 0xB0, 5, 5, .bool, .wo, 0⟩ /- RELEASE -/,
  ⟨0xB0, 0xB0, 6, 6, .bool, .wo, 0⟩ /- RESET -/,
  ⟨0xB0, 0xB0, 7, 7, .bool, .rw, 1⟩ /- POWER -/]

/-- Objects of a cluster, by offset (R291, R450, R501, R570, R632). -/
def clusterObjects : List ObjRow := clusterObjects0 ++ clusterObjects1

/-- Objects at fixed indices (R105, R191, R290, R375, R406, R450, R501, R529, R570, R597, R632, R665, R682, R685, R704, R706), part 1. -/
def deviceObjects0 : List ObjRow := [
  ⟨0x1001, 0x1001, 1, 1, .u64, .const, 0⟩ /- SERIAL -/,
  ⟨0x1001, 0x1001, 2, 2, .str, .const, 0⟩ /- VENDOR -/,
  ⟨0x1001, 0x1001, 3, 3, .str, .const, 0⟩ /- PRODUCT -/,
  ⟨0x1001, 0x1001, 4, 4, .str, .const, 0⟩ /- HW_REV -/,
  ⟨0x1001, 0x1001, 5, 5, .u32, .ro, 0⟩ /- FW_VERSION -/,
  ⟨0x1002, 0x1002, 1, 1, .str, .const, 0⟩ /- ORDER_CODE -/,
  ⟨0x1003, 0x1003, 1, 0xC, .u8, .const, 0⟩ /- SITES_CL0 to SITES_CL11 -/,
  ⟨0x1003, 0x1003, 0xD, 0xD, .u8, .const, 88⟩ /- ENABLED_CORES -/,
  ⟨0x1010, 0x1010, 1, 1, .octets, .const, 0⟩ /- MAC -/,
  ⟨0x1010, 0x1010, 2, 2, .octets, .ro, 0⟩ /- LINK_LOCAL -/,
  ⟨0x1010, 0x1010, 3, 3, .u16, .rw, 47810⟩ /- UDP_PORT -/,
  ⟨0x1010, 0x1010, 4, 4, .bool, .rw, 1⟩ /- PLCA_ENABLE -/,
  ⟨0x1010, 0x1010, 5, 5, .u8, .rw, 0⟩ /- PLCA_NODE_ID -/,
  ⟨0x1010, 0x1010, 6, 6, .u8, .rw, 32⟩ /- PLCA_NODE_COUNT -/,
  ⟨0x1010, 0x1010, 7, 7, .u8, .ro, 0⟩ /- PLCA_STATE -/,
  ⟨0x1010, 0x1010, 8, 8, .u64, .ro, 0⟩ /- RX_MESSAGES -/,
  ⟨0x1010, 0x1010, 9, 9, .u64, .ro, 0⟩ /- TX_MESSAGES -/,
  ⟨0x1010, 0x1010, 0xA, 0xA, .u16, .ro, 0⟩ /- BUSY_REFUSED -/,
  ⟨0x1010, 0x1010, 0xB, 0xB, .u16, .ro, 0⟩ /- AUTH_FAILS -/,
  ⟨0x1010, 0x1010, 0xC, 0xC, .bool, .rwk, 1⟩ /- INBAND_TRUST -/,
  ⟨0x1010, 0x1010, 0xD, 0xD, .u16, .ro, 0⟩ /- INBAND_OVERRUN -/,
  ⟨0x1020, 0x1020, 1, 1, .u8, .const, 0⟩ /- STRAP_SLOT_ID -/,
  ⟨0x1020, 0x1020, 2, 2, .u8, .const, 0⟩ /- STRAP_PLCA_NODE -/,
  ⟨0x1020, 0x1020, 3, 3, .u8, .const, 0⟩ /- STRAP_BOOT_SRC -/]

/-- Objects at fixed indices (R105, R191, R290, R375, R406, R450, R501, R529, R570, R597, R632, R665, R682, R685, R704, R706), part 2. -/
def deviceObjects1 : List ObjRow := [
  ⟨0x1020, 0x1020, 4, 4, .u8, .const, 0⟩ /- STRAP_CONTAIN -/,
  ⟨0x1020, 0x1020, 5, 5, .u8, .const, 0⟩ /- STRAP_SFU_COMPAT -/,
  ⟨0x1020, 0x1020, 6, 6, .u8, .const, 1⟩ /- STRAP_TILE_MODE -/,
  ⟨0x1020, 0x1020, 7, 7, .u8, .const, 0⟩ /- STRAP_WARN_SEL -/,
  ⟨0x1020, 0x1020, 8, 8, .u8, .const, 0⟩ /- STRAP_LINK_DEFAULT -/,
  ⟨0x1030, 0x1030, 1, 1, .u8, .ro, 0⟩ /- RUNNING -/,
  ⟨0x1030, 0x1030, 2, 3, .u32, .ro, 0⟩ /- VERSION_A, VERSION_B -/,
  ⟨0x1030, 0x1030, 4, 4, .u8, .rwk, 0⟩ /- TARGET_IMAGE -/,
  ⟨0x1030, 0x1030, 5, 5, .octets, .rwk, 0⟩ /- IMAGE -/,
  ⟨0x1030, 0x1030, 6, 6, .u8, .ro, 0⟩ /- FW_STATE -/,
  ⟨0x1030, 0x1030, 7, 7, .bool, .rwk, 0⟩ /- ACTIVATE -/,
  ⟨0x1040, 0x1040, 1, 1, .octets, .wo, 0⟩ /- OPERATOR_KEY -/,
  ⟨0x1040, 0x1040, 2, 2, .octets, .wo, 0⟩ /- SERVICE_KEY -/,
  ⟨0x1040, 0x1040, 3, 4, .u64, .ro, 0⟩ /- OP_AUTH_SEQ, SVC_AUTH_SEQ -/,
  ⟨0x1040, 0x1040, 5, 5, .u8, .ro, 0⟩ /- KEYS_SET -/,
  ⟨0x1050, 0x1050, 1, 1, .u8, .ro, 0⟩ /- LINK_STATE -/,
  ⟨0x1050, 0x1050, 2, 2, .u8, .ro, 0⟩ /- LINK_GTS -/,
  ⟨0x1050, 0x1050, 3, 3, .u8, .ro, 0⟩ /- LINK_WIDTH -/,
  ⟨0x1050, 0x1050, 4, 4, .bool, .rw, 1⟩ /- L0P_ENABLE -/,
  ⟨0x1050, 0x1050, 5, 5, .u8, .ro, 0⟩ /- NUM_VFS -/,
  ⟨0x1050, 0x1050, 6, 6, .u16, .ro, 0⟩ /- REFUSED -/,
  ⟨0x1050, 0x1050, 7, 7, .bool, .wo, 0⟩ /- CLEAR -/,
  ⟨0x1050, 0x1050, 8, 8, .bool, .rwk, 0⟩ /- JTAG_EN -/,
  ⟨0x1051, 0x1051, 1, 8, .u8, .rw, 255⟩ /- VF_CONTEXT -/]

/-- Objects at fixed indices (R105, R191, R290, R375, R406, R450, R501, R529, R570, R597, R632, R665, R682, R685, R704, R706), part 3. -/
def deviceObjects2 : List ObjRow := [
  ⟨0x1052, 0x1052, 1, 8, .u64, .rw, 0⟩ /- VF_WINDOW_BASE -/,
  ⟨0x2001, 0x2001, 1, 1, .u8, .rw, 0⟩ /- MODE -/,
  ⟨0x2001, 0x2001, 2, 2, .u8, .ro, 0⟩ /- STATE -/,
  ⟨0x2001, 0x2001, 3, 3, .bool, .wo, 0⟩ /- FORCE -/,
  ⟨0x2002, 0x2002, 1, 1, .u8, .rw, 0⟩ /- MODE -/,
  ⟨0x2002, 0x2002, 2, 2, .u8, .ro, 0⟩ /- STATE -/,
  ⟨0x2002, 0x2002, 3, 3, .bool, .wo, 0⟩ /- FORCE -/,
  ⟨0x2003, 0x2003, 1, 1, .u8, .rw, 1⟩ /- DEF_TILE_MODE -/,
  ⟨0x2004, 0x2004, 1, 1, .octets, .const, 0⟩ /- FUNCTION_TABLES -/,
  ⟨0x2010, 0x2010, 1, 1, .bool, .rw, 1⟩ /- ENABLE -/,
  ⟨0x2010, 0x2010, 2, 2, .u8, .ro, 0⟩ /- STATE -/,
  ⟨0x2010, 0x2010, 3, 3, .bool, .wo, 0⟩ /- FORCE -/,
  ⟨0x2010, 0x2010, 4, 4, .u64, .ro, 0⟩ /- BLOCKS_SKIPPED -/,
  ⟨0x2010, 0x2010, 5, 5, .u64, .ro, 0⟩ /- BLOCKS_COMPUTED -/,
  ⟨0x2010, 0x2010, 6, 6, .bool, .wo, 0⟩ /- CLEAR -/,
  ⟨0x2400, 0x243F, 1, 1, .u8, .rw, 2⟩ /- TILE_MODE; 2 stands for one not written, which reads as 0x2003:1 -/,
  ⟨0x2400, 0x243F, 2, 2, .u32, .rw, 3⟩ /- KEY_RIGHTS -/,
  ⟨0x2400, 0x243F, 3, 3, .u16, .rw, 0⟩ /- XLAT_TABLE -/,
  ⟨0x2400, 0x243F, 4, 4, .u64, .rw, 0⟩ /- STEP_COUNTER -/,
  ⟨0x2400, 0x243F, 5, 5, .bool, .wo, 0⟩ /- STEP_ADVANCE -/,
  ⟨0x2400, 0x243F, 6, 6, .bool, .ro, 0⟩ /- STEP_SATURATED -/,
  ⟨0x2400, 0x243F, 7, 7, .u64, .ro, 0⟩ /- PROGRAM_HASH -/,
  ⟨0x2400, 0x243F, 8, 8, .u8, .ro, 0⟩ /- KEY_VALID -/,
  ⟨0x2400, 0x243F, 0x10, 0x17, .octets, .wo, 0⟩ /- SEED_KEY0 to SEED_KEY7 -/]

/-- Objects at fixed indices (R105, R191, R290, R375, R406, R450, R501, R529, R570, R597, R632, R665, R682, R685, R704, R706), part 4. -/
def deviceObjects3 : List ObjRow := [
  ⟨0x2400, 0x243F, 0x18, 0x1F, .u32, .ro, 0⟩ /- KEY_CHECK0 to KEY_CHECK7 -/,
  ⟨0x2400, 0x243F, 0x20, 0x20, .u8, .rw, 0⟩ /- OWNER_FN -/,
  ⟨0x2400, 0x243F, 0x21, 0x21, .u32, .rw, 0⟩ /- PASID -/,
  ⟨0x2400, 0x243F, 0x22, 0x22, .u64, .rw, 0⟩ /- MIRROR_ADDR -/,
  ⟨0x2400, 0x243F, 0x23, 0x23, .u8, .rw, 0⟩ /- MIRROR_LOG2 -/,
  ⟨0x2400, 0x243F, 0x24, 0x24, .u32, .ro, 0⟩ /- MIRROR_SEQ -/,
  ⟨0x2400, 0x243F, 0x25, 0x25, .u32, .rw, 0⟩ /- MIRROR_CONSUMED -/,
  ⟨0x2400, 0x243F, 0x26, 0x26, .u16, .ro, 0⟩ /- MIRROR_LOST -/,
  ⟨0x3001, 0x3001, 1, 1, .u8, .ro, 0⟩ /- MODULE_STATE -/,
  ⟨0x3001, 0x3001, 2, 2, .bool, .rw, 1⟩ /- POWER_CTRL -/,
  ⟨0x3001, 0x3001, 3, 3, .u16, .ro, 0⟩ /- INPUT_V -/,
  ⟨0x3001, 0x3001, 4, 4, .u16, .ro, 0⟩ /- INPUT_W -/,
  ⟨0x3010, 0x3010, 1, 1, .u16, .rw, 690⟩ /- SAG_WARN_V -/,
  ⟨0x3011, 0x3011, 1, 1, .u16, .rw, 610⟩ /- SAG_RESET_V -/,
  ⟨0x3012, 0x3012, 1, 1, .u16, .ro, 0⟩ /- SAG_WARNINGS -/,
  ⟨0x3012, 0x3012, 2, 2, .u16, .ro, 0⟩ /- SAG_RESETS -/,
  ⟨0x3020, 0x3020, 1, 1, .u16, .rw, 2000⟩ /- POWER_LIMIT_W -/,
  ⟨0x3020, 0x3020, 2, 2, .u16, .ro, 1600⟩ /- CORE_MHZ -/,
  ⟨0x3020, 0x3020, 3, 3, .u16, .ro, 1600⟩ /- POWER_CAP_MHZ -/,
  ⟨0x3020, 0x3020, 4, 4, .u16, .ro, 1600⟩ /- THERMAL_CAP_MHZ -/,
  ⟨0x3020, 0x3020, 5, 5, .u64, .ro, 0⟩ /- SNOWPLOW_STEPS -/,
  ⟨0x3020, 0x3020, 6, 6, .u16, .ro, 0⟩ /- CLAMPS -/,
  ⟨0x3020, 0x3020, 7, 7, .bool, .wo, 0⟩ /- CLEAR -/,
  ⟨0x3030, 0x3030, 1, 1, .u8, .rw, 100⟩ /- THROTTLE_J_C -/]

/-- Objects at fixed indices (R105, R191, R290, R375, R406, R450, R501, R529, R570, R597, R632, R665, R682, R685, R704, R706), part 5. -/
def deviceObjects4 : List ObjRow := [
  ⟨0x3030, 0x3030, 2, 2, .u8, .rw, 90⟩ /- THROTTLE_HBM_C -/,
  ⟨0x3030, 0x3030, 3, 3, .u8, .rw, 115⟩ /- TRIP_J_C -/,
  ⟨0x3030, 0x3030, 4, 4, .u8, .rw, 100⟩ /- TRIP_HBM_C -/,
  ⟨0x3031, 0x3031, 1, 0x22, .i32, .ro, 0⟩ /- TEMP_J0 to TEMP_J33 -/,
  ⟨0x3032, 0x3032, 1, 0x10, .i32, .ro, 0⟩ /- TEMP_H0 to TEMP_H15 -/,
  ⟨0x3040, 0x3040, 1, 1, .time, .rw, 0⟩ /- TIME_NS -/,
  ⟨0x3050, 0x3050, 1, 1, .bool, .ro, 0⟩ /- SNAP_VALID -/,
  ⟨0x3050, 0x3050, 2, 2, .u32, .ro, 0⟩ /- SNAP_SEQ -/,
  ⟨0x3050, 0x3050, 3, 3, .bool, .wo, 0⟩ /- SNAP_CLEAR -/,
  ⟨0x4000, 0x4000, 1, 1, .u32, .ro, 0⟩ /- HEAD -/,
  ⟨0x4000, 0x4000, 2, 2, .u32, .ro, 0⟩ /- OLDEST -/,
  ⟨0x4000, 0x4000, 3, 3, .octets, .ro, 0⟩ /- RECORDS -/,
  ⟨0x4000, 0x4000, 4, 4, .u8, .rw, 1⟩ /- NOTIFY_MIN_SEV -/,
  ⟨0x4000, 0x4000, 5, 5, .bool, .rwk, 0⟩ /- CLEAR -/,
  ⟨0x4000, 0x4000, 6, 6, .u16, .ro, 0⟩ /- EVENTS_LOST -/,
  ⟨0x4001, 0x4001, 1, 4, .octets, .rw, 0⟩ /- NOTIFY0 to NOTIFY3 -/,
  ⟨0x4010, 0x4010, 1, 1, .u64, .wo, 0⟩ /- RETIRE_PA -/,
  ⟨0x4010, 0x4010, 2, 2, .u16, .ro, 0⟩ /- DISCARDED_REPLIES -/,
  ⟨0x4010, 0x4010, 3, 3, .u16, .ro, 0⟩ /- CORES_FENCED -/,
  ⟨0x4100, 0x4100, 1, 1, .u8, .ro, 0⟩ /- RESULT -/,
  ⟨0x4100, 0x4100, 2, 2, .u8, .ro, 0⟩ /- FAIL_PHASE -/,
  ⟨0x4100, 0x4100, 3, 3, .bool, .rwk, 0⟩ /- ACCEPT_REDUCED -/,
  ⟨0x4100, 0x4100, 4, 4, .bool, .rwk, 0⟩ /- RETEST -/,
  ⟨0x4101, 0x4101, 1, 0xC, .u16, .ro, 0⟩ /- CLUSTER_RESULT -/]

/-- Objects at fixed indices (R105, R191, R290, R375, R406, R450, R501, R529, R570, R597, R632, R665, R682, R685, R704, R706), part 6. -/
def deviceObjects5 : List ObjRow := [
  ⟨0x4102, 0x4102, 1, 0x18, .u8, .ro, 0⟩ /- MEM_RESULT -/,
  ⟨0x4103, 0x4103, 1, 0x40, .u8, .ro, 0⟩ /- LINK_RESULT -/,
  ⟨0x4104, 0x4104, 1, 0xC, .u8, .ro, 0⟩ /- VIDEO_RESULT -/,
  ⟨0x4105, 0x4105, 1, 1, .u64, .ro, 0⟩ /- SFU_FAIL -/,
  ⟨0x6000, 0x6000, 1, 1, .u32, .rw, 131071⟩ /- MODULE_ID -/,
  ⟨0x6000, 0x6000, 2, 2, .u16, .rw, 0⟩ /- ROUTE_TABLE -/,
  ⟨0x6000, 0x6000, 3, 3, .u8, .const, 0⟩ /- LINK_DEFAULT -/,
  ⟨0x6000, 0x6000, 4, 4, .u16, .ro, 0⟩ /- NO_ROUTE -/,
  ⟨0x6000, 0x6000, 5, 5, .u16, .ro, 0⟩ /- TTL_DROPS -/,
  ⟨0x6000, 0x6000, 6, 6, .u16, .ro, 0⟩ /- POISONED -/,
  ⟨0x6000, 0x6000, 7, 7, .u16, .ro, 0⟩ /- BCAST_UNMATCHED -/,
  ⟨0x6000, 0x6000, 8, 8, .u16, .rw, 500⟩ /- HB_PERIOD_US -/,
  ⟨0x6000, 0x6000, 9, 9, .u8, .rw, 4⟩ /- HB_TIMEOUT_MS -/,
  ⟨0x6000, 0x6000, 0xA, 0xA, .bool, .wo, 0⟩ /- CLEAR -/,
  ⟨0x6001, 0x6001, 1, 0x20, .u32, .rw, 131071⟩ /- HB_PEER0 to HB_PEER31 -/,
  ⟨0x6080, 0x60BF, 1, 1, .u32, .rw, 0⟩ /- JOB_ID -/,
  ⟨0x6080, 0x60BF, 2, 2, .u32, .rw, 0⟩ /- REMOTE_KEYS -/,
  ⟨0x6080, 0x60BF, 3, 3, .u64, .ro, 0⟩ /- REMOTE_WRITES -/,
  ⟨0x6080, 0x60BF, 4, 4, .u16, .ro, 0⟩ /- REMOTE_REFUSED -/,
  ⟨0x6100, 0x613F, 1, 1, .u8, .ro, 0⟩ /- STATE -/,
  ⟨0x6100, 0x613F, 2, 2, .bool, .rw, 0⟩ /- ENABLE -/,
  ⟨0x6100, 0x613F, 3, 3, .bool, .wo, 0⟩ /- FORCE -/,
  ⟨0x6100, 0x613F, 4, 4, .u8, .rw, 0⟩ /- PMD -/,
  ⟨0x6100, 0x613F, 5, 5, .u8, .ro, 0⟩ /- LANES -/]

/-- Objects at fixed indices (R105, R191, R290, R375, R406, R450, R501, R529, R570, R597, R632, R665, R682, R685, R704, R706), part 7. -/
def deviceObjects6 : List ObjRow := [
  ⟨0x6100, 0x613F, 6, 6, .u32, .ro, 131071⟩ /- NEIGHBOUR_ID -/,
  ⟨0x6100, 0x613F, 7, 7, .u8, .ro, 255⟩ /- NEIGHBOUR_LINK -/,
  ⟨0x6100, 0x613F, 8, 8, .u64, .ro, 0⟩ /- FEC_CORRECTED -/,
  ⟨0x6100, 0x613F, 9, 9, .u16, .ro, 0⟩ /- FEC_UNCORR -/,
  ⟨0x6100, 0x613F, 0xA, 0xA, .u16, .ro, 0⟩ /- CRC_ERRORS -/,
  ⟨0x6100, 0x613F, 0xB, 0xB, .u64, .ro, 0⟩ /- REPLAYS -/,
  ⟨0x6100, 0x613F, 0xC, 0xC, .u64, .ro, 0⟩ /- FLITS_TX -/,
  ⟨0x6100, 0x613F, 0xD, 0xD, .u64, .ro, 0⟩ /- FLITS_RX -/,
  ⟨0x6100, 0x613F, 0xE, 0xE, .bool, .wo, 0⟩ /- CLEAR -/,
  ⟨0x6100, 0x613F, 0xF, 0xF, .bool, .ro, 0⟩ /- CABLE_PRESENT -/,
  ⟨0x7000, 0x7000, 1, 1, .u16, .const, 760⟩ /- HBM_DATA_GIB -/,
  ⟨0x7000, 0x7000, 2, 2, .u16, .const, Config.lpddrPresent * 127 / 2⟩ /- TIER_DATA_GIB -/,
  ⟨0x7000, 0x7000, 3, 3, .u8, .const, Config.lpddrPresent⟩ /- TIER_PACKAGES -/,
  ⟨0x7100, 0x710F, 1, 1, .u8, .ro, 1⟩ /- STATE -/,
  ⟨0x7100, 0x710F, 2, 2, .u64, .ro, 0⟩ /- BYTES_READ -/,
  ⟨0x7100, 0x710F, 3, 3, .u64, .ro, 0⟩ /- BYTES_WRITTEN -/,
  ⟨0x7100, 0x710F, 4, 4, .u64, .ro, 0⟩ /- P0_DEMOTED -/,
  ⟨0x7100, 0x710F, 5, 5, .u16, .ro, 0⟩ /- CE -/,
  ⟨0x7100, 0x710F, 6, 6, .u16, .ro, 0⟩ /- UE -/,
  ⟨0x7100, 0x710F, 7, 7, .u16, .ro, 0⟩ /- RETIRED -/,
  ⟨0x7100, 0x710F, 8, 8, .u16, .ro, 29696⟩ /- SPARES_FREE -/,
  ⟨0x7100, 0x710F, 9, 9, .bool, .wo, 0⟩ /- CLEAR -/,
  ⟨0x7200, 0x71FF + Config.lpddrPresent, 1, 1, .u8, .ro, 1⟩ /- STATE -/,
  ⟨0x7200, 0x7207, 2, 2, .u64, .ro, 0⟩ /- BYTES_READ -/]

/-- Objects at fixed indices (R105, R191, R290, R375, R406, R450, R501, R529, R570, R597, R632, R665, R682, R685, R704, R706), part 8. -/
def deviceObjects7 : List ObjRow := [
  ⟨0x7200 + Config.lpddrPresent, 0x7207, 1, 1, .u8, .ro, 0⟩ /- STATE, ABSENT (R418) -/,
  ⟨0x7200, 0x7207, 3, 3, .u64, .ro, 0⟩ /- BYTES_WRITTEN -/,
  ⟨0x7200, 0x7207, 4, 4, .u64, .ro, 0⟩ /- P0_DEMOTED -/,
  ⟨0x7200, 0x7207, 5, 5, .u16, .ro, 0⟩ /- CE -/,
  ⟨0x7200, 0x7207, 6, 6, .u16, .ro, 0⟩ /- UE -/,
  ⟨0x7200, 0x7207, 7, 7, .u16, .ro, 0⟩ /- RETIRED -/,
  ⟨0x7200, 0x7207, 8, 8, .u16, .ro, 1024⟩ /- SPARES_FREE -/,
  ⟨0x7200, 0x7207, 9, 9, .bool, .wo, 0⟩ /- CLEAR -/,
  ⟨0x7300, 0x7300, 1, 1, .u16, .rw, 24⟩ /- PERIOD_H -/,
  ⟨0x7300, 0x7300, 2, 2, .u16, .rw, 24⟩ /- TIER_PERIOD_H -/,
  ⟨0x7300, 0x7300, 3, 3, .u8, .rw, 3⟩ /- CE_THRESHOLD -/,
  ⟨0x7300, 0x7300, 4, 4, .u64, .ro, 0⟩ /- PASSES -/,
  ⟨0x7300, 0x7300, 5, 5, .time, .ro, 0⟩ /- LAST_PASS -/,
  ⟨0x7400, 0x740F, 1, 1, .u64, .ro, 0⟩ /- PAIRINGS -/,
  ⟨0x7400, 0x740F, 2, 2, .u64, .ro, 0⟩ /- PASSTHROUGHS -/,
  ⟨0x7400, 0x740F, 3, 3, .u16, .ro, 0⟩ /- DUPLICATES -/,
  ⟨0x7400, 0x740F, 4, 4, .u16, .ro, 0⟩ /- STALE -/,
  ⟨0x7400, 0x740F, 5, 5, .u64, .ro, 0⟩ /- SPILLS -/,
  ⟨0x7400, 0x740F, 6, 6, .u16, .ro, 0⟩ /- OPEN -/,
  ⟨0x7400, 0x740F, 7, 7, .bool, .wo, 0⟩ /- CLEAR -/,
  ⟨0x7400, 0x740F, 8, 8, .u16, .ro, 2048⟩ /- GRANULES_FREE -/,
  ⟨0x8000, 0x8000, 1, 1, .u64, .rw, 0⟩ /- STATE_PA -/,
  ⟨0x8000, 0x8000, 2, 2, .u16, .ro, 0⟩ /- STREAMS_OPEN -/,
  ⟨0x8000, 0x8000, 3, 3, .u32, .const, 0⟩ /- ENC_MODEL -/,
  ⟨0x8100, 0x8107, 1, 1, .bool, .rw, 1⟩ /- ENABLE -/]

/-- Objects at fixed indices (R105, R191, R290, R375, R406, R450, R501, R529, R570, R597, R632, R665, R682, R685, R704, R706), part 9. -/
def deviceObjects8 : List ObjRow := [
  ⟨0x8100, 0x8107, 2, 2, .u8, .ro, 0⟩ /- STATE -/,
  ⟨0x8100, 0x8107, 3, 3, .bool, .wo, 0⟩ /- FORCE -/,
  ⟨0x8100, 0x8107, 4, 4, .bool, .wo, 0⟩ /- RESET -/,
  ⟨0x8100, 0x8107, 5, 5, .u64, .ro, 0⟩ /- FRAMES -/,
  ⟨0x8100, 0x8107, 6, 6, .u64, .ro, 0⟩ /- SAMPLES -/,
  ⟨0x8100, 0x8107, 7, 7, .u64, .ro, 0⟩ /- SWITCHES -/,
  ⟨0x8100, 0x8107, 8, 8, .u16, .ro, 0⟩ /- ERRORS -/,
  ⟨0x8100, 0x8107, 9, 9, .bool, .wo, 0⟩ /- CLEAR -/,
  ⟨0x8180, 0x8183, 1, 1, .bool, .rw, 1⟩ /- ENABLE -/,
  ⟨0x8180, 0x8183, 2, 2, .u8, .ro, 0⟩ /- STATE -/,
  ⟨0x8180, 0x8183, 3, 3, .bool, .wo, 0⟩ /- FORCE -/,
  ⟨0x8180, 0x8183, 4, 4, .bool, .wo, 0⟩ /- RESET -/,
  ⟨0x8180, 0x8183, 5, 5, .u64, .ro, 0⟩ /- FRAMES -/,
  ⟨0x8180, 0x8183, 6, 6, .u64, .ro, 0⟩ /- SAMPLES -/,
  ⟨0x8180, 0x8183, 7, 7, .u64, .ro, 0⟩ /- SWITCHES -/,
  ⟨0x8180, 0x8183, 8, 8, .u16, .ro, 0⟩ /- ERRORS -/,
  ⟨0x8180, 0x8183, 9, 9, .bool, .wo, 0⟩ /- CLEAR -/,
  ⟨0x8200, 0x820F, 1, 1, .u8, .rw, 255⟩ /- CONTEXT -/,
  ⟨0x8200, 0x820F, 2, 2, .u64, .rw, 0⟩ /- RING_ADDR -/,
  ⟨0x8200, 0x820F, 3, 3, .u8, .rw, 6⟩ /- RING_LOG2 -/,
  ⟨0x8200, 0x820F, 4, 4, .u64, .rw, 0⟩ /- COMPL_ADDR -/,
  ⟨0x8200, 0x820F, 5, 5, .u32, .rw, 0⟩ /- LIMIT -/,
  ⟨0x8200, 0x820F, 6, 6, .u32, .ro, 0⟩ /- NEXT -/,
  ⟨0x9000, 0x9000, 1, 1, .u16, .rw, 50⟩ /- LEASE_MS -/]

/-- Objects at fixed indices (R105, R191, R290, R375, R406, R450, R501, R529, R570, R597, R632, R665, R682, R685, R704, R706), part 10. -/
def deviceObjects9 : List ObjRow := [
  ⟨0x9000, 0x9000, 2, 2, .u16, .ro, 0⟩ /- OPEN_GROUPS -/,
  ⟨0x9100, 0x913F, 1, 1, .u8, .ro, 0⟩ /- STATE -/,
  ⟨0x9100, 0x913F, 2, 2, .bool, .wo, 0⟩ /- PREEMPT -/,
  ⟨0x9100, 0x913F, 3, 3, .bool, .wo, 0⟩ /- RESTORE -/,
  ⟨0x9100, 0x913F, 4, 4, .u64, .rw, 0⟩ /- SAVE_ADDR -/,
  ⟨0x9100, 0x913F, 5, 5, .u64, .ro, 0⟩ /- SAVE_BYTES -/,
  ⟨0x9100, 0x913F, 6, 6, .u8, .rw, 0⟩ /- SPLIT_MODE -/,
  ⟨0x9100, 0x913F, 7, 7, .u64, .rw, 0⟩ /- LOG_ADDR -/,
  ⟨0x9100, 0x913F, 8, 8, .u32, .rw, 1024⟩ /- LOG_ENTRIES -/,
  ⟨0x9100, 0x913F, 9, 9, .u32, .rw, 0⟩ /- LOG_SEQ -/,
  ⟨0x9100, 0x913F, 0xA, 0xA, .u32, .rw, 0⟩ /- LOG_CONSUMED -/,
  ⟨0x9100, 0x913F, 0xB, 0xB, .u64, .rw, 140800000000⟩ /- RATE0 -/,
  ⟨0x9100, 0x913F, 0xC, 0xC, .u64, .ro, 0⟩ /- RATE -/,
  ⟨0x9100, 0x913F, 0xD, 0xD, .u64, .ro, 0⟩ /- TASKS_DONE -/,
  ⟨0x9100, 0x913F, 0xE, 0xE, .u16, .ro, 0⟩ /- REISSUED -/,
  ⟨0x9100, 0x913F, 0xF, 0xF, .u16, .ro, 0⟩ /- LEASE_LOST -/,
  ⟨0x9100, 0x913F, 0x10, 0x10, .u16, .ro, 0⟩ /- SWITCHES -/,
  ⟨0x9100, 0x913F, 0x11, 0x11, .u16, .ro, 0⟩ /- LOG_FULL -/,
  ⟨0x9100, 0x913F, 0x12, 0x12, .u16, .wo, 0⟩ /- FORCE_SWITCH -/,
  ⟨0x9100, 0x913F, 0x13, 0x13, .bool, .wo, 0⟩ /- CLEAR -/,
  ⟨0x9200, 0x923F, 1, 1, .bool, .wo, 0⟩ /- COMMIT -/,
  ⟨0x9200, 0x923F, 2, 2, .u64, .rw, 0⟩ /- COMMIT_ADDR -/,
  ⟨0x9200, 0x923F, 3, 4, .u64, .rw, 0⟩ /- REPLICA_DST0, REPLICA_DST1 -/,
  ⟨0x9200, 0x923F, 5, 5, .u8, .ro, 0⟩ /- COMMIT_STATE -/]

/-- Objects at fixed indices (R105, R191, R290, R375, R406, R450, R501, R529, R570, R597, R632, R665, R682, R685, R704, R706), part 11. -/
def deviceObjects10 : List ObjRow := [
  ⟨0x9200, 0x923F, 6, 6, .u32, .ro, 0⟩ /- COMMITTED_SEQ -/,
  ⟨0x9200, 0x923F, 7, 7, .u64, .wo, 0⟩ /- RESTORE_COMMIT -/,
  ⟨0x9200, 0x923F, 8, 8, .u8, .rw, 0⟩ /- QUEUE_BASE -/,
  ⟨0x9200, 0x923F, 0x10, 0x17, .u64, .rw, 0⟩ /- EXTRA0 to EXTRA7 -/,
  ⟨0xA000, 0xA000, 1, 1, .bool, .rw, 1⟩ /- ENABLE -/,
  ⟨0xA000, 0xA000, 2, 2, .u8, .ro, 0⟩ /- STATE -/,
  ⟨0xA000, 0xA000, 3, 3, .bool, .wo, 0⟩ /- FORCE -/,
  ⟨0xA000, 0xA000, 4, 4, .u64, .rw, 0⟩ /- RING_PA -/,
  ⟨0xA000, 0xA000, 5, 5, .u8, .rw, 8⟩ /- RING_LOG2 -/,
  ⟨0xA000, 0xA000, 6, 6, .u64, .rw, 0⟩ /- COMPL_PA -/,
  ⟨0xA000, 0xA000, 7, 7, .u32, .rw, 0⟩ /- RING_LIMIT -/,
  ⟨0xA000, 0xA000, 8, 8, .u32, .ro, 0⟩ /- RING_NEXT -/,
  ⟨0xA000, 0xA000, 9, 9, .u64, .ro, 0⟩ /- BYTES_IN -/,
  ⟨0xA000, 0xA000, 0xA, 0xA, .u16, .ro, 0⟩ /- BLOCKS_FAILED -/,
  ⟨0xA000, 0xA000, 0xB, 0xB, .bool, .wo, 0⟩ /- CLEAR -/,
  ⟨0xA100, 0xA107, 1, 1, .u64, .rw, 0⟩ /- WINDOW_BYTES -/,
  ⟨0xA100, 0xA107, 2, 2, .u32, .ro, 0⟩ /- CURRENT -/,
  ⟨0xA100, 0xA107, 3, 5, .u64, .rw, 0⟩ /- ENTRY_PA0 to ENTRY_PA2 -/,
  ⟨0xA100, 0xA107, 6, 8, .u8, .ro, 0⟩ /- ENTRY_STATE0 to ENTRY_STATE2 -/,
  ⟨0xA100, 0xA107, 9, 0xB, .u32, .ro, 0⟩ /- ENTRY_VERSION0 to ENTRY_VERSION2 -/,
  ⟨0xA100, 0xA107, 0xC, 0xE, .u32, .ro, 0⟩ /- ENTRY_REFS0 to ENTRY_REFS2 -/,
  ⟨0xA100, 0xA107, 0xF, 0xF, .u64, .rw, 0⟩ /- ARCHIVE_PA -/,
  ⟨0xA100, 0xA107, 0x10, 0x10, .u64, .rw, 0⟩ /- ARCHIVE_STRIDE -/,
  ⟨0xA100, 0xA107, 0x11, 0x11, .u16, .rw, 0⟩ /- ARCHIVE_COUNT -/]

/-- Objects at fixed indices (R105, R191, R290, R375, R406, R450, R501, R529, R570, R597, R632, R665, R682, R685, R704, R706), part 12. -/
def deviceObjects11 : List ObjRow := [
  ⟨0xA100, 0xA107, 0x12, 0x12, .u32, .ro, 0⟩ /- ARCHIVE_NEXT -/,
  ⟨0xA200, 0xA200, 1, 1, .u16, .ro, 0⟩ /- TABLES -/,
  ⟨0xA200, 0xA200, 2, 2, .u64, .ro, 0⟩ /- TABLE_FLIPS -/,
  ⟨0xA200, 0xA200, 3, 3, .u16, .rw, 0⟩ /- TABLE_QUERY -/,
  ⟨0xA200, 0xA200, 4, 4, .u8, .ro, 0⟩ /- Q_TYPE -/,
  ⟨0xA200, 0xA200, 5, 5, .u32, .ro, 0⟩ /- Q_EPOCH -/,
  ⟨0xA200, 0xA200, 6, 6, .u8, .ro, 0⟩ /- Q_STATES -/,
  ⟨0xA200, 0xA200, 7, 7, .u64, .ro, 0⟩ /- Q_REFS -/]

/-- Objects at fixed indices (R105, R191, R290, R375, R406, R450, R501, R529, R570, R597, R632, R665, R682, R685, R704, R706). -/
def deviceObjects : List ObjRow := deviceObjects0 ++ deviceObjects1 ++ deviceObjects2 ++ deviceObjects3 ++ deviceObjects4 ++ deviceObjects5 ++ deviceObjects6 ++ deviceObjects7 ++ deviceObjects8 ++ deviceObjects9 ++ deviceObjects10 ++ deviceObjects11

/-- The row of a table that holds an index and a subindex. -/
def findRow (rows : List ObjRow) (idx sub : Nat) : Option ObjRow :=
  rows.find? (fun r => r.lo ≤ idx && idx ≤ r.hi && r.subLo ≤ sub && sub ≤ r.subHi)

/-- The row of an object (R681); none where the module has no such object. -/
def objRow (idx sub : Nat) : Option ObjRow :=
  if 0x5000 ≤ idx ∧ idx ≤ 0x5BFF then
    let low := idx % 0x100
    if low < 0x80 then findRow coreObjects (low % 0x10) sub else findRow clusterObjects low sub
  else findRow deviceObjects idx sub

/-- The key of an object in the register file. -/
def objKey (idx sub : Nat) : Nat := idx * 256 + sub

/-- The default of an object, by its key. -/
def objDefault (key : Nat) : Nat :=
  match objRow (key / 256) (key % 256) with
  | some r => r.dflt
  | none => 0

/-- The size of a value of a type in bytes; none for those without a fixed one (R679). -/
def ObjType.size : ObjType → Option Nat
  | .bool => some 1
  | .u8 => some 1
  | .u16 => some 2
  | .u32 => some 4
  | .u64 => some 8
  | .i32 => some 4
  | .f32 => some 4
  | .time => some 8
  | .str => none
  | .octets => none

end Sys2Proof.Machine
end

