-- ==== Sys2Proof/Machine/State.lean ====
section
/-! DEFINITION. The state of the module: every register, memory, ring, buffer, table and queue the spec gives it,
as plain data. Sparse stores are `NMap`s in canonical form. An object of the dictionary has its value in one
place: in `objs`, or in the structured field that its chapter describes (then the accessors compute it). -/

namespace Sys2Proof.Machine

/-! ### Cores (spec/04, spec/05, spec/06) -/

/-- A ring of operand SRAM (R125 to R128). -/
structure Ring where
  /-- Bits [127:64] of the ring entry as the RING command wrote them. -/
  entry : Nat
  filled : Nat
  freed : Nat
  /-- Released slab numbers that FREED has not yet passed (R128). -/
  released : List Nat
  /-- Number of the next slab a producing command delivers (R136). -/
  nextFill : Nat
  /-- Number of the next slab a consuming command reads (R136). -/
  nextRead : Nat
  /-- CRC-32C of each 4 KiB span of the slabs that an epilogue with CSUM = 1 has stored, by slab number (R231). -/
  sums : NMap (List Nat)
  deriving DecidableEq, Repr

/-- A ring that no RING command has written. -/
def Ring.empty : Ring := ⟨0, 0, 0, [], 0, 0, []⟩

/-- A slab that a producer has ready for a ring, in order (R127): runs of bytes by offset in the slab, none where they
stand in place. -/
structure Delivery where
  ring : Nat
  slab : Nat
  data : List (Nat × List Byte)
  /-- The tag of the descriptor whose writes this delivery completes (TAG_EN, R245). -/
  tag : Option Nat
  /-- The slab's CRC values are taken as it is stored (CSUM of its epilogue, R231). -/
  sum : Bool
  deriving DecidableEq, Repr

/-- One bank of the weight buffer (R121): the command, the slab and the pass it holds, and its element and scale
bytes; for Pair-BF16 and FP32 the 64 KiB of bfloat16 pieces that the pass needs (R118). -/
structure Bank where
  tile : Nat
  slab : Nat
  pass : Nat
  data : List Byte
  deriving DecidableEq, Repr

/-- A node on a tree stack: leaves [a, b) and its records (R86). `none` is an absent node (R76, R236). -/
structure StackEntry where
  a : Nat
  b : Nat
  recs : Option (List (List Nat))
  deriving DecidableEq, Repr

/-- An open or finished sub-tile of an active command (R147 to R150). -/
structure SubTile where
  mi : Nat
  ni : Nat
  /-- The leaf being accumulated and the slices folded into it. -/
  leaf : Nat
  slices : Nat
  acc : List Nat
  /-- Elements made NaN in the arrays (R56), by row × 512 + column. -/
  nanAt : List Nat
  stack : List StackEntry
  done : Bool
  deriving DecidableEq, Repr

/-- The vector and mask registers of a routine between two pieces of its command's section, and the epoch of those that
are not listed (R221). -/
structure Regs where
  vregs : NMap (List W32)
  masks : NMap (Option (BitVec 512))
  epoch : Nat
  deriving DecidableEq, Repr

/-- A MODE 0 generator of a section that takes slabs of its ring (R217): its number, the first slab that it takes (R136), and whether
the section fills its slabs. -/
structure GenUse where
  gen : Nat
  first : Nat
  makes : Bool
  deriving DecidableEq, Repr

/-- An MMA_TILE or SCHUSS command that has started and not yet finished (R131, R133, R152). -/
structure Tile where
  /-- Serial number of the command within its task. -/
  num : Nat
  schuss : Bool
  cmd : Nat
  binding : Nat
  /-- First slab numbers of the command in A_RING, W_RING, O_RING and PRO_RING (R136). -/
  aBase : Nat
  wBase : Nat
  oBase : Nat
  pBase : Nat
  /-- Run-time extents (R140). -/
  rtM : Nat
  rtN : Nat
  rtL : Nat
  /-- MMAs issued so far in the order of the loop (R134). -/
  issued : Nat
  /-- The whole reservation has been taken (R148). -/
  reserved : Bool
  /-- Steps after which a yield point has been passed (R144). -/
  yielded : Nat
  subs : List SubTile
  /-- Sub-tiles drained, in drain order, as mi × 4 + ni (R150). -/
  drained : List Nat
  /-- Prologue slabs written (R227). -/
  proDone : Nat
  /-- Statistic stacks of the command, keyed row × 32 + slot (R236, R240). -/
  stats : NMap (List StackEntry)
  /-- Slices skipped by Glide (R364), as mi × 2^20 + slice. -/
  skips : List Nat
  /-- Registers of the command's epilogue and prologue, once their heads have run (R221). -/
  epiRegs : Option Regs
  proRegs : Option Regs
  /-- Generators that its epilogue and its prologue take slabs with (R217). -/
  epiGens : List GenUse
  proGens : List GenUse
  deriving DecidableEq, Repr

/-- What a routine section runs over (R219). -/
inductive SectionKind where
  | prologue | epilogue | finishing | standalone
  deriving DecidableEq, Repr

/-- A routine section in progress on a core (R219 to R221). -/
structure Section where
  kind : SectionKind
  /-- Byte number of the entry in the routine image (R205). -/
  entry : Nat
  /-- The command it belongs to (the tile's number), and its binding block. -/
  tile : Nat
  binding : Nat
  /-- Prologue: slab index within the command. Epilogue and finishing: mi × 4 + ni. Standalone: 0. -/
  piece : Nat
  /-- Next row of the section. -/
  row : Nat
  /-- The head has run. -/
  head : Bool
  /-- ROUTINE: the finishing section runs (SECTION = 1). -/
  fin : Bool
  /-- Generators that take slabs here, and the slab number of each of the eight in this unit of work (R217). -/
  gens : List GenUse
  slabs : List Nat
  /-- Records formed by this step's STAT_LEAF, keyed row × 32 + slot (R230). -/
  stepStats : NMap (List Nat)
  deriving DecidableEq, Repr

/-- A held sub-tile of a row-deferred group (R236). -/
structure Held where
  tile : Nat
  cmd : Nat
  binding : Nat
  rtM : Nat
  rtN : Nat
  ni : Nat
  oSlab : Nat
  /-- Its generators and their slab numbers (R217), and its binary32 values, row × 512 + column. -/
  gens : List GenUse
  slabs : List Nat
  vals : List Nat
  deriving DecidableEq, Repr

/-- A row-deferred group (R234 to R237). -/
structure Group where
  /-- Number of its first command. -/
  first : Nat
  entry : Nat
  row0 : Nat
  ntot : Nat
  /-- COL0 that the next command of the group must have. -/
  nextCol : Nat
  held : List Held
  stats : NMap (List StackEntry)
  /-- The last command's tile section is complete (R237), and the registers of the finishing section once its head has
  run (R221). -/
  closing : Bool
  finRegs : Option Regs
  /-- A command between its members broke the group (R234). -/
  broken : Bool
  deriving DecidableEq, Repr

/-- Where the records of a staged contribution stand (R139, R240). -/
inductive ContribSrc where
  | slab (ring slab off words : Nat)
  | data (words : List Nat)
  deriving DecidableEq, Repr

/-- A contribution staged until its task commits (R143). -/
structure Staged where
  kind : Nat
  gen : Nat
  redId : Nat
  block : Nat
  a : Nat
  b : Nat
  src : ContribSrc
  /-- Elements of it made NaN in the arrays (R151). -/
  nans : Nat
  deriving DecidableEq, Repr

/-- A LEAF_DONE range that a task sends after its contributions (R97). -/
structure StagedDone where
  gen : Nat
  redId : Nat
  a : Nat
  b : Nat
  deriving DecidableEq, Repr

/-- A tensor mover descriptor issued by a task (R245), with the epoch tag of its context's translation table
(R257) and of its SRC_TABLE, when it is tagged. -/
structure Mv where
  desc : Nat
  /-- Reference held on a bank: table identifier and epoch (R524). -/
  xlat : Option (Nat × Nat)
  src : Option (Nat × Nat)
  /-- Reference held on the box list of a CROP (R312). -/
  box : Option (Nat × Nat)
  /-- The source address is physical: a fill from a cluster buffer (R286); the buffer's base and the bytes of its elements
  where it has the Herringbone layout (R283). -/
  phys : Bool
  turned : Option (Nat × Nat)
  /-- Remote move: its serial number once its packets have left (R553). -/
  serial : Option Nat
  /-- Re-executed after a restore: slabs its ring has passed are discarded (R486). -/
  again : Bool
  /-- Its tag was incremented before a save (R486). -/
  tagged : Bool
  /-- Slabs of its ring destination that it has made: each once its own bytes have landed (R244, R556). -/
  sent : Nat
  /-- A GATHER with a ring destination has run: the bits of its bitmap, which its task's commit writes (R268, R615). -/
  bits : Option (List Bool) := none
  deriving DecidableEq, Repr

/-- A task on a core (R457, R466, R402). -/
structure Task where
  uid : Nat
  desc : Nat
  ctx : Nat
  qcl : Nat
  q : Nat
  /-- The plan a plan tile belongs to. -/
  plan : Option Nat
  pos : Nat
  leaseSeq : Nat
  step : Nat
  /-- The seed key captured at the start (R402). -/
  key : Option (BitVec 256)
  /-- Index of the next command, its list when it is generated from a template (R286), and the commands started. -/
  cmdIndex : Nat
  cmds : List Nat
  cmdNum : Nat
  imageDone : Bool
  /-- Opcode of the WAIT or YIELD in progress (R131), and whether its yield point has been passed (R475, R477). -/
  hold : Option Nat
  yieldReported : Bool
  ended : Bool
  committed : Bool
  /-- It committed as the current holder (R470), and when. -/
  current : Bool
  commitTime : Nat
  /-- Status codes that apply so far (R14). -/
  codes : List Nat
  ev : Ev
  dups : Nat
  signals : List (Nat × Nat)
  moves : List Mv
  commitMoves : List Mv
  staged : List Staged
  dones : List StagedDone
  /-- CRC and count of the commands started, for containment mode (R626). -/
  sigBytes : List Byte
  liveKib : Nat
  /-- A contribution of the task met rule 3 or 5 (R97). -/
  badContrib : Bool
  /-- Physical ranges of the destinations of its commit-time descriptors, once it commits (R13). -/
  regions : List (Nat × Nat)
  /-- The glide record that the descriptor names (R350), none where it names none. -/
  glide : Option Nat
  /-- Glide: the mode the task runs in (R356, R363), and whether its pass has run. -/
  gFull : Bool
  gDone : Bool
  /-- Glide: staged writes (virtual address, bytes) of the delta buffer and X_REF, those of the tables, the addresses of the stamps they go with, and the counts of the
  counter record in its order (R359, R368, R373). -/
  gOut : List (Nat × List Byte)
  gTabs : List (Nat × List Byte)
  gStamps : List Nat
  gCounts : List Nat
  /-- Address of the save record that the core has written (R481). -/
  saveAddr : Nat
  /-- Which group of its identifier it was taken for (see `SplitGroup.since`). -/
  group : Nat
  deriving DecidableEq, Repr

/-- One core site. -/
structure CoreSt where
  task : Option Task
  rings : NMap Ring
  sram : NMap Byte
  bank0 : Option Bank
  bank1 : Option Bank
  tiles : List Tile
  /-- The row-deferred group that commands last joined, and complete ones before it whose finishing sections have yet to end. -/
  group : Option Group
  older : List Group
  sect : Option Section
  /-- Standalone routines whose command has started (R131). -/
  routines : List Section
  deliveries : List Delivery
  /-- Rings that RING commands later than a command in progress have rewritten: the command's number, the ring and what
  it was before (R144, R481). -/
  prior : List (Nat × Nat × Ring)
  /-- Routine memory (R204) and whether an image is resident (R207). -/
  rmem : NMap Byte
  resident : Bool
  /-- Vector registers and mask registers m1 to m15 by number (R159, R161, R162), and the epoch of the undefined
  contents of those that are not listed (R221): 0 before the first head, when they read as zero. -/
  vregs : NMap (List W32)
  masks : NMap (Option (BitVec 512))
  epoch : Nat
  /-- Core cycles without progress (R146). -/
  wdCount : Nat
  /-- UNFENCE has been written and the tests run (R602). -/
  testing : Bool
  deriving DecidableEq, Repr

/-- A core with nothing in it. -/
def CoreSt.empty : CoreSt :=
  { task := none, rings := [], sram := [], bank0 := none, bank1 := none, tiles := [], group := none, older := [], sect := none,
    routines := [], deliveries := [], prior := [], rmem := [], resident := false, vregs := [], masks := [],
    epoch := 0, wdCount := 0, testing := false }

/-! ### Dispatch (spec/13, spec/07) -/

/-- States of a lease entry (R468). -/
inductive LeaseState where
  | running | saved | expired | committed
  deriving DecidableEq, Repr

/-- A lease entry of a cluster's lease table (R468). Its place in the list is its place in the table. -/
structure Lease where
  valid : Bool
  state : LeaseState
  queue : Nat
  site : Nat
  /-- The plan of a plan tile. -/
  plan : Option Nat
  pos : Nat
  seq : Nat
  expires : Nat
  /-- Owning context, and the reference it holds on a weight version: slot and version (R508). -/
  ctx : Nat
  bound : Option (Nat × Nat)
  /-- The descriptor that was taken, the generated commands of a plan tile (R286), and the captured step counter and
  seed key (R402), which a re-issue keeps. -/
  desc : Nat
  cmds : List Nat
  step : Nat
  key : Option (BitVec 256)
  /-- Which group of its identifier the position was taken for (see `SplitGroup.since`). -/
  group : Nat
  deriving DecidableEq, Repr

/-- A saved task awaiting restore in its queue (R484): where its task save record stands, the cluster that served it, its
queue's cluster and number, and its position. -/
structure SavedTask where
  addr : Nat
  ctx : Nat
  cl : Nat
  qcl : Nat
  q : Nat
  pos : Nat
  plan : Option Nat
  /-- The task's counters, which its record carries on (R474). -/
  ev : Ev
  dups : Nat
  /-- Events of its staged contributions, and elements made NaN in its open sub-tiles as (sub-tile, element) numbers, which
  have not been counted (R151). -/
  staged : Nat
  nans : List Nat
  /-- The CRC values that its saved slabs carry (R231): ring, slab number and values. -/
  sums : List (Nat × Nat × List Nat)
  deriving DecidableEq, Repr

/-- A queue's working state beside its objects and its relay counter (R452 to R465). -/
structure Queue where
  reissue : List Nat
  saved : List SavedTask
  /-- Positions taken whose completion record is not written (R453). -/
  open_ : List Nat
  deriving DecidableEq, Repr

/-- An empty queue. -/
def Queue.empty : Queue := ⟨[], [], []⟩

/-- A cluster buffer of a plan: for A (kind 0) or W (kind 1), number 0 or 1, and the block it holds: the row or column
of cluster tiles and the K range (R287). -/
structure PlanBuf where
  kind : Nat
  idx : Nat
  blk : Nat × Nat
  deriving DecidableEq, Repr

/-- A participating cluster's part of a plan (R284, R287): its chunk, the cluster's counter over core tiles, the blocks
in its buffers, and the positions to serve first. -/
structure PlanCl where
  chunk : Option Nat
  next : Nat
  limit : Nat
  bufs : List PlanBuf
  reissue : List Nat
  saved : List SavedTask
  deriving DecidableEq, Repr

/-- A part that has taken no chunk. -/
def PlanCl.empty : PlanCl := ⟨none, 0, 0, [], [], []⟩

/-- A tiling plan being walked (R283 to R288). -/
structure Plan where
  id : Nat
  cl : Nat
  q : Nat
  pos : Nat
  ctx : Nat
  desc : Nat
  record : Nat
  /-- The template's commands, END included (R284). -/
  tmpl : List Nat
  /-- The relay counter over chunks. -/
  nextChunk : Nat
  parts : NMap PlanCl
  codes : List Nat
  dups : Nat
  ev : Ev
  /-- Reference held on the translation bank at the plan's issue, and on a weight version (R287, R508). -/
  xlat : Option (Nat × Nat)
  bound : Option (Nat × Nat)
  /-- The captured step counter and seed key (R402). -/
  step : Nat
  key : Option (BitVec 256)
  deriving DecidableEq, Repr

/-- States of a Split Timer group (R488, R492, R496). -/
inductive GroupState where
  | open_ | switched | closed
  deriving DecidableEq, Repr

/-- A Split Timer group (R488). -/
structure SplitGroup where
  ctx : Nat
  id : Nat
  record : Nat
  state : GroupState
  fromStep : Nat
  maxStep : Option Nat
  remaining : Nat
  /-- The replay tag fields of a switched group (R408): the sequence of its decision record. -/
  seq : Nat
  switched : Bool
  fbSlot : Nat
  fbVersion : Nat
  /-- Numbers the groups that one identifier has named (R496): the number of the next task when it opened. -/
  since : Nat
  deriving DecidableEq, Repr

/-- A context's dispatch state beside its objects (R451, R478, R490, R617). -/
structure Ctx where
  prog : Option Program
  /-- (commit time, WORK) of the tasks committed in the last 10 ms (R490), and when the program was loaded. -/
  work : List (Nat × Nat)
  loadedAt : Nat
  keys : List (Option (BitVec 256))
  /-- A save write failed: the context can only be unloaded (R483). -/
  saveFailed : Bool
  /-- Task save records of the current save: address past the last, and the tasks saved, with their counters. -/
  saveNext : Nat
  saveTasks : List SavedTask
  tagsLost : Bool
  /-- Sequence at which the records that REPLAY applies begin: LOG_CONSUMED as it was last written (R499, R501). -/
  replayFrom : Nat
  /-- Commit in progress (R617, R619): 0 waiting for the context to be quiet, 1 local record written and the blocks of the
  remote copies sent, 2 their headers sent; the header; a copy that cannot be written; the next COMMIT_SEQ. -/
  commitStage : Nat
  commitHdr : List Byte
  commitFailed : Bool
  commitNext : Nat
  deriving DecidableEq, Repr

/-- A context that no program has been loaded into. -/
def Ctx.empty : Ctx :=
  { prog := none, work := [], loadedAt := 0, keys := List.replicate 8 none, saveFailed := false, saveNext := 0,
    saveTasks := [], tagsLost := false, replayFrom := 0, commitStage := 0, commitHdr := [], commitFailed := false,
    commitNext := 1 }

/-- A contribution or marker that has left its task and has not yet been processed by its adder (R95, R143). -/
structure InFlight where
  /-- The task that sent it. -/
  uid : Nat
  adder : Nat
  hdr : Nat
  recs : List Byte
  deriving DecidableEq, Repr

/-- A contribution or marker sent to another module's home that awaits CONTRIB_ACK (R559): the task that sent it and its cluster, and its
header. -/
structure Awaited where
  uid : Nat
  cl : Nat
  hdr : Nat
  deriving DecidableEq, Repr

/-- The dispatchers. -/
structure Disp where
  queues : NMap Queue
  /-- Lease tables by cluster. -/
  leases : NMap (List Lease)
  /-- Queue served last, by cluster (R464). -/
  lastQ : NMap Nat
  plans : List Plan
  groups : List SplitGroup
  ctxs : NMap Ctx
  nextUid : Nat
  nextPlan : Nat
  inflight : List InFlight
  /-- Contributions and markers that await CONTRIB_ACK (R559). -/
  awaitAck : List Awaited
  deriving DecidableEq, Repr

/-! ### Memory-side adders (spec/03) -/

/-- A pending value (R95): the node it is the value of and its records; its slot of the spill region where no granule
was free (R103). -/
structure Slot where
  a : Nat
  b : Nat
  recs : List (List Nat)
  spilled : Option Nat
  deriving DecidableEq, Repr

/-- One output block of an open reduction (R95, R97 to R99). -/
structure OutBlock where
  adder : Nat
  /-- Nodes whose occupancy bit is set. -/
  occ : List (Nat × Nat)
  /-- Leaf ranges marked done. -/
  doneRanges : List (Nat × Nat)
  slots : List Slot
  handled : Bool
  deriving DecidableEq, Repr

/-- Status of a registration (R95, R105, R106). -/
inductive RedStatus where
  | open_ | closed | cancelled | forwarding
  deriving DecidableEq, Repr

/-- A registered reduction (R91, R101). -/
structure Reduction where
  ctx : Nat
  id : Nat
  gen : Nat
  desc : Nat
  status : RedStatus
  step : Nat
  /-- The seed key captured at the start (R402). -/
  key : Option (BitVec 256)
  /-- KEY_RIGHTS of the context when the reduction opened: no access of its adders fails protection later (R92). -/
  rights : Nat
  /-- Reference held on the translation bank (R92). -/
  xlat : Option (Nat × Nat)
  blocks : List OutBlock
  dups : Nat
  stale : Nat
  ev : Ev
  unwritten : Bool
  /-- Home module of a forwarding registration (R558). -/
  home : Nat
  deriving DecidableEq, Repr

/-! ### Chairlift (spec/14) -/

/-- A weight entry's contents beside its objects (R504, R509, R513). -/
structure Entry where
  blocks : Nat
  manifest : List Nat
  pins : Nat
  bcast : Option Nat
  deriving DecidableEq, Repr

/-- An entry that holds nothing. -/
def Entry.empty : Entry := ⟨0, [], 0, none⟩

/-- Bank states (R522). -/
inductive BankState where
  | free | loading | ready | current | draining
  deriving DecidableEq, Repr

/-- A bank of a live table (R521, R522). -/
structure TBank where
  pa : Nat
  state : BankState
  refs : Nat
  /-- Blocks of the last load. -/
  len : Nat
  deriving DecidableEq, Repr

/-- A live table (R521, R522). -/
structure Table where
  type : Nat
  owner : Nat
  blocks : Nat
  epoch : Nat
  b0 : TBank
  b1 : TBank
  deriving DecidableEq, Repr

/-- A running transfer (R515 to R517). -/
structure Transfer where
  pos : Nat
  cmd : Nat
  /-- Target: the entry (slot, number), or none for the non-current bank of the command's TABLE. -/
  entry : Option (Nat × Nat)
  manifest : Option (List Nat)
  mparts : NMap (List Byte)
  written : List Nat
  verified : List Nat
  failedOnce : List Nat
  failed : Nat
  /-- LINK (R563): origins by block, or by 2^25 + part of the manifest; the last one seen; when the last packet of its
  BCAST_ID arrived; the RESENDs sent for a block that is missing, and when. -/
  origins : NMap Nat
  lastOrigin : Option Nat
  lastPacket : Nat
  resends : NMap (Nat × Nat)
  deriving DecidableEq, Repr

/-- The Chairlift beside its objects. -/
structure Chair where
  entries : NMap Entry
  tables : NMap (Option Table)
  transfers : List Transfer
  deriving DecidableEq, Repr

/-! ### Link fabric (spec/15) -/

/-- A whole packet (R540, R567): its flits, link words and CRCs aside, whether it ends with TAIL_POISON, the CLASS with
which it leaves and that with which it arrived (0 where it was injected here), and the link and buffer whose credits it
holds. -/
structure Packet where
  flits : List Nat
  poison : Bool
  cls : Nat
  inCls : Nat
  from_ : Option (Nat × Nat)
  /-- Of a WRITE packet that has arrived: the bank of the context's translation table that it is tagged with (R524, R554). -/
  tag : Option (Nat × Nat) := none
  deriving DecidableEq, Repr

/-- Where a packet that is being received goes (R546). -/
inductive InDest where
  | here
  | via (link cls : Nat)
  | drop
  deriving DecidableEq, Repr

/-- A packet that is being received in a buffer. -/
structure InPacket where
  dest : InDest
  flits : List Nat
  deriving DecidableEq, Repr

/-- A packet in the replay buffer: the SEQ of its first flit, and its flits as they left (R536). A packet stays until its last flit
is acknowledged, for R567. -/
structure Sent where
  first : Nat
  pkt : Packet
  flits : List Nat
  deriving DecidableEq, Repr

/-- A link's data layer (R535 to R539, R565 to R567). -/
structure Link where
  /-- Next SEQ expected, last one accepted, and whether a NAK has been sent since. -/
  expect : Nat
  lastAcc : Nat
  nakSent : Bool
  /-- Next SEQ to send, last one acknowledged, the replay buffer, resends without progress, and since when. -/
  nextSeq : Nat
  acked : Nat
  replay : List Sent
  resends : Nat
  progressAt : Nat
  /-- Credits held and credits to return, by buffer (VC × 2 + CLASS). -/
  credits : List Nat
  toReturn : List Nat
  /-- Packet being received, by buffer. -/
  inPkt : NMap (Option InPacket)
  /-- Packets that wait to leave. -/
  outQ : List Packet
  /-- Deficit round robin (R539): the VC in turn and what it may still send, by VC. Management flits sent ahead of it, and
  all flits of packets sent. -/
  turn : Nat
  deficits : List Nat
  mgmtTx : Nat
  allTx : Nat
  /-- LANE_DOWN has been logged for lane 0, lane 1 (R565). -/
  laneLogged : List Bool
  /-- The link went DOWN (R567): the SEQ of the last flit of each packet in flight, LINK_DOWN awaited since, and whether the
  neighbour is lost. -/
  lostPkts : List (Nat × Packet)
  lostAt : Option Nat
  lost : Bool
  deriving DecidableEq, Repr

/-- A link that has never trained. Training grants 64 credits per buffer (R537). -/
def Link.empty : Link :=
  { expect := 0, lastAcc := 0xFFF, nakSent := false, nextSeq := 0, acked := 0xFFF, replay := [], resends := 0,
    progressAt := 0, credits := List.replicate 8 64, toReturn := List.replicate 8 0, inPkt := [], outQ := [],
    turn := 0, deficits := List.replicate 4 0, mgmtTx := 0, allTx := 0, laneLogged := [false, false], lostPkts := [],
    lostAt := none, lost := false }

/-- An entry of the arrival table (R555). -/
structure Arrival where
  src : Nat
  serial : Nat
  count : Nat
  npkt : Nat
  codes : List Nat
  deriving DecidableEq, Repr

/-- A remote MOVE whose WRITE_DONE is outstanding (R555, R621). -/
structure RemoteMove where
  serial : Nat
  /-- The task that sent it, and its cluster. -/
  uid : Nat
  cl : Nat
  /-- When the last of its packets left the module. -/
  leftAt : Nat
  /-- The context's commit record copy it carries: context and copy number (R619). -/
  commit : Option (Nat × Nat)
  status : Option Nat
  deriving DecidableEq, Repr

/-- Parts of a contribution that arrives over links (R559). -/
structure Assembly where
  src : Nat
  hdr : Nat
  npart : Nat
  parts : NMap (List Byte)
  /-- Adder whose pending granules hold it, and their number; 0 granules where the spill region holds it (R559). -/
  adder : Nat
  granules : Nat
  /-- Slot of the spill region that holds it (R103). -/
  spilled : Option Nat
  deriving DecidableEq, Repr

/-- The router and the packets delivered here. -/
structure Fabric where
  links : NMap Link
  arrivals : List Arrival
  remote : List RemoteMove
  assembly : List Assembly
  nextSerial : Nat
  /-- Delivered packets not yet processed, oldest first. -/
  rx : List Packet
  /-- Landed bits, keyed cluster × 2^18 + granule (R556). -/
  landed : NMap Bool
  /-- Last heartbeat of a listed module (R569), and those reported silent. -/
  beats : NMap Nat
  silent : List Nat
  deriving DecidableEq, Repr

/-! ### Video (spec/16) -/

/-- A stream context's state beside its 64 KiB (R577, R588, R590). -/
structure VStream where
  /-- 0 CLOSED, 1 OPEN, 2 ERROR. -/
  st : Nat
  /-- The OPEN_STREAM job, and the ring that opened the stream. -/
  openDesc : Nat
  ring : Nat
  /-- Mark of each buffer (0 UNUSED, 1 SHORT_TERM, 2 LONG_TERM) and OUTPUT_PENDING. -/
  bufs : List (Nat × Bool)
  /-- Encode: frames kept, newest first, with their buffers and whether they are key frames; frames coded. -/
  kept : List (Nat × Bool)
  coded : Nat
  deriving DecidableEq, Repr

/-- A CLOSED stream. -/
def VStream.closed : VStream := { st := 0, openDesc := 0, ring := 0, bufs := [], kept := [], coded := 0 }

/-- A job on an engine (R578, R593). -/
structure VJob where
  ring : Nat
  pos : Nat
  ctx : Nat
  desc : Nat
  ended : Bool
  codes : List Nat
  detail : Nat
  frames : Nat
  bytes : Nat
  sat : Nat
  samples : Nat
  /-- The stream's state and context after the job, if it ends with OK. -/
  next : Option VStream
  blob : List Byte
  /-- Physical pieces that the job writes, once it has run (R13). -/
  outs : List (Nat × Nat)
  faults : Nat
  deriving DecidableEq, Repr

/-- The video engines beside their objects. -/
structure Video where
  streams : NMap VStream
  engines : NMap (Option VJob)
  /-- Stream + 1 that an engine served last. -/
  lastStream : NMap Nat
  /-- Ring served last (R578). -/
  lastRing : Nat
  /-- Jobs that restart on another engine (R594). -/
  again : List VJob
  deriving DecidableEq, Repr

/-! ### Memory controllers (spec/12) -/

/-- Memory controllers: corrected errors per block within the scrub period, the retirement list, and blocks retired. -/
structure MemCtl where
  ceCount : NMap Nat
  /-- Retired local blocks: key unit × 2^32 + local block, value the spare that serves it (R438). -/
  retired : NMap Nat
  deriving DecidableEq, Repr

/-! ### Power (spec/18) -/

/-- The power, temperature and sag control beside its objects, and the snapshot region of MRAM. -/
structure Power where
  /-- Consecutive governor loops 100 W below the limit (R638), and above it with the cap at 800 MHz (R639). -/
  below : Nat
  unmet : Nat
  /-- Consecutive thermal loops with every sensor 5 °C below its limit (R641). -/
  cool : Nat
  /-- Time of a thermal trip whose reset is to come, and whether STANDBY was entered by one (R642). -/
  tripAt : Option Nat
  tripped : Bool
  /-- The input has fallen and not yet recovered (R645, R657). -/
  inputLow : Bool
  /-- Start of the SAG_HOLD (R647). -/
  holdAt : Nat
  /-- Lodge was entered for something other than cores alone (R662, R663). -/
  otherFail : Bool
  /-- Links whose two lanes the last self-test failed: ENABLE is refused until one passes them (R661). -/
  badLinks : List Nat
  /-- A snapshot is being written, with its sections and header; one was cut off (R649). -/
  snapBusy : Bool
  nextBody : List Byte
  nextHdr : List Byte
  snapFailed : Bool
  /-- The snapshot that MRAM holds (R648). -/
  snapBody : List Byte
  snapHdr : List Byte
  deriving DecidableEq, Repr

/-! ### Patrol (spec/19) -/

/-- An event record (R683). -/
structure Event where
  seq : Nat
  code : Nat
  sev : Nat
  ctx : Nat
  time : Nat
  p0 : Nat
  p1 : Nat
  rep : Nat
  deriving DecidableEq, Repr

/-- An answer of Patrol: header and payload (R669). -/
structure Answer where
  hdr : BitVec 384
  payload : List Byte
  deriving DecidableEq, Repr

/-- What Patrol keeps of a source's last request (R672). -/
structure Kept where
  src : Source
  seq : Nat
  ans : Answer
  deriving DecidableEq, Repr

/-- Patrol beside its objects. -/
structure Patrol where
  log : List Event
  restarting : Bool
  /-- A request is in execution, and later ones wait in the queue (R673). -/
  working : Bool
  heldEvents : List Event
  heldLost : Nat
  snapFailHeld : Bool
  kept : List Kept
  queue : List Msg
  opKey : Option (BitVec 256)
  svcKey : Option (BitVec 256)
  imgA : List Byte
  imgB : List Byte
  written : Nat
  /-- Images whose write a power loss cut off (R690). -/
  cut : List Nat
  notify : NMap (List Byte)
  /-- The standby domain has power (R634), and a value has been written to PLCA_NODE_ID since manufacture (R680). -/
  on : Bool
  nodeSet : Bool
  /-- ENABLE and PMD of each link as last written (R532). -/
  linkSet : NMap (Nat × Nat)
  deriving DecidableEq, Repr

/-! ### Host interface (spec/20) -/

/-- What leaves the module at its pins: interrupts, address translation requests (R701), mirror writes, host completions, management
messages, the coordinator's beacons (R667), answers of the port to other packets (R668), flits. -/
inductive Out where
  | msix (fn vector : Nat)
  | atsRequest (pasid page : Nat)
  | beacon (nodes : Nat)
  | neighbour (addr : BitVec 128)
  | echo (dst : BitVec 128) (data : List Byte)
  | hostWrite (pasid addr : Nat) (data : List Byte)
  | hostRead (fn : Nat) (data : List Byte)
  | unsupported (fn : Nat)
  | aborted
  | message (dst : Source) (a : Answer)
  | notify (target : List Byte) (e : Event)
  | flit (link : Nat) (f : Nat)
  | value (v : Nat)
  | refused (status : Nat)
  /-- The FENCED completion of an atomic or TAKE (R610). -/
  | fenced
  deriving DecidableEq, Repr

/-- A PCIe function's state (R688, R693, R700). -/
structure HostFnSt where
  req : NMap Byte
  resp : List Byte
  state : Nat
  respLen : Nat
  d3hot : Bool
  masked : List Nat
  /-- The first three words of each vector's MSI-X entry, keyed vector × 4 + word: its message address and data. -/
  msix : NMap Nat
  pend : List Nat
  intCause : Nat
  ctxCause : Nat
  deriving DecidableEq, Repr

/-- A function after reset (R702). Every vector is masked, as the PCI Express specification has it. -/
def HostFnSt.empty : HostFnSt :=
  { req := [], resp := [], state := 0, respLen := 0, d3hot := false, masked := List.range 66, msix := [], pend := [], intCause := 0,
    ctxCause := 0 }

/-- The host interface beside its objects. -/
structure HostIf where
  fns : NMap HostFnSt
  baseBlock : Nat
  target : Nat
  diagSel : Nat
  diagBase : Nat
  window : NMap Byte
  /-- Mirror writes that have not left (R702): context and write. -/
  mirrorWait : List (Nat × Nat × Nat × List Byte)
  /-- Translations that the endpoint holds (R701): PASID, page, and the host's page. -/
  ats : List (Nat × Nat × Nat)
  deriving DecidableEq, Repr

/-! ### Physical happenings below the commands -/

/-- A packet at the management port that bears no Unfoide message, or one to another port than UDP_PORT (R668). -/
inductive Frame where
  | neighbourSolicitation (target : BitVec 128)
  | echoRequest (src dst : BitVec 128) (data : List Byte)
  | udp (dst : BitVec 128) (port : BitVec 16) (m : Msg)
  | other
  deriving DecidableEq, Repr

/-- What happens in the module or at its pins that no row of the opcode table brings: errors that ECC meets at a read (R435, R436,
R443, R450, R599), what the controllers, caches and lanes count (R425, R450, R570), Patrol's time over a request (R673), its beacons
(R667), packets at its port (R668), and the host's translation of an address that the endpoint cached (R701). -/
inductive Happening where
  /-- A word of memory is read with an error, by the task on a core where one is named. -/
  | memoryError (unit : MemUnit) (word : BitVec 40) (bad : Bool) (reader : Option CoreId)
  /-- A word of a cluster's scratch is read with an error. -/
  | scratchError (cl : Fin 12) (off : BitVec 26) (bad : Bool) (reader : Option CoreId)
  /-- A corrected error of a core's SRAM. -/
  | coreCorrected (core : CoreId)
  /-- A P0 request at a stack or package competes as P1 (R426). -/
  | demoted (unit : MemUnit)
  /-- A read meets a cluster's cache. -/
  | cacheRead (cl : Fin 12) (hit : Bool)
  /-- Symbols of a link that FEC corrects, and codewords that it cannot correct (R570). -/
  | fec (link : Fin 64) (corrected uncorrectable : Nat)
  /-- Patrol begins to execute a request, and ends it. -/
  | patrolBusy
  | patrolDone
  /-- The coordinator's turn to send a beacon. -/
  | beaconDue
  | frame (f : Frame)
  | atsInvalidate (pasid page : Nat)
  deriving DecidableEq, Repr

/-! ### The module -/

/-- Modes that wait for a drain: the new values of MODE of objects 0x2002 and 0x2001 (R191, R630). -/
structure Modes where
  function : Option Nat
  containment : Option Nat
  /-- The device dispatcher has met a lockstep mismatch: the module is reported lost (R621, R627). -/
  lost : Bool
  deriving DecidableEq, Repr

/-- The state of the module. -/
structure State where
  /-- Commands that wait, first in, first out. -/
  pending : List Instr
  /-- The model's own: physical happenings that wait, one for each idle period. -/
  env : List Happening
  /-- TIME_NS (R656). -/
  timeNs : Nat
  /-- The model's own counter that each use of a free value advances. -/
  free : Nat
  /-- What has left the module, newest first. -/
  out : List Out
  /-- Bytes by physical address (R419). -/
  mem : NMap Byte
  /-- Sidecar entries by data block, PA div 4,096 (R429). -/
  side : NMap Nat
  /-- Objects of the dictionary, keyed index × 256 + subindex. -/
  objs : NMap Nat
  cores : NMap CoreSt
  disp : Disp
  reds : List Reduction
  chair : Chair
  fab : Fabric
  video : Video
  mctl : MemCtl
  power : Power
  patrol : Patrol
  host : HostIf
  modes : Modes
  deriving DecidableEq, Repr

/-- No command of this block stops the machine with a fault: every error the spec describes has its effect on the
state. The type has no constructor, so a fault is impossible (safe). -/
inductive Fault where
  deriving DecidableEq, Repr

/-- Reasons a command has no meaning here. -/
inductive Refusal where
  /-- Raised by `exec` for a command that is not modelled yet (safe). -/
  | notModelled (mnemonic : String)
  deriving DecidableEq, Repr

/-- The module as the rails come up in standby: every object at its default, memory zeroed (R429), no link trained,
no program loaded, no task on a core (R657: STANDBY). -/
def State.reset : State :=
  { pending := [], env := [], timeNs := 0, free := 0, out := [], mem := [], side := [], objs := [], cores := [],
    disp := { queues := [], leases := [], lastQ := [], plans := [], groups := [], ctxs := [], nextUid := 1,
              nextPlan := 1, inflight := [], awaitAck := [] },
    reds := [],
    chair := { entries := [], tables := [], transfers := [] },
    fab := { links := [], arrivals := [], remote := [], assembly := [], nextSerial := 0, rx := [], landed := [],
             beats := [], silent := [] },
    video := { streams := [], engines := [], lastStream := [], lastRing := 15, again := [] },
    mctl := { ceCount := [], retired := [] },
    power := { below := 0, unmet := 0, cool := 0, tripAt := none, tripped := false, inputLow := true, holdAt := 0,
               otherFail := false, badLinks := [], snapBusy := false, nextBody := [], nextHdr := [], snapFailed := false, snapBody := [],
               snapHdr := [] },
    patrol := { log := [], restarting := false, working := false, heldEvents := [], heldLost := 0, snapFailHeld := false, kept := [],
                queue := [], opKey := none, svcKey := none, imgA := [], imgB := [], written := 0, cut := [], notify := [], on := true,
                nodeSet := false, linkSet := [] },
    host := { fns := [], baseBlock := 0, target := 0, diagSel := 0, diagBase := 0, window := [], mirrorWait := [], ats := [] },
    modes := ⟨none, none, false⟩ }

end Sys2Proof.Machine
end

