-- ==== Sys2Proof/Machine/Ops.lean ====
section
/-! DEFINITION. The named operations over the state that every family shares: objects and counters, outputs,
physical memory and its sidecar, tags and relay counters, events and interrupts, task status codes. -/

namespace Sys2Proof.Machine

/-! ### Task status codes (R12, R14) -/

/-- R12 OK. -/
def cOk : Nat := 0x00
/-- R12 ABORTED. -/
def cAborted : Nat := 0x01
/-- R12 DISABLED. -/
def cDisabled : Nat := 0x02
/-- R12 EXTENT. -/
def cExtent : Nat := 0x03
/-- R12 OVERLAP. -/
def cOverlap : Nat := 0x04
/-- R12 CHECKSUM. -/
def cChecksum : Nat := 0x05
/-- R12 FENCED. -/
def cFenced : Nat := 0x06
/-- R12 LEASE_LOST. -/
def cLeaseLost : Nat := 0x07
/-- R12 VERSION. -/
def cVersion : Nat := 0x08
/-- R12 TRANSLATION. -/
def cTranslation : Nat := 0x09
/-- R12 PROTECTION. -/
def cProtection : Nat := 0x0A
/-- R12 DESCRIPTOR. -/
def cDescriptor : Nat := 0x0B
/-- R12 DUPLICATE. -/
def cDuplicate : Nat := 0x0C

/-- R14: the order in which codes are chosen. -/
def codeOrder : List Nat :=
  [cDescriptor, cTranslation, cProtection, cExtent, cOverlap, cDisabled, cFenced, cVersion, cChecksum, cLeaseLost,
   cAborted, cDuplicate]

/-- R14: the first code of the order among those that apply; OK where none does. -/
def firstCode (codes : List Nat) : Nat := (codeOrder.find? (fun c => codes.contains c)).getD cOk

/-! ### Outputs and free values -/

/-- Something leaves the module. -/
def State.emit (s : State) (o : Out) : State := { s with out := o :: s.out }

/-- Take a fresh number for a free value. -/
def State.tick (s : State) : State := { s with free := s.free + 1 }

/-! ### Writes of objects (R671) -/

/-- OK. -/
def stOk : Nat := 0
/-- RANGE. -/
def stRange : Nat := 5
/-- STATE. -/
def stState : Nat := 7

/-- The outcome of a write of an object: the state it leaves, with the status of a refusal at the pins. -/
def written (r : State × Nat) : State := if r.2 = stOk then r.1 else r.1.emit (.refused r.2)

/-! ### Objects and counters -/

/-- The value of an object by key. -/
def State.obj (s : State) (k : Nat) : Nat := nget (objDefault k) s.objs k

/-- Set an object. -/
def State.setObj (s : State) (k v : Nat) : State := { s with objs := nset (objDefault k) s.objs k v }

/-- Key of an object of core `site` of cluster `cl`, at offset `off` from B (R157). -/
def kCore (cl site off sub : Nat) : Nat := objKey (0x5000 + cl * 0x100 + site * 0x10 + off) sub

/-- Key of an object of a cluster (R291). -/
def kCl (cl off sub : Nat) : Nat := objKey (0x5000 + cl * 0x100 + off) sub

/-- Key of a device object. -/
def kDev (idx sub : Nat) : Nat := objKey idx sub

/-- Count on a 48-bit counter that wraps with a sticky bit 63 (R631). -/
def State.cnt48 (s : State) (k n : Nat) : State := s.setObj k (wrapAdd48 (s.obj k) n)

/-- Count on a counter that saturates at 0xFFFF (R631). -/
def State.cnt16 (s : State) (k n : Nat) : State := s.setObj k (satAdd16 (s.obj k) n)

/-- Set consecutive subindices of one index to 0 (the CLEAR objects). -/
def State.clearSubs (s : State) (idx lo hi : Nat) : State :=
  (List.range (hi + 1 - lo)).foldl (fun s i => s.setObj (objKey idx (lo + i)) 0) s

/-- A request that came in-band (R672). -/
def inbandMsg (m : Msg) : Bool :=
  match m.src with
  | .inband _ => true
  | .net _ _ => false

/-- MODULE_STATE (R657). -/
def State.moduleState (s : State) : Nat := s.obj (kDev 0x3001 1)

/-- STATE of a cluster (R608). -/
def State.clState (s : State) (cl : Nat) : Nat := s.obj (kCl cl 0xB0 2)

/-- Whether requests to a cluster are served (R608): not while QUIESCED, RESETTING, OFF or FAILED. -/
def State.clServes (s : State) (cl : Nat) : Bool := s.clState cl ≤ 2

/-- STATE of a context (R478). -/
def State.ctxState (s : State) (c : Nat) : Nat := s.obj (kDev (0x9100 + c) 1)

/-- A context's dispatch state. -/
def State.ctx (s : State) (c : Nat) : Ctx := nget Ctx.empty s.disp.ctxs c

/-- Change a context's dispatch state. -/
def State.modCtx (s : State) (c : Nat) (f : Ctx → Ctx) : State :=
  { s with disp := { s.disp with ctxs := nmod Ctx.empty s.disp.ctxs c f } }

/-- The core at a site. -/
def State.core (s : State) (cl site : Nat) : CoreSt := nget CoreSt.empty s.cores (cl * 8 + site)

/-- Replace the core at a site. -/
def State.setCore (s : State) (cl site : Nat) (c : CoreSt) : State :=
  { s with cores := nset CoreSt.empty s.cores (cl * 8 + site) c }

/-- Change the core at a site. -/
def State.modCore (s : State) (cl site : Nat) (f : CoreSt → CoreSt) : State :=
  s.setCore cl site (f (s.core cl site))

/-- SITE_STATE (R157): 0 disabled, 1 idle, 2 running, 3 fenced. -/
def State.siteState (s : State) (cl site : Nat) : Nat := s.obj (kCore cl site 0 1)

/-- A link's data layer. -/
def State.link (s : State) (n : Nat) : Link := nget Link.empty s.fab.links n

/-- Change a link's data layer. -/
def State.modLink (s : State) (n : Nat) (f : Link → Link) : State :=
  { s with fab := { s.fab with links := nmod Link.empty s.fab.links n f } }

/-- A host function's state. -/
def State.fn (s : State) (f : Nat) : HostFnSt := nget HostFnSt.empty s.host.fns f

/-- Change a host function's state. -/
def State.modFn (s : State) (f : Nat) (g : HostFnSt → HostFnSt) : State :=
  { s with host := { s.host with fns := nmod HostFnSt.empty s.host.fns f g } }

/-- A queue's working state. -/
def State.queue (s : State) (cl q : Nat) : Queue := nget Queue.empty s.disp.queues (cl * 16 + q)

/-- Change a queue's working state. -/
def State.modQueue (s : State) (cl q : Nat) (f : Queue → Queue) : State :=
  { s with disp := { s.disp with queues := nmod Queue.empty s.disp.queues (cl * 16 + q) f } }

/-- A cluster's lease table. -/
def State.leases (s : State) (cl : Nat) : List Lease := nget [] s.disp.leases cl

/-- Change a cluster's lease table. -/
def State.modLeases (s : State) (cl : Nat) (f : List Lease → List Lease) : State :=
  { s with disp := { s.disp with leases := nmod [] s.disp.leases cl f } }

/-! ### Events and interrupts (R683 to R687, R700) -/

/-- An interrupt of a function: its cause bit is set and its vector is sent once, unless the bit is set already. A
vector that is masked, or that cannot leave, sets its pending bit (R700). -/
def State.raise (s : State) (fn vector : Nat) : State :=
  let f := s.fn fn
  let bit := if vector < 2 then 2 ^ vector else 2 ^ (vector - 2)
  let cause := if vector < 2 then f.intCause else f.ctxCause
  if cause / bit % 2 = 1 then s else
    let f := if vector < 2 then { f with intCause := f.intCause + bit } else { f with ctxCause := f.ctxCause + bit }
    if f.masked.contains vector || s.obj (kDev 0x1050 1) ≠ 2 || f.d3hot then
      s.modFn fn (fun _ => { f with pend := if f.pend.contains vector then f.pend else vector :: f.pend })
    else (s.modFn fn (fun _ => f)).emit (.msix fn vector)

/-- R686: the notifications of a new record. -/
def State.notifyEvent (s : State) (e : Event) : State :=
  if s.obj (kDev 0x4000 4) ≤ e.sev then
    s.patrol.notify.foldl (fun s t => (s.emit (.notify t.2 e)).cnt48 (kDev 0x1010 9) 1) s
  else s

/-- R686: the interrupts of an event, merged or not. -/
def State.raiseEvent (s : State) (e : Event) : State :=
  let s := if e.ctx < 64 then s.raise (s.obj (kDev (0x2400 + e.ctx) 0x20)) (2 + e.ctx) else s
  if 2 ≤ e.sev then s.raise 0 0 else s

/-- Records the event log ring holds (R683). -/
def logSize : Nat := 491520

/-- R683, R684: an event is merged into the newest record or added to the ring. -/
def State.addEvent (s : State) (code sev ctx p0 p1 time : Nat) : State :=
  let new := fun (s : State) =>
    let seq := s.obj (kDev 0x4000 1)
    let e : Event := ⟨seq, code, sev, ctx, time, p0, p1, 0⟩
    let full := logSize ≤ s.patrol.log.length
    let s := { s with patrol := { s.patrol with log := (e :: s.patrol.log).take logSize } }
    let s := s.setObj (kDev 0x4000 1) ((seq + 1) % 2 ^ 32)
    let s := if full then s.setObj (kDev 0x4000 2) ((s.obj (kDev 0x4000 2) + 1) % 2 ^ 32) else s
    (s.notifyEvent e).raiseEvent e
  match s.patrol.log with
  | e :: r =>
    if e.code = code ∧ e.ctx = ctx ∧ e.p0 = p0 ∧ e.p1 = p1 ∧ time ≤ e.time + 1000000000 ∧ e.time ≤ time + 1000000000 then
      ({ s with patrol := { s.patrol with log := { e with rep := satAdd16 e.rep 1 } :: r } } : State).raiseEvent e
    else new s
  | [] => new s

/-- An event: logged at once, or held in the hardware queue of 256 while Patrol restarts (R692). -/
def State.event (s : State) (code sev ctx p0 p1 : Nat) : State :=
  if s.patrol.restarting then
    if s.patrol.heldEvents.length < 256 then
      { s with patrol := { s.patrol with
          heldEvents := s.patrol.heldEvents ++ [⟨0, code, sev, ctx, s.timeNs, p0, p1, 0⟩] } }
    else
      { (s.cnt16 (kDev 0x4000 6) 1) with patrol := { s.patrol with heldLost := s.patrol.heldLost + 1 } }
  else s.addEvent code sev ctx p0 p1 s.timeNs

/-! ### The physical address map (R419 to R421) -/

/-- First address past the HBM data range. -/
def hbmTop : Nat := 0xBE00000000
/-- First address of the capacity tier. -/
def tierBase : Nat := 0x10000000000
/-- First address past the capacity tier data range: 63.5 GiB for each package (R419, R421). -/
def tierTop : Nat := tierBase + Config.lpddrPresent * 0xFE0000000
/-- First address of cluster scratch. -/
def scratchBase : Nat := 0x20000000000

/-- Whether an address lies in a data range, whose blocks have sidecar entries (R428). -/
def inData (pa : Nat) : Bool := pa < hbmTop || (tierBase ≤ pa && pa < tierTop)

/-- Scratch bytes of a cluster (R440). -/
def State.scratchSize (s : State) (cl : Nat) : Nat := (64 - s.obj (kCl cl 0x90 1)) * 0x100000

/-- Cluster and offset of an address in mapped scratch (R419). -/
def State.scratchOf (s : State) (pa : Nat) : Option (Nat × Nat) :=
  if pa < scratchBase then none else
    let cl := (pa - scratchBase) / 0x4000000
    let off := (pa - scratchBase) % 0x4000000
    if cl < 12 ∧ off < s.scratchSize cl then some (cl, off) else none

/-- Whether an address is mapped (R419). -/
def State.mapped (s : State) (pa : Nat) : Bool := inData pa || (s.scratchOf pa).isSome

/-- Physical address of an offset of a cluster's scratch. -/
def scratchPa (cl off : Nat) : Nat := scratchBase + cl * 0x4000000 + off

/-- Whether an offset lies in the control region (R441). -/
def inControl (off : Nat) : Bool := off < 0x100000

/-- R420: the stack of HBM data block n, also the fold of R94. -/
def fold16 (n : Nat) : Nat := ((n % 16) ^^^ (n / 16 % 16)) ^^^ (n / 256 % 16)

/-- R421: the package of capacity tier data block n, with P packages. -/
def foldTier (n : Nat) : Nat :=
  let p := Config.lpddrPresent
  ((n % p) ^^^ (n / p % p)) ^^^ (n / (p * p) % p)

/-- The memory unit of a data address: 0 to 15 a stack, 16 to 23 a package (R420, R421). -/
def unitOf (pa : Nat) : Nat :=
  if pa < hbmTop then fold16 (pa / 4096) else 16 + foldTier ((pa - tierBase) / 4096)

/-- The local block of a data address in its unit (R420, R421). -/
def localBlock (pa : Nat) : Nat :=
  if pa < hbmTop then pa / 4096 / 16 else (pa - tierBase) / 4096 / Config.lpddrPresent

/-- The data block of a unit at a local block: the inverse of R420 and R421. -/
def blockOf (unit q : Nat) : Nat :=
  if unit < 16 then
    q * 16 + ((unit ^^^ (q % 16)) ^^^ (q / 16 % 16))
  else
    let p := Config.lpddrPresent
    tierBase / 4096 + q * p + (((unit - 16) ^^^ (q % p)) ^^^ (q / p % p))

/-- R447, R450: the object index of a memory unit. -/
def unitIdx (unit : Nat) : Nat := if unit < 16 then 0x7100 + unit else 0x7200 + (unit - 16)

/-! ### Bytes of memory -/

/-- A byte of memory. An address that nothing has written reads 0: start-up zeroes data (R429), and scratch is
zeroed by a reset (R612). -/
def State.byte (s : State) (pa : Nat) : Byte := nget 0 s.mem pa

/-- `n` bytes of memory. -/
def State.bytes (s : State) (pa n : Nat) : List Byte := ngetRun 0 s.mem pa n

/-- The little-endian number in `n` bytes of memory (R16). -/
def State.word (s : State) (pa n : Nat) : Nat := leNat (s.bytes pa n)

/-- A lease entry as the lease table shows it (R468). -/
def leaseWord (l : Lease) : Nat :=
  at' (b2n l.valid) 255 255 +
  at' (match l.state with
    | .running => 0
    | .saved => 1
    | .expired => 2
    | .committed => 3) 254 252 +
  at' l.queue 251 248 + at' l.site 247 245 + at' (b2n l.plan.isSome) 244 244 + at' l.pos 243 212 +
  at' l.seq 211 180 + at' l.expires 179 116

/-- Byte `off` of a cluster's control region as a reader sees it (R455): the lease table shows the leases, and the
dispatcher state between the relay counters and it is not readable (its bytes are free values). -/
def State.controlByte (s : State) (cl off : Nat) : Byte :=
  if off < 0x44000 then s.byte (scratchPa cl off)
  else if off < 0x80000 then Config.freeByte (scratchPa cl off)
  else match (s.leases cl)[(off - 0x80000) / 32]? with
    | some l => BitVec.ofNat 8 (leaseWord l >>> (8 * (off % 32)))
    | none => 0

/-- `n` bytes as a reader outside the dispatchers sees them. -/
def State.view (s : State) (pa n : Nat) : List Byte :=
  match s.scratchOf pa with
  | some (cl, off) =>
    if off + n ≤ 0x44000 ∨ 0x100000 ≤ off then s.bytes pa n
    else (List.range n).map (fun i => if inControl (off + i) then s.controlByte cl (off + i) else s.byte (pa + i))
  | none => s.bytes pa n

/-- Store bytes: the one operation that changes memory's bytes. -/
def State.put (s : State) (pa : Nat) (bs : List Byte) : State := { s with mem := nsetRun 0 s.mem pa bs }

/-- Store a little-endian number of `n` bytes. -/
def State.putWord (s : State) (pa n v : Nat) : State := s.put pa (toLE n v)

/-- Pieces of a byte range, cut at multiples of `g`: (first address, bytes). -/
def piecesFrom (g : Nat) : Nat → Nat → Nat → List (Nat × Nat)
  | 0, _, _ => []
  | fuel + 1, a, n =>
    if n = 0 then [] else
      let k := min n (g - a % g)
      (a, k) :: piecesFrom g fuel (a + k) (n - k)

/-- Pieces of a byte range within aligned units of `g` bytes. -/
def pieces (g a n : Nat) : List (Nat × Nat) := piecesFrom g (n / g + 2) a n

/-! ### The sidecar (R428 to R434) -/

/-- The sidecar entry of a data block. -/
def State.sideOf (s : State) (blk : Nat) : Nat := nget 0 s.side blk

/-- Set a sidecar entry. -/
def State.setSide (s : State) (blk e : Nat) : State := { s with side := nset 0 s.side blk e }

/-- STATE of a sidecar entry (R429): 0 UNSEALED, 1 SEALED, 2 POISONED. -/
def sideState (e : Nat) : Nat := fld e 223 222

/-- A sidecar entry from its fields (R429). -/
def sideEntry (crc st writer ctx task step : Nat) : Nat :=
  at' crc 255 224 + at' st 223 222 + at' writer 221 218 + at' ctx 217 212 + at' task 211 180 + at' step 179 148

/-- An UNSEALED entry whose other fields are undefined (R431): free values. -/
def unsealedEntry (n : Nat) : Nat :=
  let f := Config.freeNat n
  sideEntry (fld f 31 0) 0 (fld f 35 32) (fld f 41 36) (fld f 73 42) (fld f 105 74)

/-- R431: a write that does not seal unseals a data block; a POISONED block stays POISONED. -/
def State.unseal (s : State) (blk : Nat) : State :=
  if sideState (s.sideOf blk) = 2 then s else (s.setSide blk (unsealedEntry s.free)).tick

/-- Unseal every data block that a byte range touches. -/
def State.unsealRange (s : State) (pa n : Nat) : State :=
  (pieces 4096 pa n).foldl (fun s p => if inData p.1 then s.unseal (p.1 / 4096) else s) s

/-- R431: a sealing write of a whole block's CRC. -/
def State.seal (s : State) (blk crc writer ctx task step : Nat) : State :=
  s.setSide blk (sideEntry crc 1 writer ctx task (step % 2 ^ 32))

/-- The CRC-32C of a data block's bytes (R430). -/
def State.blockCrc (s : State) (blk : Nat) : Nat := crc32c (s.bytes (blk * 4096) 4096)

/-- R436, R606: a data block becomes POISONED and keeps its producer fields, or WRITER 0 where it was not sealed. -/
def State.poison (s : State) (blk : Nat) : State :=
  let e := s.sideOf blk
  if sideState e = 0 then s.setSide blk (sideEntry 0 2 0 0 0 0)
  else s.setSide blk (e % 2 ^ 222 + at' 2 223 222 + at' (fld e 255 224) 255 224)

/-- Whether a byte range touches a POISONED block (R434). -/
def State.touchesPoison (s : State) (pa n : Nat) : Bool :=
  (pieces 4096 pa n).any (fun p => inData p.1 && sideState (s.sideOf (p.1 / 4096)) = 2)

/-- Landing regions of a cluster (R556): offset and size in bytes of those that are valid. -/
def State.landings (s : State) (cl : Nat) : List (Nat × Nat) :=
  ((List.range 8).map (fun i => s.obj (kCl cl 0x98 (i + 1)))).filterMap (fun v =>
    if v % 2 = 1 then some (fld v 63 40 * 4096, fld v 39 16 * 4096) else none)

/-- Whether an offset of a cluster's scratch lies in a landing region. -/
def State.inLanding (s : State) (cl off : Nat) : Bool :=
  (s.landings cl).any (fun r => r.1 ≤ off && off < r.1 + r.2)

/-- R556: a local write into a landing region clears the landed bits of the granules it touches. -/
def State.unland (s : State) (pa n : Nat) : State :=
  (pieces 256 pa n).foldl (fun s p =>
    match s.scratchOf p.1 with
    | some (cl, off) =>
      if s.inLanding cl off then
        { s with fab := { s.fab with landed := nset false s.fab.landed (cl * 2 ^ 18 + off / 256) false } }
      else s
    | none => s) s

/-- Count bytes written at the stacks and packages (R450). -/
def State.countWr (s : State) (pa n : Nat) : State :=
  (pieces 4096 pa n).foldl (fun s p => if inData p.1 then s.cnt48 (kDev (unitIdx (unitOf p.1)) 3) p.2 else s) s

/-- Count bytes read at the stacks and packages (R450). -/
def State.countRd (s : State) (pa n : Nat) : State :=
  (pieces 4096 pa n).foldl (fun s p => if inData p.1 then s.cnt48 (kDev (unitIdx (unitOf p.1)) 2) p.2 else s) s

/-- A write that does not seal (R431): the bytes change, the blocks touched are unsealed, landed bits clear. -/
def State.write (s : State) (pa : Nat) (bs : List Byte) : State :=
  (((s.put pa bs).unsealRange pa bs.length).unland pa bs.length).countWr pa bs.length

/-- `n` free bytes, of the values that the free counter stands at. -/
def State.freeBytes (s : State) (n : Nat) : List Byte := (List.range n).map (fun i => Config.freeByte (s.free * 2 ^ 40 + i))

/-- The bytes of a range become undefined with nothing written there (R99, R106): free values. -/
def State.putFree (s : State) (pa n : Nat) : State := (s.put pa (s.freeBytes n)).tick

/-- Unseal every data block that a byte range touches, where a free value says so. -/
def State.maybeUnseal (s : State) (pa n : Nat) : State :=
  if bitAt (Config.freeNat s.free) 0 then s.tick.unsealRange pa n else s.tick

/-- An output region that is not published holds undefined contents (R13, R258): free bytes, in blocks that stay sealed or
not. -/
def State.undefine (s : State) (pa n : Nat) : State := (s.putFree pa n).maybeUnseal pa n

/-- A write that leaves its bytes undefined (R13, R258): free values. -/
def State.writeFree (s : State) (pa n : Nat) : State :=
  (s.write pa (s.freeBytes n)).tick

/-- A sealing write of a whole data block (R431). -/
def State.writeSealed (s : State) (blk : Nat) (bs : List Byte) (writer ctx task step : Nat) : State :=
  ((s.put (blk * 4096) bs).countWr (blk * 4096) 4096).seal blk (crc32c bs) writer ctx task step

/-! ### Tags and relay counters (R455, R456, R461) -/

/-- Physical address of tag `t` of context `c` (R456). -/
def tagPa (c t : Nat) : Nat := scratchPa (t / 1024) ((c * 1024 + t % 1024) * 4)

/-- Cluster in which a tag lies. -/
def tagCl (t : Nat) : Nat := t / 1024

/-- A completion tag's value. -/
def State.tag (s : State) (c t : Nat) : Nat := s.word (tagPa c t) 4

/-- Add to a completion tag with FETCH_ADD (R456); counted as an atomic of its cluster. -/
def State.tagAdd (s : State) (c t v : Nat) : State :=
  (s.putWord (tagPa c t) 4 ((s.tag c t + v) % 2 ^ 32)).cnt48 (kCl (tagCl t) 0x90 4) 1

/-- Physical address of queue q's relay counter (R455). -/
def relayPa (cl q : Nat) : Nat := scratchPa cl (0x40000 + 8 * q)

/-- NEXT of a queue (R461). -/
def State.qNext (s : State) (cl q : Nat) : Nat := s.word (relayPa cl q) 4

/-- LIMIT of a queue (R461). -/
def State.qLimit (s : State) (cl q : Nat) : Nat := s.word (relayPa cl q + 4) 4 % 2 ^ 31

/-- EXHAUSTED of a queue (R461). -/
def State.qExhausted (s : State) (cl q : Nat) : Bool := s.word (relayPa cl q + 4) 4 ≥ 2 ^ 31

/-- Write a queue's relay counter. -/
def State.setRelay (s : State) (cl q next limit : Nat) (ex : Bool) : State :=
  (s.putWord (relayPa cl q) 4 next).putWord (relayPa cl q + 4) 4 (limit + b2n ex * 2 ^ 31)

/-! ### The endpoint's gate (R693, R696, R697, R703) -/

/-- How the endpoint meets an access of a function to its BARs: it cannot arrive, it is unsupported in D3hot, it is refused
in this module state, or it is served. -/
inductive Gate where
  | absent | unsupported | refused | served
  deriving DecidableEq, Repr

/-- The gate of a function's access; `win` for the Unfoide window of the physical function. -/
def State.gate (s : State) (f : Nat) (win : Bool) : Gate :=
  if s.obj (kDev 0x1050 1) ≠ 2 || s.obj (kDev 0x1050 5) < f then .absent
  else if (s.fn f).d3hot then .unsupported
  else if (win && f = 0) || s.moduleState = 3 || s.moduleState = 4 then .served
  else .refused

/-- An access that is not served: one that is `read` is answered with Unsupported Request, a posted write is dropped
(R696). -/
def State.noService (s : State) (f : Nat) (read : Bool) : State := if read then s.emit (.unsupported f) else s

/-- Run an access through the gate: one that is refused counts in REFUSED (R696). -/
def State.through (s : State) (f : Nat) (win read : Bool) (k : State → State) : State :=
  match s.gate f win with
  | .absent => s
  | .unsupported => s.noService f read
  | .refused => (s.cnt16 (kDev 0x1050 6) 1).noService f read
  | .served => k s

/-! ### Tasks -/

/-- Change the task on a core. -/
def State.modTask (s : State) (cl site : Nat) (f : Task → Task) : State :=
  s.modCore cl site (fun c => { c with task := c.task.map f })

/-- A code applies to the task on a core (R12). The task then runs no further command: it ends and publishes nothing
(R13), unless the code is DUPLICATE. -/
def State.taskFail (s : State) (cl site code : Nat) : State :=
  s.modCore cl site (fun c =>
    { c with task := c.task.map (fun t => { t with codes := t.codes ++ [code], ended := true }) })

/-- Add arithmetic events to the task on a core (R57). -/
def State.taskEv (s : State) (cl site : Nat) (e : Ev) : State :=
  s.modTask cl site (fun t => { t with ev := t.ev.count e })

/-- The task, if any, that has a number: the site it runs on. -/
def State.siteOfUid (s : State) (uid : Nat) : Option (Nat × Nat) :=
  (s.cores.find? (fun c => match c.2.task with
    | some t => t.uid = uid
    | none => false)).map (fun c => (c.1 / 8, c.1 % 8))

end Sys2Proof.Machine
end

