-- ==== Sys2Proof/Machine/Rings.lean ====
section
/-! DEFINITION. Operand SRAM and its rings (R124 to R129): entries, slab addresses, residency, delivery and release. -/

namespace Sys2Proof.Machine

/-- Bytes of operand SRAM (R111). -/
def sramSize : Nat := 0x800000

/-- VALID of a ring entry (R125). -/
def Ring.valid (r : Ring) : Bool := bitAt r.entry 63
/-- BASE in bytes. -/
def Ring.base (r : Ring) : Nat := fld r.entry 62 48 * 256
/-- SLAB in bytes. -/
def Ring.slab (r : Ring) : Nat := fld r.entry 47 37 * 256
/-- COUNT. -/
def Ring.count (r : Ring) : Nat := fld r.entry 36 26
/-- Bytes of the ring's region. -/
def Ring.size (r : Ring) : Nat := r.count * r.slab

/-- R126: the byte address of slab `j`. -/
def Ring.slabAddr (r : Ring) (j : Nat) : Nat := r.base + (if r.count = 0 then 0 else j % r.count) * r.slab

/-- R126: slab `j` is resident when FILLED - j > 0 in serial-number order. -/
def Ring.resident (r : Ring) (j : Nat) : Bool := serialGe r.filled (j + 1)

/-- R127: there is room for slab `j` when j - FREED < COUNT. -/
def Ring.room (r : Ring) (j : Nat) : Bool := (j + 2 ^ 32 - r.freed) % 2 ^ 32 < r.count

/-- R128: FREED passes the longest prefix of released slabs. -/
def Ring.advance : Nat → Ring → Ring
  | 0, r => r
  | n + 1, r =>
    if r.released.contains r.freed then
      Ring.advance n { r with freed := (r.freed + 1) % 2 ^ 32, released := r.released.erase r.freed }
    else r

/-- R128: slab `j` is released. -/
def Ring.release (r : Ring) (j : Nat) : Ring :=
  let r := { r with released := if r.released.contains (j % 2 ^ 32) then r.released else (j % 2 ^ 32) :: r.released }
  r.advance r.released.length

/-- R128: the slabs that no command has released are released when the task ends. -/
def CoreSt.releaseAll (c : CoreSt) : CoreSt :=
  { c with rings := c.rings.map (fun p => (p.1, { p.2 with freed := p.2.filled, released := [] })) }

/-- A ring of a core. -/
def CoreSt.ring (c : CoreSt) (n : Nat) : Ring := nget Ring.empty c.rings n

/-- Change a ring of a core. -/
def CoreSt.modRing (c : CoreSt) (n : Nat) (f : Ring → Ring) : CoreSt :=
  { c with rings := nmod Ring.empty c.rings n f }

/-- Bytes of operand SRAM. -/
def CoreSt.rd (c : CoreSt) (a n : Nat) : List Byte := ngetRun 0 c.sram a n

/-- A little-endian number in operand SRAM. -/
def CoreSt.rdNat (c : CoreSt) (a n : Nat) : Nat := leNat (c.rd a n)

/-- Write bytes of operand SRAM. -/
def CoreSt.wr (c : CoreSt) (a : Nat) (bs : List Byte) : CoreSt := { c with sram := nsetRun 0 c.sram a bs }

/-- Bytes of a resident slab from an offset; offsets past its end continue into the slabs after it (R252). -/
def CoreSt.rdSlab (c : CoreSt) (ring j off n : Nat) : List Byte :=
  let r := c.ring ring
  if r.slab = 0 then [] else
    (pieces r.slab off n).flatMap (fun p => c.rd (r.slabAddr (j + p.1 / r.slab) + p.1 % r.slab) p.2)

/-- Whether two ring regions share a byte. -/
def ringsOverlap (a b : Ring) : Bool := a.base < b.base + b.size && b.base < a.base + a.size

/-- Whether a byte range of operand SRAM meets a valid ring that `ok` does not excuse. -/
def CoreSt.inRing (c : CoreSt) (a n : Nat) (ok : Nat → Bool) : Bool :=
  c.rings.any (fun p => p.2.valid && !ok p.1 && a < p.2.base + p.2.size && p.2.base < a + n && n ≠ 0)

/-- The next slab number of a producing command, and the ring that has given out `k` of them (R136). -/
def CoreSt.takeFill (c : CoreSt) (ring k : Nat) : Nat × CoreSt :=
  ((c.ring ring).nextFill, c.modRing ring (fun r => { r with nextFill := (r.nextFill + k) % 2 ^ 32 }))

/-- The next slab number of a consuming command, and the ring that has given out `k` of them (R136). -/
def CoreSt.takeRead (c : CoreSt) (ring k : Nat) : Nat × CoreSt :=
  ((c.ring ring).nextRead, c.modRing ring (fun r => { r with nextRead := (r.nextRead + k) % 2 ^ 32 }))

/-- A delivery whose turn it is: the next slab of its ring, with room for it (R126, R127). -/
def CoreSt.canDeliver (c : CoreSt) (d : Delivery) : Bool :=
  let r := c.ring d.ring
  r.valid && d.slab = r.filled && r.room d.slab

/-- R127: the delivery's bytes are written and FILLED advances. -/
def CoreSt.deliver (c : CoreSt) (d : Delivery) : CoreSt :=
  let a := (c.ring d.ring).slabAddr d.slab
  let c := d.data.foldl (fun c r => c.wr (a + r.1) r.2) c
  let r := c.ring d.ring
  let sums := if d.sum then (chunks 4096 (c.rd a r.slab)).map crc32c else []
  let c := c.modRing d.ring (fun r => { r with
    filled := (r.filled + 1) % 2 ^ 32, sums := nset [] (r.sums.filter (fun x => r.resident x.1)) d.slab sums })
  { c with deliveries := c.deliveries.erase d }

end Sys2Proof.Machine
end

