-- ==== Sys2Proof/Machine/SfuTables.lean ====
section
/-! DEFINITION. The native coefficient tables of the special-function unit (R713), built from R713 with exact
arithmetic: each entry is c0, c1, c2 in units of the last place of its format (R182, R714). The seam step moved
c0 of EXP segments 14, 76 and 152 by one unit, with the seam inputs taken in the reduced argument (log 20). -/

namespace Sys2Proof.Machine

def sfuRcp0 : List (Int × Int × Int) :=
  [(536870912, -2097136, 32577), (534781920, -2080848, 32199), (532709122, -2064749, 31827),
   (530652330, -2048836, 31460), (528611360, -2033106, 31099), (526586029, -2017556, 30744),
   (524576158, -2002185, 30394), (522581572, -1986988, 30049), (520602096, -1971964, 29709),
   (518637560, -1957109, 29375), (516687795, -1942422, 29046), (514752635, -1927899, 28721),
   (512831916, -1913539, 28401), (510925478, -1899338, 28086), (509033161, -1885295, 27776),
   (507154810, -1871407, 27470), (505290270, -1857672, 27169), (503439390, -1844088, 26872),
   (501602020, -1830652, 26579), (499778013, -1817363, 26291), (497967223, -1804217, 26007),
   (496169507, -1791214, 25727), (494384725, -1778351, 25450), (492612736, -1765626, 25178),
   (490853405, -1753037, 24910), (489106596, -1740582, 24645), (487372175, -1728259, 24385),
   (485650012, -1716067, 24127), (483939977, -1704003, 23874), (482241942, -1692067, 23624),
   (480555781, -1680255, 23377), (478881371, -1668566, 23134), (477218588, -1656999, 22895),
   (475567313, -1645552, 22658), (473927426, -1634223, 22425), (472298809, -1623010, 22195),
   (470681348, -1611913, 21968), (469074927, -1600929, 21744), (467479434, -1590057, 21524),
   (465894758, -1579295, 21306), (464320789, -1568642, 21091), (462757419, -1558097, 20879),
   (461204542, -1547658, 20670), (459662052, -1537323, 20464), (458129845, -1527091, 20260),
   (456607819, -1516961, 20059), (455095872, -1506932, 19861), (453593906, -1497001, 19665),
   (452101821, -1487169, 19472), (450619520, -1477433, 19281), (449146907, -1467793, 19093),
   (447683888, -1458246, 18908), (446230368, -1448792, 18724), (444786257, -1439430, 18543),
   (443351463, -1430159, 18365), (441925895, -1420976, 18188), (440509466, -1411882, 18014),
   (439102088, -1402875, 17843), (437703673, -1393954, 17673), (436314138, -1385117, 17505),
   (434933397, -1376365, 17340), (433561367, -1367695, 17177), (432197967, -1359106, 17015),
   (430843114, -1350599, 16856)]

def sfuRcp1 : List (Int × Int × Int) :=
  [(429496730, -1342171, 16699), (428158734, -1333821, 16544), (426829048, -1325550, 16390),
   (425507596, -1317355, 16239), (424194301, -1309235, 16089), (422889088, -1301191, 15941),
   (421591882, -1293221, 15795), (420302610, -1285323, 15651), (419021200, -1277498, 15508),
   (417747579, -1269744, 15368), (416481677, -1262060, 15228), (415223424, -1254446, 15091),
   (413972751, -1246900, 14955), (412729590, -1239423, 14821), (411493873, -1232012, 14689),
   (410265533, -1224668, 14558), (409044504, -1217389, 14428), (407830722, -1210175, 14300),
   (406624123, -1203025, 14174), (405424642, -1195938, 14049), (404232216, -1188913, 13926),
   (403046784, -1181950, 13804), (401868285, -1175048, 13683), (400696657, -1168207, 13564),
   (399531841, -1161425, 13446), (398373778, -1154702, 13330), (397222409, -1148037, 13215),
   (396077676, -1141430, 13101), (394939521, -1134879, 12989), (393807890, -1128385, 12877),
   (392682724, -1121946, 12768), (391563970, -1115562, 12659), (390451572, -1109233, 12551),
   (389345477, -1102957, 12445), (388245631, -1096735, 12340), (387151982, -1090565, 12236),
   (386064476, -1084447, 12134), (384983063, -1078380, 12032), (383907691, -1072364, 11932),
   (382838311, -1066398, 11832), (381774871, -1060482, 11734), (380717323, -1054615, 11637),
   (379665617, -1048796, 11541), (378619707, -1043026, 11446), (377579543, -1037303, 11352),
   (376545078, -1031626, 11259), (375516266, -1025997, 11167), (374493061, -1020413, 11076),
   (373475417, -1014875, 10986), (372463289, -1009382, 10898), (371456631, -1003933, 10810),
   (370455400, -998528, 10722), (369459552, -993167, 10636), (368469044, -987849, 10551),
   (367483833, -982574, 10467), (366503876, -977340, 10383), (365529132, -972149, 10301),
   (364559558, -966998, 10219), (363595115, -961888, 10138), (362635761, -956819, 10059),
   (361681457, -951790, 9979), (360732161, -946800, 9901), (359787836, -941850, 9824),
   (358848442, -936938, 9747)]

def sfuRcp2 : List (Int × Int × Int) :=
  [(357913941, -932064, 9671), (356984295, -927229, 9596), (356059465, -922431, 9522),
   (355139415, -917670, 9448), (354224107, -912946, 9376), (353313505, -908258, 9304),
   (352407573, -903606, 9232), (351506275, -898990, 9162), (350609575, -894409, 9092),
   (349717439, -889863, 9023), (348829831, -885352, 8954), (347946718, -880875, 8887),
   (347068064, -876432, 8819), (346193837, -872022, 8753), (345324004, -867646, 8687),
   (344458530, -863302, 8622), (343597384, -858991, 8558), (342740532, -854712, 8494),
   (341887944, -850465, 8431), (341039587, -846249, 8368), (340195429, -842065, 8306),
   (339355441, -837912, 8245), (338519590, -833790, 8184), (337687846, -829697, 8124),
   (336860180, -825635, 8065), (336036561, -821603, 8006), (335216960, -817600, 7948),
   (334401347, -813626, 7890), (333589693, -809681, 7832), (332781970, -805765, 7776),
   (331978148, -801877, 7720), (331178201, -798017, 7664), (330382100, -794185, 7609),
   (329589816, -790381, 7554), (328801324, -786604, 7500), (328016595, -782854, 7447),
   (327235604, -779130, 7394), (326458322, -775433, 7341), (325684724, -771763, 7289),
   (324914784, -768118, 7238), (324148475, -764499, 7187), (323385773, -760906, 7136),
   (322626651, -757337, 7086), (321871085, -753794, 7037), (321119050, -750276, 6987),
   (320370521, -746782, 6939), (319625473, -743313, 6891), (318883883, -739868, 6843),
   (318145726, -736446, 6795), (317410978, -733049, 6748), (316679616, -729675, 6702),
   (315951617, -726324, 6656), (315226958, -722996, 6610), (314505614, -719691, 6565),
   (313787565, -716408, 6520), (313072787, -713148, 6476), (312361258, -709910, 6432),
   (311652956, -706694, 6388), (310947859, -703500, 6345), (310245945, -700328, 6302),
   (309547193, -697177, 6260), (308851581, -694047, 6218), (308159089, -690938, 6176),
   (307469695, -687850, 6135)]

def sfuRcp3 : List (Int × Int × Int) :=
  [(306783378, -684783, 6094), (306100119, -681736, 6053), (305419897, -678709, 6013),
   (304742691, -675703, 5973), (304068481, -672716, 5934), (303397248, -669749, 5894),
   (302728972, -666802, 5856), (302063634, -663875, 5817), (301401214, -660966, 5779),
   (300741692, -658077, 5741), (300085051, -655206, 5704), (299431271, -652354, 5666),
   (298780334, -649521, 5630), (298132220, -646706, 5593), (297486912, -643910, 5557),
   (296844392, -641131, 5521), (296204641, -638371, 5485), (295567642, -635628, 5450),
   (294933377, -632903, 5415), (294301828, -630195, 5381), (293672978, -627505, 5346),
   (293046809, -624832, 5312), (292423305, -622176, 5278), (291802449, -619537, 5245),
   (291184223, -616914, 5212), (290568612, -614309, 5179), (289955598, -611719, 5146),
   (289345165, -609146, 5114), (288737297, -606590, 5081), (288131978, -604049, 5050),
   (287529191, -601524, 5018), (286928922, -599015, 4987), (286331153, -596522, 4956),
   (285735870, -594044, 4925), (285143057, -591582, 4894), (284552699, -589135, 4864),
   (283964780, -586703, 4834), (283379286, -584286, 4804), (282796201, -581884, 4774),
   (282215510, -579497, 4745), (281637200, -577124, 4716), (281061255, -574766, 4687),
   (280487660, -572423, 4659), (279916402, -570093, 4630), (279347466, -567778, 4602),
   (278780839, -565477, 4574), (278216505, -563190, 4546), (277654451, -560917, 4519),
   (277094664, -558657, 4492), (276537130, -556412, 4465), (275981834, -554179, 4438),
   (275428764, -551960, 4411), (274877907, -549755, 4385), (274329248, -547562, 4359),
   (273782776, -545383, 4333), (273238476, -543217, 4307), (272696336, -541063, 4281),
   (272156344, -538922, 4256), (271618485, -536794, 4231), (271082748, -534679, 4206),
   (270549121, -532576, 4181), (270017590, -530485, 4157), (269488144, -528407, 4132),
   (268960770, -526341, 4108)]

/-- RCP, 256 segments: 1/m on [1, 2). -/
def sfuRcp : List (Int × Int × Int) := sfuRcp0 ++ sfuRcp1 ++ sfuRcp2 ++ sfuRcp3

def sfuRsqrt0 : List (Int × Int × Int) :=
  [(536870912, -1048556, 12169), (534785969, -1036388, 11935), (532725129, -1024453, 11708),
   (530687931, -1012745, 11487), (528673928, -1001259, 11271), (526682682, -989988, 11061),
   (524713768, -978927, 10857), (522766772, -968070, 10658), (520841289, -957413, 10464),
   (518936927, -946950, 10274), (517053302, -936676, 10090), (515190041, -926586, 9910),
   (513346779, -916676, 9735), (511523161, -906942, 9564), (509718841, -897379, 9397),
   (507933480, -887982, 9234), (506166750, -878749, 9075), (504418328, -869674, 8920),
   (502687899, -860754, 8768), (500975159, -851986, 8620), (499279807, -843366, 8476),
   (497601550, -834890, 8335), (495940105, -826555, 8197), (494295191, -818358, 8063),
   (492666537, -810296, 7931), (491053876, -802365, 7803), (489456949, -794563, 7677),
   (487875501, -786886, 7554), (486309283, -779332, 7434), (484758053, -771898, 7317),
   (483221574, -764582, 7202), (481699612, -757380, 7089), (480191942, -750291, 6979),
   (478698340, -743312, 6872), (477218588, -736440, 6767), (475752476, -729673, 6664),
   (474299793, -723010, 6563), (472860337, -716447, 6464), (471433907, -709983, 6368),
   (470020309, -703615, 6273), (468619351, -697343, 6180), (467230846, -691162, 6090),
   (465854611, -685073, 6001), (464490466, -679072, 5914), (463138234, -673159, 5828),
   (461797745, -667331, 5745), (460468827, -661586, 5663), (459151317, -655924, 5582),
   (457845052, -650342, 5504), (456549873, -644838, 5426), (455265623, -639412, 5351),
   (453992150, -634061, 5277), (452729304, -628785, 5204), (451476939, -623581, 5132),
   (450234909, -618449, 5062), (449003074, -613386, 4994), (447781295, -608393, 4926),
   (446569435, -603467, 4860), (445367362, -598607, 4795), (444174944, -593811, 4732),
   (442992052, -589080, 4669), (441818561, -584411, 4608), (440654347, -579803, 4547),
   (439499288, -575256, 4488)]

def sfuRsqrt1 : List (Int × Int × Int) :=
  [(438353264, -570768, 4430), (437216159, -566337, 4373), (436087857, -561964, 4317),
   (434968246, -557647, 4262), (433857214, -553385, 4208), (432754653, -549177, 4155),
   (431660455, -545022, 4103), (430574515, -540919, 4052), (429496730, -536867, 4001),
   (428426998, -532865, 3952), (427365219, -528913, 3903), (426311296, -525010, 3856),
   (425265132, -521154, 3809), (424226631, -517346, 3763), (423195703, -513583, 3717),
   (422172253, -509866, 3673), (421156193, -506194, 3629), (420147435, -502565, 3585),
   (419145890, -498980, 3543), (418151473, -495437, 3501), (417164101, -491935, 3460),
   (416183691, -488475, 3420), (415210160, -485055, 3380), (414243430, -481675, 3341),
   (413283421, -478334, 3303), (412330055, -475031, 3265), (411383257, -471767, 3228),
   (410442951, -468539, 3191), (409509064, -465348, 3155), (408581522, -462193, 3119),
   (407660255, -459074, 3084), (406745192, -455990, 3050), (405836263, -452939, 3016),
   (404933400, -449923, 2983), (404036536, -446940, 2950), (403145606, -443990, 2918),
   (402260543, -441073, 2886), (401381284, -438187, 2855), (400507765, -435332, 2824),
   (399639925, -432508, 2793), (398777702, -429715, 2763), (397921036, -426951, 2734),
   (397069867, -424218, 2705), (396224137, -421513, 2676), (395383788, -418836, 2648),
   (394548763, -416188, 2620), (393719007, -413568, 2593), (392894463, -410975, 2566),
   (392075079, -408409, 2539), (391260799, -405870, 2513), (390451572, -403357, 2487),
   (389647346, -400870, 2462), (388848068, -398408, 2437), (388053689, -395971, 2412),
   (387264159, -393559, 2388), (386479429, -391172, 2364), (385699449, -388808, 2340),
   (384924173, -386468, 2316), (384153553, -384152, 2293), (383387544, -381858, 2271),
   (382626098, -379588, 2248), (381869171, -377339, 2226), (381116719, -375113, 2204),
   (380368697, -372909, 2183)]

def sfuRsqrt2 : List (Int × Int × Int) :=
  [(379625062, -370721, 2151), (378150785, -366418, 2110), (376693551, -362199, 2070),
   (375253035, -358059, 2031), (373828920, -353998, 1992), (372420896, -350014, 1955),
   (371028664, -346103, 1919), (369651929, -342264, 1884), (368290407, -338497, 1850),
   (366943820, -334797, 1816), (365611896, -331165, 1784), (364294371, -327598, 1752),
   (362990988, -324094, 1721), (361701496, -320652, 1691), (360425649, -317271, 1661),
   (359163208, -313949, 1632), (357913941, -310685, 1604), (356677620, -307476, 1577),
   (355454023, -304323, 1550), (354242932, -301223, 1524), (353044137, -298175, 1498),
   (351857431, -295178, 1473), (350682611, -292231, 1449), (349519482, -289333, 1425),
   (348367849, -286483, 1402), (347227526, -283679, 1379), (346098328, -280920, 1357),
   (344980075, -278206, 1335), (343872592, -275535, 1314), (342775707, -272907, 1293),
   (341689252, -270320, 1273), (340613062, -267774, 1253), (339546978, -265268, 1234),
   (338490842, -262800, 1215), (337444500, -260371, 1196), (336407802, -257978, 1178),
   (335380600, -255623, 1160), (334362751, -253302, 1143), (333354112, -251017, 1126),
   (332354548, -248766, 1109), (331363921, -246548, 1093), (330382100, -244363, 1076),
   (329408954, -242210, 1061), (328444358, -240088, 1045), (327488186, -237998, 1030),
   (326540317, -235937, 1016), (325600630, -233906, 1001), (324669010, -231904, 987),
   (323745341, -229930, 973), (322829511, -227985, 959), (321921409, -226066, 946),
   (321020928, -224174, 933), (320127961, -222309, 920), (319242405, -220469, 907),
   (318364157, -218655, 895), (317493118, -216865, 883), (316629190, -215099, 871),
   (315772276, -213358, 859), (314922282, -211639, 848), (314079115, -209944, 836),
   (313242684, -208271, 825), (312412901, -206620, 815), (311589677, -204991, 804),
   (310772927, -203384, 793)]

def sfuRsqrt3 : List (Int × Int × Int) :=
  [(309962566, -201797, 783), (309158511, -200231, 773), (308360681, -198684, 763),
   (307568996, -197158, 753), (306783378, -195651, 744), (306003750, -194163, 735),
   (305230035, -192694, 725), (304462159, -191244, 716), (303700050, -189811, 707),
   (302943635, -188396, 699), (302192844, -186999, 690), (301447608, -185619, 682),
   (300707858, -184256, 673), (299973528, -182909, 665), (299244551, -181579, 657),
   (298520863, -180265, 649), (297802400, -178967, 641), (297089100, -177684, 634),
   (296380901, -176416, 626), (295677742, -175163, 619), (294979565, -173925, 612),
   (294286310, -172702, 605), (293597920, -171493, 598), (292914338, -170298, 591),
   (292235509, -169117, 584), (291561378, -167949, 577), (290891891, -166795, 571),
   (290226994, -165654, 564), (289566636, -164525, 558), (288910765, -163410, 551),
   (288259331, -162307, 545), (287612283, -161217, 539), (286969573, -160138, 533),
   (286331153, -159072, 527), (285696975, -158017, 522), (285066992, -156974, 516),
   (284441158, -155943, 510), (283819428, -154922, 505), (283201757, -153913, 499),
   (282588101, -152915, 494), (281978417, -151927, 489), (281372663, -150950, 483),
   (280770796, -149984, 478), (280172774, -149027, 473), (279578557, -148081, 468),
   (278988106, -147145, 463), (278401379, -146218, 458), (277818339, -145302, 454),
   (277238947, -144395, 449), (276663164, -143497, 444), (276090955, -142608, 440),
   (275522281, -141729, 435), (274957106, -140858, 431), (274395395, -139997, 426),
   (273837113, -139144, 422), (273282225, -138300, 418), (272730696, -137464, 414),
   (272182493, -136637, 410), (271637583, -135818, 405), (271095932, -135007, 401),
   (270557508, -134204, 397), (270022280, -133410, 394), (269490216, -132622, 390),
   (268961285, -131843, 386)]

/-- RSQRT, 128 segments over [1, 2), then 128 over [2, 4). -/
def sfuRsqrt : List (Int × Int × Int) := sfuRsqrt0 ++ sfuRsqrt1 ++ sfuRsqrt2 ++ sfuRsqrt3

def sfuExp0 : List (Int × Int × Int) :=
  [(379625062, 1027875, 5574), (380654330, 1030661, 5589), (381686389, 1033456, 5604),
   (382721246, 1036258, 5619), (383758908, 1039067, 5634), (384799384, 1041885, 5650),
   (385842681, 1044709, 5665), (386888807, 1047542, 5680), (387937769, 1050382, 5696),
   (388989575, 1053230, 5711), (390044233, 1056086, 5727), (391101750, 1058949, 5742),
   (392162134, 1061820, 5758), (393225394, 1064699, 5773), (394291537, 1067586, 5789),
   (395360569, 1070480, 5805), (396432500, 1073382, 5820), (397507337, 1076293, 5836),
   (398585089, 1079211, 5852), (399665763, 1082137, 5868), (400749367, 1085071, 5884),
   (401835909, 1088013, 5900), (402925396, 1090963, 5916), (404017838, 1093921, 5932),
   (405113241, 1096886, 5948), (406211615, 1099860, 5964), (407312966, 1102842, 5980),
   (408417304, 1105833, 5996), (409524635, 1108831, 6013), (410634969, 1111837, 6029),
   (411748314, 1114852, 6045), (412864676, 1117874, 6062), (413984066, 1120905, 6078),
   (415106491, 1123944, 6095), (416231959, 1126992, 6111), (417360478, 1130047, 6128),
   (418492057, 1133111, 6144), (419626704, 1136183, 6161), (420764428, 1139264, 6178),
   (421905236, 1142353, 6194), (423049137, 1145450, 6211), (424196139, 1148555, 6228),
   (425346252, 1151669, 6245), (426499482, 1154792, 6262), (427655840, 1157923, 6279),
   (428815332, 1161062, 6296), (429977969, 1164210, 6313), (431143757, 1167367, 6330),
   (432312707, 1170532, 6347), (433484825, 1173705, 6364), (434660122, 1176888, 6382),
   (435838605, 1180079, 6399), (437020283, 1183278, 6416), (438205166, 1186486, 6434),
   (439393260, 1189703, 6451), (440584576, 1192929, 6469), (441779122, 1196163, 6486),
   (442976907, 1199406, 6504), (444177939, 1202658, 6521), (445382228, 1205919, 6539),
   (446589781, 1209189, 6557), (447800609, 1212467, 6575), (449014720, 1215754, 6592),
   (450232122, 1219051, 6610)]

def sfuExp1 : List (Int × Int × Int) :=
  [(451452825, 1222356, 6628), (452676838, 1225670, 6646), (453904170, 1228993, 6664),
   (455134829, 1232325, 6682), (456368824, 1235666, 6700), (457606166, 1239017, 6719),
   (458846862, 1242376, 6737), (460090922, 1245744, 6755), (461338355, 1249122, 6773),
   (462589170, 1252509, 6792), (463843377, 1255904, 6810), (465100984, 1259310, 6829),
   (466362001, 1262724, 6847), (467626436, 1266147, 6866), (468894300, 1269580, 6884),
   (470165601, 1273023, 6903), (471440350, 1276474, 6922), (472718554, 1279935, 6941),
   (474000224, 1283405, 6959), (475285369, 1286885, 6978), (476573998, 1290374, 6997),
   (477866122, 1293872, 7016), (479161748, 1297381, 7035), (480460887, 1300898, 7054),
   (481763549, 1304425, 7073), (483069742, 1307962, 7092), (484379477, 1311508, 7112),
   (485692763, 1315064, 7131), (487009610, 1318629, 7150), (488330027, 1322205, 7170),
   (489654024, 1325789, 7189), (490981611, 1329384, 7209), (492312797, 1332988, 7228),
   (493647592, 1336602, 7248), (494986007, 1340226, 7267), (496328050, 1343860, 7287),
   (497673732, 1347504, 7307), (499023062, 1351157, 7327), (500376051, 1354820, 7347),
   (501732708, 1358494, 7367), (503093043, 1362177, 7386), (504457067, 1365870, 7407),
   (505824789, 1369573, 7427), (507196219, 1373287, 7447), (508571368, 1377010, 7467),
   (509950244, 1380744, 7487), (511332860, 1384487, 7507), (512719224, 1388241, 7528),
   (514109347, 1392005, 7548), (515503238, 1395779, 7569), (516900910, 1399563, 7589),
   (518302370, 1403358, 7610), (519707630, 1407163, 7630), (521116701, 1410978, 7651),
   (522529591, 1414803, 7672), (523946313, 1418639, 7693), (525366875, 1422486, 7714),
   (526791290, 1426342, 7734), (528219566, 1430210, 7755), (529651714, 1434087, 7776),
   (531087746, 1437976, 7797), (532527671, 1441874, 7819), (533971500, 1445784, 7840),
   (535419243, 1449704, 7861)]

def sfuExp2 : List (Int × Int × Int) :=
  [(536870912, 1453634, 7882), (538326517, 1457575, 7904), (539786068, 1461527, 7925),
   (541249576, 1465490, 7947), (542717053, 1469463, 7968), (544188508, 1473447, 7990),
   (545663953, 1477442, 8012), (547143398, 1481448, 8033), (548626854, 1485465, 8055),
   (550114332, 1489492, 8077), (551605844, 1493530, 8099), (553101399, 1497580, 8121),
   (554601009, 1501640, 8143), (556104685, 1505712, 8165), (557612438, 1509794, 8187),
   (559124278, 1513887, 8209), (560640218, 1517992, 8231), (562160268, 1522108, 8254),
   (563684439, 1526235, 8276), (565212742, 1530373, 8299), (566745190, 1534522, 8321),
   (568281792, 1538682, 8344), (569822560, 1542854, 8366), (571367506, 1547037, 8389),
   (572916641, 1551232, 8412), (574469975, 1555437, 8434), (576027521, 1559655, 8457),
   (577589290, 1563883, 8480), (579155293, 1568123, 8503), (580725543, 1572375, 8526),
   (582300049, 1576638, 8549), (583878825, 1580913, 8573), (585461881, 1585199, 8596),
   (587049229, 1589497, 8619), (588640881, 1593807, 8643), (590236848, 1598128, 8666),
   (591837143, 1602461, 8689), (593441776, 1606806, 8713), (595050760, 1611162, 8737),
   (596664106, 1615530, 8760), (598281827, 1619911, 8784), (599903933, 1624303, 8808),
   (601530438, 1628707, 8832), (603161352, 1633122, 8856), (604796689, 1637550, 8880),
   (606436459, 1641990, 8904), (608080675, 1646442, 8928), (609729349, 1650906, 8952),
   (611382493, 1655382, 8976), (613040119, 1659870, 9001), (614702239, 1664371, 9025),
   (616368866, 1668883, 9050), (618040012, 1673408, 9074), (619715688, 1677945, 9099),
   (621395908, 1682494, 9123), (623080683, 1687056, 9148), (624770026, 1691630, 9173),
   (626463950, 1696217, 9198), (628162466, 1700816, 9223), (629865587, 1705427, 9248),
   (631573326, 1710051, 9273), (633285695, 1714687, 9298), (635002706, 1719336, 9323),
   (636724373, 1723998, 9348)]

def sfuExp3 : List (Int × Int × Int) :=
  [(638450708, 1728672, 9374), (640181724, 1733359, 9399), (641917433, 1738059, 9425),
   (643657847, 1742771, 9450), (645402981, 1747496, 9476), (647152846, 1752234, 9502),
   (648907455, 1756985, 9527), (650666822, 1761748, 9553), (652430958, 1766525, 9579),
   (654199878, 1771315, 9605), (655973594, 1776117, 9631), (657752119, 1780933, 9657),
   (659535466, 1785761, 9683), (661323648, 1790603, 9710), (663116678, 1795458, 9736),
   (664914570, 1800326, 9762), (666717336, 1805207, 9789), (668524990, 1810101, 9815),
   (670337545, 1815009, 9842), (672155015, 1819930, 9869), (673977412, 1824864, 9895),
   (675804750, 1829812, 9922), (677637043, 1834773, 9949), (679474303, 1839748, 9976),
   (681316545, 1844736, 10003), (683163781, 1849737, 10030), (685016026, 1854752, 10057),
   (686873293, 1859781, 10085), (688735596, 1864824, 10112), (690602947, 1869880, 10140),
   (692475362, 1874949, 10167), (694352853, 1880033, 10195), (696235434, 1885130, 10222),
   (698123120, 1890241, 10250), (700015924, 1895366, 10278), (701913860, 1900505, 10306),
   (703816941, 1905658, 10334), (705725183, 1910825, 10362), (707638598, 1916005, 10390),
   (709557200, 1921200, 10418), (711481005, 1926409, 10446), (713410026, 1931632, 10474),
   (715344277, 1936869, 10503), (717283772, 1942121, 10531), (719228525, 1947386, 10560),
   (721178552, 1952666, 10588), (723133865, 1957961, 10617), (725094480, 1963269, 10646),
   (727060411, 1968592, 10675), (729031671, 1973929, 10704), (731008277, 1979281, 10733),
   (732990241, 1984648, 10762), (734977579, 1990029, 10791), (736970306, 1995424, 10820),
   (738968435, 2000834, 10850), (740971982, 2006259, 10879), (742980960, 2011699, 10909),
   (744995386, 2017153, 10938), (747015274, 2022622, 10968), (749040637, 2028106, 10998),
   (751071493, 2033605, 11027), (753107854, 2039118, 11057), (755149737, 2044647, 11087),
   (757197155, 2050190, 11117)]

/-- EXP, 256 segments: 2^f on [-0.5, 0.5]. -/
def sfuExp : List (Int × Int × Int) := sfuExp0 ++ sfuExp1 ++ sfuExp2 ++ sfuExp3

def sfuLogFar0 : List (Int × Int × Int) :=
  [(0, 2097147, -16320), (2093067, 2088987, -16194), (4178005, 2080890, -16069),
   (6254877, 2072856, -15945), (8323747, 2064883, -15823), (10384674, 2056972, -15702),
   (12437720, 2049121, -15583), (14482945, 2041329, -15465), (16520408, 2033597, -15348),
   (18550169, 2025923, -15233), (20572284, 2018307, -15118), (22586811, 2010748, -15006),
   (24593807, 2003245, -14894), (26593329, 1995798, -14784), (28585431, 1988406, -14675),
   (30570169, 1981069, -14567), (32547596, 1973786, -14460), (34517767, 1966556, -14354),
   (36480734, 1959379, -14250), (38436550, 1952254, -14147), (40385267, 1945180, -14045),
   (42326936, 1938158, -13944), (44261608, 1931186, -13844), (46189333, 1924264, -13745),
   (48110161, 1917392, -13647), (50024142, 1910569, -13550), (51931323, 1903794, -13454),
   (53831753, 1897066, -13360), (55725479, 1890387, -13266), (57612549, 1883754, -13173),
   (59493010, 1877167, -13081), (61366907, 1870627, -12990), (63234286, 1864131, -12901),
   (65095192, 1857681, -12812), (66949670, 1851275, -12724), (68797765, 1844914, -12636),
   (70639519, 1838595, -12550), (72474977, 1832320, -12465), (74304181, 1826088, -12380),
   (76127174, 1819898, -12297), (77943998, 1813750, -12214), (79754694, 1807643, -12132),
   (81559304, 1801577, -12051), (83357868, 1795552, -11970), (85150427, 1789566, -11891),
   (86937021, 1783621, -11812), (88717689, 1777715, -11734), (90492470, 1771848, -11657),
   (92261404, 1766020, -11580), (94024529, 1760229, -11505), (95781882, 1754477, -11430),
   (97533501, 1748762, -11356), (99279425, 1743084, -11282), (101019688, 1737443, -11209),
   (102754329, 1731839, -11137), (104483384, 1726270, -11066), (106206887, 1720737, -10995),
   (107924876, 1715240, -10925), (109637384, 1709777, -10856), (111344447, 1704349, -10787),
   (113046100, 1698956, -10719), (114742376, 1693596, -10652), (116433309, 1688271, -10585),
   (118118933, 1682978, -10519)]

def sfuLogFar1 : List (Int × Int × Int) :=
  [(119799282, 1677719, -10453), (121474388, 1672492, -10388), (123144283, 1667298, -10324),
   (124809000, 1662136, -10260), (126468572, 1657006, -10197), (128123029, 1651908, -10134),
   (129772403, 1646841, -10072), (131416726, 1641805, -10011), (133056027, 1636799, -9950),
   (134690339, 1631824, -9890), (136319690, 1626879, -9830), (137944112, 1621964, -9771),
   (139563633, 1617079, -9712), (141178284, 1612223, -9654), (142788093, 1607396, -9596),
   (144393089, 1602597, -9539), (145993302, 1597828, -9483), (147588759, 1593086, -9427),
   (149179489, 1588373, -9371), (150765519, 1583688, -9316), (152346878, 1579030, -9261),
   (153923592, 1574399, -9207), (155495690, 1569796, -9153), (157063197, 1565219, -9100),
   (158626141, 1560669, -9047), (160184549, 1556145, -8995), (161738445, 1551648, -8943),
   (163287857, 1547176, -8892), (164832811, 1542730, -8841), (166373331, 1538310, -8790),
   (167909443, 1533915, -8740), (169441173, 1529545, -8691), (170968545, 1525199, -8641),
   (172491584, 1520879, -8593), (174010315, 1516582, -8544), (175524761, 1512310, -8496),
   (177034948, 1508062, -8449), (178540898, 1503838, -8401), (180042636, 1499637, -8355),
   (181540184, 1495460, -8308), (183033568, 1491306, -8262), (184522808, 1487175, -8216),
   (186007929, 1483067, -8171), (187488954, 1478981, -8126), (188965903, 1474918, -8082),
   (190438801, 1470877, -8038), (191907669, 1466859, -7994), (193372529, 1462862, -7950),
   (194833403, 1458887, -7907), (196290313, 1454933, -7865), (197743280, 1451001, -7822),
   (199192325, 1447090, -7780), (200637470, 1443200, -7738), (202078735, 1439330, -7697),
   (203516141, 1435482, -7656), (204949709, 1431654, -7615), (206379459, 1427846, -7575),
   (207805412, 1424059, -7535), (209227588, 1420292, -7495), (210646006, 1416544, -7455),
   (212060686, 1412817, -7416), (213471649, 1409108, -7378), (214878913, 1405420, -7339),
   (216282497, 1401750, -7301)]

def sfuLogFar2 : List (Int × Int × Int) :=
  [(217682422, 1398100, -7263), (219078706, 1394468, -7225), (220471368, 1390856, -7188),
   (221860427, 1387262, -7151), (223245901, 1383686, -7114), (224627809, 1380129, -7078),
   (226006169, 1376591, -7041), (227380999, 1373070, -7005), (228752318, 1369567, -6970),
   (230120143, 1366082, -6934), (231484491, 1362615, -6899), (232845382, 1359165, -6864),
   (234202831, 1355733, -6830), (235556857, 1352318, -6796), (236907476, 1348920, -6762),
   (238254706, 1345540, -6728), (239598564, 1342176, -6694), (240939066, 1338829, -6661),
   (242276230, 1335498, -6628), (243610071, 1332185, -6595), (244940607, 1328887, -6562),
   (246267853, 1325606, -6530), (247591827, 1322341, -6498), (248912543, 1319092, -6466),
   (250230018, 1315859, -6435), (251544269, 1312642, -6403), (252855309, 1309440, -6372),
   (254163156, 1306254, -6341), (255467825, 1303083, -6310), (256769331, 1299928, -6280),
   (258067689, 1296788, -6250), (259362915, 1293664, -6220), (260655024, 1290554, -6190),
   (261944030, 1287459, -6160), (263229949, 1284379, -6131), (264512795, 1281314, -6101),
   (265792584, 1278263, -6073), (267069328, 1275227, -6044), (268343044, 1272205, -6015),
   (269613745, 1269197, -5987), (270881446, 1266204, -5959), (272146160, 1263225, -5931),
   (273407902, 1260259, -5903), (274666685, 1257308, -5875), (275922524, 1254370, -5848),
   (277175432, 1251446, -5821), (278425423, 1248536, -5794), (279672511, 1245639, -5767),
   (280916708, 1242756, -5740), (282158029, 1239886, -5714), (283396486, 1237029, -5687),
   (284632093, 1234185, -5661), (285864862, 1231354, -5635), (287094808, 1228536, -5610),
   (288321942, 1225732, -5584), (289546277, 1222940, -5559), (290767827, 1220160, -5534),
   (291986604, 1217393, -5509), (293202620, 1214639, -5484), (294415888, 1211897, -5459),
   (295626420, 1209168, -5434), (296834229, 1206450, -5410), (298039327, 1203745, -5386),
   (299241726, 1201052, -5362)]

def sfuLogFar3 : List (Int × Int × Int) :=
  [(300441438, 1198372, -5338), (301638476, 1195703, -5314), (302832850, 1193045, -5291),
   (304024572, 1190400, -5267), (305213656, 1187767, -5244), (306400111, 1185145, -5221),
   (307583951, 1182534, -5198), (308765185, 1179935, -5175), (309943827, 1177348, -5153),
   (311119886, 1174771, -5130), (312293375, 1172206, -5108), (313464304, 1169652, -5085),
   (314632685, 1167110, -5063), (315798529, 1164578, -5041), (316961847, 1162057, -5020),
   (318122649, 1159548, -4998), (319280947, 1157048, -4977), (320436752, 1154560, -4955),
   (321590073, 1152083, -4934), (322740922, 1149616, -4913), (323889310, 1147159, -4892),
   (325035246, 1144713, -4871), (326178741, 1142278, -4850), (327319806, 1139852, -4830),
   (328458451, 1137438, -4809), (329594686, 1135033, -4789), (330728522, 1132638, -4769),
   (331859968, 1130254, -4749), (332989034, 1127879, -4729), (334115731, 1125515, -4709),
   (335240069, 1123160, -4690), (336362057, 1120815, -4670), (337481704, 1118480, -4651),
   (338599022, 1116155, -4631), (339714019, 1113839, -4612), (340826705, 1111533, -4593),
   (341937090, 1109237, -4574), (343045183, 1106950, -4555), (344150994, 1104672, -4537),
   (345254532, 1102404, -4518), (346355806, 1100145, -4500), (347454825, 1097895, -4481),
   (348551600, 1095654, -4463), (349646138, 1093423, -4445), (350738450, 1091200, -4427),
   (351828543, 1088987, -4409), (352916428, 1086782, -4391), (354002113, 1084587, -4373),
   (355085606, 1082400, -4356), (356166918, 1080222, -4338), (357246056, 1078053, -4321),
   (358323029, 1075893, -4304), (359397846, 1073741, -4286), (360470515, 1071598, -4269),
   (361541046, 1069463, -4252), (362609446, 1067337, -4235), (363675724, 1065219, -4219),
   (364739889, 1063110, -4202), (365801948, 1061009, -4185), (366861911, 1058916, -4169),
   (367919785, 1056832, -4153), (368975579, 1054756, -4136), (370029300, 1052687, -4120),
   (371080958, 1050627, -4104)]

/-- LOG far path, 256 segments: ln m on [1, 2). -/
def sfuLogFar : List (Int × Int × Int) := sfuLogFar0 ++ sfuLogFar1 ++ sfuLogFar2 ++ sfuLogFar3

def sfuLogNear0 : List (Int × Int × Int) :=
  [(573512964, -1251675, 14663), (572264955, -1244344, 14518), (571024241, -1237085, 14375),
   (569790750, -1229897, 14234), (568564411, -1222781, 14095), (567345154, -1215733, 13958),
   (566132910, -1208754, 13823), (564927612, -1201843, 13689), (563729191, -1194998, 13558),
   (562537582, -1188219, 13428), (561352720, -1181505, 13300), (560174540, -1174855, 13174),
   (559002978, -1168268, 13050), (557837972, -1161744, 12927), (556679460, -1155280, 12806),
   (555527381, -1148877, 12686), (554381675, -1142535, 12568), (553242283, -1136251, 12452),
   (552109145, -1130025, 12337), (550982204, -1123857, 12223), (549861403, -1117745, 12111),
   (548746686, -1111689, 12001), (547637997, -1105689, 11892), (546535281, -1099743, 11784),
   (545438484, -1093851, 11678), (544347552, -1088012, 11573), (543262433, -1082226, 11469),
   (542183075, -1076491, 11367), (541109425, -1070808, 11266), (540041434, -1065175, 11166),
   (538979051, -1059591, 11068), (537922227, -1054057, 10971), (536870912, -1048572, 10875),
   (535825059, -1043135, 10780), (534784619, -1037745, 10686), (533749546, -1032401, 10594),
   (532719793, -1027105, 10503), (531695314, -1021853, 10412), (530676064, -1016647, 10323),
   (529661997, -1011486, 10235), (528653070, -1006368, 10148), (527649239, -1001294, 10062),
   (526650461, -996263, 9977), (525656692, -991274, 9893), (524667891, -986328, 9810),
   (523684016, -981423, 9729), (522705025, -976558, 9648), (521730879, -971735, 9568),
   (520761536, -966951, 9489), (519796957, -962207, 9410), (518837103, -957501, 9333),
   (517881935, -952835, 9257), (516931415, -948206, 9181), (515985503, -943616, 9107),
   (515044164, -939062, 9033), (514107360, -934546, 8960), (513175055, -930066, 8888),
   (512247211, -925622, 8817), (511323793, -921213, 8747), (510404767, -916840, 8677),
   (509490096, -912501, 8608), (508579747, -908197, 8540), (507673685, -903927, 8473),
   (506771876, -899691, 8406)]

/-- LOG near path, 64 segments: ln(1 + d)/d on [-0.125, 0.125). -/
def sfuLogNear : List (Int × Int × Int) := sfuLogNear0

/-- SINR, s0 to s4 in S2.30 (R713 step 4). -/
def sfuSin : List Int := [843314857, -86699834, 2674041, -39273, 336]

/-- COSR, k0 to k4 in S2.30. -/
def sfuCos : List Int := [1073741824, -331168970, 17023473, -350031, 3856]

/-- log2(e) held to 48 bits, 47 of them fraction bits (R181, log 20). -/
def sfuLog2e : Nat := 203041276517400

/-- ln 2 held to 48 bits, all fraction bits. -/
def sfuLn2 : Nat := 195103586505167

/-- log2(e) held to 24 bits, 23 of them fraction bits (R188). -/
def tm1Log2e : Nat := 12102203

/-- ln 2 held to 24 bits, rounded to nearest (DESIGN CHOICE, log 150). -/
def tm1Ln2 : Nat := 11629080

end Sys2Proof.Machine
end

