-- ==== Sys2Proof/Machine/Sfu.lean ====
section
/-! DEFINITION. The special-function unit (R179 to R189): native mode and TM1 function mode. Results are
binary32 codes; the events are those of the special-value table of R180. -/

namespace Sys2Proof.Machine

/-- The six functions of the unit. -/
inductive SfuFn where
  | exp | log | rcp | rsqrt | sinr | cosr
  deriving DecidableEq, Repr

/-- v · 2^-sh truncated toward zero. -/
def tzShift (v : Int) (sh : Nat) : Int := v.tdiv (2 ^ sh : Nat)

/-- v · 2^-sh rounded to nearest, ties to even. -/
def rneShift (v : Int) (sh : Nat) : Int :=
  if sh = 0 then v else
    let q := v / (2 ^ sh : Nat)
    let r := v % (2 ^ sh : Nat)
    if 2 * r > (2 ^ sh : Nat) ∨ (2 * r = (2 ^ sh : Nat) ∧ q % 2 = 1) then q + 1 else q

/-- A four-byte coefficient of a TM1 table, at a byte of object 0x2004:0x01 (R714). -/
def tm1Coef (byte : Nat) : Int :=
  sx 32 (leNat ((List.range 4).map (fun i => Config.tm1TableByte (byte + i))))

/-- A segment entry of a TM1 table. -/
def tm1Seg (base j : Nat) : Int × Int × Int :=
  (tm1Coef (base + 12 * j), tm1Coef (base + 12 * j + 4), tm1Coef (base + 12 * j + 8))

/-- c0 + h · (c1 + h · c2) with every product and sum truncated toward zero (R182, R188): `p` fraction bits
kept, coefficients with `f0`, `f1`, `f2` fraction bits, `h` in units of 2^-hb. -/
def segPoly (p f0 f1 f2 : Nat) (c : Int × Int × Int) (h : Nat) (hb : Nat) : Int :=
  let b := c.2.1 * (2 ^ (p - f1) : Nat) + tzShift (h * c.2.2) (hb + f2 - p)
  c.1 * (2 ^ (p - f0) : Nat) + tzShift (h * b) hb

/-- Native evaluation (R182). -/
def polyNative (t : List (Int × Int × Int)) (j h hb : Nat) : Int :=
  segPoly 33 29 21 15 (nth (0, 0, 0) t j) h hb

/-- TM1 evaluation (R188). -/
def polyTm1 (base j h hb : Nat) : Int := segPoly 25 23 15 9 (tm1Seg base j) h hb

/-- An integer times 2^e, with a sign, rounded once to binary32 (R179). -/
def sfuRound (neg : Bool) (v : Int) (e : Int) : Nat :=
  f32r (.fin (neg ^^ decide (v < 0)) v.natAbs e)

/-- The 24-bit significand of a normalised value, with 23 fraction bits. -/
def norm24 (m : Nat) : Nat := m <<< (23 - m.log2)

/-- The significands of the TM1 results that R189 prints for RCP: just below 1.5 and at 1.5. RCP takes an input's exponent exactly
(R188), so they hold for every input of that significand whose result is normal. -/
def tm1RcpSeam (fr : Nat) : Option Int :=
  if fr = 0x3FFFFF then some 0xAAAAAB else if fr = 0x400000 then some 0xAAAAAC else none

/-- RCP of a finite nonzero value above 2^-128 in magnitude (R181, R188, R189). -/
def sfuRcpFin (tm1 : Bool) (s : Bool) (m : Nat) (e : Int) : Nat :=
  let ex := e + m.log2
  let fr := norm24 m - 2 ^ 23
  if tm1 then
    let seam := if ex ≤ 125 then tm1RcpSeam fr else none
    if fr = 0 then sfuRound s 1 (-ex)
    else if seam.isSome then sfuRound s (seam.getD 0) (-24 - ex)
    else sfuRound s (polyTm1 16384 (fr >>> 17) (fr % 2 ^ 17) 23) (-25 - ex)
  else sfuRound s (polyNative sfuRcp (fr >>> 15) (fr % 2 ^ 15) 23) (-33 - ex)

/-- RSQRT of a positive finite value. The input just below 4.0, at every even power of 2, has the TM1 result that R189 prints. -/
def sfuRsqrtFin (tm1 : Bool) (m : Nat) (e : Int) : Nat :=
  let ex := e + m.log2
  let q := ex / 2
  let odd := (ex % 2).toNat
  let fr := norm24 m - 2 ^ 23
  if tm1 then
    if fr = 0 ∧ odd = 0 then sfuRound false 1 (-q)
    else if fr = 0x7FFFFF ∧ odd = 1 then sfuRound false 0xFFFFFF (-25 - q)
    else sfuRound false (polyTm1 17152 (64 * odd + fr >>> 17) (fr % 2 ^ 17) (23 - odd)) (-25 - q)
  else
    sfuRound false (polyNative sfuRsqrt (128 * odd + fr >>> 16) (fr % 2 ^ 16) (23 - odd)) (-33 - q)

/-- EXP of a finite nonzero value below the overflow limit. Its t is rounded to nearest (DESIGN CHOICE, log 150). -/
def sfuExpFin (tm1 : Bool) (s : Bool) (m : Nat) (e : Int) : Nat :=
  let tb : Nat := if tm1 then 32 else 40
  let lb : Nat := if tm1 then 23 else 47
  let prod := m * (if tm1 then tm1Log2e else sfuLog2e)
  -- |t| in units of 2^-tb
  let sh : Int := (lb : Int) - e - tb
  if e + m.log2 > 8 then 0
  else
    let ta : Int :=
      if sh ≤ 0 then ((prod <<< (-sh).toNat : Nat) : Int) else rneShift prod sh.toNat
    let t := if s then -ta else ta
    let n := rneShift t tb
    let f := (t - n * (2 ^ tb : Nat) + (2 ^ (tb - 1) : Nat)).toNat
    if n < -200 then 0
    else if tm1 then
      let j := min 63 (f >>> 26)
      sfuRound false (polyTm1 18688 j (f - j <<< 26) 32) (n - 25)
    else
      let j := min 255 (f >>> 32)
      sfuRound false (polyNative sfuExp j (f - j <<< 32) 40) (n - 33)

/-- LOG of a positive finite value. What R181 and R188 hold to a number of bits (constants, t, the sum) is rounded to nearest (DESIGN
CHOICE, log 150). -/
def sfuLogFin (tm1 : Bool) (m : Nat) (e : Int) : Nat :=
  let ex := e + m.log2
  let sig := norm24 m
  let fr := sig - 2 ^ 23
  if fr = 0 ∧ ex = 0 then 0
  else if tm1 then
    let sum := ex * tm1Ln2 * (2 ^ 16 : Nat) + polyTm1 19456 (fr >>> 17) (fr % 2 ^ 17) 23 * (2 ^ 15 : Nat)
    sfuRound false (rneShift sum 8) (-32)
  else if (ex = -1 ∧ fr ≥ 3 * 2 ^ 21) ∨ (ex = 0 ∧ fr < 2 ^ 20) then
    -- near path: d = x - 1 in units of 2^-24
    let d : Int := (if ex = 0 then ((2 * sig : Nat) : Int) else (sig : Int)) - (2 ^ 24 : Nat)
    let o := (d + (2 ^ 21 : Nat)).toNat
    sfuRound false (d * polyNative sfuLogNear (o >>> 16) (o % 2 ^ 16) 24) (-57)
  else
    let sum := ex * sfuLn2 + polyNative sfuLogFar (fr >>> 15) (fr % 2 ^ 15) 23 * (2 ^ 15 : Nat)
    sfuRound false (rneShift sum 8) (-40)

/-- Round a finite value to an integral value, ties to even (FRINT's magnitude). -/
def rintMag (m : Nat) (e : Int) : Nat :=
  if e ≥ 0 then m <<< e.toNat
  else
    let s := (-e).toNat
    let k := m >>> s
    let rem := m % 2 ^ s
    if 2 * rem > 2 ^ s ∨ (2 * rem = 2 ^ s ∧ k % 2 = 1) then k + 1 else k

/-- FRINT of an exact value; zeros, infinities and NaN are unchanged. -/
def FVal.rint : FVal → FVal
  | .fin s m e => if e ≥ 0 then .fin s m e else .fin s (rintMag m e) 0
  | v => v

/-- The value of v as an integer, for an integral value. -/
def FVal.toIntExact : FVal → Int
  | .fin s m e => (if s then -1 else 1) * ((m <<< e.toNat : Nat) : Int)
  | _ => 0

/-- Horner's rule with each product and sum truncated toward zero to 2^-p; `w` in units of 2^-p. -/
def hornerTz (p : Nat) (w : Int) : List Int → Int
  | [] => 0
  | [c] => c
  | c :: cs => c + tzShift (w * hornerTz p w cs) p

/-- SINR and COSR of a finite value: reduction and evaluation (R181 to R184, R188). -/
def sfuTrigFin (tm1 : Bool) (cosine : Bool) (x : FVal) : Nat :=
  let r := x.sub x.rint
  let o := (r.scale 2).rint.toIntExact
  let u := r.sub (.fin (decide (o < 0)) o.natAbs (-2))
  let v := u.scale 3
  let p : Nat := if tm1 then 25 else 33
  let w : Int :=
    match v with
    | .fin _ m e =>
      let k := 2 * e + (p : Int)
      if k ≥ 0 then ((m * m) <<< k.toNat : Nat) else ((m * m) >>> (-k).toNat : Nat)
    | _ => 0
  let sinC := if tm1 then (List.range 4).map (fun i => tm1Coef (20224 + 4 * i)) else sfuSin
  let cosC := if tm1 then (List.range 4).map (fun i => tm1Coef (20240 + 4 * i)) else sfuCos
  let sP := hornerTz p w (sinC.map (· * 8))
  let sinV : FVal := v.mul (.fin (decide (sP < 0)) sP.natAbs (-(p : Int)))
  let cP := hornerTz p w (cosC.map (· * 8))
  let cosV : FVal :=
    if u.isZero then .fin false 1 0 else .fin (decide (cP < 0)) cP.natAbs (-(p : Int))
  let res : FVal :=
    if cosine then
      (if o = 0 then cosV else if o = 1 then sinV.neg else if o = -1 then sinV else cosV.neg)
    else
      (if o = 0 then sinV else if o = 1 then cosV else if o = -1 then cosV.neg else sinV.neg)
  if res.isZero then (if cosine then 0 else fmtF32.withSign x.sign 0) else f32r res

/-- The inputs of LOG whose TM1 results R189 prints; those of RCP and RSQRT stand with their functions. -/
def tm1Printed (fn : SfuFn) (x : Nat) : Option Nat :=
  match fn with
  | .log => if x = 0x3FFFFFFF then some 0x3F317218 else if x = 0x40000000 then some 0x3F317217 else none
  | _ => none

/-- One special-function result: the binary32 code and the events (R180). -/
def sfu (tm1 : Bool) (fn : SfuFn) (x : Nat) : Nat × Ev :=
  let v := f32v x
  let inf : Nat := 0x7F800000
  match fn, v with
  | _, .nan => (f32Nan, .none)
  | .exp, .inf s => (if s then 0 else inf, .none)
  | .log, .inf s => if s then (f32Nan, .nan) else (inf, .none)
  | .rcp, .inf s => (fmtF32.withSign s 0, .none)
  | .rsqrt, .inf s => if s then (f32Nan, .nan) else (0, .none)
  | .sinr, .inf _ => (f32Nan, .nan)
  | .cosr, .inf _ => (f32Nan, .nan)
  | fn, .fin s m e =>
    match if tm1 then tm1Printed fn x else none with
    | some r => (r, .none)
    | none =>
      match fn with
      | .exp =>
        if m = 0 then (0x3F800000, .none)
        else if !s ∧ 0x42B17218 ≤ x then (inf, ⟨0, 1, 0, 0⟩)
        else (sfuExpFin tm1 s m e, .none)
      | .log =>
        if m = 0 then (0xFF800000, .none)
        else if s then (f32Nan, .nan)
        else (sfuLogFin tm1 m e, .none)
      | .rcp =>
        if m = 0 then (fmtF32.withSign s inf, .none)
        else if e + m.log2 < -128 ∨ (e + m.log2 = -128 ∧ m = 2 ^ m.log2) then
          (fmtF32.withSign s inf, ⟨0, 1, 0, 0⟩)
        else (sfuRcpFin tm1 s m e, .none)
      | .rsqrt =>
        if m = 0 then (fmtF32.withSign s inf, .none)
        else if s then (f32Nan, .nan)
        else (sfuRsqrtFin tm1 m e, .none)
      | .sinr => if m = 0 then (x, .none) else (sfuTrigFin tm1 false v, .none)
      | .cosr => if m = 0 then (0x3F800000, .none) else (sfuTrigFin tm1 true v, .none)

/-- A coefficient table as the bytes of object 0x2004 (R714). -/
def coefBytes (t : List (Int × Int × Int)) (i : Nat) : Byte :=
  let c := nth (0, 0, 0) t (i / 12)
  let v := if i % 12 < 4 then c.1 else if i % 12 < 8 then c.2.1 else c.2.2
  BitVec.ofNat 8 (wrapInt 32 v >>> (8 * (i % 4)))

/-- Byte `i` of object 0x2004:0x01 (R714). -/
def functionTableByte (i : Nat) : Byte :=
  if i < 3072 then coefBytes sfuRcp i
  else if i < 6144 then coefBytes sfuRsqrt (i - 3072)
  else if i < 9216 then coefBytes sfuExp (i - 6144)
  else if i < 12288 then coefBytes sfuLogFar (i - 9216)
  else if i < 13056 then coefBytes sfuLogNear (i - 12288)
  else if i < 13076 then BitVec.ofNat 8 (wrapInt 32 (nth 0 sfuSin ((i - 13056) / 4)) >>> (8 * (i % 4)))
  else if i < 13096 then BitVec.ofNat 8 (wrapInt 32 (nth 0 sfuCos ((i - 13076) / 4)) >>> (8 * (i % 4)))
  else if 16384 ≤ i ∧ i < 20256 then Config.tm1TableByte i
  else 0

end Sys2Proof.Machine
end

