-- ==== Sys2Proof/Machine/Tree.lean ====
section
/-! DEFINITION. Canonical reduction (chapter "Canonical reduction and layout-invariant results"): the tree of
R73, the node kinds of R77 and their event counts (R80), the statistic leaf (R83), the tree stack (R86). -/

namespace Sys2Proof.Machine

/-- R74: whether [a, b) is a canonical node of the tree with `n` leaves. -/
def isCanonical (n a b : Nat) : Bool :=
  a < b && b ≤ n && a % 2 ^ clog2 (b - a) = 0 && (isPow2 (b - a) || b = n)

/-- R73: the size of the left child of a node of `s` > 1 leaves. -/
def leftSize (s : Nat) : Nat := 2 ^ (s - 1).log2

/-- A child that may be absent combines by R76: the other child unchanged. -/
def combineOpt {α : Type} (f : α → α → α × Ev) : Option α × Ev → Option α × Ev → Option α × Ev
  | (none, e), (y, e') => (y, e.plus e')
  | (x, e), (none, e') => (x, e.plus e')
  | (some x, e), (some y, e') =>
    let (z, e2) := f x y
    (some z, (e.plus e').plus e2)

/-- The tree of R73 over a row of leaves, some of them absent (R76). `fuel` bounds the depth. -/
def treeFuel {α : Type} (f : α → α → α × Ev) : Nat → List (Option α) → Option α × Ev
  | 0, _ => (none, .none)
  | _ + 1, [] => (none, .none)
  | _ + 1, [x] => (x, .none)
  | fuel + 1, l =>
    let p := leftSize l.length
    combineOpt f (treeFuel f fuel (l.take p)) (treeFuel f fuel (l.drop p))

/-- The value of the root over a row of leaves. -/
def treeVal {α : Type} (f : α → α → α × Ev) (l : List (Option α)) : Option α × Ev :=
  treeFuel f (l.length + 1) l

/-- Binary32 addition as an inner node counts it: one OVERFLOW or NAN_CREATED by R80, no INEXACT. -/
def nodeAdd (a b : Nat) : Nat × Ev :=
  let (r, e) := f32add a b
  (r, ⟨0, e.overflow, e.nanCreated, 0⟩)

/-- Node kinds (R77). -/
def kindDefined (k : Nat) : Bool := k ≤ 4

/-- 32-bit words of one record of a kind; `dv` is the row width of MERGE. -/
def recWords (kind dv : Nat) : Nat :=
  match kind with
  | 0 => 1
  | 1 => 1
  | 2 => 2
  | 3 => 3
  | _ => dv + 2

/-- Whether a binary32 code is finite. -/
def f32Finite (c : Nat) : Bool := (f32v c).isFinite

/-- R80: OVERFLOW when some result field is infinite and its operand fields are all finite; NAN_CREATED when
some result field is NaN and no operand field of it is NaN. Each item: result field and its operand fields. -/
def nodeEvents (fields : List (Nat × List Nat)) : Ev :=
  ⟨0, b2n (fields.any (fun p => (f32v p.1).isInf && p.2.all f32Finite)),
   b2n (fields.any (fun p => f32IsNan p.1 && !p.2.any f32IsNan)), 0⟩

/-- combine_pair of R77. -/
def combinePair (l r : List Nat) : List Nat :=
  let lh := nth 0 l 0
  let ll := nth 0 l 1
  let rh := nth 0 r 0
  let rl := nth 0 r 1
  let s := (f32add lh rh).1
  if !f32Finite s then [s, 0]
  else
    let v := (f32sub s lh).1
    let e := (f32add (f32sub lh (f32sub s v).1).1 (f32sub rh v).1).1
    let e := (f32add e (f32add ll rl).1).1
    let hi := (f32add s e).1
    if !f32Finite hi then [hi, 0]
    else [hi, (f32sub e (f32sub hi s).1).1]

/-- combine_stat of R77. -/
def combineStat (tm1 : Bool) (l r : List Nat) : List Nat :=
  let ln := nth 0 l 0
  let rn := nth 0 r 0
  let n := (ln + rn) % 2 ^ 32
  let d := (f32sub (nth 0 r 1) (nth 0 l 1)).1
  let w := (f32mul (f32OfNat rn) (sfu tm1 .rcp (f32OfNat n)).1).1
  let mean := (f32fma d w (nth 0 l 1)).1
  let t := (f32mul (f32OfNat ln) w).1
  let s := (f32add (nth 0 l 2) (nth 0 r 2)).1
  [n, mean, (f32fma (f32mul d d).1 t s).1]

/-- FMAX of two binary32 codes (R168). -/
def f32max (a b : Nat) : Nat :=
  let x := f32v a
  let y := f32v b
  if x.isNan && y.isNan then f32Nan
  else if x.isNan then b
  else if y.isNan then a
  else if x.isZero && y.isZero then (if x.sign then b else a)
  else if x.lt y then b else a

/-- FMIN of two binary32 codes (R168). -/
def f32min (a b : Nat) : Nat :=
  let x := f32v a
  let y := f32v b
  if x.isNan && y.isNan then f32Nan
  else if x.isNan then b
  else if y.isNan then a
  else if x.isZero && y.isZero then (if x.sign then a else b)
  else if y.lt x then b else a

/-- combine_merge of R77. -/
def combineMerge (tm1 : Bool) (l r : List Nat) : List Nat :=
  let lm := nth 0 l 0
  let rm := nth 0 r 0
  if f32IsNan lm || f32IsNan rm then l.map (fun _ => f32Nan)
  else
    let m := f32max lm rm
    let al := if (f32v lm).eq (f32v m) then 0x3F800000 else (sfu tm1 .exp (f32sub lm m).1).1
    let ar := if (f32v rm).eq (f32v m) then 0x3F800000 else (sfu tm1 .exp (f32sub rm m).1).1
    m :: (List.zip (l.drop 1) (r.drop 1)).map (fun p => (f32fma al p.1 (f32mul ar p.2).1).1)

/-- The combine operation of a node kind on one record (R75, R77, R79), with the events of R80. A statistic record with
n = 0 is that of an absent row and slot in a contribution of R240; it combines by R76, as in a core's stack (R242). -/
def combineRec (tm1 : Bool) (kind : Nat) (l r : List Nat) : List Nat × Ev :=
  match kind with
  | 0 =>
    let x := (f32add (nth 0 l 0) (nth 0 r 0)).1
    ([x], nodeEvents [(x, [nth 0 l 0, nth 0 r 0])])
  | 1 => ([(nth 0 l 0 + nth 0 r 0) % 2 ^ 32], .none)
  | 2 =>
    let z := combinePair l r
    (z, nodeEvents (z.map (fun x => (x, l ++ r))))
  | 3 =>
    if nth 0 l 0 = 0 then (r, .none) else if nth 0 r 0 = 0 then (l, .none) else
    let z := combineStat tm1 l r
    let means := [nth 0 l 1, nth 0 r 1]
    (z, nodeEvents [(nth 0 z 1, means), (nth 0 z 2, means ++ [nth 0 l 2, nth 0 r 2])])
  | _ =>
    let z := combineMerge tm1 l r
    let ms := [nth 0 l 0, nth 0 r 0]
    (z, nodeEvents ((z.zip (l.zip r)).map (fun p => (p.1, ms ++ [p.2.1, p.2.2]))))

/-- Combine two rows of records element by element. -/
def combineRows (tm1 : Bool) (kind : Nat) (l r : List (List Nat)) : List (List Nat) × Ev :=
  let zs := (l.zip r).map (fun p => combineRec tm1 kind p.1 p.2)
  (zs.map (·.1), Ev.sum (zs.map (·.2)))

/-- R83: the STAT leaf of a chunk of column positions, absent columns being none; no leaf when no column is
present. The events are those of its tree nodes and its arithmetic (R80, R178). -/
def statLeaf (tm1 : Bool) (cols : List (Option Nat)) : Option (List Nat) × Ev :=
  let c := (cols.filter Option.isSome).length
  if c = 0 then (none, .none)
  else
    let (sum, e1) := treeVal nodeAdd cols
    let (mean, e2) := f32mul (sum.getD 0) (sfu tm1 .rcp (f32OfNat c)).1
    let sq := cols.map (fun o => o.map (fun x =>
      let (d, ea) := f32sub x mean
      let (q, eb) := f32mul d d
      (q, ea.plus eb)))
    let (m2, e3) := treeVal nodeAdd (sq.map (fun o => o.map (·.1)))
    let ea := Ev.sum (sq.map (fun o => match o with | some p => p.2 | none => .none))
    let drop := fun e : Ev => (⟨0, e.overflow, e.nanCreated, 0⟩ : Ev)
    (some [c, mean, m2.getD 0], (e1.plus (drop e2)).plus ((drop ea).plus e3))

end Sys2Proof.Machine
end

