-- ==== Sys2Proof/Machine/Stack.lean ====
section
/-! DEFINITION. The tree stack of a core (R86), over rows of records; an absent node is `none` (R76, R236). -/

namespace Sys2Proof.Machine

/-- Combine two nodes of a stack, absent nodes by R76. -/
def combineNodes (tm1 : Bool) (kind : Nat) (l r : Option (List (List Nat))) : Option (List (List Nat)) × Ev :=
  match l, r with
  | none, y => (y, .none)
  | x, none => (x, .none)
  | some x, some y =>
    let z := combineRows tm1 kind x y
    (some z.1, z.2)

/-- R86 steps 1 to 3: a completed node meets the stack (top first). -/
def stackPush (tm1 : Bool) (kind : Nat) : List StackEntry → StackEntry → List StackEntry × Ev
  | [], cur => ([cur], .none)
  | top :: rest, cur =>
    if top.b - top.a = cur.b - cur.a then
      let v := combineNodes tm1 kind top.recs cur.recs
      let r := stackPush tm1 kind rest ⟨top.a, cur.b, v.1⟩
      (r.1, v.2.plus r.2)
    else (cur :: top :: rest, .none)

/-- R86 step 4: the stack, top first, collapses to one entry. -/
def stackCollapse (tm1 : Bool) (kind : Nat) : List StackEntry → Option StackEntry × Ev
  | [] => (none, .none)
  | top :: rest =>
    rest.foldl (fun acc lower =>
      match acc with
      | (some cur, e) =>
        let v := combineNodes tm1 kind lower.recs cur.recs
        (some ⟨lower.a, cur.b, v.1⟩, e.plus v.2)
      | (none, e) => (some lower, e)) (some top, .none)

end Sys2Proof.Machine
end

