-- ==== Sys2Proof/Machine/Tables.lean ====
section
/-! DEFINITION. Live tables and weight entries as lookups and references see them (R502 to R509, R521 to R526). -/

namespace Sys2Proof.Machine

/-! ### Live tables -/

/-- A defined table. -/
def State.table (s : State) (id : Nat) : Option Table := nget none s.chair.tables id

/-- Set a table. -/
def State.setTable (s : State) (id : Nat) (t : Option Table) : State :=
  { s with chair := { s.chair with tables := nset none s.chair.tables id t } }

/-- The bank that an epoch selects (R522). -/
def Table.bank (t : Table) (epoch : Nat) : TBank := if epoch % 2 = 0 then t.b0 else t.b1

/-- Change the bank that an epoch selects. -/
def Table.modBank (t : Table) (epoch : Nat) (f : TBank → TBank) : Table :=
  if epoch % 2 = 0 then { t with b0 := f t.b0 } else { t with b1 := f t.b1 }

/-- R521: the code of a lookup that meets no current bank, by table type. -/
def noBankCode (type : Nat) : Nat := if type = 1 then cTranslation else cVersion

/-- R521: a lookup of context `c` of table `id`, expecting one of `types`: the epoch it is tagged with, or a code. -/
def State.lookup (s : State) (id c : Nat) (types : List Nat) : Except Nat Nat :=
  match s.table id with
  | none => .error (noBankCode (types.headD 0))
  | some t =>
    if !types.contains t.type then .error cDescriptor
    else if t.owner ≠ 0x40 ∧ t.owner ≠ c then .error cProtection
    else if (t.bank t.epoch).state ≠ .current then .error (noBankCode t.type)
    else .ok t.epoch

/-- R524: a tagged operation adds a reference to its bank. -/
def State.refTable (s : State) (tag : Option (Nat × Nat)) : State :=
  match tag with
  | none => s
  | some (id, e) =>
    match s.table id with
    | none => s
    | some t => s.setTable id (some (t.modBank e (fun b => { b with refs := b.refs + 1 })))

/-- R523, R524: a reference is released; the last one of a DRAINING bank frees it. -/
def State.unrefTable (s : State) (tag : Option (Nat × Nat)) : State :=
  match tag with
  | none => s
  | some (id, e) =>
    match s.table id with
    | none => s
    | some t => s.setTable id (some (t.modBank e (fun b =>
        { b with refs := b.refs - 1,
                 state := if b.state = .draining ∧ b.refs ≤ 1 then .free else b.state })))

/-- R523: the effect of a flip on a table whose non-current bank is READY. -/
def Table.flip (t : Table) : Table :=
  let e := (t.epoch + 1) % 2 ^ 32
  let t := t.modBank t.epoch (fun b => { b with
    state := if b.state = .current then (if b.refs = 0 then .free else .draining) else b.state })
  ({ t with epoch := e }).modBank e (fun b => { b with state := .current })

/-! ### Weight entries -/

/-- Key of an object of slot `s` (R529). -/
def kSlot (slot sub : Nat) : Nat := kDev (0xA100 + slot) sub

/-- Entry states (R504) in table order. -/
def eEmpty : Nat := 0
/-- R504 RECEIVING. -/
def eReceiving : Nat := 1
/-- R504 VERIFYING. -/
def eVerifying : Nat := 2
/-- R504 VERIFIED. -/
def eVerified : Nat := 3
/-- R504 CURRENT. -/
def eCurrent : Nat := 4
/-- R504 PREVIOUS. -/
def ePrevious : Nat := 5
/-- R504 DRAINING. -/
def eDraining : Nat := 6
/-- R504 ARCHIVING. -/
def eArchiving : Nat := 7

/-- State of entry `e` of slot `sl`. -/
def State.eState (s : State) (sl e : Nat) : Nat := s.obj (kSlot sl (0x06 + e))
/-- Version held by an entry. -/
def State.eVersion (s : State) (sl e : Nat) : Nat := s.obj (kSlot sl (0x09 + e))
/-- References of an entry (R509). -/
def State.eRefs (s : State) (sl e : Nat) : Nat := s.obj (kSlot sl (0x0C + e))
/-- ENTRY_PA of an entry (R507). -/
def State.ePa (s : State) (sl e : Nat) : Nat := s.obj (kSlot sl (0x03 + e))
/-- Set an entry's state. -/
def State.setEState (s : State) (sl e v : Nat) : State := s.setObj (kSlot sl (0x06 + e)) v

/-- What an entry holds beside its objects. -/
def State.entry (s : State) (sl e : Nat) : Entry := nget Entry.empty s.chair.entries (sl * 4 + e)

/-- Change what an entry holds. -/
def State.modEntry (s : State) (sl e : Nat) (f : Entry → Entry) : State :=
  { s with chair := { s.chair with entries := nmod Entry.empty s.chair.entries (sl * 4 + e) f } }

/-- R504: the entry of a slot in which a version is resident. -/
def State.residentIn (s : State) (sl v : Nat) : Option Nat :=
  [0, 1, 2].find? (fun e => s.eState sl e ≠ eEmpty && s.eVersion sl e = v)

/-- Whether tasks may read an entry (R504). -/
def readableEntry (st : Nat) : Bool := st = eVerified || st = eCurrent || st = ePrevious || st = eDraining

/-- The entry that holds a version readable by tasks (R506, R508). -/
def State.readableIn (s : State) (sl v : Nat) : Option Nat :=
  match s.residentIn sl v with
  | some e => if readableEntry (s.eState sl e) then some e else none
  | none => none

/-- R505, R513: an entry with no reference leaves its slot: it is archived, or becomes EMPTY (event ENTRY_FREED). -/
def State.leaveEntry (s : State) (sl e : Nat) : State :=
  if s.obj (kSlot sl 0x11) ≠ 0 then s.setEState sl e eArchiving
  else
    let v := s.eVersion sl e
    (((s.setEState sl e eEmpty).setObj (kSlot sl (0x09 + e)) 0).modEntry sl e (fun _ => Entry.empty)).event
      0x42 0 0xFF (sl * 4 + e) v

/-- R505: an entry's references fall by n; the last release of a DRAINING entry lets it leave. -/
def State.unrefEntry (s : State) (sl e n : Nat) : State :=
  let r := s.eRefs sl e - n
  let s := s.setObj (kSlot sl (0x0C + e)) r
  if r = 0 ∧ s.eState sl e = eDraining then s.leaveEntry sl e else s

/-- R508: a task reference on the version bound to a position. -/
def State.bindVersion (s : State) (b : Option (Nat × Nat)) : State :=
  match b with
  | none => s
  | some (sl, v) =>
    match s.residentIn sl v with
    | some e => s.setObj (kSlot sl (0x0C + e)) (s.eRefs sl e + 1)
    | none => s

/-- R508: the release of a task reference. -/
def State.unbindVersion (s : State) (b : Option (Nat × Nat)) : State :=
  match b with
  | none => s
  | some (sl, v) =>
    match s.residentIn sl v with
    | some e => s.unrefEntry sl e 1
    | none => s

/-- R507: the regions that the Chairlift owns, as first address and size. -/
def State.owned (s : State) : List (Nat × Nat) :=
  ((List.range 24).filterMap (fun i =>
      let pa := s.ePa (i / 3) (i % 3)
      let w := s.obj (kSlot (i / 3) 1)
      if bitAt pa 63 && w ≠ 0 then some (pa % 2 ^ 52, w) else none))
  ++ (s.chair.tables.flatMap (fun t => match t.2 with
      | some t => [(t.b0.pa, t.blocks * 4096), (t.b1.pa, t.blocks * 4096)]
      | none => []))

/-- Whether two byte ranges (first address, size) share a byte. -/
def overlapR (a b : Nat × Nat) : Bool := a.1 < b.1 + b.2 && b.1 < a.1 + a.2

/-- Whether a byte range meets an owned range. -/
def State.inOwned (s : State) (pa n : Nat) : Bool := s.owned.any (fun r => overlapR (pa, n) r)

/-- Whether a byte range lies within one data range of R419. -/
def inOneData (pa n : Nat) : Bool := pa + n ≤ hbmTop || (tierBase ≤ pa && pa + n ≤ tierTop)

end Sys2Proof.Machine
end

