-- ==== Sys2Proof/Machine/Xlat.lean ====
section
/-! DEFINITION. Address translation and protection (R253 to R258, R419, R441, R506, R507, R610), and reads and writes
of virtual memory by a unit that acts for a context. -/

namespace Sys2Proof.Machine

/-- On whose behalf an access is made: the context, its key rights, the epoch tag of its translation table (or the
code of the lookup that failed), and the slot and version its task is bound to (R506). -/
structure Acc where
  ctx : Nat
  rights : Nat
  tag : Except Nat (Nat × Nat)
  slot : Nat
  version : Nat
  /-- An access of an open reduction's adders: translation was checked when it opened, so protection cannot fail (R92). -/
  opened : Bool := false

/-- The tag of a context's translation table now (R257, R524). -/
def State.xlatTag (s : State) (c : Nat) : Except Nat (Nat × Nat) :=
  let id := s.obj (kDev (0x2400 + c) 3)
  match s.lookup id c [1] with
  | .ok e => .ok (id, e)
  | .error x => .error x

/-- The bank that an operation of a context is tagged with now; none where the lookup fails. -/
def State.xlatNow (s : State) (c : Nat) : Option (Nat × Nat) := (s.xlatTag c).toOption

/-- The tag of an operation that was issued with `x`, or the code of the lookup that failed. -/
def State.xlatOr (s : State) (c : Nat) (x : Option (Nat × Nat)) : Except Nat (Nat × Nat) :=
  match x with
  | some x => .ok x
  | none => match s.xlatTag c with
    | .error e => .error e
    | .ok _ => .error cTranslation

/-- An access for context `c` with its KEY_RIGHTS and the current epoch, bound to no weight version. -/
def State.accOf (s : State) (c : Nat) : Acc :=
  { ctx := c, rights := s.obj (kDev (0x2400 + c) 2), tag := s.xlatTag c, slot := 8, version := 0 }

/-- An access for a task's descriptor with the epoch tag it was issued with. -/
def State.accTask (s : State) (t : Task) (tag : Except Nat (Nat × Nat)) : Acc :=
  { ctx := t.ctx, rights := s.obj (kDev (0x2400 + t.ctx) 2), tag := tag, slot := fld t.desc 979 977,
    version := fld t.desc 895 864 }

/-- R255: a walk of the bank that a tag selects: the leaf entry and whether it maps 2 MiB. A POISONED block gives CHECKSUM
(R434). -/
def State.walk (s : State) (id epoch va : Nat) : Except Nat (Nat × Bool) :=
  match s.table id with
  | none => .error cTranslation
  | some t =>
    let base := (t.bank epoch).pa
    let i1 := fld va 47 30
    if s.touchesPoison base 2 then .error cChecksum else
    if 512 * s.word base 2 ≤ i1 then .error cTranslation else
      let e1 := s.word (base + 4096 + 8 * i1) 8
      if s.touchesPoison (base + 4096 + 8 * i1) 8 then .error cChecksum else
      if !bitAt e1 63 || bitAt e1 62 then .error cTranslation else
        let e2 := s.word (fld e1 51 12 * 4096 + 8 * fld va 29 21) 8
        if s.touchesPoison (fld e1 51 12 * 4096) 1 then .error cChecksum else
        if !bitAt e2 63 then .error cTranslation
        else if bitAt e2 62 then
          if fld e2 20 12 ≠ 0 then .error cTranslation else .ok (e2, true)
        else
          let e3 := s.word (fld e2 51 12 * 4096 + 8 * fld va 20 12) 8
          if s.touchesPoison (fld e2 51 12 * 4096) 1 then .error cChecksum else
          if !bitAt e3 63 || !bitAt e3 62 then .error cTranslation else .ok (e3, false)

/-- R419: a page lies whole inside one mapped range. -/
def State.pageMapped (s : State) (pa : Nat) (big : Bool) : Bool :=
  let n := if big then 0x200000 else 4096
  inOneData pa n ||
  (match s.scratchOf pa, s.scratchOf (pa + n - 1) with
    | some a, some b => a.1 = b.1
    | _, _ => false)

/-- The base of the weight windows (R506). -/
def windowBase : Nat := 0xC00000000000

/-- R506: the slot and offset of a window address. -/
def State.windowOf (s : State) (va : Nat) : Option (Nat × Nat) :=
  if windowBase ≤ va ∧ va < windowBase + 8 * 2 ^ 36 then
    let sl := (va - windowBase) / 2 ^ 36
    let x := (va - windowBase) % 2 ^ 36
    if x < s.obj (kSlot sl 1) then some (sl, x) else none
  else none

/-- The physical address of one virtual address, or the code of the access's failure (R253 to R256, R506). -/
def State.transAddr (s : State) (acc : Acc) (va : Nat) (wr : Bool) : Except Nat Nat :=
  if 2 ^ 48 ≤ va then .error cTranslation else
    match (if acc.opened then none else s.windowOf va) with
    | some (sl, x) =>
      if wr then .error cProtection
      else if acc.slot ≠ sl then .error cProtection
      else if acc.version = 0 then .error cVersion
      else match s.readableIn sl acc.version with
        | none => .error cVersion
        | some e =>
          if (s.entry sl e).blocks * 4096 ≤ x then .error cTranslation
          else .ok (s.ePa sl e % 2 ^ 52 + x)
    | none =>
      match acc.tag with
      | .error x => .error x
      | .ok (id, ep) =>
        match s.walk id ep va with
        | .error x => .error x
        | .ok (e, big) =>
          let page := fld e 51 12 * 4096
          if !s.pageMapped page big then .error cTranslation
          else
            let k := fld e 59 56
            let ok := if wr then bitAt e 60 && bitAt acc.rights (2 * k + 1) else bitAt e 61 && bitAt acc.rights (2 * k)
            if ok then .ok (page + va % (if big then 0x200000 else 4096)) else .error cProtection

/-- R597: the stream-context area of the video engines. -/
def State.inStreamArea (s : State) (pa n : Nat) : Bool := overlapR (pa, n) (s.obj (kDev 0x8000 1), 0x2000000)

/-- R441, R507, R610, R696: what stands in the way of an access to a physical range of one page, whoever makes it. -/
def State.hostCheck (s : State) (pa n : Nat) (wr : Bool) : Option Nat :=
  match s.scratchOf pa with
  | some (cl, off) =>
    if wr && inControl off then some cProtection
    else if !s.clServes cl then some cFenced
    else none
  | none => if wr && s.inOwned pa n then some cProtection else none

/-- What stands in the way of a task's access: the stream-context area too, which no task writes (R597). -/
def State.paCheck (s : State) (pa n : Nat) (wr : Bool) : Option Nat :=
  if wr && (s.scratchOf pa).isNone && s.inStreamArea pa n then some cProtection else s.hostCheck pa n wr

/-- Keep the results of a list, or the first code of the errors by R14. -/
def collect {α : Type} (l : List (Except Nat α)) : Except Nat (List α) :=
  let errs := l.filterMap (fun x => match x with
    | .error c => some c
    | .ok _ => none)
  if errs.isEmpty then .ok (l.filterMap (fun x => match x with
    | .ok a => some a
    | .error _ => none))
  else .error (firstCode errs)

/-- A virtual byte range as physical pieces (address, bytes), or the code of its failure (R253 to R258). -/
def State.trans (s : State) (acc : Acc) (va n : Nat) (wr : Bool) : Except Nat (List (Nat × Nat)) :=
  collect ((pieces 4096 va n).map (fun p =>
    match s.transAddr acc p.1 wr with
    | .error c => .error c
    | .ok pa =>
      match s.paCheck pa p.2 wr with
      | some c => if acc.opened && c = cProtection then .ok (pa, p.2) else .error c
      | none => .ok (pa, p.2)))

/-- Read virtual memory: the bytes, or the code of the failure; a POISONED block gives CHECKSUM (R434). -/
def State.readVa (s : State) (acc : Acc) (va n : Nat) : Except Nat (List Byte) :=
  match s.trans acc va n false with
  | .error c => .error c
  | .ok ps =>
    if ps.any (fun p => s.touchesPoison p.1 p.2) then .error cChecksum
    else .ok (ps.flatMap (fun p => s.view p.1 p.2))

/-- Read a little-endian number from virtual memory. -/
def State.readVaNat (s : State) (acc : Acc) (va n : Nat) : Except Nat Nat :=
  match s.readVa acc va n with
  | .error c => .error c
  | .ok bs => .ok (leNat bs)

/-- Write bytes over physical pieces. -/
def writePieces (s : State) : List (Nat × Nat) → List Byte → State
  | [], _ => s
  | (pa, n) :: r, bs => writePieces (s.write pa (bs.take n)) r (bs.drop n)

/-- Write virtual memory without sealing, or the code of the failure, nothing written. -/
def State.writeVa (s : State) (acc : Acc) (va : Nat) (bs : List Byte) : Except Nat State :=
  match s.trans acc va bs.length true with
  | .error c => .error c
  | .ok ps => .ok (writePieces s ps bs)

/-- Write virtual memory where it can be written, and leave the state otherwise. -/
def State.tryWriteVa (s : State) (acc : Acc) (va : Nat) (bs : List Byte) : State :=
  match s.writeVa acc va bs with
  | .error _ => s
  | .ok s' => s'

end Sys2Proof.Machine
end

