-- ==== Sys2Proof/Machine/Image.lean ====
section
/-! DEFINITION. The routine image of a core and the binding block, as fields (R204 to R211, R214, R215). -/

namespace Sys2Proof.Machine

/-- Whether the module computes special functions in TM1 function mode (R187). -/
def State.tm1 (s : State) : Bool := s.obj (kDev 0x2002 1) = 1

/-- `n` bytes of an image as a number. -/
def imgNat (m : NMap Byte) (a n : Nat) : Nat := leNat (ngetRun 0 m a n)

/-- Entry `e` of an image (R204, R205). -/
def imgEntry (m : NMap Byte) (e : Nat) : Nat := imgNat m (16 + 8 * e) 8
/-- VALID. -/
def eVal (e : Nat) : Bool := bitAt e 63
/-- KIND: 0 prologue, 1 epilogue, 2 standalone. -/
def eKind (e : Nat) : Nat := fld e 62 61
/-- DEFER: 0 none, 1 in place, 2 by spill. -/
def eDefer (e : Nat) : Nat := fld e 60 59
/-- CSUM. -/
def eCsum (e : Nat) : Bool := bitAt e 58
/-- START. -/
def eStart (e : Nat) : Nat := fld e 57 47
/-- HEAD_LEN. -/
def eHead (e : Nat) : Nat := fld e 46 41
/-- TILE_LEN. -/
def eTile (e : Nat) : Nat := fld e 40 31
/-- FIN_LEN. -/
def eFin (e : Nat) : Nat := fld e 30 21
/-- NSTAT. -/
def eNstat (e : Nat) : Nat := fld e 20 15
/-- CONST: the constant block's first byte, 0 for none. -/
def eConst (e : Nat) : Nat := fld e 14 10 * 512
/-- IN_FMT. -/
def eInFmt (e : Nat) : Nat := fld e 9 6
/-- Rows per step (RPS). -/
def eRps (e : Nat) : Nat := 2 ^ fld e 5 4

/-- Instruction words of an image from word `i`. -/
def imgWords (m : NMap Byte) (i n : Nat) : List Nat := (List.range n).map (fun k => imgNat m (8 * (i + k)) 8)

/-- The head, the tile section and the finishing section of an entry (R206). -/
def headWords (m : NMap Byte) (e : Nat) : List Nat := imgWords m (eStart e) (eHead e)
/-- The tile section. -/
def tileWords (m : NMap Byte) (e : Nat) : List Nat := imgWords m (eStart e + eHead e) (eTile e)
/-- The words that a tile section runs: its head and its steps (R206, R221). -/
def bodyWords (m : NMap Byte) (e : Nat) : List Nat := headWords m e ++ tileWords m e
/-- The finishing section. -/
def finWords (m : NMap Byte) (e : Nat) : List Nat := imgWords m (eStart e + eHead e + eTile e) (eFin e)

/-- CLASS of an instruction word (R209). -/
def wClass (w : Nat) : Nat := fld w 63 62
/-- OP. -/
def wOp (w : Nat) : Nat := fld w 61 54
/-- D. -/
def wD (w : Nat) : Nat := fld w 53 47
/-- A. -/
def wA (w : Nat) : Nat := fld w 46 40
/-- B. -/
def wB (w : Nat) : Nat := fld w 39 33
/-- C. -/
def wC (w : Nat) : Nat := fld w 32 26
/-- K. -/
def wK (w : Nat) : Nat := fld w 25 22
/-- IMM. -/
def wImm (w : Nat) : Nat := fld w 21 0
/-- AG of IMM (R211). -/
def wAg (w : Nat) : Nat := fld w 13 11
/-- ROW of IMM. -/
def wRow (w : Nat) : Nat := fld w 10 9
/-- HALF of IMM. -/
def wHalf (w : Nat) : Nat := fld w 8 8
/-- Whether a word is the directive `c` (R212). -/
def isDirective (w c : Nat) : Bool := wClass w = 1 && wOp w = c
/-- Source operands that a code names. -/
def opArity (code : Nat) : Nat :=
  if code = 0 ∨ (0x34 ≤ code ∧ code ≤ 0x39) ∨ code = 0x48 ∨ code = 0x50 ∨ code = 0x101 ∨ code = 0x102 then 0
  else if [0x04, 0x05, 0x0E, 0x14, 0x15, 0x55].contains code then 3
  else if [0x0A, 0x0B, 0x0C, 0x0D, 0x0F, 0x1A, 0x1B, 0x40, 0x41, 0x42, 0x43, 0x44, 0x45, 0x51, 0x52, 0x53, 0x56, 0x58,
    0x5A, 0x5B, 0x5C, 0x5D].contains code then 1
  else 2

/-- The operation that an instruction word holds; directives have 0x100 added. -/
def wCode (w : Nat) : Nat := if wClass w = 1 then 0x100 + wOp w else wOp w

/-- The source operand codes of a word. -/
def wSrcs (w : Nat) : List Nat := [wA w, wB w, wC w].take (opArity (wCode w))

/-- Whether a word is STAT_LEAF or STAT_GET. -/
def isStat (w : Nat) : Bool := isDirective w 0 || isDirective w 1
/-- Whether a word is ST or STQ (R167 codes 0x51 and 0x52). -/
def isStoreWord (w : Nat) : Bool := wClass w = 0 && (wOp w = 0x51 || wOp w = 0x52)

/-- PRO_CTRL of a binding block (R214). -/
def bProCtrl (b : Nat) : Nat := fld b 1199 1192
/-- NCOLS: present columns. -/
def bNcols (b : Nat) : Nat := fld b 1189 1181 + 1
/-- ROWS. -/
def bRows (b : Nat) : Nat := fld b 1180 1168 + 1
/-- SECTION. -/
def bSection (b : Nat) : Bool := bitAt b 1166
/-- ENTRY. -/
def bEntry (b : Nat) : Nat := fld b 1165 1160
/-- STAT_GEN. -/
def bStatGen (b : Nat) : Nat := fld b 1159 1152
/-- STAT_RED_ID. -/
def bStatRed (b : Nat) : Nat := fld b 1151 1136
/-- NTOT. -/
def bNtot (b : Nat) : Nat := fld b 1135 1112
/-- COL0. -/
def bCol0 (b : Nat) : Nat := fld b 1111 1088
/-- ROW0. -/
def bRow0 (b : Nat) : Nat := fld b 1087 1056
/-- PRO_RING. -/
def bProRing (b : Nat) : Nat := fld b 1051 1048
/-- TENSOR_ID. -/
def bTensor (b : Nat) : Nat := fld b 1047 1024
/-- Parameter p`i`. -/
def bParam (b i : Nat) : Nat := fld b (32 * i + 543) (32 * i + 512)
/-- Address generator `i`. -/
def bAg (b i : Nat) : Nat := fld b (64 * i + 63) (64 * i)
/-- RSVD fields of a binding block are zero (R17, R214). -/
def bRsvdOk (b : Nat) : Bool :=
  fld b 2047 1200 = 0 && fld b 1191 1190 = 0 && !bitAt b 1167 && fld b 1055 1052 = 0 &&
  (List.range 8).all (fun i => fld (bAg b i) 12 0 = 0)

/-- VALID of an address generator (R215). -/
def agValid (g : Nat) : Bool := bitAt g 63
/-- MODE: 1 absolute. -/
def agAbs (g : Nat) : Bool := bitAt g 62
/-- RING. -/
def agRing (g : Nat) : Nat := fld g 61 58
/-- BASE. -/
def agBase (g : Nat) : Nat := fld g 57 35
/-- ROW_STRIDE in bytes. -/
def agRowStride (g : Nat) : Nat := fld g 34 25 * 16
/-- COL_STRIDE in bytes. -/
def agColStride (g : Nat) : Nat := fld g 24 13 * 16

/-- Whether a generator takes slabs of a ring (MODE 0). -/
def agOnRing (g : Nat) : Bool := agValid g && !agAbs g

end Sys2Proof.Machine
end

