-- ==== Sys2Proof/Machine/Tile.lean ====
section
/-! DEFINITION. MMA_TILE and SCHUSS commands: fields, the order of their MMAs, the slabs they read, the frames they
reserve, and the checks at their start (R133 to R142, R147, R148, R152 to R154, R233 to R235, R240). -/

namespace Sys2Proof.Machine

/-! ### Fields (R133, R152) -/

/-- m, the sub-tiles along M. -/
def cM (sch : Bool) (w : Nat) : Nat := if sch then 1 else fld w 247 245 + 1
/-- Rows of a sub-tile: 128, or the M of a SCHUSS command. -/
def cRows (sch : Bool) (w : Nat) : Nat := if sch then fld w 247 246 + 1 else 128
/-- n, the sub-tiles along N. -/
def cN (w : Nat) : Nat := fld w 244 243 + 1
/-- LOOP. -/
def cLoop (w : Nat) : Nat := fld w 242 240
/-- FMT_A. -/
def cFa (w : Nat) : Nat := fld w 239 236
/-- FMT_W. -/
def cFw (w : Nat) : Nat := fld w 235 232
/-- OUT_CTRL. -/
def cOut (w : Nat) : Nat := fld w 231 224
/-- LEAF_A. -/
def cLeafA (w : Nat) : Nat := fld w 223 204
/-- LEAF_B. -/
def cLeafB (w : Nat) : Nat := fld w 203 184
/-- A_RING. -/
def cARing (w : Nat) : Nat := fld w 183 180
/-- W_RING. -/
def cWRing (w : Nat) : Nat := fld w 179 176
/-- O_RING. -/
def cORing (w : Nat) : Nat := fld w 175 172
/-- OUT_MODE. -/
def cMode (w : Nat) : Nat := fld w 171 170
/-- NODE mode. -/
def cNode (w : Nat) : Bool := cMode w = 1
/-- EXT_SEL. -/
def cExtSel (w : Nat) : Nat := fld w 169 168
/-- PRO. -/
def cPro (w : Nat) : Nat := fld w 167 160
/-- EPI. -/
def cEpi (w : Nat) : Nat := fld w 159 152
/-- RED_ID. -/
def cRed (w : Nat) : Nat := fld w 151 136
/-- GEN. -/
def cGen (w : Nat) : Nat := fld w 135 128
/-- TENSOR_ID. -/
def cTensor (w : Nat) : Nat := fld w 127 104
/-- ROW0. -/
def cRow0 (w : Nat) : Nat := fld w 103 72
/-- COL0. -/
def cCol0 (w : Nat) : Nat := fld w 71 48
/-- NTOT. -/
def cNtot (w : Nat) : Nat := fld w 47 24
/-- YPT. -/
def cYpt (w : Nat) : Nat := fld w 23 20
/-- OB0 (NODE). -/
def cOb0 (w : Nat) : Nat := fld w 87 72
/-- OB_STRIDE (NODE). -/
def cObStride (w : Nat) : Nat := fld w 63 48

/-- An extent word of a task descriptor (R457, R459). -/
def extWord (desc j : Nat) : Nat := fld desc (68 * j + 67) (68 * j)
/-- Run-time M of an extent word. -/
def extM (e : Nat) : Nat := fld e 67 44
/-- Run-time N of an extent word. -/
def extN (e : Nat) : Nat := fld e 43 20
/-- Run-time leaves of an extent word. -/
def extL (e : Nat) : Nat := fld e 19 0

/-! ### The order of the MMAs (R134, R136) -/

/-- Passes per slice of a command. -/
def cPasses (w : Nat) : Nat := groupPasses ((mmaGroup (cFa w)).getD 2)
/-- Slices per leaf of a command (R71). -/
def cSlicesPerLeaf (w : Nat) : Nat := 1024 / fmtIK (cFa w)
/-- S: slices in the range. -/
def cS (w : Nat) : Nat := (cLeafB w - cLeafA w) * cSlicesPerLeaf w
/-- Steps of the k loop: slices with their passes. -/
def cK (w : Nat) : Nat := cS w * cPasses w

/-- One MMA of a command: sub-tile, slice and pass. -/
structure MmaPos where
  mi : Nat
  ni : Nat
  slice : Nat
  pass : Nat
  deriving DecidableEq, Repr

/-- The MMA at place `i` of the order of the loop (R134). -/
def mmaAt (sch : Bool) (w i : Nat) : MmaPos :=
  let m := cM sch w
  let n := cN w
  let k := cK w
  let p := match cLoop w with
    | 0 => (i / (n * k), i / k % n, i % k)
    | 1 => (i / k % m, i / (m * k), i % k)
    | 2 => (i / (k * n), i % n, i / n % k)
    | 3 => (i % m, i / (k * m), i / m % k)
    | 4 => (i / n % m, i % n, i / (m * n))
    | _ => (i % m, i / m % n, i / (m * n))
  ⟨p.1, p.2.1, p.2.2 / cPasses w, p.2.2 % cPasses w⟩

/-- MMAs in the order of the loop. -/
def mmaTotal (sch : Bool) (w : Nat) : Nat := cM sch w * cN w * cK w

/-- Number within the command of the activation slab of sub-tile row mi and a slice (R134, R136). -/
def aIndex (sch : Bool) (w mi slice : Nat) : Nat :=
  if cLoop w ≤ 2 then mi * cS w + slice else slice * cM sch w + mi

/-- Number within the command of the weight slab of sub-tile column ni and a slice (R134, R136). -/
def wIndex (w ni slice : Nat) : Nat :=
  if cLoop w = 2 ∨ 4 ≤ cLoop w then slice * cN w + ni else ni * cS w + slice

/-- Sub-tile row and slice of the activation slab with a number within the command. -/
def aOfIndex (sch : Bool) (w i : Nat) : Nat × Nat :=
  if cLoop w ≤ 2 then (i / cS w, i % cS w) else (i % cM sch w, i / cM sch w)

/-- Open sub-tiles g (R134). -/
def cOpen (sch : Bool) (w : Nat) : Nat :=
  match cLoop w with
  | 0 => 1
  | 1 => 1
  | 2 => cN w
  | 3 => cM sch w
  | _ => cM sch w * cN w

/-- Activation slabs live (R134). -/
def aLive (sch : Bool) (w : Nat) : Nat :=
  match cLoop w with
  | 0 => cS w
  | 1 => cM sch w * cS w
  | 2 => 1
  | 3 => cM sch w * cS w
  | 4 => 1
  | _ => cM sch w

/-- Weight slabs live (R134). -/
def wLive (w : Nat) : Nat :=
  match cLoop w with
  | 0 => cN w * cS w
  | 1 => cS w
  | 2 => cN w * cS w
  | 3 => 1
  | 4 => cN w
  | _ => 1

/-- Place of a sub-tile in the drain order: the order in which the loop finishes them. -/
def drainIndex (sch : Bool) (w mi ni : Nat) : Nat :=
  if cLoop w = 0 ∨ cLoop w = 2 ∨ cLoop w = 4 then mi * cN w + ni else ni * cM sch w + mi

/-- Frames per sub-tile in accumulation: 1 + floor(log2 s) (R148). -/
def cDepth (w : Nat) : Nat := 1 + (cLeafB w - cLeafA w).log2

/-- V of R148. -/
def cV (sch : Bool) (w : Nat) : Nat := min (cM sch w * cN w) (2 * cOpen sch w)

/-- The frames that a command reserves (R148). -/
def cFrames (sch : Bool) (w : Nat) : Nat := cV sch w * cDepth w

/-- Bytes of an output slab (R142, R154). -/
def outSlab (sch : Bool) (w : Nat) : Nat :=
  if cNode w then cRows sch w * 2048
  else slabBytes (ctrlFmt (cOut w)) 512 (cRows sch w)

/-- Length of a step of R144, in places of the order. -/
def stepLen (sch : Bool) (w : Nat) : Nat :=
  let leaf := cSlicesPerLeaf w * cPasses w
  if 4 ≤ cLoop w then leaf * cM sch w * cN w
  else if 2 ≤ cLoop w then leaf * cOpen sch w
  else cK w

/-! ### A command in progress -/

/-- Rows of sub-tile row mi within the run-time M. -/
def Tile.rowsIn (t : Tile) (mi : Nat) : Nat := min (cRows t.schuss t.cmd) (t.rtM - 128 * mi)

/-- Columns of sub-tile column ni within the run-time N. -/
def Tile.colsIn (t : Tile) (ni : Nat) : Nat := min 512 (t.rtN - 512 * ni)

/-- Whether a sub-tile lies partly within the run-time extents (R140). -/
def Tile.inExt (t : Tile) (mi ni : Nat) : Bool := t.rowsIn mi ≠ 0 && t.colsIn ni ≠ 0

/-- Key of a slice of a sub-tile row in the list of skipped ones. -/
def sliceKey (mi slice : Nat) : Nat := mi * 2 ^ 20 + slice

/-- Whether the MMA at a place issues: its sub-tile within the extents, its leaf present and its slice not skipped (R140,
R141, R364). -/
def Tile.live (t : Tile) (p : MmaPos) : Bool :=
  t.inExt p.mi p.ni && cLeafA t.cmd + p.slice / cSlicesPerLeaf t.cmd < t.rtL && !t.skips.contains (sliceKey p.mi p.slice)

/-- Sub-tiles of a command. -/
def Tile.count (t : Tile) : Nat := cM t.schuss t.cmd * cN t.cmd

/-- The command's prologue has slabs yet to write (R225, R227). -/
def Tile.proLeft (t : Tile) : Bool :=
  cPro t.cmd ≠ 0xFF && t.proDone < cM t.schuss t.cmd * cS t.cmd && cLeafA t.cmd < t.rtL

/-- Every MMA has issued. -/
def Tile.allIssued (t : Tile) : Bool := mmaTotal t.schuss t.cmd ≤ t.issued

/-- Frames that a command holds now (R148 to R150). -/
def Tile.frames (t : Tile) : Nat :=
  if t.reserved then min (cV t.schuss t.cmd) (t.count - t.drained.length) * cDepth t.cmd else 0

/-- The deferred groups of a core, oldest first. -/
def CoreSt.groups (c : CoreSt) : List Group := c.older ++ c.group.toList

/-- The deferred group that a command joined, by the command's number (R234). -/
def CoreSt.groupOf (c : CoreSt) (num : Nat) : Option Group := (c.groups.filter (fun g => g.first ≤ num)).getLast?

/-- Replace a deferred group. -/
def CoreSt.setGroup (c : CoreSt) (g : Group) : CoreSt :=
  { c with older := c.older.map (fun x => if x.first = g.first then g else x),
           group := c.group.map (fun x => if x.first = g.first then g else x) }

/-- Every tile section of a deferred group has started: its columns are complete (R234). -/
def Group.whole (g : Group) : Bool := g.ntot ≤ g.nextCol && !g.broken

/-- Frames in use on a core: reservations, and what deferred groups hold (R148, R235). -/
def CoreSt.framesUsed (c : CoreSt) : Nat :=
  (c.tiles.map Tile.frames).sum + (c.groups.map (fun g => g.held.length + 1)).sum

/-- Slab number in O_RING of a sub-tile. -/
def Tile.oSlab (t : Tile) (mi ni : Nat) : Nat := (t.oBase + drainIndex t.schuss t.cmd mi ni) % 2 ^ 32

/-- Replace the command in progress with a number. -/
def CoreSt.setTile (c : CoreSt) (t : Tile) : CoreSt :=
  { c with tiles := c.tiles.map (fun u => if u.num = t.num then t else u) }

/-- The sub-tile of a command. -/
def Tile.sub (t : Tile) (mi ni : Nat) : Option SubTile := t.subs.find? (fun u => u.mi = mi && u.ni = ni)

/-- Replace a sub-tile, or add it. -/
def Tile.setSub (t : Tile) (u : SubTile) : Tile :=
  if (t.sub u.mi u.ni).isSome then
    { t with subs := t.subs.map (fun v => if v.mi = u.mi ∧ v.ni = u.ni then u else v) }
  else { t with subs := t.subs ++ [u] }

/-- A sub-tile that nothing has been folded into. -/
def SubTile.fresh (mi ni leaf : Nat) : SubTile :=
  { mi := mi, ni := ni, leaf := leaf, slices := 0, acc := [], nanAt := [], stack := [], done := false }

/-! ### Checks at the start -/

/-- The reduction that a NODE command names (R140): open, or a forwarding registration (R558). -/
def State.redNamed (s : State) (ctx id gen : Nat) : Option Reduction :=
  s.reds.find? (fun r => r.ctx = ctx && r.id = id && r.gen = gen &&
    (r.status = .open_ || r.status = .forwarding))

/-- LEAVES of a reduction (R91). -/
def Reduction.leaves (r : Reduction) : Nat := fld r.desc 279 260

/-- R135: a ring serves a command: valid, at least `cnt` slabs, each of at least `size` bytes. -/
def ringServes (r : Ring) (cnt size : Nat) : Bool := r.valid && cnt ≤ r.count && size ≤ r.slab

/-- The checks of an entry that a command names (R233): it exists, is valid and has the kind. -/
def entryOk (c : CoreSt) (e kind : Nat) : Bool :=
  c.resident && e ≤ 63 && eVal (imgEntry c.rmem e) && eKind (imgEntry c.rmem e) = kind

/-- What the read of a command's binding block gave: the code that ended it, or the block where one is named (R214). -/
abbrev Bind := Except Nat (Option Nat)

/-- The binding block that was read; a check of it waits for no block that could not be read (R14). -/
def Bind.check (b : Bind) (f : Nat → Bool) : Bool :=
  match b with
  | .error _ => true
  | .ok none => false
  | .ok (some x) => f x

/-- R225, R233: the prologue of a command, with its binding block. -/
def proOk (c : CoreSt) (w : Nat) (bind : Bind) : Bool :=
  cPro w = 0xFF ||
  (let e := imgEntry c.rmem (cPro w)
   entryOk c (cPro w) 0 && mmaGroup (eInFmt e) = mmaGroup (cFa w) &&
   ringServes (c.ring (cARing w)) 2 (slabBytes (eInFmt e) (fmtIK (cFa w)) 128) &&
   bind.check (fun b => ctrlOk (bProCtrl b) && ctrlFmt (bProCtrl b) = cFa w &&
      ringServes (c.ring (bProRing b)) (aLive false w + 1) (slabBytes (cFa w) (fmtIK (cFa w)) 128)))

/-- R234, R235: a command continues or begins a deferred group, which covers columns below NTOT and holds at most 8
sub-tiles. -/
def groupOk (c : CoreSt) (w : Nat) : Bool :=
  cM false w = 1 && cNtot w ≤ 4096 && cYpt w = 0 && cCol0 w < cNtot w && cCol0 w / 512 + cN w ≤ 8 &&
  (match c.group with
    | none => cCol0 w = 0
    | some g => (g.whole && cCol0 w = 0) || !g.broken && g.entry = cEpi w && g.row0 = cRow0 w && g.ntot = cNtot w && g.nextCol = cCol0 w)

/-- R228 to R236, R240: the epilogue of a command, with its binding block. -/
def epiOk (c : CoreSt) (sch : Bool) (w : Nat) (bind : Bind) : Bool :=
  cEpi w = 0xFF ||
  (let e := imgEntry c.rmem (cEpi w)
   let oSlab := (c.ring (cORing w)).slab
   entryOk c (cEpi w) 1 && bind.check (fun _ => true) && (!sch || eDefer e = 0) &&
   (eDefer e ≠ 0 || cNtot w ≤ 512 || !(bodyWords c.rmem e).any isStat) &&
   (!eCsum e || oSlab % 4096 = 0) &&
   (eDefer e ≠ 1 || groupOk c w) &&
   (eDefer e ≠ 2 ||
     (cM sch w = 1 && cRow0 w % 128 = 0 && cCol0 w % 512 = 0 && 128 * 2048 ≤ oSlab &&
      isCanonical (cdiv (cNtot w) 512) (cCol0 w / 512) (cCol0 w / 512 + cN w))))

/-- Frames of the deferred group that a command joins or begins (R235). -/
def groupFrames (c : CoreSt) (w : Nat) : Nat :=
  if cEpi w ≠ 0xFF ∧ eDefer (imgEntry c.rmem (cEpi w)) = 1 then cCol0 w / 512 + 1 else 0

/-- R137, R153, R233, R17, R22, R42, R400: the cases in which a command completes with DESCRIPTOR. `leaves` is LEAVES
of the reduction a NODE command names. -/
def tileBad (c : CoreSt) (t : Task) (sch : Bool) (w : Nat) (bind : Bind) (leaves : Option Nat) : Bool :=
  let a := cLeafA w
  let b := cLeafB w
  let fa := cFa w
  let fw := cFw w
  let ik := fmtIK fa
  let noEpi := cEpi w = 0xFF
  5 < cLoop w || 1 < cMode w || fld w 19 0 ≠ 0 || !fmtDefined fa || !fmtDefined fw ||
  (mmaGroup fa).isNone || mmaGroup fa ≠ mmaGroup fw ||
  b ≤ a || 1024 < b - a || !ctrlOk (cOut w) ||
  (if cNode w then
    cOut w ≠ 0 || !noEpi || cTensor w ≠ 0 || cNtot w ≠ 0 || fld w 103 88 ≠ 0 || fld w 71 64 ≠ 0 ||
    (match leaves with
      | none => true
      | some l => !isCanonical l a b)
  else
    a ≠ 0 || cRed w ≠ 0 || cGen w ≠ 0 || (noEpi && fmtIsPair (ctrlFmt (cOut w))) ||
    (noEpi && ctrlIsSr (cOut w) && t.key.isNone)) ||
  (sch && (bitAt w 245 || cLoop w ≠ 0 || cPro w ≠ 0xFF || fa = 0 || fa = 0xB || fw = 0 || fw = 0xB)) ||
  (cPro w = 0xFF && !ringServes (c.ring (cARing w)) (aLive sch w + 1) (slabBytes fa ik (cRows sch w))) ||
  !ringServes (c.ring (cWRing w)) (wLive w + 1) (slabBytes fw ik 512) ||
  !ringServes (c.ring (cORing w)) (cM sch w * cN w) (if noEpi then outSlab sch w else 0) ||
  !proOk c w bind || !epiOk c sch w bind ||
  (match bind with
    | .ok (some b) => !bRsvdOk b
    | _ => false) ||
  16 < cFrames sch w + groupFrames c w

/-- R140: the run-time extents of a command reach beyond it. -/
def tileExtent (t : Task) (sch : Bool) (w : Nat) (leaves : Option Nat) : Bool :=
  let e := extWord t.desc (cExtSel w)
  (if sch then cRows sch w else 128 * cM sch w) < extM e || 512 * cN w < extN e || (leaves.getD (cLeafB w)) < extL e

/-- The codes that stop a command at its start (R137, R140), that of the read of its binding block among them (R14). -/
def tileCodes (c : CoreSt) (t : Task) (sch : Bool) (w : Nat) (bind : Bind) (leaves : Option Nat) : List Nat :=
  (if tileBad c t sch w bind leaves then [cDescriptor] else []) ++
  (match bind with
    | .error e => [e]
    | .ok _ => []) ++
  (if tileExtent t sch w leaves then [cExtent] else [])

end Sys2Proof.Machine
end

