-- ==== Sys2Proof/Machine/GlideY.lean ====
section
/-! DEFINITION. The glide record and the forming of y in the frames (R350, R364 to R367). -/

namespace Sys2Proof.Machine

/-! ### The glide record (R350) -/

/-- PHASE: 1 DELTA, 2 PRODUCT. -/
def glPhase (r : Nat) : Nat := fld r 511 510
/-- FORCE_FULL. -/
def glForce (r : Nat) : Bool := bitAt r 509
/-- X_FMT. -/
def glXFmt (r : Nat) : Nat := fld r 508 505
/-- Y_FMT. -/
def glYFmt (r : Nat) : Nat := fld r 504 501
/-- DELTA_CTRL. -/
def glCtrl (r : Nat) : Nat := fld r 500 493
/-- F. -/
def glF (r : Nat) : Nat := fld r 492 485
/-- Y_RING. -/
def glYRing (r : Nat) : Nat := fld r 484 481
/-- CTR_CLUSTER. -/
def glCtrCl (r : Nat) : Nat := fld r 480 477
/-- CTR_OFF. -/
def glCtrOff (r : Nat) : Nat := fld r 476 457
/-- THETA. -/
def glTheta (r : Nat) : Nat := fld r 447 416
/-- STEP. -/
def glStep (r : Nat) : Nat := fld r 415 384
/-- VERSION. -/
def glVersion (r : Nat) : Nat := fld r 383 352
/-- SLOT. -/
def glSlot (r : Nat) : Nat := fld r 351 349
/-- ROWB0. -/
def glRowb0 (r : Nat) : Nat := fld r 348 332
/-- Row blocks of a DELTA task. -/
def glRowbs (r : Nat) : Nat := fld r 331 320 + 1
/-- X_ADDR. -/
def glX (r : Nat) : Nat := fld r 319 256
/-- STATE_ADDR. -/
def glState (r : Nat) : Nat := fld r 255 192
/-- D_ADDR. -/
def glD (r : Nat) : Nat := fld r 191 128
/-- X_STRIDE. -/
def glXStride (r : Nat) : Nat := fld r 127 92

/-- R351: the cases that the record alone shows, and its reserved fields (R17). -/
def glideBad (r : Nat) : Bool :=
  (glPhase r ≠ 1 && glPhase r ≠ 2) || (glXFmt r ≠ 0 && glXFmt r ≠ 2) || (glYFmt r ≠ 0 && glYFmt r ≠ 2) || glF r = 0 ||
  !ctrlOk (glCtrl r) || 1 < ctrlRnd (glCtrl r) ||
  0x3F800000 < glTheta r || 11 < glCtrCl r || fld r 456 448 ≠ 0 || fld r 91 0 ≠ 0

/-- The task runs a DELTA pass. -/
def Task.isDelta (t : Task) : Bool := t.glide.any (fun r => glPhase r = 1)

/-- The task runs a glided product. -/
def Task.isProduct (t : Task) : Bool := t.glide.any (fun r => glPhase r = 2)

/-- The next serial number past a step: stamps hold STEP + 1. -/
def glStamp (r : Nat) : Nat := (glStep r + 1) % 2 ^ 32

/-! ### Forming y (R365, R366) -/

/-- The glide record of the product that a command belongs to. -/
def CoreSt.product (c : CoreSt) : Option (Task × Nat) :=
  match c.task with
  | some t => if t.isProduct then t.glide.map (fun r => (t, r)) else none
  | none => none

/-- Slab number in Y_RING of a sub-tile: the slabs are taken in drain order. -/
def Tile.ySlab (ti : Tile) (mi ni : Nat) : Nat := (ti.pBase + drainIndex ti.schuss ti.cmd mi ni) % 2 ^ 32

/-- The Y_RING slab of a sub-tile is resident, where the command needs one. -/
def CoreSt.yReady (c : CoreSt) (ti : Tile) (mi ni : Nat) : Bool :=
  match c.product with
  | some (_, r) => !ti.inExt mi ni || (c.ring (glYRing r)).resident (ti.ySlab mi ni)
  | none => true

/-- The root of a sub-tile, none where it is absent. -/
def SubTile.root (u : SubTile) : Option (List (List Nat)) :=
  match u.stack with
  | e :: _ => e.recs
  | [] => none

/-- One element of y (R365): the root in FULL mode, else y_ref plus the root, else y_ref. -/
def yElem (full : Bool) (yref : Nat) (root : Option Nat) : Nat × Ev :=
  match full, root with
  | true, some v => (v, .none)
  | true, none => (0, .none)
  | false, some v =>
    let z := f32add yref v
    (z.1, ⟨0, z.2.overflow, z.2.nanCreated, 0⟩)
  | false, none => (yref, .none)

/-- R365: y is formed in the frame of a finished sub-tile and its Y_RING slab takes y rounded to Y_FMT. -/
def CoreSt.formY (c : CoreSt) (ti : Tile) (mi ni : Nat) : CoreSt × Ev :=
  match c.product, ti.inExt mi ni with
  | some (t, r), true =>
    let fmt := glYFmt r
    let eb := fmtBits fmt / 8
    let a := (c.ring (glYRing r)).slabAddr (ti.ySlab mi ni)
    let u := (ti.sub mi ni).getD (SubTile.fresh mi ni 0)
    let root := u.root
    let rows := ti.rowsIn mi
    let cols := ti.colsIn ni
    let ys := (List.range 65536).map (fun e =>
      if e / 512 < rows ∧ e % 512 < cols then
        let old := (elemToF32 fmt (c.rdNat (a + e * eb) eb) 127).1
        yElem t.gFull old (root.map (fun l => nth 0 (nth [] l e) 0))
      else (0, Ev.none))
    let rs := (List.range rows).map (fun i => (List.range cols).map (fun j =>
      (fmtElem fmt).round .rne false (f32v (nth (0, Ev.none) ys (i * 512 + j)).1)))
    let c := (List.range rows).foldl (fun c i =>
      c.wr (a + i * 512 * eb) ((nth [] rs i).flatMap (fun x => toLE eb x.1))) c
    let u := { u with done := true, stack := [⟨cLeafA ti.cmd, cLeafB ti.cmd, some (ys.map (fun y => [y.1]))⟩] }
    (c.setTile (ti.setSub u), (Ev.sum (ys.map (·.2))).plus (Ev.sum (rs.map (fun l => Ev.sum (l.map (·.2))))))
  | _, _ => (c, .none)

end Sys2Proof.Machine
end

