-- ==== Sys2Proof/Machine/Matrix.lean ====
section
/-! DEFINITION. The matrix arrays at work: issue, bank fills, drains and deliveries (R113 to R123, R126 to R128, R134,
R139 to R151). -/

namespace Sys2Proof.Machine

/-- The task on a core, while its clock runs (not in SAG_HOLD, R646) and no code has ended it. -/
def State.liveTask (s : State) (cl site : Nat) : Option Task :=
  if s.siteState cl site ≠ 2 || s.moduleState ≠ 3 then none else
    match (s.core cl site).task with
    | some t => if t.codes.isEmpty && !t.committed then some t else none
    | none => none

/-- The command whose MMAs are being issued (R131). -/
def CoreSt.issuing (c : CoreSt) : Option Tile := c.tiles.find? (fun t => !t.schuss && !t.allIssued)

/-- The ring from which a command's MMAs read activations (R225). -/
def Tile.actRing (t : Tile) : Nat := if cPro t.cmd = 0xFF then cARing t.cmd else bProRing t.binding

/-- The slab of that ring that an MMA reads. -/
def Tile.actSlab (t : Tile) (p : MmaPos) : Nat :=
  ((if cPro t.cmd = 0xFF then t.aBase else t.pBase) + aIndex t.schuss t.cmd p.mi p.slice) % 2 ^ 32

/-- The slab of W_RING that an MMA reads. -/
def Tile.wSlab (t : Tile) (p : MmaPos) : Nat := (t.wBase + wIndex t.cmd p.ni p.slice) % 2 ^ 32

/-- Whether a bank holds what an MMA needs (R119, R122). -/
def bankHolds (b : Option Bank) (t : Tile) (p : MmaPos) : Bool :=
  match b with
  | some b => b.tile = t.num && b.slab = t.wSlab p && b.pass = p.pass
  | none => false

/-- A yield point inside the tile stands before its next MMA (R144). -/
def Tile.atYield (t : Tile) : Bool :=
  let y := cYpt t.cmd
  if y = 0 then false else
    let d := stepLen t.schuss t.cmd * 2 ^ (y - 1)
    t.issued ≠ 0 && t.issued % d = 0 && !t.allIssued && t.yielded < t.issued / d

/-- The places from the next MMA on that issue. -/
def Tile.coming (t : Tile) : List MmaPos :=
  (((List.range (mmaTotal t.schuss t.cmd)).drop t.issued).map (mmaAt t.schuss t.cmd)).filter t.live

/-- R128: a place releases the activation slab it is the last to read. -/
def Tile.lastAct (t : Tile) (p : MmaPos) : Bool := p.ni + 1 = cN t.cmd && p.pass + 1 = cPasses t.cmd

/-- R128: a place releases the weight slab it is the last to use. -/
def Tile.lastW (t : Tile) (p : MmaPos) : Bool := p.mi + 1 = cM t.schuss t.cmd && p.pass + 1 = cPasses t.cmd

/-- The place is passed: the slabs last read there are released. -/
def CoreSt.passPlace (c : CoreSt) (t : Tile) (p : MmaPos) : CoreSt :=
  let c := if t.lastAct p then c.modRing t.actRing (fun r => r.release (t.actSlab p)) else c
  let c := if t.lastW p then c.modRing (cWRing t.cmd) (fun r => r.release (t.wSlab p)) else c
  c.setTile { t with issued := t.issued + 1 }

/-- End of the present leaves of a command (R141). -/
def Tile.leafEnd (t : Tile) : Nat := min (cLeafB t.cmd) t.rtL

/-- A slice of a sub-tile row from `from` on, before `stop`, is not skipped (R364). -/
def Tile.anySlice (t : Tile) (mi from_ stop : Nat) : Bool :=
  ((List.range stop).drop from_).any (fun k => !t.skips.contains (sliceKey mi k))

/-- Leaves that are absent because their slices were skipped join the stack (R76, R364). -/
def SubTile.pushAbsent (tm1 : Bool) (u : SubTile) (upTo : Nat) : SubTile × Ev :=
  ((List.range upTo).drop u.leaf).foldl (fun acc k =>
    let r := stackPush tm1 0 acc.1.stack ⟨k, k + 1, none⟩
    ({ acc.1 with stack := r.1, leaf := k + 1 }, acc.2.plus r.2)) (u, Ev.none)

/-- A leaf's sum joins the sub-tile's stack (R86), and the last leaf with a slice finishes the sub-tile. -/
def SubTile.leafDone (tm1 : Bool) (u : SubTile) (t : Tile) (leaf : Nat) : SubTile × Ev :=
  let p := u.pushAbsent tm1 leaf
  let r := stackPush tm1 0 p.1.stack ⟨leaf, leaf + 1, some (u.acc.map (fun x => [x]))⟩
  let u := { p.1 with stack := r.1, acc := [], leaf := leaf + 1, slices := 0 }
  let ev := p.2.plus r.2
  let spl := cSlicesPerLeaf t.cmd
  if t.anySlice u.mi ((leaf + 1 - cLeafA t.cmd) * spl) ((t.leafEnd - cLeafA t.cmd) * spl) then (u, ev)
  else
    let q := u.pushAbsent tm1 t.leafEnd
    let z := stackCollapse tm1 0 q.1.stack
    let st := match z.1 with
      | some e => [{ e with a := cLeafA t.cmd, b := cLeafB t.cmd }]
      | none => []
    ({ q.1 with stack := st, done := true }, (ev.plus q.2).plus z.2)

/-- One slice and pass folded into a sub-tile (R81, R120), with the events of the combines it triggers (R80). The first
folded slice of a leaf starts the block accumulator. `fw` is the format in which the weights stand in `wSlab`. -/
def SubTile.fold (tm1 : Bool) (u : SubTile) (t : Tile) (p : MmaPos) (fw : Nat) (aSlab wSlab : List Byte) : SubTile × Ev :=
  let w := t.cmd
  let spl := cSlicesPerLeaf w
  let k := p.slice / spl
  let r := mmaFold (cFa w) fw p.pass (cRows t.schuss w) (t.rowsIn p.mi) (t.colsIn p.ni) u.acc.isEmpty aSlab wSlab
    u.acc u.nanAt
  let u := { u with slices := p.slice % spl + 1, acc := r.1, nanAt := r.2 }
  if p.pass + 1 = cPasses w ∧ !t.anySlice p.mi (p.slice + 1) ((k + 1) * spl) then u.leafDone tm1 t (cLeafA w + k)
  else (u, .none)

/-- The two weight slices that the coming MMAs need first (R121, R122). -/
def Tile.nextNeeds (t : Tile) : List MmaPos :=
  match t.coming with
  | [] => []
  | p :: r => p :: (r.find? (fun q => t.wSlab q ≠ t.wSlab p || q.pass ≠ p.pass)).toList

/-- A bank that neither the next MMA nor the next other weight slice needs is free (R121, R122). -/
def freeBank (b : Option Bank) (t : Tile) : Option Bank :=
  if t.nextNeeds.any (bankHolds b t) then b else none

/-- The reservation of a command is held, or can be taken now (R119 condition 4, R148). -/
def CoreSt.canReserve (c : CoreSt) (t : Tile) : Bool :=
  t.reserved ||
  (c.framesUsed + cFrames t.schuss t.cmd ≤ 16 &&
   (c.ring (cORing t.cmd)).room (t.oBase + t.count - 1))

/-- A sub-tile holds frames: something has been folded into it. -/
def SubTile.held (u : SubTile) : Bool := !(u.acc.isEmpty && u.stack.isEmpty)

/-- Whether an MMA's sub-tile is open, or may open within V (R148). -/
def Tile.canOpen (t : Tile) (p : MmaPos) : Bool :=
  (t.sub p.mi p.ni).isSome || (t.subs.filter SubTile.held).length < cV t.schuss t.cmd

/-- MMA_ISSUE (R119 to R123): the next MMA of the order issues when its conditions hold; a cycle in which they do not
counts one stall (R158); a place that issues no MMA (R140, R141) is passed once its slabs are resident. That progress sets the watchdog's
count back to 0 is the model's reading of R146 (DEDUCED, log 135). -/
def State.mmaIssue (s : State) (cl site : Nat) : State :=
  let c := s.core cl site
  match s.liveTask cl site, c.issuing with
  | some _, some t =>
    if t.atYield then s else
      let p := mmaAt t.schuss t.cmd t.issued
      let aOk := (c.ring t.actRing).resident (t.actSlab p)
      let wOk := (c.ring (cWRing t.cmd)).resident (t.wSlab p)
      if !t.live p then
        if aOk && wOk then s.setCore cl site (c.passPlace t p) else s
      else if !bankHolds c.bank0 t p && !bankHolds c.bank1 t p then s.cnt48 (kCore cl site 1 2) 1
      else if !aOk then s.cnt48 (kCore cl site 1 3) 1
      else if !c.canReserve t || !t.canOpen p then s.cnt48 (kCore cl site 1 4) 1
      else
        let w := t.cmd
        let ik := fmtIK (cFa w)
        let aSlab := c.rdSlab t.actRing (t.actSlab p) 0 (slabBytes (cFa w) ik (cRows t.schuss w))
        let wSlab := match (if bankHolds c.bank0 t p then c.bank0 else c.bank1) with
          | some b => b.data
          | none => []
        let u := (t.sub p.mi p.ni).getD (SubTile.fresh p.mi p.ni (cLeafA w))
        let r := u.fold s.tm1 t p (bankFmt (cFw w)) aSlab wSlab
        let ev := if p.pass = 0 ∧ p.ni = 0 then r.2.plus (splitInexact (cFa w) ik 128 (t.rowsIn p.mi) aSlab) else r.2
        let t := { t.setSub r.1 with reserved := true }
        let c := c.passPlace t p
        let t := { t with issued := t.issued + 1 }
        let c := { c with bank0 := freeBank c.bank0 t, bank1 := freeBank c.bank1 t, wdCount := 0 }
        ((s.setCore cl site c).taskEv cl site ev).cnt48 (kCore cl site 1 1) 1
  | _, _ => s

/-- WEIGHT_BANK_FILL (R121): a free bank takes the next weight slice that no bank holds, once its slab is resident. -/
def State.bankFill (s : State) (cl site bank : Nat) : State :=
  let c := s.core cl site
  match s.liveTask cl site, c.issuing with
  | some _, some t =>
    if (if bank = 0 then c.bank0 else c.bank1).isSome then s else
      match t.nextNeeds.find? (fun p => !bankHolds c.bank0 t p && !bankHolds c.bank1 t p) with
      | none => s
      | some p =>
        if !(c.ring (cWRing t.cmd)).resident (t.wSlab p) then s else
          let ik := fmtIK (cFw t.cmd)
          let data := c.rdSlab (cWRing t.cmd) (t.wSlab p) 0 (slabBytes (cFw t.cmd) ik 512)
          let b : Bank := ⟨t.num, t.wSlab p, p.pass, bankBytes (cFw t.cmd) p.pass data⟩
          let c := if bank = 0 then { c with bank0 := some b } else { c with bank1 := some b }
          let ev := if p.mi = 0 ∧ p.pass = 2 then splitInexact (cFw t.cmd) ik 512 (t.colsIn p.ni) data else .none
          (s.setCore cl site { c with wdCount := 0 }).taskEv cl site ev
  | _, _ => s

/-! ### Drain (R138 to R142, R150, R151) -/

/-- The value of element `e` (row × 512 + column) of a finished sub-tile; +0 where no leaf is present (R141). -/
def SubTile.value (u : SubTile) (e : Nat) : Nat :=
  match u.stack with
  | n :: _ => match n.recs with
    | some l => nth 0 (nth [] l e) 0
    | none => 0
  | [] => 0

/-- The random bits of an output element (R138): drawn only under stochastic rounding. -/
def outRand (t : Task) (ctrl tensor idx : Nat) : Nat :=
  if ctrlIsSr ctrl then
    match t.key with
    | some k => srBits k t.step tensor idx
    | none => 0
  else 0

/-- One row of a drained sub-tile rounded by a control byte: element bytes, scale bytes and events (R138, R142). `n`
columns lie within the run-time N, `nin` of them below NTOT as well; `base` is the logical index of column 0. -/
def drainRow (t : Task) (ctrl tensor base n nin : Nat) (val : Nat → Nat) : List Byte × List Byte × Ev :=
  let fmt := ctrlFmt ctrl
  if fmtIsMx fmt then
    let bs := (List.range (cdiv nin 32)).map (fun b =>
      let js := (List.range 32).map (fun k => 32 * b + k)
      ctrlRoundMx ctrl (js.map (fun j => outRand t ctrl tensor (base + j)))
        (js.map (fun j => if j < nin then f32v (val j) else .zero)))
    (packElems fmt (bs.flatMap (fun x => x.2.1)), bs.map (fun x => BitVec.ofNat 8 x.1), Ev.sum (bs.map (fun x => x.2.2)))
  else
    let xs := (List.range n).map (fun j => ctrlRound ctrl (outRand t ctrl tensor (base + j)) (f32v (val j)))
    (packElems fmt (xs.map (·.1)), [], Ev.sum (xs.map (·.2)))

/-- A ROOT drain of a sub-tile without an epilogue writes its O_RING slab (R138, R142). -/
def CoreSt.drainRoot (c : CoreSt) (t : Task) (ti : Tile) (u : SubTile) : CoreSt × Ev :=
  let w := ti.cmd
  let ctrl := cOut w
  let rows := cRows ti.schuss w
  let addr := (c.ring (cORing w)).slabAddr (ti.oSlab u.mi u.ni)
  let rb := planeBytes (ctrlFmt ctrl) 512
  let n := ti.colsIn u.ni
  let nin := min n (cNtot w - (cCol0 w + 512 * u.ni))
  (List.range (ti.rowsIn u.mi)).foldl (fun acc i =>
    let base := (cRow0 w + 128 * u.mi + i) * cNtot w + cCol0 w + 512 * u.ni
    let r := drainRow t ctrl (cTensor w) base n nin (fun j => u.value (i * 512 + j))
    ((acc.1.wr (addr + i * rb) r.1).wr (addr + rows * rb + i * 16) r.2.1, acc.2.plus r.2.2)) (c, Ev.none)

/-- A NODE drain of a sub-tile: unrounded binary32 in its O_RING slab (R133, R139). -/
def CoreSt.drainNode (c : CoreSt) (ti : Tile) (u : SubTile) : CoreSt :=
  let rows := cRows ti.schuss ti.cmd
  c.wr ((c.ring (cORing ti.cmd)).slabAddr (ti.oSlab u.mi u.ni))
    ((List.range (rows * 512)).flatMap (fun e => toLE 4 (u.value e)))

/-- The contributions that a NODE sub-tile sends at commit (R139, R154), with the elements of each made NaN (R151). -/
def nodeStaged (ti : Tile) (u : SubTile) : List Staged :=
  let w := ti.cmd
  let mk := fun (block off words : Nat) =>
    (⟨0, cGen w, cRed w, block, cLeafA w, cLeafB w, .slab (cORing w) (ti.oSlab u.mi u.ni) off words,
      (u.nanAt.filter (fun e => off ≤ e * 4 && e * 4 < off + words * 4)).length⟩ : Staged)
  if ti.schuss then [mk (cOb0 w + u.ni) 0 (cRows true w * 512)]
  else
    ([0, 1].filter (fun h => 64 * h < ti.rowsIn u.mi)).map (fun h =>
      mk (cOb0 w + (2 * u.mi + h) * cObStride w + u.ni) (h * 131072) 32768)

/-- A sub-tile is drained: its frames return, and the command ends with its last sub-tile (R150). -/
def CoreSt.drained (c : CoreSt) (ti : Tile) (mi ni : Nat) : CoreSt :=
  let ti := { ti with subs := ti.subs.filter (fun v => !(v.mi = mi && v.ni = ni)), drained := ti.drained ++ [mi * 4 + ni] }
  if ti.drained.length = ti.count then { c with tiles := c.tiles.filter (fun x => x.num ≠ ti.num) } else c.setTile ti

/-- The output slab of a sub-tile awaits its delivery (R127). -/
def CoreSt.offer (c : CoreSt) (ring slab : Nat) (sum : Bool) : CoreSt :=
  { c with deliveries := c.deliveries ++ [⟨ring, slab, [], none, sum⟩] }

/-- The command whose next sub-tile in drain order is (mi, ni), and that sub-tile when its sums are complete; a sub-tile
beyond the run-time extents is complete at once. -/
def CoreSt.readyTile (c : CoreSt) (mi ni : Nat) : Option Tile :=
  c.tiles.find? (fun t => mi < cM t.schuss t.cmd && ni < cN t.cmd &&
    t.drained.length = drainIndex t.schuss t.cmd mi ni &&
    (!t.inExt mi ni || (match t.sub mi ni with
      | some u => u.done
      | none => false)))

/-- DRAIN (R150): a finished sub-tile drains into its output slab, which awaits delivery. A SCHUSS sub-tile counts the drain cycles of
a whole one (DESIGN CHOICE, log 150). -/
def State.drain (s : State) (cl site mi ni : Nat) : State :=
  let c := s.core cl site
  match s.liveTask cl site, c.readyTile mi ni with
  | some t, some ti =>
    let w := ti.cmd
    if cEpi w ≠ 0xFF || !(c.ring (cORing w)).room (ti.oSlab mi ni) || !c.yReady ti mi ni then s else
      let y := c.formY ti mi ni
      let c := y.1
      let ti := (c.tiles.find? (fun x => x.num = ti.num)).getD ti
      match ti.sub mi ni with
      | some u =>
        let nans : Ev := ⟨0, 0, u.nanAt.length, 0⟩
        let cycles := if cNode w || fmtBits (ctrlFmt (cOut w)) = 32 || ctrlIsSr (cOut w) then 256 else 128
        let r := if cNode w then (c.drainNode ti u, Ev.none) else
          let d := c.drainRoot t ti u
          (d.1, d.2.plus nans)
        let c := (r.1.offer (cORing w) (ti.oSlab mi ni) false).drained ti mi ni
        let s := (s.setCore cl site { c with wdCount := 0 }).taskEv cl site (y.2.plus r.2)
        let s := if cNode w then s.modTask cl site (fun t => { t with staged := t.staged ++ nodeStaged ti u }) else s
        s.cnt48 (kCore cl site 1 6) cycles
      | none => (s.setCore cl site ((c.offer (cORing w) (ti.oSlab mi ni) false).drained ti mi ni)).taskEv cl site y.2
  | _, _ => s

/-- SLAB_DELIVERY (R127): the next slab of a ring is delivered when there is room for it; the last of a descriptor
increments its tag (R245). -/
def State.slabDelivery (s : State) (cl site ring : Nat) : State :=
  let c := s.core cl site
  match s.liveTask cl site, c.deliveries.find? (fun d => d.ring = ring && c.canDeliver d) with
  | some t, some d =>
    let s := s.setCore cl site { c.deliver d with wdCount := 0 }
    match d.tag with
    | some g => s.tagAdd t.ctx g 1
    | none => s
  | _, _ => s

/-! ### The Schuss path (R152 to R155) -/

/-- Core cycles per slice of N512 (R155). -/
def schussCycles (fmt : Nat) : Nat := if fmt = 7 ∨ fmt = 8 then 48 else 64

/-- The slices of a SCHUSS command up to its next yield point, or to its end. -/
def Tile.schussPart (t : Tile) : List MmaPos :=
  let y := cYpt t.cmd
  let d := stepLen true t.cmd * 2 ^ (y - 1)
  let stop := if y = 0 then mmaTotal true t.cmd else min (mmaTotal true t.cmd) ((t.issued / d + 1) * d)
  ((List.range stop).drop t.issued).map (mmaAt true t.cmd)

/-- Every slab that a SCHUSS command reads next is resident. -/
def CoreSt.schussReady (c : CoreSt) (t : Tile) : Bool :=
  t.schussPart.all (fun p =>
    (c.ring (cARing t.cmd)).resident (t.actSlab p) && (c.ring (cWRing t.cmd)).resident (t.wSlab p))

/-- One slice of a SCHUSS command: activation and weight slabs meet (R82, R154). -/
def CoreSt.schussSlice (tm1 : Bool) (c : CoreSt) (t : Tile) (p : MmaPos) : CoreSt × Tile × Ev :=
  let w := t.cmd
  let ik := fmtIK (cFa w)
  let r := if t.live p then
      let aSlab := c.rdSlab (cARing w) (t.actSlab p) 0 (slabBytes (cFa w) ik (cRows true w))
      let wSlab := c.rdSlab (cWRing w) (t.wSlab p) 0 (slabBytes (cFw w) ik 512)
      let u := (t.sub p.mi p.ni).getD (SubTile.fresh p.mi p.ni (cLeafA w))
      let f := u.fold tm1 t p (cFw w) aSlab wSlab
      (t.setSub f.1, f.2)
    else (t, Ev.none)
  let c := c.passPlace r.1 p
  (c, { r.1 with issued := r.1.issued + 1 }, r.2)

/-- The SCHUSS command whose product has yet to run, when nothing stands in its way. -/
def CoreSt.schussNext (c : CoreSt) : Option Tile :=
  (c.tiles.find? (fun t => t.schuss && !t.allIssued)).filter (fun t => !t.atYield && c.schussReady t && c.canReserve t)

/-- The product of a started SCHUSS command up to its next yield point, once its slabs are resident and its reservation
is free. -/
def State.schussRun (s : State) (cl site : Nat) : State :=
  let c := s.core cl site
  match s.liveTask cl site, c.schussNext with
  | some _, some t =>
    let t := { t with reserved := true }
    let r := t.schussPart.foldl (fun acc p =>
      let z := acc.1.schussSlice s.tm1 acc.2.1 p
      (z.1, z.2.1, acc.2.2.plus z.2.2)) (c, t, Ev.none)
    let live := (t.schussPart.filter t.live).length
    ((s.setCore cl site { r.1 with wdCount := 0 }).taskEv cl site r.2.2).cnt48 (kCore cl site 1 5)
      (live * schussCycles (cFw t.cmd))
  | _, _ => s

end Sys2Proof.Machine
end

