-- ==== Sys2Proof/Machine/MoveDesc.lean ====
section
/-! DEFINITION. Move descriptors: fields, views and the checks that complete a task with DESCRIPTOR or EXTENT (R245 to
R252, R261, R263, R265, R273, R277, R297, R302, R306, R307, R311, R315, R337, R339, R552). -/

namespace Sys2Proof.Machine

/-! ### Fields (R245) -/

/-- OP. -/
def mOp (d : Nat) : Nat := fld d 1023 1016
/-- SRC_FMT. -/
def mSrcFmt (d : Nat) : Nat := fld d 1015 1012
/-- OUT_CTRL. -/
def mCtrl (d : Nat) : Nat := fld d 1011 1004
/-- SRC_SPACE. -/
def mSrcSpace (d : Nat) : Nat := fld d 1003 1002
/-- DST_SPACE. -/
def mDstSpace (d : Nat) : Nat := fld d 1001 1000
/-- PERM. -/
def mPerm (d j : Nat) : Nat := fld d (3 * j + 987) (3 * j + 985)
/-- PERM is the identity (R248). -/
def mPermId (d : Nat) : Bool := fld d 999 985 = 0x4688
/-- IDX_MODE. -/
def mIdxMode (d : Nat) : Nat := fld d 984 983
/-- IDX_DIM. -/
def mIdxDim (d : Nat) : Nat := fld d 982 980
/-- HB_SRC. -/
def mHbSrc (d : Nat) : Bool := bitAt d 979
/-- HB_DST. -/
def mHbDst (d : Nat) : Bool := bitAt d 978
/-- CSUM_CHK. -/
def mChk (d : Nat) : Bool := bitAt d 977
/-- CSUM_GEN. -/
def mGen (d : Nat) : Nat := fld d 976 975
/-- TAG_EN. -/
def mTagEn (d : Nat) : Bool := bitAt d 974
/-- TAG. -/
def mTag (d : Nat) : Nat := fld d 973 958
/-- RT_EN. -/
def mRtEn (d : Nat) : Bool := bitAt d 957
/-- RT_SEL. -/
def mRtSel (d : Nat) : Nat := fld d 956 955
/-- RT_M_DIM. -/
def mRtM (d : Nat) : Nat := fld d 954 952
/-- RT_N_DIM. -/
def mRtN (d : Nat) : Nat := fld d 951 949
/-- SRC_RELEASE. -/
def mRelease (d : Nat) : Bool := bitAt d 948
/-- EXTj, planned. -/
def mExt (d j : Nat) : Nat := fld d (20 * j + 863) (20 * j + 844)
/-- SRC_ADDR. -/
def mSrcAddr (d : Nat) : Nat := fld d 843 780
/-- DST_ADDR. -/
def mDstAddr (d : Nat) : Nat := fld d 779 716
/-- SRC_STRIDEj, 1 to 4. -/
def mSrcStride (d j : Nat) : Nat := fld d (36 * j + 571) (36 * j + 536)
/-- DST_STRIDEj, 1 to 4. -/
def mDstStride (d j : Nat) : Nat := fld d (36 * j + 427) (36 * j + 392)
/-- SRC_SCALE_OFF. -/
def mSrcScale (d : Nat) : Nat := fld d 427 388
/-- DST_SCALE_OFF. -/
def mDstScale (d : Nat) : Nat := fld d 387 348
/-- SRC_TABLE. -/
def mTable (d : Nat) : Nat := fld d 347 332

/-- Operation codes (R246, R296). -/
def opCopy : Nat := 1
/-- FILL. -/
def opFill : Nat := 2
/-- GATHER. -/
def opGather : Nat := 3
/-- SCATTER. -/
def opScatter : Nat := 4
/-- SCATTER_ADD. -/
def opScatterAdd : Nat := 5
/-- WINDOW. -/
def opWindow : Nat := 0x10
/-- WINDOW_T. -/
def opWindowT : Nat := 0x11
/-- PAD. -/
def opPad : Nat := 0x12
/-- UP2. -/
def opUp2 : Nat := 0x13
/-- DOWN2. -/
def opDown2 : Nat := 0x14
/-- CROP. -/
def opCrop : Nat := 0x15

/-- The index operations. -/
def isIndexOp (op : Nat) : Bool := op = 3 || op = 4 || op = 5
/-- The window operations. -/
def isWindowOp (op : Nat) : Bool := op = 0x10 || op = 0x11

/-! ### Index fields (R265) -/

/-- IDX_ADDR. -/
def xIdxAddr (d : Nat) : Nat := fld d 255 192
/-- IDX_COUNT. -/
def xIdxCount (d : Nat) : Nat := fld d 191 168
/-- MASK_ADDR. -/
def xMaskAddr (d : Nat) : Nat := fld d 167 104
/-- RED_ID. -/
def xRed (d : Nat) : Nat := fld d 103 88
/-- GEN. -/
def xGen (d : Nat) : Nat := fld d 87 80
/-- BLK_A. -/
def xBlkA (d : Nat) : Nat := fld d 79 60
/-- BLK_B. -/
def xBlkB (d : Nat) : Nat := fld d 59 40
/-- ELEM_COUNT. -/
def xElemCount (d : Nat) : Nat := fld d 39 24

/-! ### COPY fields (R250) and the key locator (R337) -/

/-- SR_TENSOR_ID. -/
def xSrTensor (d : Nat) : Nat := fld d 255 232
/-- SR_BASE. -/
def xSrBase (d : Nat) : Nat := fld d 231 184
/-- SR_STRIDEj, 1 to 4. -/
def xSrStride (d j : Nat) : Nat := fld d (40 * j + 23) (40 * j - 16)

/-! ### Window fields (R297) -/

/-- OW. -/
def xOw (d : Nat) : Nat := fld d 255 242
/-- OH. -/
def xOh (d : Nat) : Nat := fld d 241 228
/-- OT. -/
def xOt (d : Nat) : Nat := fld d 227 216
/-- KW. -/
def xKw (d : Nat) : Nat := fld d 215 213
/-- KH. -/
def xKh (d : Nat) : Nat := fld d 212 210
/-- KT. -/
def xKt (d : Nat) : Nat := fld d 209 208
/-- Filter tap of the box's first column, row and frame; a is 0 for W, 1 for H, 2 for T. -/
def xTap0 (d a : Nat) : Nat := fld d (207 - 6 * a) (202 - 6 * a)
/-- Stride of an axis. -/
def xStride (d a : Nat) : Nat := fld d (189 - 2 * a) (188 - 2 * a) + 1
/-- Dilation of an axis. -/
def xDil (d a : Nat) : Nat := fld d (183 - 3 * a) (181 - 3 * a) + 1
/-- Padding before the input on an axis. -/
def xPadB (d a : Nat) : Nat := fld d (174 - 6 * a) (169 - 6 * a)
/-- Padding mode of an axis. -/
def xPmode (d a : Nat) : Nat := fld d (156 - 2 * a) (155 - 2 * a)
/-- POS0. -/
def xPos0 (d : Nat) : Nat := fld d 150 127
/-- NPOS. -/
def xNpos (d : Nat) : Nat := fld d 126 116 + 1
/-- BOX_LEAF0. -/
def xLeaf0 (d : Nat) : Nat := fld d 115 100
/-- NLEAF. -/
def xNleaf (d : Nat) : Nat := fld d 99 90 + 1
/-- PAD_CONST of a window. -/
def xWinConst (d : Nat) : Nat := fld d 89 58
/-- SLICE_OUTER. -/
def xSliceOuter (d : Nat) : Bool := bitAt d 57
/-- C rounded up to a multiple of 32 (R294). -/
def xCp (d : Nat) : Nat := roundUp (mExt d 0) 32
/-- Leaves of the box (R294). -/
def xBoxLeaves (d : Nat) : Nat := cdiv (xKt d * xKh d * xKw d * xCp d) 1024

/-! ### PAD, resampling and CROP fields (R306, R307, R311) -/

/-- OFFj, 1 to 4, signed. -/
def xOff (d j : Nat) : Int := sx 16 (fld d (271 - 16 * j) (256 - 16 * j))
/-- SEj. -/
def xSe (d j : Nat) : Nat := fld d (211 - 20 * j) (192 - 20 * j)
/-- MODEj. -/
def xMode (d j : Nat) : Nat := fld d (113 - 2 * j) (112 - 2 * j)
/-- PAD_CONST of PAD. -/
def xPadConst (d : Nat) : Nat := fld d 103 72
/-- AXES: whether dimension j, 1 to 3, is scaled. -/
def xAxis (d j : Nat) : Bool := bitAt d (252 + j)
/-- LINEAR. -/
def xLinear (d : Nat) : Bool := bitAt d 252
/-- BOX_TABLE. -/
def xBoxTable (d : Nat) : Nat := fld d 255 240
/-- BOX0. -/
def xBox0 (d : Nat) : Nat := fld d 239 224
/-- BILINEAR. -/
def xBilinear (d : Nat) : Bool := bitAt d 223
/-- EXTRAP. -/
def xExtrap (d : Nat) : Nat := fld d 222 191
/-- IMG_W, IMG_H, IMG_T, IMG_N for j = 0 to 3. -/
def xImg (d j : Nat) : Nat := fld d (190 - 20 * j) (171 - 20 * j)

/-! ### Extents and views -/

/-- The effective extent of dimension j (R272). Where RT_M_DIM and RT_N_DIM name the same one it is the run-time M (DESIGN CHOICE, log
151). -/
def mEff (d desc j : Nat) : Nat :=
  if !mRtEn d then mExt d j
  else
    let e := extWord desc (mRtSel d)
    if mRtM d = j then extM e else if mRtN d = j then extN e else mExt d j

/-- R273: a run-time extent above the planned one. -/
def mOverExt (d desc : Nat) : Bool :=
  mRtEn d &&
  (let e := extWord desc (mRtSel d)
   (mRtM d ≠ 7 && mExt d (mRtM d) < extM e) || (mRtN d ≠ 7 && mExt d (mRtN d) < extN e))

/-- A view of memory: element format, strides of dimensions 1 to 4, scale plane offset, Herringbone layout. -/
structure View where
  fmt : Nat
  str : List Nat
  sOff : Nat
  hb : Bool

/-- The source view. -/
def mSrcView (d : Nat) : View := ⟨mSrcFmt d, [mSrcStride d 1, mSrcStride d 2, mSrcStride d 3, mSrcStride d 4], mSrcScale d, mHbSrc d⟩
/-- The destination view. -/
def mDstView (d : Nat) : View :=
  ⟨ctrlFmt (mCtrl d), [mDstStride d 1, mDstStride d 2, mDstStride d 3, mDstStride d 4], mDstScale d, mHbDst d⟩

/-- Displacement of a row: the sum of its indices of dimensions 1 to 4 times their strides (R247). -/
def View.rowOff (v : View) (is : List Nat) : Nat := ((is.zip v.str).map (fun p => p.1 * p.2)).sum

/-- Displacement of byte `b` of a row's dimension-0 data (R247, R263). -/
def View.byteOff (v : View) (is : List Nat) (b : Nat) : Nat :=
  if v.hb then
    let p := nth 0 v.str 0 / 64
    v.rowOff is + (if p = 0 then 0 else (b / 64 + nth 0 is 0) % p) * 64 + b % 64
  else v.rowOff is + b

/-- Element bytes of a 32-element block of an MX format. -/
def blockBytes (fmt : Nat) : Nat := fmtBits fmt * 4

/-- Displacement of the scale byte of a block (R249). -/
def View.scaleOff (v : View) (is : List Nat) (blk : Nat) : Nat := v.sOff + blk + v.rowOff is / blockBytes v.fmt

/-- Runs (displacement, bytes) of the first `n` bytes of a row. -/
def View.rowRuns (v : View) (is : List Nat) (n : Nat) : List (Nat × Nat) :=
  if v.hb then (pieces 64 0 n).map (fun p => (v.byteOff is p.1, p.2)) else [(v.rowOff is, n)]

/-- Index tuples of dimensions 1 to 4, dimension 1 fastest. -/
def rowIdx (e1 e2 e3 e4 : Nat) : List (List Nat) :=
  (List.range e4).flatMap (fun i4 => (List.range e3).flatMap (fun i3 => (List.range e2).flatMap (fun i2 =>
    (List.range e1).map (fun i1 => [i1, i2, i3, i4]))))

/-- Bytes of a row of `n` elements, whole blocks for an MX format. -/
def rowBytes (fmt n : Nat) : Nat := if fmtIsMx fmt then cdiv n 32 * blockBytes fmt else planeBytes fmt n

/-- Every run of a view of the given extents, scale bytes included. -/
def View.runs (v : View) (e : List Nat) : List (Nat × Nat) :=
  (rowIdx (nth 0 e 1) (nth 0 e 2) (nth 0 e 3) (nth 0 e 4)).flatMap (fun is =>
    v.rowRuns is (rowBytes v.fmt (nth 0 e 0)) ++
    (if fmtIsMx v.fmt then [(v.scaleOff is 0, cdiv (nth 0 e 0) 32)] else []))

/-- One past the last displacement of a list of runs. -/
def runsEnd (l : List (Nat × Nat)) : Nat := l.foldl (fun m p => max m (p.1 + p.2)) 0

/-- The extents of the destination, planned (`eff` = false) or effective (R266, R272). -/
def mDstExt (d desc : Nat) (eff : Bool) : List Nat :=
  (List.range 5).map (fun j =>
    if mOp d = opGather ∧ j = mIdxDim d then xIdxCount d
    else if eff then mEff d desc j else mExt d j)

/-- The extents of the source dimensions (R247, R266, R306, R307, R311). -/
def mSrcExt (d desc : Nat) (eff : Bool) : List Nat :=
  let e := fun j => if eff then mEff d desc j else mExt d j
  let op := mOp d
  (List.range 5).map (fun k =>
    if (op = opScatter ∨ op = opScatterAdd) ∧ k = mIdxDim d then xIdxCount d
    else if op = opPad ∧ k ≠ 0 then xSe d k
    else if (op = opUp2 ∨ op = opDown2) ∧ k ≠ 0 ∧ k ≠ 4 ∧ xAxis d k then
      (if op = opUp2 then e k / 2 else 2 * e k)
    else if op = opCrop ∧ k ≠ 0 then xImg d (k - 1)
    else match (List.range 5).find? (fun j => mPerm d j = k) with
      | some j => e j
      | none => 0)

/-- The source index of a destination index: s[PERMj] = ij (R247). -/
def srcIdx (d : Nat) (i : List Nat) : List Nat :=
  (List.range 5).map (fun k => match (List.range 5).find? (fun j => mPerm d j = k) with
    | some j => nth 0 i j
    | none => 0)

/-! ### Page fills (R336 to R339) -/

/-- A page table bank's header (R336). -/
def State.pageHdr (s : State) (pa : Nat) : Nat := s.word pa 64

/-- KEYS. -/
def phKeys (h : Nat) : Nat := fld h 511 488
/-- FMT. -/
def phFmt (h : Nat) : Nat := fld h 487 484
/-- d. -/
def phD (h : Nat) : Nat := nth 64 [64, 128, 256] (fld h 483 482)
/-- Number of KV heads. -/
def phHeads (h : Nat) : Nat := fld h 481 474 + 1
/-- Number of layers. -/
def phLayers (h : Nat) : Nat := fld h 473 466 + 1
/-- PAGES. -/
def phPages (h : Nat) : Nat := fld h 465 449

/-- LIMIT of a key locator (R337). -/
def klLimit (a : Nat) : Nat := fld a 63 41
/-- LAYER. -/
def klLayer (a : Nat) : Nat := fld a 40 33
/-- HEAD. -/
def klHead (a : Nat) : Nat := fld a 32 25
/-- PLANE: the V plane. -/
def klV (a : Nat) : Bool := bitAt a 24
/-- FIRST. -/
def klFirst (a : Nat) : Nat := fld a 21 0

/-- R338: the key and the element of a page fill's source index. -/
def pageKey (d : Nat) (i : List Nat) : Nat × Nat :=
  let l := mSrcAddr d
  let wide := nth 0 i 0 + mExt d 0 * nth 0 i 2
  if klV l then (klFirst l + wide, nth 0 i 1) else (klFirst l + nth 0 i 1, wide)

/-- R339: a page fill that completes with DESCRIPTOR whatever its table holds. -/
def pageDescBad (d : Nat) : Bool :=
  mSrcSpace d ≠ 0 || !mPermId d || (List.range 4).any (fun j => mSrcStride d (j + 1) ≠ 0) || mExt d 3 ≠ 1 || mExt d 4 ≠ 1 ||
  fld (mSrcAddr d) 23 22 ≠ 0

/-- R339: a page fill that completes with DESCRIPTOR. -/
def pageBad (d hdr : Nat) : Bool :=
  let l := mSrcAddr d
  let maxElem := if klV l then mExt d 1 else mExt d 0 * mExt d 2
  pageDescBad d || mSrcFmt d ≠ phFmt hdr || phD hdr < maxElem || phLayers hdr ≤ klLayer l || phHeads hdr ≤ klHead l

/-! ### Checks -/

/-- R249: an MX view. -/
def mxViewOk (v : View) (ext0 : Nat) : Bool :=
  !fmtIsMx v.fmt || (ext0 % 32 = 0 && v.str.all (fun s => s % blockBytes v.fmt = 0))

/-- R263: a Herringbone view. A row longer than the pitch, and a pitch of 0, break it too (DESIGN CHOICE, log 151). -/
def hbViewOk (v : View) (addr ext0 : Nat) : Bool :=
  let p := nth 0 v.str 0
  !v.hb || (addr % 4096 = 0 && p % 4096 = 0 && p ≠ 0 && rowBytes v.fmt ext0 ≤ p &&
    (v.str.drop 1).all (fun s => s % p = 0))

/-- R261: the destination view does not overlap itself. -/
def noSelfOverlap (v : View) (e : List Nat) : Bool :=
  ((List.range 4).foldl (fun (acc : Bool × Nat) j =>
    let s := nth 0 v.str j
    let n := nth 0 e (j + 1)
    (acc.1 && (n ≤ 1 || acc.2 ≤ s), acc.2 + s * (n - 1))) (true, rowBytes v.fmt (nth 0 e 0))).1

/-- Ring number, slab number and offset of a ring-space address (R252). -/
def rsRing (a : Nat) : Nat := a % 16
/-- Slab number. -/
def rsSlab (a : Nat) : Nat := fld a 39 8
/-- Byte offset within the slab. -/
def rsOff (a : Nat) : Nat := fld a 57 40

/-- R252: a ring-space view. -/
def ringViewOk (c : CoreSt) (addr last : Nat) : Bool :=
  let r := c.ring (rsRing addr)
  fld addr 7 4 = 0 && fld addr 63 58 = 0 && r.valid && r.slab ≠ 0 && (rsOff addr + (last - 1)) / r.slab ≤ r.count

/-- Bytes of each 4 KiB block that runs cover, by block number. -/
def coverMap (l : List (Nat × Nat)) : NMap Nat :=
  (l.flatMap (fun r => pieces 4096 r.1 r.2)).foldl (fun m p => nmod 0 m (p.1 / 4096) (fun n => n + p.2)) []

/-- Every block that runs touch is covered whole. -/
def coversWhole (l : List (Nat × Nat)) : Bool := (coverMap l).all (fun b => 4096 ≤ b.2)

/-- Runs from an address on. -/
def shiftRuns (a : Nat) (l : List (Nat × Nat)) : List (Nat × Nat) := l.map (fun p => (a + p.1, p.2))

/-- R302: the cases of a window descriptor. -/
def windowBad (d : Nat) : Bool :=
  let grp := if mOp d = opWindow then 128 else 512
  let top := if mOp d = opWindow then 1024 else 2048
  let cst := (List.range 3).any (fun a => xPmode d a = 1)
  mDstSpace d ≠ 1 || xOw d = 0 || xOh d = 0 || xOt d = 0 || xKw d = 0 || xKh d = 0 || xKt d = 0 ||
  xNpos d % grp ≠ 0 || top < xNpos d || fld d 56 0 ≠ 0 || mRtEn d || ctrlIsSr (mCtrl d) ||
  (mmaGroup (ctrlFmt (mCtrl d))).isNone ||
  xBoxLeaves d < xLeaf0 d + xNleaf d ||
  62 < xTap0 d 0 + xKw d - 1 || 62 < xTap0 d 1 + xKh d - 1 || 62 < xTap0 d 2 + xKt d - 1 ||
  (cst && !fmtIsMx (ctrlFmt (mCtrl d)) &&
    (elemRound (ctrlFmt (mCtrl d)) .rne false (f32v (xWinConst d))).2.inexact ≠ 0)

/-- The cases of each operation's own fields (R265, R271, R306, R307, R315, R250, R246). -/
def xformBad (d : Nat) : Bool :=
  let op := mOp d
  let sr := ctrlIsSr (mCtrl d)
  if op = opCopy then fld d 23 0 ≠ 0
  else if op = opFill then fld d 223 0 ≠ 0 || sr || !mPermId d
  else if isIndexOp op then
    !mPermId d || sr || fld d 23 0 ≠ 0 ||
    (mIdxDim d = 0 && (fmtIsMx (mSrcFmt d) || fmtIsMx (ctrlFmt (mCtrl d)))) ||
    (if op = opScatterAdd then
      mDstAddr d ≠ 0 || mCtrl d ≠ 0 || (List.range 4).any (fun j => mDstStride d (j + 1) ≠ 0) || xElemCount d = 0
     else xRed d ≠ 0 || xGen d ≠ 0 || xBlkA d ≠ 0 || xBlkB d ≠ 0 || xElemCount d ≠ 0)
  else if isWindowOp op then windowBad d
  else if op = opPad then
    !mPermId d || sr || fld d 71 0 ≠ 0 || (List.range 4).any (fun j => xSe d (j + 1) = 0)
  else if op = opUp2 ∨ op = opDown2 then
    !mPermId d || sr || fld d 251 0 ≠ 0 || fld d 255 253 = 0 ||
    (op = opUp2 && (List.range 3).any (fun j => xAxis d (j + 1) && mExt d (j + 1) % 2 = 1))
  else if op = opCrop then
    !mPermId d || sr || mRtEn d || fld d 110 0 ≠ 0 || 4096 < mExt d 1 || 4096 < mExt d 2 || mExt d 4 ≠ 1 ||
    (List.range 4).any (fun j => xImg d j = 0)
  else true

/-- A run of bytes cut into pieces of the given sizes, each with its offset in the run. -/
def withOffsets (l : List (Nat × Nat)) : List (Nat × Nat × Nat) :=
  (l.foldl (fun (acc : List (Nat × Nat × Nat) × Nat) q => (acc.1 ++ [(q.1, acc.2, q.2)], acc.2 + q.2)) ([], 0)).1

/-- R231, R277: what a COPY between formats of one width carries: destination displacement, source displacement, bytes. -/
def carried (d desc : Nat) (eff : Bool) : List (Nat × Nat × Nat) :=
  let e := mDstExt d desc eff
  let sv := mSrcView d
  let dv := mDstView d
  (rowIdx (nth 0 e 1) (nth 0 e 2) (nth 0 e 3) (nth 0 e 4)).flatMap (fun is =>
    if mPerm d 0 = 0 then
      let so := sv.rowOff ((srcIdx d (0 :: is)).drop 1)
      (withOffsets (dv.rowRuns is (rowBytes dv.fmt (nth 0 e 0)))).map (fun q => (q.1, so + q.2.1, q.2.2)) ++
      (if fmtIsMx dv.fmt then [(dv.scaleOff is 0, sv.scaleOff ((srcIdx d (0 :: is)).drop 1) 0, cdiv (nth 0 e 0) 32)] else [])
    else (List.range (nth 0 e 0)).map (fun i0 =>
      let s := srcIdx d (i0 :: is)
      (dv.byteOff is (i0 * (fmtBits dv.fmt / 8)), sv.rowOff (s.drop 1) + nth 0 s 0 * (fmtBits sv.fmt / 8), fmtBits dv.fmt / 8)))

/-- Where the displacements of a destination view start: a remote address has its virtual address in bits 45 to 0, and the blocks
of a broadcast count from 0 (R552, R560). -/
def mDstBase (d : Nat) : Nat :=
  if mDstSpace d ≠ 2 then mDstAddr d else if fld (mDstAddr d) 63 47 = 0x1FFFF then 0 else mDstAddr d % 2 ^ 46

/-- R231: each span of 4 KiB of the source slabs lands as one tensor block. The pieces are cut at the blocks. An MX view whose
dimension 0 is permuted is blocked anew, and lands no span. -/
def spansOk (d : Nat) : Bool :=
  let a := mDstBase d
  let cut := (carried d 0 false).flatMap (fun q => (pieces 4096 (a + q.1) q.2.2).map (fun x =>
    (x.1, rsOff (mSrcAddr d) + q.2.1 + (x.1 - (a + q.1)))))
  (mPerm d 0 = 0 || !(fmtIsMx (mSrcFmt d) || fmtIsMx (ctrlFmt (mCtrl d)))) &&
  cut.all (fun x => x.1 % 4096 = x.2 % 4096) &&
  cut.all (fun x => cut.all (fun y => x.1 / 4096 ≠ y.1 / 4096 || x.2 / 4096 = y.2 / 4096))

/-- A remote destination that breaks R552: a broken field, the module itself, or an address past the reach. -/
def remoteBad (d own : Nat) (runs : List (Nat × Nat)) : Bool :=
  let a := mDstAddr d
  if fld a 63 47 = 0x1FFFF then !coversWhole runs || 2 ^ 36 < runsEnd runs
  else bitAt a 46 || fld a 63 47 = own || 2 ^ 46 < a % 2 ^ 46 + runsEnd runs

/-- The cases in which a MOVE completes its task with DESCRIPTOR before anything is read or written (R251, R252, R261,
R263, R277, R428, R400). `gen` and `chk` settings of containment mode are no part of it. SRC_TABLE with a source in ring space, and
SRC_RELEASE of a FILL, are among them (DESIGN CHOICE, log 151). -/
def mvBad (c : CoreSt) (t : Task) (own d : Nat) : Bool :=
  let op := mOp d
  let perm := (List.range 5).map (mPerm d)
  let ext := mDstExt d 0 false
  let sv := mSrcView d
  let dv := mDstView d
  let dRuns := dv.runs ext
  let raw := op = opCopy && fmtIsMx sv.fmt && sv.fmt = dv.fmt && mPerm d 0 = 0
  let reads := op ≠ opFill
  let noDst := op = opScatterAdd || isWindowOp op
  1 < mSrcSpace d || mDstSpace d = 3 || mIdxMode d = 3 || mGen d = 3 ||
  !fmtDefined (mSrcFmt d) || !ctrlOk (mCtrl d) || fld d 947 944 ≠ 0 || fld d 331 256 ≠ 0 ||
  !(List.range 5).all (fun k => perm.contains k) || (List.range 5).any (fun j => mExt d j = 0) ||
  mRtM d = 5 || mRtM d = 6 || mRtN d = 5 || mRtN d = 6 || 4 < mIdxDim d ||
  (mRelease d && !(reads && mSrcSpace d = 1)) ||
  (mTagEn d && 12287 < mTag d) || xformBad d ||
  (reads && (!mxViewOk sv (nth 0 (mSrcExt d 0 false) 0) || !hbViewOk sv (mSrcAddr d) (nth 0 (mSrcExt d 0 false) 0))) ||
  (!noDst && (!mxViewOk dv (nth 0 ext 0) || !hbViewOk dv (mDstAddr d) (nth 0 ext 0) || !noSelfOverlap dv ext)) ||
  (mHbSrc d && mSrcSpace d = 1) || (mHbDst d && mDstSpace d = 1) ||
  (reads && mSrcSpace d = 1 && (mTable d ≠ 0 || !ringViewOk c (mSrcAddr d) (runsEnd (sv.runs (mSrcExt d 0 false))))) ||
  (!noDst && mDstSpace d = 1 && !ringViewOk c (mDstAddr d) (runsEnd dRuns)) ||
  (isWindowOp op && (!ringViewOk c (mDstAddr d) 1 ||
    (c.ring (rsRing (mDstAddr d))).slab < slabBytes dv.fmt (fmtIK dv.fmt) (if op = opWindow then 128 else 512))) ||
  (mDstSpace d = 2 && (noDst || remoteBad d own dRuns)) ||
  (mGen d ≠ 0 && mDstSpace d = 1) || (mChk d && mSrcSpace d = 1) ||
  (mGen d = 2 && !(op = opCopy && mSrcSpace d = 1 && fmtBits sv.fmt = fmtBits dv.fmt && spansOk d &&
    (c.ring (rsRing (mSrcAddr d))).slab % 4096 = 0)) ||
  (mGen d ≠ 0 && !noDst && !coversWhole (shiftRuns (mDstBase d) dRuns)) ||
  (ctrlIsSr (mCtrl d) && op = opCopy && t.key.isNone && (!raw || mEff d t.desc 0 % 32 ≠ 0))

/-- The codes that stop a MOVE before it is issued (R251, R273). -/
def mvCodes (c : CoreSt) (t : Task) (own d : Nat) : List Nat :=
  (if mvBad c t own d then [cDescriptor] else []) ++ (if mOverExt d t.desc then [cExtent] else [])

end Sys2Proof.Machine
end

