-- ==== Sys2Proof/Machine/Packets.lean ====
section
/-! DEFINITION. Packets and routing (R538 to R547): headers, flits, the route table, and injection. -/

namespace Sys2Proof.Machine

/-! ### Headers (R540, R541) -/

/-- The packet header of a packet: bytes 8 to 39 of its first flit, as a number of 256 bits. -/
def flitHdr (f : Nat) : Nat := fld f 319 64

/-- DEST. -/
def pkDest (h : Nat) : Nat := fld h 255 239
/-- SRC. -/
def pkSrc (h : Nat) : Nat := fld h 238 222
/-- TYPE. -/
def pkType (h : Nat) : Nat := fld h 221 216
/-- LEN: flits - 1. -/
def pkLen (h : Nat) : Nat := fld h 215 211
/-- TTL. -/
def pkTtl (h : Nat) : Nat := fld h 210 203
/-- CONTEXT. -/
def pkCtx (h : Nat) : Nat := fld h 202 197
/-- JOB. -/
def pkJob (h : Nat) : Nat := fld h 196 173

/-- WRITE. -/
def tyWrite : Nat := 0x01
/-- WRITE_DONE. -/
def tyWriteDone : Nat := 0x02
/-- CONTRIB. -/
def tyContrib : Nat := 0x08
/-- LEAF_DONE. -/
def tyLeafDone : Nat := 0x09
/-- CONTRIB_ACK. -/
def tyContribAck : Nat := 0x0A
/-- BCAST_BLOCK. -/
def tyBlock : Nat := 0x10
/-- BCAST_MANIFEST. -/
def tyManifest : Nat := 0x11
/-- RESEND. -/
def tyResend : Nat := 0x12
/-- HEARTBEAT. -/
def tyHeartbeat : Nat := 0x18
/-- NEIGHBOUR. -/
def tyNeighbour : Nat := 0x19
/-- LINK_DOWN. -/
def tyLinkDown : Nat := 0x1A

/-- R541: a defined packet type. -/
def typeDefined (t : Nat) : Bool :=
  [tyWrite, tyWriteDone, tyContrib, tyLeafDone, tyContribAck, tyBlock, tyManifest, tyResend, tyHeartbeat, tyNeighbour,
   tyLinkDown].contains t

/-- R538: the virtual channel of a packet type. -/
def typeVc (t : Nat) : Nat :=
  if t = tyWrite then 0 else if t = tyWriteDone ∨ t = tyContribAck then 1 else if t = tyContrib ∨ t = tyLeafDone then 2 else 3

/-- This module's ID (R542). -/
def State.ownId (s : State) : Nat := s.obj (kDev 0x6000 1)
/-- No ID (R542). -/
def noId : Nat := 0x1FFFF

/-- Data bytes of a packet's first flit and of each later one (R533). -/
def headData : Nat := 212
/-- Data bytes of a BODY or TAIL flit. -/
def bodyData : Nat := 244

/-- Flits of a packet with n data bytes. -/
def flitCount (n : Nat) : Nat := 1 + cdiv (n - headData) bodyData

/-- A packet header from its fields and its type fields, which end at bit 171 downwards. -/
def mkHdr (dest src type ctx job fields n : Nat) : Nat :=
  at' dest 255 239 + at' src 238 222 + at' type 221 216 + at' (flitCount n - 1) 215 211 + at' 128 210 203 +
  at' ctx 202 197 + at' job 196 173 + at' fields 171 0

/-- The flits of a packet, link word and CRC not yet set: header and data in the first, data in the rest (R533). -/
def mkFlits (hdr : Nat) (data : List Byte) : List Nat :=
  (hdr <<< 64 + leNat (data.take headData) <<< 320) ::
  (chunks bodyData (data.drop headData)).map (fun d => leNat d <<< 64)

/-- The data bytes that a packet's flits carry. -/
def flitsData (fs : List Nat) : List Byte :=
  match fs with
  | [] => []
  | f :: r => toLE headData (f >>> 320) ++ r.flatMap (fun g => toLE bodyData (g >>> 64))

/-! ### Route tables (R544 to R547) -/

/-- The current bank of the route table that the router uses, if its OWN_ID is this module's (R542, R544). -/
def State.routeBank (s : State) : Option Nat :=
  let id := s.obj (kDev 0x6000 2)
  if id = 0 then none else
    match s.table id with
    | none => none
    | some t =>
      let b := t.bank t.epoch
      if t.type = 3 ∧ t.owner = 0x40 ∧ b.state = .current ∧ s.word b.pa 4 = s.ownId ∧ s.ownId ≠ noId then some b.pa else none

/-- The route table entry of a destination. -/
def State.routeEntry (s : State) (pa dest : Nat) : Nat := s.word (pa + 4096 + 8 * dest) 8
/-- A port group record. -/
def State.portGroup (s : State) (pa g : Nat) : Nat := s.word (pa + 1024 + 16 * g) 16
/-- LINKS of a port group. -/
def pgLinks (r : Nat) : List Nat := (List.range 64).filter (fun n => bitAt r (64 + n))
/-- KIND of a port group. -/
def pgKind (r : Nat) : Nat := fld r 63 61
/-- DIM of a port group. -/
def pgDim (r : Nat) : Nat := fld r 60 58

/-- STATE of a link (R564). -/
def State.linkState (s : State) (n : Nat) : Nat := s.obj (kDev (0x6100 + n) 1)
/-- A link that the router may use: UP or DEGRADED. -/
def State.linkLive (s : State) (n : Nat) : Bool := s.linkState n = 2 || s.linkState n = 3

/-- R546: the link of a port group with the most free credits for a buffer, the lowest number on a tie. -/
def State.pickLink (s : State) (pa g buf : Nat) : Option Nat :=
  ((pgLinks (s.portGroup pa g)).filter s.linkLive).foldl (fun best n =>
    match best with
    | none => some n
    | some b => if nth 0 (s.link b).credits buf < nth 0 (s.link n).credits buf then some n else some b) none

/-- Where the router sends a packet (R546). -/
inductive Route where
  | here
  | via (link cls : Nat)
  | unreachable
  | noTable

/-- R546, R547: the route of a packet by its destination, virtual channel and class. -/
def State.route (s : State) (dest vc cls : Nat) : Route :=
  match s.routeBank with
  | none => .noTable
  | some pa =>
    let e := s.routeEntry pa dest
    let cls1 := if bitAt e 47 then 1 else if bitAt e 45 then 0 else cls
    let cls2 := if bitAt e 46 then 1 else if bitAt e 44 then 0 else cls
    if fld e 63 56 = 0xFE then .here
    else
      let go := fun (pg c : Nat) => if pg < 128 then (s.pickLink pa pg (vc * 2 + c)).map (fun n => (n, c)) else none
      match go (fld e 63 56) cls1 with
      | some (n, c) => .via n c
      | none => if fld e 63 56 = 0xFF then .unreachable else
        match go (fld e 55 48) cls2 with
        | some (n, c) => .via n c
        | none => .unreachable

/-- A packet joins the packets that wait for a link. -/
def State.queueOn (s : State) (n : Nat) (p : Packet) : State := s.modLink n (fun l => { l with outQ := l.outQ ++ [p] })

/-- A packet is delivered to this module. A WRITE is tagged with its context's translation table as it arrives (R524, R554). -/
def State.deliver (s : State) (p : Packet) : State :=
  let hdr := flitHdr (p.flits.headD 0)
  let tag := if pkType hdr = tyWrite then s.xlatNow (pkCtx hdr) else none
  let s := s.refTable tag
  { s with fab := { s.fab with rx := s.fab.rx ++ [{ p with tag := tag }] } }

/-- A packet that was injected here is delivered here. -/
def State.deliverHere (s : State) (fs : List Nat) : State := s.deliver { flits := fs, poison := false, cls := 0, inCls := 0, from_ := none }

/-- The first flit of a packet with its TTL one less. -/
def lowerTtl (f : Nat) : Nat := f - at' (fld f 274 267) 274 267 + at' (fld f 274 267 - 1) 274 267

/-- R546: the flits of a packet after a lookup of the router: its TTL is one less. -/
def lookedUp : List Nat → List Nat
  | f :: r => lowerTtl f :: r
  | [] => []

/-- A packet with a CLASS leaves by its route, or the code with which its task completes (R546). -/
def State.injectAt (s : State) (cls hdr : Nat) (data : List Byte) : Except Nat State :=
  let fs := mkFlits hdr data
  match s.route (pkDest hdr) (typeVc (pkType hdr)) cls with
  | .here => .ok (s.deliverHere fs)
  | .via n c => .ok (s.queueOn n { flits := lookedUp fs, poison := false, cls := c, inCls := cls, from_ := none })
  | .unreachable => .error cTranslation
  | .noTable => .error cVersion

/-- R546, R547: a packet is injected here with CLASS 0, or the code with which its task completes. -/
def State.inject (s : State) (hdr : Nat) (data : List Byte) : Except Nat State := s.injectAt 0 hdr data

/-- Inject a packet that no task waits for: one that cannot leave is discarded and counted (R546). -/
def State.injectOr (s : State) (hdr : Nat) (data : List Byte) : State :=
  match s.inject hdr data with
  | .ok s => s
  | .error _ => s.cnt16 (kDev 0x6000 4) 1

/-- JOB_ID of a context (R557). -/
def State.jobId (s : State) (c : Nat) : Nat := s.obj (kDev (0x6080 + c) 1)

/-- R552: the module that a remote address names. -/
def raModule (a : Nat) : Nat := fld a 63 47

/-- R558: the home of a reduction whose descriptor has a DEST_ADDR: another module where this one has an ID and the
address names a module that is not this one. -/
def State.homeOf (s : State) (dest : Nat) : Option Nat :=
  if s.ownId = noId ∨ raModule dest = s.ownId ∨ (raModule dest = 0 ∧ Config.zeroIsHere s.ownId dest) then none
  else some (raModule dest)

/-- R552, R558: a DEST_ADDR names this module by its number: a remote address. On module 0 a MODULE field of 0 is that of a
virtual address (log 61). -/
def State.namesSelf (s : State) (dest : Nat) : Bool := s.ownId ≠ noId && s.ownId ≠ 0 && raModule dest = s.ownId

/-- The virtual address of a DEST_ADDR on its home. -/
def State.homeVa (s : State) (dest : Nat) : Nat := if s.namesSelf dest then dest % 2 ^ 46 else dest

/-- R552: a DEST_ADDR that is a remote address has 0 in bit 46. -/
def State.destBad (s : State) (dest : Nat) : Bool := bitAt dest 46 && (s.namesSelf dest || (s.homeOf dest).isSome)

/-- R553: the number of a new descriptor: none that a WRITE_DONE is outstanding for. -/
def State.newSerial (s : State) : Nat :=
  (((List.range (s.fab.remote.length + 1)).map (fun k => (s.fab.nextSerial + k) % 2 ^ 32)).find? (fun n =>
    !s.fab.remote.any (fun r => r.serial = n))).getD s.fab.nextSerial

/-! ### Type fields (R541) -/

/-- Type fields of a WRITE. -/
def wrFields (serial npkt addr tag tagEn sealed bytes crc : Nat) : Nat :=
  at' serial 171 140 + at' npkt 139 112 + at' addr 111 66 + at' tag 65 50 + at' tagEn 49 49 + at' sealed 48 48 +
  at' bytes 47 35 + at' crc 34 3

/-- Type fields of a CONTRIB or LEAF_DONE. -/
def cbFields (h part npart : Nat) : Nat := at' h 171 44 + at' part 43 28 + at' npart 27 12

/-- Type fields of a BCAST_BLOCK or BCAST_MANIFEST. -/
def bcFields (id block dim hops origin : Nat) : Nat :=
  at' id 171 156 + at' block 155 131 + at' dim 130 128 + at' hops 127 122 + at' origin 121 105

/-- BCAST_ID of a broadcast packet. -/
def bcId (h : Nat) : Nat := fld h 171 156
/-- BLOCK. -/
def bcBlock (h : Nat) : Nat := fld h 155 131
/-- DIM. -/
def bcDim (h : Nat) : Nat := fld h 130 128
/-- HOPS. -/
def bcHops (h : Nat) : Nat := fld h 127 122
/-- ORIGIN. -/
def bcOrigin (h : Nat) : Nat := fld h 121 105

/-! ### The broadcast tree (R549, R550, R561) -/

/-- TOPO of a route table bank. -/
def State.rtTopo (s : State) (pa : Nat) : Nat := s.word (pa + 4) 1
/-- DIMS. -/
def State.rtDims (s : State) (pa : Nat) : Nat := s.word (pa + 5) 1
/-- SIZE of a dimension. -/
def State.rtSize (s : State) (pa j : Nat) : Nat := s.word (pa + 6 + j) 1
/-- COORD of a dimension. -/
def State.rtCoord (s : State) (pa j : Nat) : Nat := s.word (pa + 12 + j) 1

/-- The module after this one in the positive direction of a torus dimension (R549). -/
def State.torusNext (s : State) (pa j : Nat) : Nat :=
  let stride := ((List.range j).map (s.rtSize pa)).foldl (· * ·) 1
  let c := s.rtCoord pa j
  s.ownId + (c + 1) % max 1 (s.rtSize pa j) * stride - c * stride

/-- The module at the far end of a port group, as its links' NEIGHBOUR objects give it (R543). -/
def State.groupPeer (s : State) (pa g : Nat) : Nat :=
  match pgLinks (s.portGroup pa g) with
  | n :: _ => s.obj (kDev (0x6100 + n) 6)
  | [] => noId

/-- Port groups of a kind. -/
def State.groupsOf (s : State) (pa kind : Nat) : List Nat := (List.range 128).filter (fun g => pgKind (s.portGroup pa g) = kind)

/-- The copies of the tree that this module sends: port group, next module, DIM and HOPS. `dim` and `hops` are those of
the packet that arrived from `src`, and the origin gives its own ID as `src`. -/
def State.treeCopies (s : State) (pa src origin dim hops : Nat) : List (Nat × Nat × Nat × Nat) :=
  if s.rtTopo pa = 0 then
    let plus := fun j => ((s.groupsOf pa 1).find? (fun g => pgDim (s.portGroup pa g) = j)).getD 128
    let fresh := fun (j0 : Nat) => (((List.range (s.rtDims pa)).drop j0).filter (fun j => 2 ≤ s.rtSize pa j)).map (fun j =>
      (plus j, s.torusNext pa j, j, s.rtSize pa j - 1))
    if src = s.ownId then fresh 0
    else (if 1 < hops then [(plus dim, s.torusNext pa dim, dim, hops - 1)] else []) ++ fresh (dim + 1)
  else
    let n := max 1 (s.rtSize pa 0)
    let send : Nat → List (Nat × Nat × Nat × Nat) := fun kind => (s.groupsOf pa kind).map (fun g => (g, s.groupPeer pa g, 0, 1))
    if src = s.ownId then send 3 ++ send 4
    else if src / n ≠ s.ownId / n then send 3
    else if src = origin then send 4
    else []

/-- R547: the CLASS of a packet that leaves by port group `pg` towards a module whose route table entry is `e`. -/
def leaveCls (e pg cls : Nat) : Nat :=
  let second : Bool := fld e 63 56 ≠ pg && fld e 55 48 = pg
  if bitAt e (if second then 46 else 47) then 1 else if bitAt e (if second then 44 else 45) then 0 else cls

/-- One copy leaves by its port group, or routed where that has no live link (R561). `cls` is the CLASS with which the packet that it
copies arrived (R547). -/
def State.sendCopy (s : State) (pa type id block origin cls : Nat) (data : List Byte) (c : Nat × Nat × Nat × Nat) : State :=
  let hdr := mkHdr c.2.1 s.ownId type 0 0 (bcFields id block c.2.2.1 c.2.2.2 origin) data.length
  let out := leaveCls (s.routeEntry pa c.2.1) c.1 cls
  match (if c.1 < 128 then s.pickLink pa c.1 (6 + out) else none) with
  | some n => s.queueOn n { flits := mkFlits hdr data, poison := false, cls := out, inCls := cls, from_ := none }
  | none => match s.injectAt cls hdr data with
    | .ok s => s
    | .error _ => s.cnt16 (kDev 0x6000 4) 1

/-- A broadcast packet starts at this module: copies down the tree, and one delivered here. -/
def State.bcastStart (s : State) (type id block : Nat) (data : List Byte) : Except Nat State :=
  match s.routeBank with
  | none => .error cVersion
  | some pa =>
    let own := s.ownId
    let s := (s.treeCopies pa own own 0 0).foldl (fun s c => s.sendCopy pa type id block own 0 data c) s
    .ok (s.deliverHere (mkFlits (mkHdr own own type 0 0 (bcFields id block 0 0 own) data.length) data))

/-- The packets of a broadcast that this module started and that have not left it (R560). -/
def State.bcastWaits (s : State) (id : Nat) : Bool :=
  (List.range 64).any (fun n => (s.link n).outQ.any (fun p =>
    let h := flitHdr (p.flits.headD 0)
    p.from_.isNone && (pkType h = tyBlock || pkType h = tyManifest) && bcId h = id && bcOrigin h = s.ownId))

/-- A broadcast packet that arrived with a CLASS goes on down the tree; HOPS 0 goes no further. -/
def State.bcastForward (s : State) (h : Nat) (data : List Byte) (cls : Nat) : State :=
  match s.routeBank with
  | none => s
  | some pa =>
    if bcHops h = 0 then s
    else (s.treeCopies pa (pkSrc h) (bcOrigin h) (bcDim h) (bcHops h)).foldl
      (fun s c => s.sendCopy pa (pkType h) (bcId h) (bcBlock h) (bcOrigin h) cls data c) s

end Sys2Proof.Machine
end

