-- ==== Sys2Proof/Machine/Mover.lean ====
section
/-! DEFINITION. How the tensor mover runs one descriptor (R247, R249, R250, R253 to R263, R269, R272, R274, R276, R277,
R337 to R340, R430 to R434, R556, R625, R627): resolve every address, check, read, compute, write. -/

namespace Sys2Proof.Machine

/-- Containment mode (R630). -/
def State.containment (s : State) : Bool := s.obj (kDev 0x2001 1) = 1

/-- Where bytes lie: operand SRAM of the issuing core, or physical memory. -/
structure Place where
  sram : Bool
  a : Nat
  n : Nat
  deriving DecidableEq, Repr

/-- A side of a descriptor whose displacements can be resolved. -/
inductive Port where
  | virt (base : Nat)
  | ring (addr : Nat)
  | bank (pa size off : Nat)
  /-- Displacement `off` of a plane of rows of `pitch` bytes in Herringbone layout, and row by row past it. -/
  | herring (pa plane pitch off : Nat)
  | remote (base : Nat)

/-- R263: where byte `x` of a plane of rows of `pitch` bytes lies in Herringbone layout. -/
def herringAt (pitch x : Nat) : Nat :=
  let r := x / max 1 pitch
  r * pitch + (x % max 1 pitch / 64 + r) % max 1 (pitch / 64) * 64 + x % 64

/-- The places of a run of bytes of a side, or the code of its failure (R252, R253, R521). -/
def State.resolve (s : State) (c : CoreSt) (acc : Acc) (p : Port) (wr : Bool) (run : Nat × Nat) :
    Except Nat (List Place) :=
  match p with
  | .virt base =>
    match s.trans acc (base + run.1) run.2 wr with
    | .error e => .error e
    | .ok l => .ok (l.map (fun q => ⟨false, q.1, q.2⟩))
  | .ring addr =>
    let r := c.ring (rsRing addr)
    .ok ((pieces (max 1 r.slab) (rsOff addr + run.1) run.2).map (fun q =>
      ⟨true, r.slabAddr (rsSlab addr + q.1 / max 1 r.slab) + q.1 % max 1 r.slab, q.2⟩))
  | .bank pa size off =>
    if size < off + run.1 + run.2 then .error cTranslation else .ok [⟨false, pa + off + run.1, run.2⟩]
  | .herring pa plane pitch off =>
    .ok ((pieces 64 (off + run.1) run.2).map (fun q =>
      ⟨false, pa + (if q.1 < plane then herringAt pitch q.1 else q.1), q.2⟩))
  | .remote _ => .ok []

/-- The bytes at a list of places. -/
def State.fetch (s : State) (c : CoreSt) (l : List Place) : List Byte :=
  l.flatMap (fun p => if p.sram then c.rd p.a p.n else s.view p.a p.n)

/-- What a destination element takes: a source element, a source element that stands for a coordinate outside its extent
(R303), bytes at a displacement, a binary32 constant, or a constant that pads (R304). -/
inductive Pick where
  | src (i : List Nat)
  | edge (i : List Nat)
  | raw (disp : Nat)
  | const (c : Nat)
  | pad (c : Nat)
  deriving DecidableEq, Repr

/-- A padded value: it counts no event (R304). -/
def Pick.padded : Pick → Bool
  | .edge _ => true
  | .pad _ => true
  | _ => false

/-- A pick that is one source element. -/
def Pick.one : List Pick → Bool
  | [.src _] => true
  | [.edge _] => true
  | _ => false

/-- First byte, bytes and shift of element `i` of a row. -/
def elemSpan (fmt i : Nat) : Nat × Nat × Nat :=
  if fmtBits fmt = 6 then (i / 4 * 3, 3, 6 * (i % 4))
  else if fmtBits fmt = 4 then (i / 2, 1, 4 * (i % 2))
  else (i * (fmtBits fmt / 8), fmtBits fmt / 8, 0)

/-- The run of an element's bytes; the bytes of one element never straddle a Herringbone word unless it is 6 bits. -/
def View.elemRuns (v : View) (i : List Nat) : List (Nat × Nat) :=
  let e := elemSpan v.fmt (nth 0 i 0)
  (List.range e.2.1).map (fun b => (v.byteOff (i.drop 1) (e.1 + b), 1))

/-- The runs that a pick reads: element bytes, then its scale byte. -/
def Pick.runs (v : View) : Pick → List (Nat × Nat)
  | .src i | .edge i => v.elemRuns i ++ (if fmtIsMx v.fmt then [(v.scaleOff (i.drop 1) (nth 0 i 0 / 32), 1)] else [])
  | .raw a => [(a, fmtBits v.fmt / 8)]
  | .const _ | .pad _ => []

/-- What a descriptor does with its elements: destination rows and the elements of a row, what each element takes and
how several values make one, its logical index, and other bytes read. -/
structure Job where
  rows : List (List Nat)
  n0 : Nat
  picks : List Nat → List Pick
  comb : List Nat → List Nat → Nat × Ev
  index : List Nat → Nat
  reads : List (Nat × Nat)
  /-- Bytes of a mask that is written (R268): no reads, but they count as read bytes for R259. -/
  masks : List (Nat × Nat)
  /-- Elements of a row that are written (all but in SCATTER along dimension 0). -/
  keep : Nat → Bool

/-- A job that copies one value per element. -/
def Job.plain (rows : List (List Nat)) (n0 : Nat) (pick : List Nat → Pick) : Job :=
  { rows := rows, n0 := n0, picks := fun i => [pick i], comb := fun _ l => (nth 0 l 0, Ev.none), index := fun _ => 0,
    reads := [], masks := [], keep := fun _ => true }

/-- The elements of a destination row. -/
def Job.elems (j : Job) (is : List Nat) : List (List Nat) := (List.range j.n0).map (fun i0 => i0 :: is)

/-- The code and scale byte of a pick's element. -/
def State.pickCode (s : State) (c : CoreSt) (acc : Acc) (p : Port) (v : View) (k : Pick) : Nat × Nat :=
  let bs := ((k.runs v).map (fun r => match s.resolve c acc p false r with
    | .ok l => s.fetch c l
    | .error _ => [])).flatten
  match k with
  | .src i | .edge i =>
    let e := elemSpan v.fmt (nth 0 i 0)
    (fld (leNat (bs.take e.2.1)) (e.2.2 + fmtBits v.fmt - 1) e.2.2, (nth 0 bs e.2.1).toNat)
  | .raw _ => (leNat bs, 127)
  | .const x | .pad x => (x, 127)

/-- The value of a pick: MX elements unpack to binary32 by R35, every other element is taken as it is. -/
def pickValue (fmt : Nat) (k : Pick) (cs : Nat × Nat) : FVal × Ev :=
  match k with
  | .const x | .pad x => (f32v x, .none)
  | _ =>
    if fmtIsMx fmt then
      let r := elemToF32 fmt cs.1 cs.2
      (f32v r.1, r.2)
    else (elemValue fmt cs.1 cs.2, .none)

/-- Events of one element, each at most once (R57). -/
def Ev.once (a b : Ev) : Ev :=
  ⟨max a.inexact b.inexact, max a.overflow b.overflow, max a.nanCreated b.nanCreated, max a.saturated b.saturated⟩

/-- The value of a destination element: one value unchanged, or several widened to binary32 and combined (R309). -/
def State.elemOf (s : State) (c : CoreSt) (acc : Acc) (p : Port) (v : View) (j : Job) (i : List Nat) : FVal × Ev :=
  match j.picks i with
  | [k] => pickValue v.fmt k (s.pickCode c acc p v k)
  | ks =>
    let xs := ks.map (fun k => pickValue v.fmt k (s.pickCode c acc p v k))
    let ws := xs.map (fun x => fmtF32.round .rne false x.1)
    let r := j.comb i (ws.map (·.1))
    (f32v r.1, (xs.foldl (fun e x => e.once ⟨0, x.2.overflow, 0, 0⟩) Ev.none).once r.2)

/-- Random bits of an element under stochastic rounding (R250). -/
def moveRand (t : Task) (d idx : Nat) : Nat := outRand t (mCtrl d) (xSrTensor d) (idx % 2 ^ 64)

/-- Events of a destination element: none for a padded value (R304). -/
def Job.evOf (j : Job) (i : List Nat) (e : Ev) : Ev := if (j.picks i).all Pick.padded then .none else e

/-- R249: the blocks of matching MX views are copied unchanged. -/
def mRaw (d : Nat) : Bool := fmtIsMx (mSrcFmt d) && mSrcFmt d = ctrlFmt (mCtrl d) && mPerm d 0 = 0

/-- One destination row: runs of bytes by displacement, and events (R249, R250, R274). -/
def State.rowOut (s : State) (c : CoreSt) (t : Task) (d : Nat) (acc : Acc) (p : Port) (j : Job) (is : List Nat) :
    List (Nat × List Byte) × Ev :=
  let sv := mSrcView d
  let dv := mDstView d
  let ctrl := mCtrl d
  let place := fun (bs : List Byte) =>
    if dv.hb then (List.range bs.length).map (fun b => (dv.byteOff is b, [nth 0 bs b])) else [(dv.rowOff is, bs)]
  if fmtIsMx dv.fmt then
    let blks := (List.range (cdiv j.n0 32)).map (fun b =>
      let ids := (List.range 32).map (fun k => (32 * b + k) :: is)
      if mRaw d && 32 * b + 32 ≤ j.n0 && ids.all (fun i => Pick.one (j.picks i)) then
        let cs := ids.map (fun i => match j.picks i with
          | k :: _ => s.pickCode c acc p sv k
          | [] => (0, 0))
        ((nth (0, 0) cs 0).2, cs.map (·.1), Ev.none)
      else
        let xs := ids.map (fun i => if nth 0 i 0 < j.n0 then s.elemOf c acc p sv j i else (FVal.zero, Ev.none))
        let r := ctrlElemsMx ctrl (ids.map (fun i => moveRand t d (j.index i))) (xs.map (·.1))
        (r.1, r.2.map (·.1), Ev.sum ((ids.zip (xs.zip r.2)).map (fun z =>
          j.evOf z.1 ((⟨0, z.2.1.2.overflow, z.2.1.2.nanCreated, 0⟩ : Ev).plus z.2.2.2)))))
    (place (packElems dv.fmt (blks.flatMap (fun b => b.2.1))) ++
      [(dv.scaleOff is 0, blks.map (fun b => BitVec.ofNat 8 b.1))], Ev.sum (blks.map (fun b => b.2.2)))
  else
    let xs := (j.elems is).map (fun i =>
      let x := s.elemOf c acc p sv j i
      let r := ctrlRound ctrl (moveRand t d (j.index i)) x.1
      (r.1, j.evOf i (x.2.once r.2)))
    ((if (List.range j.n0).all j.keep then place (packElems dv.fmt (xs.map (·.1)))
      else ((List.range j.n0).filter j.keep).map (fun i0 =>
        let e := elemSpan dv.fmt i0
        (dv.byteOff is e.1, toLE e.2.1 (nth 0 (xs.map (·.1)) i0)))), Ev.sum (xs.map (·.2)))

/-- The runs that a job writes. -/
def Job.outRuns (j : Job) (v : View) : List (Nat × Nat) :=
  j.rows.flatMap (fun is =>
    (if (List.range j.n0).all j.keep then v.rowRuns is (rowBytes v.fmt j.n0)
     else ((List.range j.n0).filter j.keep).map (fun i0 => (v.byteOff is (elemSpan v.fmt i0).1, (elemSpan v.fmt i0).2.1))) ++
    (if fmtIsMx v.fmt then [(v.scaleOff is 0, cdiv j.n0 32)] else []))

/-! ### Checks before the first write -/

/-- Lowest and highest byte by 4 KiB frame of a list of places in memory (R259). -/
def frameSpans (l : List Place) : NMap (Nat × Nat) :=
  ((l.filter (fun p => !p.sram && p.n ≠ 0)).flatMap (fun p => pieces 4096 p.a p.n)).foldl (fun m q =>
    let f := q.1 / 4096
    let lo := q.1 % 4096
    let hi := lo + q.2 - 1
    match m.find? (fun x => x.1 = f) with
    | some x => nput f (min x.2.1 lo, max x.2.2 hi) m
    | none => nput f (lo, hi) m) []

/-- R259: the source and destination intervals intersect in some frame. -/
def framesMeet (a b : List Place) : Bool :=
  let fb := frameSpans b
  (frameSpans a).any (fun x => fb.any (fun y => x.1 = y.1 && x.2.1 ≤ y.2.2 && y.2.1 ≤ x.2.2))

/-- R260: the COPY transposes in place. -/
def transposesInPlace (d desc : Nat) : Bool :=
  mOp d = opCopy && fld d 999 985 = 0x4681 && mSrcSpace d = 0 && mDstSpace d = 0 && mSrcAddr d = mDstAddr d &&
  (List.range 4).all (fun j => mSrcStride d (j + 1) = mDstStride d (j + 1)) && mHbSrc d = mHbDst d &&
  mSrcFmt d = ctrlFmt (mCtrl d) && !fmtIsMx (mSrcFmt d) && fmtBits (mSrcFmt d) ≤ 32 &&
  mEff d desc 0 = mEff d desc 1 && mEff d desc 0 ≤ 512

/-- Data blocks that places touch. -/
def blocksOf (l : List Place) : List Nat :=
  ((l.filter (fun p => !p.sram && p.n ≠ 0 && inData p.a)).flatMap (fun p => (pieces 4096 p.a p.n).map (fun q => q.1 / 4096))).eraseDups

/-- R276, R433: the first data block whose bytes do not match a SEALED entry. -/
def State.badBlock (s : State) (l : List Place) : Option Nat :=
  (blocksOf l).find? (fun b => sideState (s.sideOf b) ≠ 1 || fld (s.sideOf b) 255 224 ≠ s.blockCrc b)

/-- R556: every granule of the reading cluster's landing regions that places touch has landed. -/
def State.landedAll (s : State) (cl : Nat) (l : List Place) : Bool :=
  l.all (fun p => p.sram || (pieces 256 p.a p.n).all (fun q => match s.scratchOf q.1 with
    | some (k, off) => k ≠ cl || !s.inLanding k off || nget false s.fab.landed (k * 2 ^ 18 + off / 256)
    | none => true))

/-- R252: the ring-space slabs that a source view reads are resident. -/
def slabsResident (c : CoreSt) (d : Nat) (runs : List (Nat × Nat)) : Bool :=
  let r := c.ring (rsRing (mSrcAddr d))
  runs.all (fun q => (pieces (max 1 r.slab) (rsOff (mSrcAddr d) + q.1) q.2).all (fun x =>
    r.resident (rsSlab (mSrcAddr d) + x.1 / max 1 r.slab)))

/-! ### Running a descriptor -/

/-- What comes of an attempt to run a descriptor. -/
inductive MoveRes where
  | wait
  | fail (code : Nat) (s : State)
  /-- Some slabs of its ring destination are made, this many in all, and it goes on later. -/
  | part (sent : Nat) (s : State)
  | done (s : State)

/-- Count a mover counter of a cluster (R291): subindices 3 to 8 saturate. -/
def State.mvCnt (s : State) (cl sub n : Nat) : State := if n = 0 then s else s.cnt16 (kCl cl 0x80 sub) n

/-- A failure of a descriptor, counted (R291). -/
def State.mvFail (s : State) (cl code : Nat) : MoveRes :=
  .fail code (if code = cOverlap then s.mvCnt cl 6 1
    else if code = cTranslation ∨ code = cProtection then s.mvCnt cl 7 1 else s)

/-- The source side of a descriptor. -/
def mSrcPort (s : State) (d : Nat) (mv : Mv) : Port :=
  if mSrcSpace d = 1 then .ring (mSrcAddr d)
  else if mv.phys then match mv.turned with
    | some b => .herring b.1 b.2 (mSrcStride d 1) (mSrcAddr d - b.1)
    | none => .bank (mSrcAddr d) (2 ^ 27) 0
  else match mv.src with
    | some (id, e) => match s.table id with
      | some t => if t.type = 5 then .bank (t.bank e).pa (t.blocks * 4096) (mSrcAddr d) else .virt 0
      | none => .virt 0
    | none => .virt (mSrcAddr d)

/-- The access rights of a descriptor with its epoch tag (R257). The fills of a PRODUCT task read the weights of its glide
record's SLOT and VERSION (R371). -/
def State.accMv (s : State) (t : Task) (mv : Mv) : Acc :=
  let acc := s.accTask t (s.xlatOr t.ctx mv.xlat)
  match (if t.isProduct then t.glide else none) with
  | some r => { acc with slot := glSlot r, version := glVersion r }
  | none => acc

/-- Every place of a list of runs, or the first code by R14. -/
def State.places (s : State) (c : CoreSt) (acc : Acc) (p : Port) (wr : Bool) (runs : List (Nat × Nat)) :
    Except Nat (List Place) :=
  match collect (runs.map (s.resolve c acc p wr)) with
  | .ok l => .ok l.flatten
  | .error e => .error e

/-- Write runs of bytes over virtual memory that has been checked. -/
def State.writeRuns (s : State) (acc : Acc) (base : Nat) (l : List (Nat × List Byte)) : State :=
  l.foldl (fun s r => s.tryWriteVa acc (base + r.1) r.2) s

/-- R277, R431: seal the data blocks that a descriptor has written whole. -/
def State.sealWhole (s : State) (t : Task) (writer : Nat) (l : List Place) : State :=
  ((coverMap ((l.filter (fun p => !p.sram && inData p.a)).map (fun p => (p.a, p.n)))).filter (fun b => 4096 ≤ b.2)).foldl
    (fun s b => s.seal b.1 (s.blockCrc b.1) writer t.ctx (fld t.desc 1023 992) t.step) s

/-- Slabs of a ring-space destination, each with its runs, over the planned view (R252, R127). -/
def ringSlabs (c : CoreSt) (addr planEnd : Nat) (l : List (Nat × List Byte)) : List Delivery :=
  let r := c.ring (rsRing addr)
  let sz := max 1 r.slab
  let cut := l.flatMap (fun q => (pieces sz (rsOff addr + q.1) q.2.length).map (fun x =>
    (x.1 / sz, x.1 % sz, (q.2.drop (x.1 - (rsOff addr + q.1))).take x.2)))
  (List.range ((rsOff addr + planEnd - 1) / sz + 1)).map (fun k =>
    ⟨rsRing addr, (rsSlab addr + k) % 2 ^ 32, (cut.filter (fun x => x.1 = k)).map (fun x => x.2), none, false⟩)

/-- R252: the slabs that a descriptor with SRC_RELEASE has read are released. -/
def CoreSt.releaseRead (c : CoreSt) (d : Nat) (runs : List (Nat × Nat)) : CoreSt :=
  if !mRelease d then c else
    let a := mSrcAddr d
    let sz := max 1 (c.ring (rsRing a)).slab
    let ks := (runs.flatMap (fun q => (pieces sz (rsOff a + q.1) q.2).map (fun x => x.1 / sz))).eraseDups
    ks.foldl (fun c k => c.modRing (rsRing a) (fun r => r.release (rsSlab a + k))) c

/-- The completion tag of a descriptor (TAG_EN). -/
def State.mvTag (s : State) (t : Task) (d : Nat) : State := if mTagEn d then s.tagAdd t.ctx (mTag d) 1 else s

/-- What a descriptor has computed: runs of destination bytes by displacement, events, the source runs read, and how many
slabs of a ring destination are made where its source has not landed whole. -/
structure Moved where
  out : List (Nat × List Byte)
  ev : Ev
  srcRuns : List (Nat × Nat)
  srcPlaces : List Place
  upto : Option Nat

/-! ### Checksums (R276, R428, R433) -/

/-- R433: the event of a block that has failed its check twice: the block and the producing task of its entry. -/
def State.badBlockEvent (s : State) (b : Nat) : State :=
  let e := s.sideOf b
  s.event 0x29 2 (fld e 217 212) (b * 4096) (fld e 211 180)

/-- R276, R433: a block has failed its check, and again when it was read once more: the re-read is counted, and the event logged. -/
def State.noteBadBlock (s : State) (cl b : Nat) : State := (s.mvCnt cl 8 1).badBlockEvent b

/-- R625: in containment mode every reader verifies the blocks that it reads: the first that fails. -/
def State.unverified (s : State) (l : List Place) : Option Nat := if s.containment then s.badBlock l else none

/-- A descriptor that fails by the check of a block. -/
def State.badBlockFail (s : State) (cl b : Nat) : MoveRes := (s.noteBadBlock cl b).mvFail cl cChecksum

/-- The bank of a descriptor's SRC_TABLE and the table's type. -/
def State.srcBank (s : State) (mv : Mv) : Option (Nat × Nat) :=
  match mv.src with
  | some (id, e) => (s.table id).map (fun t => (t.type, (t.bank e).pa))
  | none => none

/-- R428: some byte of a view that can be addressed lies outside the tensor blocks. -/
def State.viewInScratch (s : State) (c : CoreSt) (acc : Acc) (p : Port) (wr : Bool) (runs : List (Nat × Nat)) : Bool :=
  runs.any (fun r => match s.resolve c acc p wr r with
    | .ok l => l.any (fun q => !q.sram && !inData q.a)
    | .error _ => false)

/-- R428: CSUM_CHK on a source view, or CSUM_GEN on a destination view, that lies in part in cluster SRAM. A page fill
has no source view of its own. -/
def State.csumBad (s : State) (c : CoreSt) (t : Task) (d : Nat) (mv : Mv) : Bool :=
  let acc := s.accMv t mv
  (mChk d && (s.srcBank mv).all (fun b => b.1 ≠ 2) &&
    s.viewInScratch c acc (mSrcPort s d mv) false ((mSrcView d).runs (mSrcExt d t.desc true))) ||
  (mGen d ≠ 0 && mDstSpace d = 0 &&
    s.viewInScratch c acc (.virt (mDstAddr d)) true ((mDstView d).runs (mDstExt d t.desc true)))

/-- R627: places that touch no tensor block but whole. -/
def coversData (l : List Place) : Bool :=
  (coverMap ((l.filter (fun q => !q.sram && inData q.a)).map (fun q => (q.a, q.n)))).all (fun b => 4096 ≤ b.2)

/-! ### Slabs of a ring destination (R127, R244, R556) -/

/-- Whether a byte run of a ring-space view has a byte in its slab k. -/
def runInSlab (addr sz k : Nat) (q : Nat × Nat) : Bool :=
  k * sz < rsOff addr + q.1 + q.2 && rsOff addr + q.1 < (k + 1) * sz

/-- Whether a destination element, or the MX block that holds it, has a byte in slab k. -/
def View.elemInSlab (v : View) (addr sz k : Nat) (i : List Nat) : Bool :=
  let b := nth 0 i 0 / 32
  let is := i.drop 1
  (if fmtIsMx v.fmt then [(v.rowOff is + b * blockBytes v.fmt, blockBytes v.fmt), (v.scaleOff is b, 1)] else v.elemRuns i).any
    (runInSlab addr sz k)

/-- The source runs that slab k of a job takes. -/
def Job.slabRuns (j : Job) (sv dv : View) (addr sz k : Nat) : List (Nat × Nat) :=
  j.rows.flatMap (fun is => ((j.elems is).filter (dv.elemInSlab addr sz k)).flatMap (fun i =>
    (j.picks i).flatMap (fun x => x.runs sv)))

/-- Slabs in order, from `n` on and below `top`, while `ok` holds. -/
def slabsWhile (ok : Nat → Bool) (top : Nat) : Nat → Nat → Nat
  | 0, n => n
  | fuel + 1, n => if n < top && ok n then slabsWhile ok top fuel (n + 1) else n

/-- The slab in which the last byte of a destination row lies. -/
def Job.rowSlab (j : Job) (v : View) (addr sz : Nat) (is : List Nat) : Nat :=
  (rsOff addr + runsEnd (({ j with rows := [is] } : Job).outRuns v) - 1) / sz

/-- Slabs that a ring-space view of a descriptor covers. -/
def slabTop (c : CoreSt) (d : Nat) : Nat :=
  (rsOff (mDstAddr d) + runsEnd ((mDstView d).runs (mDstExt d 0 false)) - 1) / max 1 (c.ring (rsRing (mDstAddr d))).slab + 1

/-! ### Read and compute -/

/-- Read and compute a descriptor: wait, fail, or the bytes to write (R253 to R263, R276, R434, R556). A fill whose source
has landed in part makes the slabs whose own bytes have landed, in order. -/
def State.mvCompute (s : State) (cl : Nat) (c : CoreSt) (t : Task) (d : Nat) (mv : Mv) (j : Job) :
    Sum MoveRes Moved :=
  let dv := mDstView d
  let dstRuns := j.outRuns dv
  let acc := s.accMv t mv
  let p := mSrcPort s d mv
  let sv := mSrcView d
  let srcRuns := j.rows.flatMap (fun is => (j.elems is).flatMap (fun i => (j.picks i).flatMap (fun k => k.runs sv)))
  if mSrcSpace d = 1 && !slabsResident c d srcRuns then .inl .wait else
    let src := s.places c acc p false srcRuns
    let dst := if mDstSpace d = 0 then s.places c acc (.virt (mDstAddr d)) true dstRuns else .ok []
    let ext := s.places c acc (.virt 0) false j.reads
    let mask := s.places c acc (.virt 0) true j.masks
    match src, dst, ext, mask with
    | .ok sp, .ok dp, .ok xp, .ok mp =>
      let all := sp ++ xp
      let chk := mChk d
      if (chk && sp.any (fun q => !q.sram && !inData q.a)) || s.csumBad c t d mv then .inl (s.mvFail cl cDescriptor)
      else if s.containment && !(coversData dp && coversData mp) then .inl (s.mvFail cl cDescriptor)
      else if framesMeet (all ++ mp) dp && !transposesInPlace d t.desc then .inl (s.mvFail cl cOverlap)
      else if !s.landedAll cl xp then .inl .wait
      else if all.any (fun q => !q.sram && s.touchesPoison q.a q.n) then .inl (s.mvFail cl cChecksum)
      else
        match (if chk then s.badBlock sp else none).or (s.unverified all) with
        | some b => .inl (s.badBlockFail cl b)
        | none =>
          let addr := mDstAddr d
          let sz := max 1 (c.ring (rsRing addr)).slab
          let whole := s.landedAll cl sp
          let k := if whole || mDstSpace d ≠ 1 then slabTop c d else
            slabsWhile (fun k => match s.places c acc p false (j.slabRuns sv dv addr sz k) with
              | .ok l => s.landedAll cl l
              | .error _ => false) (slabTop c d) (slabTop c d) mv.sent
          if !whole && (mDstSpace d ≠ 1 || k ≤ mv.sent) then .inl .wait
          else
            let rs := j.rows.map (fun is => (is, s.rowOut c t d acc p j is))
            let mine := if mDstSpace d ≠ 1 then rs else rs.filter (fun r =>
              let e := j.rowSlab dv addr sz r.1
              mv.sent ≤ e && e < k)
            .inr ⟨rs.flatMap (fun r => r.2.1), Ev.sum (mine.map (fun r => r.2.2)), srcRuns, sp,
              if mDstSpace d ≠ 1 || slabTop c d ≤ k then none else some k⟩
    | a, b, x, m =>
      let e := fun (y : Except Nat (List Place)) => match y with
        | .error q => [q]
        | .ok _ => []
      .inl (s.mvFail cl (firstCode (e a ++ e b ++ e x ++ e m)))

/-! ### Write -/

/-- R231, R277: the blocks that a MOVE with CSUM_GEN 0b10 covers whole, each with the CRC of its span of a source slab;
none where a slab bears no such values. -/
def CoreSt.slabSums (c : CoreSt) (d desc : Nat) : Option (List (Nat × Nat)) :=
  let a := mDstBase d
  let r := c.ring (rsRing (mSrcAddr d))
  let cut := (carried d desc true).flatMap (fun q => (pieces 4096 (a + q.1) q.2.2).map (fun x =>
    (x.1 / 4096, (rsOff (mSrcAddr d) + q.2.1 + (x.1 - (a + q.1))) / 4096, x.2)))
  let blks := (cut.map (·.1)).eraseDups.filter (fun b => 4096 ≤ ((cut.filter (fun x => x.1 = b)).map (fun x => x.2.2)).sum)
  blks.foldr (fun b acc => match acc, cut.find? (fun x => x.1 = b) with
    | some l, some x =>
      let per := r.slab / 4096
      ((nget [] r.sums ((rsSlab (mSrcAddr d) + x.2.1 / max 1 per) % 2 ^ 32))[x.2.1 % max 1 per]?).map (fun v => (b, v) :: l)
    | _, _ => none) (some [])

/-- Seal blocks of virtual memory with given CRC values. -/
def State.sealWith (s : State) (acc : Acc) (t : Task) (writer : Nat) (l : List (Nat × Nat)) : State :=
  l.foldl (fun s b => match s.trans acc (b.1 * 4096) 4096 true with
    | .ok [(pa, 4096)] => if inData pa then s.seal (pa / 4096) b.2 writer t.ctx (fld t.desc 1023 992) t.step else s
    | _ => s) s

/-- The deliveries of a ring fill, from the slab after those it has made; `top` where it makes no more now. The last slab
of the descriptor carries its tag. -/
def mvDeliveries (c : CoreSt) (d : Nat) (mv : Mv) (planEnd : Nat) (m : Moved) : List Delivery :=
  let l := ringSlabs c (mDstAddr d) planEnd m.out
  let k := m.upto.getD l.length
  let l := modNth l (l.length - 1) (fun x => { x with tag := if mTagEn d && !mv.tagged then some (mTag d) else none })
  ((l.take k).drop mv.sent).filter (fun x => !mv.again || serialGe x.slab (c.ring x.ring).filled)

/-- Write what a descriptor has computed into virtual memory or a ring, and finish it where it has written all. -/
def State.mvWrite (s : State) (cl site : Nat) (t : Task) (d : Nat) (mv : Mv) (planEnd : Nat) (m : Moved) : MoveRes :=
  let acc := s.accMv t mv
  let sums := if mGen d = 2 then (s.core cl site).slabSums d t.desc else some []
  if sums.isNone then s.mvFail cl cDescriptor
  else
    let s := if m.upto.isNone then m.srcPlaces.foldl (fun s p => if p.sram then s else s.countRd p.a p.n) s else s
    let s := if m.upto.isNone then s.modCore cl site (fun c => c.releaseRead d m.srcRuns) else s
    if mDstSpace d = 1 then
      let ds := mvDeliveries (s.core cl site) d mv planEnd m
      let s := s.modCore cl site (fun c => { c with deliveries := c.deliveries ++ ds })
      let n := (ds.map (fun x => (x.data.map (fun r => r.2.length)).sum)).sum
      let s := (s.taskEv cl site m.ev).cnt48 (kCl cl 0x80 1) n
      match m.upto with
      | some k => .part k s
      | none => .done s
    else
      let dp := match s.places (s.core cl site) acc (.virt (mDstAddr d)) true
          (m.out.map (fun r => (r.1, r.2.length))) with
        | .ok l => l
        | .error _ => []
      let n := (m.out.map (fun r => r.2.length)).sum
      let s := s.writeRuns acc (mDstAddr d) m.out
      let s := if mGen d = 2 then s.sealWith acc t 2 (sums.getD []) else if mGen d ≠ 0 || s.containment then s.sealWhole t 1 dp else s
      .done (((s.taskEv cl site m.ev).cnt48 (kCl cl 0x80 1) n).mvTag t d)

/-- Insert a run by its address. -/
def insertRun (r : Nat × List Byte) : List (Nat × List Byte) → List (Nat × List Byte)
  | [] => [r]
  | x :: l => if r.1 ≤ x.1 then r :: x :: l else x :: insertRun r l

/-- Runs in address order, neighbours joined. -/
def joinRuns (l : List (Nat × List Byte)) : List (Nat × List Byte) :=
  ((l.filter (fun r => !r.2.isEmpty)).foldr insertRun []).foldr (fun r acc =>
    match acc with
    | x :: rest => if r.1 + r.2.length = x.1 then (r.1, r.2 ++ x.2) :: rest else r :: x :: rest
    | [] => [r]) []

/-- Runs cut at 4 KiB blocks. -/
def blockRuns (l : List (Nat × List Byte)) : List (Nat × List Byte) :=
  (joinRuns l).flatMap (fun r => (pieces 4096 r.1 r.2.length).map (fun q => (q.1, (r.2.drop (q.1 - r.1)).take q.2)))

/-- The blocks of a remote MOVE, by address in the destination module; one that moves nothing sends one empty WRITE. -/
def writeBlocksOf (d : Nat) (m : Moved) : List (Nat × List Byte) :=
  match blockRuns (m.out.map (fun r => (mDstAddr d % 2 ^ 46 + r.1, r.2))) with
  | [] => [(mDstAddr d % 2 ^ 46, [])]
  | l => l

/-- The fields of one WRITE packet of a remote MOVE: a whole block is sealed where CSUM_GEN or containment mode has it so, with the slab's
value where `sums` has one (R277), else with the CRC of the bytes sent. -/
def State.writePacket (s : State) (d serial npkt : Nat) (sums : List (Nat × Nat)) (p : Nat × List Byte) : Nat :=
  let sealed := (mGen d ≠ 0 || s.containment) && p.2.length = 4096
  let crc := ((sums.find? (fun x => x.1 = p.1 / 4096)).map (·.2)).getD (crc32c p.2)
  wrFields serial npkt p.1 (mTag d) (b2n (mTagEn d)) (b2n sealed) p.2.length (if sealed then crc else 0)

/-- The WRITE packets of a remote MOVE are injected, one for each block. -/
def State.injectWrites (s : State) (t : Task) (d serial npkt : Nat) (sums : List (Nat × Nat)) :
    List (Nat × List Byte) → Except Nat State
  | [] => .ok s
  | p :: ps =>
    match s.inject (mkHdr (raModule (mDstAddr d)) s.ownId tyWrite t.ctx (s.jobId t.ctx) (s.writePacket d serial npkt sums p) p.2.length)
        p.2 with
    | .error e => .error e
    | .ok s => s.injectWrites t d serial npkt sums ps

/-- R553: the WRITE packets of a remote MOVE leave; its task's head descriptor then awaits WRITE_DONE. A descriptor that
writes nothing sends one packet without data. With CSUM_GEN 0b10 a block's packet carries the value of its slab (R277). -/
def State.sendWrites (s : State) (cl site : Nat) (t : Task) (d : Nat) (m : Moved) : MoveRes :=
  let sums := if mGen d = 2 then (s.core cl site).slabSums d t.desc else some []
  let ps := writeBlocksOf d m
  if sums.isNone || (mGen d ≠ 0 && ps.any (fun p => p.2.length ≠ 4096 && p.2.length ≠ 0)) then s.mvFail cl cDescriptor
  else
    let serial := s.newSerial
    match s.injectWrites t d serial ps.length (sums.getD []) ps with
    | .error e => .fail e s
    | .ok s =>
      let e : RemoteMove := { serial := serial, uid := t.uid, cl := cl, leftAt := s.timeNs, commit := none, status := none }
      let s := { s with fab := { s.fab with nextSerial := (serial + 1) % 2 ^ 32, remote := s.fab.remote ++ [e] } }
      .done (s.modTask cl site (fun t => { t with commitMoves := modNth t.commitMoves 0 (fun m => { m with serial := some serial }) }))

/-- The identifier of a broadcast descriptor (R560). -/
def mvBcast (d : Nat) : Option Nat :=
  if mDstSpace d = 2 ∧ raModule (mDstAddr d) = noId then some (fld (mDstAddr d) 45 30) else none

/-- R560: the blocks of a broadcast start as one packet each, and increment no tag: the rules name none (DESIGN CHOICE, log 151); the descriptor finishes when they have left the module, which a later
step of the mover finds (see runCommit). -/
def State.sendBcast (s : State) (cl site : Nat) (t : Task) (d : Nat) (m : Moved) : MoveRes :=
  let a := mDstAddr d
  let ps := blockRuns m.out
  if ps.any (fun p => p.2.length ≠ 4096) || (mGen d = 2 && ((s.core cl site).slabSums d t.desc).isNone) then s.mvFail cl cDescriptor
  else
    match ps.foldl (fun (r : Except Nat State) p =>
      match r with
      | .error e => .error e
      | .ok s => s.bcastStart (if bitAt a 46 then tyManifest else tyBlock) (fld a 45 30) (p.1 / 4096) p.2) (.ok s) with
    | .error e => .fail e s
    | .ok s =>
      if (mvBcast d).any s.bcastWaits then
        .part 1 (s.modTask cl site (fun t => { t with commitMoves := modNth t.commitMoves 0 (fun m => { m with sent := 1 }) }))
      else .done s

/-- What a descriptor with a remote destination has computed leaves the module; what has left counts (R291). -/
def State.mvSend (s : State) (cl site : Nat) (t : Task) (d : Nat) (m : Moved) : MoveRes :=
  let n := (m.out.map (fun r => r.2.length)).sum
  let s := m.srcPlaces.foldl (fun s p => if p.sram then s else s.countRd p.a p.n) s
  let s := s.taskEv cl site m.ev
  let left := fun (s : State) => (s.modCore cl site (fun c => c.releaseRead d m.srcRuns)).cnt48 (kCl cl 0x80 1) n
  match (if raModule (mDstAddr d) = noId then s.sendBcast cl site t d m else s.sendWrites cl site t d m) with
  | .done s => .done (left s)
  | .part k s => .part k (left s)
  | r => r

/-- The rows of the destination of a descriptor (effective extents). -/
def dstRows (d desc : Nat) : List (List Nat) :=
  let e := mDstExt d desc true
  rowIdx (nth 0 e 1) (nth 0 e 2) (nth 0 e 3) (nth 0 e 4)

/-- R274: an effective extent, or IDX_COUNT, is 0: the descriptor completes at once. -/
def mvEmpty (d desc : Nat) : Bool :=
  (List.range 5).any (fun j => mEff d desc j = 0) || (isIndexOp (mOp d) && xIdxCount d = 0)

/-- Run a descriptor's job over its destination view: nothing is read or written where an extent is 0 (R274), though a
ring destination still receives its slabs; else compute and write. -/
def State.mvRun (s : State) (cl site : Nat) (t : Task) (d : Nat) (mv : Mv) (j : Job) : MoveRes :=
  let finish := fun (m : Moved) =>
    if mDstSpace d = 2 then s.mvSend cl site t d m
    else s.mvWrite cl site t d mv (runsEnd ((mDstView d).runs (mDstExt d 0 false))) m
  if mvEmpty d t.desc then finish ⟨[], .none, [], [], none⟩
  else
    match s.mvCompute cl (s.core cl site) t d mv j with
    | .inl r => r
    | .inr m => finish m

end Sys2Proof.Machine
end

