-- ==== Sys2Proof/Machine/Records.lean ====
section
/-! DEFINITION. Queues, leases and completion records (R452 to R455, R461 to R473, R701). -/

namespace Sys2Proof.Machine

/-! ### Queue objects -/

/-- Key of object `sub` of queue q of a cluster (R501). -/
def kQ (cl q sub : Nat) : Nat := kCl cl (0xA0 + q) sub

/-- CONTEXT of a queue; 0xFF: unbound. -/
def State.qCtx (s : State) (cl q : Nat) : Nat := s.obj (kQ cl q 1)
/-- PRIORITY of a queue. -/
def State.qPrio (s : State) (cl q : Nat) : Nat := s.obj (kQ cl q 2)
/-- RING_ADDR of a queue. -/
def State.qRing (s : State) (cl q : Nat) : Nat := s.obj (kQ cl q 3)
/-- Ring entries of a queue, 2^RING_LOG2. -/
def State.qSize (s : State) (cl q : Nat) : Nat := 2 ^ s.obj (kQ cl q 4)
/-- COMPL_ADDR of a queue. -/
def State.qCompl (s : State) (cl q : Nat) : Nat := s.obj (kQ cl q 5)

/-- Key of object `sub` of context c's dispatch objects (R501). -/
def kCtx (c sub : Nat) : Nat := kDev (0x9100 + c) sub
/-- Key of object `sub` of context c's device objects (R290, R406, R704). -/
def kSeed (c sub : Nat) : Nat := kDev (0x2400 + c) sub
/-- Key of object `sub` of context c's commit objects (R632). -/
def kCommit (c sub : Nat) : Nat := kDev (0x9200 + c) sub

/-! ### Relay counters (R461 to R463) -/

/-- R462: TAKE on a pair of words at a physical address: the prior NEXT, and the pair changed. -/
def State.takeAt (s : State) (pa : Nat) : State × Nat :=
  let next := s.word pa 4
  let w1 := s.word (pa + 4) 4
  let limit := w1 % 2 ^ 31
  if next < limit then ((s.putWord pa 4 (next + 1)).putWord (pa + 4) 4 limit, next)
  else (s.putWord (pa + 4) 4 (limit + 2 ^ 31), next)

/-- A TAKE on a queue's relay counter: the position taken, if any. Reaching 0x7FFF_FFFF is logged (R462). -/
def State.takeQ (s : State) (cl q : Nat) : State × Option Nat :=
  let limit := s.qLimit cl q
  let r := (s.cnt48 (kCl cl 0x90 4) 1).takeAt (relayPa cl q)
  if r.2 < limit then
    (if r.2 + 1 = 0x7FFFFFFF then r.1.event 0x31 1 0xFF (cl * 16 + q) 0 else r.1, some r.2)
  else (r.1, none)

/-! ### Mirror (R701) -/

/-- The host's page of a page of a PASID's address space: the translation that the endpoint holds, else one that it asks the host for and
then holds (R701; DESIGN CHOICE, log 159: the host answers at once, with a free value). -/
def State.atsLookup (s : State) (pasid page : Nat) : State × Nat :=
  match s.host.ats.find? (fun x => x.1 = pasid && x.2.1 = page) with
  | some x => (s, x.2.2)
  | none =>
    let p := Config.atsPage s.free pasid page
    ((({ s with host := { s.host with ats := (pasid, page, p) :: s.host.ats } } : State).emit (.atsRequest pasid page)).tick, p)

/-- Bytes leave for host memory, each page's part at its translated address (R701). -/
def State.hostPieces (s : State) (pasid : Nat) : List (Nat × Nat) → List Byte → State
  | [], _ => s
  | p :: ps, bs =>
    let r := s.atsLookup pasid (p.1 / 4096)
    (r.1.emit (.hostWrite pasid (r.2 * 4096 + p.1 % 4096) (bs.take p.2))).hostPieces pasid ps (bs.drop p.2)

/-- A mirror write leaves. -/
def State.hostOut (s : State) (pasid addr : Nat) (bs : List Byte) : State := s.hostPieces pasid (pieces 4096 addr bs.length) bs

/-- A write of the device dispatcher to host memory: it leaves while the PCIe link is up, and waits otherwise (R702). -/
def State.mirrorWrite (s : State) (c addr : Nat) (bs : List Byte) : State :=
  let pasid := s.obj (kSeed c 0x21)
  if s.obj (kDev 0x1050 1) = 2 then s.hostOut pasid addr bs
  else { s with host := { s.host with mirrorWait := s.host.mirrorWait ++ [(c, pasid, addr, bs)] } }

/-- R701: a completion record of a context is mirrored to host memory, or counted as lost. -/
def State.mirror (s : State) (c : Nat) (rec : List Byte) : State :=
  let lg := s.obj (kSeed c 0x23)
  if lg = 0 then s
  else
    let k := s.obj (kSeed c 0x24)
    if serialGe k (s.obj (kSeed c 0x25) + 2 ^ lg) then s.cnt16 (kSeed c 0x26) 1
    else
      let a := s.obj (kSeed c 0x22)
      let s := s.mirrorWrite c (a + k % 2 ^ lg * 32) rec
      let s := s.mirrorWrite c (a + 2 ^ lg * 32) (toLE 4 ((k + 1) % 2 ^ 32))
      s.setObj (kSeed c 0x24) ((k + 1) % 2 ^ 32)

/-! ### Completion records (R473) -/

/-- The fields of a completion record (R473). -/
structure CRec where
  task : Nat
  status : Nat
  ctx : Nat
  cluster : Nat
  site : Nat
  seq : Nat
  ev : Ev
  dups : Nat
  stale : Nat
  time : Nat

/-- A completion record as a number of 32 bytes. Bits [89:74] are used by a reduction's record only (R105). -/
def CRec.word (r : CRec) : Nat :=
  at' r.task 255 224 + at' r.status 223 216 + at' r.ctx 215 210 + at' r.cluster 209 206 + at' r.site 205 203 +
  at' r.seq 201 170 + at' r.ev.inexact 169 154 + at' r.ev.overflow 153 138 + at' r.ev.nanCreated 137 122 +
  at' r.ev.saturated 121 106 + at' r.dups 105 90 + at' r.stale 89 74 + at' r.time 63 0

/-- A record of a position that no core ran (R473). -/
def plainRec (task status ctx time : Nat) : CRec :=
  { task := task, status := status, ctx := ctx, cluster := 0xF, site := 0, seq := 0, ev := .none, dups := 0, stale := 0,
    time := time }

/-- R473: a position ends: its record is written to the completion ring, counted in TASKS_DONE and mirrored, and the
position is no longer open. A completion address that cannot be written receives nothing, and nothing is counted. -/
def State.complete (s : State) (cl q pos : Nat) (r : CRec) : State :=
  let bs := toLE 32 r.word
  let s := match s.writeVa (s.accOf r.ctx) (s.qCompl cl q + pos % s.qSize cl q * 32) bs with
    | .ok s => s.cnt48 (kCtx r.ctx 0xD) 1
    | .error _ => s
  (s.modQueue cl q (fun x => { x with open_ := x.open_.filter (· ≠ pos) })).mirror r.ctx bs

/-! ### Leases (R466 to R472) -/

/-- Entries of a lease table (R455). -/
def leaseMax : Nat := 16384

/-- Whether a lease is that of a position. -/
def Lease.isOf (l : Lease) (q : Nat) (plan : Option Nat) (pos : Nat) : Bool :=
  l.valid && l.queue = q && l.plan = plan && l.pos = pos

/-- The lease of a position in a cluster's table. -/
def State.leaseOf (s : State) (cl q : Nat) (plan : Option Nat) (pos : Nat) : Option Lease :=
  (s.leases cl).find? (fun l => l.isOf q plan pos)

/-- Put a lease in its place: its position's entry, else the first entry not in use, else a new one. -/
def putLease (l : Lease) (t : List Lease) : List Lease :=
  match t.findIdx? (fun x => x.isOf l.queue l.plan l.pos) with
  | some i => t.set i l
  | none => match t.findIdx? (fun x => !x.valid) with
    | some i => t.set i l
    | none => t ++ [l]

/-- Write a lease. -/
def State.setLease (s : State) (cl : Nat) (l : Lease) : State := s.modLeases cl (putLease l)

/-- Change the lease of a position. -/
def State.modLease (s : State) (cl q : Nat) (plan : Option Nat) (pos : Nat) (f : Lease → Lease) : State :=
  s.modLeases cl (fun t => t.map (fun l => if l.isOf q plan pos then f l else l))

/-- An entry leaves use. -/
def State.dropLease (s : State) (cl q : Nat) (plan : Option Nat) (pos : Nat) : State :=
  s.modLease cl q plan pos (fun l => { l with valid := false })

/-- R466, R467: the expiry time of a lease that starts or is renewed now. -/
def State.expiry (s : State) : Nat := (s.timeNs + s.obj (kDev 0x9000 1) * 1000000) % 2 ^ 64

/-- The lease of the task on a core. -/
def State.taskLease (s : State) (cl : Nat) (t : Task) : Option Lease := s.leaseOf cl t.q t.plan t.pos

/-- R470: the task on a core is its position's current holder. -/
def State.holds (s : State) (cl : Nat) (t : Task) : Bool :=
  match s.taskLease cl t with
  | some l => l.seq = t.leaseSeq && l.state = .running
  | none => false

/-- R467: a current holder renews its lease. -/
def State.renew (s : State) (cl : Nat) (t : Task) : State :=
  if s.holds cl t then s.modLease cl t.q t.plan t.pos (fun l => { l with expires := s.expiry }) else s

/-! ### Split Timer groups (R488) -/

/-- The group of a context that an identifier names now, or named last. -/
def State.group (s : State) (c g : Nat) : Option SplitGroup := s.disp.groups.find? (fun x => x.ctx = c && x.id = g)

/-- A group that is open in R460's sense: not closed. -/
def SplitGroup.live (g : SplitGroup) : Bool := g.state ≠ .closed

/-- Change a group that has not closed. -/
def State.modGroup (s : State) (c g : Nat) (f : SplitGroup → SplitGroup) : State :=
  { s with disp := { s.disp with
      groups := s.disp.groups.map (fun x => if x.ctx = c ∧ x.id = g ∧ x.live then f x else x) } }

/-! ### Descriptor fields (R457) -/

/-- TASK_ID. -/
def dTask (d : Nat) : Nat := fld d 1023 992
/-- CONTEXT. -/
def dCtx (d : Nat) : Nat := fld d 991 986
/-- KIND. -/
def dKind (d : Nat) : Nat := fld d 985 984
/-- SEED_SEL. -/
def dSeed (d : Nat) : Nat := fld d 983 981
/-- SLOT. -/
def dSlot (d : Nat) : Nat := fld d 979 977
/-- GROUP. -/
def dGroup (d : Nat) : Nat := fld d 976 965
/-- ROLE. -/
def dRole (d : Nat) : Nat := fld d 964 963
/-- CLOSE. -/
def dClose (d : Nat) : Bool := bitAt d 962
/-- GSTEP. -/
def dGstep (d : Nat) : Nat := fld d 961 950
/-- WORK. -/
def dWork (d : Nat) : Nat := fld d 949 926
/-- VERSION. -/
def dVersion (d : Nat) : Nat := fld d 895 864
/-- CMD_ADDR. -/
def dCmd (d : Nat) : Nat := fld d 751 704
/-- GLIDE_ADDR. -/
def dGlide (d : Nat) : Nat := fld d 655 608
/-- TAG_ADDR. -/
def dTag (d : Nat) : Nat := fld d 607 560

/-- The group that a task was taken for: closed ones are kept while a lease names them (R496). -/
def State.groupOf (s : State) (t : Task) : Option SplitGroup :=
  s.disp.groups.find? (fun x => x.ctx = t.ctx && x.id = dGroup t.desc && x.since = t.group)

/-- The descriptor with SLOT and VERSION replaced (R493). -/
def dBind (d slot version : Nat) : Nat :=
  d - at' (dSlot d) 979 977 - at' (dVersion d) 895 864 + at' slot 979 977 + at' version 895 864

/-- RSVD fields of a descriptor: in REDUCE and GROUP positions every field but TASK_ID, CONTEXT, KIND and the embedded
record (R458, R460). -/
def dRsvdOk (d : Nat) : Bool :=
  if dKind d < 2 then fld d 925 896 = 0 && fld d 559 272 = 0
  else if dKind d = 2 then fld d 983 320 = 0
  else fld d 983 512 = 0

end Sys2Proof.Machine
end

