-- ==== Sys2Proof/Machine/Take.lean ====
section
/-! DEFINITION. The head of a queue: reading the next descriptor, the cases in which its position completes without a
core or cannot start, and the capture at issue (R402, R458 to R465, R493, R495, R508). -/

namespace Sys2Proof.Machine

/-- What becomes of the position at the head of a queue. -/
inductive Admit where
  /-- It cannot start yet (R465). -/
  | wait
  /-- It completes with a code and reaches no core. -/
  | fail (code : Nat)
  /-- It starts, with this descriptor. -/
  | go (desc : Nat)
  deriving DecidableEq, Repr

/-- R460: the cases that complete a position with DESCRIPTOR, apart from the group's state. -/
def State.headBad (s : State) (c d : Nat) : Bool :=
  dCtx d ≠ c || (dKind d = 3 && s.obj (kCtx c 6) = 2) ||
  (dKind d < 2 && (dRole d = 3 || (dRole d ≠ 0 && dGroup d = 0xFFF) || (fld d 799 752 = 0 && fld d 863 800 ≠ 0))) ||
  !dRsvdOk d

/-- R614: a mode that drains refuses new tasks and registrations. -/
def State.modesDrain (s : State) : Bool := s.obj (kDev 0x2001 2) = 1 || s.obj (kDev 0x2002 2) = 1

/-- R508: the code of a descriptor's version check. -/
def State.boundCodes (s : State) (d : Nat) : List Nat :=
  if dVersion d ≠ 0 ∧ (s.readableIn (dSlot d) (dVersion d)).isNone then [cVersion] else []

/-- What the role of a task in its group makes of it: the descriptor it runs with, the codes it completes with, and
whether it cannot start yet. -/
structure Role where
  desc : Nat
  codes : List Nat
  wait : Bool

/-- R460, R493, R495: the role of a task in its group. -/
def State.roleGo (s : State) (c d : Nat) : Role :=
  if dRole d = 0 then ⟨d, [], false⟩
  else match s.group c (dGroup d) with
    | none => ⟨d, [cDescriptor], false⟩
    | some g =>
      match g.state with
      | .closed => ⟨d, [if dRole d = 2 ∧ !g.switched then cAborted else cDescriptor], false⟩
      | .open_ => ⟨d, [], dRole d = 2⟩
      | .switched =>
        if dRole d = 2 then ⟨dBind d g.fbSlot g.fbVersion, [], false⟩
        else ⟨d, if g.fromStep ≤ dGstep d then [cAborted] else [], false⟩

/-- The codes with which a position completes whether it could start or not (R460, R614). -/
def State.headCodes (s : State) (c d : Nat) : List Nat :=
  (if s.headBad c d then [cDescriptor] else []) ++
  (if (dKind d ≤ 2 && s.modesDrain) || (dKind d < 2 && dGlide d ≠ 0 && s.obj (kDev 0x2010 2) ≠ 0) then [cDisabled] else [])

/-- What becomes of a descriptor at the head of a queue of context c: the first of its codes by R14, those that `more`
finds in what it names included; else it waits or starts. -/
def State.admission (s : State) (c d : Nat) (more : Nat → List Nat) : Admit :=
  let r := if dKind d < 2 then s.roleGo c d else ⟨d, [], false⟩
  let early := s.headCodes c d
  if r.wait && early.isEmpty then .wait
  else match early ++ more r.desc ++ r.codes ++ (if dKind d < 2 then s.boundCodes r.desc else []) with
    | [] => .go r.desc
    | l => .fail (firstCode l)

/-- Whether a context's positions are served (R464, R479, R617): RUNNING, with no commit whose record
has yet to leave. -/
def State.ctxServed (s : State) (c : Nat) : Bool :=
  c < 64 && !s.modes.lost && s.ctxState c = 1 && (s.obj (kCommit c 5) ≠ 1 || (s.ctx c).commitStage = 2)

/-- Whether a queue's new positions can be taken: its context is served, the module runs, and a position is submitted. -/
def State.qReady (s : State) (cl q : Nat) : Bool :=
  s.moduleState = 3 && s.clState cl = 0 && s.ctxServed (s.qCtx cl q) && s.qNext cl q < s.qLimit cl q

/-- The descriptor at the head of a queue (R452), or the code of its read. -/
def State.headDesc (s : State) (cl q : Nat) : Except Nat Nat :=
  s.readVaNat (s.accOf (s.qCtx cl q)) (s.qRing cl q + s.qNext cl q % s.qSize cl q * 128) 128

/-- Take the head of a queue: the position is open until its record is written (R453, R462). -/
def State.takeHead (s : State) (cl q : Nat) : State × Nat :=
  let pos := s.qNext cl q
  let r := s.takeQ cl q
  (r.1.modQueue cl q (fun x => { x with open_ := x.open_ ++ [pos] }), pos)

/-- A position that completes without a core (R458, R460). -/
def State.finishHead (s : State) (cl q pos code d : Nat) : State :=
  s.complete cl q pos (plainRec (dTask d) code (s.qCtx cl q) s.timeNs)

/-- A position whose descriptor cannot be read completes with the code of the read; its TASK_ID is a free value. -/
def State.unreadHead (s : State) (cl q code : Nat) : State :=
  let r := s.takeHead cl q
  (r.1.finishHead cl q r.2 code ((Config.freeNat s.free % 2 ^ 32) <<< 992)).tick

/-- R492: the largest primary GSTEP taken. -/
def State.noteStep (s : State) (c d : Nat) : State :=
  if dRole d = 1 then
    s.modGroup c (dGroup d) (fun g => { g with maxStep := some (match g.maxStep with
      | some m => max m (dGstep d)
      | none => dGstep d) })
  else s

/-- R402: the key captured by a descriptor's SEED_SEL. -/
def State.seedKey (s : State) (c slot : Nat) : Option (BitVec 256) := nth none (s.ctx c).keys slot

/-- R402: the step counter captured. -/
def State.stepNow (s : State) (c : Nat) : Nat := s.obj (kSeed c 4)

/-- The reference that a position takes on a weight version (R508). -/
def dBound (d : Nat) : Option (Nat × Nat) := if dVersion d = 0 then none else some (dSlot d, dVersion d)

end Sys2Proof.Machine
end

