-- ==== Sys2Proof/Machine/Adders.lean ====
section
/-! DEFINITION. Memory-side adders (R89 to R106, R109, R432, R447, R448, R558): registration, contributions and markers,
root writes, closing and cancelling. -/

namespace Sys2Proof.Machine

/-! ### The reduction descriptor (R91) -/

/-- RED_ID of a descriptor. -/
def rdId (d : Nat) : Nat := fld d 319 304
/-- GEN. -/
def rdGen (d : Nat) : Nat := fld d 303 296
/-- CONTEXT. -/
def rdCtx (d : Nat) : Nat := fld d 295 290
/-- AXIS. -/
def rdAxis (d : Nat) : Nat := fld d 289 288
/-- KIND. -/
def rdKind (d : Nat) : Nat := fld d 287 284
/-- SEED_SLOT. -/
def rdSeed (d : Nat) : Nat := fld d 283 281
/-- LEAVES. -/
def rdLeaves (d : Nat) : Nat := fld d 279 260
/-- TENSOR_ID. -/
def rdTensor (d : Nat) : Nat := fld d 259 236
/-- OUT_BLOCKS. -/
def rdBlocks (d : Nat) : Nat := fld d 231 216
/-- ELEM_COUNT. -/
def rdElems (d : Nat) : Nat := fld d 215 200
/-- OUT_CTRL. -/
def rdCtrl (d : Nat) : Nat := fld d 199 192
/-- ADD_DEST. -/
def rdAdd (d : Nat) : Bool := bitAt d 191
/-- MERGE_DV. -/
def rdDv (d : Nat) : Nat := fld d 190 180
/-- COMPL_TAG_EN. -/
def rdTagEn (d : Nat) : Bool := bitAt d 179
/-- COMPL_TAG. -/
def rdTag (d : Nat) : Nat := fld d 178 163
/-- DEST_ADDR. -/
def rdDest (d : Nat) : Nat := fld d 127 64
/-- SPILL_ADDR. -/
def rdSpill (d : Nat) : Nat := fld d 63 0

/-- Bytes of a record in transit and pending (R77). -/
def rdRecBytes (d : Nat) : Nat := 4 * recWords (rdKind d) (rdDv d)
/-- Bytes of a record as the root write stores it. R91's record bytes, by which the blocks of DEST_ADDR lie apart, are these where OUT_CTRL's
format is narrower than the kind's record (DESIGN CHOICE, log 132). -/
def rdOutBytes (d : Nat) : Nat := if rdKind d = 0 ∨ rdKind d = 2 then fmtBits (ctrlFmt (rdCtrl d)) / 8 else rdRecBytes d
/-- Bytes of an output block. -/
def rdBlockBytes (d : Nat) : Nat := rdElems d * rdOutBytes d
/-- Bytes of a block's occupancy bitmap (R104). -/
def rdBitmap (d : Nat) : Nat := cdiv (2 * rdLeaves d - 1) 512 * 64
/-- Bytes of a pending slot in the spill region. -/
def rdSlotBytes (d : Nat) : Nat := rdElems d * rdRecBytes d
/-- Bytes of the spill region (R104). -/
def rdSpillBytes (d : Nat) : Nat := 4096 + rdBlocks d * (rdBitmap d + cdiv (rdLeaves d) 2 * rdSlotBytes d)
/-- Granules that a pending value takes (R447). -/
def rdGranules (d : Nat) : Nat := cdiv (rdSlotBytes d) 4096
/-- Pending granules of an adder (R447). -/
def adderGranules : Nat := 2048

/-- R92, R17: the cases of a descriptor that completes its registration with DESCRIPTOR. -/
def State.redBad (s : State) (c d : Nat) : Bool :=
  rdCtx d ≠ c || bitAt d 280 || fld d 235 232 ≠ 0 || fld d 162 128 ≠ 0 || rdBlocks d = 0 || rdElems d = 0 || 1 < rdAxis d ||
  (rdAxis d = 1 && (rdLeaves d = 0 || 131072 < rdLeaves d)) || !kindDefined (rdKind d) ||
  ((rdKind d = 1 || rdKind d = 3 || rdKind d = 4) && rdCtrl d ≠ 0) ||
  ((rdKind d = 3 || rdKind d = 4) && rdAdd d) ||
  (if rdKind d = 4 then rdDv d = 0 || 1024 < rdDv d else rdDv d ≠ 0) ||
  !ctrlOk (rdCtrl d) || fmtIsMx (ctrlFmt (rdCtrl d)) ||
  s.reds.any (fun r => r.ctx = c && r.id = rdId d && r.status = .open_) ||
  (ctrlIsSr (rdCtrl d) && (s.seedKey c (rdSeed d)).isNone) ||
  (rdTagEn d && 12287 < rdTag d && (s.homeOf (rdDest d)).isNone) || s.destBad (rdDest d)

/-- The access of a reduction's adders: the bank that it holds and the rights it opened with (R92). -/
def Reduction.acc (r : Reduction) : Acc :=
  { ctx := r.ctx, rights := r.rights, slot := 8, version := 0, opened := true,
    tag := (match r.xlat with
      | some x => .ok x
      | none => .error cTranslation) }

/-- R92: the codes of a registration's translation and checks; in containment mode an output block that covers a part of a data block
is refused (R627). -/
def State.redAccess (s : State) (acc : Acc) (d : Nat) : List Nat :=
  let dest := s.homeVa (rdDest d)
  let n := rdBlocks d * rdBlockBytes d
  let e := fun (x : Except Nat (List (Nat × Nat))) => match x with
    | .error c => [c]
    | .ok _ => []
  let part := fun (p : Nat × Nat) => inData p.1 && (p.1 % 4096 ≠ 0 || p.2 ≠ 4096)
  e (s.trans acc dest n true) ++
  (if s.containment && (List.range (rdBlocks d)).any (fun k =>
      ((s.trans acc (dest + k * rdBlockBytes d) (rdBlockBytes d) true).toOption.getD []).any part) then [cDescriptor] else []) ++
  (if rdAdd d then e (s.trans acc dest n false) else []) ++
  e (s.trans acc (rdSpill d) (rdSpillBytes d) true) ++ e (s.trans acc (rdSpill d) (rdSpillBytes d) false)

/-- R94: the adder of a physical address. -/
def adderOf (pa : Nat) : Nat :=
  if pa < hbmTop then fold16 (pa / 4096)
  else if pa < scratchBase then fold16 ((pa - tierBase) / 4096)
  else fold16 ((pa - scratchBase) / 4096)

/-- OPEN of every adder (R105): the reductions open there. -/
def State.countOpen (s : State) : State :=
  (List.range 16).foldl (fun s i => s.setObj (kDev (0x7400 + i) 6)
    ((s.reds.filter (fun r => r.status = .open_ && r.blocks.any (fun b => b.adder = i))).length)) s

/-- Change the record of a reduction. -/
def State.modRed (s : State) (c id : Nat) (f : Reduction → Reduction) : State :=
  { s with reds := s.reds.map (fun r => if r.ctx = c ∧ r.id = id then f r else r) }

/-- The record of a RED_ID of a context (R94). -/
def State.redOf (s : State) (c id : Nat) : Option Reduction := s.reds.find? (fun r => r.ctx = c && r.id = id)

/-! ### Root writes and closing (R99 to R102, R105, R432) -/

/-- Seal the data blocks that byte ranges cover whole. -/
def State.sealPieces (s : State) (writer ctx task step : Nat) (l : List (Nat × Nat)) : State :=
  ((coverMap (l.filter (fun p => inData p.1))).filter (fun b => 4096 ≤ b.2)).foldl
    (fun s b => s.seal b.1 (s.blockCrc b.1) writer ctx task step) s

/-- The number of a reduction in records and sidecar entries: GEN and RED_ID (R105, R432). -/
def Reduction.task (r : Reduction) : Nat := r.gen * 65536 + r.id

/-- The value of a root record of a kind that OUT_CTRL rounds. -/
def rootValue (kind : Nat) (rec : List Nat) : FVal :=
  if kind = 2 then pairValue (f32v (nth 0 rec 0)) (f32v (nth 0 rec 1)) else f32v (nth 0 rec 0)

/-- R24: a STAT or MERGE record as it is written to a destination: a NaN of any encoding is the canonical one. The count of a
STAT record is no binary32. -/
def canonRec (kind : Nat) (rec : List Nat) : List Nat :=
  if kind = 3 then rec.take 1 ++ (rec.drop 1).map canonF32 else rec.map canonF32

/-- One record of a root write: its bytes and events (R99, R100). `prior` is the destination's record under ADD_DEST. A SUM_I32 sum that
leaves 32 bits wraps and counts no event: R99 adds exactly and names no result there (DESIGN CHOICE, log 133). -/
def rootRec (r : Reduction) (i : Nat) (rec : List Nat) (prior : Option Nat) : List Byte × Ev :=
  let d := r.desc
  let n := rdOutBytes d
  if rdKind d = 1 then (toLE 4 ((nth 0 rec 0 + prior.getD 0) % 2 ^ 32), .none)
  else if rdKind d = 0 ∨ rdKind d = 2 then
    let fmt := ctrlFmt (rdCtrl d)
    let v := rootValue (rdKind d) rec
    let rand := if ctrlIsSr (rdCtrl d) then
        (match r.key with
          | some k => srBits k r.step (rdTensor d) i
          | none => 0)
      else 0
    match prior with
    | none =>
      let x := ctrlRound (rdCtrl d) rand v
      (toLE n x.1, x.2)
    | some p =>
      let pv := elemValue fmt p 127
      let y := pv.add v
      let x := ctrlRound (rdCtrl d) rand y
      let nan : Ev := if y.isNan && !pv.isNan && !v.isNan then .nan else .none
      (toLE n x.1, x.2.plus nan)
  else ((canonRec (rdKind d) rec).flatMap (toLE 4), .none)

/-- R105: the reduction closes: record, tag, and the bank's reference. -/
def State.closeRed (s : State) (r : Reduction) : State :=
  let st := if r.unwritten then cChecksum else if r.dups ≠ 0 then cDuplicate else cOk
  let rec_ : CRec :=
    { task := r.task, status := st, ctx := r.ctx, cluster := 0xF, site := 0, seq := 0, ev := r.ev, dups := r.dups,
      stale := r.stale, time := s.timeNs }
  let s := s.tryWriteVa r.acc (rdSpill r.desc) (toLE 32 rec_.word)
  let s := s.modRed r.ctx r.id (fun r => { r with status := .closed })
  let s := if rdTagEn r.desc then s.tagAdd r.ctx (rdTag r.desc) 1 else s
  (s.unrefTable r.xlat).countOpen

/-- An output block is handled; the last one closes the reduction (R105). -/
def State.handleBlock (s : State) (c id k : Nat) : State :=
  let s := s.modRed c id (fun r => { r with blocks := modNth r.blocks k (fun b => { b with handled := true, slots := [] }) })
  match s.redOf c id with
  | some r => if r.blocks.all (·.handled) then s.closeRed r else s
  | none => s

/-- The bytes of output block k become undefined (R99, R106). -/
def State.looseBlock (s : State) (r : Reduction) (k : Nat) : State :=
  match s.trans r.acc (s.homeVa (rdDest r.desc) + k * rdBlockBytes r.desc) (rdBlockBytes r.desc) true with
  | .ok ps => ps.foldl (fun (s : State) (p : Nat × Nat) => s.putFree p.1 p.2) s
  | .error _ => s

/-- A block whose root is not written holds undefined contents (R99). -/
def State.unwriteBlock (s : State) (r : Reduction) (k : Nat) : State :=
  ((s.looseBlock r k).modRed r.ctx r.id (fun r => { r with unwritten := true })).handleBlock r.ctx r.id k

/-- R99: the root of output block k resolves to records, or to no value. In containment mode the prior values are verified (R625). -/
def State.rootWrite (s : State) (r : Reduction) (k : Nat) (v : Option (List (List Nat))) : State :=
  let d := r.desc
  let va := s.homeVa (rdDest d) + k * rdBlockBytes d
  let acc := r.acc
  match v with
  | none =>
    if rdAdd d then s.handleBlock r.ctx r.id k
    else
      let z := List.replicate (rdBlockBytes d) (0 : Byte)
      let ps := (s.trans acc va (rdBlockBytes d) true).toOption.getD []
      ((s.tryWriteVa acc va z).sealPieces 6 r.ctx r.task r.step ps).handleBlock r.ctx r.id k
  | some recs =>
    let n := rdOutBytes d
    match (if rdAdd d then s.readVa acc va (rdBlockBytes d) else .ok []) with
    | .error _ => s.unwriteBlock r k
    | .ok old =>
      let outs := (List.range (rdElems d)).map (fun i =>
        rootRec r (k * rdElems d + i) (nth [] recs i)
          (if rdAdd d then some (leNat ((old.drop (i * n)).take n)) else none))
      let ps := (s.trans acc va (rdBlockBytes d) true).toOption.getD []
      match (if rdAdd d then s.unverified (ps.map (fun p => ⟨false, p.1, p.2⟩)) else none) with
      | some b => (s.badBlockEvent b).unwriteBlock r k
      | none =>
      let s := (s.tryWriteVa acc va (outs.flatMap (·.1))).sealPieces 6 r.ctx r.task r.step ps
      let s := s.modRed r.ctx r.id (fun r => { r with ev := r.ev.count (Ev.sum (outs.map (·.2))) })
      s.handleBlock r.ctx r.id k

/-! ### Occupancy bitmaps (R103, R104) -/

/-- Virtual address of output block k's part of the spill region: its bitmap, then its slots. -/
def Reduction.partVa (r : Reduction) (k : Nat) : Nat :=
  rdSpill r.desc + 4096 + k * (rdBitmap r.desc + cdiv (rdLeaves r.desc) 2 * rdSlotBytes r.desc)

/-- Virtual address of a slot of the spill region. -/
def Reduction.slotVa (r : Reduction) (k i : Nat) : Nat := r.partVa k + rdBitmap r.desc + i * rdSlotBytes r.desc

/-- The occupancy bits of an output block read 0: no node of it has been accepted. -/
def State.clearBitmap (s : State) (r : Reduction) (k : Nat) : State :=
  s.tryWriteVa r.acc (r.partVa k) (List.replicate (rdBitmap r.desc) 0)

/-- The occupancy bit of a node is set in the spill region. -/
def State.setOccBit (s : State) (r : Reduction) (k : Nat) (n : Nat × Nat) : State :=
  let b := Config.occBit (rdLeaves r.desc) n.1 n.2 % (2 * rdLeaves r.desc - 1)
  match s.readVa r.acc (r.partVa k + b / 8) 1 with
  | .ok l => s.tryWriteVa r.acc (r.partVa k + b / 8) [nth 0 l 0 ||| BitVec.ofNat 8 (2 ^ (b % 8))]
  | .error _ => s

/-! ### Registration (R91, R92, R94, R101, R102, R558) -/

/-- The codes with which a registration of context c completes (R92). A forwarding registration translates nothing. -/
def State.registerCodes (s : State) (c d : Nat) : List Nat :=
  (if s.redBad c d then [cDescriptor] else []) ++
  (if (s.homeOf (rdDest d)).isSome then []
   else match s.xlatTag c with
     | .error e => [e]
     | .ok _ => s.redAccess (s.accOf c) d)

/-- A reduction opens on this module under a bank of its context's table: its blocks have their adders, its bitmaps are
clear, and one without leaves resolves absent at once. -/
def State.openRed (s : State) (c d : Nat) (old : List Reduction) (r : Reduction) : State :=
  let acc := s.accOf c
  let blocks := (List.range (rdBlocks d)).map (fun k =>
    let pa := match s.transAddr acc (s.homeVa (rdDest d) + k * rdBlockBytes d) true with
      | .ok p => p
      | .error _ => 0
    (⟨adderOf pa, [], [], [], false⟩ : OutBlock))
  let r := { r with status := .open_, blocks := blocks, home := s.ownId }
  let s := (({ s with reds := old ++ [r] } : State).refTable r.xlat).countOpen
  let s := (List.range (rdBlocks d)).foldl (fun s k => s.clearBitmap r k) s
  if rdLeaves d = 0 then
    (List.range (rdBlocks d)).foldl (fun s k => match s.redOf c r.id with
      | some r => s.rootWrite r k none
      | none => s) s
  else s

/-- A registration of context c: its code and the state. A forwarding registration holds nothing here. -/
def State.register (s : State) (c d : Nat) : State × Nat :=
  match s.registerCodes c d with
  | e :: es => (s, firstCode (e :: es))
  | [] =>
    let old := s.reds.filter (fun r => !(r.ctx = c && r.id = rdId d))
    let xl := match s.xlatTag c with
      | .ok x => some x
      | .error _ => none
    let base : Reduction :=
      { ctx := c, id := rdId d, gen := rdGen d, desc := d, status := .forwarding, step := s.stepNow c,
        key := s.seedKey c (rdSeed d), rights := s.obj (kSeed c 2), xlat := none, blocks := [], dups := 0, stale := 0,
        ev := .none, unwritten := false, home := 0 }
    match s.homeOf (rdDest d) with
    | some m => ({ s with reds := old ++ [{ base with home := m }] }, cOk)
    | none => (s.openRed c d old { base with xlat := xl }, cOk)

/-- Open reductions of the device (R448). -/
def State.openReds (s : State) : Nat := (s.reds.filter (fun r => r.status = .open_)).length

/-- R448, R465, R558: a registration that cannot start: 1,024 reductions are open, and it is no forwarding one. -/
def State.redWaits (s : State) (d : Nat) : Bool := 1024 ≤ s.openReds && (s.homeOf (rdDest d)).isNone

/-- REDUCE_POSITION: the dispatcher takes a REDUCE position and registers its reduction; it waits while 1,024 are open. -/
def State.reducePosition (s : State) (cl q : Nat) : State :=
  if !s.qReady cl q || !(s.queue cl q).reissue.isEmpty || !(s.queue cl q).saved.isEmpty then s
  else match s.headDesc cl q with
    | .error _ => s
    | .ok d =>
      let c := s.qCtx cl q
      if dKind d ≠ 2 || (!s.headBad c d && s.redWaits (d % 2 ^ 320)) then s
      else
        let r := s.takeHead cl q
        match s.admission c d (fun d => s.registerCodes c (d % 2 ^ 320)) with
        | .wait => s
        | .fail e => r.1.finishHead cl q r.2 e d
        | .go d =>
          let z := r.1.register c (d % 2 ^ 320)
          z.1.finishHead cl q r.2 z.2 d

/-- REDUCE_POSITION (R458). -/
def execReducePosition (cl : Fin 12) (q : Fin 16) (s : State) : Host.Outcome State Fault Refusal :=
  .next (s.reducePosition cl.val q.val)

/-- R106: an open reduction of a context is cancelled. Blocks whose roots were not written hold undefined contents. A
forwarding registration is dropped (R558). -/
def State.cancelRed (s : State) (c id : Nat) : State :=
  match s.redOf c id with
  | none => s
  | some r =>
    match r.status with
    | .forwarding => s.modRed c id (fun r => { r with status := .cancelled })
    | .open_ =>
      let s := (List.range r.blocks.length).foldl (fun s k =>
        if (r.blocks.getD k ⟨0, [], [], [], false⟩).handled then s else
          s.looseBlock r k) s
      let s := (List.range r.blocks.length).foldl (fun s k => s.clearBitmap r k) s
      let s := s.modRed c id (fun r => { r with
        status := .cancelled, blocks := r.blocks.map (fun b => { b with occ := [], doneRanges := [], slots := [] }) })
      (s.unrefTable r.xlat).countOpen
    | _ => s

/-- REDUCTION_CANCEL (R106). -/
def execReductionCancel (ctx : Fin 64) (redId : BitVec 16) (s : State) : Host.Outcome State Fault Refusal :=
  .next (s.cancelRed ctx.val redId.toNat)

/-! ### Pairing in one output block (R95, R97, R98) -/

/-- Whether ranges together cover [a, b). -/
def covered (rs : List (Nat × Nat)) : Nat → Nat → Nat → Bool
  | 0, a, b => b ≤ a
  | n + 1, a, b =>
    if b ≤ a then true
    else match rs.find? (fun r => r.1 ≤ a && a < r.2) with
      | some r => covered rs n r.2 b
      | none => false

/-- Whether every leaf of [a, b) is marked done. -/
def OutBlock.resolved (k : OutBlock) (a b : Nat) : Bool := covered k.doneRanges (k.doneRanges.length + 1) a b

/-- The parent of a node of the tree and its sibling, walking down from [lo, hi) (R73). -/
def parentIn : Nat → Nat → Nat → Nat → Nat → Option ((Nat × Nat) × (Nat × Nat))
  | 0, _, _, _, _ => none
  | n + 1, lo, hi, a, b =>
    if hi ≤ lo + 1 then none
    else
      let m := lo + leftSize (hi - lo)
      if a = lo ∧ b = m then some ((lo, hi), (m, hi))
      else if a = m ∧ b = hi then some ((lo, hi), (lo, m))
      else if b ≤ m then parentIn n lo m a b
      else parentIn n m hi a b

/-- What happens in a block while nodes arrive. -/
structure Pairing where
  blk : OutBlock
  ev : Ev
  pairs : Nat
  passes : Nat
  /-- Values placed in the spill region: slot and records. -/
  spills : List (Nat × List (List Nat))
  root : Option (List (List Nat))
  /-- A pending value stood in a POISONED block (R99). -/
  lost : Bool

/-- What pairing in a block depends on beside it: leaves, function mode, kind, free granules of its adder, granules of a
value, and which spill slots cannot be read. -/
structure PairEnv where
  leaves : Nat
  tm1 : Bool
  kind : Nat
  free : Nat
  need : Nat
  bad : Nat → Bool

/-- R98: the node [a, b) has every leaf done and nothing of it has arrived. -/
def OutBlock.gone (k : OutBlock) (a b : Nat) : Bool := k.resolved a b && !k.occ.any (fun o => a ≤ o.1 && o.2 ≤ b)

/-- Granules that a block's slots hold on chip. -/
def OutBlock.granules (k : OutBlock) (need : Nat) : Nat := (k.slots.filter (fun x => x.spilled.isNone)).length * need

/-- R95, R98: a node arrives with its value. -/
def arrive (e : PairEnv) (had : Nat) : Nat → Pairing → Nat → Nat → List (List Nat) → Pairing
  | 0, p, _, _, _ => p
  | n + 1, p, a, b, v =>
    let p := { p with blk := { p.blk with occ := (a, b) :: p.blk.occ } }
    if a = 0 ∧ b = e.leaves then { p with root := some v }
    else match parentIn 64 0 e.leaves a b with
      | none => p
      | some (par, sib) =>
        match p.blk.slots.find? (fun x => x.a = sib.1 && x.b = sib.2) with
        | some x =>
          let blk := { p.blk with slots := p.blk.slots.filter (fun y => !(y.a = x.a && y.b = x.b)) }
          if x.spilled.any e.bad then { p with blk := blk, lost := true }
          else
            let c := if x.a < a then combineRows e.tm1 e.kind x.recs v else combineRows e.tm1 e.kind v x.recs
            arrive e had n { p with blk := blk, ev := p.ev.plus c.2, pairs := p.pairs + 1 } par.1 par.2 c.1
        | none =>
          if p.blk.gone sib.1 sib.2 then arrive e had n { p with passes := p.passes + 1 } par.1 par.2 v
          else if p.blk.granules e.need + e.need ≤ e.free + had then
            { p with blk := { p.blk with slots := p.blk.slots ++ [⟨a, b, v, none⟩] } }
          else
            let i := ((List.range (p.blk.slots.length + 1)).find? (fun i =>
              !p.blk.slots.any (fun x => x.spilled = some i))).getD 0
            { p with blk := { p.blk with slots := p.blk.slots ++ [⟨a, b, v, some i⟩] }, spills := p.spills ++ [(i, v)] }

/-- R98: pending values whose sibling has resolved absent are promoted, from the bottom up. -/
def promote (e : PairEnv) (had : Nat) : Nat → Pairing → Pairing
  | 0, p => p
  | n + 1, p =>
    match p.blk.slots.find? (fun x => match parentIn 64 0 e.leaves x.a x.b with
        | some (_, sib) => p.blk.gone sib.1 sib.2
        | none => false) with
    | none => p
    | some x =>
      let p := { p with blk := { p.blk with slots := p.blk.slots.filter (fun y => !(y.a = x.a && y.b = x.b)) } }
      if x.spilled.any e.bad then { p with lost := true }
      else match parentIn 64 0 e.leaves x.a x.b with
        | some (par, _) => promote e had n (arrive e had 64 { p with passes := p.passes + 1 } par.1 par.2 x.recs)
        | none => p

/-- Granules free at an adder: pending values and assemblies (R447, R559) hold the others. -/
def State.freeGranules (s : State) (ma : Nat) : Nat :=
  adderGranules - ((s.fab.assembly.filter (fun a => a.adder = ma)).map (·.granules)).sum - ((s.reds.filter (fun r => r.status = .open_)).map (fun r =>
    ((r.blocks.filter (fun b => b.adder = ma)).map (fun b => b.granules (rdGranules r.desc))).sum)).sum

/-- The surroundings of pairing in block k of a reduction. -/
def State.pairEnv (s : State) (r : Reduction) (k ma : Nat) : PairEnv :=
  { leaves := rdLeaves r.desc, tm1 := s.tm1, kind := rdKind r.desc, free := s.freeGranules ma, need := rdGranules r.desc,
    bad := fun i => match s.readVa r.acc (r.slotVa k i) (rdSlotBytes r.desc) with
      | .ok _ => false
      | .error _ => true }

/-- The effect of a pairing on a reduction: the block, counters, spilled values, and the root that resolved. -/
def State.settle (s : State) (r : Reduction) (k ma : Nat) (p : Pairing) : State :=
  let old := ((r.blocks[k]?).elim [] (·.occ)).length
  let s := (p.blk.occ.take (p.blk.occ.length - old)).foldl (fun s n => s.setOccBit r k n) s
  let s := p.spills.foldl (fun s x => s.tryWriteVa r.acc (r.slotVa k x.1) (x.2.flatMap (fun w => w.flatMap (toLE 4)))) s
  let s := ((s.cnt48 (kDev (0x7400 + ma) 1) p.pairs).cnt48 (kDev (0x7400 + ma) 2) p.passes).cnt48
    (kDev (0x7400 + ma) 5) p.spills.length
  let s := s.modRed r.ctx r.id (fun r => { r with
    ev := r.ev.count p.ev, blocks := modNth r.blocks k (fun _ => p.blk) })
  let r := (s.redOf r.ctx r.id).getD r
  if p.lost then s.unwriteBlock r k
  else match p.root with
    | some v => s.rootWrite r k (some v)
    | none => if p.blk.gone 0 (rdLeaves r.desc) then s.rootWrite r k none else s

/-! ### Contributions (R93, R95, R96) -/

/-- CONTEXT of a contribution header. -/
def hCtx (h : Nat) : Nat := fld h 95 90
/-- KIND. -/
def hKind (h : Nat) : Nat := fld h 89 86
/-- GEN. -/
def hGen (h : Nat) : Nat := fld h 79 72
/-- RED_ID. -/
def hRed (h : Nat) : Nat := fld h 71 56
/-- OUT_BLOCK. -/
def hBlock (h : Nat) : Nat := fld h 55 40
/-- NODE_A. -/
def hA (h : Nat) : Nat := fld h 39 20
/-- NODE_B. -/
def hB (h : Nat) : Nat := fld h 19 0

/-- A contribution header (R93). -/
def mkHeader (task ctx kind gen red block a b : Nat) : Nat :=
  at' task 127 96 + at' ctx 95 90 + at' kind 89 86 + at' gen 79 72 + at' red 71 56 + at' block 55 40 + at' a 39 20 +
  at' b 19 0

/-- What an adder makes of a contribution or marker (R95, R97, R541). -/
inductive Outcome where
  | accepted | duplicate | descriptor | stale
  /-- Rule 1 of R95: a DUPLICATE that R97 does not count as accepted. -/
  | late
  deriving DecidableEq, Repr

/-- The records of a contribution from its bytes. -/
def recsOf (d : Nat) (l : List Byte) : List (List Nat) :=
  (chunks (rdRecBytes d) l).map (fun r => (chunks 4 r).map leNat)

/-- R95 rule 2, R97 rule 2: a stale arrival counts at the adder, and in an open reduction of the same RED_ID there. -/
def State.countStale (s : State) (ma h : Nat) : State :=
  let s := s.cnt16 (kDev (0x7400 + ma) 4) 1
  match s.redOf (hCtx h) (hRed h) with
  | some r =>
    if r.status = .open_ ∧ r.blocks.any (fun b => b.adder = ma) then
      s.modRed r.ctx r.id (fun r => { r with stale := satAdd16 r.stale 1 })
    else s
  | none => s

/-- R95: an adder processes one contribution. -/
def State.contribute (s : State) (ma h : Nat) (recs : List Byte) : State × Outcome :=
  match s.redOf (hCtx h) (hRed h) with
  | none => (s.countStale ma h, .stale)
  | some r =>
    if r.gen = hGen h ∧ r.status = .closed then (s.cnt16 (kDev (0x7400 + ma) 3) 1, .late)
    else if r.gen ≠ hGen h ∨ r.status ≠ .open_ then (s.countStale ma h, .stale)
    else
      let a := hA h
      let b := hB h
      match r.blocks[hBlock h]? with
      | none => (s, .descriptor)
      | some k =>
        if hKind h ≠ rdKind r.desc || !isCanonical (rdLeaves r.desc) a b || (recsOf r.desc recs).length ≠ rdElems r.desc then
          (s, .descriptor)
        else if k.handled || k.resolved a b || k.occ.any (fun o => o.1 ≤ a && b ≤ o.2) then
          ((s.cnt16 (kDev (0x7400 + ma) 3) 1).modRed r.ctx r.id (fun r => { r with dups := satAdd16 r.dups 1 }), .duplicate)
        else if k.occ.any (fun o => a ≤ o.1 && o.2 ≤ b) then (s, .descriptor)
        else
          let e := s.pairEnv r (hBlock h) ma
          let p := arrive e (k.granules e.need) 64 ⟨k, .none, 0, 0, [], none, false⟩ a b (recsOf r.desc recs)
          (s.settle r (hBlock h) ma p, .accepted)

/-- R97: an adder processes one LEAF_DONE marker, in every block it holds. -/
def State.leafMarker (s : State) (ma h : Nat) : State × Outcome :=
  match s.redOf (hCtx h) (hRed h) with
  | none => (s.countStale ma h, .stale)
  | some r =>
    if r.gen = hGen h ∧ r.status = .closed then (s, .accepted)
    else if r.gen ≠ hGen h ∨ r.status ≠ .open_ then (s.countStale ma h, .stale)
    else if !isCanonical (rdLeaves r.desc) (hA h) (hB h) then (s, .descriptor)
    else
      ((List.range r.blocks.length).foldl (fun s i =>
        match s.redOf r.ctx r.id with
        | none => s
        | some r =>
          match r.blocks[i]? with
          | none => s
          | some k =>
            if k.adder ≠ ma || k.handled || r.status ≠ .open_ then s
            else
              let k := if k.doneRanges.contains (hA h, hB h) then k else { k with doneRanges := (hA h, hB h) :: k.doneRanges }
              let e := s.pairEnv r i ma
              s.settle r i ma (promote e (k.granules e.need) (k.slots.length + 1) ⟨k, .none, 0, 0, [], none, false⟩)) s,
        .accepted)

/-! ### The sending task (R96, R97) -/

/-- R96: a DUPLICATE counts in the sending task's status. -/
def State.noteDup (s : State) (cl site : Nat) : State :=
  s.modTask cl site (fun t => { t with
    dups := satAdd16 t.dups 1, codes := if t.codes.contains cDuplicate then t.codes else t.codes ++ [cDuplicate] })

/-- The sender's task takes note of an outcome: a contribution that was not accepted keeps it from sending LEAF_DONE
(R97). -/
def State.noteOutcome (s : State) (uid : Nat) (o : Outcome) : State :=
  match s.siteOfUid uid with
  | none => s
  | some (cl, site) =>
    match o with
    | .duplicate => s.noteDup cl site
    | .late => (s.noteDup cl site).modTask cl site (fun t => { t with badContrib := true })
    | .stale => s.modTask cl site (fun t => { t with badContrib := true })
    | .descriptor => s.modTask cl site (fun t => { t with codes := t.codes ++ [cDescriptor], badContrib := true })
    | .accepted => s

/-- R97, R559: a marker goes to every adder that holds a block of the reduction, to its home where that is another
module, or to MA0 where no record of the RED_ID is kept. -/
def State.sendMarker (s : State) (uid cl task ctx : Nat) (m : StagedDone) : State :=
  let h := mkHeader task ctx 0xF m.gen m.redId 0 m.a m.b
  let add := fun (s : State) (ma : Nat) =>
    { s with disp := { s.disp with inflight := s.disp.inflight ++ [⟨uid, ma, h, []⟩] } }
  match s.redOf ctx m.redId with
  | none => add s 0
  | some r =>
    if r.status = .forwarding ∧ r.gen = m.gen then
      let hdr := mkHdr r.home s.ownId tyLeafDone ctx (s.jobId ctx) (at' h 171 44 + at' 0 43 28 + at' 1 27 12) 0
      match s.inject hdr [] with
      | .ok s => { s with disp := { s.disp with awaitAck := s.disp.awaitAck ++ [⟨uid, cl, h⟩] } }
      | .error e => match s.siteOfUid uid with
        | some (cl, site) => s.modTask cl site (fun t => { t with codes := t.codes ++ [e] })
        | none => s
    else if r.blocks.isEmpty then add s 0
    else ((r.blocks.map (·.adder)).eraseDups).foldl add s

/-- Contributions of a task that have not been accepted yet: at an adder here, or unacknowledged elsewhere. -/
def State.contribsOut (s : State) (uid : Nat) : Bool :=
  s.disp.inflight.any (fun x => x.uid = uid) || s.disp.awaitAck.any (fun x => x.uid = uid)

/-- R97: once every contribution of a task has been accepted, its markers leave: one of each reduction and range. -/
def State.sendDones (s : State) (uid : Nat) : State :=
  match s.siteOfUid uid with
  | none => s
  | some (cl, site) =>
    match (s.core cl site).task with
    | none => s
    | some t =>
      if !t.committed || t.dones.isEmpty || s.contribsOut uid || t.badContrib ||
        t.commitMoves.any (fun m => mOp m.desc = opScatterAdd) then s
      else
        let l := t.dones.eraseDups
        let s := s.modTask cl site (fun t => { t with dones := [] })
        l.foldl (fun s m => s.sendMarker uid cl (dTask t.desc) t.ctx m) s

/-- Take the entry in flight that a command delivers: its sender. -/
def State.takeInFlight (s : State) (x : Nat → InFlight) : State × Option Nat :=
  match s.disp.inflight.find? (fun y => y = x y.uid) with
  | none => (s, none)
  | some y => ({ s with disp := { s.disp with inflight := s.disp.inflight.erase y } }, some y.uid)

/-- ADDER_CONTRIBUTION: an adder processes the contribution that reaches it, and its sender takes note. -/
def State.adderContribution (s : State) (ma h : Nat) (recs : List Byte) : State :=
  let q := s.takeInFlight (fun u => ⟨u, ma, h, recs⟩)
  let r := q.1.contribute ma h recs
  match q.2 with
  | some u => (r.1.noteOutcome u r.2).sendDones u
  | none => r.1

/-- ADDER_CONTRIBUTION (R95). -/
def execAdderContribution (ma : Fin 16) (hdr : BitVec 128) (recs : List (BitVec 8)) (s : State) :
    Host.Outcome State Fault Refusal := .next (s.adderContribution ma.val hdr.toNat recs)

/-- LEAF_DONE_MARKER: an adder processes the marker that reaches it, and its sender takes note. -/
def State.adderMarker (s : State) (ma h : Nat) : State :=
  let q := s.takeInFlight (fun u => ⟨u, ma, h, []⟩)
  let r := q.1.leafMarker ma h
  match q.2 with
  | some u => r.1.noteOutcome u (if r.2 = .descriptor then .descriptor else .accepted)
  | none => r.1

/-- LEAF_DONE_MARKER (R97). -/
def execLeafDoneMarker (ma : Fin 16) (hdr : BitVec 128) (s : State) : Host.Outcome State Fault Refusal :=
  .next (s.adderMarker ma.val hdr.toNat)

end Sys2Proof.Machine
end

