-- ==== Sys2Proof/Machine/Chairlift.lean ====
section
/-! DEFINITION. The Chairlift (R502 to R529): its command ring, transfers, flips, pins, live tables and archive. -/

namespace Sys2Proof.Machine

/-! ### Commands (R518) -/

/-- OP. -/
def chOp (c : Nat) : Nat := fld c 511 504
/-- SOURCE: 0 LINK, 1 MEMORY, 2 HOST. -/
def chSource (c : Nat) : Nat := fld c 503 502
/-- SLOT. -/
def chSlot (c : Nat) : Nat := fld c 501 499
/-- AUTO_FLIP. -/
def chAuto (c : Nat) : Bool := bitAt c 498
/-- VERSION. -/
def chVersion (c : Nat) : Nat := fld c 495 464
/-- TABLE. -/
def chTable (c : Nat) : Nat := fld c 463 448
/-- TYPE. -/
def chType (c : Nat) : Nat := fld c 447 444
/-- OWNER. -/
def chOwner (c : Nat) : Nat := fld c 443 437
/-- COUNT. -/
def chCount (c : Nat) : Nat := fld c 415 392
/-- BLOCKS, stored minus one. -/
def chBlocks (c : Nat) : Nat := fld c 391 367 + 1
/-- SRC_PA, or bank 0. -/
def chSrc (c : Nat) : Nat := fld c 363 312
/-- MANIFEST_PA, or bank 1. -/
def chManifest (c : Nat) : Nat := fld c 311 260
/-- BCAST_ID. -/
def chBcast (c : Nat) : Nat := fld c 207 192
/-- CMD_ID. -/
def chId (c : Nat) : Nat := fld c 191 160
/-- The defined values of OP. -/
def chOps : List Nat := [0x01, 0x02, 0x03, 0x04, 0x05, 0x06, 0x10, 0x11, 0x12, 0x13]
/-- A RSVD field is nonzero. -/
def chRsvd (c : Nat) : Bool :=
  fld c 497 496 ≠ 0 || fld c 436 416 ≠ 0 || fld c 366 364 ≠ 0 || fld c 259 208 ≠ 0 || fld c 159 0 ≠ 0

/-- Key of an object of the Chairlift (R529). -/
def kChair (sub : Nat) : Nat := kDev 0xA000 sub
/-- STATE of the Chairlift: 0 ACTIVE, 1 DRAINING, 2 DISABLED. -/
def State.chairState (s : State) : Nat := s.obj (kChair 2)

/-- R518: the next command of the ring, once submitted, while the module is READY (R648 starts none in a hold). -/
def State.chairHead (s : State) : Option (Nat × Nat) :=
  let n := s.obj (kChair 8)
  if s.moduleState = 3 ∧ n < s.obj (kChair 7) then
    some (n, leNat (s.view (s.obj (kChair 4) + n % 2 ^ s.obj (kChair 5) * 64) 64))
  else none

/-- R520: the completion record of ring position n. -/
def State.chairRecord (s : State) (n c status done failed : Nat) : State :=
  let r := at' (chId c) 255 224 + at' status 223 216 + at' (chOp c) 215 208 + at' done 207 183 + at' failed 182 158 +
    at' s.timeNs 63 0
  let pa := s.obj (kChair 6) + n % 2 ^ s.obj (kChair 5) * 32
  if s.mapped pa && s.mapped (pa + 31) then s.write pa (toLE 32 r) else s

/-! ### Checks (R503, R519) -/

/-- R519: a bank region or an entry region that may be placed: aligned, in one data range, on no owned range. -/
def State.regionBad (s : State) (pa n : Nat) : Bool := pa % 4096 ≠ 0 || !inOneData pa n || s.inOwned pa n

/-- R507: the entry that a PUSH of a slot takes: the lowest placed one that is EMPTY. -/
def State.pushEntry (s : State) (sl : Nat) : Option Nat :=
  [0, 1, 2].find? (fun e => bitAt (s.ePa sl e) 63 && s.obj (kSlot sl 1) ≠ 0 && s.eState sl e = eEmpty)

/-- R503: versions half the number space apart. -/
def versionsApart (a b : Nat) : Bool := (a + 2 ^ 32 - b) % 2 ^ 32 = 2 ^ 31

/-- Source and manifest of a transfer (R519). -/
def transferBad (c : Nat) : Bool :=
  2 ^ 24 < chBlocks c || (chSource c = 1 && !inOneData (chSrc c) (chBlocks c * 4096)) ||
  (chSource c ≠ 0 && !inOneData (chManifest c) (chBlocks c * 4 + 4))

/-- The codes of a PUSH (R503, R507, R519). -/
def State.pushCodes (s : State) (c : Nat) : List Nat :=
  let cur := s.obj (kSlot (chSlot c) 2)
  (if chVersion c = 0 || transferBad c || s.obj (kSlot (chSlot c) 1) < chBlocks c * 4096 ||
      (s.residentIn (chSlot c) (chVersion c)).isSome || (cur ≠ 0 && versionsApart (chVersion c) cur)
    then [cDescriptor] else []) ++
  (if (s.pushEntry (chSlot c)).isNone then [cVersion] else [])

/-- The bank that a load fills, and the epoch that selects it: the non-current one. -/
def Table.nextBank (t : Table) : TBank := t.bank (t.epoch + 1)

/-- The codes of a LOAD_TABLE (R519, R523). -/
def State.loadCodes (s : State) (c : Nat) : List Nat :=
  match s.table (chTable c) with
  | none => [cDescriptor]
  | some t =>
    (if transferBad c || t.blocks < chBlocks c then [cDescriptor] else []) ++
    (if t.nextBank.state = .loading ∨ t.nextBank.state = .draining then [cVersion] else [])

/-- The codes of a DEFINE_TABLE (R519, R521, R544). -/
def State.defineCodes (s : State) (c : Nat) : List Nat :=
  let n := chBlocks c * 4096
  (if chTable c = 0 || chType c = 0 || 6 < chType c || 0x40 < chOwner c || 2 ^ 24 < chBlocks c ||
      (s.table (chTable c)).isSome || (chType c = 3 && (chBlocks c ≠ 257 || chOwner c ≠ 0x40)) ||
      s.regionBad (chSrc c) n || s.regionBad (chManifest c) n || overlapR (chSrc c, n) (chManifest c, n)
    then [cDescriptor] else []) ++
  (if 16384 ≤ s.chair.tables.length then [cVersion] else [])

/-- R505: the running transfer that an ABORT names. -/
def State.abortNames (s : State) (c : Nat) : Option Transfer :=
  s.chair.transfers.find? (fun t =>
    if chTable c ≠ 0 then t.entry.isNone && chTable t.cmd = chTable c
    else t.entry.isSome && chSlot t.cmd = chSlot c && chVersion t.cmd = chVersion c)

/-- The state of the entry that holds a command's version; EMPTY where none does. -/
def State.namedState (s : State) (c : Nat) : Nat :=
  match s.residentIn (chSlot c) (chVersion c) with
  | some e => s.eState (chSlot c) e
  | none => eEmpty

/-- The codes of the commands on a version (R505, R509, R510). -/
def State.versionCodes (s : State) (c : Nat) : List Nat :=
  let st := s.namedState c
  if chVersion c = 0 then [cDescriptor]
  else if chOp c = 2 then (if st = eVerified then [] else [cVersion])
  else if chOp c = 3 then
    (if chCount c = 0 then [cDescriptor] else []) ++
    (if st = eVerified || st = eCurrent || st = ePrevious then [] else [cVersion])
  else if chOp c = 4 then
    (match s.residentIn (chSlot c) (chVersion c) with
      | some e => if chCount c = 0 || (s.entry (chSlot c) e).pins < chCount c then [cDescriptor] else []
      | none => (if chCount c = 0 then [cDescriptor] else []) ++ [cVersion])
  else (if st = eVerified || st = ePrevious then [] else [cVersion])

/-- The codes of FLIP_TABLE and DROP_TABLE (R519, R523). -/
def State.tableCodes (s : State) (c : Nat) : List Nat :=
  match s.table (chTable c) with
  | none => [cDescriptor]
  | some t =>
    if chOp c = 0x12 then (if t.nextBank.state = .ready then [] else [cVersion])
    else if t.b0.refs ≠ 0 || t.b1.refs ≠ 0 || t.b0.state = .loading || t.b1.state = .loading then [cVersion]
    else []

/-- R519: OP, SOURCE or TYPE of a command is reserved, or a RSVD field is nonzero. -/
def chReserved (c : Nat) : Bool := !chOps.contains (chOp c) || chSource c = 3 || 6 < chType c || chRsvd c

/-- R519, R527: the codes that apply to a command. -/
def State.chairCodes (s : State) (c : Nat) : List Nat :=
  (if chReserved c then [cDescriptor] else []) ++
  (if s.chairState ≠ 0 then [cDisabled] else []) ++
  (if chOp c = 0x01 then s.pushCodes c
   else if chOp c = 0x10 then s.defineCodes c
   else if chOp c = 0x11 then s.loadCodes c
   else if chOp c = 0x12 ∨ chOp c = 0x13 then s.tableCodes c
   else if chOp c = 0x06 then
     (if chTable c = 0 ∧ chVersion c = 0 then [cDescriptor] else []) ++
     (if chTable c ≠ 0 ∧ (s.table (chTable c)).isNone then [cDescriptor] else []) ++
     (if (s.abortNames c).isNone then [cVersion] else [])
   else if chOps.contains (chOp c) then s.versionCodes c
   else [])

/-! ### Entries and tables -/

/-- R503: version a is newer than version b. -/
def newer (a b : Nat) : Bool := let d := (a + 2 ^ 32 - b) % 2 ^ 32; 1 ≤ d && d < 2 ^ 31

/-- R505, R510: a VERIFIED entry becomes CURRENT when its version is newer than the slot's. -/
def State.flipSlot (s : State) (sl e : Nat) : State :=
  let v := s.eVersion sl e
  let cur := s.obj (kSlot sl 2)
  if cur ≠ 0 ∧ !newer v cur then s
  else
    let s := [0, 1, 2].foldl (fun (s : State) (k : Nat) =>
      if s.eState sl k = ePrevious then
        (if s.eRefs sl k ≠ 0 then s.setEState sl k eDraining else s.leaveEntry sl k)
      else s) s
    let s := [0, 1, 2].foldl (fun (s : State) (k : Nat) =>
      if s.eState sl k = eCurrent then s.setEState sl k ePrevious else s) s
    ((s.setEState sl e eCurrent).setObj (kSlot sl 2) v).event 0x40 0 0xFF sl v

/-- R523: a table whose other bank is READY flips. -/
def State.flipTable (s : State) (id : Nat) : State :=
  match s.table id with
  | none => s
  | some t => if t.nextBank.state = .ready then (s.setTable id (some t.flip)).cnt48 (kDev 0xA200 2) 1 else s

/-- TABLES counts the defined tables (R529). -/
def State.countTables (s : State) : State := s.setObj (kDev 0xA200 1) s.chair.tables.length

/-- Change the bank that a load fills. -/
def State.modLoad (s : State) (id : Nat) (f : TBank → TBank) : State :=
  match s.table id with
  | none => s
  | some t => s.setTable id (some (t.modBank (t.epoch + 1) f))

/-! ### Transfers (R513 to R517) -/

/-- Change a running transfer, named by its ring position. -/
def State.modTransfer (s : State) (pos : Nat) (f : Transfer → Transfer) : State :=
  { s with chair := { s.chair with transfers := s.chair.transfers.map (fun t => if t.pos = pos then f t else t) } }

/-- The running transfer of a ring position. -/
def State.transferAt (s : State) (pos : Nat) : Option Transfer := s.chair.transfers.find? (fun t => t.pos = pos)

/-- Where a transfer's blocks go. -/
def State.targetPa (s : State) (t : Transfer) : Nat :=
  match t.entry with
  | some (sl, e) => s.ePa sl e % 2 ^ 52
  | none =>
    match s.table (chTable t.cmd) with
    | some tb => tb.nextBank.pa
    | none => 0

/-- A transfer leaves the running ones and writes its record. -/
def State.closeTransfer (s : State) (t : Transfer) (code : Nat) : State :=
  let s : State := { s with chair := { s.chair with transfers := s.chair.transfers.filter (fun x => x.pos ≠ t.pos) } }
  s.chairRecord t.pos t.cmd code t.verified.length t.failed

/-- R505, R523: a transfer ends without success; nothing of it becomes readable. -/
def State.failTransfer (s : State) (t : Transfer) (code : Nat) : State :=
  let s := match t.entry with
    | some (sl, e) =>
      (((s.setEState sl e eEmpty).setObj (kSlot sl (0x09 + e)) 0).modEntry sl e (fun _ => Entry.empty)).event
        0x42 0 0xFF (sl * 4 + e) (chVersion t.cmd)
    | none => s.modLoad (chTable t.cmd) (fun b => { b with state := .free })
  s.closeTransfer t code

/-- R521 by R255: the checks of a translation table bank of n blocks. -/
def State.xlatGood (s : State) (pa n : Nat) : Bool :=
  let l1 := s.word pa 2
  let inside := fun (a : Nat) => pa + (1 + l1) * 4096 ≤ a && a + 4096 ≤ pa + n * 4096
  let next := fun (a k : Nat) => (List.range k).filterMap (fun i =>
    let e := s.word (a + 8 * i) 8
    if bitAt e 63 && !bitAt e 62 then some (fld e 51 12 * 4096) else none)
  1 ≤ l1 && l1 ≤ 512 && 1 + l1 ≤ n && (s.bytes (pa + 2) 4094).all (· = 0) &&
  (next (pa + 4096) (512 * l1)).all (fun a => inside a && (next a 512).all inside)

/-- R336: the checks of a KV page table's header. -/
def State.pagesGood (s : State) (pa : Nat) : Bool :=
  let h := s.word pa 64
  let pages := fld h 465 449
  let fmt := fld h 487 484
  2 ≤ fmt && fmt ≤ 4 && fld h 483 482 ≠ 3 && 1 ≤ pages && pages ≤ 65536 && fld h 511 488 ≤ 4194304 &&
  fld h 511 488 ≤ 64 * pages && fld h 448 0 = 0

/-- R545: the checks of a route table bank. -/
def State.routesGood (s : State) (pa : Nat) : Bool :=
  let dims := s.rtDims pa
  let pgs := (List.range 128).map (fun g => s.portGroup pa g)
  let names := fun (g : Nat) => g = 0xFE || g = 0xFF || (g < 128 && pgKind (nth 0 pgs g) ≠ 0)
  let torus := 1 ≤ dims && dims ≤ 6 && ((List.range dims).map (s.rtSize pa)).foldl (· * ·) 1 ≤ 131071 &&
    (List.range dims).all (fun j => s.rtCoord pa j < s.rtSize pa j)
  s.word pa 4 = s.ownId && s.rtTopo pa ≤ 1 && (s.rtTopo pa = 1 || torus) &&
  (s.bytes (pa + 18) 1006).all (· = 0) && (s.bytes (pa + 3072) 1024).all (· = 0) &&
  pgs.all (fun r => pgKind r ≤ 4 && fld r 57 0 = 0) &&
  (List.range 64).all (fun n => (pgs.filter (fun r => bitAt r (64 + n))).length ≤ 1) &&
  (List.range 131072).all (fun i =>
    let e := s.routeEntry pa i
    names (fld e 63 56) && names (fld e 55 48) && fld e 43 0 = 0 && decide ((fld e 63 56 = 0xFE) ↔ i = s.ownId))

/-- R521: the check of a loaded bank by table type. -/
def State.bankGood (s : State) (t : Table) : Bool :=
  if t.type = 1 then s.xlatGood t.nextBank.pa t.blocks
  else if t.type = 2 then s.pagesGood t.nextBank.pa
  else if t.type = 3 then s.routesGood t.nextBank.pa
  else true

/-- R505, R521, R523: every block of a transfer is verified. -/
def State.finishTransfer (s : State) (t : Transfer) : State :=
  match t.entry with
  | some (sl, e) =>
    let s := (s.setEState sl e eVerified).closeTransfer t cOk
    if chAuto t.cmd then s.flipSlot sl e else s
  | none =>
    match s.table (chTable t.cmd) with
    | none => s.closeTransfer t cAborted
    | some tb =>
      if s.bankGood tb then
        let s := (s.modLoad (chTable t.cmd) (fun b => { b with state := .ready, len := chBlocks t.cmd })).closeTransfer t cOk
        if chAuto t.cmd then s.flipTable (chTable t.cmd) else s
      else s.failTransfer t cDescriptor

/-- R516: a block is written, unsealed. The last one takes the entry to VERIFYING (R505). -/
def State.writeBlock (s : State) (t : Transfer) (blk : Nat) (bs : List Byte) : State :=
  let s := (s.write (s.targetPa t + blk * 4096) bs).cnt48 (kChair 9) 4096
  let w := blk :: t.written
  let s := s.modTransfer t.pos (fun t => { t with written := w, resends := ndel blk t.resends })
  match t.entry with
  | some (sl, e) => if w.length = chBlocks t.cmd ∧ s.eState sl e = eReceiving then s.setEState sl e eVerifying else s
  | none => s

/-- Count a block that was dropped or failed once (R515, R529). -/
def State.dropBlock (s : State) (t : Transfer) : State :=
  (s.modTransfer t.pos (fun t => { t with failed := t.failed + 1 })).cnt16 (kChair 0xA) 1

/-- R515: a block that arrives for a transfer: out of range or written already it is dropped. -/
def State.takeBlock (s : State) (t : Transfer) (blk : Nat) (bs : List Byte) : State :=
  if chBlocks t.cmd ≤ blk || t.written.contains blk then s.dropBlock t else s.writeBlock t blk bs

/-- R563: the RESEND of one item of a transfer, to the PE `o` it came from. -/
def State.resendTo (s : State) (t : Transfer) (item o : Nat) : State :=
  let f := at' (chBcast t.cmd) 171 156 + at' (item % 2 ^ 25) 155 131 + at' (item / 2 ^ 25) 130 130
  let n := (nget (0, 0) t.resends item).1
  (s.modTransfer t.pos (fun t => { t with resends := nset (0, 0) t.resends item (n + 1, s.timeNs) })).injectOr
    (mkHdr o s.ownId tyResend 0 0 f 0) []

/-- R563: a RESEND of a block, or of a part of the manifest (2^25 and up), leaves for the block's origin. -/
def State.sendResend (s : State) (t : Transfer) (item : Nat) : State :=
  match (t.origins.find? (fun (p : Nat × Nat) => p.1 = item)).map (·.2) with
  | some o => s.resendTo t item o
  | none =>
    match t.lastOrigin with
    | some o => s.resendTo t item o
    | none => s

/-- R516: a written block is read back and compared with the manifest. -/
def State.verifyBlock (s : State) (t : Transfer) (m : List Nat) (blk : Nat) : State :=
  let b := s.targetPa t / 4096 + blk
  let want := nth 0 m blk
  let s := s.countRd (b * 4096) 4096
  if s.blockCrc b = want then
    let v := blk :: t.verified
    let s := (s.seal b want 5 0 (chId t.cmd) 0).modTransfer t.pos (fun t => { t with verified := v })
    if v.length = chBlocks t.cmd then
      (match s.transferAt t.pos with
        | some t => s.finishTransfer t
        | none => s)
    else s
  else
    let again := t.failedOnce.contains blk
    let s := (s.dropBlock t).modTransfer t.pos (fun t =>
      { t with failedOnce := blk :: t.failedOnce, written := t.written.erase blk })
    match s.transferAt t.pos with
    | none => s
    | some t =>
      if again then (s.event 0x41 2 0xFF blk (chId t.cmd)).failTransfer t cChecksum
      else if chSource t.cmd = 0 then s.sendResend t blk
      else s

/-- The bytes of a manifest, once they are all there (R514, R515, R562). -/
def State.manifestBytes (s : State) (t : Transfer) : Option (List Byte) :=
  let n := chBlocks t.cmd * 4 + 4
  if chSource t.cmd = 0 then
    (if t.mparts.length = cdiv n 4096 then some ((t.mparts.flatMap (fun (p : Nat × List Byte) => p.2)).take n) else none)
  else some (s.view (chManifest t.cmd) n)

/-- R514: the Chairlift checks a transfer's manifest. -/
def State.checkManifest (s : State) (t : Transfer) : State :=
  match t.manifest, s.manifestBytes t with
  | none, some bs =>
    let n := chBlocks t.cmd * 4
    if crc32c (bs.take n) = leNat (bs.drop n) then
      let m := (chunks 4 (bs.take n)).map leNat
      let s := s.modTransfer t.pos (fun t => { t with manifest := some m })
      (match t.entry with
        | some (sl, e) => s.modEntry sl e (fun x => { x with manifest := m })
        | none => s)
    else s.failTransfer t cChecksum
  | _, _ => s

/-- MANIFEST_CHECK. -/
def State.manifestCheck (s : State) (i : Nat) : State :=
  match s.chair.transfers[i]? with
  | some t => s.checkManifest t
  | none => s

/-- MANIFEST_CHECK (R514). -/
def execManifestCheck (t : Fin 4) (s : State) : Host.Outcome State Fault Refusal := .next (s.manifestCheck t.val)

/-- CHAIRLIFT_BLOCK: a block of a MEMORY transfer is read and written, and any block that is written is verified. -/
def State.chairBlock (s : State) (i blk : Nat) : State :=
  match s.chair.transfers[i]? with
  | none => s
  | some t =>
    match t.manifest with
    | none => s
    | some m =>
      if chBlocks t.cmd ≤ blk || t.verified.contains blk then s
      else
        let s := if chSource t.cmd = 1 && !t.written.contains blk then
            (s.countRd (chSrc t.cmd + blk * 4096) 4096).writeBlock t blk (s.view (chSrc t.cmd + blk * 4096) 4096)
          else s
        match s.transferAt t.pos with
        | none => s
        | some t => if t.written.contains blk then s.verifyBlock t m blk else s

/-- CHAIRLIFT_BLOCK (R516). -/
def execChairliftBlock (t : Fin 4) (blk : BitVec 25) (s : State) : Host.Outcome State Fault Refusal :=
  .next (s.chairBlock t.val blk.toNat)

/-! ### Commands that take effect when they are reached -/

/-- A transfer starts (R505, R515, R523). -/
def State.startTransfer (s : State) (n c : Nat) (entry : Option (Nat × Nat)) : State :=
  let t : Transfer :=
    { pos := n, cmd := c, entry := entry, manifest := none, mparts := [], written := [], verified := [],
      failedOnce := [], failed := 0, origins := [], lastOrigin := none, lastPacket := s.timeNs, resends := [] }
  { s with chair := { s.chair with transfers := s.chair.transfers ++ [t] } }

/-- A PUSH that is accepted: the entry becomes RECEIVING (R505). -/
def State.push (s : State) (n c : Nat) : State :=
  match s.pushEntry (chSlot c) with
  | none => s
  | some e =>
    let sl := chSlot c
    let s := ((s.setEState sl e eReceiving).setObj (kSlot sl (0x09 + e)) (chVersion c)).setObj (kSlot sl (0x0C + e)) 0
    (s.modEntry sl e (fun _ => { blocks := chBlocks c, manifest := [], pins := 0,
                                  bcast := if chSource c = 0 then some (chBcast c) else none })).startTransfer n c
      (some (sl, e))

/-- The effect of a command that no code refuses, beside its record (R505, R509, R510, R521, R523). -/
def State.chairApply (s : State) (n c : Nat) : State :=
  let sl := chSlot c
  let e := (s.residentIn sl (chVersion c)).getD 0
  let refs := s.eRefs sl e
  let op := chOp c
  if op = 0x01 then s.push n c
  else if op = 0x02 then s.flipSlot sl e
  else if op = 0x03 then
    (s.setObj (kSlot sl (0x0C + e)) (refs + chCount c)).modEntry sl e (fun x => { x with pins := x.pins + chCount c })
  else if op = 0x04 then
    (s.modEntry sl e (fun x => { x with pins := x.pins - chCount c })).unrefEntry sl e (chCount c)
  else if op = 0x05 then (if refs ≠ 0 then s.setEState sl e eDraining else s.leaveEntry sl e)
  else if op = 0x06 then
    (match s.abortNames c with
      | some t => s.failTransfer t cAborted
      | none => s)
  else if op = 0x10 then
    (s.setTable (chTable c) (some { type := chType c, owner := chOwner c, blocks := chBlocks c, epoch := 0,
                                    b0 := ⟨chSrc c, .free, 0, 0⟩, b1 := ⟨chManifest c, .free, 0, 0⟩ })).countTables
  else if op = 0x11 then (s.modLoad (chTable c) (fun b => { b with state := .loading })).startTransfer n c none
  else if op = 0x12 then s.flipTable (chTable c)
  else (s.setTable (chTable c) none).countTables

/-- R518 to R520: the command at the head of the ring, when it is of the kind `op`, or of none that is defined. A
transfer that starts waits while four run (R517), and writes its record when it ends. -/
def State.chairCmd (s : State) (op : Nat) : State :=
  match s.chairHead with
  | none => s
  | some (n, c) =>
    if chOp c ≠ op ∧ chOps.contains (chOp c) then s
    else
      let codes := s.chairCodes c
      let next := fun (s : State) => s.setObj (kChair 8) (n + 1)
      let transfer : Bool := chOp c = 0x01 || chOp c = 0x11
      if !codes.isEmpty then (next s).chairRecord n c (firstCode codes) 0 0
      else if transfer then (if 4 ≤ s.chair.transfers.length then s else (next s).chairApply n c)
      else ((next s).chairApply n c).chairRecord n c cOk 0 0

/-- PUSH (R515). -/
def execPush (s : State) : Host.Outcome State Fault Refusal := .next (s.chairCmd 0x01)
/-- FLIP (R510). -/
def execFlip (s : State) : Host.Outcome State Fault Refusal := .next (s.chairCmd 0x02)
/-- PIN (R509). -/
def execPin (s : State) : Host.Outcome State Fault Refusal := .next (s.chairCmd 0x03)
/-- UNPIN (R509). -/
def execUnpin (s : State) : Host.Outcome State Fault Refusal := .next (s.chairCmd 0x04)
/-- EVICT (R505). -/
def execEvict (s : State) : Host.Outcome State Fault Refusal := .next (s.chairCmd 0x05)
/-- ABORT (R505). -/
def execAbort (s : State) : Host.Outcome State Fault Refusal := .next (s.chairCmd 0x06)
/-- DEFINE_TABLE (R521). -/
def execDefineTable (s : State) : Host.Outcome State Fault Refusal := .next (s.chairCmd 0x10)
/-- LOAD_TABLE (R523). -/
def execLoadTable (s : State) : Host.Outcome State Fault Refusal := .next (s.chairCmd 0x11)
/-- FLIP_TABLE (R523). -/
def execFlipTable (s : State) : Host.Outcome State Fault Refusal := .next (s.chairCmd 0x12)
/-- DROP_TABLE (R523). -/
def execDropTable (s : State) : Host.Outcome State Fault Refusal := .next (s.chairCmd 0x13)

/-! ### Archive (R513) -/

/-- A write of the archive ring: header block, manifest and data, each block sealed. -/
def State.archiveCopy (s : State) (sl e : Nat) : State :=
  let x := s.entry sl e
  let n := s.obj (kSlot sl 0x12)
  let base := (s.obj (kSlot sl 0xF) + n % s.obj (kSlot sl 0x11) * s.obj (kSlot sl 0x10)) / 4096
  let task := Config.freeNat s.free % 2 ^ 32
  let values := x.manifest.flatMap (toLE 4)
  let crc := crc32c values
  let pad := fun (l : List Byte) => l ++ List.replicate (4096 - l.length) (0 : Byte)
  let hdr := pad (toLE 4 (s.eVersion sl e) ++ toLE 4 sl ++ toLE 4 x.blocks ++ toLE 4 crc)
  let man := (chunks 4096 (values ++ toLE 4 crc)).map pad
  let src := s.ePa sl e % 2 ^ 52 / 4096
  let s := s.tick
  let s := ((hdr :: man).zipIdx).foldl (fun (s : State) (p : List Byte × Nat) => s.writeSealed (base + p.2) p.1 5 0 task 0) s
  let s := (x.manifest.zipIdx).foldl (fun (s : State) (p : Nat × Nat) =>
    let d := base + 1 + man.length + p.2
    let bs := s.bytes ((src + p.2) * 4096) 4096
    (((s.countRd ((src + p.2) * 4096) 4096).put (d * 4096) bs).countWr (d * 4096) 4096).seal d p.1 5 0 task 0) s
  s.setObj (kSlot sl 0x12) ((n + 1) % 2 ^ 32)

/-- ARCHIVE_COPY_DONE: the copy of an ARCHIVING entry completes and the entry becomes EMPTY. It waits while the Chairlift
is disabled (R527). -/
def State.archiveDone (s : State) (sl e : Nat) : State :=
  if s.eState sl e ≠ eArchiving || s.chairState = 2 then s
  else
    let v := s.eVersion sl e
    let s := s.archiveCopy sl e
    (((s.setEState sl e eEmpty).setObj (kSlot sl (0x09 + e)) 0).modEntry sl e (fun _ => Entry.empty)).event
      0x42 0 0xFF (sl * 4 + e) v

/-- ARCHIVE_COPY_DONE (R513). -/
def execArchiveCopyDone (slot : Fin 8) (entry : Fin 3) (s : State) : Host.Outcome State Fault Refusal :=
  .next (s.archiveDone slot.val entry.val)

/-! ### Objects (R507, R513, R527, R529) -/

/-- A write of RING_LIMIT and its status. -/
def State.ringLimit (s : State) (v : Nat) : State × Nat :=
  if v < s.obj (kChair 7) then (s, stState) else (s.setObj (kChair 7) v, stOk)

/-- The Chairlift's doorbell, which the physical function alone has; one that is refused is dropped and counted (R695). -/
def State.doorbellChair (s : State) (v : Nat) : State :=
  let r := s.ringLimit v
  if r.2 = stOk then r.1 else s.cnt16 (kDev 0x1050 6) 1

/-- RING_LIMIT (R518). -/
def execRingLimit (v : BitVec 32) (s : State) : Host.Outcome State Fault Refusal :=
  .next (s.through 0 false false (fun s => s.doorbellChair v.toNat))

/-- A write of ENABLE (R527). -/
def State.enableChair (s : State) (v : Bool) : State :=
  let s := s.setObj (kChair 1) (b2n v)
  if v then s.setObj (kChair 2) 0 else if s.chairState = 0 then s.setObj (kChair 2) 1 else s

/-- CHAIRLIFT_ENABLE (R527). -/
def execChairliftEnable (v : Bool) (s : State) : Host.Outcome State Fault Refusal := .next (s.enableChair v)

/-- A write of FORCE and its status: in the drain it ends the running transfers (R527). -/
def State.forceChair (s : State) (v : Bool) : State × Nat :=
  if !v then (s, stOk)
  else if s.chairState ≠ 1 then (s, stState)
  else (s.chair.transfers.foldl (fun (s : State) (t : Transfer) => s.failTransfer t cAborted) s, stOk)

/-- CHAIRLIFT_FORCE (R527). -/
def execChairliftForce (v : Bool) (s : State) : Host.Outcome State Fault Refusal := .next (written (s.forceChair v))

/-- The end of the drain of the Chairlift (R527). -/
def State.endChair (s : State) : State :=
  if s.chairState = 1 ∧ s.chair.transfers.isEmpty then s.setObj (kChair 2) 2 else s

/-- A write of RING_PA, RING_LOG2 or COMPL_PA and its status. -/
def State.setChairObj (s : State) (sub v : Nat) : State × Nat :=
  if sub = 5 ∧ (v < 4 ∨ 16 < v) then (s, stRange)
  else if sub = 4 ∧ s.obj (kChair 8) ≠ s.obj (kChair 7) then (s, stState)
  else (s.setObj (kChair sub) v, stOk)

/-- The entries of a slot, by state. -/
def State.anyEntry (s : State) (sl : Nat) (p : Nat → Bool) : Bool := [0, 1, 2].any (fun e => p (s.eState sl e))

/-- A write of WINDOW_BYTES and its status. -/
def State.setWindow (s : State) (sl v : Nat) : State × Nat :=
  if v % 0x200000 ≠ 0 ∨ 2 ^ 36 < v then (s, stRange)
  else if s.anyEntry sl (· ≠ eEmpty) || s.obj (kSlot sl 0x11) ≠ 0 then (s, stState)
  else (s.setObj (kSlot sl 1) v, stOk)

/-- A write of an ENTRY_PA and its status: a placed value obeys the rules of R519 for bank regions, where WINDOW_BYTES gives its entry a
region (R507). -/
def State.setEntryPa (s : State) (sl e v : Nat) : State × Nat :=
  let free := (s.setObj (kSlot sl (3 + e)) 0)
  let n := s.obj (kSlot sl 1)
  if fld v 62 52 ≠ 0 ∨ (bitAt v 63 ∧ n ≠ 0 ∧ free.regionBad (v % 2 ^ 52) n) then (s, stRange)
  else if s.eState sl e ≠ eEmpty then (s, stState)
  else (s.setObj (kSlot sl (3 + e)) v, stOk)

/-- A write of ARCHIVE_PA, ARCHIVE_STRIDE or ARCHIVE_COUNT and its status (R513). -/
def State.setArchive (s : State) (sl sub v : Nat) : State × Nat :=
  let w := s.obj (kSlot sl 1)
  let pa := s.obj (kSlot sl 0xF)
  let stride := s.obj (kSlot sl 0x10)
  if sub = 0x11 then
    if v ≠ 0 ∧ (pa % 4096 ≠ 0 ∨ stride % 4096 ≠ 0 ∨ stride < roundUp (8192 + w + 4 * w / 4096) 4096 ∨
        !inOneData pa (v * stride) ∨ s.inOwned pa (v * stride)) then (s, stRange)
    else if s.anyEntry sl (· = eArchiving) then (s, stState)
    else (s.setObj (kSlot sl sub) v, stOk)
  else if s.obj (kSlot sl 0x11) ≠ 0 then (s, stState)
  else (s.setObj (kSlot sl sub) v, stOk)

/-- R529: the objects that describe the queried table. -/
def State.tableQuery (s : State) (sub : Nat) : Nat :=
  let code := fun (b : TBank) => (match b.state with
    | .free => 0
    | .loading => 1
    | .ready => 2
    | .current => 3
    | .draining => 4)
  match s.table (s.obj (kDev 0xA200 3)) with
  | none => 0
  | some t =>
    if sub = 4 then t.type
    else if sub = 5 then t.epoch
    else if sub = 6 then code t.b0 + 16 * code t.b1
    else t.b0.refs % 2 ^ 32 + t.b1.refs % 2 ^ 32 * 2 ^ 32

/-- The live tables after a reset of the main domain (R528): definitions stay, every bank is FREE, EPOCH is 0. -/
def cleanTables (l : NMap (Option Table)) : NMap (Option Table) :=
  l.map (fun (p : Nat × Option Table) => (p.1, p.2.map (fun t =>
    { t with epoch := 0, b0 := ⟨t.b0.pa, .free, 0, 0⟩, b1 := ⟨t.b1.pa, .free, 0, 0⟩ })))

end Sys2Proof.Machine
end

