-- ==== Sys2Proof/Machine/MoverOps.lean ====
section
/-! DEFINITION. The operations of the tensor mover as jobs over views (R250, R265 to R271, R294 to R315, R337 to R339). -/

namespace Sys2Proof.Machine

/-- Effective extent of destination dimension 0. -/
def mN0 (d desc : Nat) : Nat := nth 0 (mDstExt d desc true) 0

/-! ### COPY, FILL and page fills -/

/-- R250: COPY. -/
def copyJob (d desc : Nat) : Job :=
  { Job.plain (dstRows d desc) (mN0 d desc) (fun i => .src (srcIdx d i)) with
    index := fun i => xSrBase d + nth 0 i 0 + ((List.range 4).map (fun j => nth 0 i (j + 1) * xSrStride d (j + 1))).sum }

/-- R246: FILL writes the constant of XFORM. -/
def fillJob (d desc : Nat) : Job :=
  Job.plain (dstRows d desc) (mN0 d desc) (fun _ => .const (fld d 255 224))

/-- R335: the entry of a key's logical page. -/
def State.pageEntry (s : State) (pa key : Nat) : Nat := s.word (pa + 64 + 8 * (key / 64)) 8

/-- R338: what an element of a page fill reads. -/
def State.pagePick (s : State) (d pa : Nat) (i : List Nat) : Pick :=
  let l := mSrcAddr d
  let h := s.pageHdr pa
  let k := pageKey d i
  if (klLimit l ≠ 0 ∧ klLimit l ≤ k.1) ∨ phKeys h ≤ k.1 then .const 0
  else
    let eb := fmtBits (phFmt h) / 8
    let dd := phD h
    let page := fld (s.pageEntry pa k.1) 47 12 * 4096 +
      (klLayer l * phHeads h + klHead l) * (128 * dd * eb)
    .raw (if klV l then page + 64 * dd * eb + (k.2 * 64 + k.1 % 64) * eb else page + (k.1 % 64 * dd + k.2) * eb)

/-- BAD_INDEX counts once for a descriptor, though it may run in parts (R291, R315, R338). -/
def State.mvCntOnce (s : State) (cl : Nat) (mv : Mv) (n : Nat) : State := if mv.sent = 0 then s.mvCnt cl 3 n else s

/-- Keys that a page fill names. -/
def pageKeys (d desc : Nat) : List Nat :=
  ((dstRows d desc).flatMap (fun is => (List.range (mN0 d desc)).map (fun i0 => (pageKey d (i0 :: is)).1))).eraseDups

/-- A page fill (R337 to R340). -/
def State.pageFill (s : State) (cl site : Nat) (t : Task) (d : Nat) (mv : Mv) (pa : Nat) : MoveRes :=
  let h := s.pageHdr pa
  let l := mSrcAddr d
  let bad := fun (l : List (Nat × Nat)) => s.unverified (l.map (fun p => ⟨false, p.1, p.2⟩))
  if s.touchesPoison pa 64 then s.mvFail cl cChecksum
  else if (bad [(pa, 64)]).isSome then s.badBlockFail cl ((bad [(pa, 64)]).getD 0)
  else if pageBad d h then s.mvFail cl cDescriptor
  else
    let keys := (pageKeys d t.desc).filter (fun k => klLimit l = 0 || k < klLimit l)
    if keys.any (fun k => k < phKeys h && !bitAt (s.pageEntry pa k) 63) then s.mvFail cl cTranslation
    else if keys.any (fun k => k < phKeys h && s.touchesPoison (pa + 64 + 8 * (k / 64)) 8) then s.mvFail cl cChecksum
    else match bad ((keys.filter (· < phKeys h)).map (fun k => (pa + 64 + 8 * (k / 64), 8))) with
    | some b => s.badBlockFail cl b
    | none =>
      let s := s.mvCntOnce cl mv (keys.filter (fun k => phKeys h ≤ k)).length
      s.mvRun cl site t d mv { copyJob d t.desc with picks := fun i => [s.pagePick d pa i] }

/-- COPY (R250). -/
def State.runCopy (s : State) (cl site : Nat) (t : Task) (d : Nat) (mv : Mv) : MoveRes :=
  match s.srcBank mv with
  | some (2, pa) => s.pageFill cl site t d mv pa
  | _ => s.mvRun cl site t d mv (copyJob d t.desc)

/-- FILL (R246). -/
def State.runFill (s : State) (cl site : Nat) (t : Task) (d : Nat) (mv : Mv) : MoveRes :=
  s.mvRun cl site t d mv (fillJob d t.desc)

/-! ### GATHER and SCATTER (R265 to R270) -/

/-- R267: the effective index, and what is counted: 0 nothing, 1 WRAPPED, 2 CLAMPED, 3 BAD_INDEX. -/
def effIndex (mode e : Nat) (i : Int) : Option Nat × Nat :=
  if e = 0 then (none, 3)
  else if 0 ≤ i ∧ i < e then (some i.toNat, 0)
  else match mode with
    | 1 => if -(e : Int) ≤ i ∧ i < 0 then (some (i + e).toNat, 1) else (none, 3)
    | 2 => (some (if i < 0 then 0 else e - 1), 2)
    | _ => (none, 3)

/-- The indices of positions `lo` on, `n` of them, or the code of the failure to read them. -/
def State.readIdx (s : State) (t : Task) (d : Nat) (mv : Mv) (lo n : Nat) : Except Nat (List Int) :=
  match s.readVa (s.accMv t mv) (xIdxAddr d + 4 * lo) (4 * n) with
  | .error e => .error e
  | .ok bs => .ok ((List.range n).map (fun p => sx 32 (leNat ((bs.drop (4 * p)).take 4))))

/-- The bitmap of the same positions, all ones where the descriptor names none (R268). -/
def State.readMask (s : State) (t : Task) (d : Nat) (mv : Mv) (lo n : Nat) : Except Nat (List Bool) :=
  if xMaskAddr d = 0 then .ok (List.replicate n true)
  else match s.readVa (s.accMv t mv) (xMaskAddr d + lo / 8) (cdiv n 8) with
    | .error e => .error e
    | .ok bs => .ok ((List.range n).map (fun p => bitAt (nth 0 bs (p / 8)).toNat (p % 8)))

/-- The index array as runs read. -/
def idxReads (d : Nat) : List (Nat × Nat) := [(xIdxAddr d, 4 * xIdxCount d)]

/-- The mask array as runs: SCATTER reads it and GATHER writes it (R268). -/
def maskRuns (d : Nat) : List (Nat × Nat) := if xMaskAddr d = 0 then [] else [(xMaskAddr d, cdiv (xIdxCount d) 8)]

/-- Count what the indices of a list of positions give (R267). -/
def State.idxCount (s : State) (cl : Nat) (l : List (Option Nat × Nat)) : State :=
  let n := fun k => (l.filter (fun x => x.2 = k)).length
  ((s.mvCnt cl 3 (n 3)).mvCnt cl 4 (n 1)).mvCnt cl 5 (n 2)

/-- R269: slice fetches saved, for slices of at most 16 KiB. -/
def coalesced (sliceBytes : Nat) (l : List (Option Nat)) : Nat :=
  if 16384 < sliceBytes then 0 else
    let ws := (chunks 64 l).map (fun w => w.filterMap id)
    (ws.foldl (fun (acc : Nat × List Nat) w =>
      let fetched := (w.eraseDups.filter (fun x => !acc.2.contains x)).length
      (acc.1 + (w.length - fetched), w)) (0, [])).1

/-- Bytes of one slice of the source along IDX_DIM. -/
def sliceBytes (d desc : Nat) : Nat :=
  (((List.range 5).filter (fun j => j ≠ mIdxDim d)).map (mEff d desc)).foldl (· * ·) 1 * fmtBits (mSrcFmt d) / 8

/-- Set dimension `k` of an index. -/
def setDim (i : List Nat) (k v : Nat) : List Nat := i.set k v

/-- The bitmap of `n` positions that GATHER writes over the bytes `old` (R268). -/
def maskBytes (n : Nat) (bits : List Bool) (old : List Byte) : List Byte :=
  (List.range (cdiv n 8)).map (fun b => BitVec.ofNat 8 (((List.range 8).map (fun k =>
    (if 8 * b + k < n then b2n (nth false bits (8 * b + k)) else b2n (bitAt (nth 0 old b).toNat k)) * 2 ^ k)).sum))

/-- The bitmap of a GATHER is written over the bytes that stand there, or the code of the failure (R268). -/
def State.writeMask (s : State) (cl site : Nat) (t : Task) (mv : Mv) (bits : List Bool) : Except Nat State :=
  match s.places (s.core cl site) (s.accMv t mv) (.virt 0) true (maskRuns mv.desc) with
  | .error e => .error e
  | .ok mp =>
    let bs := maskBytes (xIdxCount mv.desc) bits (mp.flatMap (fun p => s.view p.a p.n))
    let s := writePieces s (mp.map (fun p => (p.a, p.n))) bs
    .ok ((if s.containment then s.sealWhole t 1 mp else s).cnt48 (kCl cl 0x80 1) bs.length)

/-- The places of the indices of positions `lo` on, `n` of them, and of their bits of a mask that is read; none where one does not
translate. -/
def State.idxPlaces (s : State) (cl site : Nat) (t : Task) (mv : Mv) (lo n : Nat) (mask : Bool) : List Place :=
  let d := mv.desc
  match s.places (s.core cl site) (s.accMv t mv) (.virt 0) false ((xIdxAddr d + 4 * lo, 4 * n) ::
      (if mask && xMaskAddr d ≠ 0 then [(xMaskAddr d + lo / 8, cdiv n 8)] else [])) with
  | .ok l => l
  | .error _ => []

/-- R556: the indices of positions `lo` on, `n` of them, and their bits of a mask that is read, have landed. -/
def State.idxLanded (s : State) (cl site : Nat) (t : Task) (mv : Mv) (lo n : Nat) (mask : Bool) : Bool :=
  s.landedAll cl (s.idxPlaces cl site t mv lo n mask)

/-- What a GATHER leaves of its bitmap: nothing leaves the core before the commit (R615), so that of a ring fill joins the
descriptors that run then; any other runs then already. -/
def State.gatherMask (s : State) (cl site : Nat) (t : Task) (mv : Mv) (bits : List Bool) : State :=
  if xMaskAddr mv.desc = 0 then s
  else if mDstSpace mv.desc = 1 then
    (s.refTable mv.xlat).modTask cl site (fun t => { t with
      commitMoves := t.commitMoves ++ [{ mv with src := none, box := none, bits := some bits }] })
  else match s.writeMask cl site t mv bits with
    | .ok s => s
    | .error _ => s

/-- GATHER (R266 to R269). What CSUM_CHK verifies are the blocks of the elements it reads (DESIGN CHOICE, log 151). -/
def State.runGather (s : State) (cl site : Nat) (t : Task) (d : Nat) (mv : Mv) : MoveRes :=
  let dim := mIdxDim d
  if mvEmpty d t.desc then s.mvRun cl site t d mv (Job.plain [] 0 (fun _ => .const 0))
  else if !s.idxLanded cl site t mv 0 (xIdxCount d) false then .wait
  else
    match s.readIdx t d mv 0 (xIdxCount d) with
    | .error e => s.mvFail cl e
    | .ok idx =>
      let eff := idx.map (effIndex (mIdxMode d) (mEff d t.desc dim))
      let j := { Job.plain (dstRows d t.desc) (mN0 d t.desc) (fun i => match (nth (none, 3) eff (nth 0 i dim)).1 with
                  | some e => .src (setDim i dim e)
                  | none => .const 0) with reads := idxReads d, masks := maskRuns d }
      match s.mvRun cl site t d mv j with
      | .done s =>
        let s := (s.idxCount cl eff).cnt48 (kCl cl 0x80 2) (coalesced (sliceBytes d t.desc) (eff.map (·.1)))
        .done (s.gatherMask cl site t mv (eff.map (·.1.isSome)))
      | r => r

/-- Positions of SCATTER or SCATTER_ADD from `lo` on that act: the bitmap lets them through (R268). `lo` is a multiple
of 8; the positions before it do not act. -/
def State.scatterEff (s : State) (t : Task) (d : Nat) (mv : Mv) (lo n : Nat) :
    Except Nat (List (Option (Option Nat × Nat))) :=
  match s.readIdx t d mv lo n, s.readMask t d mv lo n with
  | .ok idx, .ok m =>
    .ok (List.replicate lo none ++ (idx.zip m).map (fun p => if p.2 then some (effIndex (mIdxMode d) (mEff d t.desc (mIdxDim d)) p.1) else none))
  | .error a, .error b => .error (firstCode [a, b])
  | .error a, _ => .error a
  | _, .error b => .error b

/-- SCATTER (R266 to R268, R270). -/
def State.runScatter (s : State) (cl site : Nat) (t : Task) (d : Nat) (mv : Mv) : MoveRes :=
  let dim := mIdxDim d
  if mvEmpty d t.desc then s.mvRun cl site t d mv (Job.plain [] 0 (fun _ => .const 0))
  else if !s.idxLanded cl site t mv 0 (xIdxCount d) true then .wait
  else
    match s.scatterEff t d mv 0 (xIdxCount d) with
    | .error c => s.mvFail cl c
    | .ok eff =>
      let from_ := fun (v : Nat) => ((List.range eff.length).filter (fun p => match nth none eff p with
        | some (some x, _) => x = v
        | _ => false)).getLast?
      let pick := fun (i : List Nat) => match from_ (nth 0 i dim) with
        | some p => Pick.src (setDim i dim p)
        | none => .const 0
      let rows := dstRows d t.desc
      let j := if dim = 0 then
          { Job.plain rows (mN0 d t.desc) pick with reads := idxReads d ++ maskRuns d, keep := fun i0 => (from_ i0).isSome }
        else
          { Job.plain (rows.filter (fun is => (from_ (nth 0 is (dim - 1))).isSome)) (mN0 d t.desc) pick with
            reads := idxReads d ++ maskRuns d }
      match s.mvRun cl site t d mv j with
      | .done s => .done (s.idxCount cl (eff.filterMap id))
      | r => r

/-! ### SCATTER_ADD (R84, R271) -/

/-- A destination index from a row-major number over extents. -/
def unrank (e : List Nat) (n : Nat) : List Nat :=
  (e.foldl (fun (acc : List Nat × Nat) x => (acc.1 ++ [acc.2 % max 1 x], acc.2 / max 1 x)) ([], n)).1

/-- Row-major number of a destination index over extents. -/
def rank (e i : List Nat) : Nat :=
  ((e.zip i).foldr (fun p acc => p.2 + p.1 * acc) 0)

/-- The contributions of one source block: block number of the output and its records, with the events of the folds. -/
def State.scatterBlock (s : State) (c : CoreSt) (t : Task) (d : Nat) (mv : Mv)
    (eff : List (Option (Option Nat × Nat))) (blk : Nat) : List (Nat × List Nat) × Ev :=
  let dim := mIdxDim d
  let e := (List.range 5).map (mEff d t.desc)
  let acc := s.accMv t mv
  let port := mSrcPort s d mv
  let v := mSrcView d
  let ec := xElemCount d
  let ps := ((List.range 1024).map (fun k => 1024 * blk + k)).filter (fun p => p < eff.length)
  let other := e.set dim 1
  let count := other.foldl (· * ·) 1
  let adds := ps.flatMap (fun p => match nth none eff p with
    | some (some x, _) => (List.range count).map (fun k =>
        let i := unrank other k
        let val := pickValue v.fmt (.src []) (s.pickCode c acc port v (.src (setDim i dim p)))
        let w := fmtF32.round .rne false val.1
        (rank e (setDim i dim x), w.1, (⟨0, val.2.overflow, 0, 0⟩ : Ev)))
    | _ => [])
  let blocks := (adds.map (fun a => a.1 / ec)).eraseDups
  let outs := blocks.map (fun b =>
    let recs := (List.range ec).map (fun r =>
      let mine := adds.filter (fun a => a.1 = b * ec + r)
      match mine with
      | [] => (0x80000000, Ev.none)
      | a :: rest => rest.foldl (fun (z : Nat × Ev) (x : Nat × Nat × Ev) =>
          let q := nodeAdd z.1 x.2.1
          (q.1, z.2.plus q.2)) (a.2.1, Ev.none))
    ((b, recs.map (·.1)), Ev.sum (recs.map (·.2))))
  (outs.map (·.1), (Ev.sum (outs.map (·.2))).plus (Ev.sum (adds.map (·.2.2))))

/-- What SCATTER_ADD stages. -/
structure Scattered where
  staged : List Staged
  done : StagedDone
  ev : Ev
  idx : List (Option Nat × Nat)
  srcRuns : List (Nat × Nat)

/-- What SCATTER_ADD stages: contributions of its source blocks (R271), or the code of its failure. -/
def State.scatterAddStage (s : State) (cl site : Nat) (t : Task) (d : Nat) (mv : Mv) : Sum MoveRes Scattered :=
  let done : StagedDone := ⟨xGen d, xRed d, xBlkA d, xBlkB d⟩
  let e := (List.range 5).map (mEff d t.desc)
  if mvEmpty d t.desc then .inr ⟨[], done, .none, [], []⟩
  else
    let hi := min (1024 * xBlkB d) (xIdxCount d)
    let lo := min (1024 * xBlkA d) hi
    if !s.idxLanded cl site t mv lo (hi - lo) true then .inl .wait
    else match s.scatterEff t d mv lo (hi - lo) with
    | .error c => .inl (s.mvFail cl c)
    | .ok mine =>
      let c := s.core cl site
      let acc := s.accMv t mv
      let runs := ((List.range mine.length).filter (fun p => match nth none mine p with
        | some (some _, _) => true
        | _ => false)).flatMap (fun p => (List.range ((e.set (mIdxDim d) 1).foldl (· * ·) 1)).flatMap (fun k =>
          (Pick.src (setDim (unrank (e.set (mIdxDim d) 1) k) (mIdxDim d) p)).runs (mSrcView d)))
      match s.places c acc (mSrcPort s d mv) false runs with
      | .error x => .inl (s.mvFail cl x)
      | .ok pl =>
        if s.csumBad c t d mv then .inl (s.mvFail cl cDescriptor)
        else if mSrcSpace d = 1 && !slabsResident c d runs then .inl .wait
        else if !s.landedAll cl pl then .inl .wait
        else if pl.any (fun q => !q.sram && s.touchesPoison q.a q.n) then .inl (s.mvFail cl cChecksum)
        else match (if mChk d then s.badBlock pl else none).or
            (s.unverified (pl ++ s.idxPlaces cl site t mv lo (hi - lo) true)) with
          | some b => .inl (s.badBlockFail cl b)
          | none =>
            let bs := (List.range (xBlkB d - xBlkA d)).map (fun k =>
              (xBlkA d + k, s.scatterBlock c t d mv mine (xBlkA d + k)))
            .inr ⟨bs.flatMap (fun b => b.2.1.map (fun o =>
                (⟨0, xGen d, xRed d, o.1, b.1, b.1 + 1, .data o.2, 0⟩ : Staged))),
              done, Ev.sum (bs.map (fun b => b.2.2)), mine.filterMap id, runs⟩

/-! ### Window expansion (R294 to R305) -/

/-- Resolve a coordinate by a padding mode (R303): inside, +0, the constant, or a remapped coordinate. -/
def padCoord (mode e : Nat) (i : Int) : Nat × Nat :=
  if 0 ≤ i ∧ i < e then (0, i.toNat)
  else match mode with
    | 0 => (1, 0)
    | 1 => (2, 0)
    | 2 =>
      if e = 1 then (3, 0) else
        let p : Int := 2 * ((e : Int) - 1)
        let j := i % p
        (3, (if j < e then j else p - j).toNat)
    | _ => (3, if i < 0 then 0 else e - 1)

/-- R304: what coordinates resolved by their modes read: +0, the constant, or the element. -/
def padPick (rs : List (Nat × Nat)) (cst : Nat) (mk : List Nat → List Nat) : Pick :=
  if rs.any (fun r => r.1 = 1) then .pad 0
  else if rs.any (fun r => r.1 = 2) then .pad cst
  else if rs.all (fun r => r.1 = 0) then .src (mk (rs.map (·.2)))
  else .edge (mk (rs.map (·.2)))

/-- R300: what element κ of the box reads at position q. -/
def windowPick (d k q : Nat) : Pick :=
  let cp := xCp d
  let tau := k / cp
  let c := k % cp
  let npos := xOt d * xOh d * xOw d * mExt d 4
  if xKt d * xKh d * xKw d ≤ tau ∨ mExt d 0 ≤ c ∨ npos ≤ q then .const 0
  else
    let dw := tau % xKw d
    let dh := tau / xKw d % xKh d
    let dt := tau / (xKw d * xKh d)
    let xo := q % xOw d
    let yo := q / xOw d % xOh d
    let fo := q / (xOw d * xOh d) % xOt d
    let b := q / (xOw d * xOh d * xOt d)
    let coord := fun a o tap e =>
      padCoord (xPmode d a) e (((o * xStride d a + (xTap0 d a + tap) * xDil d a : Nat) : Int) - (xPadB d a : Nat))
    padPick [coord 0 xo dw (mExt d 1), coord 1 yo dh (mExt d 2), coord 2 fo dt (mExt d 3)] (xWinConst d)
      (fun l => srcIdx d [c, nth 0 l 0, nth 0 l 1, nth 0 l 2, b])

/-- One slab of a window descriptor: its picks by row or column and element. -/
def windowSlab (d k : Nat) : List (List Pick) :=
  let rows := if mOp d = opWindow then 128 else 512
  let ik := fmtIK (ctrlFmt (mCtrl d))
  let groups := xNpos d / rows
  let slices := xNleaf d * (1024 / ik)
  let g := if xSliceOuter d then k % groups else k / slices
  let sl := if xSliceOuter d then k / groups else k % slices
  (List.range rows).map (fun r => (List.range ik).map (fun i =>
    windowPick d (xLeaf0 d * 1024 + sl * ik + i) (xPos0 d + g * rows + r)))

/-- The bytes of a slab from its rows of values (R116, R301), with the events of those that are not padded (R304). -/
def packSlab (ctrl : Nat) (rows : List (List (Bool × FVal × Ev))) : List Byte × Ev :=
  let fmt := ctrlFmt ctrl
  let ev := fun (v : Bool × FVal × Ev) (e : Ev) => if v.1 then Ev.none else e
  let rs := rows.map (fun row =>
    if fmtIsMx fmt then
      let bs := (chunks 32 row).map (fun b =>
        let r := ctrlElemsMx ctrl (b.map (fun _ => 0)) (b.map (·.2.1))
        (r.1, r.2.map (·.1), Ev.sum ((b.zip r.2).map (fun z => ev z.1 (z.1.2.2.plus z.2.2)))))
      (packElems fmt (bs.flatMap (fun x => x.2.1)), bs.map (fun x => BitVec.ofNat 8 x.1),
        Ev.sum (bs.map (fun x => x.2.2)))
    else
      let xs := row.map (fun v =>
        let r := ctrlRound ctrl 0 v.2.1
        (r.1, ev v (v.2.2.once r.2)))
      (packElems fmt (xs.map (·.1)), ([] : List Byte), Ev.sum (xs.map (·.2))))
  ((rs.flatMap (·.1)) ++ (rs.flatMap (fun r => r.2.1)), Ev.sum (rs.map (fun r => r.2.2)))

/-- The source runs of a slab's picks. -/
def slabPickRuns (v : View) (sl : List (List Pick)) : List (Nat × Nat) := sl.flatMap (fun row => row.flatMap (fun k => k.runs v))

/-- WINDOW and WINDOW_T (R299 to R301). -/
def State.runWindow (s : State) (cl site : Nat) (t : Task) (d : Nat) (mv : Mv) : MoveRes :=
  let c := s.core cl site
  let rows := if mOp d = opWindow then 128 else 512
  let ik := fmtIK (ctrlFmt (mCtrl d))
  let n := xNpos d / rows * (xNleaf d * (1024 / ik))
  let v := mSrcView d
  let acc := s.accMv t mv
  let port := mSrcPort s d mv
  let slabs := (List.range n).map (windowSlab d)
  let runs := slabs.flatMap (slabPickRuns v)
  if mSrcSpace d = 1 && !slabsResident c d runs then .wait
  else
    match s.places c acc port false runs with
    | .error e => s.mvFail cl e
    | .ok pl =>
      if (mChk d && pl.any (fun q => !q.sram && !inData q.a)) || s.csumBad c t d mv then s.mvFail cl cDescriptor
      else if pl.any (fun q => !q.sram && s.touchesPoison q.a q.n) then s.mvFail cl cChecksum
      else match (if mChk d || s.containment then s.badBlock pl else none) with
        | some b => s.badBlockFail cl b
        | none =>
          let top := if s.landedAll cl pl then n else
            slabsWhile (fun k => match s.places c acc port false (slabPickRuns v (nth [] slabs k)) with
              | .ok l => s.landedAll cl l
              | .error _ => false) n n mv.sent
          if top ≤ mv.sent && top < n then .wait
          else
            let outs := ((slabs.take top).drop mv.sent).map (fun sl => packSlab (mCtrl d) (sl.map (fun row => row.map (fun k =>
              (k.padded, pickValue v.fmt k (s.pickCode c acc port v k))))))
            let ds : List Delivery := (List.range outs.length).map (fun k =>
              ⟨rsRing (mDstAddr d), (rsSlab (mDstAddr d) + (mv.sent + k)) % 2 ^ 32,
                [(rsOff (mDstAddr d), (nth ([], Ev.none) outs k).1)],
                if mv.sent + k + 1 = n && mTagEn d && !mv.tagged then some (mTag d) else none, false⟩)
            let ds := ds.filter (fun x => !mv.again || serialGe x.slab (c.ring x.ring).filled)
            let s := s.modCore cl site (fun c => { (if top = n then c.releaseRead d runs else c) with
              deliveries := c.deliveries ++ ds })
            let s := s.taskEv cl site (Ev.sum (outs.map (·.2)))
            let s := s.cnt48 (kCl cl 0x80 1) ((ds.map (fun x => (x.data.map (fun r => r.2.length)).sum)).sum)
            if top = n then .done s else .part top s

/-! ### PAD, UP2, DOWN2 (R306 to R310) -/

/-- R306: PAD. -/
def padJob (d desc : Nat) : Job :=
  Job.plain (dstRows d desc) (mN0 d desc) (fun i =>
    padPick ((List.range 4).map (fun j => padCoord (xMode d (j + 1)) (xSe d (j + 1))
      ((nth 0 i (j + 1) : Nat) - xOff d (j + 1)))) (xPadConst d) (fun l => nth 0 i 0 :: l))

/-- R308: the source coordinates along one scaled axis: one for nearest, (neighbour, centre) or a pair for linear. -/
def resampleCoords (up lin : Bool) (e o : Nat) : List Nat :=
  let cl := fun x => min x (e - 1)
  if up then
    let i := o / 2
    if !lin then [cl i]
    else if o % 2 = 0 then [i - 1, cl i] else [cl (i + 1), cl i]
  else if lin then [cl (2 * o), cl (2 * o + 1)] else [cl (2 * o)]

/-- One linear step along an axis, with its events (R308). -/
def resampleStep (up : Bool) (a b : Nat) : Nat × Ev :=
  let r := if up then (f32fma 0x3E800000 a (f32mul 0x3F400000 b).1).1 else (f32mul (f32add a b).1 0x3F000000).1
  (r, nodeEvents [(r, [a, b])])

/-- Combine along the scaled axes in the order width, height, time: pairs of neighbours first. -/
def resampleComb (up : Bool) : Nat → List Nat → Nat × Ev
  | 0, l => (nth 0 l 0, .none)
  | n + 1, l =>
    let ps := (chunks 2 l).map (fun p => resampleStep up (nth 0 p 0) (nth 0 p 1))
    let r := resampleComb up n (ps.map (·.1))
    (r.1, (Ev.sum (ps.map (·.2))).plus r.2)

/-- R308, R309: UP2 and DOWN2. -/
def resampleJob (d desc : Nat) : Job :=
  let up := mOp d = opUp2
  let se := mSrcExt d desc true
  let axes := (List.range 3).filter (fun k => xAxis d (k + 1))
  let coords := fun (i : List Nat) (k : Nat) =>
    if k ≠ 0 ∧ k ≠ 4 ∧ xAxis d k then resampleCoords up (xLinear d) (nth 0 se k) (nth 0 i k) else [nth 0 i k]
  { Job.plain (dstRows d desc) (mN0 d desc) (fun _ => .const 0) with
    picks := fun i => (coords i 3).flatMap (fun z => (coords i 2).flatMap (fun y => (coords i 1).map (fun x =>
      .src [nth 0 i 0, x, y, z, nth 0 i 4]))),
    comb := fun _ l =>
      let r := resampleComb up axes.length l
      (r.1, ⟨0, min 1 r.2.overflow, min 1 r.2.nanCreated, 0⟩) }

/-! ### CROP (R311 to R315) -/

/-- The largest integer at or below a finite value that is not negative. -/
def FVal.floorNat : FVal → Nat
  | .fin false m e => if 0 ≤ e then m <<< e.toNat else m >>> (-e).toNat
  | _ => 0

/-- R313: the sample point of output index i along an axis. -/
def cropPoint (tm1 : Bool) (a1 a2 o i : Nat) : Nat :=
  let step := (f32mul (f32sub a2 a1).1 (sfu tm1 .rcp (f32OfNat o)).1).1
  (f32sub (f32fma (f32add (f32OfNat i) 0x3F000000).1 step a1).1 0x3F000000).1

/-- R313: a point outside the image on an axis. -/
def cropOutside (e p : Nat) : Bool :=
  f32IsNan p || (f32v p).lt .zero || (f32v (f32OfNat (e - 1))).lt (f32v p)

/-- R314: pixel of nearest mode. -/
def cropNearest (e p : Nat) : Nat := min (f32v (f32add p 0x3F000000).1).floorNat (e - 1)

/-- R314: k0, k1 and f of bilinear mode. -/
def cropLinear (e p : Nat) : Nat × Nat × Nat :=
  let k0 := (f32v p).floorNat
  (k0, min (k0 + 1) (e - 1), (f32sub p (f32OfNat k0)).1)

/-- R314: lerp. -/
def lerp (a b f : Nat) : Nat := (f32fma f b (f32mul (f32sub 0x3F800000 f).1 a).1).1

/-- The record of a box (R312). -/
def State.boxRec (s : State) (pa b : Nat) : Nat := s.word (pa + 32 * b) 32

/-- Whether a box names an image and frame that exist (R315). -/
def boxOk (d r : Nat) : Bool := fld r 255 224 < xImg d 3 && fld r 223 192 < xImg d 2

/-- R313, R314: the points of an output element. -/
def State.cropAt (s : State) (d pa : Nat) (i : List Nat) : Nat × Nat × Nat :=
  let r := s.boxRec pa (xBox0 d + nth 0 i 3)
  (r, cropPoint s.tm1 (fld r 159 128) (fld r 95 64) (mExt d 1) (nth 0 i 1),
    cropPoint s.tm1 (fld r 191 160) (fld r 127 96) (mExt d 2) (nth 0 i 2))

/-- R313 to R315: CROP, with the box list at `pa`. -/
def State.cropJob (s : State) (d desc pa : Nat) : Job :=
  let w := xImg d 0
  let h := xImg d 1
  { Job.plain (dstRows d desc) (mN0 d desc) (fun _ => .const 0) with
    picks := fun i =>
      let p := s.cropAt d pa i
      let at_ := fun x y => Pick.src [nth 0 i 0, x, y, fld p.1 223 192, fld p.1 255 224]
      if !boxOk d p.1 || cropOutside w p.2.1 || cropOutside h p.2.2 then [.const (xExtrap d)]
      else if !xBilinear d then [at_ (cropNearest w p.2.1) (cropNearest h p.2.2)]
      else
        let x := cropLinear w p.2.1
        let y := cropLinear h p.2.2
        [at_ x.1 y.1, at_ x.2.1 y.1, at_ x.1 y.2.1, at_ x.2.1 y.2.1],
    comb := fun i l =>
      let p := s.cropAt d pa i
      let fx := (cropLinear w p.2.1).2.2
      let fy := (cropLinear h p.2.2).2.2
      let r := lerp (lerp (nth 0 l 0) (nth 0 l 1) fx) (lerp (nth 0 l 2) (nth 0 l 3) fx) fy
      (r, nodeEvents [(r, l)]) }

/-- CROP (R311, R315). -/
def State.runCrop (s : State) (cl site : Nat) (t : Task) (d : Nat) (mv : Mv) : MoveRes :=
  match mv.box with
  | none => s.mvFail cl cVersion
  | some (id, e) =>
    match s.table id with
    | none => s.mvFail cl cVersion
    | some tb =>
      let bank := tb.bank e
      if bank.len * 128 < xBox0 d + mExt d 3 then s.mvFail cl cDescriptor
      else if s.touchesPoison (bank.pa + 32 * xBox0 d) (32 * mExt d 3) then s.mvFail cl cChecksum
      else match s.unverified [⟨false, bank.pa + 32 * xBox0 d, 32 * mExt d 3⟩] with
      | some b => s.badBlockFail cl b
      | none =>
        let s := s.mvCntOnce cl mv ((List.range (mExt d 3)).filter (fun k => !boxOk d (s.boxRec bank.pa (xBox0 d + k)))).length
        s.mvRun cl site t d mv (s.cropJob d t.desc bank.pa)

/-! ### One descriptor of any operation that writes -/

/-- Run a descriptor by its operation. SCATTER_ADD stages at commit and is not run here. -/
def State.runMove (s : State) (cl site : Nat) (t : Task) (mv : Mv) : MoveRes :=
  let d := mv.desc
  let op := mOp d
  if op = opCopy then s.runCopy cl site t d mv
  else if op = opFill then s.runFill cl site t d mv
  else if op = opGather then s.runGather cl site t d mv
  else if op = opScatter then s.runScatter cl site t d mv
  else if isWindowOp op then s.runWindow cl site t d mv
  else if op = opPad then s.mvRun cl site t d mv (padJob d t.desc)
  else if op = opCrop then s.runCrop cl site t d mv
  else s.mvRun cl site t d mv (resampleJob d t.desc)

end Sys2Proof.Machine
end

