-- ==== Sys2Proof/Machine/Fence.lean ====
section
/-! DEFINITION. Fencing a core and numbering the cores (R5, R145, R279, R599 to R603). -/

namespace Sys2Proof

/-- The cluster of a core. -/
def CoreId.c (k : CoreId) : Nat := k.cl.val
/-- The site of a core. -/
def CoreId.s (k : CoreId) : Nat := k.site.val

end Sys2Proof

namespace Sys2Proof.Machine

/-- R5: logical core numbers over the sites that are neither disabled nor fenced, in cluster-then-site order. -/
def State.renumber (s : State) : State :=
  ((List.range 96).foldl (fun (acc : State × Nat) i =>
    let st := acc.1.siteState (i / 8) (i % 8)
    if st = 1 ∨ st = 2 then (acc.1.setObj (kCore (i / 8) (i % 8) 0 2) acc.2, acc.2 + 1)
    else (acc.1.setObj (kCore (i / 8) (i % 8) 0 2) 0xFF, acc.2)) (s, 0)).1

/-- Release the table references of a task's descriptors (R524). -/
def State.unrefMoves (s : State) (l : List Mv) : State :=
  l.foldl (fun s m => ((s.unrefTable m.xlat).unrefTable m.src).unrefTable m.box) s

/-- A task whose commit has begun ends with FENCED when its descriptors stop (R279); any other leaves the core. -/
def fencedTask (t : Option Task) : Option Task :=
  match t with
  | some t =>
    if t.committed then some { t with codes := if t.commitMoves.isEmpty then t.codes else t.codes ++ [cFenced],
                                      commitMoves := [], moves := [] }
    else none
  | none => none

/-- R145: the core's sequencer stops and everything in it is discarded. -/
def State.discardCore (s : State) (cl site : Nat) : State :=
  let c := s.core cl site
  let s := match c.task with
    | some t => s.unrefMoves (t.moves ++ t.commitMoves)
    | none => s
  s.setCore cl site { CoreSt.empty with task := fencedTask c.task, rmem := c.rmem, resident := c.resident }

/-- Whether every enabled core of a cluster is fenced (R603). -/
def State.noCores (s : State) (cl : Nat) : Bool :=
  (List.range 8).all (fun k => s.siteState cl k = 0 || s.siteState cl k = 3)

/-- R620: a commit ends with COMMIT_STATE FAILED. -/
def State.commitFail (s : State) (c : Nat) : State :=
  let n := (s.ctx c).commitNext
  let s := s.modCtx c (fun k => { k with commitStage := 0, commitHdr := [], commitFailed := false })
  let s := { s with fab := { s.fab with remote := s.fab.remote.filter (fun r => r.commit.all (fun (x : Nat × Nat) => x.1 ≠ c)) } }
  (s.setObj (kCommit c 5) 3).event 0x35 2 c n 0

/-- R617: a fault of a core on which a task of a committing context runs ends that commit. -/
def State.faultCommit (s : State) (cl site : Nat) : State :=
  match (s.core cl site).task with
  | some t => if s.obj (kCommit t.ctx 5) = 1 then s.commitFail t.ctx else s
  | none => s

/-- R599, R600: a core that is not disabled or fenced already is fenced with a cause; 6 is a FENCE write, every other a fault. -/
def State.fenceCore (s : State) (cl site cause : Nat) : State :=
  if s.siteState cl site = 0 ∨ s.siteState cl site = 3 then s
  else
    let s := if cause = 6 then s else s.faultCommit cl site
    let s := s.discardCore cl site
    let s := s.modCore cl site (fun c => { c with rmem := [], resident := false })
    let s := (s.setObj (kCore cl site 0 1) 3).setObj (kCore cl site 3 3) cause
    let s := (s.cnt16 (kDev 0x4010 3) 1).renumber
    let s := s.event 0x20 2 0xFF (cl * 8 + site) cause
    if s.noCores cl then s.event 0x21 2 0xFF cl 0 else s

end Sys2Proof.Machine
end

