-- ==== Sys2Proof/Machine/Glide.lean ====
section
/-! DEFINITION. Glide: the state header and layout, the delta pass, the checks of a glided product, and the commit of a
glided task (R350 to R364, R368, R369, R373, R374). -/

namespace Sys2Proof.Machine

/-! ### The glide state (R352, R353) -/

/-- M of a state header. -/
def ghM (h : Nat) : Nat := fld h 443 420
/-- N. -/
def ghN (h : Nat) : Nat := fld h 419 396
/-- K. -/
def ghK (h : Nat) : Nat := fld h 395 372
/-- FMT_A. -/
def ghFmtA (h : Nat) : Nat := fld h 363 360
/-- Kb: K-blocks. -/
def ghKb (h : Nat) : Nat := cdiv (ghK h) 128
/-- Kp: K rounded up to a multiple of 1,024. -/
def ghKp (h : Nat) : Nat := cdiv (ghK h) 1024 * 1024
/-- R: row blocks. -/
def ghR (h : Nat) : Nat := cdiv (ghM h) 128
/-- NT: N tiles. -/
def ghNt (h : Nat) : Nat := cdiv (ghN h) 512
/-- Bytes of a row block's part of the skip map. -/
def ghMapBytes (h : Nat) : Nat := cdiv (ghKb h) 512 * 64

/-- The next 4 KiB boundary. -/
def up4k (a : Nat) : Nat := cdiv a 4096 * 4096

/-- First address of the row table. -/
def gaRows (r : Nat) : Nat := up4k (glState r + 64)
/-- First address of the Y stamp table. -/
def gaYs (r h : Nat) : Nat := up4k (gaRows r + ghR h * 8)
/-- First address of the skip map. -/
def gaMap (r h : Nat) : Nat := up4k (gaYs r h + ghR h * ghNt h * 4)
/-- First address of X_REF. -/
def gaX (r h : Nat) : Nat := up4k (gaMap r h + ghR h * ghMapBytes h)

/-- R356: the conditions of FULL mode. -/
def glideFull (r h : Nat) : Bool :=
  let last := fld h 475 444
  glForce r || glStep r = 0 || !bitAt h 511 || fld h 510 508 ≠ glSlot r || fld h 507 476 ≠ glVersion r ||
  serialGe (glStep r) (last + glF r) || last = glStep r

/-- The header of a full step (R359). -/
def fullHeader (r h : Nat) : Nat :=
  at' 1 511 511 + at' (glSlot r) 510 508 + at' (glVersion r) 507 476 + at' (glStep r) 475 444 + fld h 443 0

/-! ### The delta pass (R356 to R361) -/

/-- Elements of one row of a matrix of X_FMT as binary32. -/
def xRow (fmt : Nat) (bs : List Byte) (n : Nat) : List Nat :=
  (List.range n).map (fun k => (elemToF32 fmt (unpackElem fmt bs k) 127).1)

/-- A block of a row block in GLIDE mode: a, s, and whether it is computed (R357, R358). -/
def blockTest (theta : Nat) (ds xr xs : List Nat) : Nat × Bool :=
  let absMax := fun (f : Nat → Nat → Nat) (l : List Nat) => l.foldl (fun m v => f m (v % 2 ^ 31)) 0
  let maxN := fun (a b : Nat) => if f32IsNan a ∨ f32IsNan b then f32Nan else f32max a b
  let a := absMax maxN ds
  let s := absMax f32max xr
  let bad := (xr ++ xs).any (fun v => !f32Finite v)
  let lim := (f32mul theta s).1
  (a, bad || !(!f32IsNan a && !(f32v lim).lt (f32v a)))

/-- One row of the delta buffer: element bytes, scale bytes, events. -/
def deltaRow (ctrl kp : Nat) (vals : List (Nat × Ev)) : List Byte × List Byte × Ev :=
  let fmt := ctrlFmt ctrl
  let at_ := fun k => nth (0, Ev.none) vals k
  if fmtIsMx fmt then
    let bs := (List.range (kp / 32)).map (fun g =>
      let js := (List.range 32).map (fun k => 32 * g + k)
      let q := ctrlRoundMx ctrl (js.map (fun _ => 0)) (js.map (fun k => f32v (at_ k).1))
      (q.1, q.2.1, (Ev.sum (js.map (fun k => (at_ k).2))).plus q.2.2))
    (packElems fmt (bs.flatMap (fun x => x.2.1)), bs.map (fun x => BitVec.ofNat 8 x.1), Ev.sum (bs.map (fun x => x.2.2)))
  else
    let xs := (List.range kp).map (fun k =>
      let q := ctrlRound ctrl 0 (f32v (at_ k).1)
      (q.1, (at_ k).2.once q.2))
    (packElems fmt (xs.map (·.1)), [], Ev.sum (xs.map (·.2)))

/-- What a delta pass stages: writes, stamps, events and counts. -/
structure DeltaOut where
  out : List (Nat × List Byte)
  tabs : List (Nat × List Byte)
  stamps : List Nat
  ev : Ev
  counts : List Nat

/-- One row block of a delta pass (R357 to R360): `x` and `xr` give the rows below the run-time M, `rows` rows in all. -/
def deltaBlock (r h : Nat) (full : Bool) (rb rtRows rows : Nat) (x xr : List (List Nat)) (xBytes : List (List Byte)) :
    DeltaOut :=
  let ctrl := glCtrl r
  let k := ghK h
  let kp := ghKp h
  let fmt := ctrlFmt ctrl
  let xeb := fmtBits (glXFmt r) / 8
  let ds := (List.range rtRows).map (fun i => (List.range k).map (fun e =>
    if full then (nth 0 (nth [] x i) e, Ev.none)
    else
      let z := f32sub (nth 0 (nth [] x i) e) (nth 0 (nth [] xr i) e)
      (z.1, ⟨0, z.2.overflow, z.2.nanCreated, 0⟩)))
  let part := fun (l : List (List Nat)) (j : Nat) => l.flatMap (fun row => (row.drop (128 * j)).take 128)
  let tests := (List.range (ghKb h)).map (fun j =>
    if full then (0, true) else blockTest (glTheta r) (part (ds.map (fun l => l.map (·.1))) j) (part xr j) (part x j))
  let on := fun e => (nth (0, false) tests (e / 128)).2
  let rowsOut := (List.range rows).map (fun i =>
    deltaRow ctrl kp (if i < rtRows then (List.range k).map (fun e => if on e then nth (0, Ev.none) (nth [] ds i) e else (0, Ev.none))
      else []))
  let row := fun i => 128 * rb + i
  let rowB := kp * fmtBits fmt / 8
  let dOut := (List.range rows).flatMap (fun i =>
    let q := nth ([], [], Ev.none) rowsOut i
    (glD r + row i * rowB, q.1) ::
    (if fmtIsMx fmt then [(glD r + ghM h * rowB + row i * (kp / 32), q.2.1)] else []))
  let xOut := (List.range rtRows).flatMap (fun i =>
    if full then [(gaX r h + row i * k * xeb, (nth [] xBytes i))]
    else ((List.range (ghKb h)).filter (fun j => (nth (0, false) tests j).2)).map (fun j =>
      (gaX r h + row i * k * xeb + 128 * j * xeb, ((nth [] xBytes i).drop (128 * j * xeb)).take (min 128 (k - 128 * j) * xeb))))
  let mapBytes := (List.range (ghMapBytes h)).map (fun b => BitVec.ofNat 8 (((List.range 8).map (fun q =>
    b2n (8 * b + q < ghKb h && (nth (0, false) tests (8 * b + q)).2) * 2 ^ q)).sum))
  let entry := at' (glStamp r) 63 32 + at' (b2n full) 31 31
  let skipped := tests.filter (fun t => !t.2)
  let umax := fun (l : List Nat) => l.foldl max 0
  { out := dOut ++ xOut
    tabs := [(gaMap r h + rb * ghMapBytes h, mapBytes), (gaRows r + rb * 8, toLE 8 entry)]
    stamps := [gaRows r + rb * 8 + 4]
    ev := Ev.sum (rowsOut.map (fun q => q.2.2))
    counts := if full then [0, 0, 1, 0, 0, 0]
      else [tests.length - skipped.length, skipped.length, 0, 1, umax (tests.map (·.1)), umax (skipped.map (·.1))] }

/-- Join two parts of a delta pass. -/
def DeltaOut.join (a b : DeltaOut) : DeltaOut :=
  { out := a.out ++ b.out, tabs := a.tabs ++ b.tabs, stamps := a.stamps ++ b.stamps, ev := a.ev.plus b.ev
    counts := (List.range 6).map (fun i =>
      if i < 4 then nth 0 a.counts i + nth 0 b.counts i else max (nth 0 a.counts i) (nth 0 b.counts i)) }

/-- Read rows of a matrix, or the codes of the failures. -/
def State.readRows (s : State) (acc : Acc) (addr : Nat → Nat) (rows : List Nat) (n : Nat) : Except Nat (List (List Byte)) :=
  collect (rows.map (fun i => s.readVa acc (addr i) n))

/-- R361, R433: the first data block of rows of X_REF that does not check. -/
def State.badRows (s : State) (acc : Acc) (addr : Nat → Nat) (rows : List Nat) (n : Nat) : Option Nat :=
  s.badBlock (rows.flatMap (fun i => match s.trans acc (addr i) n false with
    | .ok l => l.map (fun q => ⟨false, q.1, q.2⟩)
    | .error _ => []))

/-- The rows of a row block below a limit. -/
def glideRows (rb limit : Nat) : List Nat := (List.range (min 128 (limit - 128 * rb))).map (fun i => 128 * rb + i)

/-- One row block of a delta pass: what it stages, or the code and the block that failed its check. -/
def State.deltaOne (s : State) (acc : Acc) (r h : Nat) (full : Bool) (rtM rb : Nat) :
    Except (Nat × Option Nat) DeltaOut :=
  let xb := ghK h * (fmtBits (glXFmt r) / 8)
  let rows := glideRows rb rtM
  let xa := fun i => glX r + i * glXStride r
  let ra := fun i => gaX r h + i * xb
  match s.readRows acc xa rows xb, (if full then .ok [] else s.readRows acc ra rows xb) with
  | .ok x, .ok xr =>
    match (if s.containment then s.badRows acc xa rows xb else none).or
        (if full then none else s.badRows acc ra rows xb) with
    | some b => .error (cChecksum, some b)
    | none =>
      let vals := fun (l : List (List Byte)) => l.map (fun bs => xRow (glXFmt r) bs (ghK h))
      .ok (deltaBlock r h full rb rows.length (min 128 (ghM h - 128 * rb)) (vals x) (vals xr) x)
  | .error a, .error b => .error (firstCode [a, b], none)
  | .error a, _ => .error (a, none)
  | _, .error b => .error (b, none)

/-- The row blocks of a delta pass in order. -/
def State.deltaAll (s : State) (acc : Acc) (r h : Nat) (full : Bool) (rtM : Nat) :
    List Nat → DeltaOut → Except (Nat × Option Nat) DeltaOut
  | [], d => .ok d
  | rb :: rest, d =>
    match s.deltaOne acc r h full rtM rb with
    | .error e => .error e
    | .ok x => s.deltaAll acc r h full rtM rest (d.join x)

/-- R351: what the header shows about a DELTA task: DELTA_CTRL's format, and row blocks of the matrix. -/
def deltaBad (r h : Nat) : Bool := ctrlFmt (glCtrl r) ≠ ghFmtA h || ghR h < glRowb0 r + glRowbs r

/-- DELTA_TASK: the mover runs the delta pass of a task whose list holds END only, and stages its outputs. The run-time M
is that of EXT0. -/
def State.deltaPass (s : State) (cl site : Nat) : State :=
  match s.liveTask cl site with
  | none => s
  | some t =>
    match (if t.isDelta && t.ended && !t.gDone then t.glide else none) with
    | none => s
    | some r =>
      let acc := s.accTask t (s.xlatTag t.ctx)
      match s.readVaNat acc (glState r) 64 with
      | .error e => s.taskFail cl site e
      | .ok h =>
        let rtM := extM (extWord t.desc 0)
        if deltaBad r h then s.taskFail cl site cDescriptor
        else if ghM h < rtM then s.taskFail cl site cExtent
        else
          let full := glideFull r h
          match s.deltaAll acc r h full rtM ((List.range (glRowbs r)).map (fun i => glRowb0 r + i))
            ⟨[], [], [], .none, [0, 0, 0, 0, 0, 0]⟩ with
          | .error (c, b) =>
            let s := match b with
              | some k => s.noteBadBlock cl k
              | none => s
            s.taskFail cl site c
          | .ok d =>
            let hdr := if full then [(glState r, toLE 64 (fullHeader r h))] else []
            (s.modTask cl site (fun t => { t with
              gFull := full, gDone := true, gOut := d.out, gTabs := d.tabs ++ hdr, gStamps := d.stamps, gCounts := d.counts })).taskEv
              cl site d.ev

/-- DELTA_TASK (R357). -/
def execDeltaTask (core : CoreId) (s : State) : Host.Outcome State Fault Refusal := .next (s.deltaPass core.c core.s)

/-! ### The glided product (R362 to R364) -/

/-- R362 and R351: what the header and the record show about the MMA_TILE of a PRODUCT task. -/
def productBad (c : CoreSt) (r h w : Nat) (m n : Nat) : Bool :=
  cMode w ≠ 0 || cLeafA w ≠ 0 || cLeafB w ≠ ghKp h / 1024 || cPro w ≠ 0xFF || cFa w ≠ ghFmtA h ||
  cFa w = 0 || cFa w = 0xB || cRow0 w % 128 ≠ 0 || cCol0 w % 512 ≠ 0 || ghM h < cRow0 w + m || ghN h < cCol0 w + n ||
  ctrlFmt (glCtrl r) ≠ ghFmtA h ||
  !ringServes (c.ring (glYRing r)) (cM false w * cN w) (128 * 512 * (fmtBits (glYFmt r) / 8))

/-- R364: the slices of a sub-tile row that GLIDE mode skips, from the row block's part of the skip map. -/
def rowSkips (w mi : Nat) (map : Nat) : List Nat :=
  let ik := fmtIK (cFa w)
  ((List.range (cS w)).filter (fun k =>
    ((List.range (cdiv ik 128)).all (fun q => !bitAt map (k * ik / 128 + q))))).map (sliceKey mi)

/-- The mode, the skipped slices and the stamps of a PRODUCT task, or the code that stops it. -/
def State.productStart (s : State) (c : CoreSt) (t : Task) (r w : Nat) : Except Nat (Bool × List Nat × List Nat) :=
  let acc := s.accTask t (s.xlatTag t.ctx)
  let e := extWord t.desc (cExtSel w)
  match s.readVaNat acc (glState r) 64 with
  | .error x => .error x
  | .ok h =>
    if productBad c r h w (extM e) (extN e) then .error cDescriptor
    else
      let rbs := (List.range (cdiv (extM e) 128)).map (fun i => cRow0 w / 128 + i)
      match collect (rbs.map (fun b => s.readVaNat acc (gaRows r + b * 8) 8)),
          collect (rbs.map (fun b => s.readVaNat acc (gaMap r h + b * ghMapBytes h) (ghMapBytes h))) with
      | .ok rows, .ok maps =>
        if rows.any (fun x => fld x 63 32 ≠ glStamp r) then .error cDescriptor
        else
          let full := rows.all (fun x => bitAt x 31)
          let skips := if full then [] else (List.range rbs.length).flatMap (fun mi => rowSkips w mi (nth 0 maps mi))
          let stamps := rbs.flatMap (fun b => (List.range (cdiv (extN e) 512)).map (fun j =>
            gaYs r h + (b * ghNt h + cCol0 w / 512 + j) * 4))
          .ok (full, skips, stamps)
      | .error a, _ => .error a
      | _, .error b => .error b

/-! ### The commit of a glided task (R368, R369, R373, R374) -/

/-- R368: the codes of the stamp test: LEASE_LOST where a stamp that the task would write is not older than STEP + 1, and
those of reads that fail (R256, R434). -/
def State.stampCodes (s : State) (t : Task) (r : Nat) : List Nat :=
  let acc := s.accTask t (s.xlatTag t.ctx)
  t.gStamps.filterMap (fun a => match s.readVaNat acc a 4 with
    | .ok v => if glStamp r ≠ v && serialGe (glStamp r) v then none else some cLeaseLost
    | .error e => some e)

/-- R373, R445, R610: the codes of the atomics on a DELTA task's counter record. -/
def State.countCodes (s : State) (t : Task) (r : Nat) : List Nat :=
  if !t.isDelta then []
  else if s.scratchSize (glCtrCl r) < glCtrOff r * 64 + 64 then [cDescriptor]
  else if !s.clServes (glCtrCl r) then [cFenced]
  else []

/-- R373, R374: the counter record and the device totals take a DELTA task's counts. -/
def State.glideCounts (s : State) (t : Task) (r : Nat) : State :=
  let off := glCtrOff r * 64
  if !t.isDelta then s
  else
    let s := (s.cnt48 (kDev 0x2010 5) (nth 0 t.gCounts 0)).cnt48 (kDev 0x2010 4) (nth 0 t.gCounts 1)
    if !(s.countCodes t r).isEmpty then s
    else
      let pa := scratchPa (glCtrCl r) off
      let s := (List.range 4).foldl (fun s i =>
        s.putWord (pa + 8 * i) 8 ((s.word (pa + 8 * i) 8 + nth 0 t.gCounts i) % 2 ^ 64)) s
      let s := (List.range 2).foldl (fun s i =>
        s.putWord (pa + 32 + 4 * i) 4 (max (s.word (pa + 32 + 4 * i) 4) (nth 0 t.gCounts (4 + i)))) s
      (s.unland pa 64).cnt48 (kCl (glCtrCl r) 0x90 4) 6

/-- R361: the data blocks that staged outputs touch are written with their checksums, whole blocks and blocks of which the
pass has written a part alike. A POISONED block of which it has written a part stays as it is (R434). -/
def State.sealTouched (s : State) (t : Task) (l : List Place) : State :=
  let whole := ((coverMap ((l.filter (fun p => !p.sram && inData p.a)).map (fun p => (p.a, p.n)))).filter
    (fun b => 4096 ≤ b.2)).map (·.1)
  (blocksOf l).foldl (fun s b =>
    if sideState (s.sideOf b) = 2 && !whole.contains b then s
    else s.seal b (s.blockCrc b) 3 t.ctx (fld t.desc 1023 992) t.step) s

/-- R359, R361, R368: the writes of a glided task that publishes: staged outputs with the checksums of the delta buffer and
X_REF, stamps and counters. -/
def State.glidePublish (s : State) (t : Task) (r : Nat) : State :=
  let acc := s.accTask t (s.xlatTag t.ctx)
  let s := (t.gOut ++ t.gTabs).foldl (fun (s : State) (w : Nat × List Byte) => s.tryWriteVa acc w.1 w.2) s
  let ps := t.gOut.flatMap (fun (w : Nat × List Byte) => match s.trans acc w.1 w.2.length true with
    | .ok l => l.map (fun q => (⟨false, q.1, q.2⟩ : Place))
    | .error _ => [])
  let s := s.sealTouched t ps
  let s := t.gStamps.foldl (fun s a => s.tryWriteVa acc a (toLE 4 (glStamp r))) s
  s.glideCounts t r

/-- The codes of a staged write that its translation refuses (R258): nothing is published then. -/
def State.glideCodes (s : State) (t : Task) : List Nat :=
  let acc := s.accTask t (s.xlatTag t.ctx)
  (((t.gOut ++ t.gTabs).map (fun (w : Nat × List Byte) => (w.1, w.2.length))) ++ t.gStamps.map (fun a => (a, 4))).filterMap
    (fun (w : Nat × Nat) =>
    match s.trans acc w.1 w.2 true with
    | .ok _ => none
    | .error e => some e)

end Sys2Proof.Machine
end

