-- ==== Sys2Proof/Machine/Sequencer.lean ====
section
/-! DEFINITION. The core sequencer and its commands (R129 to R132, R140, R141, R152, R214, R278, R475, R626). -/

namespace Sys2Proof.Machine

/-- The access of a task's own fetches: its commands, descriptors and binding block. -/
def State.accNow (s : State) (t : Task) : Acc := s.accTask t (s.xlatTag t.ctx)

/-- The 32-byte command at an index of the task's list (R130, R286). -/
def State.fetchCmd (s : State) (t : Task) (i : Nat) : Except Nat Nat :=
  if t.cmds.isEmpty then s.readVaNat (s.accNow t) (fld t.desc 751 704 + 32 * i) 32
  else .ok (nth 0 t.cmds i)

/-- Opcodes of R130. -/
def opcodeDefined (o : Nat) : Bool :=
  (1 ≤ o && o ≤ 6) || o = 0x10 || o = 0x11 || o = 0x20

/-- R351: commands that a glided task may not hold. A PRODUCT task holds one MMA_TILE. -/
def Task.glideOpBad (t : Task) (o : Nat) : Bool :=
  (t.isDelta && o ≠ 1) ||
  (t.isProduct && (o = 0x11 || o = 0x20 || (o = 0x10 && t.gDone) || (o = 1 && !t.gDone)))

/-- The task's next command starts: the sequencer passes on, and its bytes join the control signature (R626). -/
def Task.started (t : Task) (w : Nat) : Task :=
  { t with cmdIndex := t.cmdIndex + 1, cmdNum := t.cmdNum + 1, sigBytes := t.sigBytes ++ toLE 32 w }

/-- R130, R131: the sequencer of a core meets its next command. A reserved opcode completes the task with DESCRIPTOR; a
command of another opcode than `op` is left alone; otherwise `k` runs it, or waits by answering none. -/
def State.seqCmd (s : State) (cl site op : Nat) (k : State → Task → Nat → Option State) : State :=
  match s.liveTask cl site with
  | none => s
  | some t =>
    if t.ended || !t.imageDone || t.hold.isSome then s else
      match s.fetchCmd t t.cmdIndex with
      | .error c => s.taskFail cl site c
      | .ok w =>
        let o := fld w 255 248
        if !opcodeDefined o || t.glideOpBad o then s.taskFail cl site cDescriptor
        else if o ≠ op then s
        else (k s t w).getD s

/-- Start a command and change the task. -/
def State.startCmd (s : State) (cl site w : Nat) (f : Task → Task) : State :=
  s.modTask cl site (fun t => f (t.started w))

/-! ### END (R130, R626) -/

/-- A plan by number. -/
def State.plan (s : State) (id : Nat) : Option Plan := s.disp.plans.find? (fun p => p.id = id)

/-- The commands that a task's signature covers, as bytes, and their number: those that it has started, and the template's as
they stand for a core tile of a plan, whose own commands follow from them (R286, R626; DEDUCED, log 153). -/
def State.signed (s : State) (t : Task) : List Byte × Nat :=
  match t.plan.bind s.plan with
  | some p => (p.tmpl.flatMap (toLE 32), p.tmpl.length)
  | none => (t.sigBytes, t.cmdNum)

/-- The signature record that stands before a command list checks (R626). -/
def State.signatureOk (s : State) (t : Task) : Bool :=
  match s.readVaNat (s.accNow t) (fld t.desc 751 704 - 32) 32 with
  | .error _ => false
  | .ok r => fld r 31 0 = crc32c (s.signed t).1 && fld r 63 32 = (s.signed t).2

/-- END: the list ends; in containment mode its signature is compared, and a mismatch fences the core. A deferred group
left open breaks R234. -/
def State.endList (s : State) (cl site : Nat) : State :=
  s.seqCmd cl site 1 (fun s t w =>
    if fld w 247 0 ≠ 0 then some (s.taskFail cl site cDescriptor)
    else
      let s := s.startCmd cl site w (fun t => { t with ended := true })
      if s.containment && !s.signatureOk (t.started w) then some (s.fenceCore cl site 5)
      else if (s.core cl site).group.any (fun g => !g.whole) then some (s.taskFail cl site cDescriptor)
      else some s)

/-- END (R130). -/
def execEndList (core : CoreId) (s : State) : Host.Outcome State Fault Refusal := .next (s.endList core.c core.s)

/-! ### RING (R129) -/

/-- Rings that generators take slabs of. -/
def genRings (b : Nat) (l : List GenUse) : List Nat := l.map (fun g => agRing (bAg b g.gen))

/-- Rings that a command in progress still reads or writes (R129): its input rings until the last read of them, its
output ring and those of its epilogue's generators to its end, those of its prologue's to its last slab. -/
def tileRings (t : Tile) : List Nat :=
  (if t.allIssued then [] else [t.actRing, cWRing t.cmd]) ++
  (if t.proLeft then [cARing t.cmd, bProRing t.binding] ++ genRings t.binding t.proGens else []) ++
  [cORing t.cmd] ++ genRings t.binding t.epiGens

/-- Rings that a descriptor reads or writes. -/
def mvRings (m : Mv) : List Nat :=
  if m.bits.isSome then [] else (if mSrcSpace m.desc = 1 ∧ mOp m.desc ≠ opFill then [rsRing (mSrcAddr m.desc)] else []) ++
  (if mDstSpace m.desc = 1 then [rsRing (mDstAddr m.desc)] else [])

/-- R129: an earlier command of the task still reads or writes a ring. -/
def CoreSt.ringBusy (c : CoreSt) (t : Task) (r : Nat) : Bool :=
  c.deliveries.any (fun d => d.ring = r) || c.tiles.any (fun x => (tileRings x).contains r) ||
  (t.isProduct && !c.tiles.isEmpty && t.glide.any (fun g => glYRing g = r)) ||
  c.groups.any (fun g => g.held.any (fun h => cORing h.cmd = r || (genRings h.binding h.gens).contains r)) ||
  (c.sect.toList ++ c.routines).any (fun x => (genRings x.binding x.gens).contains r) ||
  (t.moves ++ t.commitMoves).any (fun m => (mvRings m).contains r) ||
  t.staged.any (fun g => match g.src with
    | .slab k _ _ _ => k = r
    | .data _ => false)

/-- R129: an entry that may not be written. -/
def CoreSt.ringBad (c : CoreSt) (n : Nat) (r : Ring) : Bool :=
  sramSize < r.base + r.size || fld r.entry 25 0 ≠ 0 ||
  (r.valid && (r.slab = 0 || 0x40000 < r.slab || r.count = 0 ||
    c.rings.any (fun p => p.1 ≠ n && p.2.valid && ringsOverlap p.2 r)))

/-- RING: writes the entry and clears its counters, once no earlier command uses the ring. -/
def State.ringCmd (s : State) (cl site : Nat) : State :=
  s.seqCmd cl site 2 (fun s t w =>
    let n := fld w 247 244
    let c := s.core cl site
    let r : Ring := { Ring.empty with entry := fld w 127 64 }
    if fld w 243 128 ≠ 0 || fld w 63 0 ≠ 0 then some (s.taskFail cl site cDescriptor)
    else if c.ringBusy t n then none
    else if c.ringBad n r then some (s.taskFail cl site cDescriptor)
    else some ((s.modCore cl site (fun c => { c.modRing n (fun _ => r) with
      prior := if c.tiles.isEmpty then [] else c.prior ++ [(t.cmdIndex, n, c.ring n)] })).startCmd cl site w id))

/-- RING (R129). -/
def execRing (core : CoreId) (s : State) : Host.Outcome State Fault Refusal := .next (s.ringCmd core.c core.s)

/-! ### WAIT, WAIT_RELEASE, SIGNAL, YIELD (R132, R456, R475, R610) -/

/-- WAIT: its start is a yield point, and it holds back every later command. -/
def State.waitCmd (s : State) (cl site : Nat) : State :=
  s.seqCmd cl site 3 (fun s _ w =>
    if fld w 231 224 ≠ 0 || fld w 191 0 ≠ 0 || 12287 < fld w 247 232 then some (s.taskFail cl site cDescriptor)
    else some (s.modTask cl site (fun t => { t with hold := some 3, yieldReported := false })))

/-- WAIT (R132). -/
def execWait (core : CoreId) (s : State) : Host.Outcome State Fault Refusal := .next (s.waitCmd core.c core.s)

/-- WAIT_RELEASE (R244): the waiting WAIT proceeds when tag - VALUE is at least 0 in serial-number order, once its yield
point has been passed; a tag of a cluster that serves nothing completes the task with FENCED (R610). -/
def State.waitReleaseCmd (s : State) (cl site : Nat) : State :=
  match s.liveTask cl site with
  | none => s
  | some t =>
    if t.hold ≠ some 3 || !t.yieldReported then s else
      match s.fetchCmd t t.cmdIndex with
      | .error c => s.taskFail cl site c
      | .ok w =>
        let g := fld w 247 232
        if !s.clServes (tagCl g) then s.taskFail cl site cFenced
        else if serialGe (s.tag t.ctx g) (fld w 223 192) then
          s.startCmd cl site w (fun t => { t with hold := none, yieldReported := false })
        else s

/-- WAIT_RELEASE (R244). -/
def execWaitRelease (core : CoreId) (s : State) : Host.Outcome State Fault Refusal :=
  .next (s.waitReleaseCmd core.c core.s)

/-- SIGNAL: the increment takes effect at the task's commit (R143). -/
def State.signalCmd (s : State) (cl site : Nat) : State :=
  s.seqCmd cl site 4 (fun s _ w =>
    if fld w 231 224 ≠ 0 || fld w 191 0 ≠ 0 || 12287 < fld w 247 232 then some (s.taskFail cl site cDescriptor)
    else some (s.startCmd cl site w (fun t => { t with signals := t.signals ++ [(fld w 247 232, fld w 223 192)] })))

/-- SIGNAL (R132). -/
def execSignal (core : CoreId) (s : State) : Host.Outcome State Fault Refusal := .next (s.signalCmd core.c core.s)

/-- A deferred group that is not complete is broken by a command between its members (R234). -/
def CoreSt.breakGroup (c : CoreSt) : CoreSt :=
  { c with group := c.group.map (fun g => if g.whole then g else { g with broken := true }) }

/-- YIELD: a yield point with its declared live state; it holds back every later command until the point is passed. One
that falls in a deferred group breaks R234. -/
def State.yieldC (s : State) (cl site : Nat) : State :=
  s.seqCmd cl site 6 (fun s _ w =>
    if fld w 223 0 ≠ 0 || (s.core cl site).group.any (fun g => !g.whole) then
      some (s.taskFail cl site cDescriptor)
    else some (s.startCmd cl site w
      (fun t => { t with hold := some 6, yieldReported := false, liveKib := fld w 247 224 })))

/-- YIELD (R475). -/
def execYieldCmd (core : CoreId) (s : State) : Host.Outcome State Fault Refusal := .next (s.yieldC core.c core.s)

/-! ### MOVE (R251, R257, R278, R340) -/

/-- The table that SRC_TABLE names, and the types it may have (R245, R337, R521). -/
def mvLookup (d : Nat) : Option (Nat × List Nat) :=
  if mTable d = 0 ∨ mOp d = opFill then none
  else if mOp d = opCopy then some (mTable d, [2, 5])
  else some (mTable d, [5])

/-- R521: the code where SRC_TABLE names no defined table, or no current bank. -/
def State.lookupMv (s : State) (c : Nat) (l : Nat × List Nat) : Except Nat Nat :=
  match s.lookup l.1 c l.2 with
  | .error e => .error (if e = cTranslation then cVersion else e)
  | .ok e => .ok e

/-- The box list that a CROP's lookups are tagged with (R312). -/
def boxLookup (d : Nat) : Option (Nat × List Nat) := if mOp d = opCrop then some (xBoxTable d, [4]) else none

/-- A lookup that a descriptor may make: its tag, or a code. -/
def State.tagLookup (s : State) (c : Nat) (l : Option (Nat × List Nat)) : Except Nat (Option (Nat × Nat)) :=
  match l with
  | none => .ok none
  | some l => match s.lookupMv c l with
    | .error e => .error e
    | .ok e => .ok (some (l.1, e))

/-- A descriptor is issued: tagged with the epochs then current (R257, R312, R340, R524), or refused with a code. -/
def State.issueMv (s : State) (t : Task) (d : Nat) : Except Nat (State × Mv) :=
  let xl := match s.xlatTag t.ctx with
    | .ok x => some x
    | .error _ => none
  match s.tagLookup t.ctx (mvLookup d), s.tagLookup t.ctx (boxLookup d) with
  | .ok src, .ok box =>
    .ok (((s.refTable xl).refTable src).refTable box,
      { desc := d, xlat := xl, src := src, box := box, phys := false, turned := none, serial := none, again := false, tagged := false, sent := 0 })
  | .error a, .error b => .error (firstCode [a, b])
  | .error a, _ => .error a
  | _, .error b => .error b

/-- R315: the boxes of a CROP lie past the end of its list. -/
def State.boxBad (s : State) (d : Nat) (box : Option (Nat × Nat)) : Bool :=
  match box.bind (fun b => (s.table b.1).map (fun t => (t.bank b.2).len)) with
  | some n => n * 128 < xBox0 d + mExt d 3
  | none => false

/-- R315, R339: what is malformed in a descriptor beside the tables that it names. -/
def State.tableBad (s : State) (mv : Mv) : Bool :=
  (match s.srcBank mv with
    | some (2, pa) => pageBad mv.desc (s.pageHdr pa)
    | _ => false) || s.boxBad mv.desc mv.box

/-- R14, R315, R339: what is malformed where a lookup of the descriptor itself has failed. -/
def State.unissuedBad (s : State) (c d : Nat) : Bool :=
  ((mvLookup d).any (fun l => (s.table l.1).any (fun t => t.type = 2)) && pageDescBad d) ||
  (match s.tagLookup c (boxLookup d) with
    | .ok b => s.boxBad d b
    | .error _ => false)

/-- The code that stops a MOVE before it is issued, by R14, or the descriptor issued. -/
def State.checkedMv (s : State) (cl site : Nat) (t : Task) (d : Nat) : Except Nat (State × Mv) :=
  let own := mvCodes (s.core cl site) t (s.obj (kDev 0x6000 1)) d
  match s.issueMv t d with
  | .error e => .error (firstCode (e :: own ++ (if s.unissuedBad t.ctx d then [cDescriptor] else [])))
  | .ok r => match own ++ (if s.tableBad r.2 then [cDescriptor] else []) with
    | [] => .ok r
    | l => .error (firstCode l)

/-- A descriptor that the mover starts at the task's commit (R278). -/
def mvAtCommit (d : Nat) : Bool := mDstSpace d ≠ 1 || mOp d = opScatterAdd

/-- Slabs of a ring that a descriptor delivers. -/
def mvSlabs (c : CoreSt) (d : Nat) : Nat :=
  let r := c.ring (rsRing (mDstAddr d))
  if isWindowOp (mOp d) then
    xNpos d / (if mOp d = opWindow then 128 else 512) * (xNleaf d * (1024 / fmtIK (ctrlFmt (mCtrl d))))
  else (rsOff (mDstAddr d) + runsEnd ((mDstView d).runs (mDstExt d 0 false)) - 1) / max 1 r.slab + 1

/-- The descriptor of a MOVE command, whether its source address is physical, and the Herringbone buffer that it reads. A
generated command of a plan tile carries these above its 256 bits (see moveWith); a fill takes the next slab number of its
ring (R136, R286). -/
def State.mvDesc (s : State) (cl site : Nat) (t : Task) (w : Nat) : Except Nat (Nat × Bool × Option (Nat × Nat)) :=
  if w < 2 ^ 256 then
    match s.readVaNat (s.accNow t) (fld w 63 0) 128 with
    | .error e => .error e
    | .ok d => .ok (d, false, none)
  else
    let e := w / 2 ^ 256
    let d := fld e 1025 2
    if e % 4 = 1 then .ok (d, false, none)
    else .ok (d + (((s.core cl site).ring (rsRing (mDstAddr d))).nextFill) <<< 724, true,
      if e % 4 = 3 then some (fld e 1089 1026, fld e 1153 1090) else none)

/-- An issued descriptor joins those that run now, or those kept for the commit (R278). -/
def State.queueMv (s : State) (cl site : Nat) (w : Nat) (mv : Mv) : State :=
  let d := mv.desc
  if mvAtCommit d then s.startCmd cl site w (fun t => { t with commitMoves := t.commitMoves ++ [mv] })
  else
    let s := s.modCore cl site (fun c => c.modRing (rsRing (mDstAddr d)) (fun r =>
      { r with nextFill := (rsSlab (mDstAddr d) + mvSlabs c d) % 2 ^ 32 }))
    s.startCmd cl site w (fun t => { t with moves := t.moves ++ [mv] })

/-- MOVE: its descriptor is read, checked and tagged (R257); it runs now for a ring destination, at the commit for any
other. -/
def State.moveCmd (s : State) (cl site : Nat) : State :=
  s.seqCmd cl site 5 (fun s t w =>
    if fld w 247 64 ≠ 0 then some (s.taskFail cl site cDescriptor)
    else some (match s.mvDesc cl site t w with
      | .error e => s.taskFail cl site e
      | .ok (d, phys, turned) =>
        match s.checkedMv cl site t d with
        | .error e => s.taskFail cl site e
        | .ok (s, mv) => s.queueMv cl site w { mv with phys := phys, turned := turned }))

/-- MOVE (R278). -/
def execMove (core : CoreId) (s : State) : Host.Outcome State Fault Refusal := .next (s.moveCmd core.c core.s)

/-! ### MMA_TILE and SCHUSS (R131, R136, R140, R141) -/

/-- The binding block that the task's descriptor names, read when a command with a routine starts (R214). -/
def State.readBinding (s : State) (t : Task) (w : Nat) : Bind :=
  if cPro w = 0xFF ∧ cEpi w = 0xFF then .ok none
  else if fld t.desc 703 656 = 0 then .ok none
  else match s.readVaNat (s.accNow t) (fld t.desc 703 656) 256 with
    | .error e => .error e
    | .ok b => .ok (some b)

/-- A command of a deferred group joins it, or begins one; a complete group before it keeps its finishing section (R234, R235,
R237). -/
def CoreSt.joinGroup (c : CoreSt) (num w : Nat) : CoreSt :=
  if cEpi w ≠ 0xFF ∧ eDefer (imgEntry c.rmem (cEpi w)) = 1 then
    match c.group.filter (fun g => !g.whole) with
    | some g => { c with group := some { g with nextCol := g.nextCol + 512 * cN w } }
    | none => { c with
        older := c.groups,
        group := some { first := num, entry := cEpi w, row0 := cRow0 w, ntot := cNtot w, nextCol := 512 * cN w, held := [],
                        stats := [], closing := false, finRegs := none, broken := false } }
  else c.breakGroup

/-! ### The slabs of generators (R136, R217) -/

/-- Whether words read through generator i: loads, statistics and row scalars. -/
def genRead (ws : List Nat) (i : Nat) : Bool :=
  ws.any (fun w => (wClass w = 0 && wOp w = 0x50 && wAg w = i) || (isDirective w 1 && wAg w = i) ||
    (wSrcs w).any (fun x => 0x70 ≤ x && (x - 0x70) / 4 = i))

/-- Whether words store through generator i. -/
def genStored (ws : List Nat) (i : Nat) : Bool := ws.any (fun w => isStoreWord w && wAg w = i)

/-- The MODE 0 generators that words use, but for those on rings whose slabs the section is given; AG0 of a standalone
routine brings its rows. A standalone routine fills the slabs of one that it only stores through (log 152). -/
def usedGens (alone : Bool) (ws : List Nat) (b : Nat) (own : List Nat) : List GenUse :=
  ((List.range 8).filter (fun i => agOnRing (bAg b i) && !own.contains (agRing (bAg b i)) &&
    ((alone && i = 0) || genRead ws i || genStored ws i))).map (fun i =>
      ⟨i, 0, alone && i ≠ 0 && !genRead ws i⟩)

/-- The slabs of its ring that a generator takes for each unit of work together with the others like it (R217). -/
def genStride (b : Nat) (l : List GenUse) (g : GenUse) : Nat :=
  (l.filter (fun x => agRing (bAg b x.gen) = agRing (bAg b g.gen) && x.makes = g.makes)).length

/-- A command takes slab numbers for its generators, one of each for each of `n` units of work, unit by unit (R136, R217). -/
def CoreSt.takeGens (c : CoreSt) (b : Nat) (l : List GenUse) (n : Nat) : CoreSt × List GenUse :=
  let r := l.foldl (fun (acc : CoreSt × List GenUse) g =>
    let t := if g.makes then acc.1.takeFill (agRing (bAg b g.gen)) 1 else acc.1.takeRead (agRing (bAg b g.gen)) 1
    (t.2, acc.2 ++ [{ g with first := t.1 }])) (c, [])
  if n = 0 then (c, l) else
    (l.foldl (fun (c : CoreSt) g =>
      let ring := agRing (bAg b g.gen)
      (if g.makes then c.takeFill ring (n - 1) else c.takeRead ring (n - 1)).2) r.1, r.2)

/-- The slab number of each generator in unit `k` of its work; `own` has the slabs that the section is given by ring. -/
def genSlabs (b : Nat) (l : List GenUse) (own : List (Nat × Nat)) (k : Nat) : List Nat :=
  (List.range 8).map (fun i =>
    if !agOnRing (bAg b i) then 0
    else match own.find? (fun p => p.1 = agRing (bAg b i)), l.find? (fun g => g.gen = i) with
      | some p, _ => p.2
      | none, some g => (g.first + k * genStride b l g) % 2 ^ 32
      | none, none => 0)

/-- The words that the epilogue of a command runs, those of its finishing section included (R206, R237). -/
def epiWords (m : NMap Byte) (w : Nat) : List Nat :=
  let e := imgEntry m (cEpi w)
  bodyWords m e ++ (if eDefer e = 1 then finWords m e else [])

/-- The command joins the commands in progress with the slab numbers it takes (R136, R140, R141). -/
def CoreSt.addTile (c : CoreSt) (t : Task) (sch : Bool) (w bind : Nat) (skips : List Nat) : CoreSt :=
  let e := extWord t.desc (cExtSel w)
  let c := c.joinGroup t.cmdNum w
  if extM e = 0 ∨ extN e = 0 then c
  else
    let absent := extL e ≤ cLeafA w
    if absent ∧ cNode w then c
    else
      let nA := if absent then 0 else cM sch w * cS w
      let nW := if absent then 0 else cN w * cS w
      let nO := cM sch w * cN w
      let a := c.takeRead (cARing w) nA
      let ww := a.2.takeRead (cWRing w) nW
      let o := ww.2.takeFill (cORing w) nO
      let p := if t.isProduct then o.2.takeRead (glYRing (t.glide.getD 0)) nO
        else if cPro w = 0xFF then (0, o.2) else
        let f := o.2.takeFill (bProRing bind) nA
        (f.1, (f.2.takeRead (bProRing bind) nA).2)
      let pg := if cPro w = 0xFF then (p.2, []) else
        p.2.takeGens bind (usedGens false (bodyWords c.rmem (imgEntry c.rmem (cPro w))) bind [bProRing bind, cARing w]) nA
      let eg := if cEpi w = 0xFF then (pg.1, []) else
        pg.1.takeGens bind (usedGens false (epiWords c.rmem w) bind [cORing w]) nO
      let ti : Tile :=
        { num := t.cmdNum, schuss := sch, cmd := w, binding := bind, aBase := a.1, wBase := ww.1, oBase := o.1,
          pBase := p.1, rtM := extM e, rtN := extN e, rtL := extL e,
          issued := if absent then mmaTotal sch w else 0, reserved := false, yielded := 0, subs := [], drained := [],
          proDone := 0, stats := [], skips := skips, epiRegs := none, proRegs := none, epiGens := eg.2, proGens := pg.2 }
      let ti := { ti with subs := ((List.range (cM sch w)).flatMap (fun mi => (List.range (cN w)).filterMap (fun ni =>
          if ti.inExt mi ni && (absent || !ti.anySlice mi 0 ((ti.leafEnd - cLeafA w) * cSlicesPerLeaf w)) then
            some { SubTile.fresh mi ni 0 with done := true }
          else none))) }
      { eg.1 with tiles := eg.1.tiles ++ [ti] }

/-- The statistics of a spilling command leave a LEAF_DONE for its chunk range (R240). -/
def spillDone (c : CoreSt) (w bind : Nat) : List StagedDone :=
  if cEpi w ≠ 0xFF ∧ eDefer (imgEntry c.rmem (cEpi w)) = 2 then
    [⟨bStatGen bind, bStatRed bind, cCol0 w / 512, cCol0 w / 512 + cN w⟩]
  else []

/-- R131: the arrays and the weight port are free for the next MMA_TILE or SCHUSS. -/
def CoreSt.canStartTile (c : CoreSt) : Bool := c.tiles.all Tile.allIssued

/-- MMA_TILE and SCHUSS start: the checks of R137, R140, R153 and R233, then the command is in progress. -/
def State.startTile (s : State) (cl site : Nat) (sch : Bool) (t : Task) (w : Nat) : Option State :=
  let c := s.core cl site
  if !c.canStartTile then none
  else some (
    let bind := s.readBinding t w
    let leaves := if cNode w then (s.redNamed t.ctx (cRed w) (cGen w)).map Reduction.leaves else none
    match tileCodes c t sch w bind leaves with
    | e :: l => s.taskFail cl site (firstCode (e :: l))
    | [] =>
        match (match (if t.isProduct then t.glide else none) with
            | some r => s.productStart c t r w
            | none => .ok (false, [], [])) with
        | .error e => s.taskFail cl site e
        | .ok g =>
          let b := (bind.toOption.join).getD 0
          let dones := (if cNode w then [⟨cGen w, cRed w, cLeafA w, cLeafB w⟩] else []) ++ spillDone c w b
          let s := s.setCore cl site (c.addTile t sch w b g.2.1)
          s.startCmd cl site w (fun t => { t with
            dones := t.dones ++ dones, gDone := true, gFull := g.1, gStamps := g.2.2 }))

/-- MMA_TILE (R133). -/
def State.mmaTileCmd (s : State) (cl site : Nat) : State := s.seqCmd cl site 0x10 (fun s t w => s.startTile cl site false t w)

/-- MMA_TILE (R133). -/
def execMmaTile (core : CoreId) (s : State) : Host.Outcome State Fault Refusal := .next (s.mmaTileCmd core.c core.s)

/-- SCHUSS: a started command runs its product; else the next command starts, and runs where its operands stand ready. -/
def State.schussCmd (s : State) (cl site : Nat) : State :=
  match s.liveTask cl site, (s.core cl site).tiles.find? (fun t => t.schuss && !t.allIssued) with
  | some _, some _ => s.schussRun cl site
  | _, _ => (s.seqCmd cl site 0x11 (fun s t w => s.startTile cl site true t w)).schussRun cl site

/-- SCHUSS (R152). -/
def execSchuss (core : CoreId) (s : State) : Host.Outcome State Fault Refusal := .next (s.schussCmd core.c core.s)

/-- MMA_ISSUE (R119 to R123). -/
def execMmaIssue (core : CoreId) (s : State) : Host.Outcome State Fault Refusal := .next (s.mmaIssue core.c core.s)

/-- WEIGHT_BANK_FILL (R121). -/
def execWeightBankFill (core : CoreId) (bank : Fin 2) (s : State) : Host.Outcome State Fault Refusal :=
  .next (s.bankFill core.c core.s bank.val)

/-- DRAIN (R150). -/
def execDrain (core : CoreId) (mi : Fin 8) (ni : Fin 4) (s : State) : Host.Outcome State Fault Refusal :=
  .next (s.drain core.c core.s mi.val ni.val)

/-- SLAB_DELIVERY (R127). -/
def execSlabDelivery (core : CoreId) (ringNo : Fin 16) (s : State) : Host.Outcome State Fault Refusal :=
  .next (s.slabDelivery core.c core.s ringNo.val)

end Sys2Proof.Machine
end

