-- ==== Sys2Proof/Machine/Plans.lean ====
section
/-! DEFINITION. Tiling plans (R281 to R289, R441): the record, the walk over cluster tiles, chunks and core tiles, the
commands generated from a template, the cluster buffers, and the plan task's completion. -/

namespace Sys2Proof.Machine

/-! ### The record (R283) -/

/-- FMT_A. -/
def plFmtA (r : Nat) : Nat := fld r 1023 1020
/-- FMT_W. -/
def plFmtW (r : Nat) : Nat := fld r 1019 1016
/-- ORDER2. -/
def plOrder2 (r : Nat) : Nat := fld r 1007 1005
/-- ORDER1. -/
def plOrder1 (r : Nat) : Nat := fld r 1004 1002
/-- W_KN. -/
def plKn (r : Nat) : Bool := bitAt r 1001
/-- K2_LOG. -/
def plK2Log (r : Nat) : Nat := fld r 1000 997
/-- K1_LOG. -/
def plK1Log (r : Nat) : Nat := fld r 996 993
/-- CHUNK. -/
def plChunk (r : Nat) : Nat := fld r 992 985
/-- M2_T. -/
def plM2T (r : Nat) : Nat := fld r 984 977
/-- N2_T. -/
def plN2T (r : Nat) : Nat := fld r 976 969
/-- M. -/
def plM (r : Nat) : Nat := fld r 965 942
/-- N. -/
def plN (r : Nat) : Nat := fld r 941 918
/-- K. -/
def plK (r : Nat) : Nat := fld r 917 894
/-- CLUSTERS. -/
def plClusters (r : Nat) : Nat := fld r 893 882
/-- CS_KIB. -/
def plCsKib (r : Nat) : Nat := fld r 881 858
/-- CS_OFF. -/
def plCsOff (r : Nat) : Nat := fld r 857 832
/-- A_ADDR. -/
def plAAddr (r : Nat) : Nat := fld r 831 768
/-- W_ADDR. -/
def plWAddr (r : Nat) : Nat := fld r 767 704
/-- TEMPLATE. -/
def plTemplate (r : Nat) : Nat := fld r 703 640
/-- A_STRIDE. -/
def plAStride (r : Nat) : Nat := fld r 639 604
/-- W_STRIDE. -/
def plWStride (r : Nat) : Nat := fld r 603 568
/-- A_SCALE_OFF. -/
def plAScale (r : Nat) : Nat := fld r 567 528
/-- W_SCALE_OFF. -/
def plWScale (r : Nat) : Nat := fld r 527 488
/-- CSUM_CHK. -/
def plChk (r : Nat) : Bool := bitAt r 487

/-- L: leaves of the planned K. -/
def plL (r : Nat) : Nat := cdiv (plK r) 1024
/-- Leaves of a K range at a level: 2^log, or all. -/
def plRange (r log : Nat) : Nat := if log = 15 then plL r else min (2 ^ log) (plL r)
/-- Leaves of a cluster tile. -/
def plK2 (r : Nat) : Nat := plRange r (plK2Log r)
/-- Leaves of a core tile. -/
def plK1 (r : Nat) : Nat := plRange r (plK1Log r)

/-! ### The walk (R284) -/

/-- The indices at place i of a loop order over m, n and k (R134). -/
def loopAt (code m n k i : Nat) : Nat × Nat × Nat :=
  match code with
  | 0 => (i / (n * k), i / k % n, i % k)
  | 1 => (i / k % m, i / (m * k), i % k)
  | 2 => (i / (k * n), i % n, i / n % k)
  | 3 => (i % m, i / (k * m), i / m % k)
  | 4 => (i / n % m, i % n, i / (m * n))
  | _ => (i % m, i / m % n, i / (m * n))

/-- The template's MMA_TILE. -/
def Plan.mma (p : Plan) : Nat := (p.tmpl.find? (fun w => fld w 255 248 = 0x10)).getD 0
/-- Rows of a core tile. -/
def Plan.tm (p : Plan) : Nat := 128 * cM false p.mma
/-- Columns of a core tile. -/
def Plan.tn (p : Plan) : Nat := 512 * cN p.mma
/-- M2. -/
def Plan.m2 (p : Plan) : Nat := plM2T p.record * p.tm
/-- N2. -/
def Plan.n2 (p : Plan) : Nat := plN2T p.record * p.tn
/-- Rows of cluster tiles. -/
def Plan.cm (p : Plan) : Nat := cdiv (plM p.record) p.m2
/-- Columns of cluster tiles. -/
def Plan.cn (p : Plan) : Nat := cdiv (plN p.record) p.n2
/-- K ranges of cluster tiles. -/
def Plan.ck (p : Plan) : Nat := cdiv (plL p.record) (plK2 p.record)
/-- Cluster tiles. -/
def Plan.tiles (p : Plan) : Nat := p.cm * p.cn * p.ck
/-- K ranges of core tiles in a cluster tile. -/
def Plan.k1n (p : Plan) : Nat := cdiv (plK2 p.record) (plK1 p.record)
/-- Core tiles per cluster tile, the ones that are not generated included. -/
def Plan.per (p : Plan) : Nat := plM2T p.record * plN2T p.record * p.k1n
/-- Chunks. -/
def Plan.chunks (p : Plan) : Nat := cdiv p.tiles (plChunk p.record)
/-- Run-time M, N and leaves, from EXT0 (R458). -/
def Plan.ext (p : Plan) : Nat × Nat × Nat := (extM (extWord p.desc 0), extN (extWord p.desc 0), extL (extWord p.desc 0))

/-- The row of cluster tiles, the column and the K range of a cluster tile (ORDER2). -/
def Plan.ctAt (p : Plan) (ct : Nat) : Nat × Nat × Nat := loopAt (plOrder2 p.record) p.cm p.cn p.ck ct

/-- One core tile: first row, first column and leaf range. -/
structure CTile where
  row0 : Nat
  col0 : Nat
  a : Nat
  b : Nat

/-- The core tile with a number (ORDER1 within its cluster tile). -/
def Plan.tileAt (p : Plan) (g : Nat) : CTile :=
  let c := p.ctAt (g / p.per)
  let t := loopAt (plOrder1 p.record) (plM2T p.record) (plN2T p.record) p.k1n (g % p.per)
  let k2 := plK2 p.record
  let a := c.2.2 * k2 + t.2.2 * plK1 p.record
  ⟨c.1 * p.m2 + t.1 * p.tm, c.2.1 * p.n2 + t.2.1 * p.tn, a,
    min (a + plK1 p.record) (min ((c.2.2 + 1) * k2) (plL p.record))⟩

/-- R284: tiles at or beyond the run-time extents, or beyond the planned leaves, are not generated. -/
def Plan.generated (p : Plan) (g : Nat) : Bool :=
  let t := p.tileAt g
  let e := p.ext
  t.row0 < e.1 && t.col0 < e.2.1 && t.a < e.2.2 && t.a < t.b

/-- The first generated core tile in [lo, hi). -/
def Plan.firstIn (p : Plan) (lo hi : Nat) : Option Nat := ((List.range hi).drop lo).find? p.generated

/-! ### Cluster buffers (R287) -/

/-- Elements of K in a block. -/
def Plan.k2e (p : Plan) : Nat := plK2 p.record * 1024
/-- Bytes of rows of n elements of a format, scale bytes after. -/
def blockSize (fmt rows n : Nat) : Nat := rows * rowBytes fmt n + (if fmtIsMx fmt then rows * cdiv n 32 else 0)
/-- The code of a plan whose cluster tile reads past its run-time extents (R288). -/
def planExt (d r : Nat) : List Nat :=
  let e := extWord d 0
  if plM r < extM e ∨ plN r < extN e ∨ plL r < extL e then [cExtent] else []
/-- Bytes of an A buffer. -/
def Plan.aBytes (p : Plan) : Nat := blockSize (plFmtA p.record) p.m2 p.k2e
/-- Stored rows and elements per row of a W buffer. -/
def Plan.wDims (p : Plan) : Nat × Nat := if plKn p.record then (p.k2e, p.n2) else (p.n2, p.k2e)
/-- Bytes of a W buffer. -/
def Plan.wBytes (p : Plan) : Nat := blockSize (plFmtW p.record) p.wDims.1 p.wDims.2

/-- Offset in scratch of a buffer. -/
def Plan.bufOff (p : Plan) (kind idx : Nat) : Nat :=
  plCsOff p.record + (if kind = 0 then idx * p.aBytes else 2 * p.aBytes + idx * p.wBytes)

/-- The block of A or W that a cluster tile reads. -/
def Plan.blkOf (p : Plan) (kind ct : Nat) : Nat × Nat :=
  let c := p.ctAt ct
  if kind = 0 then (c.1, c.2.2) else (c.2.1, c.2.2)

/-- The part of a cluster. -/
def Plan.part (p : Plan) (cl : Nat) : PlanCl := nget PlanCl.empty p.parts cl

/-- Change the part of a cluster. -/
def Plan.modPart (p : Plan) (cl : Nat) (f : PlanCl → PlanCl) : Plan := { p with parts := nmod PlanCl.empty p.parts cl f }

/-- The buffer of a kind that holds the block of a cluster tile. -/
def Plan.bufFor (p : Plan) (cl kind ct : Nat) : Option PlanBuf :=
  (p.part cl).bufs.find? (fun b => b.kind = kind && b.blk = p.blkOf kind ct)

/-! ### Generated commands (R286) -/

/-- Replace a field of a word. -/
def setFld (w hi lo v : Nat) : Nat := w - at' (fld w hi lo) hi lo + at' v hi lo

/-- A ring-space fill of one slab from a cluster buffer: `perm` set where the buffer holds K rows. -/
def fillDesc (fmt rows ik ring src stride scale : Nat) (kn : Bool) : Nat :=
  let rb := planeBytes fmt ik
  at' opCopy 1023 1016 + at' fmt 1015 1012 + at' (fmt * 16) 1011 1004 + at' 1 1001 1000 +
  at' (if kn then 0x4681 else 0x4688) 999 985 + at' 7 954 952 + at' 7 951 949 +
  at' ik 863 844 + at' rows 883 864 + at' 1 903 884 + at' 1 923 904 + at' 1 943 924 +
  at' src 843 780 + at' ring 779 716 + at' stride 607 572 + at' rb 463 428 +
  at' scale 427 388 + at' (rows * rb) 387 348

/-- A MOVE command w that carries its descriptor: kind 1 as it stands, kind 2 a fill (see mvDesc). -/
def moveWith (kind w d : Nat) : Nat := w % 2 ^ 256 + (d * 4 + kind) <<< 256

/-- A MOVE command of the hardware's own. -/
def moveCmd0 : Nat := at' 5 255 248

/-- A fill from a buffer in Herringbone layout: its base and the bytes of its elements. -/
def moveTurned (d base plane : Nat) : Nat := moveWith 3 moveCmd0 (d + base <<< 1024 + plane <<< 1088)

/-- The fill of one slab: rows r0 on and elements k0 on of a buffer that starts at physical address `base`. -/
def slabFill (fmt bufRows bufCols rows ik ring base r0 k0 : Nat) (kn : Bool) : Nat :=
  let rb := rowBytes fmt bufCols
  let row := if kn then k0 else r0
  let col := if kn then r0 else k0
  let src := base + row * rb + col * fmtBits fmt / 8
  let scale := base + bufRows * rb + row * cdiv bufCols 32 + col / 32
  let d := fillDesc fmt rows ik ring src rb (scale - src) kn
  if kn then moveTurned d base (bufRows * rb) else moveWith 2 moveCmd0 d

/-- The fills of A_RING and W_RING of a core tile, each in the order of R136. -/
def Plan.fills (p : Plan) (cl g : Nat) (w : Nat) (ba bw : Nat) : List Nat :=
  let r := p.record
  let t := p.tileAt g
  let ct := g / p.per
  let c := p.ctAt ct
  let ik := fmtIK (cFa w)
  let k0 := (t.a - c.2.2 * plK2 r) * 1024
  let pa := fun kind idx => scratchPa cl (p.bufOff kind idx)
  let n := cN w
  (List.range (cM false w * cS w)).map (fun i =>
    let x := aOfIndex false w i
    slabFill (plFmtA r) p.m2 p.k2e 128 ik (cARing w) (pa 0 ba) (t.row0 - c.1 * p.m2 + 128 * x.1) (k0 + x.2 * ik) false) ++
  (List.range (n * cS w)).map (fun i =>
    let x := if cLoop w = 2 ∨ 4 ≤ cLoop w then (i % n, i / n) else (i / cS w, i % cS w)
    slabFill (plFmtW r) p.wDims.1 p.wDims.2 512 ik (cWRing w) (pa 1 bw) (t.col0 - c.2.1 * p.n2 + 512 * x.1) (k0 + x.2 * ik)
      (plKn r))

/-- The MMA_TILE of a core tile. -/
def Plan.mmaOf (p : Plan) (g : Nat) : Nat :=
  let t := p.tileAt g
  let w := setFld (setFld p.mma 223 204 t.a) 203 184 t.b
  if cNode w then setFld w 87 72 (t.row0 / 64 * cObStride w + t.col0 / 512)
  else setFld (setFld w 103 72 t.row0) 71 48 t.col0

/-- A template MOVE whose source is the O_RING, for a core tile: DST_ADDR and SR_BASE move with it. -/
def shiftMove (d row0 col0 : Nat) : Nat :=
  let d := setFld d 779 716 (mDstAddr d + row0 * mDstStride d 1 + col0 * fmtBits (ctrlFmt (mCtrl d)) / 8)
  if mOp d = opCopy then setFld d 231 184 (xSrBase d + row0 * xSrStride d 1 + col0) else d

/-- The commands of a core tile, or the code of a read of a template's descriptor. -/
def State.tileCmds (s : State) (p : Plan) (cl g ba bw : Nat) : Except Nat (List Nat) :=
  let acc := { s.accOf p.ctx with slot := dSlot p.desc, version := dVersion p.desc }
  let t := p.tileAt g
  match collect (p.tmpl.map (fun w =>
    if fld w 255 248 = 0x10 then .ok (p.fills cl g (p.mmaOf g) ba bw ++ [p.mmaOf g])
    else if fld w 255 248 = 5 then
      match s.readVaNat acc (fld w 63 0) 128 with
      | .error e => .error e
      | .ok d =>
        if mSrcSpace d = 1 ∧ mOp d ≠ opFill ∧ rsRing (mSrcAddr d) = cORing p.mma then
          .ok [moveWith 1 w (shiftMove d t.row0 t.col0)]
        else .ok [w]
    else .ok [w])) with
  | .error e => .error e
  | .ok l => .ok l.flatten

/-- The descriptor of a core tile (R286, R458). -/
def Plan.descOf (p : Plan) (g : Nat) : Nat :=
  let t := p.tileAt g
  let e := p.ext
  let j := cExtSel p.mma
  let d := setFld p.desc 751 704 (plTemplate p.record)
  setFld d (68 * j + 67) (68 * j)
    (at' (min p.tm (e.1 - t.row0)) 67 44 + at' (min p.tn (e.2.1 - t.col0)) 43 20 + at' e.2.2 19 0)

/-! ### Refusals (R282, R285, R288, R441) -/

/-- The template's commands up to its END, or the code of the read. A reserved opcode is in no command list (R130). -/
def State.readTmpl (s : State) (acc : Acc) : Nat → Nat → Except Nat (List Nat)
  | 0, _ => .error cDescriptor
  | n + 1, a =>
    match s.readVaNat acc a 32 with
    | .error e => .error e
    | .ok w =>
      if !opcodeDefined (fld w 255 248) then .error cDescriptor
      else if fld w 255 248 = 1 then .ok [w]
      else match s.readTmpl acc n (a + 32) with
        | .error e => .error e
        | .ok l => .ok (w :: l)

/-- More commands than addresses hold: a template is read to its END. -/
def tmplMax : Nat := 2 ^ 59

/-- R285, R288, R441: a record that completes its plan with DESCRIPTOR, whatever its template. -/
def planRecBad (r : Nat) : Bool :=
  fld r 1015 1008 ≠ 0 || fld r 968 966 ≠ 0 || fld r 486 0 ≠ 0 ||
  !fmtDefined (plFmtA r) || !fmtDefined (plFmtW r) || 5 < plOrder2 r || 5 < plOrder1 r ||
  plM r = 0 || plN r = 0 || plK r = 0 || plClusters r = 0 ||
  plChunk r = 0 || plM2T r = 0 || plN2T r = 0 ||
  (10 < plK2Log r && plK2Log r ≠ 15) || (10 < plK1Log r && plK1Log r ≠ 15) || plK2Log r < plK1Log r ||
  plCsOff r % 4096 ≠ 0 || plCsOff r < 0x100000

/-- R284, R285, R288, R441: a plan that completes with DESCRIPTOR by its template. -/
def State.planBad (s : State) (p : Plan) : Bool :=
  let r := p.record
  (p.tmpl.filter (fun w => fld w 255 248 = 0x10)).length ≠ 1 || p.tmpl.any (fun w => fld w 255 248 = 0x11) ||
  plCsKib r * 1024 < 2 * p.aBytes + 2 * p.wBytes ||
  (List.range 12).any (fun c => bitAt (plClusters r) c && s.scratchSize c < plCsOff r + plCsKib r * 1024) ||
  (if plL r ≤ plK1 r then cMode p.mma ≠ 0
   else cMode p.mma ≠ 1 || (match s.redNamed p.ctx (cRed p.mma) (cGen p.mma) with
     | some d => d.leaves ≠ plL r
     | none => true))

/-! ### The plan in the dispatchers -/

/-- The relay counters of the control regions that the dispatchers give a plan: over its core tiles in each cluster that
takes part, and over its chunks in its queue's cluster (R284, R455). -/
def Plan.tileCtr (p : Plan) : Nat := 16 + 16 * p.cl + p.q
/-- See `tileCtr`. -/
def Plan.chunkCtr (p : Plan) : Nat := 208 + p.q

/-- The counters of a plan stand in the control regions. -/
def State.showPlan (s : State) (p : Plan) : State :=
  ((List.range 12).filter (bitAt (plClusters p.record))).foldl (fun s c =>
    let x := p.part c
    s.setRelay c p.tileCtr (x.next % 2 ^ 31) (x.limit % 2 ^ 31) (x.limit ≤ x.next))
    (s.setRelay p.cl p.chunkCtr p.nextChunk p.chunks (p.chunks ≤ p.nextChunk))

/-- The counters of a plan that has ended are free. -/
def State.freeCounters (s : State) (p : Plan) : State :=
  ((List.range 12).filter (bitAt (plClusters p.record))).foldl (fun s c => s.setRelay c p.tileCtr 0 0 false)
    (s.setRelay p.cl p.chunkCtr 0 0 false)

/-- Change a plan. -/
def State.modPlan (s : State) (id : Nat) (f : Plan → Plan) : State :=
  { s with disp := { s.disp with plans := s.disp.plans.map (fun p => if p.id = id then f p else p) } }

/-- A plan's counters are written after a change. -/
def State.shown (s : State) (id : Nat) : State := (s.plan id).elim s s.showPlan

/-- Positions of a plan that a cluster has taken and not finished. -/
def State.planBusy (s : State) (p : Plan) (cl : Nat) : List Nat :=
  ((s.leases cl).filter (fun l => l.valid && l.plan = some p.id)).map (·.pos) ++
  (p.part cl).reissue ++ (p.part cl).saved.map (·.pos)

/-- R287: the core that holds a lease has released the last slab of A (kind 0) or W that it takes from a buffer. -/
def State.blockRead (s : State) (cl kind : Nat) (l : Lease) : Bool :=
  l.state = .committed ||
  (let c := s.core cl l.site
   match c.task with
   | some t =>
     let at_ := (t.cmds.findIdx? (fun w => fld w 255 248 = 0x10)).getD t.cmds.length
     let w := nth 0 t.cmds at_
     let k := if kind = 0 then cARing w else cWRing w
     t.plan = l.plan && t.pos = l.pos && at_ < t.cmdIndex && !t.moves.any (·.phys) &&
     !c.deliveries.any (fun d => d.ring = k) && (c.ring k).filled = (c.ring k).freed
   | none => false)

/-- Core tiles of a plan that a cluster has taken or waits to take again and that have yet to read their block of A
(kind 0) or W. -/
def State.planReads (s : State) (p : Plan) (cl kind : Nat) : List Nat :=
  ((s.leases cl).filter (fun l => l.valid && l.plan = some p.id && !s.blockRead cl kind l)).map (·.pos) ++
  (p.part cl).reissue ++ (p.part cl).saved.map (·.pos)

/-- Whether a cluster has a core tile left to take in its chunk. -/
def Plan.hasNext (p : Plan) (cl : Nat) : Bool := (p.firstIn (p.part cl).next (p.part cl).limit).isSome

/-- R288: a plan whose core tiles have all completed ends: its record is written, its references are released. -/
def State.planCheck (s : State) (id : Nat) : State :=
  match s.plan id with
  | none => s
  | some p =>
    if p.nextChunk < p.chunks || (List.range 12).any (fun c => p.hasNext c || !(s.planBusy p c).isEmpty) then s
    else
      let s := s.complete p.cl p.q p.pos
        { plainRec (dTask p.desc) (firstCode p.codes) p.ctx s.timeNs with ev := p.ev, dups := p.dups }
      let s := ((s.unbindVersion p.bound).unrefTable p.xlat).freeCounters p
      { s with disp := { s.disp with plans := s.disp.plans.filter (fun x => x.id ≠ id) } }

/-- A plan whose own work fails generates nothing more and ends when its core tiles have. -/
def State.planFail (s : State) (id code : Nat) : State :=
  (s.modPlan id (fun p => { p with
    codes := p.codes ++ [code], nextChunk := p.chunks,
    parts := p.parts.map (fun x => (x.1, { x.2 with next := x.2.limit })) })).shown id |>.planCheck id

/-- TILE_MODE of a context: its own once written, else the device default (R281, R290). -/
def State.tileMode (s : State) (c : Nat) : Nat :=
  let v := s.obj (kSeed c 1)
  if v = 2 then s.obj (kDev 0x2003 1) else v

/-- The plan that a descriptor names, or the code with which its task completes (R282 to R288). -/
def State.readPlan (s : State) (cl q pos d : Nat) : Except Nat Plan :=
  let c := s.qCtx cl q
  let acc := { s.accOf c with slot := dSlot d, version := dVersion d }
  if s.tileMode c = 0 then .error cDescriptor
  else match s.readVaNat acc (dCmd d) 128 with
    | .error e => .error e
    | .ok r =>
      let own := (if planRecBad r then [cDescriptor] else []) ++ planExt d r
      match s.readTmpl acc tmplMax (plTemplate r) with
      | .error e => .error (firstCode (e :: own))
      | .ok tm =>
        let p : Plan :=
          { id := s.disp.nextPlan, cl := cl, q := q, pos := pos, ctx := c, desc := d, record := r, tmpl := tm,
            nextChunk := 0, parts := [], codes := [], dups := 0, ev := .none,
            xlat := (match s.xlatTag c with
              | .ok x => some x
              | .error _ => none),
            bound := dBound d, step := s.stepNow c, key := s.seedKey c (dSeed d) }
        match own ++ (if s.planBad p then [cDescriptor] else []) with
        | [] => .ok p
        | l => .error (firstCode l)

/-- The code of a plan that a descriptor names. -/
def State.planCodes (s : State) (cl q pos d : Nat) : List Nat :=
  match s.readPlan cl q pos d with
  | .error e => [e]
  | .ok _ => []

/-- A plan joins those that are walked, with its references and its counters. -/
def State.openPlan (s : State) (p : Plan) : State :=
  let s := (s.bindVersion p.bound).refTable p.xlat
  ({ s with disp := { s.disp with plans := s.disp.plans ++ [p], nextPlan := s.disp.nextPlan + 1 } } : State).showPlan p

/-- PLAN_POSITION (a queue has one open plan at a time, since a core tile is known by its queue, R468): the dispatcher takes a PLAN position and the device dispatcher begins to walk it (R284, R458). -/
def State.planPosition (s : State) (cl q : Nat) : State :=
  if !s.qReady cl q || !(s.queue cl q).reissue.isEmpty || !(s.queue cl q).saved.isEmpty then s
  else match s.headDesc cl q with
    | .error _ => s
    | .ok d =>
      if dKind d ≠ 1 || s.disp.plans.any (fun p => p.cl = cl && p.q = q) then s
      else match s.admission (s.qCtx cl q) d (s.planCodes cl q (s.qNext cl q)) with
        | .wait => s
        | .fail e =>
          let r := s.takeHead cl q
          r.1.finishHead cl q r.2 e d
        | .go d =>
          let r := s.takeHead cl q
          match s.readPlan cl q r.2 d with
          | .error e => r.1.finishHead cl q r.2 e d
          | .ok p => ((r.1.noteStep (s.qCtx cl q) d).openPlan p).planCheck p.id

/-- PLAN_POSITION (R458). -/
def execPlanPosition (cl : Fin 12) (q : Fin 16) (s : State) : Host.Outcome State Fault Refusal :=
  .next (s.planPosition cl.val q.val)

/-- Whether a cluster works on a plan now. -/
def State.planServed (s : State) (p : Plan) (cl : Nat) : Bool :=
  bitAt (plClusters p.record) cl && s.moduleState = 3 && s.clState cl = 0 && s.ctxServed p.ctx

/-- CHUNK_TAKE: a participating cluster with no core tile left takes the plan's next chunk (R284). -/
def State.chunkTake (s : State) (cl : Nat) : State :=
  match s.disp.plans.find? (fun p => s.planServed p cl && p.nextChunk < p.chunks && !p.hasNext cl) with
  | none => s
  | some p =>
    let k := plChunk p.record
    let lo := p.nextChunk * k * p.per
    let hi := min ((p.nextChunk + 1) * k) p.tiles * p.per
    (s.modPlan p.id (fun p => { (p.modPart cl (fun x => { x with chunk := some p.nextChunk, next := lo, limit := hi })) with
      nextChunk := p.nextChunk + 1 })).shown p.id |>.planCheck p.id

/-- CHUNK_TAKE (R284). -/
def execChunkTake (cl : Fin 12) (s : State) : Host.Outcome State Fault Refusal := .next (s.chunkTake cl.val)

/-! ### Cluster fills (R287) -/

/-- Cluster tiles whose block of a kind a cluster needs now, in ascending number: those with a core tile taken that has
yet to read it, and those of its chunk with one left to take. -/
def State.openTiles (s : State) (p : Plan) (cl kind : Nat) : List Nat :=
  let part := p.part cl
  let busy := (s.planReads p cl kind).map (· / max 1 p.per)
  let left := (((List.range part.limit).drop part.next).filter p.generated).map (· / max 1 p.per)
  (List.range p.tiles).filter (fun ct => busy.contains ct || left.contains ct)

/-- A buffer of a kind that no core tile taken, nor an earlier open cluster tile, has yet to read. -/
def State.freeBuf (s : State) (p : Plan) (cl kind ct : Nat) : Option Nat :=
  let used := (s.planReads p cl kind).map (· / max 1 p.per)
  let keep := ((s.openTiles p cl kind).filter (fun x => x ≤ ct || used.contains x)).map (p.blkOf kind)
  [0, 1].find? (fun i => !(p.part cl).bufs.any (fun b => b.kind = kind && b.idx = i && keep.contains b.blk))

/-- Rows of a block: for each, the address of its element bytes, the elements that exist, and the address of its
scales. A row past `rowTotal` has no element: it is among them where `absent` asks for it. -/
def blockRows (absent : Bool) (fmt addr stride scaleOff row0 rows rowTotal col0 cols colTotal : Nat) :
    List (Nat × Nat × Nat × Nat) :=
  (List.range (if absent then rows else min rows (rowTotal - row0))).map (fun i =>
    let ro := (row0 + i) * stride
    (i, addr + ro + col0 * fmtBits fmt / 8, if row0 + i < rowTotal then min cols (colTotal - col0) else 0,
      addr + scaleOff + ro / max 1 (blockBytes fmt) + col0 / 32))

/-- Row r of a plane of rows of whole words in Herringbone layout (R263). -/
def herringRow (r : Nat) (bs : List Byte) : List Byte :=
  let n := bs.length - r % max 1 (bs.length / 64) * 64
  bs.drop n ++ bs.take n

/-- Load one block into a buffer, in Herringbone layout where `hb`: absent elements are +0 and are not read (R283, R287);
or the code of the failure, with what it counts (R276, R291). -/
def State.loadBlock (s : State) (acc : Acc) (chk hb : Bool) (cl off fmt rows cols : Nat)
    (rs : List (Nat × Nat × Nat × Nat)) : Except (Nat × State) State :=
  let spans := (rs.filter (fun r => r.2.2.1 ≠ 0)).flatMap (fun r => (r.2.1, planeBytes fmt r.2.2.1) ::
    (if fmtIsMx fmt then [(r.2.2.2, cdiv r.2.2.1 32)] else []))
  match collect (spans.map (fun x => s.trans acc x.1 x.2 false)) with
  | .error e => .error (e, if e = cTranslation ∨ e = cProtection then s.mvCnt cl 7 1 else s)
  | .ok ps =>
    let pl := ps.flatten.map (fun x => (⟨false, x.1, x.2⟩ : Place))
    if pl.any (fun x => s.touchesPoison x.a x.n) then .error (cChecksum, s)
    else match (if chk || s.containment then s.badBlock pl else none) with
    | some b => .error (cChecksum, s.noteBadBlock cl b)
    | none =>
      let rd := fun (a n : Nat) => match s.readVa acc a n with
        | .ok l => l
        | .error _ => []
      let rb := rowBytes fmt cols
      let ns := cdiv cols 32
      let base := scratchPa cl off
      .ok ((rs.foldl (fun s' r =>
        let row := toLE rb (leNat (rd r.2.1 (planeBytes fmt r.2.2.1)) % 2 ^ (r.2.2.1 * fmtBits fmt))
        let s' := s'.write (base + r.1 * rb) (if hb then herringRow r.1 row else row)
        if fmtIsMx fmt then
          let sc := rd r.2.2.2 (cdiv r.2.2.1 32)
          s'.write (base + rows * rb + r.1 * ns) (sc ++ List.replicate (ns - sc.length) (0x7F : Byte))
        else s') s).cnt48 (kCl cl 0x80 1) (rs.length * (rb + if fmtIsMx fmt then ns else 0)))

/-- The load of the block of a kind that a cluster tile reads. -/
def State.fillBlock (s : State) (p : Plan) (cl kind ct idx : Nat) : Except (Nat × State) State :=
  let r := p.record
  let acc : Acc :=
    { ctx := p.ctx, rights := s.obj (kSeed p.ctx 2), slot := dSlot p.desc, version := dVersion p.desc,
      tag := (match p.xlat with
        | some x => .ok x
        | none => .error cTranslation) }
  let b := p.blkOf kind ct
  let k0 := b.2 * p.k2e
  let off := p.bufOff kind idx
  if kind = 0 then
    s.loadBlock acc (plChk r) false cl off (plFmtA r) p.m2 p.k2e
      (blockRows false (plFmtA r) (plAAddr r) (plAStride r) (plAScale r) (b.1 * p.m2) p.m2 (plM r) k0 p.k2e (plK r))
  else if plKn r then
    s.loadBlock acc (plChk r) true cl off (plFmtW r) p.k2e p.n2
      (blockRows true (plFmtW r) (plWAddr r) (plWStride r) (plWScale r) k0 p.k2e (plK r) (b.1 * p.n2) p.n2 (plN r))
  else
    s.loadBlock acc (plChk r) false cl off (plFmtW r) p.n2 p.k2e
      (blockRows false (plFmtW r) (plWAddr r) (plWStride r) (plWScale r) (b.1 * p.n2) p.n2 (plN r) k0 p.k2e (plK r))

/-- The next block that a cluster lacks: plan, kind, cluster tile and the buffer it may take. -/
def State.nextFillOf (s : State) (cl : Nat) : Option (Plan × Nat × Nat × Nat) :=
  (s.disp.plans.filter (fun p => s.planServed p cl)).findSome? (fun p =>
    let need := fun k => s.openTiles p cl k
    match (List.range p.tiles).flatMap (fun ct =>
      ([0, 1].filter (fun k => (need k).contains ct && (p.bufFor cl k ct).isNone)).map (fun k => (k, ct))) with
    | (k, ct) :: _ => (s.freeBuf p cl k ct).map (fun i => (p, k, ct, i))
    | [] => none)

/-- CLUSTER_FILL: the cluster mover loads the next block into a free buffer (R287). -/
def State.clusterFill (s : State) (cl : Nat) : State :=
  match s.nextFillOf cl with
  | none => s
  | some (p, kind, ct, i) =>
    match s.fillBlock p cl kind ct i with
    | .error e => e.2.planFail p.id e.1
    | .ok s => s.modPlan p.id (fun p => p.modPart cl (fun x => { x with
        bufs := x.bufs.filter (fun b => !(b.kind = kind && b.idx = i)) ++ [⟨kind, i, p.blkOf kind ct⟩] }))

/-- CLUSTER_FILL (R287). -/
def execClusterFill (cl : Fin 12) (s : State) : Host.Outcome State Fault Refusal := .next (s.clusterFill cl.val)

end Sys2Proof.Machine
end

