-- ==== Sys2Proof/Machine/Lanes.lean ====
section
/-! DEFINITION. What each arithmetic operation of the vector engine computes for one lane (R167 to R173, R178 to R180):
from the lane's source patterns to its result pattern and events. -/

namespace Sys2Proof.Machine

/-- R178: an intermediate binary32 result counts no INEXACT. -/
def noInexact (x : Nat × Ev) : Nat × Ev := (x.1, { x.2 with inexact := 0 })

/-- A lane's source, 0 where the operation names fewer. -/
def src (l : List Nat) (i : Nat) : Nat := nth 0 l i

/-- FADD. -/
def lFadd (l : List Nat) : Nat × Ev := noInexact (f32add (src l 0) (src l 1))
/-- FSUB. -/
def lFsub (l : List Nat) : Nat × Ev := noInexact (f32sub (src l 0) (src l 1))
/-- FMUL. -/
def lFmul (l : List Nat) : Nat × Ev := noInexact (f32mul (src l 0) (src l 1))
/-- FMA. -/
def lFma (l : List Nat) : Nat × Ev := noInexact (f32fma (src l 0) (src l 1) (src l 2))
/-- FNMA: c - a b, one rounding. -/
def lFnma (l : List Nat) : Nat × Ev :=
  noInexact (arith fmtF32 [f32v (src l 0), f32v (src l 1), f32v (src l 2)]
    (((f32v (src l 0)).mul (f32v (src l 1))).neg.add (f32v (src l 2))))
/-- FMAX (R168). -/
def lFmax (l : List Nat) : Nat × Ev := (f32max (src l 0) (src l 1), .none)
/-- FMIN (R168). -/
def lFmin (l : List Nat) : Nat × Ev := (f32min (src l 0) (src l 1), .none)
/-- FMAXN (R168). -/
def lFmaxn (l : List Nat) : Nat × Ev :=
  (if f32IsNan (src l 0) || f32IsNan (src l 1) then f32Nan else f32max (src l 0) (src l 1), .none)
/-- FMINN (R168). -/
def lFminn (l : List Nat) : Nat × Ev :=
  (if f32IsNan (src l 0) || f32IsNan (src l 1) then f32Nan else f32min (src l 0) (src l 1), .none)
/-- FABS. -/
def lFabs (l : List Nat) : Nat × Ev := (canonF32 (src l 0 % 2 ^ 31), .none)
/-- FNEG. -/
def lFneg (l : List Nat) : Nat × Ev := (canonF32 (src l 0 ^^^ 2 ^ 31), .none)
/-- FRINT. -/
def lFrint (l : List Nat) : Nat × Ev := (f32r (f32v (src l 0)).rint, .none)
/-- FFLOOR: the rounding by RINT, less one where it lies above the value. -/
def lFfloor (l : List Nat) : Nat × Ev :=
  let v := f32v (src l 0)
  let r := v.rint
  (f32r (if v.lt r then r.sub (.fin false 1 0) else r), .none)
/-- FCLAMP. -/
def lFclamp (l : List Nat) : Nat × Ev := (f32min (f32max (src l 0) (src l 1)) (src l 2), .none)

/-- CVTIF. -/
def lCvtif (l : List Nat) : Nat × Ev := (f32r (FVal.ofInt (sx 32 (src l 0))), .none)
/-- CVTFI (R171). -/
def lCvtfi (l : List Nat) : Nat × Ev :=
  let sat : Ev := ⟨0, 0, 0, 1⟩
  match f32v (src l 0) with
  | .nan => (0, sat)
  | .inf s => (if s then 0x80000000 else 0x7FFFFFFF, sat)
  | v =>
    let i := v.rint.toIntExact
    if 2147483647 < i then (0x7FFFFFFF, sat)
    else if i < -2147483648 then (0x80000000, sat)
    else (wrapInt 32 i, .none)

/-- An integer operation on two lanes, modulo 2^32. -/
def lInt (f : Int → Int → Int) (l : List Nat) : Nat × Ev := (wrapInt 32 (f (sx 32 (src l 0)) (sx 32 (src l 1))), .none)
/-- AND. -/
def lAnd (l : List Nat) : Nat × Ev := (src l 0 &&& src l 1, .none)
/-- OR. -/
def lOr (l : List Nat) : Nat × Ev := (src l 0 ||| src l 1, .none)
/-- XOR. -/
def lXor (l : List Nat) : Nat × Ev := (src l 0 ^^^ src l 1, .none)
/-- SHL (R172). -/
def lShl (l : List Nat) : Nat × Ev :=
  let n := src l 1 % 256
  (if 32 ≤ n then 0 else (src l 0 <<< n) % 2 ^ 32, .none)
/-- SHR (R172). -/
def lShr (l : List Nat) : Nat × Ev :=
  let n := src l 1 % 256
  (if 32 ≤ n then 0 else src l 0 >>> n, .none)
/-- SAR (R172). -/
def lSar (l : List Nat) : Nat × Ev :=
  let n := min 31 (src l 1 % 256)
  (wrapInt 32 (sx 32 (src l 0) / (2 ^ n : Nat)), .none)

/-- FCMPEQ. -/
def cFeq (a b : Nat) : Bool := (f32v a).eq (f32v b)
/-- FCMPLT. -/
def cFlt (a b : Nat) : Bool := (f32v a).lt (f32v b)
/-- FCMPLE. -/
def cFle (a b : Nat) : Bool := (f32v a).lt (f32v b) || (f32v a).eq (f32v b)
/-- FCMPUN. -/
def cFun (a b : Nat) : Bool := f32IsNan a || f32IsNan b
/-- ICMPEQ. -/
def cIeq (a b : Nat) : Bool := a = b
/-- ICMPLT. -/
def cIlt (a b : Nat) : Bool := sx 32 a < sx 32 b

/-! ### Packed operations (R173): half-lanes of bfloat16 -/

/-- A packed operation rounds its exact result once to bfloat16. -/
def pArith (f : FVal → FVal → FVal → FVal) (n : Nat) (l : List Nat) : Nat × Ev :=
  let a := bfv (src l 0)
  let b := bfv (src l 1)
  let c := bfv (src l 2)
  arith fmtBf16 ([a, b, c].take n) (f a b c)
/-- HADD. -/
def pHadd : List Nat → Nat × Ev := pArith (fun a b _ => a.add b) 2
/-- HSUB. -/
def pHsub : List Nat → Nat × Ev := pArith (fun a b _ => a.sub b) 2
/-- HMUL. -/
def pHmul : List Nat → Nat × Ev := pArith (fun a b _ => a.mul b) 2
/-- HFMA. -/
def pHfma : List Nat → Nat × Ev := pArith (fun a b c => (a.mul b).add c) 3
/-- HFNMA. -/
def pHfnma : List Nat → Nat × Ev := pArith (fun a b c => (a.mul b).neg.add c) 3
/-- HMAX: FMAX of the values, which are binary32 values with 16 low zero bits. -/
def pHmax (l : List Nat) : Nat × Ev := (f32max (src l 0 * 65536) (src l 1 * 65536) / 65536, .none)
/-- HMIN. -/
def pHmin (l : List Nat) : Nat × Ev := (f32min (src l 0 * 65536) (src l 1 * 65536) / 65536, .none)

/-- A special function of one lane (R179, R180). -/
def lSfu (tm1 : Bool) (f : SfuFn) (l : List Nat) : Nat × Ev := noInexact (sfu tm1 f (src l 0))

end Sys2Proof.Machine
end

