-- ==== Sys2Proof/Machine/Vector.lean ====
section
/-! DEFINITION. The vector engine (R159 to R163, R167 to R178, R209 to R220, R224): registers, the environment that a
routine's section gives its operations, and each operation. An operation runs on a core's state and reports events. -/

namespace Sys2Proof.Machine

/-! ### Registers -/

/-- A vector register's lanes (R159). A register that nothing has written since the head began holds free values (R221). -/
def CoreSt.vreg (c : CoreSt) (n : Nat) : List Nat :=
  match nget [] c.vregs n with
  | [] => (List.range 256).map (fun i =>
      if c.epoch = 0 then 0 else (Config.freeWord (c.epoch * 2 ^ 20 + n * 256 + i)).toNat)
  | l => l.map BitVec.toNat

/-- Write a whole vector register. -/
def CoreSt.setVreg (c : CoreSt) (n : Nat) (l : List Nat) : CoreSt :=
  { c with vregs := nset [] c.vregs n (l.map (BitVec.ofNat 32)) }

/-- A mask register; m0 reads as all ones (R162). -/
def CoreSt.mask (c : CoreSt) (k : Nat) : BitVec 512 :=
  if k = 0 then BitVec.allOnes 512 else
    match nget none c.masks k with
    | some m => m
    | none => if c.epoch = 0 then 0 else
        BitVec.ofNat 512 ((List.range 16).foldl (fun a i =>
          a * 2 ^ 32 + (Config.freeWord (c.epoch * 2 ^ 20 + 2 ^ 16 + k * 16 + i)).toNat) 0)

/-- A mask from its 512 bits, lowest first. -/
def maskOf (l : List Bool) : BitVec 512 := BitVec.ofNat 512 (l.foldr (fun b a => 2 * a + b2n b) 0)

/-- Write a mask register. -/
def CoreSt.setMask (c : CoreSt) (k : Nat) (m : BitVec 512) : CoreSt := { c with masks := nset none c.masks k (some m) }

/-- R161: lane i is active under mask k. -/
def CoreSt.active (c : CoreSt) (k i : Nat) : Bool := (c.mask k).getLsbD (2 * i)

/-- R161: half-lane j is active under mask k. -/
def CoreSt.activeH (c : CoreSt) (k j : Nat) : Bool := (c.mask k).getLsbD j

/-! ### The environment of an operation -/

/-- What a section gives its operations: entry and binding, the places of the step's rows, columns and slabs, and the
random state of the task (R209 to R224). -/
structure VEnv where
  entry : Nat
  bind : Nat
  key : Option (BitVec 256)
  step : Nat
  ctx : Nat
  /-- Local row of the step's row 0 for MODE 1 and for MODE 0 generators, and the column index of MODE 1 (R216). -/
  q : Nat
  q0 : Nat
  j : Nat
  /-- Logical row of row 0, its local row, and logical column of column 0 (R224). -/
  lrow : Nat
  loc : Nat
  col : Nat
  ntot : Nat
  tensor : Nat
  /-- Present columns and present rows of the step (R220). -/
  cols : Nat
  rows : Nat
  slabs : List Nat
  /-- Rings whose current slab the section itself fills, and rings its stores may write (R217, R218). -/
  own : List Nat
  stores : List Nat
  /-- Where statistics go: 0 this step's records, 1 the group's stacks, 2 the command's stacks; and where STAT_GET reads:
  0 this step's records, 1 the group's roots, 2 operand SRAM (R230, R236, R237, R240, R241). -/
  statTo : Nat
  statFrom : Nat
  /-- First chunk of the stacks. -/
  leaf0 : Nat
  /-- Number of the command whose stacks they are. -/
  tile : Nat
  /-- Number that distinguishes the free values of this operation. -/
  free : Nat

/-- What an operation leaves: the core, events, vector operations issued (R203), special-function results, refused lanes, sampler rows; and whether it
must wait (`some none`) or fails with a code. -/
structure VRes where
  c : CoreSt
  ev : Ev
  ops : Nat
  sfu : Nat
  bad : Nat
  rows : Nat
  stop : Option (Option Nat)

/-- An operation that ran. -/
def VRes.ok (c : CoreSt) (ev : Ev) : VRes := ⟨c, ev, 0, 0, 0, 0, none⟩
/-- An operation that waits, or fails with a code. -/
def VRes.halt (c : CoreSt) (r : Option Nat) : VRes := ⟨c, .none, 0, 0, 0, 0, some r⟩

/-! ### Generator addresses (R215 to R218) -/

/-- The byte address of a generator for row r of the step and a byte offset. -/
def CoreSt.genAddr (c : CoreSt) (v : VEnv) (ag r off : Nat) : Nat :=
  let g := bAg v.bind ag
  if agAbs g then agBase g + off + (v.q + r) * agRowStride g + v.j * agColStride g
  else (c.ring (agRing g)).slabAddr (nth 0 v.slabs ag) + off + (v.q0 + r) * agRowStride g

/-- R217, R218: why a read of runs of bytes at a generator cannot go on: `some none` while its slab is not resident. -/
def CoreSt.readStop (c : CoreSt) (v : VEnv) (ag : Nat) (runs : List (Nat × Nat)) : Option (Option Nat) :=
  if runs.isEmpty then none else
    let g := bAg v.bind ag
    if !agValid g || runs.any (fun p => sramSize < p.1 + p.2) then some (some cDescriptor)
    else if agOnRing g && !v.own.contains (agRing g) && !(c.ring (agRing g)).resident (nth 0 v.slabs ag) then some none
    else none

/-- R218: why a store of runs of bytes at a generator fails. -/
def CoreSt.writeStop (c : CoreSt) (v : VEnv) (ag : Nat) (runs : List (Nat × Nat)) : Option (Option Nat) :=
  if runs.isEmpty then none else
    let g := bAg v.bind ag
    let r := c.ring (agRing g)
    let base := r.slabAddr (nth 0 v.slabs ag)
    if !agValid g || runs.any (fun p => sramSize < p.1 + p.2 || c.inRing p.1 p.2 v.stores.contains ||
        (agOnRing g && (p.1 < base || base + r.slab < p.1 + p.2))) then some (some cDescriptor)
    else none

/-! ### Operands (R210) -/

/-- A source operand's 256 lanes, or why it cannot be read. A row scalar is read for the word, not for a lane: it is read
where K leaves no lane active too (log 128). -/
def CoreSt.operand (c : CoreSt) (v : VEnv) (code : Nat) : Except (Option Nat) (List Nat) :=
  if code < 0x40 then .ok (c.vreg code)
  else if code < 0x60 then .ok (List.replicate 256 (imgNat c.rmem (eConst v.entry + 4 * (code - 0x40)) 4))
  else if code < 0x70 then .ok (List.replicate 256 (bParam v.bind (code - 0x60)))
  else
    let n := (code - 0x70) / 4
    let a := c.genAddr v n (code % 4) 0
    match c.readStop v n [(a, 4)] with
    | some r => .error r
    | none => .ok (List.replicate 256 (c.rdNat a 4))

/-- The first `n` source operands of a word, or why one cannot be read. -/
def CoreSt.operands (c : CoreSt) (v : VEnv) (w n : Nat) : Except (Option Nat) (List (List Nat)) :=
  (([wA w, wB w, wC w].take n).map (c.operand v)).foldr (fun x acc =>
    match x, acc with
    | .ok a, .ok l => .ok (a :: l)
    | .error e, _ => .error e
    | _, .error e => .error e) (.ok [])

/-- Lane i of each operand. -/
def laneOf (xs : List (List Nat)) (i : Nat) : List Nat := xs.map (fun x => nth 0 x i)

/-- Write the active lanes of a register; an inactive lane keeps its contents (R163). -/
def CoreSt.putLanes (c : CoreSt) (k d : Nat) (l : List Nat) : CoreSt :=
  let old := c.vreg d
  c.setVreg d ((List.range 256).map (fun i => if c.active k i then nth 0 l i else nth 0 old i))

/-! ### Lane operations -/

/-- An operation on the 32-bit lanes: its active lanes are computed and count their events (R163, R178). -/
def CoreSt.vLanes (n : Nat) (f : List Nat → Nat × Ev) (v : VEnv) (c : CoreSt) (w : Nat) : VRes :=
  match c.operands v w n with
  | .error e => .halt c e
  | .ok xs =>
    let rs := (List.range 256).map (fun i => if c.active (wK w) i then f (laneOf xs i) else (0, Ev.none))
    .ok (c.putLanes (wK w) (wD w) (rs.map (·.1))) (Ev.sum (rs.map (·.2)))

/-- A special-function operation, which counts its results (R203). -/
def CoreSt.vSfu (tm1 : Bool) (fn : SfuFn) (v : VEnv) (c : CoreSt) (w : Nat) : VRes :=
  let r := CoreSt.vLanes 1 (lSfu tm1 fn) v c w
  { r with sfu := if r.stop.isSome then 0 else ((List.range 256).filter (c.active (wK w))).length }

/-- Half-lane j of an operand (R160). -/
def halfOf (x : List Nat) (j : Nat) : Nat := if j % 2 = 0 then nth 0 x (j / 2) % 65536 else nth 0 x (j / 2) / 65536

/-- A packed operation on the 512 half-lanes (R173). Each active half-lane counts its own events, where R178 speaks of active lanes
(DESIGN CHOICE, log 150). -/
def CoreSt.vPacked (n : Nat) (f : List Nat → Nat × Ev) (v : VEnv) (c : CoreSt) (w : Nat) : VRes :=
  match c.operands v w n with
  | .error e => .halt c e
  | .ok xs =>
    let old := c.vreg (wD w)
    let rs := (List.range 512).map (fun j =>
      if c.activeH (wK w) j then f (xs.map (fun x => halfOf x j)) else (halfOf old j, Ev.none))
    .ok (c.setVreg (wD w) ((List.range 256).map (fun i =>
      (nth (0, Ev.none) rs (2 * i)).1 + 65536 * (nth (0, Ev.none) rs (2 * i + 1)).1))) (Ev.sum (rs.map (·.2)))

/-- A comparison writes a mask (R161); inactive lanes keep their bits (R163). -/
def CoreSt.vCompare (f : Nat → Nat → Bool) (v : VEnv) (c : CoreSt) (w : Nat) : VRes :=
  match c.operands v w 2 with
  | .error e => .halt c e
  | .ok xs =>
    let old := c.mask (wD w)
    .ok (c.setMask (wD w) (maskOf ((List.range 512).map (fun j =>
      if c.active (wK w) (j / 2) then f (nth 0 (nth [] xs 0) (j / 2)) (nth 0 (nth [] xs 1) (j / 2))
      else old.getLsbD j)))) .none

/-- Mask logic on all 512 bits; bits that K clears are kept (R163). -/
def CoreSt.vMask (f : BitVec 512 → BitVec 512 → BitVec 512) (_v : VEnv) (c : CoreSt) (w : Nat) : VRes :=
  let k := c.mask (wK w)
  .ok (c.setMask (wD w) ((f (c.mask (wA w)) (c.mask (wB w)) &&& k) ||| (c.mask (wD w) &&& ~~~k))) .none

/-- MPOP: the number of set bits of k, in every lane. -/
def CoreSt.vMpop (_v : VEnv) (c : CoreSt) (w : Nat) : VRes :=
  .ok (c.setVreg (wD w) (List.replicate 256 ((List.range 512).filter (c.activeH (wK w))).length)) .none

/-- SEL: lane i of a where bit 2i of k is set, else of b (R169). -/
def CoreSt.vSel (v : VEnv) (c : CoreSt) (w : Nat) : VRes :=
  match c.operands v w 2 with
  | .error e => .halt c e
  | .ok xs => .ok (c.setVreg (wD w) ((List.range 256).map (fun i =>
      nth 0 (nth [] xs (if c.active (wK w) i then 0 else 1)) i))) .none

/-! ### Random words and rounding bits (R174, R224, R386, R400) -/

/-- The logical index of a lane of half h, row r (R224, R389). -/
def VEnv.index (v : VEnv) (r h i : Nat) : Nat := ((v.lrow + r) * v.ntot + v.col + 256 * h + i) % 2 ^ 64

/-- RAND (R174, R386, R391). -/
def CoreSt.vRand (v : VEnv) (c : CoreSt) (w : Nat) : VRes :=
  let stream := bParam v.bind (fld w 21 17)
  match v.key with
  | none => .halt c (some cDescriptor)
  | some k =>
    if purposeBits (stream % 256) = 0 || 7 < stream % 256 then .halt c (some cDescriptor)
    else
      .ok (c.putLanes (wK w) (wD w) ((List.range 256).map (fun i =>
        randElem k v.step stream (v.index (wRow w) (wHalf w) i)))) .none

/-- The rounding bits of the stored lanes of a row's half (R224). -/
def VEnv.storeRand (v : VEnv) (ctrl r h i : Nat) : Nat :=
  match v.key with
  | some k => if ctrlIsSr ctrl then srBits k v.step v.tensor (v.index r h i) else 0
  | none => 0

/-- The rounding bits of element e of a FQUANT or PACK word (R48, R224, R397): those of the task's stream at the element's
logical index. The words hold no row, so the element's place in the step is a free value. -/
def VEnv.quantRand (v : VEnv) (ctrl w e : Nat) : Nat :=
  let p := Config.quantPlace w e
  v.storeRand ctrl (p / 512 % 4) 0 (p % 512)

/-- A control byte that rounds stochastically needs the task's seed key (R400). -/
def VEnv.needsKey (v : VEnv) (ctrl : Nat) : Bool := ctrlIsSr ctrl && v.key.isNone

/-- Round lanes by a control byte: codes, scale bytes by block of 32, events. In an MX block an inactive lane counts as
+0 (R142). -/
def roundLanes (ctrl : Nat) (rand : Nat → Nat) (act : Nat → Bool) (val : Nat → Nat) :
    List Nat × List Nat × List Ev :=
  if fmtIsMx (ctrlFmt ctrl) then
    let bs := (List.range 8).map (fun b =>
      let js := (List.range 32).map (fun k => 32 * b + k)
      ctrlRoundMx ctrl (js.map rand) (js.map (fun i => if act i then f32v (val i) else .zero)))
    (bs.flatMap (fun x => x.2.1), bs.map (·.1), bs.map (fun x => x.2.2))
  else
    let xs := (List.range 256).map (fun i =>
      if act i then ctrlRound ctrl (rand i) (f32v (val i)) else (0, Ev.none))
    (xs.map (·.1), [], xs.map (·.2))

/-- FQUANT: rounded by a control byte, then widened back to binary32. -/
def CoreSt.vFquant (v : VEnv) (c : CoreSt) (w : Nat) : VRes :=
  let ctrl := fld w 21 14
  match c.operands v w 1 with
  | .error e => .halt c e
  | .ok xs =>
    if v.needsKey ctrl then .halt c (some cDescriptor) else
      let x := nth [] xs 0
      let r := roundLanes ctrl (v.quantRand ctrl w) (c.active (wK w)) (fun i => nth 0 x i)
      let out := r.1.zipIdx.map (fun p => (elemToF32 (ctrlFmt ctrl) p.1 (nth 127 r.2.1 (p.2 / 32))).1)
      .ok (c.putLanes (wK w) (wD w) out) (Ev.sum r.2.2)

/-! ### Loads and stores (R167, R175, R216 to R220, R224) -/

/-- LD: active lane i loads the 4 bytes at the generator's address plus 4i. -/
def CoreSt.vLd (v : VEnv) (c : CoreSt) (w : Nat) : VRes :=
  let a := c.genAddr v (wAg w) (wRow w) (fld w 7 0 * 16)
  let act := (List.range 256).filter (c.active (wK w))
  match c.readStop v (wAg w) (act.map (fun i => (a + 4 * i, 4))) with
  | some r => .halt c r
  | none => .ok (c.putLanes (wK w) (wD w) ((List.range 256).map (fun i =>
      if c.active (wK w) i then c.rdNat (a + 4 * i) 4 else 0))) .none

/-- R220: lane i of a store to half h of row r is written. -/
def CoreSt.stored (v : VEnv) (c : CoreSt) (w i : Nat) : Bool :=
  wRow w < v.rows && c.active (wK w) i && c.active (14 + wHalf w) i

/-- ST: active lane i stores its 4 bytes at the generator's address plus 4i. -/
def CoreSt.vSt (v : VEnv) (c : CoreSt) (w : Nat) : VRes :=
  let a := c.genAddr v (wAg w) (wRow w) (fld w 7 0 * 16)
  match c.operands v w 1 with
  | .error e => .halt c e
  | .ok xs =>
    let act := (List.range 256).filter (c.stored v w)
    match c.writeStop v (wAg w) (act.map (fun i => (a + 4 * i, 4))) with
    | some r => .halt c r
    | none => .ok (act.foldl (fun c i => c.wr (a + 4 * i) (toLE 4 (nth 0 (nth [] xs 0) i))) c) .none

/-- The runs that STQ writes: the bytes of each active element; for an MX format those of every block of 32 that has an active lane,
and its scale byte after the row's element bytes (DEDUCED, log 30). -/
def stqRuns (fmt a : Nat) (act : Nat → Bool) (bytes : List Byte) (scales : List Nat) : List (Nat × List Byte) :=
  if fmtIsMx fmt then
    let n := fmtBits fmt * 4
    ((List.range 8).filter (fun b => (List.range 32).any (fun k => act (32 * b + k)))).flatMap (fun b =>
      [(a + n * b, (bytes.drop (n * b)).take n), (a + 8 * n + b, [BitVec.ofNat 8 (nth 0 scales b)])])
  else
    let n := fmtBits fmt / 8
    ((List.range 256).filter act).map (fun i => (a + n * i, (bytes.drop (n * i)).take n))

/-- STQ: a rounded by a control byte and stored (R224). In an MX block the elements of inactive lanes keep the bits that they
have (R163, R220). -/
def CoreSt.vStq (v : VEnv) (c : CoreSt) (w : Nat) : VRes :=
  let ctrl := fld w 21 14
  let fmt := ctrlFmt ctrl
  let a := c.genAddr v (wAg w) (wRow w) (fld w 7 0 * 16)
  match c.operands v w 1 with
  | .error e => .halt c e
  | .ok xs =>
    let act := c.stored v w
    if (List.range 256).any act && v.needsKey ctrl then .halt c (some cDescriptor) else
      let r := roundLanes ctrl (v.storeRand ctrl (wRow w) (wHalf w)) act (fun i => nth 0 (nth [] xs 0) i)
      let old := c.rd a (planeBytes fmt 256)
      let codes := if fmtIsMx fmt then (List.range 256).map (fun i => if act i then nth 0 r.1 i else unpackElem fmt old i) else r.1
      let runs := stqRuns fmt a act (packElems fmt codes) r.2.1
      match c.writeStop v (wAg w) (runs.map (fun p => (p.1, p.2.length))) with
      | some e => .halt c e
      | none => .ok (runs.foldl (fun c p => c.wr p.1 p.2) c)
          (Ev.sum ((List.range r.2.2.length).map (fun i =>
            if fmtIsMx fmt || act i then nth Ev.none r.2.2 i else Ev.none)))

/-- R175: an address that a lane may use. -/
def laneAddrOk (a : Nat) : Bool := a % 4 = 0 && a + 4 ≤ sramSize

/-- LDX: active lane i loads 4 bytes at the address in lane i of a. -/
def CoreSt.vLdx (v : VEnv) (c : CoreSt) (w : Nat) : VRes :=
  match c.operands v w 1 with
  | .error e => .halt c e
  | .ok xs =>
    let x := nth [] xs 0
    { VRes.ok (c.putLanes (wK w) (wD w) ((List.range 256).map (fun i =>
        if laneAddrOk (nth 0 x i) then c.rdNat (nth 0 x i) 4 else 0))) .none with
      bad := ((List.range 256).filter (fun i => c.active (wK w) i && !laneAddrOk (nth 0 x i))).length }

/-- STX: active lane i stores lane i of a at the address in lane i of b. Where lanes with different data meet at one
address, the spec states no winner: that word is a free value. -/
def CoreSt.vStx (v : VEnv) (c : CoreSt) (w : Nat) : VRes :=
  match c.operands v w 2 with
  | .error e => .halt c e
  | .ok xs =>
    let act := (List.range 256).filter (c.active (wK w))
    let ok := act.filter (fun i => laneAddrOk (nth 0 (nth [] xs 1) i))
    let ws := ok.map (fun i => (nth 0 (nth [] xs 1) i, nth 0 (nth [] xs 0) i))
    let c' := ws.foldl (fun c p =>
      c.wr p.1 (toLE 4 (if ws.any (fun q => q.1 = p.1 && q.2 ≠ p.2) then
        (Config.freeWord (v.free * 2 ^ 24 + p.1)).toNat else p.2))) c
    { VRes.ok c' .none with bad := act.length - ok.length }

/-! ### Moves between lanes (R170, R176, R177) -/

/-- PERM: lane i takes lane b[i] of a and c (R170). -/
def CoreSt.vPerm (v : VEnv) (c : CoreSt) (w : Nat) : VRes :=
  match c.operands v w 3 with
  | .error e => .halt c e
  | .ok xs =>
    .ok (c.putLanes (wK w) (wD w) ((List.range 256).map (fun i =>
      let n := nth 0 (nth [] xs 1) i
      if n < 256 then nth 0 (nth [] xs 0) n else if n < 512 then nth 0 (nth [] xs 2) (n - 256) else 0))) .none

/-- SHUF: rotate by n lanes, swap lanes at distance 2^n, or broadcast lane n. -/
def CoreSt.vShuf (v : VEnv) (c : CoreSt) (w : Nat) : VRes :=
  let n := fld w 7 0
  match c.operands v w 1 with
  | .error e => .halt c e
  | .ok xs =>
    .ok (c.putLanes (wK w) (wD w) ((List.range 256).map (fun i =>
      nth 0 (nth [] xs 0) (match fld w 21 20 with
        | 0 => (i + n) % 256
        | 1 => i ^^^ 2 ^ (n % 8)
        | _ => n)))) .none

/-- Element e of the two sources taken as one row of 512. -/
def pairElem (xs : List (List Nat)) (e : Nat) : Nat :=
  if e < 256 then nth 0 (nth [] xs 0) e else nth 0 (nth [] xs 1) (e - 256)

/-- Events of one active lane: each kind but INEXACT at most once (R178). -/
def laneEv (l : List Ev) : Ev :=
  let s := Ev.sum l
  ⟨s.inexact, min 1 s.overflow, min 1 s.nanCreated, min 1 s.saturated⟩

/-- PACK (R176). A byte for which the concatenated sources hold no element is a free value. -/
def CoreSt.vPack (v : VEnv) (c : CoreSt) (w : Nat) : VRes :=
  let ctrl := fld w 21 14
  let wide := fmtBits (ctrlFmt ctrl) = 16
  match c.operands v w 2 with
  | .error e => .halt c e
  | .ok xs =>
    if v.needsKey ctrl then .halt c (some cDescriptor) else
      let old := c.vreg (wD w)
      let conv := fun (e : Nat) =>
        if e < 512 then ctrlRound ctrl (v.quantRand ctrl w e) (f32v (pairElem xs e))
        else ((Config.freeByte (v.free * 4096 + e)).toNat, Ev.none)
      let rs := (List.range 256).map (fun i =>
        if c.active (wK w) i then
          if wide then
            let a := conv (2 * i)
            let b := conv (2 * i + 1)
            (a.1 + 65536 * b.1, laneEv [a.2, b.2])
          else
            let a := conv (4 * i + 2 * wHalf w)
            let b := conv (4 * i + 2 * wHalf w + 1)
            let o := nth 0 old i
            (if wHalf w = 0 then a.1 + 256 * b.1 + o / 65536 * 65536 else o % 65536 + 65536 * (a.1 + 256 * b.1),
              laneEv [a.2, b.2])
        else (0, Ev.none))
      .ok (c.putLanes (wK w) (wD w) (rs.map (·.1))) (Ev.sum (rs.map (·.2)))

/-- UNPACK: lane i takes element 256 h + i of the packed register (R176, R211). -/
def CoreSt.vUnpack (v : VEnv) (c : CoreSt) (w : Nat) : VRes :=
  let fmt := fld w 17 14
  match c.operands v w 1 with
  | .error e => .halt c e
  | .ok xs =>
    let per := 32 / max 1 (fmtBits fmt)
    .ok (c.putLanes (wK w) (wD w) ((List.range 256).map (fun i =>
      let e := 256 * wHalf w + i
      let x := nth 0 (nth [] xs 0) (e / per)
      (elemToF32 fmt (fld x (fmtBits fmt * (e % per) + fmtBits fmt - 1) (fmtBits fmt * (e % per))) 127).1))) .none

/-- The active lanes of a source as leaves (R177). -/
def CoreSt.leaves (c : CoreSt) (k : Nat) (x : List Nat) : List (Option Nat) :=
  x.zipIdx.map (fun p => if c.active k p.2 then some p.1 else none)

/-- LSUM: the canonical tree sum of one register, or of two where A and B differ (R177; no field says which form a word
has, log 128). A NaN is written in canonical form (R24, R54), a lone active lane's too. -/
def CoreSt.vLsum (v : VEnv) (c : CoreSt) (w : Nat) : VRes :=
  match c.operands v w (if wA w = wB w then 1 else 2) with
  | .error e => .halt c e
  | .ok xs =>
    let r := treeVal nodeAdd (xs.flatMap (c.leaves (wK w)))
    .ok (c.setVreg (wD w) (List.replicate 256 (canonF32 (r.1.getD 0)))) r.2

/-- LMAX, LMIN: the fold of the active lanes into every lane, a NaN in canonical form (R54); a free value where none is
active. -/
def CoreSt.vFold (f : Nat → Nat → Nat) (v : VEnv) (c : CoreSt) (w : Nat) : VRes :=
  match c.operands v w 1 with
  | .error e => .halt c e
  | .ok xs =>
    let r := match (c.leaves (wK w) (nth [] xs 0)).filterMap id with
      | x :: l => canonF32 (l.foldl f x)
      | [] => (Config.freeWord (v.free * 2 ^ 24)).toNat
    .ok (c.setVreg (wD w) (List.replicate 256 r)) .none

/-- LMAXI: the lowest index of an active lane that holds the largest value; -1 where no active lane holds a number. -/
def CoreSt.vLmaxi (v : VEnv) (c : CoreSt) (w : Nat) : VRes :=
  match c.operands v w 1 with
  | .error e => .halt c e
  | .ok xs =>
    let l := c.leaves (wK w) (nth [] xs 0)
    let nums := (l.filterMap id).filter (fun x => !f32IsNan x)
    let r := match nums with
      | [] => 2 ^ 32 - 1
      | x :: t =>
        let m := t.foldl f32max x
        (l.findIdx? (fun o => o = some m)).getD (2 ^ 32 - 1)
    .ok (c.setVreg (wD w) (List.replicate 256 r)) .none

/-! ### Directives (R212, R230, R236, R237, R240, R241) -/

/-- A chunk leaf joins a stack: chunks before it that formed no leaf are absent. -/
def statPush (tm1 : Bool) (stk : List StackEntry) (first leaf : Nat) (r : Option (List Nat)) :
    List StackEntry × Ev :=
  let b := match stk with
    | e :: _ => e.b
    | [] => first
  let pad := (List.range (leaf - b)).foldl (fun (acc : List StackEntry × Ev) k =>
    let z := stackPush tm1 3 acc.1 ⟨b + k, b + k + 1, none⟩
    (z.1, acc.2.plus z.2)) (stk, Ev.none)
  let z := stackPush tm1 3 pad.1 ⟨leaf, leaf + 1, r.map (fun x => [x])⟩
  (z.1, pad.2.plus z.2)

/-- STAT_LEAF: the leaf of R83 for a row and slot of the step. -/
def CoreSt.vStatLeaf (tm1 : Bool) (v : VEnv) (c : CoreSt) (w : Nat) : VRes :=
  let r := wRow w
  let slot := fld w 19 15
  match c.operands v w 2 with
  | .error e => .halt c e
  | .ok xs =>
    if v.rows ≤ r then .ok c .none
    else
      let cols := (List.range 512).map (fun p =>
        if p < v.cols && c.active (wK w) (p % 256) then some (pairElem xs p) else none)
      let lf := statLeaf tm1 cols
      let key := (v.q0 + r) * 32 + slot
      let leaf := v.col / 512
      match v.statTo with
      | 0 =>
        .ok { c with sect := c.sect.map (fun x => { x with stepStats := nset [] x.stepStats (r * 32 + slot) (lf.1.getD []) }) } lf.2
      | 1 =>
        match c.groupOf v.tile with
        | some g =>
          let z := statPush tm1 (nget [] g.stats key) v.leaf0 leaf lf.1
          .ok (c.setGroup { g with stats := nset [] g.stats key z.1 }) (lf.2.plus z.2)
        | none => .ok c lf.2
      | _ =>
        let old := match c.tiles.find? (fun t => t.num = v.tile) with
          | some t => nget [] t.stats key
          | none => []
        let z := statPush tm1 old v.leaf0 leaf lf.1
        .ok { c with tiles := c.tiles.map (fun t => if t.num = v.tile then { t with stats := nset [] t.stats key z.1 } else t) }
          (lf.2.plus z.2)

/-- The record at the foot of a stack, which is the root of a stack that has collapsed (R237, R238). -/
def statRoot (l : List StackEntry) : List Nat :=
  match l with
  | e :: _ => match e.recs with
    | some r => nth [0, 0, 0] r 0
    | none => [0, 0, 0]
  | [] => [0, 0, 0]

/-- STAT_GET: one field of a row's statistic, broadcast. -/
def CoreSt.vStatGet (v : VEnv) (c : CoreSt) (w : Nat) : VRes :=
  let r := wRow w
  let slot := fld w 19 15
  let give := fun (x : List Nat) =>
    let y := match fld w 21 20 with
      | 0 => f32OfNat (nth 0 x 0)
      | f => nth 0 x f
    VRes.ok (c.putLanes (wK w) (wD w) (List.replicate 256 y)) .none
  match v.statFrom with
  | 0 =>
    give (match c.sect with
      | some x => nget [] x.stepStats (r * 32 + slot)
      | none => [])
  | 1 =>
    give (match c.groupOf v.tile with
      | some g => statRoot (nget [] g.stats ((v.q0 + r) * 32 + slot))
      | none => [])
  | _ =>
    let g := bAg v.bind (wAg w)
    let k := 12 * (((if agAbs g then v.q else v.q0) + r) * eNstat v.entry + slot)
    let a := (if agAbs g then agBase g else (c.ring (agRing g)).slabAddr (nth 0 v.slabs (wAg w))) + k
    if !(List.range 256).any (c.active (wK w)) then .ok c .none
    else match c.readStop v (wAg w) [(a, 12)] with
      | some e => .halt c e
      | none => give [c.rdNat a 4, c.rdNat (a + 4) 4, c.rdNat (a + 8) 4]

/-- INDEX: a logical row, a logical column or a local row in every lane. -/
def CoreSt.vIndex (v : VEnv) (c : CoreSt) (w : Nat) : VRes :=
  .ok (c.setVreg (wD w) ((List.range 256).map (fun i =>
    (match fld w 21 20 with
      | 0 => v.lrow + wRow w
      | 1 => v.col + 256 * wHalf w + i
      | _ => v.loc + wRow w) % 2 ^ 32))) .none

/-! ### The sampler (R193 to R202) -/

/-- A kept candidate: its token and logit. -/
abbrev Cand := Nat × Nat

/-- R197 step 2: descending logit, ties by ascending token. -/
def candLe (a b : Cand) : Bool :=
  if (f32v b.2).lt (f32v a.2) then true else if (f32v a.2).lt (f32v b.2) then false else a.1 ≤ b.1

/-- R197 step 2: a candidate takes its place in a ranking, of which the first k places are kept. -/
def rankIn (k : Nat) (l : List Cand) (c : Cand) : List Cand :=
  (l.takeWhile (fun x => candLe x c) ++ c :: l.dropWhile (fun x => candLe x c)).take k

/-- A sampler output record (R201). -/
def sampleRec (token logp draw kept flags : Nat) : Nat :=
  at' token 127 96 + at' logp 95 64 + at' draw 63 32 + at' kept 31 16 + flags

/-- Running sums of step 5. -/
def prefixSums : Nat → List Nat → List Nat × Ev
  | _, [] => ([], .none)
  | acc, x :: l =>
    let s := noInexact (f32add acc x)
    let r := prefixSums s.1 l
    (s.1 :: r.1, s.2.plus r.2)

/-- R197 step 3: a logit scaled by inv_t. A finite logit that becomes +∞ counts one OVERFLOW, where inv_t is itself +∞
too (R200). -/
def scaleLogit (x inv : Nat) : Nat × Ev :=
  let r := noInexact (f32mul x inv)
  (r.1, if f32Finite x && r.1 = 0x7F800000 then ⟨0, 1, 0, 0⟩ else r.2)

/-- One row: its record and events (R197, R199, R200). `free` numbers the KEPT field where the spec states none. Where no running sum
reaches t_p (sums that are NaN) R197 gives no r: the model keeps every candidate (DESIGN CHOICE, log 150). -/
def sampleRow (tm1 : Bool) (T P k word free : Nat) (allowed : Nat → Bool) (logits : List Nat) : Nat × Ev :=
  let el := (logits.zipIdx.map (fun p => ((p.2, p.1) : Cand))).filter (fun p => allowed p.1)
  let cands := el.filter (fun p => !f32IsNan p.2 && p.2 ≠ 0xFF800000)
  let kept := cands.foldl (rankIn k) []
  let short := b2n (cands.length < k) * 16
  let anyKept := Config.freeNat free % (min k cands.length + 1)
  if el.any (fun p => f32IsNan p.2) then (sampleRec 0xFFFFFFFF f32Nan word anyKept (short + 1), .none)
  else match kept with
    | [] => (sampleRec 0xFFFFFFFF f32Nan word 0 (short + 4), .none)
    | top :: _ =>
      let greedy := T = 0
      let inv := noInexact (sfu tm1 .rcp T)
      let sc := kept.map (fun p => if greedy then (p.2, Ev.none) else scaleLogit p.2 inv.1)
      let ss := sc.map (·.1)
      let e1 := if greedy then Ev.none else inv.2.plus (Ev.sum (sc.map (·.2)))
      let m := nth 0 ss 0
      if m = 0x7F800000 then (sampleRec top.1 0 word anyKept (short + 2), e1)
      else if greedy then (sampleRec top.1 0 word anyKept (short + 8), e1)
      else
        let es := ss.map (fun s =>
          let d := noInexact (f32sub s m)
          let e := noInexact (sfu tm1 .exp d.1)
          (e.1, d.2.plus e.2))
        let c0 := (nth (0, Ev.none) es 0).1
        let pr := prefixSums c0 ((es.drop 1).map (·.1))
        let cs := c0 :: pr.1
        let total := nth 0 cs (cs.length - 1)
        let tp := noInexact (f32mul P total)
        let r := if P = 0x3F800000 then cs.length
          else (cs.findIdx? (fun x => (f32v tp.1).lt (f32v x) || (f32v tp.1).eq (f32v x))).getD (cs.length - 1) + 1
        let last := nth 0 cs (r - 1)
        let u := f32r (.fin false (word / 256) (-24))
        let g := noInexact (f32mul u last)
        let j := ((cs.take r).findIdx? (fun x => (f32v g.1).lt (f32v x))).getD (r - 1)
        let d := noInexact (f32sub (nth 0 ss j) m)
        let lg := noInexact (sfu tm1 .log last)
        let lp := noInexact (f32sub d.1 lg.1)
        let ev := (((e1.plus (Ev.sum (es.map (·.2)))).plus pr.2).plus
          (if P = 0x3F800000 then Ev.none else tp.2)).plus (((g.2.plus d.2).plus lg.2).plus lp.2)
        (sampleRec (nth (0, 0) kept j).1 lp.1 word r short, ev)

/-- R195: a sampler descriptor that is refused. -/
def sampleBad (d : Nat) : Bool :=
  let V := fld d 255 237
  let T := fld d 207 176
  let P := fld d 175 144
  let es := if fld d 225 222 = 0 then 4 else 2
  let n := fld d 15 8 + 1
  let inp := (fld d 46 32 * 256, n * roundUp (V * es) 256)
  let out := (fld d 30 16 * 256, n * 16)
  V = 0 || 262144 < V || fld d 236 226 = 0 || 1024 < fld d 236 226 || (fld d 225 222 ≠ 0 && fld d 225 222 ≠ 2) ||
  bitAt T 31 || !(f32v T).isFinite || f32IsNan P || !(FVal.zero.lt (f32v P)) || (f32v 0x3F800000).lt (f32v P) ||
  fld d 220 208 ≠ 0 || fld d 75 64 ≠ 0 || bitAt d 47 || bitAt d 31 || fld d 7 0 ≠ 0 ||
  sramSize < inp.1 + inp.2 || sramSize < out.1 + out.2 || overlapR inp out

/-- The sampler mask table: the bank's address and bytes (R196, R521). -/
def State.maskBank (s : State) (ctx id : Nat) : Except Nat (Nat × Nat) :=
  match s.lookup id ctx [6] with
  | .error e => .error e
  | .ok ep => match s.table id with
    | some t => .ok ((t.bank ep).pa, t.blocks * 4096)
    | none => .error cVersion

/-- SAMPLE: the descriptor at the byte address in lane 0 of a. It has no destination lane, and K does not enter it
(log 32). -/
def State.vSample (s : State) (v : VEnv) (c : CoreSt) (w : Nat) : VRes :=
  match c.operands v w 1 with
  | .error e => .halt c e
  | .ok xs =>
    let a := nth 0 (nth [] xs 0) 0
    if sramSize < a + 32 then .halt c (some cDescriptor) else
      let d := c.rdNat a 32
      let V := fld d 255 237
      let es := if fld d 225 222 = 0 then 4 else 2
      let n := fld d 15 8 + 1
      if sampleBad d then .halt c (some cDescriptor) else
        match v.key, (if bitAt d 221 then s.maskBank v.ctx (fld d 63 48) else .ok (0, 2 ^ 52)) with
        | none, _ => .halt c (some cDescriptor)
        | _, .error e => .halt c (some e)
        | some key, .ok bank =>
          if bitAt d 221 && bank.2 < cdiv V 8 then .halt c (some cTranslation)
          else if bitAt d 221 && s.touchesPoison bank.1 (cdiv V 8) then .halt c (some cChecksum)
          else
            let allowed := fun (t : Nat) => !bitAt d 221 || (s.byte (bank.1 + t / 8)).getLsbD (t % 8)
            let out := (List.range n).map (fun i =>
              let row := c.rd (fld d 46 32 * 256 + i * roundUp (V * es) 256) (V * es)
              let logits := (List.range V).map (fun t =>
                let x := leNat ((row.drop (t * es)).take es)
                if es = 4 then x else x * 65536)
              let word := randElem key v.step (streamId (fld d 143 120) 6) ((fld d 119 96 + i) * 2 ^ 20 + fld d 95 76)
              sampleRow s.tm1 (fld d 207 176) (fld d 175 144) (fld d 236 226) word (v.free * 1024 + i) allowed logits)
            let c' := out.zipIdx.foldl (fun c p => c.wr (fld d 30 16 * 256 + 16 * p.2) (toLE 16 p.1.1)) c
            { VRes.ok c' (Ev.sum (out.map (·.2))) with rows := n }

/-! ### Words (R208 to R212) -/

/-- An operation by its code; directives have 0x100 added. -/
def State.vop (s : State) (code : Nat) (v : VEnv) (c : CoreSt) (w : Nat) : VRes :=
  match code with
  | 0x00 => .ok c .none
  | 0x01 => c.vLanes 2 lFadd v w
  | 0x02 => c.vLanes 2 lFsub v w
  | 0x03 => c.vLanes 2 lFmul v w
  | 0x04 => c.vLanes 3 lFma v w
  | 0x05 => c.vLanes 3 lFnma v w
  | 0x06 => c.vLanes 2 lFmax v w
  | 0x07 => c.vLanes 2 lFmin v w
  | 0x08 => c.vLanes 2 lFmaxn v w
  | 0x09 => c.vLanes 2 lFminn v w
  | 0x0A => c.vLanes 1 lFabs v w
  | 0x0B => c.vLanes 1 lFneg v w
  | 0x0C => c.vLanes 1 lFrint v w
  | 0x0D => c.vLanes 1 lFfloor v w
  | 0x0E => c.vLanes 3 lFclamp v w
  | 0x0F => c.vFquant v w
  | 0x11 => c.vPacked 2 pHadd v w
  | 0x12 => c.vPacked 2 pHsub v w
  | 0x13 => c.vPacked 2 pHmul v w
  | 0x14 => c.vPacked 3 pHfma v w
  | 0x15 => c.vPacked 3 pHfnma v w
  | 0x16 => c.vPacked 2 pHmax v w
  | 0x17 => c.vPacked 2 pHmin v w
  | 0x1A => c.vLanes 1 lCvtif v w
  | 0x1B => c.vLanes 1 lCvtfi v w
  | 0x20 => c.vLanes 2 (lInt (· + ·)) v w
  | 0x21 => c.vLanes 2 (lInt (· - ·)) v w
  | 0x22 => c.vLanes 2 (lInt (· * ·)) v w
  | 0x23 => c.vLanes 2 (lInt max) v w
  | 0x24 => c.vLanes 2 (lInt min) v w
  | 0x25 => c.vLanes 2 lAnd v w
  | 0x26 => c.vLanes 2 lOr v w
  | 0x27 => c.vLanes 2 lXor v w
  | 0x28 => c.vLanes 2 lShl v w
  | 0x29 => c.vLanes 2 lShr v w
  | 0x2A => c.vLanes 2 lSar v w
  | 0x2C => c.vCompare cFeq v w
  | 0x2D => c.vCompare cFlt v w
  | 0x2E => c.vCompare cFle v w
  | 0x2F => c.vCompare cFun v w
  | 0x30 => c.vCompare cIeq v w
  | 0x31 => c.vCompare cIlt v w
  | 0x34 => c.vMask (· &&& ·) v w
  | 0x35 => c.vMask (· ||| ·) v w
  | 0x36 => c.vMask (· ^^^ ·) v w
  | 0x37 => c.vMask (fun a b => a &&& ~~~b) v w
  | 0x38 => c.vMask (fun a _ => ~~~a) v w
  | 0x39 => c.vMpop v w
  | 0x3A => c.vSel v w
  | 0x40 => c.vSfu s.tm1 .exp v w
  | 0x41 => c.vSfu s.tm1 .log v w
  | 0x42 => c.vSfu s.tm1 .rcp v w
  | 0x43 => c.vSfu s.tm1 .rsqrt v w
  | 0x44 => c.vSfu s.tm1 .sinr v w
  | 0x45 => c.vSfu s.tm1 .cosr v w
  | 0x48 => c.vRand v w
  | 0x50 => c.vLd v w
  | 0x51 => c.vSt v w
  | 0x52 => c.vStq v w
  | 0x53 => c.vLdx v w
  | 0x54 => c.vStx v w
  | 0x55 => c.vPerm v w
  | 0x56 => c.vShuf v w
  | 0x57 => c.vPack v w
  | 0x58 => c.vUnpack v w
  | 0x59 => c.vLsum v w
  | 0x5A => c.vFold f32max v w
  | 0x5B => c.vFold f32min v w
  | 0x5C => c.vLmaxi v w
  | 0x5D => s.vSample v c w
  | 0x100 => c.vStatLeaf s.tm1 v w
  | 0x101 => c.vStatGet v w
  | 0x102 => c.vIndex v w
  | _ => .ok c .none

/-- Codes that write no register or mask. -/
def opNoDest (code : Nat) : Bool := [0, 0x51, 0x52, 0x54, 0x5D, 0x100].contains code
/-- Codes that write a mask. -/
def opToMask (code : Nat) : Bool := (0x2C ≤ code && code ≤ 0x31) || (0x34 ≤ code && code ≤ 0x38)
/-- Codes of R167 and R212. -/
def opDefined (code : Nat) : Bool :=
  code ≤ 0x0F || (0x11 ≤ code && code ≤ 0x17) || code = 0x1A || code = 0x1B || (0x20 ≤ code && code ≤ 0x2A) ||
  (0x2C ≤ code && code ≤ 0x31) || (0x34 ≤ code && code ≤ 0x3A) || (0x40 ≤ code && code ≤ 0x45) || code = 0x48 ||
  (0x50 ≤ code && code ≤ 0x5D) || (0x100 ≤ code && code ≤ 0x102)

/-- The immediate of a word, by R211. -/
def immOk (code w : Nat) : Bool :=
  let ctrl := fld w 21 14
  let low := fld w 13 9 = 0 && fld w 7 0 = 0
  match code with
  | 0x50 => ctrl = 0 && wHalf w = 0
  | 0x51 => ctrl = 0
  | 0x52 => ctrlOk ctrl && 1 ≤ ctrlFmt ctrl && ctrlFmt ctrl ≤ 0xA
  | 0x0F => ctrlOk ctrl && low && wHalf w = 0
  | 0x57 => ctrlOk ctrl && 1 ≤ ctrlFmt ctrl && ctrlFmt ctrl ≤ 4 && low
  | 0x58 => fld w 21 18 = 0 && 1 ≤ fld w 17 14 && fld w 17 14 ≤ 4 && low
  | 0x56 => fld w 21 20 ≠ 3 && fld w 19 8 = 0
  | 0x48 => fld w 21 17 ≤ 15 && fld w 16 11 = 0 && fld w 7 0 = 0
  | 0x100 => fld w 21 20 = 0 && fld w 14 11 = 0 && fld w 8 0 = 0
  | 0x101 => fld w 21 20 ≠ 3 && !bitAt w 14 && fld w 8 0 = 0
  | 0x102 => fld w 21 20 ≠ 3 && fld w 19 11 = 0 && fld w 7 0 = 0
  | _ => wImm w = 0

/-- Destination, operands and immediate of a word with a code (R208 to R211). -/
def wordOk (code w : Nat) : Bool :=
  opDefined code && immOk code w &&
  (if opNoDest code then true else if opToMask code then 1 ≤ wD w && wD w ≤ 13 else wD w ≤ 0x3F) &&
  (if 0x34 ≤ code && code ≤ 0x38 then wA w ≤ 15 && wB w ≤ 15 else true)

end Sys2Proof.Machine
end

