-- ==== Sys2Proof/Machine/Routine.lean ====
section
/-! DEFINITION. Routines (R204 to R242): loading an image, the sections and their steps, the finishing section, the
ROUTINE command, and each vector operation as a command. -/

namespace Sys2Proof.Machine

/-! ### Image load (R162, R205 to R212) -/

/-- Whether a word names a constant. -/
def wConst (w : Nat) : Bool := (wSrcs w).any (fun x => 0x40 ≤ x && x < 0x60)

/-- Words of an entry in all. -/
def eLen (e : Nat) : Nat := eHead e + eTile e + eFin e

/-- R205, R208: a valid entry that makes its image refused. -/
def entryBad (m : NMap Byte) (e : Nat) : Bool :=
  let ws := headWords m e ++ tileWords m e ++ finWords m e
  ws.any (fun w => 1 < wClass w || !wordOk (wCode w) w || (wConst w && eConst e = 0)) ||
  eKind e = 3 || eDefer e = 3 || fld e 5 4 = 3 || (eDefer e ≠ 0 && eKind e ≠ 1) ||
  (eFin e = 0 && eDefer e ≠ 0) || (eFin e ≠ 0 && eDefer e = 0) || eTile e = 0 || 2048 < eStart e + eLen e ||
  fld e 14 10 = 1 || 32 < eNstat e || 0xA < eInFmt e || fld e 3 0 ≠ 0 ||
  (eKind e = 0 && ws.any isStat) || (eDefer e ≠ 0 && (tileWords m e).any (fun w => isDirective w 1)) ||
  (finWords m e).any (fun w => isDirective w 0)

/-- R208: an image that a load refuses. -/
def imageBad (m : NMap Byte) : Bool :=
  let es := ((List.range 64).map (imgEntry m)).filter eVal
  imgNat m 8 8 ≠ 0 || es.any (entryBad m) ||
  es.any (fun a => es.any (fun b => eConst b ≠ 0 && overlapR (8 * eStart a, 8 * eLen a) (eConst b, 128)))

/-- Whether the image that a task names stands in routine memory, or it names none (R207). -/
def CoreSt.imageReady (c : CoreSt) (desc : Nat) : Bool :=
  fld desc 799 752 = 0 || (c.resident && imgNat c.rmem 0 8 = fld desc 863 800)

/-- ROUTINE_IMAGE_LOAD (R207, R208): the named image is loaded before the task's first command; a refused one leaves the
previous image resident. -/
def State.imageLoad (s : State) (cl site : Nat) : State :=
  match s.liveTask cl site with
  | none => s
  | some t =>
    if t.imageDone then s
    else if (s.core cl site).imageReady t.desc then s.modTask cl site (fun t => { t with imageDone := true })
    else
      match s.readVa (s.accNow t) (fld t.desc 799 752) 16384 with
      | .error e => s.taskFail cl site e
      | .ok bs =>
        let m := nsetRun (0 : Byte) [] 0 bs
        if imgNat m 0 8 ≠ fld t.desc 863 800 || imageBad m then s.taskFail cl site cDescriptor
        else (s.modCore cl site (fun c => { c with rmem := m, resident := true })).modTask cl site
          (fun t => { t with imageDone := true })

/-- ROUTINE_IMAGE_LOAD (R207). -/
def execRoutineImageLoad (core : CoreId) (s : State) : Host.Outcome State Fault Refusal :=
  .next (s.imageLoad core.c core.s)

/-! ### The ROUTINE command (R214, R230, R241) -/

/-- Why a ROUTINE command's binding is refused. -/
def routineBad (c : CoreSt) (b : Nat) : Bool :=
  let e := imgEntry c.rmem (bEntry b)
  !bRsvdOk b ||
  (if bSection b then !entryOk c (bEntry b) 1 || eDefer e = 0
   else !entryOk c (bEntry b) 2 || (512 < bNtot b && (bodyWords c.rmem e).any isStat))

/-- A section at its start. -/
def Section.fresh (kind : SectionKind) (entry tile bind piece : Nat) (fin : Bool) : Section :=
  { kind := kind, entry := entry, tile := tile, binding := bind, piece := piece, row := 0, head := false, fin := fin,
    gens := [], slabs := [], stepStats := [] }

/-- The words that a section runs. -/
def sectWords (c : CoreSt) (x : Section) : List Nat :=
  let e := imgEntry c.rmem x.entry
  if x.fin || x.kind = .finishing then finWords c.rmem e else tileWords c.rmem e

/-- A ROUTINE command takes the slab numbers of its generators and waits its turn: one slab of each for each 128 rows (R136,
R217). -/
def CoreSt.queueRoutine (c : CoreSt) (x : Section) : CoreSt :=
  let ws := headWords c.rmem (imgEntry c.rmem x.entry) ++ sectWords c x
  let g := c.takeGens x.binding (usedGens true ws x.binding []) (cdiv (bRows x.binding) 128)
  { g.1 with routines := g.1.routines ++ [{ x with gens := g.2, slabs := genSlabs x.binding g.2 [] 0 }] }

/-- ROUTINE: the binding block at ADDR is read, and the routine waits its turn on the vector engine. -/
def State.routineCmd (s : State) (cl site : Nat) : State :=
  s.seqCmd cl site 0x20 (fun s t w =>
    if fld w 247 64 ≠ 0 then some (s.taskFail cl site cDescriptor)
    else some (match s.readVaNat (s.accNow t) (fld w 63 0) 256 with
      | .error e => s.taskFail cl site e
      | .ok b =>
        if routineBad (s.core cl site) b then s.taskFail cl site cDescriptor
        else (s.startCmd cl site w id).modCore cl site (fun c =>
          c.queueRoutine (Section.fresh .standalone (bEntry b) t.cmdNum b 0 (bSection b)))))

/-- ROUTINE (R214). -/
def execRoutine (core : CoreId) (s : State) : Host.Outcome State Fault Refusal := .next (s.routineCmd core.c core.s)

/-! ### Units of work and their slabs (R217) -/

/-- Ring and slab that the section itself fills or was given: O_RING of a sub-tile; A_RING and PRO_RING of a slab. -/
def CoreSt.ownSlabs (c : CoreSt) (x : Section) : List (Nat × Nat) :=
  match x.kind, c.tiles.find? (fun t => t.num = x.tile), c.groupOf x.tile with
  | .epilogue, some t, _ => [(cORing t.cmd, t.oSlab (x.piece / 4) (x.piece % 4))]
  | .prologue, some t, _ =>
    [(bProRing t.binding, (t.pBase + x.piece) % 2 ^ 32), (cARing t.cmd, (t.aBase + x.piece) % 2 ^ 32)]
  | .finishing, _, some g => (g.held.take 1).map (fun h => (cORing h.cmd, h.oSlab))
  | _, _, _ => []

/-- The generators and slabs of a section's unit of work at its row: those that its command took slab numbers for (R217). -/
def CoreSt.unitOf (c : CoreSt) (x : Section) : Section :=
  match x.kind, c.tiles.find? (fun t => t.num = x.tile) with
  | .epilogue, some t =>
    { x with gens := t.epiGens,
             slabs := genSlabs t.binding t.epiGens (c.ownSlabs x) (drainIndex t.schuss t.cmd (x.piece / 4) (x.piece % 4)) }
  | .prologue, some t => { x with gens := t.proGens, slabs := genSlabs t.binding t.proGens (c.ownSlabs x) x.piece }
  | .standalone, _ => { x with slabs := genSlabs x.binding x.gens [] (x.row / 128) }
  | _, _ => x

/-- The ring and the slab number of a generator in the section's unit of work. -/
def Section.slab (x : Section) (g : GenUse) : Nat × Nat := (agRing (bAg x.binding g.gen), nth 0 x.slabs g.gen)

/-- The slabs that a unit's generators produce have room (R127). -/
def CoreSt.unitRoom (c : CoreSt) (x : Section) : Bool :=
  x.gens.all (fun g => !g.makes || (c.ring (x.slab g).1).room (x.slab g).2)

/-- The slabs that a unit's generators consume are resident, so that it can end (R128). -/
def CoreSt.unitReady (c : CoreSt) (x : Section) : Bool :=
  x.gens.all (fun g => g.makes || (c.ring (x.slab g).1).resident (x.slab g).2)

/-- A unit of work ends: consumed slabs are released and produced ones await delivery (R127, R128). -/
def CoreSt.endUnit (c : CoreSt) (x : Section) : CoreSt :=
  x.gens.foldl (fun c g =>
    if g.makes then c.offer (x.slab g).1 (x.slab g).2 false
    else c.modRing (x.slab g).1 (fun r => r.release (x.slab g).2)) c

/-! ### The environment of a step (R216, R219, R220, R224) -/

/-- Present rows of a section. -/
def CoreSt.sectRows (c : CoreSt) (x : Section) : Nat :=
  match x.kind, c.tiles.find? (fun t => t.num = x.tile), c.groupOf x.tile with
  | .epilogue, some t, _ => t.rowsIn (x.piece / 4)
  | .prologue, some t, _ => t.rowsIn (aOfIndex t.schuss t.cmd x.piece).1
  | .finishing, _, some g => match g.held with
    | h :: _ => min 128 h.rtM
    | [] => 0
  | .standalone, _, _ => bRows x.binding
  | _, _, _ => 0

/-- Rings of the MODE 0 generators of a binding block. -/
def bindRings (b : Nat) : List Nat := (((List.range 8).map (bAg b)).filter agOnRing).map agRing

/-- An environment in which nothing is present. -/
def VEnv.blank (t : Task) (x : Section) (entry free : Nat) : VEnv :=
  { entry := entry, bind := x.binding, key := t.key, step := t.step, ctx := t.ctx, q := x.row, q0 := x.row, j := 0,
    lrow := x.row, loc := x.row, col := 0, ntot := 0, tensor := 0, cols := 0, rows := 0, slabs := x.slabs, own := [],
    stores := [], statTo := 0, statFrom := 0, leaf0 := 0, tile := x.tile, free := free }

/-- An epilogue or finishing environment: sub-tile (mi, ni) of an MMA_TILE or SCHUSS command. -/
def VEnv.ofTile (v : VEnv) (x : Section) (cmd mi ni colsIn : Nat) : VEnv :=
  let col := cCol0 cmd + 512 * ni
  { v with q := 128 * mi + x.row, j := ni, lrow := cRow0 cmd + 128 * mi + x.row, col := col, ntot := cNtot cmd,
           tensor := cTensor cmd, cols := min colsIn (cNtot cmd - col), own := [cORing cmd], stores := [cORing cmd] }

/-- The environment that a section gives the step at its row. -/
def CoreSt.venv (c : CoreSt) (t : Task) (x : Section) (free : Nat) : VEnv :=
  let e := imgEntry c.rmem x.entry
  let v := { VEnv.blank t x e free with rows := c.sectRows x - x.row }
  match x.kind, c.tiles.find? (fun t => t.num = x.tile), c.groupOf x.tile with
  | .epilogue, some ti, _ =>
    let v := v.ofTile x ti.cmd (x.piece / 4) (x.piece % 4) (ti.colsIn (x.piece % 4))
    { v with statTo := eDefer e, leaf0 := if eDefer e = 2 then cCol0 ti.cmd / 512 else 0 }
  | .finishing, _, some g => match g.held with
    | h :: _ => { v.ofTile x h.cmd 0 h.ni (min 512 (h.rtN - 512 * h.ni)) with statFrom := 1 }
    | [] => v
  | .prologue, some ti, _ =>
    let p := aOfIndex ti.schuss ti.cmd x.piece
    let ik := fmtIK (cFa ti.cmd)
    let col := (cLeafA ti.cmd * cSlicesPerLeaf ti.cmd + p.2) * ik
    { v with q := 128 * p.1 + x.row, j := p.2, lrow := bRow0 x.binding + 128 * p.1 + x.row, col := col,
             ntot := bNtot x.binding, tensor := bTensor x.binding, cols := min ik (bNtot x.binding - col),
             own := [bProRing ti.binding, cARing ti.cmd], stores := [bProRing ti.binding] }
  | .standalone, _, _ =>
    { v with q0 := x.row % 128, lrow := bRow0 x.binding + x.row, col := bCol0 x.binding, ntot := bNtot x.binding,
             tensor := bTensor x.binding, cols := min (bNcols x.binding) (bNtot x.binding - bCol0 x.binding),
             stores := bindRings x.binding, statFrom := if x.fin then 2 else 0 }
  | _, _, _ => v

/-! ### A step (R219 to R222, R225, R226, R236, R240) -/

/-- R220: m14 and m15 hold the presence of the columns of a step. -/
def CoreSt.setPresence (c : CoreSt) (v : VEnv) : CoreSt :=
  (c.setMask 14 (maskOf ((List.range 512).map (fun j => j / 2 < v.cols)))).setMask 15
    (maskOf ((List.range 512).map (fun j => 256 + j / 2 < v.cols)))

/-- Elements of a plane at an address with their scale plane after it, as binary32 (R25, R35); the unpacking counts no
INEXACT (R178). -/
def CoreSt.readRow (c : CoreSt) (fmt a scaleAt n : Nat) : List (Nat × Ev) :=
  let bs := c.rd a (planeBytes fmt n)
  (List.range n).map (fun i => noInexact (elemToF32 fmt (unpackElem fmt bs i)
    (if fmtIsMx fmt then c.rdNat (scaleAt + i / 32) 1 else 127)))

/-- R219: the 512 inputs of row r of the step with their events, or why they cannot be read. A finishing section has the spilled
rows whole, absent rows of its last step too, as they stand in place (R240 to R242). Elsewhere the lanes past NCOLS, and
absent rows of the step, are free values; the scale bytes of an MX row stand after its elements (DEDUCED, log 150). -/
def CoreSt.inputRow (c : CoreSt) (v : VEnv) (x : Section) (r : Nat) : Except (Option Nat) (List Nat × Ev) :=
  let i := x.row + r
  match x.kind, c.tiles.find? (fun t => t.num = x.tile), c.groupOf x.tile with
  | .epilogue, some ti, _ =>
    .ok ((List.range 512).map (fun p => match ti.sub (x.piece / 4) (x.piece % 4) with
      | some u => u.value (i * 512 + p)
      | none => 0), .none)
  | .finishing, _, some g => match g.held with
    | h :: _ => .ok ((List.range 512).map (fun p => nth 0 h.vals (i * 512 + p)), .none)
    | [] => .ok ([], .none)
  | .prologue, some ti, _ =>
    let fmt := eInFmt v.entry
    let ik := fmtIK (cFa ti.cmd)
    let ring := cARing ti.cmd
    let j := (ti.aBase + x.piece) % 2 ^ 32
    if !(c.ring ring).resident j then .error none else
      let a := (c.ring ring).slabAddr j
      let l := c.readRow fmt (a + i * planeBytes fmt ik) (a + 128 * planeBytes fmt ik + i * (ik / 32)) ik
      .ok (l.map (·.1) ++ List.replicate (512 - ik) 0, Ev.sum (l.map (·.2)))
  | .standalone, _, _ =>
    let fmt := if x.fin then 0 else eInFmt v.entry
    let n := if x.fin then 512 else bNcols x.binding
    let free := fun (p : Nat) => (Config.freeWord (v.free * 2 ^ 16 + r * 512 + p)).toNat
    if v.rows ≤ r && !x.fin then .ok ((List.range 512).map free, .none) else
      let a := c.genAddr v 0 r 0
      let eb := planeBytes fmt n
      match c.readStop v 0 ([(a, planeBytes fmt (bNcols x.binding))] ++ (if fmtIsMx fmt then [(a + eb, cdiv n 32)] else [])) with
      | some e => .error e
      | none =>
        let l := c.readRow fmt a (a + eb) n
        .ok (l.map (·.1) ++ ((List.range 512).drop n).map free, Ev.sum (l.map (·.2)))
  | _, _, _ => .ok ([], .none)

/-- R219: the step's input rows go to v(2r) and v(2r + 1). -/
def CoreSt.placeInputs (c : CoreSt) (v : VEnv) (x : Section) : Except (Option Nat) (CoreSt × Ev) :=
  (List.range (eRps v.entry)).foldl (fun acc r =>
    match acc with
    | .error e => .error e
    | .ok (c, ev) => match c.inputRow v x r with
      | .error e => .error e
      | .ok (l, e) => .ok ((c.setVreg (2 * r) (l.take 256)).setVreg (2 * r + 1) (l.drop 256), ev.plus e)) (.ok (c, .none))

/-- What a word that left `z` adds to VEC_OPS: one where it is an operation (R203), unless it waits. -/
def VRes.issued (z : VRes) (op : Bool) : Nat := b2n (op && z.stop ≠ some none)

/-- What one word alone leaves. -/
def VRes.counted (z : VRes) (op : Bool) : VRes := { z with ops := z.issued op }

/-- What stands after a further word: counts add up, and a word that has issued counts among the operations when it is
one (R203). -/
def VRes.next (r : VRes) (op : Bool) (z : VRes) : VRes :=
  ⟨z.c, r.ev.plus z.ev, r.ops + z.issued op, r.sfu + z.sfu, r.bad + z.bad, r.rows + z.rows, z.stop⟩

/-- Words in program order; the first that waits or fails stops them (R165, R213). -/
def State.runWords (s : State) (v : VEnv) : List Nat → VRes → VRes
  | [], r => r
  | w :: l, r =>
    if r.stop.isSome then r else
      let z := s.vop (wCode w) { v with free := v.free + l.length } r.c w
      s.runWords v l (r.next (wClass w = 0) z)

/-- R225, R226: a prologue row rounded by PRO_CTRL into its place in the PRO_RING slab. -/
def CoreSt.proRow (c : CoreSt) (v : VEnv) (slab ik i r : Nat) (present : Bool) : CoreSt × Ev :=
  let ctrl := bProCtrl v.bind
  let fmt := ctrlFmt ctrl
  let pb := planeBytes fmt ik
  let val := fun (p : Nat) => if present && p < v.cols then f32v (nth 0 (c.vreg (2 * r)) p) else FVal.zero
  let rand := fun (p : Nat) => v.storeRand ctrl r 0 p
  if fmtIsMx fmt then
    let bs := (List.range (ik / 32)).map (fun b =>
      let js := (List.range 32).map (fun k => 32 * b + k)
      ctrlRoundMx ctrl (js.map rand) (js.map val))
    ((c.wr (slab + i * pb) (packElems fmt (bs.flatMap (fun y => y.2.1)))).wr (slab + 128 * pb + i * (ik / 32))
      (bs.map (fun y => BitVec.ofNat 8 y.1)), Ev.sum (bs.map (fun y => y.2.2)))
  else
    let xs := (List.range ik).map (fun p => ctrlRound ctrl (rand p) (val p))
    (c.wr (slab + i * pb) (packElems fmt (xs.map (·.1))), Ev.sum (xs.map (·.2)))

/-- Values of a row as they stand in v(2r) and v(2r + 1). -/
def CoreSt.rowRegs (c : CoreSt) (r : Nat) : List Nat := c.vreg (2 * r) ++ c.vreg (2 * r + 1)

/-- R225, R236, R240: what the sequencer writes back at the end of a step. -/
def CoreSt.writeBack (c : CoreSt) (v : VEnv) (x : Section) : CoreSt × Ev :=
  let rs := List.range (eRps v.entry)
  match x.kind, c.tiles.find? (fun t => t.num = x.tile) with
  | .prologue, some ti =>
    let slab := (c.ring (bProRing ti.binding)).slabAddr (ti.pBase + x.piece)
    rs.foldl (fun acc r =>
      let z := acc.1.proRow v slab (fmtIK (cFa ti.cmd)) (x.row + r) r (r < v.rows)
      (z.1, acc.2.plus z.2)) (c, .none)
  | .epilogue, some ti =>
    let mi := x.piece / 4
    let ni := x.piece % 4
    if eDefer v.entry = 1 then
      match ti.sub mi ni with
      | none => (c, .none)
      | some u =>
        let vals := (List.range 65536).map u.value
        let new := rs.flatMap c.rowRegs
        let vals := vals.take (x.row * 512) ++ new ++ vals.drop (x.row * 512 + new.length)
        let b := match u.stack with
          | e :: _ => (e.a, e.b)
          | [] => (0, 0)
        (c.setTile (ti.setSub { u with stack := [⟨b.1, b.2, some (vals.map (fun y => [y]))⟩] }), .none)
    else if eDefer v.entry = 2 then
      let slab := (c.ring (cORing ti.cmd)).slabAddr (ti.oSlab mi ni)
      (rs.foldl (fun c r => c.wr (slab + (x.row + r) * 2048) ((c.rowRegs r).flatMap (toLE 4))) c, .none)
    else (c, .none)
  | _, _ => (c, .none)

/-- A section's head begins: every register and mask is undefined (R221). -/
def CoreSt.freshRegs (c : CoreSt) (epoch : Nat) : CoreSt := { c with vregs := [], masks := [], epoch := epoch }

/-- One step of the section in progress: the head before the first, the inputs, the words, the write back. The inputs
stand before the head too; their events count once. A prologue that rounds stochastically needs the task's seed key
(R400). -/
def State.stepRows (s : State) (c : CoreSt) (t : Task) (x : Section) (free : Nat) : VRes :=
  let v := c.venv t x free
  let hw := headWords c.rmem (imgEntry c.rmem x.entry)
  let c := { c with sect := some { x with stepStats := [] } }
  let place := fun (r : VRes) =>
    if r.stop.isSome then r else
      match (r.c.setPresence v).placeInputs v x with
      | .error e => { r with stop := some e }
      | .ok (c, ev) => { r with c := c, ev := r.ev.plus ev }
  let r := place (VRes.ok (if x.head then c else c.freshRegs (free + 1)) .none)
  let r := if x.head then r else place (s.runWords { v with free := v.free + 2048 } hw { r with ev := .none })
  let r := s.runWords v (sectWords c x) r
  if r.stop.isSome then r
  else if x.kind = .prologue ∧ v.needsKey (bProCtrl v.bind) then { r with stop := some (some cDescriptor) }
  else
    let z := r.c.writeBack v x
    { r with c := z.1, ev := r.ev.plus z.2 }

/-- The state after an operation or a step that left `r`: its core, its events and its counts (R203). -/
def State.vecDone (s : State) (cl site : Nat) (r : VRes) : State :=
  let s := (s.setCore cl site { r.c with wdCount := 0 }).taskEv cl site r.ev
  let s := ((s.cnt48 (kCore cl site 2 1) r.ops).cnt48 (kCore cl site 2 2) r.sfu).cnt48 (kCore cl site 2 3) r.rows
  (s.cnt16 (kCore cl site 2 4) r.bad).tick

/-- Apply what an operation or a step left: none while it waits. What was done before a code stopped it stands (R15,
R203). -/
def State.applyVec (s : State) (cl site : Nat) (r : VRes) : Option State :=
  match r.stop with
  | some none => none
  | some (some code) => some ((s.vecDone cl site r).taskFail cl site code)
  | none => some (s.vecDone cl site r)

/-! ### The end of a section (R217, R225, R228, R236, R240) -/

/-- The statistic node that a spilling command sends at commit, when any of its chunks is present (R240). -/
def spillStaged (c : CoreSt) (ti : Tile) : List Staged :=
  let e := imgEntry c.rmem (cEpi ti.cmd)
  let a := cCol0 ti.cmd / 512
  let n := eNstat e
  let roots := (List.range (128 * n)).map (fun k =>
    (stackCollapse false 3 (nget [] ti.stats (k / max 1 n * 32 + k % max 1 n))).1.bind (·.recs))
  if roots.all Option.isNone then []
  else [⟨3, bStatGen ti.binding, bStatRed ti.binding, cRow0 ti.cmd / 128, a, a + cN ti.cmd,
    .data (roots.flatMap (fun o => match o with
      | some r => nth [0, 0, 0] r 0
      | none => [0, 0, 0])), 0⟩]

/-- Collapse each statistic stack of a command, with the events of its combines. -/
def Tile.collapseStats (tm1 : Bool) (ti : Tile) : Tile × Ev :=
  let r := ti.stats.map (fun p =>
    let z := stackCollapse tm1 3 p.2
    ((p.1, match z.1 with
      | some e => [e]
      | none => []), z.2))
  ({ ti with stats := r.map (·.1) }, Ev.sum (r.map (·.2)))

/-- A section of a prologue ends: rows that no step reached are written as +0 (R226), the slab awaits delivery and its
input is released. -/
def CoreSt.endPrologue (c : CoreSt) (v : VEnv) (x : Section) (ti : Tile) : CoreSt :=
  let pr := bProRing ti.binding
  let slab := (c.ring pr).slabAddr (ti.pBase + x.piece)
  let c := ((List.range 128).drop x.row).foldl (fun c i => (c.proRow v slab (fmtIK (cFa ti.cmd)) i 0 false).1) c
  let c := c.setTile { ti with proDone := ti.proDone + 1 }
  (c.modRing (cARing ti.cmd) (fun r => r.release (ti.aBase + x.piece))).offer pr ((ti.pBase + x.piece) % 2 ^ 32) false

/-- The registers that a piece of a section leaves to the next one of its command (R221). -/
def CoreSt.leftRegs (c : CoreSt) (x : Section) (old : Option Regs) : Option Regs :=
  if x.head then some ⟨c.vregs, c.masks, c.epoch⟩ else old

/-- A piece of a section begins with the registers that the one before it left; the head has then run (R221). -/
def CoreSt.enter (c : CoreSt) (o : Option Regs) (x : Section) : CoreSt × Section :=
  match o with
  | none => (c, x)
  | some r => ({ c with vregs := r.vregs, masks := r.masks, epoch := r.epoch }, { x with head := true })

/-- A section ends. Answers the core, events, and contributions to stage. -/
def CoreSt.endSection (tm1 : Bool) (c : CoreSt) (v : VEnv) (x : Section) : CoreSt × Ev × List Staged :=
  let e := imgEntry c.rmem x.entry
  let c := { c with sect := none }
  match x.kind, c.tiles.find? (fun t => t.num = x.tile) with
  | .prologue, some ti => ((c.endUnit x).endPrologue v x { ti with proRegs := c.leftRegs x ti.proRegs }, .none, [])
  | .epilogue, some ti =>
    let ti := { ti with epiRegs := c.leftRegs x ti.epiRegs }
    let mi := x.piece / 4
    let ni := x.piece % 4
    let o := ti.oSlab mi ni
    let nans := match ti.sub mi ni with
      | some u => u.nanAt.length
      | none => 0
    let ev : Ev := ⟨0, 0, nans, 0⟩
    if eDefer e = 1 then
      let c := match c.groupOf ti.num, ti.sub mi ni with
        | some g, some u =>
          let h : Held :=
            { tile := ti.num, cmd := ti.cmd, binding := ti.binding, rtM := ti.rtM, rtN := ti.rtN, ni := ni, oSlab := o,
              gens := x.gens, slabs := x.slabs, vals := (List.range 65536).map u.value }
          c.setGroup { g with held := g.held ++ [h] }
        | _, _ => (c.endUnit x).offer (cORing ti.cmd) o (eCsum e)
      (c.drained ti mi ni, ev, [])
    else
      let c := (c.endUnit x).offer (cORing ti.cmd) o (eCsum e)
      if eDefer e = 2 ∧ ti.drained.length + 1 = ti.count then
        let z := ti.collapseStats tm1
        (c.drained z.1 mi ni, ev.plus z.2, spillStaged c z.1)
      else (c.drained ti mi ni, ev, [])
  | .standalone, _ => (c.endUnit x, .none, [])
  | _, _ => (c, .none, [])

/-! ### ROUTINE_STEP (R219 to R228) -/

/-- R229: the sub-tile whose epilogue runs next: the next of a command in drain order, its sums complete and its output
slab with room. -/
def CoreSt.nextEpilogue (c : CoreSt) : Option Section :=
  (c.tiles.filter (fun t => cEpi t.cmd ≠ 0xFF)).findSome? (fun t =>
    ((List.range 32).find? (fun p => p / 4 < cM t.schuss t.cmd && p % 4 < cN t.cmd &&
        drainIndex t.schuss t.cmd (p / 4) (p % 4) = t.drained.length)).bind (fun p =>
      let done := !t.inExt (p / 4) (p % 4) || (match t.sub (p / 4) (p % 4) with
        | some u => u.done
        | none => false)
      if done && (c.ring (cORing t.cmd)).room (t.oSlab (p / 4) (p % 4)) && c.yReady t (p / 4) (p % 4) then
        some (Section.fresh .epilogue (cEpi t.cmd) t.num t.binding p false)
      else none))

/-- The activation slab whose prologue runs next (R225, R227). -/
def CoreSt.nextPrologue (c : CoreSt) : Option Section :=
  c.tiles.findSome? (fun t =>
    if t.proLeft && (c.ring (bProRing t.binding)).room (t.pBase + t.proDone) then
      some (Section.fresh .prologue (cPro t.cmd) t.num t.binding t.proDone false)
    else none)

/-- The next section: an epilogue, else a prologue, else the next ROUTINE command in order. With it the core that has
begun it; an epilogue with CSUM begins by zeroing its slab (R231), and that of a glided product by forming y (R365). -/
def CoreSt.startSection (c : CoreSt) : Option (CoreSt × Section × Ev) :=
  let pick := match c.nextEpilogue with
    | some x => some x
    | none => match c.nextPrologue with
      | some x => some x
      | none => c.routines.head?
  match pick with
  | none => none
  | some x =>
    let c := if x.kind = .standalone then { c with routines := c.routines.drop 1 } else c
    let x := c.unitOf x
    if !c.unitRoom x then none
    else
      let r := match x.kind, c.tiles.find? (fun t => t.num = x.tile) with
        | .epilogue, some ti =>
          let r := c.ring (cORing ti.cmd)
          let c := if eCsum (imgEntry c.rmem x.entry) then
              c.wr (r.slabAddr (ti.oSlab (x.piece / 4) (x.piece % 4))) (List.replicate r.slab 0)
            else c
          c.formY ti (x.piece / 4) (x.piece % 4)
        | _, _ => (c, Ev.none)
      let y := r.1.enter ((c.tiles.find? (fun t => t.num = x.tile)).bind (fun t =>
        match x.kind with
        | .epilogue => t.epiRegs
        | .prologue => t.proRegs
        | _ => none)) x
      some (y.1, y.2, r.2)

/-- A standalone routine's unit of 128 rows has ended and another follows. -/
def unitTurn (x : Section) (row : Nat) : Bool := x.kind = .standalone && row % 128 = 0

/-- The section in progress, unless a unit of 128 rows waits for room, or the next one with the core that has begun it. -/
def CoreSt.turn (c : CoreSt) : Option (CoreSt × Section × Ev) :=
  match c.sect with
  | some x => if unitTurn x x.row && !c.unitRoom x then none else some (c, x, Ev.none)
  | none => c.startSection

/-- One step of the section in progress, or of the next one; none where it waits: a step that reads a slab not yet resident, and the
end of a unit whose slabs have not all arrived (R127, R217). -/
def State.routineGo (s : State) (cl site : Nat) : Option State :=
  match s.liveTask cl site, (s.core cl site).turn with
  | some t, some (c, x, ev) =>
    let total := c.sectRows x
    let e := imgEntry c.rmem x.entry
    let r := if total ≤ x.row then VRes.ok c .none else s.stepRows c t x (s.free * 4096)
    let x := match r.c.sect with
      | some y => { y with row := x.row + eRps e, head := true }
      | none => x
    let last := total ≤ x.row
    if r.stop.isSome then s.applyVec cl site { r with ev := ev.plus r.ev }
    else if (last || unitTurn x x.row) && !r.c.unitReady x then none
    else
      let v := r.c.venv t x (s.free * 4096)
      let z := if last then r.c.endSection s.tm1 v x
        else if unitTurn x x.row then ({ r.c.endUnit x with sect := some (r.c.unitOf x) }, Ev.none, [])
        else ({ r.c with sect := some x }, Ev.none, [])
      (s.applyVec cl site { r with c := z.1, ev := (ev.plus r.ev).plus z.2.1 }).map (fun s =>
        s.modTask cl site (fun t => { t with staged := t.staged ++ z.2.2 }))
  | _, _ => none

/-- ROUTINE_STEP: one step of a routine, where one can be made. -/
def State.routineStep (s : State) (cl site : Nat) : State := (s.routineGo cl site).getD s

/-- ROUTINE_STEP (R219). -/
def execRoutineStep (core : CoreId) (s : State) : Host.Outcome State Fault Refusal :=
  .next (s.routineStep core.c core.s)

/-! ### FINISHING_SECTION (R237, R238) -/

/-- Every tile section of a complete deferred group has ended. -/
def CoreSt.groupReady (c : CoreSt) (g : Group) : Bool :=
  g.whole && c.sect.isNone &&
  !c.tiles.any (fun t => eDefer (imgEntry c.rmem (cEpi t.cmd)) = 1 && (c.groupOf t.num).any (fun x => x.first = g.first))

/-- A core's oldest deferred group ends. -/
def CoreSt.endGroup (c : CoreSt) : CoreSt :=
  if c.older.isEmpty then { c with group := none } else { c with older := c.older.drop 1 }

/-- Collapse every stack of a group (R86 step 4), with the events of its combines. -/
def Group.collapse (tm1 : Bool) (g : Group) : Group × Ev :=
  let r := g.stats.map (fun p =>
    let z := stackCollapse tm1 3 p.2
    ((p.1, match z.1 with
      | some e => [e]
      | none => []), z.2))
  ({ g with stats := r.map (·.1), closing := true }, Ev.sum (r.map (·.2)))

/-- The steps of a finishing section over one held sub-tile. -/
def State.finSteps (s : State) (t : Task) : Nat → VRes → VRes
  | 0, r => r
  | n + 1, r =>
    match r.stop, r.c.sect with
    | none, some x =>
      if r.c.sectRows x ≤ x.row then r else
        let z := s.stepRows r.c t x (s.free * 4096 + 8192 * n)
        let e := imgEntry r.c.rmem x.entry
        let c := { z.c with sect := z.c.sect.map (fun y => { y with row := x.row + eRps e, head := true }) }
        s.finSteps t n ⟨c, r.ev.plus z.ev, r.ops + z.ops, r.sfu + z.sfu, r.bad + z.bad, r.rows + z.rows, z.stop⟩
    | _, _ => r

/-- The oldest group's stacks collapse to their roots, and the finishing section runs over its next held sub-tile in column order,
whose slab then awaits delivery and whose frame is freed; none while its tile sections run or a slab it reads is awaited. -/
def State.finishGo (s : State) (cl site : Nat) : Option State :=
  let c := s.core cl site
  match s.liveTask cl site, c.groups.head? with
  | some t, some g =>
    if !c.groupReady g then none else
      let z := if g.closing then (g, Ev.none) else g.collapse s.tm1
      match z.1.held with
      | [] => some ((s.setCore cl site c.endGroup).taskEv cl site z.2)
      | h :: rest =>
        let x := { Section.fresh .finishing g.entry h.tile h.binding h.ni false with gens := h.gens, slabs := h.slabs }
        let y := (c.setGroup z.1).enter g.finRegs x
        let r := s.finSteps t 129 (VRes.ok { y.1 with sect := some y.2 } z.2)
        if r.stop.isSome then s.applyVec cl site r
        else if !r.c.unitReady x then none
        else
          let g := { z.1 with held := rest, finRegs := (r.c.sect.map (r.c.leftRegs · g.finRegs)).getD g.finRegs }
          let c := { ((r.c.endUnit x).offer (cORing h.cmd) h.oSlab (eCsum (imgEntry r.c.rmem g.entry))) with sect := none }
          s.applyVec cl site { r with c := if rest.isEmpty then c.endGroup else c.setGroup g }
  | _, _ => none

/-- FINISHING_SECTION: one held sub-tile, where one can be finished. -/
def State.finishing (s : State) (cl site : Nat) : State := (s.finishGo cl site).getD s

/-- FINISHING_SECTION (R237). -/
def execFinishingSection (core : CoreId) (s : State) : Host.Outcome State Fault Refusal :=
  .next (s.finishing core.c core.s)

/-! ### One operation as a command (R165, R167, R212) -/

/-- The vector engine of a core issues one word of the routine section in progress, with the operation `code`. A word
that no image may hold is never issued. -/
def State.vecRow (s : State) (cl site code w : Nat) : State :=
  let c := s.core cl site
  match s.liveTask cl site, c.sect with
  | some t, some x =>
    if !wordOk code w then s
    else
      (s.applyVec cl site ((s.vop code (c.venv t x (s.free * 4096)) c w).counted (code < 0x100))).getD s
  | _, _ => s

end Sys2Proof.Machine
end

