-- ==== Sys2Proof/Machine/Split.lean ====
section
/-! DEFINITION. The Split Timer (R488 to R500): groups, rate, projections, switches, decision records and closing. -/

namespace Sys2Proof.Machine

/-! ### The group record (R488) -/

/-- GROUP. -/
def gId (r : Nat) : Nat := fld r 511 500
/-- FB_SLOT. -/
def gFbSlot (r : Nat) : Nat := fld r 499 497
/-- FB_EN. -/
def gFbEn (r : Nat) : Bool := bitAt r 496
/-- FB_VERSION. -/
def gFbVersion (r : Nat) : Nat := fld r 495 464
/-- DEADLINE. -/
def gDeadline (r : Nat) : Nat := fld r 463 400
/-- MARGIN_US. -/
def gMargin (r : Nat) : Nat := fld r 399 368
/-- REMAINING as the record gives it. -/
def gRemaining (r : Nat) : Nat := fld r 367 328
/-- FIRST_SAMPLE. -/
def gFirst (r : Nat) : Nat := fld r 327 304
/-- SAMPLES. -/
def gSamples (r : Nat) : Nat := fld r 303 288
/-- LAST_STEP. -/
def gLastStep (r : Nat) : Nat := fld r 287 276
/-- SWITCH_ADDR. -/
def gSwitch (r : Nat) : Nat := fld r 275 228

/-! ### The decision log (R494, R497) -/

/-- LOG_SEQ of a context. -/
def State.logSeq (s : State) (c : Nat) : Nat := s.obj (kCtx c 9)
/-- LOG_CONSUMED of a context. -/
def State.logConsumed (s : State) (c : Nat) : Nat := s.obj (kCtx c 0xA)
/-- Records in the log that the runtime has not read. -/
def State.logHeld (s : State) (c : Nat) : Nat := (s.logSeq c + 2 ^ 32 - s.logConsumed c) % 2 ^ 32
/-- LOG_CONSUMED is written: the records that REPLAY applies begin there (R499, R501). -/
def State.setConsumed (s : State) (c n : Nat) : State :=
  (s.setObj (kCtx c 0xA) n).modCtx c (fun k => { k with replayFrom := n })
/-- Address of the record with a sequence number. -/
def State.logAddr (s : State) (c n : Nat) : Nat := s.obj (kCtx c 7) + n % s.obj (kCtx c 8) * 64

/-- A decision record with its CRC over bytes 4 to 63 (R494). -/
def decisionRec (seq c reason fromStep step time proj g : Nat) : Nat :=
  let w := at' seq 511 480 + at' c 479 474 + at' reason 473 470 + at' (gId g) 469 458 + at' fromStep 457 446 +
    at' (gFbSlot g) 445 443 + at' (gFirst g) 439 416 + at' (gSamples g) 415 400 + at' (gFbVersion g) 399 368 +
    at' step 367 304 + at' time 303 240 + at' proj 239 176 + at' (gDeadline g) 175 112 + at' (gMargin g) 111 80
  w + crc32c ((toLE 64 w).drop 4)

/-- R492, R497: the group switches, unless the log is full. A decision that cannot be recorded because the log's place cannot be
written (LOG_ADDR does not translate) is not taken: a group that could not be logged runs its primary path (R9, R497). -/
def State.switchGroup (s : State) (g : SplitGroup) (reason proj : Nat) : State :=
  let c := g.ctx
  let seq := s.logSeq c
  if s.obj (kCtx c 8) ≤ s.logHeld c then (s.cnt16 (kCtx c 0x11) 1).event 0x34 1 c seq 0
  else
    let from_ := match g.maxStep with
      | some m => m + 1
      | none => 0
    let rec_ := toLE 64 (decisionRec seq c reason from_ (s.stepNow c) s.timeNs proj g.record)
    match s.writeVa (s.accOf c) (s.logAddr c seq) rec_ with
    | .error _ => s
    | .ok s =>
      let s := s.tryWriteVa (s.accOf c) (gSwitch g.record) rec_
      let s := (s.setObj (kCtx c 9) ((seq + 1) % 2 ^ 32)).cnt16 (kCtx c 0x10) 1
      s.modGroup c g.id (fun g => { g with
        state := .switched, fromStep := from_, seq := seq, switched := true, fbSlot := gFbSlot g.record,
        fbVersion := gFbVersion g.record })

/-! ### Projection (R490, R491) -/

/-- RATE of a context: the work of the last 10 ms, or RATE0 until the context has run that long (R490). -/
def State.rate (s : State) (c : Nat) : Nat :=
  let k := s.ctx c
  if s.timeNs < k.loadedAt + 10000000 then s.obj (kCtx c 0xB)
  else ((k.work.filter (fun w => s.timeNs < w.1 + 10000000)).map (·.2)).sum * 1024 * 100

/-- The projected end of a group (R491). -/
def State.projected (s : State) (g : SplitGroup) : Nat :=
  let top := 2 ^ 64 - 1
  if g.remaining = 0 then s.timeNs
  else
    let r := s.rate g.ctx
    if r = 0 then top else min top (s.timeNs + g.remaining * 1024 * 1000000000 / r)

/-- R491: a yield point of a task triggers the projection of its group. In SAG_HOLD none is made (R647). -/
def State.project (s : State) (t : Task) : State :=
  match (if dRole t.desc = 1 ∧ s.moduleState ≠ 4 then s.groupOf t else none) with
  | none => s
  | some g =>
    if s.obj (kCtx t.ctx 6) ≠ 0 || g.state ≠ .open_ || !gFbEn g.record || g.maxStep.any (fun m => gLastStep g.record ≤ m) then s
    else
      let e := s.projected g
      if e = 2 ^ 64 - 1 || gDeadline g.record < e + 1000 * gMargin g.record then s.switchGroup g 1 e else s

/-! ### Opening (R488, R499) -/

/-- R499: the record of the log that a group takes in REPLAY mode: same step counter, sample range containing the
group's, among those that the runtime has placed. -/
def State.replayRec (s : State) (c g : Nat) : Option Nat :=
  let from_ := (s.ctx c).replayFrom
  ((List.range (min ((s.logSeq c + 2 ^ 32 - from_) % 2 ^ 32) (s.obj (kCtx c 8)))).map (fun i =>
    match s.readVaNat (s.accOf c) (s.logAddr c (from_ + i)) 64 with
    | .ok r => r
    | .error _ => 0)).find? (fun r =>
      fld r 473 470 ≠ 0 && fld r 367 304 = s.stepNow c && fld r 439 416 ≤ gFirst g &&
      gFirst g + gSamples g ≤ fld r 439 416 + fld r 415 400)

/-- OPEN_GROUPS of the device (R501). -/
def State.countGroups (s : State) : State :=
  s.setObj (kDev 0x9000 2) ((s.disp.groups.filter SplitGroup.live).length)

/-- A lease names a group: a task taken for it has not written its record yet. -/
def State.groupNamed (s : State) (g : SplitGroup) : Bool :=
  s.disp.leases.any (fun t => t.2.any (fun l => l.valid && l.ctx = g.ctx && dGroup l.desc = g.id && l.group = g.since))

/-- LOG_CONSUMED moves on to a sequence that REPLAY has applied (R501). -/
def State.consumedTo (s : State) (c n : Nat) : State :=
  if serialGe (s.logConsumed c) n then s else s.setObj (kCtx c 0xA) (n % 2 ^ 32)

/-- A group opens with a record (R488, R499). The groups that its identifier named before are kept while tasks of theirs
have yet to commit (R496). -/
def State.openGroup (s : State) (c r : Nat) : State :=
  let base : SplitGroup :=
    { ctx := c, id := gId r, record := r, state := .open_, fromStep := 0, maxStep := none, remaining := gRemaining r,
      seq := 0, switched := false, fbSlot := 0, fbVersion := 0, since := s.disp.nextUid }
  let others := s.disp.groups.filter (fun g => !(g.ctx = c && g.id = gId r) || s.groupNamed g)
  let put := fun (s : State) (g : SplitGroup) =>
    ({ s with disp := { s.disp with groups := g :: others } } : State).countGroups
  match (if s.obj (kCtx c 6) = 1 then s.replayRec c r else none) with
  | none => put s base
  | some d =>
    put ((s.tryWriteVa (s.accOf c) (gSwitch r) (toLE 64 d)).consumedTo c (fld d 511 480 + 1))
      { base with state := .switched, fromStep := fld d 457 446, seq := fld d 511 480, switched := true,
                  fbSlot := fld d 445 443, fbVersion := fld d 399 368 }

/-- R488, R17: a group record that completes its position with DESCRIPTOR. -/
def groupBad (g : Nat) : Bool := gId g = 0xFFF || fld g 227 0 ≠ 0 || gSamples g = 0

/-- GROUP_POSITION: the dispatcher takes a GROUP position and opens its group; it waits while the identifier is open. -/
def State.groupPosition (s : State) (cl q : Nat) : State :=
  if !s.qReady cl q || !(s.queue cl q).reissue.isEmpty || !(s.queue cl q).saved.isEmpty then s
  else match s.headDesc cl q with
    | .error _ => s
    | .ok d =>
      let c := s.qCtx cl q
      let g := d % 2 ^ 512
      if dKind d ≠ 3 then s
      else if !s.headBad c d && !groupBad g && s.disp.groups.any (fun x => x.id = gId g && x.live) then s
      else
        let r := s.takeHead cl q
        match s.admission c d (fun _ => if groupBad g then [cDescriptor] else []) with
        | .wait => s
        | .fail e => r.1.finishHead cl q r.2 e d
        | .go d => (r.1.openGroup c g).finishHead cl q r.2 cOk d

/-- GROUP_POSITION (R488). -/
def execGroupPosition (cl : Fin 12) (q : Fin 16) (s : State) : Host.Outcome State Fault Refusal :=
  .next (s.groupPosition cl.val q.val)

/-- R498, R499: a write of FORCE_SWITCH of a context, and its status. -/
def State.forceSwitch (s : State) (c g : Nat) : State × Nat :=
  match s.group c g with
  | some x => if s.obj (kCtx c 6) = 0 ∧ x.state = .open_ then (s.switchGroup x 2 0, stOk) else (s, stState)
  | none => (s, stState)

/-- FORCE_SWITCH (R498). -/
def execForceSwitch (ctx : Fin 64) (group : BitVec 16) (s : State) : Host.Outcome State Fault Refusal :=
  .next (written (s.forceSwitch ctx.val group.toNat))

/-! ### Commits (R489, R496) -/

/-- R489, R496: the effect of a task's commit on its group. -/
def State.groupCommit (s : State) (t : Task) : State :=
  let d := t.desc
  match (if dRole d = 0 then none else s.groupOf t) with
  | none => s
  | some g =>
    let s := if dRole d = 1 ∧ g.state = .open_ then
        s.modGroup t.ctx g.id (fun g => { g with remaining := g.remaining - dWork d })
      else s
    if dClose d && ((dRole d = 1 && g.state = .open_) || (dRole d = 2 && g.state = .switched)) then
      (s.modGroup t.ctx g.id (fun g => { g with state := .closed })).countGroups
    else s

end Sys2Proof.Machine
end

