-- ==== Sys2Proof/Machine/Tasks.lean ====
section
/-! DEFINITION. Work for idle cores, leases and relay counters (R444 to R446, R453, R454, R461 to R472). -/

namespace Sys2Proof.Machine

/-! ### A task starts on a core (R402, R457, R466) -/

/-- A task that has just been taken. -/
def Task.fresh (uid desc ctx qcl q : Nat) (plan : Option Nat) (pos seq step : Nat) (key : Option (BitVec 256))
    (cmds : List Nat) (glide : Option Nat) : Task :=
  { uid := uid, desc := desc, ctx := ctx, qcl := qcl, q := q, plan := plan, pos := pos, leaseSeq := seq, step := step,
    key := key, cmdIndex := 0, cmds := cmds, cmdNum := 0, imageDone := false, hold := none, yieldReported := false,
    ended := false, committed := false, current := false, commitTime := 0, codes := [], ev := .none, dups := 0, signals := [],
    moves := [], commitMoves := [], staged := [], dones := [], sigBytes := [], liveKib := 0, badContrib := false, regions := [],
    glide := glide, gFull := false, gDone := false, gOut := [], gTabs := [], gStamps := [], gCounts := [],
    saveAddr := 0, group := 0 }

/-- The glide record that a descriptor names, or the code of its read (R350, R351). -/
def State.readGlide (s : State) (c d : Nat) : Except Nat (Option Nat) :=
  if dGlide d = 0 then .ok none
  else match s.readVaNat (s.accOf c) (dGlide d) 64 with
    | .error e => .error e
    | .ok r => if glideBad r then .error cDescriptor else .ok (some r)

/-- R466: a task starts on an idle core under a lease, RUNNING from now on. -/
def State.startTask (s : State) (cl site qcl : Nat) (l : Lease) : State :=
  let g := s.readGlide l.ctx l.desc
  let t := Task.fresh s.disp.nextUid l.desc l.ctx qcl l.queue l.plan l.pos l.seq l.step l.key l.cmds
    (match g with
      | .ok r => r
      | .error _ => none)
  let t := { (match g with
    | .ok _ => t
    | .error e => { t with codes := [e], ended := true }) with group := l.group }
  let s := { s with disp := { s.disp with nextUid := s.disp.nextUid + 1 } }
  let s := s.setLease cl { l with valid := true, state := .running, site := site, expires := s.expiry }
  let s := s.modCore cl site (fun c => { c with
    task := some { t with imageDone := c.imageReady t.desc }, bank0 := none, bank1 := none, tiles := [], group := none, older := [],
    sect := none, routines := [], deliveries := [], prior := [], wdCount := 0 })
  s.setObj (kCore cl site 0 1) 2

/-- The lease of a position taken for the first time. -/
def State.newLease (s : State) (cl q : Nat) (plan : Option Nat) (pos c d : Nat) (cmds : List Nat) : Lease :=
  { valid := true, state := .running, queue := q, site := 0, plan := plan, pos := pos,
    seq := (match (s.leases cl).find? (fun l => l.queue = q && l.plan = plan && l.pos = pos) with
      | some l => (l.seq + 1) % 2 ^ 32
      | none => 0),
    expires := 0, ctx := c, bound := if plan.isSome then none else dBound d, desc := d, cmds := cmds, step := s.stepNow c,
    key := s.seedKey c (dSeed d), group := ((s.group c (dGroup d)).map (·.since)).getD 0 }

/-! ### Choosing work (R464, R465) -/

/-- Work that a queue can start. -/
inductive Work where
  | saved (plan : Option Nat)
  | again (plan : Option Nat) (pos : Nat)
  | tile (plan pos : Nat)
  | head

/-- The least of a list. -/
def least (l : List Nat) : Option Nat := l.foldl (fun m x => match m with
  | none => some x
  | some y => some (min x y)) none

/-- The blocks of a core tile stand in the cluster's buffers (R287). -/
def Plan.blocksIn (p : Plan) (cl g : Nat) : Bool :=
  (p.bufFor cl 0 (g / max 1 p.per)).isSome && (p.bufFor cl 1 (g / max 1 p.per)).isSome

/-- What a plan offers a cluster: a saved core tile, a re-issued one, then a new one, whose blocks are resident. -/
def State.planWork (s : State) (p : Plan) (cl : Nat) : List Work :=
  if !s.planServed p cl then []
  else
    let part := p.part cl
    ((part.saved.take 1).filter (fun x => p.blocksIn cl x.pos)).map (fun _ => Work.saved (some p.id)) ++
    (((least part.reissue).filter (p.blocksIn cl)).map (Work.again (some p.id))).toList ++
    (match p.firstIn part.next part.limit with
      | some g => if p.blocksIn cl g then [.tile p.id g] else []
      | none => [])

/-- Whether the head of a queue can start on a core or completes without one (R465). PLAN, REDUCE and GROUP positions
are taken by the dispatcher itself. -/
def State.headWork (s : State) (cl q : Nat) : List Work :=
  if !s.qReady cl q then []
  else match s.headDesc cl q with
    | .error _ => [.head]
    | .ok d => if dKind d ≠ 0 then [] else if s.admission (s.qCtx cl q) d (fun _ => []) = .wait then [] else [.head]

/-- What a queue of a cluster offers, in the order of R464. -/
def State.queueWork (s : State) (cl q : Nat) : List Work :=
  let served := s.ctxServed (s.qCtx cl q)
  let x := s.queue cl q
  let plans := (s.disp.plans.filter (fun p => p.cl = cl && p.q = q)).flatMap (fun p => s.planWork p cl)
  (if served && !x.saved.isEmpty then [Work.saved none] else []) ++
  plans.filter (fun w => match w with
    | .saved _ => true
    | _ => false) ++
  (if served then ((least x.reissue).map (Work.again none)).toList else []) ++
  plans.filter (fun w => match w with
    | .saved _ => false
    | _ => true) ++
  (if served && x.saved.isEmpty && x.reissue.isEmpty then s.headWork cl q else [])

/-- Everything that a cluster's cores can start: priority, queue number and work. -/
def State.offers (s : State) (cl : Nat) : List (Nat × Nat × Work) :=
  ((List.range 16).filterMap (fun q => (s.queueWork cl q).head?.map (fun w => (s.qPrio cl q, q, w)))) ++
  (s.disp.plans.filter (fun p => p.cl ≠ cl)).filterMap (fun p =>
    (s.planWork p cl).head?.map (fun w => (s.qPrio p.cl p.q, p.q, w)))

/-- R464: highest priority first; equal priorities take turns in ascending queue number after the queue served last. -/
def better (last : Nat) (a b : Nat × Nat × Work) : Bool :=
  let turn := fun q => (q + 31 - last) % 16
  b.1 < a.1 || (a.1 = b.1 && turn a.2.1 < turn b.2.1)

/-- The work that a cluster's dispatcher serves next. -/
def State.chooseWork (s : State) (cl : Nat) : Option (Nat × Work) :=
  ((s.offers cl).foldl (fun best x => match best with
    | none => some x
    | some y => if better (nget 15 s.disp.lastQ cl) x y then some x else some y) none).map (fun x => (x.2.1, x.2.2))

/-- Whether a core may take work: idle, in a module that runs and a cluster that takes. -/
def State.coreFree (s : State) (cl site : Nat) : Bool :=
  s.siteState cl site = 1 && s.moduleState = 3 && s.clState cl = 0

/-- The queue served last. -/
def State.noteServed (s : State) (cl q : Nat) : State :=
  { s with disp := { s.disp with lastQ := nset 15 s.disp.lastQ cl q } }

/-- A new position of a queue goes to a core, or completes without one. -/
def State.startHead (s : State) (cl site q : Nat) : State :=
  match s.headDesc cl q with
  | .error e => s.unreadHead cl q e
  | .ok d =>
    let c := s.qCtx cl q
    match s.admission c d (fun _ => []) with
    | .wait => s
    | .fail e =>
      let r := s.takeHead cl q
      r.1.finishHead cl q r.2 e d
    | .go d =>
      let r := s.takeHead cl q
      let s := (r.1.noteStep c d).bindVersion (dBound d)
      s.startTask cl site cl (s.newLease cl q none r.2 c d [])

/-- The lease of a core tile taken for the first time, or its own where it is taken again; its commands are generated for
the buffers that hold its blocks (R286). -/
def State.tileLease (s : State) (p : Plan) (cl pos : Nat) (cs : List Nat) : Lease :=
  match s.leaseOf cl p.q (some p.id) pos with
  | some l => { l with cmds := cs }
  | none => { s.newLease cl p.q (some p.id) pos p.ctx (p.descOf pos) cs with step := p.step, key := p.key }

/-- A re-issued position goes to a core: under its lease, or afresh where a restore left none (R469, R484). -/
def State.startAgain (s : State) (cl site q : Nat) (plan : Option Nat) (pos : Nat) : State :=
  match plan with
  | some id =>
    match s.plan id with
    | none => s
    | some p =>
      let ct := pos / max 1 p.per
      match p.bufFor cl 0 ct, p.bufFor cl 1 ct with
      | some a, some b =>
        let s := s.modPlan id (fun p => p.modPart cl (fun x => { x with reissue := x.reissue.erase pos }))
        match s.tileCmds p cl pos a.idx b.idx with
        | .error e => s.planFail id e
        | .ok cs =>
          let l := s.tileLease p cl pos cs
          (s.cnt16 (kCtx p.ctx 0xE) 1).startTask cl site p.cl
            (if (s.leaseOf cl q plan pos).isSome then l else { l with seq := 1 })
      | _, _ => s
  | none =>
    let s := s.modQueue cl q (fun x => { x with reissue := x.reissue.erase pos })
    match s.leaseOf cl q none pos with
    | some l => (s.cnt16 (kCtx l.ctx 0xE) 1).startTask cl site cl l
    | none =>
      let c := s.qCtx cl q
      match s.readVaNat (s.accOf c) (s.qRing cl q + pos % s.qSize cl q * 128) 128 with
      | .error e => (s.finishHead cl q pos e ((Config.freeNat s.free % 2 ^ 32) <<< 992)).tick
      | .ok d =>
        match s.admission c d (fun _ => []) with
        | .wait => s.modQueue cl q (fun x => { x with reissue := pos :: x.reissue })
        | .fail e => s.finishHead cl q pos e d
        | .go d =>
          let s := ((s.cnt16 (kCtx c 0xE) 1).noteStep c d).bindVersion (dBound d)
          s.startTask cl site cl { s.newLease cl q none pos c d [] with seq := 1 }

/-- A core tile of a plan goes to a core (R284, R286). -/
def State.startPlanTile (s : State) (cl site id g : Nat) : State :=
  match s.plan id with
  | none => s
  | some p =>
    let ct := g / max 1 p.per
    match p.bufFor cl 0 ct, p.bufFor cl 1 ct with
    | some a, some b =>
      match s.tileCmds p cl g a.idx b.idx with
      | .error e => s.planFail id e
      | .ok cs =>
        let s := (s.modPlan id (fun p => p.modPart cl (fun x => { x with next := g + 1 }))).shown id
        s.startTask cl site p.cl (s.tileLease p cl g cs)
    | _, _ => s

/-- WORK_REQUEST: an idle core asks its cluster dispatcher for work (R464). A saved task is taken by SAVED_TASK_RESUME. -/
def State.workRequest (s : State) (cl site : Nat) : State :=
  if !s.coreFree cl site || leaseMax ≤ ((s.leases cl).filter (·.valid)).length then s
  else match s.chooseWork cl with
    | none => s
    | some (q, w) =>
      match w with
      | .saved _ => s
      | .again plan pos => (s.noteServed cl q).startAgain cl site q plan pos
      | .tile id g => (s.noteServed cl q).startPlanTile cl site id g
      | .head => (s.noteServed cl q).startHead cl site q

/-- WORK_REQUEST (R464). -/
def execWorkRequest (core : CoreId) (s : State) : Host.Outcome State Fault Refusal := .next (s.workRequest core.c core.s)

/-! ### Lease renewal and expiry (R467, R469) -/

/-- LEASE_RENEWAL: once per millisecond a core that waits in a WAIT renews its lease. -/
def State.leaseRenewal (s : State) (cl site : Nat) : State :=
  match s.liveTask cl site with
  | some t => if t.hold = some 3 then s.renew cl t else s
  | none => s

/-- LEASE_RENEWAL (R467). -/
def execLeaseRenewal (core : CoreId) (s : State) : Host.Outcome State Fault Refusal := .next (s.leaseRenewal core.c core.s)

/-- A position joins its re-issue list. -/
def State.joinReissue (s : State) (cl : Nat) (l : Lease) : State :=
  let add := fun (x : List Nat) => if x.contains l.pos then x else l.pos :: x
  match l.plan with
  | some id => s.modPlan id (fun p => p.modPart cl (fun x => { x with reissue := add x.reissue }))
  | none => s.modQueue cl l.queue (fun x => { x with reissue := add x.reissue })

/-- A RUNNING lease expires: LEASE_SEQ advances and the position joins the re-issue list (R469, R609). -/
def State.expireLease (s : State) (cl : Nat) (l : Lease) : State :=
  (s.modLease cl l.queue l.plan l.pos (fun l => { l with state := .expired, seq := (l.seq + 1) % 2 ^ 32 })).joinReissue cl l

/-- LEASE_SCAN: RUNNING leases whose EXPIRES has passed expire (R469); no scan runs in a hold (R647). -/
def State.leaseScan (s : State) (cl : Nat) : State :=
  if s.moduleState = 4 then s else
  ((s.leases cl).filter (fun l => l.valid && l.state = .running && l.expires < s.timeNs)).foldl
    (fun s l => s.expireLease cl l) s

/-- LEASE_SCAN (R469). -/
def execLeaseScan (cl : Fin 12) (s : State) : Host.Outcome State Fault Refusal := .next (s.leaseScan cl.val)

/-! ### Atomics (R441, R444 to R446) -/

/-- Dispatcher state of a control region, which is not readable (R455). -/
def inHidden (off : Nat) : Bool := 0x44000 ≤ off && off < 0x80000
/-- The lease table of a control region, whose fields are RO (R455, R468). -/
def inLeases (off : Nat) : Bool := 0x80000 ≤ off && off < 0x100000

/-- The cluster and offset of the word on which an atomic may run, or what answers it (R445, R610): an aligned word of mapped scratch,
none of the dispatcher state (DESIGN CHOICE, log 156), of a cluster that serves requests. -/
def State.atomicAt (s : State) (pa : Nat) (wide : Bool) : Except Out (Nat × Nat) :=
  match s.scratchOf pa with
  | some (cl, off) =>
    if pa % (if wide then 8 else 4) ≠ 0 || inHidden off then .error (.refused stState)
    else if s.clServes cl then .ok (cl, off)
    else .error .fenced
  | none => .error (.refused stState)

/-- A relay counter of a plan takes the values that an atomic has left in its words (R284, R455). -/
def State.adopt (s : State) (cl k : Nat) : State :=
  s.disp.plans.foldl (fun (s : State) (p : Plan) =>
    if k = p.tileCtr && bitAt (plClusters p.record) cl then
      (s.modPlan p.id (fun p => p.modPart cl (fun x => { x with next := s.qNext cl k, limit := s.qLimit cl k }))).planCheck p.id
    else if k = p.chunkCtr && p.cl = cl then
      (s.modPlan p.id (fun p => { p with nextChunk := s.qNext cl k })).planCheck p.id
    else s) s

/-- A word of scratch after an atomic: one of the lease table keeps its fields, and one of a plan's counter sets the plan. -/
def State.setAtomic (s : State) (pa n cl off v : Nat) : State :=
  if inLeases off then s
  else
    let s := (s.putWord pa n v).unland pa n
    if 0x40080 ≤ off && off < 0x44000 then s.adopt cl ((off - 0x40000) / 8) else s

/-- One atomic on a word: the prior value is returned at the pins, and the word takes `f` of it. A refused one changes
nothing. -/
def State.atomic (s : State) (pa : Nat) (wide : Bool) (f : Nat → Nat) : State :=
  let n := if wide then 8 else 4
  match s.atomicAt pa wide with
  | .error o => s.emit o
  | .ok (cl, off) =>
    let old := leNat (s.view pa n)
    ((s.setAtomic pa n cl off (f old % 2 ^ (8 * n))).cnt48 (kCl cl 0x90 4) 1).emit (.value old)

/-- TAKE on a relay counter of a control region (R445, R462). -/
def State.atomicTake (s : State) (pa : Nat) (wide : Bool) : State :=
  match s.atomicAt pa wide with
  | .error o => s.emit o
  | .ok (cl, off) =>
    if wide || !inControl off then s.emit (.refused stState)
    else if inLeases off then (s.cnt48 (kCl cl 0x90 4) 1).emit (.value (leNat (s.view pa 4)))
    else
      let q := (off - 0x40000) / 8
      let counts := 0x40000 ≤ off && off < 0x40080 && off % 8 = 0
      if counts then
        let old := s.word pa 4
        let r := s.takeQ cl q
        (r.1.modQueue cl q (fun x => { x with open_ := x.open_ ++ r.2.toList })).emit (.value old)
      else
        let r := (s.cnt48 (kCl cl 0x90 4) 1).takeAt pa
        (if 0x40080 ≤ off then r.1.adopt cl q else r.1).emit (.value r.2)

/-- TAKE (R462). -/
def execTake (pa : BitVec 52) (wide : Bool) (s : State) : Host.Outcome State Fault Refusal :=
  .next (s.atomicTake pa.toNat wide)

/-- Signed value of a word. -/
def sWord (wide : Bool) (v : Nat) : Int := sx (if wide then 64 else 32) v

/-- FETCH_ADD (R444). -/
def execFetchAdd (pa : BitVec 52) (wide : Bool) (v : BitVec 64) (s : State) : Host.Outcome State Fault Refusal :=
  .next (s.atomic pa.toNat wide (fun x => x + v.toNat))

/-- The low word of an operand. -/
def opWord (wide : Bool) (v : Nat) : Nat := if wide then v % 2 ^ 64 else v % 2 ^ 32

/-- CAS (R444). -/
def execCas (pa : BitVec 52) (wide : Bool) (expected : BitVec 64) (new : BitVec 64) (s : State) :
    Host.Outcome State Fault Refusal :=
  .next (s.atomic pa.toNat wide (fun x => if x = opWord wide expected.toNat then opWord wide new.toNat else x))

/-- MIN_U (R444). -/
def execMinU (pa : BitVec 52) (wide : Bool) (v : BitVec 64) (s : State) : Host.Outcome State Fault Refusal :=
  .next (s.atomic pa.toNat wide (fun x => min x (opWord wide v.toNat)))

/-- MAX_U (R444). -/
def execMaxU (pa : BitVec 52) (wide : Bool) (v : BitVec 64) (s : State) : Host.Outcome State Fault Refusal :=
  .next (s.atomic pa.toNat wide (fun x => max x (opWord wide v.toNat)))

/-- MIN_S (R444). -/
def execMinS (pa : BitVec 52) (wide : Bool) (v : BitVec 64) (s : State) : Host.Outcome State Fault Refusal :=
  .next (s.atomic pa.toNat wide (fun x => if sWord wide v.toNat < sWord wide x then opWord wide v.toNat else x))

/-- MAX_S (R444). -/
def execMaxS (pa : BitVec 52) (wide : Bool) (v : BitVec 64) (s : State) : Host.Outcome State Fault Refusal :=
  .next (s.atomic pa.toNat wide (fun x => if sWord wide x < sWord wide v.toNat then opWord wide v.toNat else x))

/-! ### Queue objects (R453, R454, R463) -/

/-- R454, R463: a write of LIMIT and its status. -/
def State.setLimit (s : State) (cl q v : Nat) : State × Nat :=
  if 0x7FFFFFFF < v then (s, stRange)
  else if v < s.qLimit cl q then (s, stState)
  else (s.setRelay cl q (s.qNext cl q) v (s.qExhausted cl q && v = s.qLimit cl q), stOk)

/-- Whether a function may ring the doorbell of a context's queue or video ring (R697). -/
def State.ownsCtx (s : State) (fn c : Nat) : Bool := if c < 64 then s.obj (kSeed c 0x20) = fn else fn = 0

/-- LIMIT: a queue doorbell. A refused doorbell write is dropped and counted in REFUSED (R697, R698). -/
def State.doorbellLimit (s : State) (fn cl q v : Nat) : State :=
  let r := s.setLimit cl q v
  if s.ownsCtx fn (s.qCtx cl q) && r.2 = stOk then r.1 else s.cnt16 (kDev 0x1050 6) 1

/-- LIMIT (R454). -/
def execLimit (fn : HostFn) (cl : Fin 12) (q : Fin 16) (v : BitVec 32) (s : State) : Host.Outcome State Fault Refusal :=
  .next (s.through fn.val false false (fun s => s.doorbellLimit fn.val cl.val q.val v.toNat))

/-- R453: a queue that may be rebound: no open position, and NEXT not below LIMIT. -/
def State.queueIdle (s : State) (cl q : Nat) : Bool :=
  (s.queue cl q).open_.isEmpty && s.qLimit cl q ≤ s.qNext cl q

/-- R453: a write of CONTEXT resets the relay counter. -/
def State.bindQueue (s : State) (cl q v : Nat) : State × Nat :=
  if v ≠ 0xFF ∧ 63 < v then (s, stRange)
  else if !s.queueIdle cl q then (s, stState)
  else ((s.setObj (kQ cl q 1) v).setRelay cl q 0 0 false, stOk)

/-- CONTEXT of a queue (R453). -/
def execQueueContext (cl : Fin 12) (q : Fin 16) (v : BitVec 8) (s : State) : Host.Outcome State Fault Refusal :=
  .next (written (s.bindQueue cl.val q.val v.toNat))

end Sys2Proof.Machine
end

