-- ==== Sys2Proof/Machine/Commit.lean ====
section
/-! DEFINITION. The commit of a task and its completion record (R13, R89, R93, R94, R97, R143, R151, R278, R368, R369,
R407 to R409, R470, R473, R489, R490, R496). -/

namespace Sys2Proof.Machine

/-! ### Whether a task can commit -/

/-- Every command of the task's list has finished (R130). -/
def CoreSt.finished (c : CoreSt) (t : Task) : Bool :=
  t.ended && t.imageDone && t.hold.isNone && c.tiles.isEmpty && c.sect.isNone && c.routines.isEmpty && c.groups.isEmpty &&
  c.deliveries.isEmpty && t.moves.isEmpty && (!t.isDelta || t.gDone)

/-- R369: another glided task that touches the same stamps is in the middle of its commit. -/
def State.stampsBusy (s : State) (t : Task) : Bool :=
  s.cores.any (fun c => match c.2.task with
    | some u => u.uid ≠ t.uid && u.ctx = t.ctx && u.committed && u.current && u.gStamps.any t.gStamps.contains
    | none => false)

/-! ### What a commit sends (R93, R94, R558) -/

/-- The bytes of a staged contribution's records. -/
def CoreSt.stagedBytes (c : CoreSt) (g : Staged) : List Byte :=
  match g.src with
  | .slab ring slab off words => c.rd ((c.ring ring).slabAddr slab + off) (4 * words)
  | .data l => l.flatMap (toLE 4)

/-- A contribution joins those on their way to an adder of this module. -/
def State.toAdder (s : State) (uid ma h : Nat) (recs : List Byte) : State :=
  { s with disp := { s.disp with inflight := s.disp.inflight ++ [⟨uid, ma, h, recs⟩] } }

/-- The packets of a contribution leave for its home (R558, R559), or the code of their injection. -/
def State.toHome (s : State) (uid cl ctx home h : Nat) (recs : List Byte) : Except Nat State :=
  let ps := chunks 4096 recs
  let n := max 1 ps.length
  match (List.range n).foldl (fun (r : Except Nat State) k =>
    match r with
    | .error e => .error e
    | .ok s => s.inject (mkHdr home s.ownId tyContrib ctx (s.jobId ctx) (cbFields h k n) (nth [] ps k).length) (nth [] ps k))
    (.ok s) with
  | .error e => .error e
  | .ok s => .ok { s with disp := { s.disp with awaitAck := s.disp.awaitAck ++ [⟨uid, cl, h⟩] } }

/-- A task's contribution leaves: to the adder of its block, to its home, or to MA0 where no record of the RED_ID holds
the block (R94). One that cannot leave the module gives its task the code. Where R94's two sentences overlap on a module with a forwarding
registration, a contribution of its GEN goes to the home even when OUT_BLOCK lies outside OUT_BLOCKS, and one of another GEN goes to MA0
(DESIGN CHOICE, log 134). -/
def State.sendContrib (s : State) (cl site : Nat) (t : Task) (g : Staged) (recs : List Byte) : State :=
  let h := mkHeader (dTask t.desc) t.ctx g.kind g.gen g.redId g.block g.a g.b
  match s.redOf t.ctx g.redId with
  | none => s.toAdder t.uid 0 h recs
  | some r =>
    if r.status = .forwarding then
      if r.gen ≠ g.gen then s.toAdder t.uid 0 h recs
      else match s.toHome t.uid cl t.ctx r.home h recs with
        | .ok s => s
        | .error e => s.modTask cl site (fun t => { t with codes := t.codes ++ [e], badContrib := true })
    else match r.blocks[g.block]? with
      | some b => s.toAdder t.uid b.adder h recs
      | none => s.toAdder t.uid 0 h recs

/-- The staged contributions of the task on a core leave, with the events of their elements (R151). -/
def State.sendStaged (s : State) (cl site : Nat) (t : Task) : State :=
  let c := s.core cl site
  let s := t.staged.foldl (fun s g => s.sendContrib cl site t g (c.stagedBytes g)) s
  (s.modTask cl site (fun u => { u with
    staged := [], ev := u.ev.count ⟨0, 0, (t.staged.map (·.nans)).sum, 0⟩ })).sendDones t.uid

/-! ### The replay tag (R407 to R409) -/

/-- A replay tag from the template in its region, the task and its group. -/
def State.replayTag (s : State) (t : Task) (tmpl : Nat) : Nat :=
  let g := if dGroup t.desc = 0xFFF then none else s.groupOf t
  let sw := g.any (·.switched)
  let w := at' (fld tmpl 511 504) 511 504 + at' t.ctx 503 498 + at' (dSeed t.desc) 497 495 + at' (dSlot t.desc) 494 492 +
    at' (match g with
      | some x => if x.switched then x.fbSlot else gFbSlot x.record
      | none => 0) 491 489 +
    at' (b2n sw) 488 488 + at' (b2n sw) 487 487 +
    at' (match t.key with
      | some k => (keyCheck k).toNat
      | none => 0) 479 448 +
    at' (fld tmpl 447 416) 447 416 + at' t.step 415 352 + at' (dVersion t.desc) 351 320 +
    at' (match g with
      | some x => if sw then x.fbVersion else 0
      | none => 0) 319 288 +
    at' (s.obj (kSeed t.ctx 7)) 287 224 +
    at' (match g with
      | some x => if sw then x.seq else 0
      | none => 0) 223 192 +
    at' (fld tmpl 191 168) 191 168
  w + crc32c ((toLE 64 w).drop 4)

/-- The replay tag of a task is written in its region; the code where the region cannot be read or written. -/
def State.writeTag (s : State) (cl site : Nat) (t : Task) : State :=
  if dTag t.desc = 0 then s
  else
    let acc := s.accNow t
    let bad := fun (e : Nat) => s.modTask cl site (fun t => { t with codes := t.codes ++ [e] })
    match s.readVaNat acc (dTag t.desc) 64 with
    | .error e => bad e
    | .ok m => match s.writeVa acc (dTag t.desc) (toLE 64 (s.replayTag t m)) with
      | .error e => bad e
      | .ok s => s

/-! ### TASK_COMMIT (R470) -/

/-- R490: the work of a committed task counts in its context's rate. -/
def State.noteWork (s : State) (t : Task) : State :=
  s.modCtx t.ctx (fun k => { k with
    work := (s.timeNs, dWork t.desc) :: k.work.filter (fun w => s.timeNs < w.1 + 10000000) })

/-- The core's work is over: nothing of a task's commands is left on it but its rings and their bytes. -/
def CoreSt.endWork (c : CoreSt) : CoreSt :=
  { c with tiles := [], group := none, older := [], sect := none, routines := [], deliveries := [], bank0 := none, bank1 := none }

/-- The physical ranges of a run of virtual memory that a descriptor writes, as far as they translate. -/
def State.outRun (s : State) (t : Task) (m : Mv) (base : Nat) (r : Nat × Nat) : List (Nat × Nat) :=
  match s.trans (s.accMv t m) (base + r.1) r.2 true with
  | .ok l => l
  | .error _ => []

/-- The physical ranges that a descriptor would have written at the commit: its destination view, and the bitmap of a
GATHER. -/
def State.moveRegions (s : State) (t : Task) (m : Mv) : List (Nat × Nat) :=
  let d := m.desc
  (if mDstSpace d ≠ 0 || mOp d = opScatterAdd then []
    else ((mDstView d).runs (mDstExt d t.desc (!mOverExt d t.desc))).flatMap (s.outRun t m (mDstAddr d))) ++
  (if mOp d = opGather then (maskRuns d).flatMap (s.outRun t m 0) else [])

/-- The descriptors of the MOVEs from command `i` on that the sequencer of a task has not reached; the list ends at END, and at a
command that would have ended the task. -/
def State.restMoves (s : State) (cl site : Nat) (t : Task) : Nat → Nat → List Mv
  | 0, _ => []
  | n + 1, i =>
    match s.fetchCmd t i with
    | .error _ => []
    | .ok w =>
      let o := fld w 255 248
      if o = 1 || !opcodeDefined o || (t.isProduct && (o = 0x11 || o = 0x20)) then []
      else if o ≠ 5 then s.restMoves cl site t n (i + 1)
      else match s.mvDesc cl site t w with
        | .error _ => []
        | .ok (d, phys, turned) =>
          if mvBad (s.core cl site) t (s.obj (kDev 0x6000 1)) d then []
          else
            { desc := d, xlat := s.xlatNow t.ctx, src := none, box := none, phys := phys, turned := turned, serial := none,
              again := false, tagged := false, sent := 0 } :: s.restMoves cl site t n (i + 1)

/-- The output regions of a task that publishes nothing (R13), as physical ranges: what its MOVEs would have written, those that
it had not reached among them, and the region of its replay tag. -/
def State.outRegions (s : State) (cl site : Nat) (t : Task) : List (Nat × Nat) :=
  (t.commitMoves ++ s.restMoves cl site t 65536 t.cmdIndex).flatMap (s.moveRegions t) ++
  (if dTag t.desc = 0 then [] else match s.trans (s.accNow t) (dTag t.desc) 64 true with
    | .ok l => l
    | .error _ => [])

/-- What a task leaves undefined where it comes to publish nothing (R13). A glided task that ends before its commit-time MOVEs
start leaves its glide state as it was, for the task that is issued again (R368, R377). -/
def State.looseRegions (s : State) (cl site : Nat) (t : Task) (published : Bool) : List (Nat × Nat) :=
  if t.glide.isSome && !published then [] else s.outRegions cl site t

/-- The output regions of a task that publishes nothing hold undefined contents (R13). -/
def State.undefineAll (s : State) (l : List (Nat × Nat)) : State := l.foldl (fun s p => s.undefine p.1 p.2) s

/-- A stale holder commits: only its contributions and markers leave (R470, R616). -/
def State.commitStale (s : State) (cl site : Nat) (t : Task) (ok : Bool) : State :=
  let s := s.unrefMoves (t.commitMoves.filter (fun m => !(ok && mOp m.desc = opScatterAdd)))
  let s := (s.cnt16 (kCtx t.ctx 0xF) 1).modTask cl site (fun t => { t with
    committed := true, commitTime := s.timeNs, signals := [],
    commitMoves := if ok then t.commitMoves.filter (fun m => mOp m.desc = opScatterAdd) else [],
    staged := if ok then t.staged else [], dones := if ok then t.dones else [] })
  if ok then s.sendStaged cl site t else s

/-- The current holder of a failed task commits: nothing is published. -/
def State.commitFailed (s : State) (cl site : Nat) (t : Task) (codes : List Nat) : State :=
  (s.unrefMoves t.commitMoves).modTask cl site (fun t => { t with
    committed := true, current := true, commitTime := s.timeNs, codes := t.codes ++ codes, signals := [],
    commitMoves := [], staged := [], dones := [] })

/-- The current holder commits and publishes: contributions leave, its group and rate take note, its tag is written. -/
def State.commitGood (s : State) (cl site : Nat) (t : Task) : State :=
  let s := s.modTask cl site (fun t => { t with committed := true, current := true, commitTime := s.timeNs })
  ((s.sendStaged cl site t).groupCommit t |>.noteWork t).writeTag cl site t

/-- R258, R368, R445: the codes with which a glided task publishes nothing. -/
def State.glideStop (s : State) (t : Task) : List Nat :=
  match t.glide with
  | none => []
  | some r => s.glideCodes t ++ s.stampCodes t r ++ s.countCodes t r

/-- TASK_COMMIT: the task on a core commits once its commands have finished or a code has ended it; the dispatcher
compares its LEASE_SEQ with the entry's. -/
def State.taskCommit (s : State) (cl site : Nat) : State :=
  let c := s.core cl site
  match (if s.siteState cl site = 2 ∧ s.moduleState = 3 then c.task else none) with
  | none => s
  | some t =>
    let ok := t.codes.isEmpty
    if t.committed || (ok && (!c.finished t || s.stampsBusy t)) then s
    else
      let now := s.holds cl t
      let s := (s.unrefMoves t.moves).modCore cl site CoreSt.endWork
      let s := s.modTask cl site (fun t => { t with moves := [], hold := none, ended := true })
      if !now then s.commitStale cl site t ok
      else
        let s := s.modLease cl t.q t.plan t.pos (fun l => { l with state := .committed })
        let stop := if ok then s.glideStop t else []
        let s := s.modTask cl site (fun u => { u with regions := s.looseRegions cl site t (ok && stop.isEmpty) })
        if ok && stop.isEmpty then s.commitGood cl site t else s.commitFailed cl site t stop

/-- TASK_COMMIT (R470). -/
def execTaskCommit (core : CoreId) (s : State) : Host.Outcome State Fault Refusal := .next (s.taskCommit core.c core.s)

/-! ### COMPLETION_RECORD (R473) -/

/-- Codes other than DUPLICATE. -/
def Task.failing (t : Task) : Bool := t.codes.any (· ≠ cDuplicate)

/-- R278, R97: what a committed task still has under way. -/
def State.commitOpen (s : State) (t : Task) : Bool :=
  !t.commitMoves.isEmpty || s.contribsOut t.uid || !(t.dones.isEmpty || t.badContrib)

/-- The signals of a task, after its commit-time MOVEs (R143, R262). -/
def State.sendSignals (s : State) (t : Task) : State := t.signals.foldl (fun s g => s.tagAdd t.ctx g.1 g.2) s

/-- R610: a SIGNAL into a cluster that serves nothing ends its task with FENCED. -/
def State.signalCodes (s : State) (t : Task) : List Nat :=
  if t.signals.all (fun g => s.clServes (tagCl g.1)) then [] else [cFenced]

/-- R13: a task publishes its glide state and signals, or leaves its output regions undefined. -/
def State.publish (s : State) (t : Task) : State :=
  if t.failing then s.undefineAll t.regions
  else match t.glide with
    | some r => (s.glidePublish t r).sendSignals t
    | none => s.sendSignals t

/-- R608: a draining cluster without tasks is disabled. -/
def State.drainCluster (s : State) (cl : Nat) : State :=
  if s.clState cl = 1 && (List.range 8).all (fun k => (s.core cl k).task.isNone) then s.setObj (kCl cl 0xB0 2) 2 else s

/-- The task leaves its core, which is idle again unless it has been fenced. -/
def State.leaveCore (s : State) (cl site : Nat) : State :=
  let s := s.modCore cl site (fun c => { c.endWork.releaseAll with task := none, wdCount := 0 })
  (if s.siteState cl site = 2 then s.setObj (kCore cl site 0 1) 1 else s).drainCluster cl

/-- The record of a task by its current holder (R473), or its part in its plan (R286, R288). -/
def State.recordTask (s : State) (cl site : Nat) (t : Task) : State :=
  let bound := (s.taskLease cl t).bind (·.bound)
  let s := s.dropLease cl t.q t.plan t.pos
  match t.plan with
  | some id =>
    (s.modPlan id (fun p => { p with
      codes := p.codes ++ t.codes, ev := p.ev.count t.ev, dups := min 0xFFFF (p.dups + t.dups) })).planCheck id
  | none =>
    (s.complete t.qcl t.q t.pos
      { task := dTask t.desc, status := firstCode t.codes, ctx := t.ctx, cluster := cl, site := site, seq := t.leaseSeq,
        ev := t.ev, dups := t.dups, stale := 0, time := t.commitTime }).unbindVersion bound

/-- COMPLETION_RECORD: once the commit-time MOVEs and contributions of a committed task have finished, the dispatcher
writes its record, and the core is free. A stale holder writes none. The boundary between two tasks on a core is a yield
point: it is reported to the Split Timer (R475, R477). -/
def State.completionRecord (s : State) (cl site : Nat) : State :=
  match (s.core cl site).task with
  | none => s
  | some t =>
    if !t.committed || s.commitOpen t then s
    else if !t.current then (s.leaveCore cl site).project t
    else
      let t := { t with codes := t.codes ++ (if t.failing then [] else s.signalCodes t) }
      (((s.publish t).leaveCore cl site).recordTask cl site t).project t

/-- COMPLETION_RECORD (R473). -/
def execCompletionRecord (core : CoreId) (s : State) : Host.Outcome State Fault Refusal :=
  .next (s.completionRecord core.c core.s)

end Sys2Proof.Machine
end

