-- ==== Sys2Proof/Machine/MoverRows.lean ====
section
/-! DEFINITION. The tensor mover's steps: the descriptor at the head of a task's list runs (R246 to R315, R553, R556,
R560). -/

namespace Sys2Proof.Machine

/-! ### Ring fills, before the commit (R262, R278) -/

/-- The head of a task's issued descriptors runs: it waits, fails its task, or finishes. -/
def State.runHead (s : State) (cl site : Nat) (t : Task) (m : Mv) (rest : List Mv) : State :=
  match s.runMove cl site t m with
  | .wait => s
  | .fail e s => s.taskFail cl site e
  | .part k s => s.modTask cl site (fun t => { t with moves := { m with sent := k } :: rest })
  | .done s => (s.modTask cl site (fun t => { t with moves := rest })).unrefMoves [m]

/-! ### Commit-time descriptors (R278) -/

/-- A commit-time descriptor fails: its task's record takes the code, and those after it do not start. What the task's output regions then
hold is not published and not stated (R13): free values, which the completion record's command puts there (undefineAll; DESIGN CHOICE, log
136). -/
def State.commitMoveFail (s : State) (cl site e : Nat) : State :=
  match (s.core cl site).task with
  | some t => (s.modTask cl site (fun t => { t with codes := t.codes ++ [e], commitMoves := [] })).unrefMoves t.commitMoves
  | none => s

/-- The head of the commit-time descriptors has finished. -/
def State.commitMoveDone (s : State) (cl site : Nat) (m : Mv) : State :=
  (s.modTask cl site (fun t => { t with commitMoves := t.commitMoves.drop 1 })).unrefMoves [m]

/-- SCATTER_ADD at the commit: its contributions leave, and a LEAF_DONE follows them (R271). A stale holder increments
no tag. -/
def State.scatterAddRun (s : State) (cl site : Nat) (t : Task) (m : Mv) : MoveRes :=
  match s.scatterAddStage cl site t m.desc m with
  | .inl r => r
  | .inr x =>
    let s := x.staged.foldl (fun s g => s.sendContrib cl site t g ((s.core cl site).stagedBytes g)) s
    let s := s.modTask cl site (fun t => { t with dones := t.dones ++ [x.done], ev := t.ev.count x.ev })
    let s := s.modCore cl site (fun c => c.releaseRead m.desc x.srcRuns)
    let s := s.idxCount cl x.idx
    .done (if t.current then s.mvTag t m.desc else s)

/-- A commit-time descriptor runs; of a ring fill by GATHER, its bitmap (R615). A broadcast that has started waits until its packets have left (R560). -/
def State.runCommit (s : State) (cl site : Nat) (t : Task) (m : Mv) : MoveRes :=
  if mOp m.desc = opScatterAdd then s.scatterAddRun cl site t m
  else match m.bits with
  | some b => match s.writeMask cl site t m b with
    | .ok s => .done s
    | .error e => s.mvFail cl e
  | none => match mvBcast m.desc with
    | some id => if m.sent = 0 then s.runMove cl site t m else if s.bcastWaits id then .wait else .done s
    | none => s.runMove cl site t m

/-- The head of a committed task's descriptors runs (R278). -/
def State.runCommitHead (s : State) (cl site : Nat) (t : Task) (m : Mv) : State :=
  match s.runCommit cl site t m with
  | .wait => s
  | .fail e s => s.commitMoveFail cl site e
  | .part _ s => s
  | .done s =>
    let waits : Bool := match (s.core cl site).task with
      | some t => (t.commitMoves.head?).any (fun m => m.serial.isSome)
      | none => false
    if waits then s else (s.commitMoveDone cl site m).sendDones t.uid

/-- The tensor mover takes the next step for a core: the descriptor at the head of its task's list runs, if its
operation is `op`. In SAG_HOLD the descriptors that were issued before run to completion, and no core issues others (R646; DESIGN CHOICE,
log 158). -/
def State.moveRow (s : State) (cl site : Nat) (op : Nat) : State :=
  if (s.moduleState ≠ 3 && s.moduleState ≠ 4) || !s.clServes cl then s else
    match (s.core cl site).task with
    | none => s
    | some t =>
      if t.committed then
        match t.commitMoves with
        | m :: _ => if mOp m.desc = op && m.serial.isNone then s.runCommitHead cl site t m else s
        | [] => s
      else if !t.codes.isEmpty then s
      else match t.moves with
        | m :: rest => if mOp m.desc = op then s.runHead cl site t m rest else s
        | [] => s

/-- COPY (R250). -/
def execCopy (core : CoreId) (s : State) : Host.Outcome State Fault Refusal := .next (s.moveRow core.c core.s opCopy)
/-- FILL (R246). -/
def execFill (core : CoreId) (s : State) : Host.Outcome State Fault Refusal := .next (s.moveRow core.c core.s opFill)
/-- GATHER (R266). -/
def execGather (core : CoreId) (s : State) : Host.Outcome State Fault Refusal := .next (s.moveRow core.c core.s opGather)
/-- SCATTER (R270). -/
def execScatter (core : CoreId) (s : State) : Host.Outcome State Fault Refusal := .next (s.moveRow core.c core.s opScatter)
/-- SCATTER_ADD (R271). -/
def execScatterAdd (core : CoreId) (s : State) : Host.Outcome State Fault Refusal :=
  .next (s.moveRow core.c core.s opScatterAdd)
/-- WINDOW (R300). -/
def execWindow (core : CoreId) (s : State) : Host.Outcome State Fault Refusal := .next (s.moveRow core.c core.s opWindow)
/-- WINDOW_T (R300). -/
def execWindowT (core : CoreId) (s : State) : Host.Outcome State Fault Refusal := .next (s.moveRow core.c core.s opWindowT)
/-- PAD (R306). -/
def execPad (core : CoreId) (s : State) : Host.Outcome State Fault Refusal := .next (s.moveRow core.c core.s opPad)
/-- UP2 (R308). -/
def execUp2 (core : CoreId) (s : State) : Host.Outcome State Fault Refusal := .next (s.moveRow core.c core.s opUp2)
/-- DOWN2 (R308). -/
def execDown2 (core : CoreId) (s : State) : Host.Outcome State Fault Refusal := .next (s.moveRow core.c core.s opDown2)
/-- CROP (R313). -/
def execCrop (core : CoreId) (s : State) : Host.Outcome State Fault Refusal := .next (s.moveRow core.c core.s opCrop)

/-! ### LANDED_READ (R556) -/

/-- The head descriptor of the task on a core. -/
def State.headMove (s : State) (cl site : Nat) : Option (Task × Mv) :=
  match (s.core cl site).task with
  | none => none
  | some t => ((if t.committed then t.commitMoves else t.moves).head?).map (fun m => (t, m))

/-- Whether the source view of a descriptor, or its index or mask array, reads a granule of its cluster's scratch. -/
def State.readsGranule (s : State) (cl site g : Nat) : Bool :=
  match s.headMove cl site with
  | none => false
  | some (t, m) =>
    let d := m.desc
    let at_ := fun (l : List Place) => l.any (fun p => (pieces 256 p.a p.n).any (fun q =>
      s.scratchOf q.1 = some (cl, g * 256 + q.1 % 256)))
    let idx := if isIndexOp (mOp d) then idxReads d ++ (if mOp d = opGather then [] else maskRuns d) else []
    if (match s.places (s.core cl site) (s.accMv t m) (.virt 0) false idx with
      | .ok l => at_ l
      | .error _ => false) then true
    else if mSrcSpace d = 1 || mOp d = opFill then false
    else match s.places (s.core cl site) (s.accMv t m) (mSrcPort s d m) false ((mSrcView d).runs (mSrcExt d t.desc true)) with
      | .error _ => false
      | .ok l => at_ l

/-- LANDED_READ: the first descriptor of the cluster that reads a landed granule proceeds. -/
def State.landedRead (s : State) (cl g : Nat) : State :=
  if !nget false s.fab.landed (cl * 2 ^ 18 + g) then s
  else match (List.range 8).find? (fun k => s.readsGranule cl k g) with
    | none => s
    | some k => match s.headMove cl k with
      | some (_, m) => s.moveRow cl k (mOp m.desc)
      | none => s

/-- LANDED_READ (R556). -/
def execLandedRead (cl : Fin 12) (granule : Fin 262144) (s : State) : Host.Outcome State Fault Refusal :=
  .next (s.landedRead cl.val granule.val)

end Sys2Proof.Machine
end

