-- ==== Sys2Proof/Machine/Save.lean ====
section
/-! DEFINITION. Yield points, pre-emption and the save area (R144, R474 to R483, R613): task save records, the context
save, and PREEMPT. Where the spec gives no byte layout of the area's sections the model has its own. -/

namespace Sys2Proof.Machine

/-! ### What stands at a yield point (R144, R475, R477) -/

/-- The command of a core that stands at a tile yield point. -/
def CoreSt.yieldTile (c : CoreSt) : Option Tile := c.tiles.find? Tile.atYield

/-- The rings that a descriptor of a MOVE among the first `n` commands of a task fills. -/
def State.moveRings (s : State) (cl site : Nat) (t : Task) (n : Nat) : List Nat :=
  ((List.range n).filterMap (fun i =>
    match s.fetchCmd t i with
    | .error _ => none
    | .ok w =>
      if fld w 255 248 ≠ 5 then none
      else match s.mvDesc cl site t w with
        | .ok (d, _) => if mvAtCommit d then none else some (rsRing (mDstAddr d))
        | .error _ => none)).eraseDups

/-- The rings that a matrix command writes. -/
def State.outRings (s : State) (t : Task) (n : Nat) : List Nat :=
  ((List.range n).filterMap (fun i =>
    match s.fetchCmd t i with
    | .error _ => none
    | .ok w => if fld w 255 248 = 0x10 || fld w 255 248 = 0x11 then some (cORing w) else none)).eraseDups

/-- Rings whose slabs a restore cannot fill again: those that a command other than MOVE fills, and Y_RING (R144, R365). -/
def State.madeRings (s : State) (cl site : Nat) (t : Task) : List Nat :=
  let mv := s.moveRings cl site t t.cmdIndex
  let out := s.outRings t t.cmdIndex ++ (match t.glide with
    | some r => if t.isProduct then [glYRing r] else []
    | none => [])
  ((s.core cl site).rings.filter (fun p => p.2.valid && (out.contains p.1 || !mv.contains p.1))).map (·.1)

/-- The core has nothing under way but what a record of R481 holds. -/
def State.canSave (s : State) (cl site : Nat) (t : Task) : Bool :=
  let c := s.core cl site
  let made := s.madeRings cl site t
  c.groups.isEmpty && c.sect.isNone && c.routines.isEmpty && !c.deliveries.any (fun d => made.contains d.ring) &&
  (match c.yieldTile with
    | some ti =>
      c.tiles.length = 1 && ti.subs.all (fun u => u.acc.isEmpty && !(u.done && !u.stack.isEmpty)) &&
      !(List.range 8).any (fun mi => (List.range 4).any (fun ni => (c.readyTile mi ni).isSome))
    | none => c.tiles.isEmpty)

/-- A ring as the command at the yield point knows it: a RING command after it that has rewritten the ring since runs
again after a restore. -/
def CoreSt.savedRing (c : CoreSt) (i : Nat) : Ring :=
  match c.yieldTile.bind (fun ti => c.prior.find? (fun x => ti.num < x.1 && x.2.1 = i)) with
  | some x => x.2.2
  | none => c.ring i

/-! ### The task save record (R481) -/

/-- A live buffer entry. -/
structure Live where
  kind : Nat
  ring : Nat
  sub : Nat
  a : Nat
  b : Nat
  slab : Nat
  data : List Byte
  deriving DecidableEq, Repr

/-- The words of a node's records as bytes; an absent node has none (R76). -/
def nodeBytes (r : Option (List (List Nat))) : List Byte :=
  match r with
  | some l => l.flatMap (fun x => x.flatMap (toLE 4))
  | none => []

/-- The live tree-stack entries of a stack, under a sub-tile field. -/
def stackLive (sub : Nat) (st : List StackEntry) : List Live :=
  st.map (fun e => ⟨1, 0, sub, e.a, e.b, 0, nodeBytes e.recs⟩)

/-- The live state of a core at a yield point (R144): open stack entries, statistic stacks, staged statistics, and the
slabs of the rings that a restore cannot fill; a released slab that FREED has not passed has no bytes. -/
def CoreSt.live (c : CoreSt) (t : Task) (made : List Nat) : List Live :=
  (match c.yieldTile with
    | some ti =>
      ti.subs.flatMap (fun u => stackLive (u.mi * 256 + u.ni) u.stack) ++
      ti.stats.flatMap (fun p => stackLive (0x8000 + p.1) p.2)
    | none => []) ++
  t.staged.filterMap (fun g => match g.src with
    | .slab _ _ _ _ => none
    | .data l => some ⟨1, 0, 0xC000, g.a, g.b, g.block, [g.kind, g.gen, g.redId].flatMap (toLE 4) ++ l.flatMap (toLE 4)⟩) ++
  c.rings.flatMap (fun p =>
    let r := p.2
    if c.savedRing p.1 ≠ r then []
    else if made.contains p.1 then
      (List.range ((r.filled + 2 ^ 32 - r.freed) % 2 ^ 32)).map (fun k =>
        let j := (r.freed + k) % 2 ^ 32
        ⟨2, p.1, 0, 0, 0, j, if r.released.contains j then [] else c.rd (r.slabAddr j) r.slab⟩)
    else r.released.map (fun j => ⟨2, p.1, 0, 0, 0, j, []⟩))

/-- The live buffer entries of a record, then their data; `at` is the offset of the first data byte. -/
def liveBytes (off : Nat) (l : List Live) : List Byte :=
  let r := l.foldl (fun (acc : List Byte × Nat) e =>
    (acc.1 ++ toLE 1 e.kind ++ toLE 1 e.ring ++ toLE 2 e.sub ++ toLE 4 e.a ++ toLE 4 e.b ++ toLE 4 e.slab ++
      toLE 8 e.data.length ++ toLE 8 acc.2, acc.2 + e.data.length)) ([], off)
  r.1 ++ l.flatMap (·.data)

/-- The task save record of the task on a core (R481). -/
def State.taskRecord (s : State) (cl site : Nat) (t : Task) : List Byte :=
  let c := s.core cl site
  let lv := c.live t (s.madeRings cl site t)
  let idx := match c.yieldTile with
    | some ti => (ti.num, ti.issued / stepLen ti.schuss ti.cmd)
    | none => (t.cmdIndex, 0)
  toLE 128 t.desc ++ toLE 4 t.pos ++ toLE 1 (t.q + b2n t.plan.isSome * 128) ++ toLE 1 t.qcl ++ toLE 2 idx.1 ++
  toLE 4 idx.2 ++ toLE 4 t.liveKib ++ toLE 8 t.step ++
  toLE 32 (match t.key with
    | some k => k.toNat
    | none => 0) ++
  toLE 4 lv.length ++ toLE 4 0 ++
  (List.range 16).flatMap (fun i =>
    let r := c.savedRing i
    toLE 8 r.entry ++ toLE 4 r.filled ++ toLE 4 r.freed) ++
  toLE 64 0 ++ liveBytes (512 + 32 * lv.length) lv

/-- R151, R474: elements made NaN in open sub-tiles that have not been counted, as (sub-tile, element) numbers: they go
with the saved task. -/
def CoreSt.openNans (c : CoreSt) : List Nat :=
  c.tiles.flatMap (fun ti => ti.subs.flatMap (fun u => u.nanAt.map (fun e => (u.mi * 256 + u.ni) * 65536 + e)))

/-- R231: the CRC values that the slabs of rings carry which a record saves. -/
def CoreSt.openSums (c : CoreSt) (made : List Nat) : List (Nat × Nat × List Nat) :=
  made.flatMap (fun i => ((c.ring i).sums.filter (fun x => !x.2.isEmpty)).map (fun x => (i, x.1, x.2)))

/-- R483: the address at which a write for a context fails. -/
def State.failAddr (s : State) (c va n : Nat) : Nat :=
  let acc := s.accOf c
  match (pieces 4096 va n).find? (fun p => match s.trans acc p.1 p.2 true with
    | .error _ => true
    | .ok _ => false) with
  | some p => p.1
  | none => va

/-- R483: a save write failed: the context can only be unloaded. -/
def State.saveFail (s : State) (c va n : Nat) : State :=
  (s.modCtx c (fun k => { k with saveFailed := true })).event 0x33 3 c (s.failAddr c va n) 0

/-- R481: the task on a core writes its record and its live buffers; its lease reads SAVED at TASK_SAVE_DONE. -/
def State.saveTask (s : State) (cl site : Nat) (t : Task) : State :=
  let a := (s.ctx t.ctx).saveNext
  let bs := s.taskRecord cl site t
  match s.writeVa (s.accOf t.ctx) a bs with
  | .error _ => s.saveFail t.ctx a bs.length
  | .ok s =>
    (s.modCtx t.ctx (fun k => { k with saveNext := a + roundUp bs.length 4096 })).modTask cl site (fun t =>
      { t with hold := some 7, saveAddr := a })

/-- The task passes its yield point and goes on. -/
def State.passYield (s : State) (cl site : Nat) (t : Task) : State :=
  match (s.core cl site).yieldTile with
  | some ti =>
    let d := stepLen ti.schuss ti.cmd * 2 ^ (cYpt ti.cmd - 1)
    s.modCore cl site (fun c => c.setTile { ti with yielded := ti.issued / d })
  | none => s.modTask cl site (fun u =>
      if t.hold = some 6 then { u with hold := none, yieldReported := false } else { u with yieldReported := true })

/-- YIELD_POINT: the core renews its lease, reports to the Split Timer, and saves where its context is PREEMPTING; else
the task goes on (R477). -/
def State.yieldPoint (s : State) (cl site : Nat) : State :=
  match s.liveTask cl site with
  | none => s
  | some t =>
    let pre := s.ctxState t.ctx = 2 && !(s.ctx t.ctx).saveFailed
    if !((s.core cl site).yieldTile.isSome || t.hold = some 6 || (t.hold = some 3 && (pre || !t.yieldReported))) then s
    else
      let s := (s.renew cl t).project t
      if !pre then s.passYield cl site t
      else if s.canSave cl site t then s.saveTask cl site t
      else s

/-- YIELD_POINT (R477). -/
def execYieldPoint (core : CoreId) (s : State) : Host.Outcome State Fault Refusal := .next (s.yieldPoint core.c core.s)

/-- TASK_SAVE_DONE: after the last saved byte the lease reads SAVED and the core takes other work (R481). -/
def State.taskSaveDone (s : State) (cl site : Nat) : State :=
  match s.liveTask cl site with
  | none => s
  | some t =>
    if t.hold ≠ some 7 then s
    else
      let now := s.holds cl t
      let a := (s.ctx t.ctx).saveTasks
      let x : SavedTask :=
        { addr := t.saveAddr, ctx := t.ctx, cl := cl, qcl := t.qcl, q := t.q, pos := t.pos, plan := t.plan, ev := t.ev,
          dups := t.dups, staged := (t.staged.map (·.nans)).sum, nans := (s.core cl site).openNans,
          sums := (s.core cl site).openSums (s.madeRings cl site t) }
      let s := (s.unrefMoves (t.moves ++ t.commitMoves)).leaveCore cl site
      if !now then s
      else
        (s.modLease cl t.q t.plan t.pos (fun l => { l with state := .saved })).modCtx t.ctx (fun k => { k with
          saveTasks := a ++ [x] })

/-- TASK_SAVE_DONE (R481). -/
def execTaskSaveDone (core : CoreId) (s : State) : Host.Outcome State Fault Refusal :=
  .next (s.taskSaveDone core.c core.s)

/-! ### PREEMPT (R478, R479, R613, R617) -/

/-- Offset in the save area of the first task save record. -/
def saveTasksOff : Nat := 0x200000

/-- A running context begins its pre-emption; a commit in progress ends FAILED (R617). -/
def State.beginPreempt (s : State) (c : Nat) : State :=
  let s := (s.setObj (kCtx c 1) 2).modCtx c (fun k => { k with
    saveFailed := false, saveNext := s.obj (kCtx c 4) + saveTasksOff, saveTasks := [], tagsLost := false })
  if s.obj (kCommit c 5) = 1 then s.commitFail c else s

/-- A write of PREEMPT and its status: refused in a hold (R647). -/
def State.preempt (s : State) (c : Nat) (v : Bool) : State × Nat :=
  if !v then (s, stOk)
  else if s.ctxState c ≠ 1 || s.moduleState = 4 then (s, stState)
  else (s.beginPreempt c, stOk)

/-- PREEMPT (R478). -/
def execPreempt (ctx : Fin 64) (v : Bool) (s : State) : Host.Outcome State Fault Refusal :=
  .next (written (s.preempt ctx.val v))

/-! ### The context save (R482) -/

/-- Whether a task of a context stands on a core. -/
def State.ctxOnCores (s : State) (c : Nat) : Bool :=
  s.cores.any (fun p => match p.2.task with
    | some t => t.ctx = c
    | none => false)

/-- Queues bound to a context, as cluster and number. -/
def State.boundQueues (s : State) (c : Nat) : List (Nat × Nat) :=
  ((List.range 192).map (fun i => (i / 16, i % 16))).filter (fun p => s.qCtx p.1 p.2 = c)

/-- A queue record, as 8-byte numbers (R482); `again` gives its positions to re-issue. -/
def State.queueRec (s : State) (cl q : Nat) (again : List Nat) : List Nat :=
  [cl, q, s.qPrio cl q, s.qRing cl q, s.obj (kQ cl q 4), s.qCompl cl q, s.qNext cl q,
    s.qLimit cl q + b2n (s.qExhausted cl q) * 2 ^ 31, again.length] ++ again

/-- The tags of a context as 8-byte numbers, two in each; those of a cluster that cannot be read are 0 (R613). -/
def State.tagWords (s : State) (c : Nat) : List Nat :=
  (List.range 6144).map (fun i =>
    if s.clServes (tagCl (2 * i)) then s.tag c (2 * i) + s.tag c (2 * i + 1) * 2 ^ 32 else 0)

/-- Positions of a queue or plan to re-issue from a cluster: those of EXPIRED leases, which stand in its re-issue list, and
those of RUNNING ones that no core holds any more (R480, R482). -/
def State.toReissue (s : State) (cl : Nat) (q : Nat) (plan : Option Nat) (again : List Nat) : List Nat :=
  (again ++ ((s.leases cl).filter (fun l => l.valid && l.queue = q && l.plan = plan && l.state = .running)).map (·.pos)).eraseDups

/-- A number as `n` 8-byte numbers. -/
def words64 (n v : Nat) : List Nat := (List.range n).map (fun i => fld v (64 * i + 63) (64 * i))

/-- The counters and cursors of a plan, and what it is walked by, as 8-byte numbers. -/
def State.planRec (s : State) (p : Plan) : List Nat :=
  [p.cl, p.q, p.pos, p.nextChunk, p.codes.length] ++ p.codes ++
  [p.dups, p.ev.inexact, p.ev.overflow, p.ev.nanCreated, p.ev.saturated, p.parts.length] ++
  p.parts.flatMap (fun x =>
    let again := s.toReissue x.1 p.q (some p.id) x.2.reissue
    [x.1, (match x.2.chunk with
      | some n => n + 1
      | none => 0), x.2.next, x.2.limit, again.length] ++ again) ++
  words64 16 p.desc ++ words64 16 p.record ++ [p.step, b2n p.key.isSome] ++ words64 4 (p.key.elim 0 (·.toNat)) ++
  [p.tmpl.length] ++ p.tmpl.flatMap (words64 4)

/-- A saved task beside its record, as 8-byte numbers: the record's offset, whose task it is, and what the record has no
place for. -/
def SavedTask.nums (x : SavedTask) (base : Nat) : List Nat :=
  [x.addr - base, x.cl, x.qcl, x.q, x.pos, b2n x.plan.isSome, x.ev.inexact, x.ev.overflow, x.ev.nanCreated,
    x.ev.saturated, x.dups, x.staged, x.nans.length] ++ x.nans ++ [x.sums.length] ++
  x.sums.flatMap (fun y => [y.1, y.2.1, y.2.2.length] ++ y.2.2)

/-- A group state as a number. -/
def groupStateNat : GroupState → Nat
  | .open_ => 0
  | .switched => 1
  | .closed => 2

/-- An open group with its dynamic state, as 8-byte numbers. -/
def groupRec (g : SplitGroup) : List Nat :=
  [g.id] ++ (List.range 8).map (fun i => fld g.record (64 * i + 63) (64 * i)) ++
  [groupStateNat g.state + 4 * b2n g.switched, g.fromStep, (match g.maxStep with
    | some m => m + 1
    | none => 0), g.remaining, g.seq, g.fbSlot, g.fbVersion]

/-- The groups of a context that are not closed. -/
def State.openGroups (s : State) (c : Nat) : List SplitGroup := s.disp.groups.filter (fun g => g.ctx = c && g.live)

/-- The header of a save area (R482, R613); the size of the sections stands at bytes 48 to 55, and their offset at bytes
56 to 63. -/
def State.saveHeader (s : State) (c nq nt ng total sect off : Nat) (lost : Bool) : List Byte :=
  toLE 1 1 ++ toLE 1 c ++ toLE 2 nq ++ toLE 4 nt ++ toLE 8 (s.obj (kSeed c 7)) ++ toLE 8 (s.stepNow c) ++ toLE 8 total ++
  toLE 4 ng ++ toLE 4 (s.logSeq c) ++ toLE 8 (b2n lost) ++ toLE 8 sect ++ toLE 8 off ++ toLE 192 0

/-- What a save area holds beside its task save records: the header, the other sections, their offset, and the area's
size. -/
structure SaveArea where
  hdr : List Byte
  body : List Byte
  off : Nat
  total : Nat

/-- The save area of a context (R482). The sections follow the header; where they would reach into the task save records
they follow those. -/
def State.areaBytes (s : State) (c : Nat) : SaveArea :=
  let k := s.ctx c
  let qs := s.boundQueues c
  let ps := s.disp.plans.filter (fun p => p.ctx = c)
  let gs := s.openGroups c
  let base := s.obj (kCtx c 4)
  let body := (qs.flatMap (fun p => s.queueRec p.1 p.2 (s.toReissue p.1 p.2 none (s.queue p.1 p.2).reissue)) ++ s.tagWords c ++
    [ps.length] ++ ps.flatMap s.planRec ++ gs.flatMap groupRec ++
    k.saveTasks.flatMap (fun x => x.nums base)).flatMap (toLE 8)
  let lost := k.tagsLost || (List.range 12).any (fun cl => !s.clServes cl)
  let off := if 256 + body.length ≤ saveTasksOff then 256 else k.saveNext - base
  let total := max (off + body.length) (if k.saveTasks.isEmpty then 0 else k.saveNext - base)
  ⟨s.saveHeader c qs.length k.saveTasks.length gs.length total body.length off lost, body, off, total⟩

/-- An area's bytes are written and the context reads SAVED, or the save has failed (R482, R483). -/
def State.writeArea (s : State) (c : Nat) (area : SaveArea) : State :=
  let base := s.obj (kCtx c 4)
  match s.writeVa (s.accOf c) base area.hdr with
  | .error _ => s.saveFail c base area.hdr.length
  | .ok s => match s.writeVa (s.accOf c) (base + area.off) area.body with
    | .error _ => s.saveFail c (base + area.off) area.body.length
    | .ok s => ((s.setObj (kCtx c 5) area.total).setObj (kCtx c 1) 3).event 0x32 0 c area.total 0

/-- SAVE_AREA_COMPLETE: once every task of a PREEMPTING context has left the cores, the device dispatcher writes the
area, and the context reads SAVED (R482). A lease whose core was fenced before its save stays RUNNING, its position in the
area's re-issue list (R480). -/
def State.saveArea (s : State) (c : Nat) : State :=
  if s.ctxState c ≠ 2 || (s.ctx c).saveFailed || s.ctxOnCores c then s
  else s.writeArea c (s.areaBytes c)

/-- SAVE_AREA_COMPLETE (R482). -/
def execSaveAreaComplete (ctx : Fin 64) (s : State) : Host.Outcome State Fault Refusal := .next (s.saveArea ctx.val)

end Sys2Proof.Machine
end

