-- ==== Sys2Proof/Machine/Restore.lean ====
section
/-! DEFINITION. Restore of a context (R484 to R487), the resumption of a saved task, and a program's load and unload (R10,
R456, R476, R478, R508, R629). -/

namespace Sys2Proof.Machine

/-! ### Reading the area (R482, R484) -/

/-- What a restore reads of one queue record. -/
structure QueueRec where
  cl : Nat
  q : Nat
  prio : Nat
  ring : Nat
  log2 : Nat
  compl : Nat
  next : Nat
  limit : Nat
  again : List Nat
  deriving DecidableEq, Repr

/-- `n` queue records at the front of a list of numbers, and what follows them. -/
def takeQueues : Nat → List Nat → List QueueRec × List Nat
  | 0, l => ([], l)
  | n + 1, l =>
    let g := nth 0 l
    let k := g 8
    let r := takeQueues n (l.drop (9 + k))
    (⟨g 0 % 12, g 1 % 16, g 2, g 3, g 4, g 5, g 6, g 7, (l.drop 9).take k⟩ :: r.1, r.2)

/-- Place the cursors of `n` plan parts from a list of numbers. -/
def takeParts : Nat → List Nat → NMap PlanCl × List Nat
  | 0, l => ([], l)
  | n + 1, l =>
    let g := nth 0 l
    let r := takeParts n (l.drop (5 + g 4))
    let x : PlanCl :=
      { chunk := if g 1 = 0 then none else some (g 1 - 1), next := g 2, limit := g 3, bufs := [],
        reissue := (l.drop 5).take (g 4), saved := [] }
    (nset PlanCl.empty r.1 (g 0) x, r.2)

/-- The number that `n` 8-byte numbers spell. -/
def nat64 (l : List Nat) : Nat := leNat (l.flatMap (toLE 8))

/-- One plan of a context from a list of numbers, as a plan that holds no references yet, and what follows it. -/
def takePlan (c : Nat) (l : List Nat) : Plan × List Nat :=
  let g := nth 0 l
  let k := g 4
  let m := l.drop (5 + k)
  let h := nth 0 m
  let r := takeParts (h 5) (m.drop 6)
  let x := r.2
  let n := nth 0 x 38
  ({ id := 0, cl := g 0 % 12, q := g 1 % 16, pos := g 2, ctx := c, desc := nat64 (x.take 16),
     record := nat64 ((x.drop 16).take 16), tmpl := (chunks 4 ((x.drop 39).take (4 * n))).map nat64, nextChunk := g 3,
     parts := r.1, codes := (l.drop 5).take k, dups := h 0, ev := ⟨h 1, h 2, h 3, h 4⟩, xlat := none, bound := none,
     step := nth 0 x 32,
     key := if nth 0 x 33 = 1 then some (BitVec.ofNat 256 (nat64 ((x.drop 34).take 4))) else none }, x.drop (39 + 4 * n))

/-- R508: a restored plan whose weight version is not here. -/
def Plan.lost (p : Plan) : Bool := p.bound.isNone && (dBound p.desc).isSome

/-- A saved plan takes its place: the plan of its queue goes on from the saved cursors and counters, or it is walked anew
under the current bank and its weight version. A version that is not here ends it with VERSION: nothing more of it is served (R508). -/
def State.placePlan (s : State) (p : Plan) : State :=
  let s := s.modQueue p.cl p.q (fun x => { x with open_ := p.pos :: x.open_ })
  match s.disp.plans.find? (fun x => x.ctx = p.ctx && x.cl = p.cl && x.q = p.q) with
  | some x => (s.modPlan x.id (fun x => { x with
      nextChunk := p.nextChunk, codes := p.codes, dups := p.dups, ev := p.ev, parts := p.parts })).shown x.id
  | none =>
    let xl := match s.xlatTag p.ctx with
      | .ok x => some x
      | .error _ => none
    let p := { p with id := s.disp.nextPlan, xlat := xl }
    match s.boundCodes p.desc with
    | [] => s.openPlan { p with bound := dBound p.desc }
    | l => s.openPlan { p with
        codes := p.codes ++ l, nextChunk := p.chunks, bound := none,
        parts := p.parts.map (fun (x : Nat × PlanCl) => (x.1, { x.2 with next := x.2.limit, reissue := [], saved := [] })) }

/-- R484: `n` plans of a context take their places. -/
def State.takePlans (s : State) (c : Nat) : Nat → List Nat → State × List Nat
  | 0, l => (s, l)
  | n + 1, l =>
    let r := takePlan c l
    State.takePlans (s.placePlan r.1) c n r.2

/-- The states of a group by number. -/
def groupStateOf (n : Nat) : GroupState := if n = 0 then .open_ else if n = 1 then .switched else .closed

/-- `n` groups of a context from a list of numbers. -/
def takeGroups (c : Nat) : Nat → List Nat → List SplitGroup × List Nat
  | 0, l => ([], l)
  | n + 1, l =>
    let g := nth 0 l
    let r := takeGroups c n (l.drop 16)
    ({ ctx := c, id := g 0, record := leNat (((l.drop 1).take 8).flatMap (toLE 8)), state := groupStateOf (g 9 % 4),
       fromStep := g 10, maxStep := if g 11 = 0 then none else some (g 11 - 1), remaining := g 12, seq := g 13,
       switched := g 9 / 4 % 2 = 1, fbSlot := g 14, fbVersion := g 15, since := 0 } :: r.1, r.2)

/-- A queue takes its record: it is bound to the context with its NEXT and LIMIT and its positions to re-issue, which are
open (R453). -/
def State.takeQueue (s : State) (c : Nat) (r : QueueRec) : State :=
  let s := ((((s.setObj (kQ r.cl r.q 1) c).setObj (kQ r.cl r.q 2) r.prio).setObj (kQ r.cl r.q 3) r.ring).setObj
    (kQ r.cl r.q 4) r.log2).setObj (kQ r.cl r.q 5) r.compl
  (s.setRelay r.cl r.q r.next (r.limit % 2 ^ 31) (bitAt r.limit 31)).modQueue r.cl r.q (fun x =>
    { x with reissue := r.again, saved := [], open_ := r.again })

/-- The tags of a context take values given two to a number. -/
def State.setTags (s : State) (c : Nat) (l : List Nat) : State :=
  (List.range 6144).foldl (fun s i =>
    let w := nth 0 l i
    (s.putWord (tagPa c (2 * i)) 4 (w % 2 ^ 32)).putWord (tagPa c (2 * i + 1)) 4 (w / 2 ^ 32 % 2 ^ 32)) s

/-- The groups of a context are replaced; one that goes on keeps its number. -/
def State.setGroups (s : State) (c : Nat) (l : List SplitGroup) : State :=
  let since := fun (g : SplitGroup) => match s.group c g.id with
    | some o => if o.live then o.since else s.disp.nextUid
    | none => s.disp.nextUid
  ({ s with disp := { s.disp with
      groups := l.map (fun g => { g with since := since g }) ++ s.disp.groups.filter (fun g => !(g.ctx = c && g.live)) } } :
    State).countGroups

/-- R484: a saved task awaits restore: in its queue, where its position is open (R453), or in its plan at the cluster that
served it; one of a plan that has lost its weight version does not (R508). -/
def State.joinSaved (s : State) (st : SavedTask) (tile : Bool) : State :=
  if tile then
    match s.disp.plans.find? (fun p => p.ctx = st.ctx && p.cl = st.qcl && p.q = st.q) with
    | some p =>
      if p.lost then s
      else s.modPlan p.id (fun p => p.modPart st.cl (fun x => { x with saved := x.saved ++ [{ st with plan := some p.id }] }))
    | none => s
  else s.modQueue st.qcl st.q (fun x => { x with saved := x.saved ++ [st], open_ := x.open_ ++ [st.pos] })

/-- `n` slabs' CRC values from a list of numbers. -/
def takeSums : Nat → List Nat → List (Nat × Nat × List Nat) × List Nat
  | 0, l => ([], l)
  | n + 1, l =>
    let g := nth 0 l
    let r := takeSums n (l.drop (3 + g 2))
    ((g 0 % 16, g 1, (l.drop 3).take (g 2)) :: r.1, r.2)

/-- `n` saved tasks of a context from a list of numbers await restore. -/
def State.takeSaved (s : State) (c base : Nat) : Nat → List Nat → State
  | 0, _ => s
  | n + 1, l =>
    let g := nth 0 l
    let m := l.drop (13 + g 12)
    let z := takeSums (nth 0 m 0) (m.drop 1)
    let st : SavedTask :=
      { addr := base + g 0, ctx := c, cl := g 1 % 12, qcl := g 2 % 12, q := g 3 % 16, pos := g 4, plan := none,
        ev := ⟨g 6, g 7, g 8, g 9⟩, dups := g 10, staged := g 11, nans := (l.drop 13).take (g 12), sums := z.1 }
    State.takeSaved (s.joinSaved st (g 5 = 1)) c base n z.2

/-- The plans of a context that have nothing left to do end. -/
def State.checkPlans (s : State) (c : Nat) : State :=
  ((s.disp.plans.filter (fun p => p.ctx = c)).map (·.id)).foldl (fun s id => s.planCheck id) s

/-- R484: the area at SAVE_ADDR is read and applied; none where the restore is refused (R484, R613). -/
def State.restoreArea (s : State) (c : Nat) : Option State :=
  let base := s.obj (kCtx c 4)
  let acc := s.accOf c
  match s.readVa acc base 256 with
  | .error _ => none
  | .ok h =>
    let rd := fun (o n : Nat) => leNat ((h.drop o).take n)
    if rd 0 1 ≠ 1 || rd 40 1 % 2 = 1 then none
    else match s.readVa acc (base + rd 56 8) (rd 48 8) with
      | .error _ => none
      | .ok body =>
        let l := (chunks 8 body).map leNat
        let qs := takeQueues (rd 2 2) l
        if qs.1.any (fun r => s.qCtx r.cl r.q ≠ c && s.qCtx r.cl r.q ≠ 0xFF) then none
        else
          let s := qs.1.foldl (fun s r => s.takeQueue c r) s
          let s := s.setTags c (qs.2.take 6144)
          let m := qs.2.drop 6144
          let ps := s.takePlans c (nth 0 m 0) (m.drop 1)
          let gs := takeGroups c (rd 32 4) ps.2
          let s := ps.1.setGroups c gs.1
          let s := (s.setObj (kCtx c 9) (rd 36 4)).setObj (kSeed c 4) (rd 16 8)
          some ((s.takeSaved c base (rd 4 4) gs.2).checkPlans c)

/-- A write of RESTORE and its status. -/
def State.restore (s : State) (c : Nat) (v : Bool) : State × Nat :=
  if !v then (s, stOk)
  else if s.ctxState c ≠ 3 || s.moduleState = 4 then (s, stState)
  else match s.restoreArea c with
    | none => (s, stState)
    | some s => (s.setObj (kCtx c 1) 4, stOk)

/-- RESTORE (R484). -/
def execRestore (ctx : Fin 64) (v : Bool) (s : State) : Host.Outcome State Fault Refusal :=
  .next (written (s.restore ctx.val v))

/-- RESTORE_COMPLETE: the area has been read back, and the context reads RUNNING (R485). -/
def State.restoreDone (s : State) (c : Nat) : State :=
  if s.ctxState c ≠ 4 then s else (s.setObj (kCtx c 1) 1).modCtx c (fun k => { k with loadedAt := s.timeNs })

/-- RESTORE_COMPLETE (R485). -/
def execRestoreComplete (ctx : Fin 64) (s : State) : Host.Outcome State Fault Refusal := .next (s.restoreDone ctx.val)

/-! ### The resumption of a task (R486) -/

/-- The markers that a matrix command leaves for its task (R97, R240). -/
def tileDones (c : CoreSt) (w bind : Nat) : List StagedDone :=
  (if cNode w then [⟨cGen w, cRed w, cLeafA w, cLeafB w⟩] else []) ++ spillDone c w bind

/-- The sub-tiles of a command in drain order. -/
def Tile.drainOrder (ti : Tile) : List (Nat × Nat) :=
  (List.range ti.count).filterMap (fun k =>
    ((List.range (cM ti.schuss ti.cmd)).flatMap (fun mi => (List.range (cN ti.cmd)).map (fun ni => (mi, ni)))).find?
      (fun p => drainIndex ti.schuss ti.cmd p.1 p.2 = k))

/-- The sub-tiles that a command has drained by its place in the order, as their longest prefix in drain order. -/
def Tile.drainedBy (ti : Tile) : List (Nat × Nat) :=
  ti.drainOrder.takeWhile (fun p => !ti.inExt p.1 p.2 || !ti.coming.any (fun x => x.mi = p.1 && x.ni = p.2))

/-- The contributions staged by the drained sub-tiles of a NODE command. -/
def tileStaged (ti : Tile) (l : List (Nat × Nat)) : List Staged :=
  if !cNode ti.cmd then []
  else (l.filter (fun p => ti.inExt p.1 p.2)).flatMap (fun p => nodeStaged ti (SubTile.fresh p.1 p.2 0))

/-- A matrix command is taken up again with what it left for its task, or the code of a read it makes. -/
def State.againTile (s : State) (cl site : Nat) (t : Task) (sch : Bool) (w : Nat) : Except Nat State :=
  match s.readBinding t w with
  | .error e => .error e
  | .ok bind =>
    match (match (if t.isProduct then t.glide else none) with
        | some r => s.productStart (s.core cl site) t r w
        | none => .ok (false, [], [])) with
    | .error e => .error e
    | .ok g =>
      let c := s.core cl site
      let b := bind.getD 0
      let ds := tileDones c w b
      .ok ((s.setCore cl site (c.addTile t sch w b g.2.1)).startCmd cl site w (fun t => { t with
        dones := t.dones ++ ds, gDone := true, gFull := g.1, gStamps := g.2.2 }))

/-- R486 step 4: one command before CMD_INDEX is re-executed: ring entries and ring-filling MOVEs again, and what the
others left for the task's commit. -/
def State.againCmd (s : State) (cl site : Nat) : State :=
  match s.liveTask cl site with
  | none => s
  | some t =>
    match s.fetchCmd t t.cmdIndex with
    | .error e => s.taskFail cl site e
    | .ok w =>
      let o := fld w 255 248
      if o = 2 then
        (s.modCore cl site (fun c => c.modRing (fld w 247 244) (fun _ => { Ring.empty with entry := fld w 127 64 }))).startCmd
          cl site w id
      else if o = 4 then
        s.startCmd cl site w (fun t => { t with signals := t.signals ++ [(fld w 247 232, fld w 223 192)] })
      else if o = 5 then
        match s.mvDesc cl site t w with
        | .error e => s.taskFail cl site e
        | .ok (d, phys, turned) =>
          match s.issueMv t d with
          | .error e => s.taskFail cl site e
          | .ok (s, mv) => s.queueMv cl site w { mv with phys := phys, turned := turned, again := !mvAtCommit d }
      else if o = 0x10 || o = 0x11 then
        match s.againTile cl site t (o = 0x11) w with
        | .error e => s.taskFail cl site e
        | .ok s =>
          let st := (s.core cl site).tiles.flatMap (fun ti => tileStaged ti ti.drainOrder)
          (s.modCore cl site (fun c => { c with tiles := [], group := none, older := [] })).modTask cl site (fun t => { t with
            staged := t.staged ++ st })
      else s.startCmd cl site w id

/-- The live buffer entries of a record with their data, or the code of a read. -/
def State.readLive (s : State) (acc : Acc) (addr n : Nat) : Except Nat (List Live) :=
  match s.readVa acc (addr + 512) (32 * n) with
  | .error e => .error e
  | .ok bs =>
    collect ((chunks 32 bs).map (fun e =>
      let rd := fun (o n : Nat) => leNat ((e.drop o).take n)
      match s.readVa acc (addr + rd 24 8) (rd 16 8) with
      | .error x => .error x
      | .ok data => .ok (⟨rd 0 1, rd 1 1, rd 2 2, rd 4 4, rd 8 4, rd 12 4, data⟩ : Live)))

/-- A stack entry of a record: `one` where it is one record of several words. -/
def Live.entry (e : Live) (one : Bool) : StackEntry :=
  let ws := (chunks 4 e.data).map leNat
  ⟨e.a, e.b, if ws.isEmpty then none else some (if one then [ws] else ws.map (fun x => [x]))⟩

/-- R486 steps 1 to 3: a ring takes its saved entry, counters and live slabs, among those that the walk of the command
list has left in `old`. -/
def restoreRing (old : Ring) (i entry filled freed : Nat) (lv : List Live) (sums : List (Nat × Nat × List Nat)) : Ring :=
  let mine := lv.filter (fun e => e.kind = 2 && e.ring = i)
  let full := mine.any (fun e => !e.data.isEmpty) || old.nextFill = 0
  let f := if full then filled else freed
  { entry := entry, filled := f, freed := freed, released := (mine.filter (fun e => e.data.isEmpty)).map (·.slab),
    nextFill := if serialGe old.nextFill f then old.nextFill else f, nextRead := freed,
    sums := (sums.filter (fun x => x.1 = i)).foldl (fun m x => nset [] m x.2.1 x.2.2) [] }

/-- The rings and slabs of a record on a core. -/
def CoreSt.restoreRings (c : CoreSt) (head : List Byte) (lv : List Live) (sums : List (Nat × Nat × List Nat)) : CoreSt :=
  let rd := fun (o n : Nat) => leNat ((head.drop o).take n)
  let c := (List.range 16).foldl (fun (c : CoreSt) i =>
    c.modRing i (fun r => restoreRing r i (rd (192 + 16 * i) 8) (rd (200 + 16 * i) 4) (rd (204 + 16 * i) 4) lv sums)) c
  lv.foldl (fun (c : CoreSt) e => if e.kind = 2 then c.wr ((c.ring e.ring).slabAddr e.slab) e.data else c) c

/-- Slabs at the front of a command's that it has released: `last` marks the places that release, `idx` numbers them. -/
def releasedFront (ti : Tile) (last : MmaPos → Bool) (idx : MmaPos → Nat) : Nat :=
  let ks := (((List.range ti.issued).map (mmaAt ti.schuss ti.cmd)).filter last).map idx
  ((List.range (ks.length + 1)).takeWhile ks.contains).length

/-- The generators of a command that had done `k` units of its work took their first slabs before those that its rings now
read (R217, R486). -/
def CoreSt.backGens (c : CoreSt) (b : Nat) (l : List GenUse) (k : Nat) : CoreSt × List GenUse :=
  (l.foldl (fun (c : CoreSt) g => c.modRing (agRing (bAg b g.gen)) (fun r =>
      { r with nextRead := (r.nextRead + 2 ^ 32 - k) % 2 ^ 32 })) c,
    l.map (fun g => { g with first := (g.first + 2 ^ 32 - k * genStride b l g) % 2 ^ 32 }))

/-- R486: the command at CMD_INDEX stands again at its yield point: its slab numbers follow from the ring counters, its
stacks from the record, and what it had drained from its place in the order. -/
def CoreSt.placeTile (c : CoreSt) (ti : Tile) (step : Nat) (lv : List Live) (nans : List Nat) : CoreSt :=
  let w := ti.cmd
  let sch := ti.schuss
  let ti := { ti with issued := step * stepLen sch w, reserved := true }
  let y := cYpt w
  let ti := { ti with yielded := if y = 0 then 0 else ti.issued / (stepLen sch w * 2 ^ (y - 1)) }
  let kA := releasedFront ti ti.lastAct (fun p => aIndex sch w p.mi p.slice)
  let kW := releasedFront ti ti.lastW (fun p => wIndex w p.ni p.slice)
  let sub := fun (a b : Nat) => (a + 2 ^ 32 - b % 2 ^ 32) % 2 ^ 32
  let gone := ti.drainedBy
  let pro := cPro w ≠ 0xFF
  let pr := c.ring (bProRing ti.binding)
  let pBase := if pro then sub pr.freed kA else match c.product with
    | some (_, r) => (c.ring (glYRing r)).freed
    | none => 0
  let proDone := if pro then sub pr.filled pBase else 0
  let aBase := sub (c.ring (cARing w)).freed (if pro then proDone else kA)
  let wBase := sub (c.ring (cWRing w)).freed kW
  let oBase := sub (c.ring (cORing w)).filled gone.length
  let keys := ((lv.filter (fun e => e.kind = 1 && e.sub < 0x8000)).map (·.sub)).eraseDups
  let subs := ti.subs.filter (fun u => !gone.contains (u.mi, u.ni)) ++ keys.map (fun k =>
    let st := (lv.filter (fun e => e.kind = 1 && e.sub = k)).map (fun e => e.entry false)
    ({ SubTile.fresh (k / 256) (k % 256) ((st.map (·.b)).foldl max 0) with
        stack := st, nanAt := (nans.filter (fun x => x / 65536 = k)).map (· % 65536) } : SubTile))
  let sk := ((lv.filter (fun e => e.kind = 1 && 0x8000 ≤ e.sub && e.sub < 0xC000)).map (·.sub)).eraseDups
  let stats := sk.foldl (fun (m : NMap (List StackEntry)) k =>
    nset [] m (k - 0x8000) ((lv.filter (fun e => e.kind = 1 && e.sub = k)).map (fun e => e.entry true))) []
  let nA := cM sch w * cS w
  let nW := cN w * cS w
  let c := c.modRing (cWRing w) (fun r => { r with nextRead := (wBase + nW) % 2 ^ 32 })
  let c := c.modRing (cARing w) (fun r => { r with nextRead := (aBase + nA) % 2 ^ 32 })
  let c := c.modRing (cORing w) (fun r => { r with nextFill := (oBase + ti.count) % 2 ^ 32 })
  let c := if pro then c.modRing (bProRing ti.binding) (fun r =>
      { r with nextFill := (pBase + nA) % 2 ^ 32, nextRead := (pBase + nA) % 2 ^ 32 })
    else match c.product with
      | some (_, r) => c.modRing (glYRing r) (fun r => { r with nextRead := (pBase + ti.count) % 2 ^ 32 })
      | none => c
  let pg := c.backGens ti.binding ti.proGens proDone
  let eg := pg.1.backGens ti.binding ti.epiGens gone.length
  { eg.1 with tiles := [{ ti with
      proGens := pg.2, epiGens := eg.2,
      aBase := aBase, wBase := wBase, oBase := oBase, pBase := pBase, proDone := proDone, subs := subs, stats := stats,
      drained := gone.map (fun p => p.1 * 4 + p.2) }] }

/-- The statistics contributions of a record (R240). -/
def stagedOf (lv : List Live) : List Staged :=
  (lv.filter (fun e => e.kind = 1 && e.sub = 0xC000)).map (fun e =>
    let ws := (chunks 4 e.data).map leNat
    ⟨nth 0 ws 0, nth 0 ws 1, nth 0 ws 2, e.slab, e.a, e.b, .data (ws.drop 3), 0⟩)

/-- R486 step 5: a task saved at a tile yield point stands again in its command, after `step` steps. -/
def State.restoreTile (s : State) (cl site step : Nat) (lv : List Live) (nans : List Nat) : State :=
  match s.liveTask cl site with
  | none => s
  | some t =>
    if step = 0 then s
    else match s.fetchCmd t t.cmdIndex with
      | .error e => s.taskFail cl site e
      | .ok w =>
        match s.againTile cl site t (fld w 255 248 = 0x11) w with
        | .error e => s.taskFail cl site e
        | .ok s =>
          match (s.core cl site).tiles with
          | ti :: _ =>
            let s := s.modCore cl site (fun c => c.placeTile ti step lv nans)
            match (s.core cl site).tiles with
            | ti :: _ => s.modTask cl site (fun t => { t with staged := t.staged ++ tileStaged ti ti.drainedBy })
            | [] => s
          | [] => s

/-- R486 on a core that has taken the saved task: `n` commands are gone through again, the rings, slabs and stacks are
placed, a fill whose last slab had been delivered raises its tag no more, and the task stands at CMD_INDEX and
TILE_STEP. -/
def State.placeTask (s : State) (cl site : Nat) (st : SavedTask) (head : List Byte) (lv : List Live) : State :=
  let rd := fun (o n : Nat) => leNat ((head.drop o).take n)
  let n := rd 134 2
  let s := s.imageLoad cl site
  let s := s.modCore cl site (fun c => { c with rings := [] })
  let s := (List.range n).foldl (fun s _ => s.againCmd cl site) s
  let past := fun (m : Mv) =>
    let a := mDstAddr m.desc
    serialGe (rd (200 + 16 * rsRing a) 4) (rsSlab a + mvSlabs (s.core cl site) m.desc)
  let s := s.modTask cl site (fun t => { t with
    ev := st.ev, dups := st.dups, liveKib := rd 140 4, staged := t.staged ++ stagedOf lv,
    moves := t.moves.map (fun m => { m with tagged := past m }) })
  let s := s.modCore cl site (fun c => c.restoreRings head lv st.sums)
  let s := s.restoreTile cl site (rd 136 4) lv st.nans
  s.modTask cl site (fun t => { t with staged := modNth t.staged 0 (fun g => { g with nans := g.nans + st.staged }) })

/-- The lease under which a saved task resumes: its entry with LEASE_SEQ advanced, or a new one where its queue was
restored (R472). -/
def State.resumeLease (s : State) (cl q : Nat) (st : SavedTask) (head : List Byte) (cmds : List Nat) : Lease :=
  let rd := fun (o n : Nat) => leNat ((head.drop o).take n)
  match s.leaseOf cl q st.plan st.pos with
  | some l => { l with seq := (l.seq + 1) % 2 ^ 32, desc := rd 0 128, step := rd 144 8, cmds := cmds }
  | none =>
    { s.newLease cl q st.plan st.pos st.ctx (rd 0 128) cmds with
      seq := 1, step := rd 144 8, key := if rd 152 32 = 0 then none else some (BitVec.ofNat 256 (rd 152 32)) }

/-- A saved task leaves the list it waits in. -/
def State.dropSaved (s : State) (cl q : Nat) (plan : Option Nat) : State :=
  match plan with
  | some id => s.modPlan id (fun p => p.modPart cl (fun x => { x with saved := x.saved.drop 1 }))
  | none => s.modQueue cl q (fun x => { x with saved := x.saved.drop 1 })

/-- A saved task whose record cannot be read waits for re-issue instead. -/
def State.savedAgain (s : State) (cl q : Nat) (st : SavedTask) : State :=
  match s.leaseOf cl q st.plan st.pos with
  | some l => s.expireLease cl l
  | none => match st.plan with
    | some id => s.modPlan id (fun p => p.modPart cl (fun x => { x with reissue := st.pos :: x.reissue }))
    | none => s.modQueue cl q (fun x => { x with reissue := st.pos :: x.reissue })

/-- The commands of a saved task: generated again for a plan tile. -/
def State.savedCmds (s : State) (cl : Nat) (st : SavedTask) : Except Nat (List Nat) :=
  match st.plan.bind s.plan with
  | none => .ok []
  | some p =>
    match p.bufFor cl 0 (st.pos / max 1 p.per), p.bufFor cl 1 (st.pos / max 1 p.per) with
    | some a, some b => s.tileCmds p cl st.pos a.idx b.idx
    | _, _ => .error cDescriptor

/-- R508: a saved task without a lease, which takes a new reference on its version, completes with VERSION where that is
not readable here; a plan's core tile ends its plan so. -/
def State.savedStale (s : State) (cl q : Nat) (st : SavedTask) (d : Nat) : State :=
  match st.plan with
  | some id => s.planFail id cVersion
  | none => s.finishHead cl q st.pos cVersion d

/-- A core takes a saved task (R486). -/
def State.resumeTask (s : State) (cl site q : Nat) (st : SavedTask) : State :=
  let s := s.dropSaved cl q st.plan
  let acc := s.accOf st.ctx
  match s.readVa acc st.addr 512, s.savedCmds cl st with
  | .ok head, .ok cmds =>
    match s.readLive acc st.addr (leNat ((head.drop 184).take 4)) with
    | .error _ => s.savedAgain cl q st
    | .ok lv =>
      let old := s.leaseOf cl q st.plan st.pos
      let l := s.resumeLease cl q st head cmds
      if old.isNone && !(s.boundCodes l.desc).isEmpty then s.savedStale cl q st l.desc
      else
      let s := if old.isSome then s else s.bindVersion l.bound
      (s.startTask cl site (leNat ((head.drop 133).take 1)) l).placeTask cl site st head lv
  | _, _ => s.savedAgain cl q st

/-- SAVED_TASK_RESUME: an idle core takes the saved task that its cluster serves next (R464, R486). -/
def State.savedResume (s : State) (cl site : Nat) : State :=
  if !s.coreFree cl site || leaseMax ≤ ((s.leases cl).filter (·.valid)).length then s
  else match s.chooseWork cl with
    | some (q, .saved plan) =>
      match (match plan with
        | some id => ((s.plan id).map (fun p => (p.part cl).saved)).getD []
        | none => (s.queue cl q).saved) with
      | st :: _ => (s.noteServed cl q).resumeTask cl site q st
      | [] => s
    | _ => s

/-- SAVED_TASK_RESUME (R486). -/
def execSavedTaskResume (core : CoreId) (s : State) : Host.Outcome State Fault Refusal :=
  .next (s.savedResume core.c core.s)

/-! ### Load and unload (R10, R456, R476, R478, R508, R629) -/

/-- Whether a program is refused: the modes it was compiled for, its encoder model, its spacing report, its live state. -/
def State.programBad (s : State) (p : Program) : Bool :=
  b2n p.tm1Functions ≠ s.obj (kDev 0x2002 1) || b2n p.containment ≠ s.obj (kDev 0x2001 1) ||
  (match p.encModel with
    | some m => m.toNat ≠ Config.encModel.toNat
    | none => false) ||
  320000 < p.spacing || 12288 < p.liveKib

/-- PROGRAM_LOAD and its status: an IDLE context takes a program, with its tags at 0. -/
def State.programLoad (s : State) (c : Nat) (p : Program) : State × Nat :=
  if s.ctxState c ≠ 0 || s.programBad p then (s, stState)
  else
    let s := (s.setTags c []).setObj (kSeed c 7) p.hash.toNat
    let s := s.modCtx c (fun k => { k with prog := some p, work := [], loadedAt := s.timeNs, saveFailed := false,
                                           saveTasks := [], tagsLost := false })
    (s.setObj (kCtx c 1) 1, stOk)

/-- PROGRAM_LOAD (R478). -/
def execProgramLoad (ctx : Fin 64) (prog : Program) (s : State) : Host.Outcome State Fault Refusal :=
  .next (written (s.programLoad ctx.val prog))

/-- The tasks of a context leave their cores without a commit. -/
def State.dropTasks (s : State) (c : Nat) : State :=
  (List.range 96).foldl (fun s i =>
    match (s.core (i / 8) (i % 8)).task with
    | some t => if t.ctx = c then (s.unrefMoves (t.moves ++ t.commitMoves)).leaveCore (i / 8) (i % 8) else s
    | none => s) s

/-- R508: the leases of a context leave use and release their references. -/
def State.dropLeases (s : State) (c : Nat) : State :=
  (List.range 12).foldl (fun s cl =>
    let mine := (s.leases cl).filter (fun l => l.valid && l.ctx = c)
    let s := mine.foldl (fun (s : State) l => s.unbindVersion l.bound) s
    s.modLeases cl (fun t => t.map (fun l => if l.ctx = c then { l with valid := false } else l))) s

/-- The plans of a context end without a record. -/
def State.dropPlans (s : State) (c : Nat) : State :=
  let s := (s.disp.plans.filter (fun p => p.ctx = c)).foldl
    (fun (s : State) p => (s.unbindVersion p.bound).unrefTable p.xlat) s
  { s with disp := { s.disp with plans := s.disp.plans.filter (fun p => p.ctx ≠ c) } }

/-- The queues of a context hold nothing any more: a position that was submitted is not taken. -/
def State.dropQueues (s : State) (c : Nat) : State :=
  (s.boundQueues c).foldl (fun (s : State) p =>
    (s.modQueue p.1 p.2 (fun _ => Queue.empty)).setRelay p.1 p.2 (s.qLimit p.1 p.2) (s.qLimit p.1 p.2)
      (s.qExhausted p.1 p.2)) s

/-- PROGRAM_UNLOAD and its status: a SAVED context, or one whose save failed, is IDLE and holds nothing. -/
def State.programUnload (s : State) (c : Nat) : State × Nat :=
  if s.ctxState c ≠ 3 && !(s.ctxState c = 2 && (s.ctx c).saveFailed) then (s, stState)
  else
    let s := (((s.dropTasks c).dropLeases c).dropPlans c).dropQueues c
    let s := s.setGroups c []
    let s := s.modCtx c (fun k => { k with prog := none, work := [], saveFailed := false, saveTasks := [] })
    (s.setObj (kCtx c 1) 0, stOk)

/-- PROGRAM_UNLOAD (R478). -/
def execProgramUnload (ctx : Fin 64) (s : State) : Host.Outcome State Fault Refusal :=
  .next (written (s.programUnload ctx.val))

end Sys2Proof.Machine
end

