-- ==== Sys2Proof/Machine/Seeds.lean ====
section
/-! DEFINITION. Seed keys and step counters (R401 to R406). -/

namespace Sys2Proof.Machine

/-- KEY_VALID of a context's keys (R406). -/
def keyValid (ks : List (Option (BitVec 256))) : Nat :=
  ((List.range 8).map (fun i => b2n (nth none ks i).isSome * 2 ^ i)).sum

/-- A slot takes a key or is emptied: KEY_VALID and its KEY_CHECK follow (R401, R406). -/
def State.putKey (s : State) (c slot : Nat) (k : Option (BitVec 256)) : State :=
  let s := s.modCtx c (fun x => { x with keys := setNth x.keys slot k })
  (s.setObj (kSeed c 8) (keyValid (s.ctx c).keys)).setObj (kSeed c (0x18 + slot)) (match k with
    | some k => (keyCheck k).toNat
    | none => 0)

/-- R403: an in-flight task of the context uses the slot. -/
def State.slotInUse (s : State) (c slot : Nat) : Bool :=
  (List.range 12).any (fun cl => (s.leases cl).any (fun l => l.valid && l.ctx = c && dSeed l.desc = slot)) ||
  s.disp.plans.any (fun p => p.ctx = c && dSeed p.desc = slot)

/-- A write of SEED_KEY and its status. -/
def State.writeKey (s : State) (c slot : Nat) (k : BitVec 256) : State × Nat :=
  if s.slotInUse c slot then (s, stState) else (s.putKey c slot (some k), stOk)

/-- SEED_KEY (R403). -/
def execSeedKey (ctx : Fin 64) (slot : Fin 8) (key : BitVec 256) (s : State) : Host.Outcome State Fault Refusal :=
  .next (written (s.writeKey ctx.val slot.val key))

/-- The largest step counter. -/
def stepTop : Nat := 2 ^ 64 - 1

/-- R405: an advance of the step counter; at its limit it stays, and STEP_SATURATED is set and logged. -/
def State.advanceStep (s : State) (c : Nat) : State :=
  let n := s.stepNow c
  if n = stepTop then (s.setObj (kSeed c 6) 1).event 0x30 2 c 0 0 else s.setObj (kSeed c 4) (n + 1)

/-- STEP_ADVANCE (R405). -/
def execStepAdvance (ctx : Fin 64) (v : Bool) (s : State) : Host.Outcome State Fault Refusal :=
  .next (if v then s.advanceStep ctx.val else s)

/-- R405: a write of the step counter; a smaller value than the largest clears STEP_SATURATED. -/
def State.setStep (s : State) (c v : Nat) : State :=
  let s := s.setObj (kSeed c 4) v
  if v < stepTop then s.setObj (kSeed c 6) 0 else s

/-- STEP_COUNTER (R404). -/
def execStepCounter (ctx : Fin 64) (v : BitVec 64) (s : State) : Host.Outcome State Fault Refusal :=
  .next (s.setStep ctx.val v.toNat)

end Sys2Proof.Machine
end

