-- ==== Sys2Proof/Machine/CtxCommit.lean ====
section
/-! DEFINITION. Commits of a context and their restore (R617 to R620, R623). -/

namespace Sys2Proof.Machine

/-- COMMIT_STATE of a context (R632). -/
def State.commitState (s : State) (c : Nat) : Nat := s.obj (kCommit c 5)

/-- A write of COMMIT and its status (R617); refused in a hold (R647). -/
def State.beginCommit (s : State) (c : Nat) (v : Bool) : State × Nat :=
  if !v then (s, stOk)
  else if s.ctxState c ≠ 1 || s.commitState c = 1 || s.moduleState = 4 then (s, stState)
  else ((s.setObj (kCommit c 5) 1).modCtx c (fun k => { k with commitStage := 0, commitHdr := [], commitFailed := false }), stOk)

/-- COMMIT (R617). -/
def execCommit (ctx : Fin 64) (v : Bool) (s : State) : Host.Outcome State Fault Refusal :=
  .next (written (s.beginCommit ctx.val v))

/-! ### The record (R618) -/

/-- Largest record. -/
def commitMax : Nat := 0x10000000

/-- The extra regions of a context: address and bytes. -/
def State.extras (s : State) (c : Nat) : List (Nat × Nat) :=
  ((List.range 8).map (fun i => s.obj (kCommit c (0x10 + i)))).filterMap (fun v =>
    if v = 0 then none else some (fld v 63 16, fld v 15 0 * 0x100000))

/-- A section, padded to a 4 KiB boundary. -/
def padSection (l : List Byte) : List Byte := l ++ List.replicate (roundUp l.length 4096 - l.length) 0

/-- The pinned PREVIOUS version of a slot, 0 where there is none. -/
def State.pinnedPrevious (s : State) (sl : Nat) : Nat :=
  match [0, 1, 2].find? (fun e => s.eState sl e = ePrevious && (s.entry sl e).pins ≠ 0) with
  | some e => s.eVersion sl e
  | none => 0

/-- The last `n` decision records, as the log holds them. -/
def State.decisions (s : State) (c n : Nat) : List Byte :=
  (List.range n).flatMap (fun i =>
    match s.readVa (s.accOf c) (s.logAddr c (s.logSeq c + 2 ^ 32 - n + i)) 64 with
    | .ok l => l
    | .error _ => List.replicate 64 0)

/-- The queue records, tags, open groups and last `n` decision records of a context. -/
def State.sections (s : State) (c n : Nat) : List Byte :=
  let gs := s.openGroups c
  padSection (((s.boundQueues c).flatMap (fun p => s.queueRec p.1 p.2 [])).flatMap (toLE 8)) ++
  padSection ((s.tagWords c).flatMap (toLE 8)) ++
  padSection (([gs.length] ++ gs.flatMap groupRec).flatMap (toLE 8)) ++
  padSection (s.decisions c n)

/-- The sections of a record after its header, or the code of a read of an extra region. -/
def State.commitBody (s : State) (c : Nat) : Except Nat (List Byte) :=
  match collect ((s.extras c).map (fun e => s.readVa (s.accOf c) e.1 e.2)) with
  | .error e => .error e
  | .ok xs =>
    .ok (s.sections c (s.logHeld c) ++
      padSection ((s.extras c).flatMap (fun e => toLE 8 e.1 ++ toLE 8 e.2)) ++
      xs.flatMap padSection)

/-- The header of a record of `total` bytes, with its number and its count of extra regions. -/
def State.commitHeader (s : State) (c total seq extras : Nat) : List Byte :=
  let k := s.ctx c
  let h := toLE 1 1 ++ toLE 1 c ++ toLE 2 (s.boundQueues c).length ++ toLE 4 seq ++ toLE 8 (s.obj (kSeed c 7)) ++
    toLE 8 (s.stepNow c) ++ toLE 8 (total + s.obj (kSeed c 6) % 2 * 2 ^ 63) ++ toLE 4 s.ownId ++ toLE 4 (s.logSeq c) ++
    toLE 4 (s.logConsumed c) ++ toLE 1 (keyValid k.keys) ++ toLE 1 extras ++ toLE 2 0 ++ toLE 8 s.timeNs ++
    (List.range 8).flatMap (fun i => toLE 32 (match nth none k.keys i with
      | some x => x.toNat
      | none => 0)) ++
    (List.range 8).flatMap (fun i => toLE 4 (s.obj (kSlot i 2)) ++ toLE 4 (s.pinnedPrevious i)) ++ toLE 3716 0
  h ++ toLE 4 (crc32c h)

/-! ### Writing the copies (R619) -/

/-- R619: whole blocks of a context's memory are written and sealed by the mover, or the code of the writing. -/
def State.writeBlocks (s : State) (c va : Nat) (bs : List Byte) : Except Nat State :=
  let acc := s.accOf c
  if va % 4096 ≠ 0 then .error cDescriptor
  else match collect ((List.range (bs.length / 4096)).map (fun i => s.trans acc (va + 4096 * i) 4096 true)) with
    | .error e => .error e
    | .ok ps =>
      let pas := ps.map (fun l => (l.headD (0, 0)).1)
      if pas.any (fun a => !inData a) then .error cDescriptor
      else .ok ((pas.zip (chunks 4096 bs)).foldl (fun (s : State) (x : Nat × List Byte) =>
        s.writeSealed (x.1 / 4096) x.2 1 c 0 (s.stepNow c)) s)

/-- Slot in a record area of the commit in progress. -/
def Ctx.slotOff (k : Ctx) : Nat := k.commitNext % 2 * commitMax

/-- REPLICA_DST of a copy. -/
def State.replica (s : State) (c k : Nat) : Nat := s.obj (kCommit c (3 + k))

/-- Blocks of a copy leave as one remote MOVE's WRITE packets (R553); a commit whose packets cannot leave has failed.
`mark` is the copy, plus 2 for its header. -/
def State.sendCopyTo (s : State) (c mark addr : Nat) (bs : List Byte) : State :=
  let serial := s.newSerial
  let ps := chunks 4096 bs
  if addr % 4096 ≠ 0 || raModule addr = s.ownId || raModule addr = noId || bitAt addr 46 then
    s.modCtx c (fun k => { k with commitFailed := true })
  else match (List.range ps.length).foldl (fun (r : Except Nat State) i =>
      let p := nth [] ps i
      match r with
      | .error e => .error e
      | .ok s => s.inject (mkHdr (raModule addr) s.ownId tyWrite c (s.jobId c)
          (wrFields serial ps.length (addr % 2 ^ 46 + 4096 * i) 0 0 1 4096 (crc32c p)) 4096) p) (.ok s) with
    | .error _ => s.modCtx c (fun k => { k with commitFailed := true })
    | .ok s =>
      { s with fab := { s.fab with nextSerial := (serial + 1) % 2 ^ 32, remote := s.fab.remote ++
        [{ serial := serial, uid := 0, cl := 0, leftAt := s.timeNs, commit := some (c, mark), status := none }] } }

/-- R617 step 2: no task of the context is on a core, and none of its reductions whose home is here is open. -/
def State.ctxQuiet (s : State) (c : Nat) : Bool :=
  !s.ctxOnCores c && !s.reds.any (fun r => r.ctx = c && r.status = .open_)

/-- Where the blocks after a record's header start (R617: the header fills the record's first block). -/
def afterHeader (a : Nat) : Nat := a + 4096

/-- The context's commit has come to nothing: COMMIT_DONE finds it failed. -/
def State.commitBad (s : State) (c : Nat) : State :=
  s.modCtx c (fun k => { k with commitStage := 2, commitFailed := true })

/-- R618, R619: the record of header `h` and blocks `body`, written here from `a` on (`b` is where its body goes), and its
body sent to both peers. -/
def State.storeRecord (s : State) (c off : Nat) (body h : List Byte) (a b : Nat) : State :=
  match s.writeBlocks c b body with
  | .error _ => s.commitBad c
  | .ok s => match s.writeBlocks c a h with
    | .error _ => s.commitBad c
    | .ok s =>
      let s := s.modCtx c (fun k => { k with commitStage := 1, commitHdr := h })
      (s.sendCopyTo c 0 (afterHeader (s.replica c 0 + off)) body).sendCopyTo c 1 (afterHeader (s.replica c 1 + off)) body

/-- The record is written here, and the blocks after the header of the two remote copies leave (R617 steps 3 and 4). -/
def State.writeRecord (s : State) (c : Nat) : State :=
  match s.commitBody c with
  | .error _ => s.commitBad c
  | .ok body =>
    let total := afterHeader body.length
    let a := s.obj (kCommit c 2) + (s.ctx c).slotOff
    if commitMax < total then s.commitBad c
    else s.storeRecord c (s.ctx c).slotOff body (s.commitHeader c total (s.ctx c).commitNext (s.extras c).length) a (afterHeader a)

/-- The status of a copy's part in progress: none where none left, else what WRITE_DONE has brought. -/
def State.copyStatus (s : State) (c mark : Nat) : Option (Option Nat) :=
  (s.fab.remote.find? (fun r => r.commit = some (c, mark))).map (·.status)

/-- R619: the header of a copy leaves once its other blocks have been acknowledged. -/
def State.sendHeader (s : State) (c k : Nat) : State :=
  match s.copyStatus c k, s.copyStatus c (k + 2) with
  | some (some st), none =>
    if st = cOk then s.sendCopyTo c (k + 2) (s.replica c k + (s.ctx c).slotOff) (s.ctx c).commitHdr
    else s.modCtx c (fun x => { x with commitFailed := true })
  | _, _ => s

/-- COMMIT_RECORD: once the context is quiet the record is written here and sent to both peers; when a copy's blocks have
been acknowledged its header follows (R617 to R619). -/
def State.commitRecord (s : State) (c : Nat) : State :=
  let k := s.ctx c
  if s.commitState c ≠ 1 || s.ctxState c ≠ 1 then s
  else if k.commitStage = 0 then (if s.ctxQuiet c then s.writeRecord c else s)
  else
    let s := (s.sendHeader c 0).sendHeader c 1
    if (s.copyStatus c 2).isSome && (s.copyStatus c 3).isSome then s.modCtx c (fun k => { k with commitStage := 2 }) else s

/-- COMMIT_RECORD (R618). -/
def execCommitRecord (ctx : Fin 64) (s : State) : Host.Outcome State Fault Refusal := .next (s.commitRecord ctx.val)

/-- A part of the commit that has left and whose answer is still to come. -/
def State.copyOut (s : State) (c : Nat) : Bool :=
  s.fab.remote.any (fun r => r.commit.any (fun (x : Nat × Nat) => x.1 = c) && r.status.isNone)

/-- COMMIT_DONE: a commit completes when its three headers are written, or fails (R620). -/
def State.commitDone (s : State) (c : Nat) : State :=
  let k := s.ctx c
  if s.commitState c ≠ 1 || k.commitStage = 0 || s.copyOut c then s
  else
    let bad := k.commitFailed || s.fab.remote.any (fun r => r.commit.any (fun (x : Nat × Nat) => x.1 = c) && r.status ≠ some cOk)
    if bad then s.commitFail c
    else if k.commitStage ≠ 2 then s
    else
      let s := s.modCtx c (fun k => { k with commitStage := 0, commitHdr := [], commitNext := (k.commitNext + 1) % 2 ^ 32 })
      let s := { s with fab := { s.fab with remote := s.fab.remote.filter (fun r => r.commit.all (fun (x : Nat × Nat) => x.1 ≠ c)) } }
      (s.setObj (kCommit c 6) k.commitNext).setObj (kCommit c 5) 2

/-- COMMIT_DONE (R620). -/
def execCommitDone (ctx : Fin 64) (s : State) : Host.Outcome State Fault Refusal := .next (s.commitDone ctx.val)

/-! ### RESTORE_COMMIT (R623) -/

/-- Whether every block of a record is sealed and holds its CRC; the record's blocks as physical addresses. -/
def State.sealsHold (s : State) (acc : Acc) (va n : Nat) : Bool :=
  (List.range (cdiv n 4096)).all (fun i =>
    match s.trans acc (va + 4096 * i) 4096 false with
    | .ok [(pa, _)] =>
      inData pa && pa % 4096 = 0 && sideState (s.sideOf (pa / 4096)) = 1 &&
      fld (s.sideOf (pa / 4096)) 255 224 = s.blockCrc (pa / 4096)
    | _ => false)

/-- Sizes of a record's sections: their offsets after the header follow one another, each padded. -/
def nextSection (off n : Nat) : Nat := off + roundUp n 4096

/-- What a record holds after its header. -/
structure RecordBody where
  queues : List QueueRec
  tags : List Nat
  groups : List SplitGroup
  decisions : List Byte
  extras : List (Nat × List Byte)

/-- The queue section ends where its records do. -/
def queueBytes (n : Nat) (l : List Nat) : Nat := 8 * (l.length - (takeQueues n l).2.length)

/-- The sections of a record (R618). -/
def parseRecord (c nq nx held : Nat) (body : List Byte) : RecordBody :=
  let words := fun (o n : Nat) => (chunks 8 ((body.drop o).take n)).map leNat
  let ql := words 0 (9 * 8 * 192)
  let o1 := roundUp (queueBytes nq ql) 4096
  let o2 := nextSection o1 49152
  let ng := leNat ((body.drop o2).take 8)
  let o3 := nextSection o2 (8 + 136 * ng)
  let o4 := nextSection o3 (64 * held)
  let xs := (chunks 2 (words o4 (16 * nx))).map (fun e => (nth 0 e 0, nth 0 e 1))
  let ex := (xs.foldl (fun (acc : List (Nat × List Byte) × Nat) e =>
    (acc.1 ++ [(e.1, (body.drop acc.2).take e.2)], nextSection acc.2 e.2)) ([], nextSection o4 (16 * nx))).1
  { queues := (takeQueues nq ql).1, tags := words o1 49152,
    groups := (takeGroups c ng (words (o2 + 8) (136 * ng))).1,
    decisions := (body.drop o3).take (64 * held), extras := ex }

/-- A version that SLOTS names is resident. -/
def State.slotsHere (s : State) (h : List Byte) : Bool :=
  (List.range 16).all (fun i =>
    let v := leNat ((h.drop (312 + 4 * i)).take 4)
    v = 0 || (s.residentIn (i / 2) v).isSome)

/-- The header and body of the record at an address, where the restore is not refused. -/
def State.readRecord (s : State) (c va : Nat) : Option (List Byte × RecordBody) :=
  let acc := s.accOf c
  match s.readVa acc va 4096 with
  | .error _ => none
  | .ok h =>
    let rd := fun (o n : Nat) => leNat ((h.drop o).take n)
    let total := rd 24 8 % 2 ^ 63
    if rd 0 1 ≠ 1 || rd 4092 4 ≠ crc32c (h.take 4092) || total < 4096 || commitMax < total then none
    else if !s.sealsHold acc va total || rd 8 8 ≠ s.obj (kSeed c 7) || !s.slotsHere h then none
    else match s.readVa acc (va + 4096) (total - 4096) with
      | .error _ => none
      | .ok body => some (h, parseRecord c (rd 2 2) (rd 45 1) ((rd 36 4 + 2 ^ 32 - rd 40 4) % 2 ^ 32) body)

/-- R623: a record is applied. -/
def State.applyRecord (s : State) (c : Nat) (h : List Byte) (b : RecordBody) : State :=
  let rd := fun (o n : Nat) => leNat ((h.drop o).take n)
  let base := s.obj (kCommit c 8)
  let acc := s.accOf c
  let s := b.queues.foldl (fun (s : State) (r : QueueRec) => s.takeQueue c { r with q := (r.q + base) % 16 }) s
  let s := (s.setTags c b.tags).setGroups c b.groups
  let s := (s.setObj (kCtx c 9) (rd 36 4)).setConsumed c (rd 40 4)
  let s := (List.range (b.decisions.length / 64)).foldl (fun (s : State) i =>
    s.tryWriteVa acc (s.logAddr c (s.logConsumed c + i)) ((b.decisions.drop (64 * i)).take 64)) s
  let s := (List.range 8).foldl (fun (s : State) i =>
    s.putKey c i (if bitAt (rd 44 1) i then some (BitVec.ofNat 256 (rd (56 + 32 * i) 32)) else none)) s
  let s := (s.setObj (kSeed c 4) (rd 16 8)).setObj (kSeed c 6) (rd 31 1 / 128)
  let s := b.extras.foldl (fun (s : State) (e : Nat × List Byte) => s.tryWriteVa acc e.1 e.2) s
  (s.setObj (kCommit c 6) (rd 4 4)).modCtx c (fun k => { k with commitNext := (rd 4 4 + 1) % 2 ^ 32 })

/-- A write of RESTORE_COMMIT and its status. -/
def State.restoreCommit (s : State) (c va : Nat) : State × Nat :=
  let busy := (s.boundQueues c).any (fun p => !s.queueIdle p.1 p.2) || s.ctxOnCores c || s.commitState c = 1
  if s.ctxState c ≠ 1 || busy then (s, stState)
  else match s.readRecord c va with
    | none => (s, stState)
    | some (h, b) =>
      let base := s.obj (kCommit c 8)
      if b.queues.any (fun r => s.qCtx r.cl ((r.q + base) % 16) ≠ c && s.qCtx r.cl ((r.q + base) % 16) ≠ 0xFF) ||
          b.extras.any (fun e => match s.trans (s.accOf c) e.1 e.2.length true with
            | .ok _ => false
            | .error _ => true) then (s, stState)
      else (s.applyRecord c h b, stOk)

/-- RESTORE_COMMIT (R623). -/
def execRestoreCommit (ctx : Fin 64) (addr : BitVec 64) (s : State) : Host.Outcome State Fault Refusal :=
  .next (written (s.restoreCommit ctx.val addr.toNat))

end Sys2Proof.Machine
end

