-- ==== Sys2Proof/Machine/Links.lean ====
section
/-! DEFINITION. Links (R530 to R543, R546 to R548, R564 to R568): flits in and out, retry, credits, the router's
forwarding, lane and link failures. A packet leaves a module once its last flit has arrived. -/

namespace Sys2Proof.Machine

/-- Key of an object of a link (R570). -/
def kLink (n sub : Nat) : Nat := kDev (0x6100 + n) sub
/-- Lanes that carry flits. -/
def State.lanes (s : State) (n : Nat) : Nat := s.obj (kLink n 5)
/-- Set a link's state and lanes. -/
def State.setLink (s : State) (n st lanes : Nat) : State := (s.setObj (kLink n 1) st).setObj (kLink n 5) lanes
/-- A link that carries flits: UP, DEGRADED, or DRAINING with a lane. -/
def State.linkCarries (s : State) (n : Nat) : Bool :=
  s.linkLive n || (s.linkState n = 4 && s.lanes n ≠ 0)

/-! ### Flits (R533 to R536) -/

/-- SEQ of a flit. -/
def flSeq (f : Nat) : Nat := fld f 63 52
/-- ACK. -/
def flAck (f : Nat) : Nat := fld f 51 40
/-- CBUF. -/
def flCbuf (f : Nat) : Nat := fld f 39 37
/-- CREDITS. -/
def flCredits (f : Nat) : Nat := fld f 36 31
/-- KIND: 0 IDLE, 1 HEAD, 2 BODY, 3 TAIL, 4 SINGLE, 5 TAIL_POISON, 6 NAK. -/
def flKind (f : Nat) : Nat := fld f 30 27
/-- Buffer of a flit: VC × 2 + CLASS. -/
def flBuf (f : Nat) : Nat := fld f 26 24
/-- The CRC of a flit matches (R533). -/
def flCrcOk (f : Nat) : Bool := crc32c (toLE 252 (f % 2 ^ 2016)) = fld f 2047 2016

/-- A flit from its link word's fields and its contents. -/
def mkFlit (seq ack cbuf credits kind buf body : Nat) : Nat :=
  let w := at' seq 63 52 + at' ack 51 40 + at' cbuf 39 37 + at' credits 36 31 + at' kind 30 27 + at' buf 26 24
  let f := w + fld body 2015 64 * 2 ^ 64
  f + crc32c (toLE 252 f) * 2 ^ 2016

/-- A packet's header. -/
def Packet.hdr (p : Packet) : Nat := flitHdr (p.flits.headD 0)
/-- A packet's virtual channel (R538). -/
def Packet.vc (p : Packet) : Nat := typeVc (pkType p.hdr)
/-- The buffer that a packet enters at the next module. -/
def Packet.buf (p : Packet) : Nat := p.vc * 2 + p.cls
/-- R539: the packets that go first. -/
def Packet.mgmt (p : Packet) : Bool := [tyHeartbeat, tyNeighbour, tyLinkDown, tyResend].contains (pkType p.hdr)

/-- A packet that is routed; NEIGHBOUR packets travel one hop on their link (R542). -/
def Packet.routed (p : Packet) : Bool := pkType p.hdr ≠ tyNeighbour

/-- KIND of flit i of a packet (R534, R540). -/
def Packet.kind (p : Packet) (i : Nat) : Nat :=
  if i + 1 = p.flits.length then (if p.poison then 5 else if i = 0 then 4 else 3) else if i = 0 then 1 else 2

/-- A flit leaves on a link. -/
def State.sendFlit (s : State) (n f : Nat) : State := (s.emit (.flit n f)).cnt48 (kLink n 0xC) 1

/-- The credits that the next flit of a link returns: the first buffer with any, at most 63. -/
def Link.takeCredits (l : Link) : Link × Nat × Nat :=
  match (List.range 8).find? (fun b => nth 0 l.toReturn b ≠ 0) with
  | some b =>
    let k := min 63 (nth 0 l.toReturn b)
    ({ l with toReturn := modNth l.toReturn b (· - k) }, b, k)
  | none => (l, 0, 0)

/-- A flit without a SEQ leaves: IDLE (0) or NAK (6), with the ACK and credits to return. -/
def State.sendBare (s : State) (n kind : Nat) : State :=
  let r := (s.link n).takeCredits
  (s.modLink n (fun _ => r.1)).sendFlit n (mkFlit 0 r.1.lastAcc r.2.1 r.2.2 kind 0 0)

/-- Credits of a packet that has left its input buffer return on its link (R537). -/
def State.freeInput (s : State) (p : Packet) : State :=
  match p.from_ with
  | some (n, b) => s.modLink n (fun l => { l with toReturn := modNth l.toReturn b (· + p.flits.length) })
  | none => s

/-- Flits sent and not acknowledged. -/
def Link.unacked (l : Link) : Nat := (l.nextSeq + 4096 - l.acked - 1) % 4096

/-- The flits of a link's replay buffer that follow its last acknowledged one, in order. -/
def Link.toResend (l : Link) : List Nat :=
  (l.replay.flatMap (·.flits)).filter (fun f => (flSeq f + 4096 - l.acked - 1) % 4096 < l.unacked)

/-! ### A link goes down (R566, R567) -/

/-- R546: a packet of this module that waited for a link has no route left. Its task completes with a code: a WRITE's through a
WRITE_DONE with that STATUS, a contribution's or a marker's at once. Any other packet is discarded and counted. -/
def State.undelivered (s : State) (p : Packet) (code : Nat) : State :=
  let h := p.hdr
  if pkSrc h ≠ s.ownId then s.cnt16 (kDev 0x6000 4) 1
  else if pkType h = tyWrite then
    s.deliverHere (mkFlits (mkHdr s.ownId s.ownId tyWriteDone (pkCtx h) (pkJob h)
      (at' (fld h 171 140) 171 140 + at' code 139 132) 0) [])
  else if pkType h = tyContrib ∨ pkType h = tyLeafDone then
    match s.disp.awaitAck.find? (fun x => x.hdr = fld h 171 44) with
    | none => s
    | some x =>
      let s : State := { s with disp := { s.disp with awaitAck := s.disp.awaitAck.erase x } }
      match s.siteOfUid x.uid with
      | some (cl, site) => s.modTask cl site (fun t => { t with codes := t.codes ++ [code], badContrib := true })
      | none => s
  else s.cnt16 (kDev 0x6000 4) 1

/-- A packet is routed again, or discarded and counted, or its task completes (R546). -/
def State.reroute (s : State) (p : Packet) : State :=
  match s.route (pkDest p.hdr) p.vc p.inCls with
  | .here => s.deliver p
  | .via n c => s.queueOn n { p with cls := c }
  | .unreachable => (s.freeInput p).undelivered p cTranslation
  | .noTable => (s.freeInput p).undelivered p cVersion

/-- R567 step 2: what becomes of a packet that was cut off: a poisoned one goes on, or is counted at its destination. -/
def State.cutOff (s : State) (link b : Nat) (q : InPacket) : State :=
  let p : Packet := { flits := q.flits ++ [0], poison := true, cls := 0, inCls := b % 2, from_ := some (link, b) }
  match q.dest with
  | .here => s.cnt16 (kDev 0x6000 6) 1
  | .via n c => if s.linkLive n then s.queueOn n { p with cls := c } else s.reroute p
  | .drop => s

/-- A link goes DOWN. What waits for it is routed again; what is in flight waits for the neighbour's LINK_DOWN. -/
def State.linkDrop (s : State) (n : Nat) : State :=
  let l := s.link n
  let s := s.setLink n 5 0
  let own := s.ownId
  let flight := (l.replay.filter (fun r => r.pkt.routed)).map (fun r => ((r.first + r.pkt.flits.length + 4095) % 4096, r.pkt))
  let s := s.modLink n (fun l => { l with
    replay := [], inPkt := [], outQ := [], lostPkts := l.lostPkts ++ flight,
    lostAt := if own = noId then none else some s.timeNs, lost := false })
  let s := l.inPkt.foldl (fun (s : State) (x : Nat × Option InPacket) =>
    match x.2 with
    | some q => s.cutOff n x.1 q
    | none => s) s
  let s := if own = noId then s
    else s.injectOr (mkHdr (s.obj (kLink n 6)) own tyLinkDown 0 0
      (at' n 171 166 + at' (s.obj (kLink n 7)) 165 160 + at' l.lastAcc 159 148) 0) []
  (l.outQ.filter Packet.routed).foldl (fun (s : State) p => s.reroute p) s

/-! ### Acknowledgement and retry (R536) -/

/-- Every unacknowledged flit is sent again as it was kept, in order; after 16 times without progress the link is DOWN. -/
def State.resendAll (s : State) (n : Nat) : State :=
  let l := s.link n
  if l.unacked = 0 then s
  else if 16 ≤ l.resends then s.linkDrop n
  else
    let fs := l.toResend
    let s := s.modLink n (fun l => { l with resends := l.resends + 1, progressAt := s.timeNs })
    (fs.foldl (fun (s : State) f => s.sendFlit n f) s).cnt48 (kLink n 0xB) fs.length

/-- An ACK covers flits up to a SEQ. -/
def State.linkAck (s : State) (n a : Nat) : State :=
  let l := s.link n
  let k := (a + 4096 - l.acked) % 4096
  if k = 0 ∨ l.unacked < k then s
  else s.modLink n (fun l => { l with
    acked := a, resends := 0, progressAt := s.timeNs,
    replay := l.replay.filter (fun r => k < (r.first + r.pkt.flits.length + 4095 + 4096 - l.acked) % 4096) })

/-- NAK: the sender resends from ACK + 1 on. -/
def State.linkNak (s : State) (n a : Nat) : State :=
  if !s.linkCarries n then s else (s.linkAck n a).resendAll n

/-- NAK (R536). -/
def execNak (link : Fin 64) (ack : BitVec 12) (s : State) : Host.Outcome State Fault Refusal :=
  .next (s.linkNak link.val ack.toNat)

/-- REPLAY_TIMEOUT: 2 µs without progress. -/
def State.replayTimeout (s : State) (n : Nat) : State :=
  if s.linkCarries n && (s.link n).progressAt + 2000 ≤ s.timeNs then s.resendAll n else s

/-- REPLAY_TIMEOUT (R536). -/
def execReplayTimeout (link : Fin 64) (s : State) : Host.Outcome State Fault Refusal := .next (s.replayTimeout link.val)

/-! ### Receiving (R535, R541, R542, R546) -/

/-- The destination of a packet whose head arrives, with the count of one that is discarded. -/
def State.headDest (s : State) (h cls : Nat) : State × InDest :=
  let gone := fun (k : Nat) => (s.cnt16 (kDev 0x6000 k) 1, InDest.drop)
  if !typeDefined (pkType h) then gone 4
  else if pkType h = tyNeighbour then (s, .here)
  else match s.route (pkDest h) (typeVc (pkType h)) cls with
    | .here => (s, .here)
    | .via n c => if pkTtl h ≤ 1 then gone 5 else (s, .via n c)
    | _ => if pkTtl h ≤ 1 then gone 5 else gone 4

/-- A packet is complete: delivered, passed on, or discarded. -/
def State.packetDone (s : State) (n b : Nat) (q : InPacket) (fs : List Nat) (poison : Bool) : State :=
  let p : Packet := { flits := fs, poison := poison, cls := 0, inCls := b % 2, from_ := some (n, b) }
  match q.dest with
  | .here => if poison then (s.freeInput p).cnt16 (kDev 0x6000 6) 1 else s.deliver p
  | .via m c => if s.linkLive m then s.queueOn m { p with cls := c } else s.reroute p
  | .drop => s.freeInput p

/-- An accepted flit of a packet enters its buffer. A flit that continues no packet is discarded. -/
def State.takeFlit (s : State) (n f : Nat) : State :=
  let b := flBuf f
  let kind := flKind f
  let put := fun (s : State) (q : Option InPacket) =>
    s.modLink n (fun l => { l with inPkt := nset none l.inPkt b q })
  if kind = 1 ∨ kind = 4 then
    let r := s.headDest (flitHdr f) (b % 2)
    let f := match r.2 with
      | .via _ _ => lowerTtl f
      | _ => f
    let q : InPacket := { dest := r.2, flits := [f] }
    if kind = 4 then r.1.packetDone n b q q.flits false else put r.1 (some q)
  else match nget none (s.link n).inPkt b with
    | none => s.modLink n (fun l => { l with toReturn := modNth l.toReturn b (· + 1) })
    | some q =>
      let fs := q.flits ++ [f]
      if kind = 2 then put s (some { q with flits := fs }) else (put s none).packetDone n b q fs (kind = 5)

/-- A flit is discarded: one NAK until a flit is accepted. -/
def State.badFlit (s : State) (n : Nat) : State :=
  let s := s.cnt16 (kLink n 0xA) 1
  if (s.link n).nakSent then s else (s.modLink n (fun l => { l with nakSent := true })).sendBare n 6

/-- FLIT_RECEIVE. -/
def State.flitReceive (s : State) (n f : Nat) : State :=
  if !s.linkCarries n then s
  else if !flCrcOk f then s.badFlit n
  else if 6 < flKind f ∨ fld f 23 0 ≠ 0 then s.linkDrop n
  else
    let numbered : Bool := flKind f ≠ 0 && flKind f ≠ 6
    if numbered && flSeq f ≠ (s.link n).expect then s.badFlit n
    else
      let s := (s.cnt48 (kLink n 0xD) 1).modLink n (fun l => { l with
        nakSent := false, credits := modNth l.credits (flCbuf f) (fun c => min 64 (c + flCredits f)),
        expect := if numbered then (l.expect + 1) % 4096 else l.expect,
        lastAcc := if numbered then flSeq f else l.lastAcc })
      if flKind f = 6 then s.linkNak n (flAck f)
      else
        let s := s.linkAck n (flAck f)
        if numbered then s.takeFlit n f else s

/-- FLIT_RECEIVE (R535). -/
def execFlitReceive (link : Fin 64) (flit : BitVec 2048) (s : State) : Host.Outcome State Fault Refusal :=
  .next (s.flitReceive link.val flit.toNat)

/-! ### Sending (R536 to R539, R548) -/

/-- R539: weights of the VCs, in packets of 17 flits. -/
def vcWeight (vc : Nat) : Nat := nth 0 [34, 68, 34, 17] vc

/-- R539: the deficit round robin: the VC that sends next, from the flits of the first packet that each VC could send. -/
def drr (want : Nat → Option Nat) : Nat → Link → Link × Option Nat
  | 0, l => (l, none)
  | fuel + 1, l =>
    let next := fun (l : Link) =>
      let t := (l.turn + 1) % 4
      { l with turn := t, deficits := modNth l.deficits t (· + vcWeight t) }
    match want l.turn with
    | none => drr want fuel (next { l with deficits := l.deficits.set l.turn 0 })
    | some k =>
      if k ≤ nth 0 l.deficits l.turn then ({ l with deficits := modNth l.deficits l.turn (· - k) }, some l.turn)
      else drr want fuel (next l)

/-- R536, R548: a packet can leave: the link holds credits for all its flits and its replay buffer has room. -/
def Link.canSend (l : Link) (p : Packet) : Bool :=
  p.flits.length ≤ nth 0 l.credits p.buf && l.unacked + p.flits.length ≤ 512

/-- The packet that leaves next: management packets first for up to 1 % of the flits, then by the round robin. In a hold
only management packets leave (R646). -/
def Link.nextPacket (l : Link) (hold : Bool) : Link × Option Packet :=
  let ok := l.outQ.filter (fun p => l.canSend p && (!hold || p.mgmt))
  match ok.find? (fun p => p.mgmt && (l.mgmtTx + p.flits.length) * 100 ≤ l.allTx + p.flits.length) with
  | some p => ({ l with mgmtTx := l.mgmtTx + p.flits.length }, some p)
  | none =>
    let first := fun (vc : Nat) => ok.find? (fun p => p.vc = vc)
    let r := drr (fun vc => (first vc).map (fun p => p.flits.length)) 12 l
    (r.1, r.2.bind first)

/-- The replay buffer keeps a flit of its newest packet as it leaves (R536). -/
def Link.keep (l : Link) (f : Nat) : Link :=
  { l with replay := modNth l.replay (l.replay.length - 1) (fun r => { r with flits := r.flits ++ [f] }) }

/-- The last of a remote MOVE's packets to leave the module sets the time that R621 counts from. -/
def State.noteLeft (s : State) (p : Packet) : State :=
  if pkType p.hdr ≠ tyWrite || pkSrc p.hdr ≠ s.ownId then s
  else { s with fab := { s.fab with remote := s.fab.remote.map (fun r =>
    if r.serial = fld p.hdr 171 140 then { r with leftAt := s.timeNs } else r) } }

/-- WRITE packets of a remote MOVE of this module wait to leave it. -/
def State.writesWait (s : State) (serial : Nat) : Bool :=
  s.fab.links.any (fun l => l.2.outQ.any (fun p =>
    pkType p.hdr = tyWrite && pkSrc p.hdr = s.ownId && fld p.hdr 171 140 = serial))

/-- A packet leaves on a link. -/
def State.sendPacket (s : State) (n : Nat) (p : Packet) : State :=
  let l := s.link n
  let k := p.flits.length
  let s := s.modLink n (fun l => { l with
    outQ := l.outQ.erase p, replay := l.replay ++ [⟨l.nextSeq, p, []⟩], nextSeq := (l.nextSeq + k) % 4096,
    progressAt := if l.unacked = 0 then s.timeNs else l.progressAt,
    credits := modNth l.credits p.buf (· - k), allTx := l.allTx + k })
  let s := (List.range k).foldl (fun (s : State) (i : Nat) =>
    let r := (s.link n).takeCredits
    let f := mkFlit ((l.nextSeq + i) % 4096) r.1.lastAcc r.2.1 r.2.2 (p.kind i) p.buf (nth 0 p.flits i)
    (s.modLink n (fun _ => r.1.keep f)).sendFlit n f) s
  (s.freeInput p).noteLeft p

/-- PACKET_FORWARD: a link sends the next packet that it can send, or an IDLE flit. While it drains it sends no packet that
has not begun (R568). -/
def State.packetForward (s : State) (n : Nat) : State :=
  if s.linkLive n then
    let r := (s.link n).nextPacket (s.moduleState = 4)
    match r.2 with
    | some p => (s.modLink n (fun _ => r.1)).sendPacket n p
    | none => s.sendBare n 0
  else if s.linkCarries n then s.sendBare n 0
  else s

/-- PACKET_FORWARD (R548). -/
def execPacketForward (link : Fin 64) (s : State) : Host.Outcome State Fault Refusal := .next (s.packetForward link.val)

/-! ### Lanes, training, ENABLE and FORCE (R564, R565, R568) -/

/-- LANE_FAILURE. -/
def State.laneFail (s : State) (n lane : Nat) : State :=
  let left := s.lanes n - b2n (bitAt (s.lanes n) lane) * 2 ^ lane
  if left = s.lanes n then s
  else if left = 0 then s.linkDrop n
  else s.setLink n (if s.linkState n = 2 then 3 else s.linkState n) left

/-- LANE_FAILURE (R565). -/
def execLaneFailure (link : Fin 64) (lane : Fin 2) (s : State) : Host.Outcome State Fault Refusal :=
  .next (s.laneFail link.val lane.val)

/-- RETRAIN_TIMER: a DOWN link that is enabled trains again; the failed lane of a DEGRADED one trains alone. -/
def State.retrain (s : State) (n : Nat) : State :=
  if s.linkState n = 5 && s.obj (kLink n 2) = 1 then s.setLink n 1 0 else s

/-- RETRAIN_TIMER (R565). -/
def execRetrainTimer (link : Fin 64) (s : State) : Host.Outcome State Fault Refusal := .next (s.retrain link.val)

/-- The data layer of a link that has trained starts afresh, and one NEIGHBOUR packet leaves on it (R537, R543). LANE_DOWN may be
logged again for a lane that trained (R565). What no LINK_DOWN has settled by then stays unsent (R567). -/
def State.linkUp (s : State) (n lanes : Nat) : State :=
  let s := s.setLink n (if lanes = 3 then 2 else 3) lanes
  let s := s.modLink n (fun l => { Link.empty with
    outQ := l.outQ, laneLogged := [nth false l.laneLogged 0 && !bitAt lanes 0, nth false l.laneLogged 1 && !bitAt lanes 1],
    lostAt := l.lostAt, lost := l.lost })
  s.queueOn n { flits := mkFlits (mkHdr noId s.ownId tyNeighbour 0 0 (at' n 171 166 + at' s.ownId 165 149) 0) [],
                poison := false, cls := 0, inCls := 0, from_ := none }

/-- A lane has been trained, or its training failed: LANE_DOWN is logged once until it trains. -/
def State.laneResult (s : State) (n lane : Nat) (up : Bool) : State :=
  if up then s.modLink n (fun l => { l with laneLogged := l.laneLogged.set lane false })
  else if nth false (s.link n).laneLogged lane then s
  else (s.modLink n (fun l => { l with laneLogged := l.laneLogged.set lane true })).event 0x48 1 0xFF (n * 2 + lane) 0

/-- The links are powered and out of electrical idle: READY and SAG_HOLD (R661, R662). -/
def State.linksOn (s : State) : Bool := s.moduleState = 3 || s.moduleState = 4

/-- LINK_TRAINING_DONE: the training of a link ends, or that of the failed lane of a DEGRADED one. -/
def State.trainingDone (s : State) (n : Nat) (lane0 lane1 : Bool) : State :=
  let got := b2n lane0 + 2 * b2n lane1
  if !s.linksOn then s
  else if s.linkState n = 1 then (if got = 0 then s.setLink n 5 0 else s.linkUp n got)
  else if s.linkState n = 3 then
    let lane := if bitAt (s.lanes n) 0 then 1 else 0
    let up := bitAt got lane
    let s := s.laneResult n lane up
    if up then s.setLink n 2 3 else s
  else s

/-- LINK_TRAINING_DONE (R565). -/
def execLinkTrainingDone (link : Fin 64) (lane0 lane1 : Bool) (s : State) : Host.Outcome State Fault Refusal :=
  .next (s.trainingDone link.val lane0 lane1)

/-- Both lanes of a link failed the last self-test (R661). -/
def State.linkBad (s : State) (n : Nat) : Bool := s.power.badLinks.contains n

/-- The effect of a write of ENABLE (R568, R614). Before READY, and in Lodge, links stay in electrical idle: one that is enabled then
trains when the module enters READY (R661, R662). -/
def State.turnLink (s : State) (n : Nat) (v : Bool) : State :=
  let st := s.linkState n
  let s := s.setObj (kLink n 2) (b2n v)
  if v then
    if !s.linksOn then s
    else if st = 0 ∨ st = 5 ∨ (st = 4 ∧ s.lanes n = 0) then s.setLink n 1 0
    else if st = 4 then s.setLink n (if s.lanes n = 3 then 2 else 3) (s.lanes n)
    else s
  else if st = 0 ∨ st = 4 then s
  else
    let l := s.link n
    let s := (s.setLink n 4 (s.lanes n)).modLink n (fun l => { l with outQ := [] })
    (l.outQ.filter Packet.routed).foldl (fun (s : State) p => s.reroute p) s

/-- R532: MRAM keeps the last written ENABLE and PMD of a link. -/
def State.noteLink (s : State) (n : Nat) (f : Nat × Nat → Nat × Nat) : State :=
  { s with patrol := { s.patrol with linkSet := nmod (0, 0) s.patrol.linkSet n f } }

/-- A write of ENABLE and its status: a link that both lanes failed is refused until a RETEST passes it (R661). -/
def State.enableLink (s : State) (n : Nat) (v : Bool) : State × Nat :=
  if v && s.linkBad n then (s, stState) else ((s.turnLink n v).noteLink n (fun x => (b2n v, x.2)), stOk)

/-- A write of PMD and its status (R532, R570): it applies at the next training. -/
def State.setPmd (s : State) (n v : Nat) : State × Nat :=
  if 2 < v then (s, stRange) else ((s.setObj (kLink n 4) v).noteLink n (fun x => (x.1, v)), stOk)

/-- LINK_ENABLE (R568). -/
def execLinkEnable (link : Fin 64) (v : Bool) (s : State) : Host.Outcome State Fault Refusal :=
  .next (written (s.enableLink link.val v))

/-- A write of FORCE and its status (R568, R614). -/
def State.forceLink (s : State) (n : Nat) (v : Bool) : State × Nat :=
  if !v then (s, stOk) else if s.linkState n ≠ 4 then (s, stState) else (s.linkDrop n, stOk)

/-- LINK_FORCE (R568). -/
def execLinkForce (link : Fin 64) (v : Bool) (s : State) : Host.Outcome State Fault Refusal := .next (written (s.forceLink link.val v))

/-- The end of the drain of a link: its replay buffer is acknowledged and no packet is half received (R568). -/
def State.endLink (s : State) (n : Nat) : State :=
  if s.linkState n = 4 && (s.link n).replay.isEmpty && (s.link n).inPkt.isEmpty then s.setLink n 0 0 else s

/-- LINK_DOWN_TIMEOUT: no LINK_DOWN within 1 ms: the neighbour is lost, and its packets stay unsent (R567, R621). -/
def State.linkDownTimeout (s : State) (n : Nat) : State :=
  match (s.link n).lostAt with
  | some t =>
    let peer := s.obj (kLink n 6)
    if s.timeNs < t + 1000000 then s
    else
      let s := s.modLink n (fun l => { l with lostPkts := [], lostAt := none, lost := true })
      if s.fab.silent.contains peer then s
      else ({ s with fab := { s.fab with silent := peer :: s.fab.silent } }).event 0x4A 3 0xFF peer 0
  | none => s

/-- LINK_DOWN_TIMEOUT (R567). -/
def execLinkDownTimeout (link : Fin 64) (s : State) : Host.Outcome State Fault Refusal := .next (s.linkDownTimeout link.val)

/-- A write of MODULE_ID and its status (R542). -/
def State.setModuleId (s : State) (v : Nat) : State × Nat :=
  if noId < v then (s, stRange)
  else if (List.range 64).any (fun c => s.ctxState c = 1) then (s, stState)
  else (s.setObj (kDev 0x6000 1) v, stOk)

/-- MODULE_ID (R542). -/
def execModuleId (v : BitVec 32) (s : State) : Host.Outcome State Fault Refusal := .next (written (s.setModuleId v.toNat))

end Sys2Proof.Machine
end

