-- ==== Sys2Proof/Machine/Arrive.lean ====
section
/-! DEFINITION. What the packets delivered to this module do (R541, R543, R554 to R563, R567, R569, R611, R621), and the
timers that go with them. -/

namespace Sys2Proof.Machine

/-! ### Delivered packets -/

/-- Remove the first packet that `p` holds for. -/
def takeFirst (p : Packet → Bool) : List Packet → Option (Packet × List Packet)
  | [] => none
  | x :: r => if p x then some (x, r) else (takeFirst p r).map (fun y => (y.1, x :: y.2))

/-- The oldest delivered packet of a type leaves its input buffer. -/
def State.takeRx (s : State) (ty : Nat) : Option (Packet × State) :=
  (takeFirst (fun p => pkType p.hdr = ty) s.fab.rx).map (fun r =>
    (r.1, ({ s with fab := { s.fab with rx := r.2 } } : State).freeInput r.1))

/-- A packet's data bytes. -/
def Packet.data (p : Packet) : List Byte := flitsData p.flits

/-- A packet of a response or a management kind leaves for another module. -/
def State.reply (s : State) (dest type ctx job fields : Nat) (data : List Byte) : State :=
  s.injectOr (mkHdr dest s.ownId type ctx job fields data.length) data

/-! ### Remote writes (R554 to R557) -/

/-- The granules of landing regions that a write covers whole have landed (R556). -/
def State.setLanded (s : State) (pa n : Nat) : State :=
  (pieces 256 pa n).foldl (fun (s : State) (p : Nat × Nat) =>
    match s.scratchOf p.1 with
    | some (cl, off) =>
      if p.2 = 256 && s.inLanding cl off then
        { s with fab := { s.fab with landed := nset false s.fab.landed (cl * 2 ^ 18 + off / 256) true } }
      else s
    | none => s) s

/-- R554: the access of a WRITE packet, with REMOTE_KEYS in place of KEY_RIGHTS and the tag of its arrival. -/
def State.accRemote (s : State) (c : Nat) (tag : Option (Nat × Nat)) : Acc :=
  { ctx := c, rights := s.obj (kDev (0x6080 + c) 2), tag := s.xlatOr c tag, slot := 8, version := 0 }

/-- R556: a WRITE packet writes as any other write does, but it clears no landed bit. -/
def State.writeRemote (s : State) (ps : List (Nat × Nat)) (bs : List Byte) : State :=
  let t := writePieces s ps bs
  { t with fab := { t.fab with landed := s.fab.landed } }

/-- R554: a WRITE packet is checked and applied: the state it leaves and its status. In containment mode a part of a block is refused
(R627). A SEAL packet's producer fields that
it does not carry are free values. -/
def State.applyWrite (s : State) (h : Nat) (data : List Byte) (tag : Option (Nat × Nat)) : State × Nat :=
  let c := pkCtx h
  let job := s.jobId c
  let refuse := fun (e : Nat) => (s.cnt16 (kDev (0x6080 + c) 4) 1, e)
  let part := fun (p : Nat × Nat) => inData p.1 && (p.1 % 4096 ≠ 0 || p.2 ≠ 4096)
  if job = 0 ∨ job ≠ pkJob h then refuse cProtection
  else match s.trans (s.accRemote c tag) (fld h 111 66) (fld h 47 35) true with
    | .error e => refuse e
    | .ok ps =>
      if s.containment && ps.any part then refuse cDescriptor
      else
      let bs := data.take (fld h 47 35)
      let f := Config.freeNat s.free
      let s := match ps with
        | [(pa, 4096)] =>
          if bitAt h 48 && pa % 4096 = 0 && inData pa then
            (((s.put pa bs).countWr pa 4096).seal (pa / 4096) (fld h 34 3) 1 c (fld f 31 0) (fld f 63 32)).tick
          else s.writeRemote ps bs
        | _ => s.writeRemote ps bs
      let s := ps.foldl (fun (s : State) (p : Nat × Nat) => s.setLanded p.1 p.2) s
      (s.cnt48 (kDev (0x6080 + c) 3) 1, cOk)

/-- R555: the last packet of a descriptor has arrived: its tag is incremented and WRITE_DONE leaves. -/
def State.writesDone (s : State) (h : Nat) (codes : List Nat) : State :=
  let c := pkCtx h
  let tag := fld h 65 50
  let en := bitAt h 49
  let up := s.clServes (tagCl tag)
  let s := if en && up then s.tagAdd c tag 1 else s
  let codes := if en && !up then codes ++ [cFenced] else codes
  s.reply (pkSrc h) tyWriteDone c (s.jobId c) (at' (fld h 171 140) 171 140 + at' (firstCode codes) 139 132) []

/-- R555: a packet counts toward its descriptor. -/
def State.countArrival (s : State) (h code : Nat) : State :=
  let src := pkSrc h
  let serial := fld h 171 140
  let codes := if code = cOk then [] else [code]
  let a : Arrival := match s.fab.arrivals.find? (fun a => a.src = src && a.serial = serial) with
    | some a => { a with count := a.count + 1, codes := a.codes ++ codes }
    | none => { src := src, serial := serial, count := 1, npkt := fld h 139 112, codes := codes }
  let rest := s.fab.arrivals.filter (fun a => a.src ≠ src || a.serial ≠ serial)
  if a.npkt ≤ a.count then ({ s with fab := { s.fab with arrivals := rest } } : State).writesDone h a.codes
  else { s with fab := { s.fab with arrivals := rest ++ [a] } }

/-- R555: a WRITE packet that would open an entry of a full arrival table waits. -/
def State.writeWaits (s : State) (p : Packet) : Bool :=
  16384 ≤ s.fab.arrivals.length &&
  !s.fab.arrivals.any (fun a => a.src = pkSrc p.hdr && a.serial = fld p.hdr 171 140)

/-- The oldest WRITE packet that does not wait, nor stand in its buffer behind one that waits. -/
def State.pickWrite (s : State) : List (Option (Nat × Nat)) → List Packet → Option (Packet × List Packet)
  | _, [] => none
  | held, p :: r =>
    let keep := fun (x : Option (Packet × List Packet)) => x.map (fun (y : Packet × List Packet) => (y.1, p :: y.2))
    if pkType p.hdr ≠ tyWrite then keep (s.pickWrite held r)
    else if s.writeWaits p || held.contains p.from_ then keep (s.pickWrite (p.from_ :: held) r)
    else some (p, r)

/-- REMOTE_WRITE. -/
def State.remoteWrite (s : State) : State :=
  match s.pickWrite [] s.fab.rx with
  | none => s
  | some (p, rest) =>
    let s := ({ s with fab := { s.fab with rx := rest } } : State).freeInput p
    let r := s.applyWrite p.hdr p.data p.tag
    (r.1.unrefTable p.tag).countArrival p.hdr r.2

/-- REMOTE_WRITE (R554). -/
def execRemoteWrite (s : State) : Host.Outcome State Fault Refusal := .next s.remoteWrite

/-- A remote MOVE is over: its task takes the status, or a commit's copy does (R555, R619, R621). -/
def State.remoteOver (s : State) (m : RemoteMove) (code : Nat) : State :=
  let rest := s.fab.remote.filter (fun x => x.serial ≠ m.serial)
  if m.commit.isSome then { s with fab := { s.fab with remote := rest ++ [{ m with status := some code }] } }
  else
    let s : State := { s with fab := { s.fab with remote := rest } }
    match s.siteOfUid m.uid with
    | none => s
    | some (cl, site) =>
      match (s.core cl site).task with
      | none => s
      | some t =>
        match t.commitMoves with
        | mv :: _ =>
          if mv.serial ≠ some m.serial then s
          else if code = cOk then (s.commitMoveDone cl site mv).sendDones t.uid
          else s.commitMoveFail cl site code
        | [] => s

/-- R611: a reply for a cluster that serves nothing is discarded and counted. -/
def State.discardReply (s : State) : State := s.cnt16 (kDev 0x4010 2) 1

/-- WRITE_DONE: the sending MOVE finishes, unless its cluster is quiesced (R611). -/
def State.writeDone (s : State) : State :=
  match s.takeRx tyWriteDone with
  | none => s
  | some (p, s) =>
    match s.fab.remote.find? (fun m => m.serial = fld p.hdr 171 140 && m.status.isNone) with
    | none => s
    | some m =>
      if m.commit.isNone && !s.clServes m.cl then
        ({ s with fab := { s.fab with remote := s.fab.remote.filter (fun x => x.serial ≠ m.serial) } } : State).discardReply
      else s.remoteOver m (fld p.hdr 139 132)

/-- WRITE_DONE (R555). -/
def execWriteDone (s : State) : Host.Outcome State Fault Refusal := .next s.writeDone

/-- WRITE_DONE_TIMEOUT: 20 ms after the last of its packets left, a remote MOVE completes with FENCED (R621). -/
def State.writeDoneTimeout (s : State) (serial : Nat) : State :=
  match s.fab.remote.find? (fun m => m.serial = serial && m.status.isNone) with
  | some m => if m.leftAt + 20000000 ≤ s.timeNs ∧ s.writesWait serial = false then s.remoteOver m cFenced else s
  | none => s

/-- WRITE_DONE_TIMEOUT (R621). -/
def execWriteDoneTimeout (serial : BitVec 32) (s : State) : Host.Outcome State Fault Refusal :=
  .next (s.writeDoneTimeout serial.toNat)

/-! ### Contributions between modules (R559) -/

/-- OUTCOME of an acknowledgement (R541). -/
def Outcome.code : Outcome → Nat
  | .accepted => 0
  | .duplicate => 1
  | .late => 1
  | .descriptor => 2
  | .stale => 3

/-- The outcome of an acknowledgement's OUTCOME. -/
def outcomeOf (n : Nat) : Outcome := if n = 0 then .accepted else if n = 1 then .duplicate else if n = 2 then .descriptor else .stale

/-- CONTRIB_ACK leaves for the module of a contribution or marker. -/
def State.sendAck (s : State) (hdr h : Nat) (o : Outcome) : State :=
  let f := at' (fld h 127 96) 171 140 + at' (hRed h) 139 124 + at' (hGen h) 123 116 + at' (hBlock h) 115 100 +
    at' (hA h) 99 80 + at' (hB h) 79 60 + at' o.code 59 58
  s.reply (pkSrc hdr) tyContribAck (pkCtx hdr) (s.jobId (pkCtx hdr)) f []

/-- The adder of a contribution's block, and its records' size in bytes: MA0 where no record of the RED_ID holds it. -/
def State.homeAdder (s : State) (h : Nat) : Nat × Option Nat :=
  match s.redOf (hCtx h) (hRed h) with
  | some r => ((r.blocks[hBlock h]?).elim 0 (fun (b : OutBlock) => b.adder), some (rdElems r.desc * rdRecBytes r.desc))
  | none => (0, none)

/-- A contribution whose packets have all arrived is applied at its adder and acknowledged. -/
def State.contribWhole (s : State) (hdr h : Nat) (parts : List (List Byte)) : State :=
  let a := s.homeAdder h
  let all := parts.flatMap (fun p => p.take 4096)
  let r := s.contribute a.1 h (match a.2 with
    | some n => if all.length < n then all else all.take n
    | none => all)
  r.1.sendAck hdr h r.2

/-- R559: the place in which a contribution is assembled: pending granules of its adder where enough are free, else the
lowest slot of its block's part of the spill region that nothing uses. One that no record of the RED_ID holds takes none. -/
def State.newAssembly (s : State) (src h npart : Nat) : Assembly :=
  let a : Assembly :=
    { src := src, hdr := h, npart := max 1 npart, parts := [], adder := 0, granules := 0, spilled := none }
  match s.redOf (hCtx h) (hRed h) with
  | none => a
  | some r => match (if r.status = .open_ ∧ r.gen = hGen h then r.blocks[hBlock h]? else none) with
    | none => a
    | some k =>
      let need := rdGranules r.desc
      if need ≤ s.freeGranules k.adder then { a with adder := k.adder, granules := need }
      else { a with adder := k.adder, spilled := (List.range (cdiv (rdLeaves r.desc) 2)).find? (fun i =>
        !k.slots.any (fun x => x.spilled = some i) &&
        !s.fab.assembly.any (fun y => hCtx y.hdr = hCtx h && hRed y.hdr = hRed h && hBlock y.hdr = hBlock h && y.spilled = some i)) }

/-- R559: a part that is assembled in the spill region is written there. -/
def State.spillPart (s : State) (a : Assembly) (part : Nat) (bs : List Byte) : State :=
  match a.spilled, s.redOf (hCtx a.hdr) (hRed a.hdr) with
  | some i, some r =>
    s.tryWriteVa r.acc (r.slotVa (hBlock a.hdr) i + 4096 * part) (bs.take (rdSlotBytes r.desc - 4096 * part))
  | _, _ => s

/-- CONTRIB: one packet of a contribution reaches its home. -/
def State.contribPacket (s : State) : State :=
  match s.takeRx tyContrib with
  | none => s
  | some (p, s) =>
    let h := fld p.hdr 171 44
    let src := pkSrc p.hdr
    let mine := fun (a : Assembly) => a.src = src && a.hdr = h
    let a := (s.fab.assembly.find? mine).getD (s.newAssembly src h (fld p.hdr 27 12))
    let a := { a with parts := nset [] a.parts (fld p.hdr 43 28) (p.data) }
    let rest := s.fab.assembly.filter (fun x => !mine x)
    let s := s.spillPart a (fld p.hdr 43 28) (p.data.take 4096)
    if a.parts.length < a.npart then { s with fab := { s.fab with assembly := rest ++ [a] } }
    else ({ s with fab := { s.fab with assembly := rest } } : State).contribWhole p.hdr h (a.parts.map (·.2))

/-- CONTRIB (R559). -/
def execContrib (s : State) : Host.Outcome State Fault Refusal := .next s.contribPacket

/-- LEAF_DONE: a marker reaches its home, is applied at every adder of the reduction and acknowledged. -/
def State.leafDonePacket (s : State) : State :=
  match s.takeRx tyLeafDone with
  | none => s
  | some (p, s) =>
    let h := fld p.hdr 171 44
    let mas : List Nat := match s.redOf (hCtx h) (hRed h) with
      | some r => if r.blocks.isEmpty then [0] else (r.blocks.map (fun (b : OutBlock) => b.adder)).eraseDups
      | none => [0]
    let r : State × Outcome := mas.foldl (fun (x : State × Outcome) (ma : Nat) =>
      let y := x.1.leafMarker ma h
      (y.1, if x.2 = Outcome.accepted then y.2 else x.2)) (s, Outcome.accepted)
    r.1.sendAck p.hdr h r.2

/-- LEAF_DONE (R559). -/
def execLeafDone (s : State) : Host.Outcome State Fault Refusal := .next s.leafDonePacket

/-- An acknowledgement's header answers an awaited contribution or marker: TASK_ID, RED_ID, GEN, OUT_BLOCK and node agree (R541). -/
def Awaited.answers (x : Awaited) (a : Nat) : Bool :=
  fld x.hdr 127 96 = fld a 171 140 && hRed x.hdr = fld a 139 124 && hGen x.hdr = fld a 123 116 && hBlock x.hdr = fld a 115 100 &&
  hA x.hdr = fld a 99 80 && hB x.hdr = fld a 79 60

/-- CONTRIB_ACK: the sending task takes note of an outcome; its markers leave once all its contributions are accepted. -/
def State.contribAck (s : State) : State :=
  match s.takeRx tyContribAck with
  | none => s
  | some (p, s) =>
    let a := p.hdr
    match s.disp.awaitAck.find? (fun x => x.answers a) with
    | none => s
    | some x =>
      let s : State := { s with disp := { s.disp with awaitAck := s.disp.awaitAck.erase x } }
      if !s.clServes x.cl then s.discardReply
      else
        let o := outcomeOf (fld a 59 58)
        (s.noteOutcome x.uid (if hKind x.hdr = 0xF ∧ o ≠ .descriptor then .accepted else o)).sendDones x.uid

/-- CONTRIB_ACK (R559). -/
def execContribAck (s : State) : Host.Outcome State Fault Refusal := .next s.contribAck

/-! ### Broadcasts (R561 to R563) -/

/-- The running LINK transfers of a broadcast identifier. -/
def State.bcastTransfer (s : State) (id : Nat) : Option Transfer :=
  s.chair.transfers.find? (fun t => chSource t.cmd = 0 && chBcast t.cmd = id)

/-- A broadcast packet is delivered to its transfer, and goes on down the tree. -/
def State.bcastPacket (s : State) (ty : Nat) : State :=
  match s.takeRx ty with
  | none => s
  | some (p, s) =>
    let h := p.hdr
    let bs := p.data.take 4096
    let item := bcBlock h + (if ty = tyManifest then 2 ^ 25 else 0)
    let s := match s.bcastTransfer (bcId h) with
      | none => s.cnt16 (kDev 0x6000 7) 1
      | some t =>
        let s := s.modTransfer t.pos (fun t => { t with
          origins := nset noId t.origins item (bcOrigin h), lastOrigin := some (bcOrigin h), lastPacket := s.timeNs })
        match s.transferAt t.pos with
        | none => s
        | some t =>
          if ty = tyBlock then s.takeBlock t (bcBlock h) bs
          else if bcBlock h < cdiv (chBlocks t.cmd * 4 + 4) 4096 then
            s.modTransfer t.pos (fun t => { t with
              mparts := nset [] t.mparts (bcBlock h) bs, resends := ndel item t.resends })
          else s
    s.bcastForward h bs p.inCls

/-- BCAST_BLOCK (R561). -/
def execBcastBlock (s : State) : Host.Outcome State Fault Refusal := .next (s.bcastPacket tyBlock)

/-- BCAST_MANIFEST (R562). -/
def execBcastManifest (s : State) : Host.Outcome State Fault Refusal := .next (s.bcastPacket tyManifest)

/-- What this module holds of a broadcast: the address of its blocks, those that are written, and the manifest's bytes. -/
def State.bcastHeld (s : State) (id : Nat) : Option (Nat × (Nat → Bool) × List Byte) :=
  match s.bcastTransfer id with
  | some t => some (s.targetPa t, (fun b => t.written.contains b), (s.manifestBytes t).getD [])
  | none =>
    ((List.range 24).find? (fun i => s.eState (i / 3) (i % 3) ≠ eEmpty && (s.entry (i / 3) (i % 3)).bcast = some id)).map (fun i =>
      let x := s.entry (i / 3) (i % 3)
      let vals := x.manifest.flatMap (toLE 4)
      (s.ePa (i / 3) (i % 3) % 2 ^ 52, (fun b => b < x.blocks), vals ++ toLE 4 (crc32c vals)))

/-- RESEND: the origin sends the block, or the part of the manifest, back as a routed packet with HOPS 0. -/
def State.resendPacket (s : State) : State :=
  match s.takeRx tyResend with
  | none => s
  | some (p, s) =>
    let h := p.hdr
    let id := fld h 171 156
    let b := fld h 155 131
    match s.bcastHeld id with
    | none => s
    | some (pa, has, man) =>
      let send := fun (ty : Nat) (bs : List Byte) => s.reply (pkSrc h) ty 0 0 (bcFields id b 0 0 s.ownId) bs
      if bitAt h 130 then (if (man.drop (4096 * b)).isEmpty then s else send tyManifest ((man.drop (4096 * b)).take 4096))
      else if has b then send tyBlock (s.bytes (pa + 4096 * b) 4096)
      else s

/-- RESEND (R563). -/
def execResend (s : State) : Host.Outcome State Fault Refusal := .next s.resendPacket

/-- R563: what a LINK transfer misses: parts of the manifest, from 2^25, and blocks. -/
def missing (t : Transfer) : List Nat :=
  (if t.manifest.isSome then [] else
    ((List.range (cdiv (chBlocks t.cmd * 4 + 4) 4096)).filter (fun k => (nget [] t.mparts k).isEmpty)).map (· + 2 ^ 25)) ++
  (List.range (chBlocks t.cmd)).filter (fun b => !t.written.contains b)

/-- RESEND_TIMEOUT: 10 ms after the last packet of its BCAST_ID, or after a RESEND, the Chairlift asks for what is missing;
one asked for four times fails the transfer. -/
def State.resendTimeout (s : State) (i : Nat) : State :=
  match s.chair.transfers[i]? with
  | none => s
  | some t =>
    if chSource t.cmd ≠ 0 || t.lastOrigin.isNone then s
    else
      let due := (missing t).filter (fun x =>
        let r := nget (0, 0) t.resends x
        (if r.1 = 0 then t.lastPacket else r.2) + 10000000 ≤ s.timeNs)
      if due.any (fun x => 4 ≤ (nget (0, 0) t.resends x).1) then s.failTransfer t cChecksum
      else due.foldl (fun (s : State) x =>
        match s.transferAt t.pos with
        | some t => s.sendResend t x
        | none => s) s

/-- RESEND_TIMEOUT (R563). -/
def execResendTimeout (t : Fin 4) (s : State) : Host.Outcome State Fault Refusal := .next (s.resendTimeout t.val)

/-! ### Heartbeats and neighbours (R543, R567, R569) -/

/-- The heartbeat list. -/
def State.hbPeers (s : State) : List Nat :=
  (((List.range 32).map (fun i => s.obj (kDev 0x6001 (i + 1)))).filter (· ≠ noId)).eraseDups

/-- Links that are UP or DEGRADED and whose neighbour is known. -/
def State.hbLinks (s : State) : List Nat :=
  (List.range 64).filter (fun n => s.linkLive n && s.obj (kLink n 6) ≠ noId)

/-- HEARTBEAT_SEND: one to each module of the list, and one on each live link to its neighbour. A module that is lost to
its peers sends none (R621). -/
def State.heartbeatSend (s : State) : State :=
  if s.ownId = noId || s.modes.lost then s
  else
    let f := at' s.timeNs 171 108
    let s := s.hbPeers.foldl (fun (s : State) p => s.reply p tyHeartbeat 0 0 f []) s
    s.hbLinks.foldl (fun (s : State) n =>
      s.queueOn n { flits := mkFlits (mkHdr (s.obj (kLink n 6)) s.ownId tyHeartbeat 0 0 f 0) [], poison := false, cls := 0,
                    inCls := 0, from_ := none }) s

/-- HEARTBEAT_SEND (R569). -/
def execHeartbeatSend (s : State) : Host.Outcome State Fault Refusal := .next s.heartbeatSend

/-- A module has been heard. -/
def State.heard (s : State) (m : Nat) : State :=
  { s with fab := { s.fab with beats := nset 0 s.fab.beats m s.timeNs, silent := s.fab.silent.erase m } }

/-- HEARTBEAT (R569). -/
def execHeartbeat (s : State) : Host.Outcome State Fault Refusal :=
  .next (match s.takeRx tyHeartbeat with
    | some (p, s) => s.heard (pkSrc p.hdr)
    | none => s)

/-- HEARTBEAT_TIMEOUT: a listed module or a neighbour has been silent for HB_TIMEOUT_MS; it is reported once. -/
def State.heartbeatTimeout (s : State) (m : Nat) : State :=
  let known : Bool := s.hbPeers.contains m || (s.hbLinks.map (fun n => s.obj (kLink n 6))).contains m
  if !known || s.fab.silent.contains m || s.ownId = noId then s
  else if nget 0 s.fab.beats m + s.obj (kDev 0x6000 9) * 1000000 ≤ s.timeNs then
    ({ s with fab := { s.fab with silent := m :: s.fab.silent } } : State).event 0x4A 3 0xFF m 0
  else s

/-- HEARTBEAT_TIMEOUT (R569). -/
def execHeartbeatTimeout (peer : BitVec 17) (s : State) : Host.Outcome State Fault Refusal :=
  .next (s.heartbeatTimeout peer.toNat)

/-- R543, R549, R550: whether a link's route table header lets it lead to a module. A link in no port group, or none of
whose tables is current, may lead anywhere. -/
def State.cablingOk (s : State) (n id : Nat) : Bool :=
  match s.routeBank with
  | none => true
  | some pa =>
    match (List.range 128).find? (fun g => bitAt (s.portGroup pa g) (64 + n)) with
    | none => true
    | some g =>
      let r := s.portGroup pa g
      let own := s.ownId
      let j := pgDim r
      let stride := ((List.range j).map (s.rtSize pa)).foldl (· * ·) 1
      let size := max 1 (s.rtSize pa j)
      let c := s.rtCoord pa j
      let g0 := max 1 (s.rtSize pa 0)
      if pgKind r = 1 then id = s.torusNext pa j
      else if pgKind r = 2 then id = own + (c + size - 1) % size * stride - c * stride
      else if pgKind r = 3 then id / g0 = own / g0 && id ≠ own
      else if pgKind r = 4 then id / g0 ≠ own / g0
      else true

/-- NEIGHBOUR: the link's neighbour objects are set; one that is not expected there raises CABLING. -/
def State.neighbourPacket (s : State) : State :=
  match s.takeRx tyNeighbour with
  | none => s
  | some (p, s) =>
    match p.from_ with
    | none => s
    | some (n, _) =>
      let id := fld p.hdr 165 149
      let s := ((s.setObj (kLink n 6) id).setObj (kLink n 7) (fld p.hdr 171 166)).heard id
      if s.cablingOk n id then s else s.event 0x49 2 0xFF n id

/-- NEIGHBOUR (R543). -/
def execNeighbour (s : State) : Host.Outcome State Fault Refusal := .next s.neighbourPacket

/-- LINK_DOWN: the packets in flight on the lost link that the neighbour has not accepted are routed again, in order. -/
def State.linkDownPacket (s : State) : State :=
  match s.takeRx tyLinkDown with
  | none => s
  | some (p, s) =>
    let n := fld p.hdr 165 160
    let last := fld p.hdr 159 148
    if s.obj (kLink n 6) ≠ pkSrc p.hdr then s
    else
      let s := if s.linkCarries n then s.linkDrop n else s
      let l := s.link n
      if l.lost then s
      else
        let s := s.modLink n (fun l => { l with lostPkts := [], lostAt := none })
        l.lostPkts.foldl (fun (s : State) (x : Nat × Packet) =>
          if (x.1 + 4096 - last - 1) % 4096 < 2048 then s.reroute { x.2 with from_ := none } else s) s

/-- LINK_DOWN (R567). -/
def execLinkDown (s : State) : Host.Outcome State Fault Refusal := .next s.linkDownPacket

end Sys2Proof.Machine
end

