-- ==== Sys2Proof/Machine/Faults.lean ====
section
/-! DEFINITION. Core faults, clusters and the modes that drain (R5, R146, R191, R192, R376, R440, R599 to R603, R608 to
R614, R627, R630). -/

namespace Sys2Proof.Machine

/-! ### Core faults (R146, R599 to R602) -/

/-- Core cycles of 1 ms at the current core clock. -/
def State.msCycles (s : State) : Nat := s.obj (kDev 0x3020 2) * 1000

/-- The count at which the watchdog of a core acts (R146, R627). -/
def State.wdLimit (s : State) (cl site : Nat) : Nat :=
  let w := s.obj (kCore cl site 0 3)
  if s.containment then min w s.msCycles else w

/-- WATCHDOG_FAULT: a core whose count has reached its limit is fenced. -/
def State.watchdogFault (s : State) (cl site : Nat) : State :=
  match s.liveTask cl site with
  | some _ => if s.wdLimit cl site ≤ (s.core cl site).wdCount then s.fenceCore cl site 3 else s
  | none => s

/-- WATCHDOG_FAULT (R146). -/
def execWatchdogFault (core : CoreId) (s : State) : Host.Outcome State Fault Refusal :=
  .next (s.watchdogFault core.c core.s)

/-- FENCE_CAUSE of a fault (R632). -/
def causeNat : CoreFaultCause → Nat
  | .parity => 1
  | .uncorrectable => 2
  | .overrun => 4
  | .signature => 5

/-- CORE_FAULT: a signature is compared in containment mode alone (R599, R626). -/
def State.coreFault (s : State) (cl site : Nat) (cause : CoreFaultCause) : State :=
  if cause = .signature ∧ s.containment = false then s else s.fenceCore cl site (causeNat cause)

/-- CORE_FAULT (R599). -/
def execCoreFault (core : CoreId) (cause : CoreFaultCause) (s : State) : Host.Outcome State Fault Refusal :=
  .next (s.coreFault core.c core.s cause)

/-- A write of FENCE and its status. -/
def State.fenceWrite (s : State) (cl site : Nat) (v : Bool) : State × Nat :=
  if !v then (s, stOk) else if s.siteState cl site = 0 then (s, stState) else (s.fenceCore cl site 6, stOk)

/-- FENCE (R599). -/
def execFence (core : CoreId) (v : Bool) (s : State) : Host.Outcome State Fault Refusal :=
  .next (written (s.fenceWrite core.c core.s v))

/-- A write of UNFENCE and its status: the tests of a fenced core begin (R602). -/
def State.unfence (s : State) (cl site : Nat) (v : Bool) : State × Nat :=
  if !v then (s, stOk)
  else if s.siteState cl site ≠ 3 then (s, stState)
  else (s.modCore cl site (fun c => { c with testing := true }), stOk)

/-- UNFENCE (R602). -/
def execUnfence (core : CoreId) (v : Bool) (s : State) : Host.Outcome State Fault Refusal :=
  .next (written (s.unfence core.c core.s v))

/-- UNFENCE_TEST_DONE: the core is idle again, or stays fenced with cause 7. -/
def State.unfenceDone (s : State) (cl site : Nat) (pass : Bool) : State :=
  let c := s.core cl site
  if s.siteState cl site ≠ 3 || !c.testing || c.task.isSome then s
  else
    let s := s.setCore cl site { c with testing := false }
    if pass then ((s.setObj (kCore cl site 3 3) 0).setObj (kCore cl site 0 1) 1).renumber
    else s.setObj (kCore cl site 3 3) 7

/-- UNFENCE_TEST_DONE (R602). -/
def execUnfenceTestDone (core : CoreId) (pass : Bool) (s : State) : Host.Outcome State Fault Refusal :=
  .next (s.unfenceDone core.c core.s pass)

/-! ### The watchdog's count (R146) -/

/-- The next MMA of a core has its operands and its place. -/
def CoreSt.mmaReady (c : CoreSt) : Bool :=
  match c.issuing with
  | none => false
  | some t =>
    let p := mmaAt t.schuss t.cmd t.issued
    !t.atYield && t.live p && (bankHolds c.bank0 t p || bankHolds c.bank1 t p) && (c.ring t.actRing).resident (t.actSlab p) &&
    c.canReserve t && t.canOpen p

/-- A drain of a core has its operands and its destination. -/
def CoreSt.drainReady (c : CoreSt) : Bool :=
  (List.range 32).any (fun k =>
    match c.readyTile (k / 4) (k % 4) with
    | some ti => cEpi ti.cmd = 0xFF && (c.ring (cORing ti.cmd)).room (ti.oSlab (k / 4) (k % 4)) && c.yReady ti (k / 4) (k % 4)
    | none => false)

/-- A core whose current command has its operands and destinations: an MMA, a drain, a SCHUSS product, a routine step or
a finishing section could go on. -/
def State.couldGo (s : State) (cl site : Nat) : Bool :=
  let c := s.core cl site
  (s.liveTask cl site).isSome &&
  (c.mmaReady || c.drainReady || c.schussNext.isSome || (s.routineGo cl site).isSome || (s.finishGo cl site).isSome)

/-- One reference period of the watchdogs: a core whose work could go on counts the core cycles that pass. -/
def State.wdTick (s : State) : State :=
  if s.moduleState ≠ 3 then s
  else
    let n := s.obj (kDev 0x3020 2) / 100
    { s with cores := s.cores.map (fun p =>
        if s.couldGo (p.1 / 8) (p.1 % 8) then (p.1, { p.2 with wdCount := p.2.wdCount + n }) else p) }

/-! ### Clusters (R608 to R613) -/

/-- Set STATE of a cluster. -/
def State.setCl (s : State) (cl v : Nat) : State := s.setObj (kCl cl 0xB0 2) v

/-- R609: every core of a cluster stops and is emptied; one without a commit under way is idle again. -/
def State.stopCores (s : State) (cl : Nat) : State :=
  (List.range 8).foldl (fun s k =>
    let s := s.discardCore cl k
    if s.siteState cl k = 2 && (s.core cl k).task.isNone then s.setObj (kCore cl k 0 1) 1 else s) s

/-- R609: the entry of a cluster into QUIESCED. -/
def State.quiesceCl (s : State) (cl : Nat) : State :=
  let s := (s.stopCores cl).setCl cl 3
  ((s.leases cl).filter (fun l => l.valid && l.state = .running)).foldl (fun s l => s.expireLease cl l) s

/-- A write of ENABLE of a cluster and its status (R608, R612). -/
def State.enableCl (s : State) (cl : Nat) (v : Bool) : State × Nat :=
  if 4 ≤ s.clState cl then (s, stState)
  else
    let s := s.setObj (kCl cl 0xB0 1) (b2n v)
    if v then (s.setCl cl 0, stOk)
    else if s.clState cl = 0 then ((s.setCl cl 1).drainCluster cl, stOk)
    else (s, stOk)

/-- CLUSTER_ENABLE (R612). -/
def execClusterEnable (cl : Fin 12) (v : Bool) (s : State) : Host.Outcome State Fault Refusal :=
  .next (written (s.enableCl cl.val v))

/-- A write of FORCE of a cluster and its status: its cores are fenced (R608, R614). -/
def State.forceCl (s : State) (cl : Nat) (v : Bool) : State × Nat :=
  if !v then (s, stOk)
  else if s.clState cl ≠ 1 then (s, stState)
  else (((List.range 8).foldl (fun s k => s.fenceCore cl k 6) s).setCl cl 2, stOk)

/-- CLUSTER_FORCE (R608). -/
def execClusterForce (cl : Fin 12) (v : Bool) (s : State) : Host.Outcome State Fault Refusal :=
  .next (written (s.forceCl cl.val v))

/-- A write of QUIESCE and its status. -/
def State.quiesce (s : State) (cl : Nat) (v : Bool) : State × Nat :=
  if !v then (s, stOk) else if 2 < s.clState cl then (s, stState) else (s.quiesceCl cl, stOk)

/-- QUIESCE (R609). -/
def execQuiesce (cl : Fin 12) (v : Bool) (s : State) : Host.Outcome State Fault Refusal :=
  .next (written (s.quiesce cl.val v))

/-- The lease entries of a cluster are cleared and their references released. -/
def State.clearLeases (s : State) (cl : Nat) : State :=
  let mine := (s.leases cl).filter (·.valid)
  let s := mine.foldl (fun (s : State) l => s.unbindVersion l.bound) s
  let s := s.modLeases cl (fun _ => [])
  let ids := (mine.filterMap (·.plan)).eraseDups
  let s := { s with disp := { s.disp with plans := s.disp.plans.map (fun p => p.modPart cl (fun x => { x with reissue := [], saved := [] })) } }
  ids.foldl (fun s id => s.planFail id cFenced) s

/-- A write of RELEASE and its status: re-issue lists, saved tasks and leases are cleared without records, and the
positions are open no longer (R612). A plan that loses a core tile so ends with FENCED. -/
def State.releaseCl (s : State) (cl : Nat) (v : Bool) : State × Nat :=
  if !v then (s, stOk)
  else if s.clState cl ≠ 3 then (s, stState)
  else
    let s := s.clearLeases cl
    ((List.range 16).foldl (fun (s : State) q => s.modQueue cl q (fun _ =>
      { Queue.empty with open_ := (s.disp.plans.filter (fun p => p.cl = cl && p.q = q)).map (·.pos) })) s, stOk)

/-- RELEASE (R612). -/
def execRelease (cl : Fin 12) (v : Bool) (s : State) : Host.Outcome State Fault Refusal :=
  .next (written (s.releaseCl cl.val v))

/-- R612: a context is RUNNING, PREEMPTING or RESTORING. -/
def State.anyCtxActive (s : State) : Bool := (List.range 64).any (fun c => [1, 2, 4].contains (s.ctxState c))

/-- The scratch of a cluster reads zero, and no granule of it has landed. -/
def State.zeroScratch (s : State) (cl : Nat) : State :=
  { s with mem := nfilterOut (fun a => scratchPa cl 0 ≤ a && a < scratchPa cl 0x4000000) s.mem,
           fab := { s.fab with landed := nfilterOut (fun k => k / 2 ^ 18 = cl) s.fab.landed } }

/-- A cluster loses what its scratch and its cores hold. -/
def State.wipeCl (s : State) (cl : Nat) : State :=
  let s := (s.clearLeases cl).zeroScratch cl
  let s := (List.range 16).foldl (fun (s : State) q => s.modQueue cl q (fun _ => Queue.empty)) s
  (List.range 8).foldl (fun s k => s.setCore cl k CoreSt.empty) s

/-- A write of RESET of a cluster and its status (R612). -/
def State.resetCl (s : State) (cl : Nat) (v : Bool) : State × Nat :=
  if !v then (s, stOk)
  else if s.clState cl ≠ 3 || s.anyCtxActive then (s, stState)
  else ((s.wipeCl cl).setCl cl 4, stOk)

/-- CLUSTER_RESET (R612). -/
def execClusterReset (cl : Fin 12) (v : Bool) (s : State) : Host.Outcome State Fault Refusal :=
  .next (written (s.resetCl cl.val v))

/-- CLUSTER_RESET_DONE: the self-test of a resetting cluster ends. -/
def State.resetClDone (s : State) (cl : Nat) (pass : Bool) : State :=
  if s.clState cl ≠ 4 then s else s.setCl cl (if pass then 2 else 6)

/-- CLUSTER_RESET_DONE (R612). -/
def execClusterResetDone (cl : Fin 12) (pass : Bool) (s : State) : Host.Outcome State Fault Refusal :=
  .next (s.resetClDone cl.val pass)

/-- A write of POWER of a cluster and its status (R608, R612). -/
def State.powerCl (s : State) (cl : Nat) (v : Bool) : State × Nat :=
  if v then
    if s.clState cl = 5 then ((s.setObj (kCl cl 0xB0 7) 1).setCl cl 4, stOk) else (s, stOk)
  else if s.clState cl ≠ 3 || s.anyCtxActive then (s, stState)
  else (((s.wipeCl cl).setObj (kCl cl 0xB0 7) 0).setCl cl 5, stOk)

/-- CLUSTER_POWER (R612). -/
def execClusterPower (cl : Fin 12) (v : Bool) (s : State) : Host.Outcome State Fault Refusal :=
  .next (written (s.powerCl cl.val v))

/-- R613: a cluster control fault quiesces the cluster and pre-empts every running context, whose tags are lost. A cluster that serves
nothing already (R608) keeps its state (DESIGN CHOICE, log 155). -/
def State.clusterFault (s : State) (cl cause : Nat) : State :=
  let s := s.event 0x22 3 0xFF cl cause
  let s := if 2 < s.clState cl then s else s.quiesceCl cl
  (List.range 64).foldl (fun s c =>
    let s := if s.ctxState c = 1 then s.beginPreempt c else s
    if s.ctxState c = 2 then s.modCtx c (fun k => { k with tagsLost := true }) else s) s

/-- CLUSTER_CONTROL_FAULT (R613). -/
def execClusterControlFault (cl : Fin 12) (cause : BitVec 32) (s : State) : Host.Outcome State Fault Refusal :=
  .next (s.clusterFault cl.val cause.toNat)

/-- A cluster control fault that no command brings with a cause: the spec gives the causes no numbers, so CLUSTER_FAULT names a free value
(R687, log 85). -/
def State.controlFault (s : State) (cl : Nat) : State := (s.clusterFault cl (Config.freeNat s.free % 2 ^ 32)).tick

/-- LOCKSTEP_MISMATCH: in containment mode a mismatch of a cluster dispatcher is a cluster control fault, and one of the
device dispatcher the loss of the module (R621, R625, R627). -/
def State.lockstep (s : State) (unit : Option (Fin 12)) : State :=
  if !s.containment then s
  else match unit with
    | some cl => s.controlFault cl.val
    | none => { s with modes := { s.modes with lost := true } }

/-- LOCKSTEP_MISMATCH (R627). -/
def execLockstepMismatch (unit : Option (Fin 12)) (s : State) : Host.Outcome State Fault Refusal :=
  .next (s.lockstep unit)

/-- A write of CACHE_MIB and its status (R440). -/
def State.setCache (s : State) (cl v : Nat) : State × Nat :=
  if !([0, 8, 16, 24, 32] : List Nat).contains v then (s, stRange)
  else if (List.range 8).any (fun k => (s.core cl k).task.isSome) then (s, stState)
  else (s.setObj (kCl cl 0x90 1) v, stOk)

/-- CACHE_MIB (R440). -/
def execCacheMib (cl : Fin 12) (v : BitVec 8) (s : State) : Host.Outcome State Fault Refusal :=
  .next (written (s.setCache cl.val v.toNat))

/-! ### Modes that drain (R191, R192, R376, R614, R630) -/

/-- Work in flight that the function and containment modes wait for: tasks, plans and open reductions. -/
def State.anyWork (s : State) : Bool :=
  (List.range 12).any (fun cl => (s.leases cl).any (·.valid)) || s.cores.any (fun c => c.2.task.isSome) ||
  !s.disp.plans.isEmpty || s.reds.any (fun r => r.status = .open_)

/-- A plan whose tiles run under Glide (R350, R458). -/
def Plan.glided (p : Plan) : Bool := dGlide p.desc ≠ 0

/-- Glided tasks in flight, and plans that still start them. -/
def State.anyGlide (s : State) : Bool :=
  s.disp.plans.any Plan.glided || (List.range 12).any (fun cl => (s.leases cl).any (fun l => l.valid && dGlide l.desc ≠ 0)) ||
  s.cores.any (fun c => match c.2.task with
    | some t => t.glide.isSome
    | none => false)

/-- R614: positions in flight on no core end with ABORTED. -/
def State.abortWaiting (s : State) (p : Lease → Bool) : State :=
  (List.range 12).foldl (fun s cl =>
    ((s.leases cl).filter (fun l => l.valid && l.plan.isNone && p l && (l.state = .expired || l.state = .saved))).foldl
      (fun (s : State) l =>
        let s := (s.dropLease cl l.queue none l.pos).modQueue cl l.queue (fun x => { x with
          reissue := x.reissue.erase l.pos, saved := x.saved.filter (fun y => y.pos ≠ l.pos) })
        (s.complete cl l.queue l.pos { plainRec (dTask l.desc) cAborted l.ctx s.timeNs with seq := l.seq }).unbindVersion
          l.bound) s) s

/-- R614: tasks on cores end with ABORTED. -/
def State.abortCores (s : State) (p : Task → Bool) : State :=
  (List.range 96).foldl (fun s i =>
    match (s.core (i / 8) (i % 8)).task with
    | some t => if !t.committed && p t then s.taskFail (i / 8) (i % 8) cAborted else s
    | none => s) s

/-- R614: plans end with ABORTED, their tiles on no core with them. -/
def State.abortPlans (s : State) (q : Plan → Bool) : State :=
  let ids := (s.disp.plans.filter q).map (·.id)
  let s := (List.range 12).foldl (fun s cl => s.modLeases cl (fun t => t.map (fun l =>
    if l.plan.any ids.contains && (l.state = .expired || l.state = .saved) then { l with valid := false } else l))) s
  let ps : List Plan := s.disp.plans.map (fun (p : Plan) =>
    if q p then { p with parts := p.parts.map (fun (x : Nat × PlanCl) => (x.1, { x.2 with reissue := [], saved := [] })) } else p)
  let s : State := { s with disp := { s.disp with plans := ps } }
  ids.foldl (fun s id => s.planFail id cAborted) s

/-- R192: everything in flight ends: tasks and plans with ABORTED, open reductions are cancelled. -/
def State.abortAll (s : State) : State :=
  let s := ((s.abortCores (fun _ => true)).abortWaiting (fun _ => true)).abortPlans (fun _ => true)
  (s.reds.filter (fun r => r.status = .open_)).foldl (fun s r => s.cancelRed r.ctx r.id) s

/-- A write of MODE of object 0x2001 or 0x2002 and its status (R191, R614, R630). -/
def State.setMode (s : State) (idx v : Nat) : State × Nat :=
  if 1 < v then (s, stRange)
  else if s.obj (kDev idx 2) = 1 then (s, stState)
  else if v = s.obj (kDev idx 1) then (s, stOk)
  else
    let s := s.setObj (kDev idx 2) 1
    ({ s with modes := if idx = 0x2002 then { s.modes with function := some v }
                       else { s.modes with containment := some v } }, stOk)

/-- TM1_FUNCTION_MODE (R191). -/
def execTm1FunctionMode (v : BitVec 8) (s : State) : Host.Outcome State Fault Refusal :=
  .next (written (s.setMode 0x2002 v.toNat))

/-- TM1_CONTAINMENT_MODE (R630). -/
def execTm1ContainmentMode (v : BitVec 8) (s : State) : Host.Outcome State Fault Refusal :=
  .next (written (s.setMode 0x2001 v.toNat))

/-- A write of FORCE of object 0x2001 or 0x2002 and its status (R192, R614). -/
def State.forceMode (s : State) (idx : Nat) (v : Bool) : State × Nat :=
  if !v then (s, stOk) else if s.obj (kDev idx 2) ≠ 1 then (s, stState) else (s.abortAll, stOk)

/-- TM1_FUNCTION_MODE_FORCE (R192). -/
def execTm1FunctionModeForce (v : Bool) (s : State) : Host.Outcome State Fault Refusal :=
  .next (written (s.forceMode 0x2002 v))

/-- TM1_CONTAINMENT_FORCE (R630). -/
def execTm1ContainmentForce (v : Bool) (s : State) : Host.Outcome State Fault Refusal :=
  .next (written (s.forceMode 0x2001 v))

/-- A write of ENABLE of Glide (R376). -/
def State.enableGlide (s : State) (v : Bool) : State :=
  let s := s.setObj (kDev 0x2010 1) (b2n v)
  if v then s.setObj (kDev 0x2010 2) 0
  else if s.obj (kDev 0x2010 2) = 0 then s.setObj (kDev 0x2010 2) 1
  else s

/-- GLIDE_ENABLE (R376). -/
def execGlideEnable (v : Bool) (s : State) : Host.Outcome State Fault Refusal := .next (s.enableGlide v)

/-- A write of FORCE of Glide and its status (R376, R614). -/
def State.forceGlide (s : State) (v : Bool) : State × Nat :=
  if !v then (s, stOk)
  else if s.obj (kDev 0x2010 2) ≠ 1 then (s, stState)
  else (((s.abortCores (fun t => t.glide.isSome)).abortWaiting (fun l => dGlide l.desc ≠ 0)).abortPlans Plan.glided, stOk)

/-- GLIDE_FORCE (R376). -/
def execGlideForce (v : Bool) (s : State) : Host.Outcome State Fault Refusal := .next (written (s.forceGlide v))

/-- R191 step 4: the mode that waited applies once nothing is in flight. -/
def State.applyMode (s : State) (idx : Nat) (v : Option Nat) : State :=
  match v with
  | none => s
  | some v => ((s.setObj (kDev idx 1) v).setObj (kDev idx 2) 0).event 0x36 0 0xFF idx v

/-- The end of the drain of the function mode. -/
def State.endFunction (s : State) : State :=
  if s.obj (kDev 0x2002 2) ≠ 1 || s.anyWork then s
  else
    let s' := s.applyMode 0x2002 s.modes.function
    { s' with modes := { s'.modes with function := none } }

/-- The end of the drain of the containment mode. -/
def State.endContainment (s : State) : State :=
  if s.obj (kDev 0x2001 2) ≠ 1 || s.anyWork then s
  else
    let s' := s.applyMode 0x2001 s.modes.containment
    { s' with modes := { s'.modes with containment := none } }

/-- The end of the drain of Glide. -/
def State.endGlide (s : State) : State :=
  if s.obj (kDev 0x2010 2) ≠ 1 || s.anyGlide then s else s.setObj (kDev 0x2010 2) 2

end Sys2Proof.Machine
end

