-- ==== Sys2Proof/Machine/MemCtl.lean ====
section
/-! DEFINITION. The memory controllers' scrub and retirement of blocks (R435 to R439, R605, R606). -/

namespace Sys2Proof.Machine

/-- First local byte past the data blocks of a unit: its sidecar (R422). -/
def sideOff (unit : Nat) : Nat := if unit < 16 then 0xBE0000000 else 0xFE0000000
/-- First local byte of the adder identity tables of a stack. -/
def idOff : Nat := 0xBF7C00000
/-- First local byte of the spare blocks of a unit. -/
def spareOff (unit : Nat) : Nat := if unit < 16 then 0xBF8C00000 else 0xFFFC00000

/-- Spare blocks of a unit. -/
def spares (unit : Nat) : Nat := if unit < 16 then 29696 else 1024

/-- The parts of a unit's storage (R422). -/
inductive Place422 where
  | data (q : Nat)
  | sidecar (q : Nat)
  | identity (ctx redId : Nat)
  | spare (k : Nat)
  deriving DecidableEq, Repr

/-- The part that a local byte lies in. -/
def placeOf (unit off : Nat) : Place422 :=
  if off < sideOff unit then .data (off / 4096)
  else if spareOff unit ≤ off then .spare ((off - spareOff unit) / 4096)
  else if unit < 16 ∧ idOff ≤ off then .identity ((off - idOff) / 0x40000) ((off - idOff) % 0x40000 / 4)
  else .sidecar ((off - sideOff unit) / 32)

/-- Key of a local block in the controllers' tables. -/
def retKey (unit q : Nat) : Nat := unit * 2 ^ 32 + q

/-- The address at which R420 and R421 would place a byte of a unit's local storage: that of a data byte, and one that no data block has
for a byte of the reserved region (DESIGN CHOICE, log 86). -/
def localPa (unit off : Nat) : Nat := blockOf unit (off / 4096) * 4096 + off % 4096

/-- R439: a unit without a free spare is DEGRADED. -/
def State.exhausted (s : State) (unit : Nat) : State := (s.setObj (kDev (unitIdx unit) 1) 2).event 0x28 2 0xFF unit 0

/-- R438, R439: a block is retired into a spare; one that cannot be read receives zeros and a POISONED entry. -/
def State.retire (s : State) (unit q : Nat) (bad : Bool) : State :=
  let blk := blockOf unit q
  let i := unitIdx unit
  let s := if bad then s.poison blk else s
  let n := s.obj (kDev i 8)
  if n = 0 then s.exhausted unit
  else
    let s := if bad then s.put (blk * 4096) (List.replicate 4096 0) else s
    let s := (s.setObj (kDev i 8) (n - 1)).cnt16 (kDev i 7) 1
    let s := { s with mctl := { s.mctl with
        retired := nset 29696 s.mctl.retired (retKey unit q) (spares unit - n),
        ceCount := nset 0 s.mctl.ceCount (retKey unit q) 0 } }
    if n = 1 then s.exhausted unit else s

/-- R435, R438: a corrected error in a data block. -/
def State.correctedAt (s : State) (unit q : Nat) : State :=
  let n := nget 0 s.mctl.ceCount (retKey unit q) + 1
  let s := { s with mctl := { s.mctl with ceCount := nset 0 s.mctl.ceCount (retKey unit q) n } }
  if s.obj (kDev 0x7300 3) ≤ n then s.retire unit q false else s

/-- R606: a block whose sidecar entry cannot be read is POISONED and names no producer. -/
def State.poisonUnread (s : State) (blk : Nat) : State := s.setSide blk (sideEntry 0 2 0 0 0 0)

/-- R436: an uncorrectable error at a place; the region of MEMORY_UE is 0 for data, 1 sidecar, 2 identity, 3 spare (log 86). -/
def State.uncorrectableAt (s : State) (unit : Nat) (p : Place422) : State :=
  match p with
  | .data q => (s.event 0x2A 2 0xFF (blockOf unit q * 4096) 0).retire unit q true
  | .sidecar q =>
    let a := blockOf unit (q / 2 * 2)
    let b := blockOf unit (q / 2 * 2 + 1)
    ((s.event 0x2A 2 0xFF (a * 4096) 1).poisonUnread a).poisonUnread b
  | .identity c r =>
    let s := s.event 0x2A 2 c (localPa unit (idOff + c * 0x40000 + r * 4)) 2
    (s.reds.filter (fun x => x.ctx = c && x.status = .open_ && x.id / 16 = r / 16 &&
      x.blocks.any (fun b => b.adder = unit))).foldl (fun s x => s.cancelRed x.ctx x.id) s
  | .spare k =>
    match s.mctl.retired.find? (fun x => x.1 / 2 ^ 32 = unit && x.2 = k) with
    | some x => (s.event 0x2A 2 0xFF (blockOf unit (x.1 % 2 ^ 32) * 4096) 3).retire unit (x.1 % 2 ^ 32) true
    | none => s.event 0x2A 2 0xFF (localPa unit (spareOff unit + k * 4096)) 3

/-- Words of 64 bytes in a unit's storage. -/
def unitWords (unit : Nat) : Nat := (spareOff unit + spares unit * 4096) / 64

/-- R437: the Groomer's pass of a unit ends with its last word: a new scrub period begins there. -/
def State.passEnd (s : State) (unit word : Nat) : State :=
  if word + 1 ≠ unitWords unit then s
  else
    let s := { s with mctl := { s.mctl with ceCount := nfilterOut (fun k => k / 2 ^ 32 = unit) s.mctl.ceCount } }
    if unit = 15 then (s.cnt48 (kDev 0x7300 4) 1).setObj (kDev 0x7300 5) s.timeNs else s

/-- The block that a spare of a unit serves, once retirement has redirected one there (R438). -/
def State.servedBy (s : State) (unit k : Nat) : Option Nat :=
  (s.mctl.retired.find? (fun x => x.1 / 2 ^ 32 = unit && x.2 = k)).map (fun x => x.1 % 2 ^ 32)

/-- A word that a unit of this module has. -/
def wordExists (unit word : Nat) : Bool := word < unitWords unit && (unit < 16 || unit - 16 < Config.lpddrPresent)

/-- What the ECC of a word that is read does (R435, R436, R438), whoever reads it. -/
def State.eccAt (s : State) (unit word : Nat) (e : EccResult) : State :=
  let p := placeOf unit (word * 64)
  match e with
  | .clean => s
  | .corrected =>
    let s := s.cnt16 (kDev (unitIdx unit) 5) 1
    match p with
    | .data q => s.correctedAt unit q
    | .spare k => ((s.servedBy unit k).map (fun q => s.correctedAt unit q)).getD s
    | _ => s
  | .uncorrectable => (s.cnt16 (kDev (unitIdx unit) 6) 1).uncorrectableAt unit p

/-- GROOMER_SCRUB: one word of a unit is read, and a correction is written back (R435 to R438). -/
def State.scrub (s : State) (unit word : Nat) (e : EccResult) : State :=
  if wordExists unit word then (s.eccAt unit word e).passEnd unit word else s

/-- GROOMER_SCRUB (R437). -/
def execGroomerScrub (unit : MemUnit) (word : BitVec 40) (ecc : EccResult) (s : State) :
    Host.Outcome State Fault Refusal :=
  .next (s.scrub unit.val word.toNat ecc)

/-- A write of RETIRE_PA and its status: the block is retired with a POISONED entry (R605). -/
def State.retirePa (s : State) (pa : Nat) : State × Nat :=
  if !inData pa then (s, stRange) else (s.retire (unitOf pa) (localBlock pa) true, stOk)

/-- RETIRE_PA (R605). -/
def execRetirePa (v : BitVec 64) (s : State) : Host.Outcome State Fault Refusal := .next (written (s.retirePa v.toNat))

end Sys2Proof.Machine
end

