-- ==== Sys2Proof/Machine/Video.lean ====
section
/-! DEFINITION. Video jobs (R571 to R590): their descriptors and checks, decode to tensors and raw frames, and encode. -/

namespace Sys2Proof.Machine

/-! ### Descriptors (R576, R577, R579, R584) -/

/-- OP. -/
def vOp (d : Nat) : Nat := fld d 1023 1016
/-- STREAM. -/
def vStream (d : Nat) : Nat := fld d 1015 1007
/-- CONTEXT. -/
def vCtx (d : Nat) : Nat := fld d 1006 1001
/-- TAG_EN. -/
def vTagEn (d : Nat) : Bool := bitAt d 1000
/-- TAG. -/
def vTag (d : Nat) : Nat := fld d 999 984
/-- JOB_ID. -/
def vJobId (d : Nat) : Nat := fld d 983 952

/-- CLASS of an OPEN_STREAM: 0 decode, 1 encode. -/
def oClass (o : Nat) : Nat := fld o 895 895
/-- CODEC: 0 AV1, 1 HEVC, 2 H.264. -/
def oCodec (o : Nat) : Nat := fld o 894 893
/-- BITS10. -/
def oBits10 (o : Nat) : Bool := bitAt o 892
/-- MAX_W. -/
def oW (o : Nat) : Nat := fld o 891 878
/-- MAX_H. -/
def oH (o : Nat) : Nat := fld o 877 864
/-- NBUF. -/
def oNbuf (o : Nat) : Nat := fld o 863 859 + 1
/-- POOL_ADDR. -/
def oPool (o : Nat) : Nat := fld o 858 811
/-- GOP. -/
def oGop (o : Nat) : Nat := fld o 768 753
/-- REFS. -/
def oRefs (o : Nat) : Nat := fld o 752 751 + 1

/-- BS_ADDR. -/
def dBs (d : Nat) : Nat := fld d 895 848
/-- BS_BYTES. -/
def dBsBytes (d : Nat) : Nat := fld d 847 824
/-- MAX_OUT, or FRAMES of an ENCODE. -/
def dMaxOut (d : Nat) : Nat := fld d 823 814 + 1
/-- TENSOR. -/
def dTensor (d : Nat) : Bool := bitAt d 813
/-- RAW. -/
def dRaw (d : Nat) : Bool := bitAt d 812
/-- GRAIN, or FORCE_KEY of an ENCODE. -/
def dGrain (d : Nat) : Bool := bitAt d 811
/-- DST_ADDR. -/
def dDst (d : Nat) : Nat := fld d 810 763
/-- FMT. -/
def dFmt (d : Nat) : Nat := fld d 762 759
/-- COLOUR: 0 luma, 1 YCbCr, 2 RGB. -/
def dColour (d : Nat) : Nat := fld d 758 757
/-- LINEAR. -/
def dLinear (d : Nat) : Bool := bitAt d 756
/-- CFIRST. -/
def dCfirst (d : Nat) : Bool := bitAt d 755
/-- p of P_LOG. -/
def dP (d : Nat) : Nat := 2 ^ fld d 754 752
/-- t of T_LOG. -/
def dT (d : Nat) : Nat := 2 ^ fld d 751 750
/-- FRAME0. -/
def dFrame0 (d : Nat) : Nat := fld d 749 734
/-- OUT_W. -/
def dOutW (d : Nat) : Nat := fld d 733 720
/-- OUT_H. -/
def dOutH (d : Nat) : Nat := fld d 719 706
/-- OUT_T. -/
def dOutT (d : Nat) : Nat := fld d 705 690
/-- NORM_ADDR. -/
def dNorm (d : Nat) : Nat := fld d 689 642
/-- CSUM. -/
def dCsum (d : Nat) : Bool := bitAt d 641
/-- RAW_ADDR. -/
def dRawAddr (d : Nat) : Nat := fld d 640 593
/-- END. -/
def dEnd (d : Nat) : Bool := bitAt d 592
/-- Channels of the tensor. -/
def dC (d : Nat) : Nat := if dColour d = 0 then 1 else 3
/-- Bytes of a tensor element. -/
def dEb (d : Nat) : Nat := if dFmt d = 2 then 2 else 1

/-- R587: bytes of a frame buffer. -/
def oBufBytes (o : Nat) : Nat :=
  let n := roundUp (oW o) 64 * roundUp (oH o) 64
  roundUp (n * (if oBits10 o then 13 else 7) / 4) 4096

/-! ### Streams and jobs -/

/-- A stream. -/
def State.vstream (s : State) (i : Nat) : VStream := nget VStream.closed s.video.streams i
/-- The job on an engine. -/
def State.vjob (s : State) (e : Nat) : Option VJob := nget none s.video.engines e
/-- Set the job on an engine. -/
def State.setVjob (s : State) (e : Nat) (j : Option VJob) : State :=
  { s with video := { s.video with engines := nset none s.video.engines e j } }

/-- Where a stream's context stands (R590). -/
def State.streamPa (s : State) (i : Nat) : Nat := s.obj (kDev 0x8000 1) + i * 0x10000

/-- A job that ends with codes. -/
def VJob.fail (j : VJob) (codes : List Nat) (detail : Nat) : VJob :=
  { j with ended := true, codes := codes, detail := detail, next := none }

/-- The stream context after a job (R590). -/
def blobOf (src : List Byte) : List Byte := (List.range 0x10000).map (Config.streamByte src 0)

/-- A job that ends with OK. -/
def VJob.good (j : VJob) (src : List Byte) (st : VStream) : VJob :=
  { j with ended := true, next := some st, blob := blobOf src }

/-- R456, R576: the header is malformed, or names a tag that does not exist. -/
def headerBad (j : VJob) : Bool :=
  !([0x01, 0x02, 0x03, 0x10, 0x20] : List Nat).contains (vOp j.desc) || vCtx j.desc ≠ j.ctx || fld j.desc 951 896 ≠ 0 ||
  (vTagEn j.desc && 12287 < vTag j.desc)

/-- R577: OPEN_STREAM's fields are out of range. -/
def openBad (o : Nat) : Bool :=
  let enc : Bool := oClass o = 1
  oCodec o = 3 || oW o % 2 = 1 || oH o % 2 = 1 || oW o < 16 || (if enc then 7680 else 8192) < oW o || oH o < 16 || 4320 < oH o ||
  oPool o % 4096 ≠ 0 || fld o 718 0 ≠ 0 ||
  (enc && (oCodec o = 2 || !oBits10 o || 1 < fld o 810 809 || (fld o 810 809 = 0 && oCodec o = 1 && 51 < fld o 808 801) ||
    oGop o = 0 || fld o 750 735 = 0 || fld o 734 719 = 0))

/-- The settings of a stream: what its OPEN_STREAM holds beside its header and POOL_ADDR (R573). -/
def oSettings (o : Nat) : Nat := fld o 895 859 * 2 ^ 811 + fld o 810 0

/-- OPEN_STREAM. -/
def State.openJob (s : State) (j : VJob) : VJob :=
  if headerBad j || openBad j.desc || (s.vstream (vStream j.desc)).st ≠ 0 then j.fail [cDescriptor] 0
  else j.good (toLE 112 (oSettings j.desc))
    { st := 1, openDesc := j.desc, ring := j.ring, bufs := List.replicate (oNbuf j.desc) (0, false), kept := [], coded := 0 }

/-- The bytes that a stream's decoder or encoder starts from: its context. -/
def State.streamBytes (s : State) (j : VJob) : List Byte := s.bytes (s.streamPa (vStream j.desc)) 0x10000

/-- CLOSE_STREAM. -/
def State.closeJob (s : State) (j : VJob) : VJob :=
  let st := s.vstream (vStream j.desc)
  if headerBad j || fld j.desc 895 0 ≠ 0 || st.st = 0 || st.ring ≠ j.ring then j.fail [cDescriptor] 0
  else j.good (s.streamBytes j) VStream.closed

/-- RESET_STREAM. -/
def State.resetJob (s : State) (j : VJob) : VJob :=
  let st := s.vstream (vStream j.desc)
  if headerBad j || fld j.desc 895 0 ≠ 0 || st.st = 0 || st.ring ≠ j.ring then j.fail [cDescriptor] 0
  else j.good (s.streamBytes j)
    { st with st := 1, bufs := st.bufs.map (fun _ => (0, false)), kept := [], coded := 0 }

/-! ### What DECODE and ENCODE share -/

/-- R582, R584: the fields of a DECODE or ENCODE, and its stream, do not fit. -/
def frameBad (j : VJob) (st : VStream) : Bool :=
  let d := j.desc
  let o := st.openDesc
  let enc : Bool := vOp d = 0x20
  headerBad j || st.st ≠ 1 || st.ring ≠ j.ring || (oClass o = 1) ≠ enc || (!dTensor d && !dRaw d) || dBsBytes d = 0 ||
  dFmt d < 2 || 4 < dFmt d || dColour d = 3 || 4 < fld d 754 752 || fld d 751 750 = 3 || dOutW d % dP d ≠ 0 ||
  dOutH d % dP d ≠ 0 || dOutT d % dT d ≠ 0 || (dTensor d && dOutT d = 0) || (dTensor d && (dOutW d < oW o || dOutH d < oH o)) ||
  dOutT d < dFrame0 d + dMaxOut d || fld d 591 0 ≠ 0 ||
  (if enc then (dTensor d && dRaw d) || dLinear d || dEnd d else dGrain d && oCodec o ≠ 0)

/-- R581: the logical element of a tensor position. -/
def tensorElem (d f x y c : Nat) : Nat :=
  let t := dFrame0 d + f
  let w := dOutW d
  let h := dOutH d
  let n := dC d
  let p := dP d
  let q := dT d
  if p = 1 ∧ q = 1 then
    (if dCfirst d then ((t * n + c) * h + y) * w + x else ((t * h + y) * w + x) * n + c)
  else
    let patch := (t / q * (h / p) + y / p) * (w / p) + x / p
    patch * (q * p * p * n) +
      (if dCfirst d then (c * q + t % q) * (p * p) + y % p * p + x % p
       else ((t % q * p + y % p) * p + x % p) * n + c)

/-- Address of a tensor element. -/
def tensorVa (d f x y c : Nat) : Nat := dDst d + tensorElem d f x y c * dEb d

/-- A value of the normalisation record (R580). -/
def normAt (n : List Byte) (i : Nat) : Nat := leNat ((n.drop (4 * i)).take 4)

/-- R580, R585: the colour matrix over three channels. -/
def colourMix (d : Nat) (n : List Byte) (i : Nat) (t : List Nat) : Nat :=
  if dColour d = 2 then
    (f32fma (normAt n (3 * i + 2)) (nth 0 t 2) (f32fma (normAt n (3 * i + 1)) (nth 0 t 1)
      (f32mul (normAt n (3 * i)) (nth 0 t 0)).1).1).1
  else nth 0 t i

/-- R579: the rows of a raw frame's planes: plane, row, samples in the row. -/
def rawRows (w h : Nat) : List (Nat × Nat × Nat) :=
  let half := fun (pl : Nat) => (List.range (cdiv h 2)).map (fun y => (pl, y, cdiv w 2))
  (List.range h).map (fun y => (0, y, w)) ++ half 1 ++ half 2

/-- Bytes of a raw row. -/
def rawRowBytes (sb n : Nat) : Nat := roundUp (n * sb) 256

/-- Bytes of a raw frame. -/
def rawFrameBytes (sb w h : Nat) : Nat := ((rawRows w h).map (fun r => rawRowBytes sb r.2.2)).sum

/-- The buffers of a stream that are free when a job starts (R588). -/
def VStream.freeBufs (st : VStream) : List Nat :=
  (List.range st.bufs.length).filter (fun i => nth (0, true) st.bufs i = (0, false))

/-- The reference pool's bytes, or the code of the read. -/
def State.poolBytes (s : State) (acc : Acc) (o : Nat) : Except Nat (List Byte) := s.readVa acc (oPool o) (oNbuf o * oBufBytes o)

/-- New pictures in buffers of a pool: address and bytes. -/
def poolWrites (src : List Byte) (o : Nat) (bufs : List Nat) : List (Nat × List Byte) :=
  bufs.map (fun b => (oPool o + b * oBufBytes o, (List.range (oBufBytes o)).map (Config.streamByte src (b + 1))))

/-- The physical pieces of writes that can be made (R594). -/
def State.writable (s : State) (acc : Acc) (l : List (Nat × List Byte)) : List (Nat × Nat) :=
  l.flatMap (fun w => match s.trans acc w.1 w.2.length true with
    | .ok ps => ps
    | .error _ => [])

/-- The codes of writes that cannot be made (R594). -/
def State.writeCodes (s : State) (acc : Acc) (l : List (Nat × List Byte)) : List Nat :=
  l.filterMap (fun w => match s.trans acc w.1 w.2.length true with
    | .ok _ => none
    | .error e => some e)

/-- What a DECODE or ENCODE comes to: the job, its writes, those of them that go into the tensor, and the block that
failed a verification. -/
structure VOut where
  job : VJob
  writes : List (Nat × List Byte)
  tensor : List (Nat × List Byte)
  bad : Option Nat

/-- A job that writes nothing. -/
def VOut.none (j : VJob) : VOut := ⟨j, [], [], Option.none⟩

/-- The RSVD part of a normalisation record that can be read is not 0 (R582). -/
def normBad (norm : Except Nat (List Byte)) : Bool :=
  match norm with
  | .ok l => !((l.drop 76).all (· = 0))
  | .error _ => false

/-- The normalisation record of a job, where it names one. -/
def State.normRec (s : State) (j : VJob) : Except Nat (List Byte) :=
  if dTensor j.desc then s.readVa (s.accOf j.ctx) (dNorm j.desc) 128 else .ok []

/-- A job that completes with DESCRIPTOR (R576, R577, R582, R584). -/
def State.jobBad (s : State) (j : VJob) : Bool :=
  if vOp j.desc = 0x01 then !(s.openJob j).codes.isEmpty
  else if vOp j.desc = 0x02 then !(s.closeJob j).codes.isEmpty
  else if vOp j.desc = 0x03 then !(s.resetJob j).codes.isEmpty
  else frameBad j (s.vstream (vStream j.desc)) || normBad (s.normRec j)

/-- A job that ends before it has run: ABORTED, or DESCRIPTOR where its descriptor gives that (R14, R17, R594, R595). -/
def State.abortJob (s : State) (j : VJob) (detail : Nat) : VJob :=
  if s.jobBad j then j.fail [cDescriptor, cAborted] 0 else j.fail [cAborted] detail

/-- Physical ranges as places. -/
def placesOf (l : List (Nat × Nat)) : List Place := l.map (fun p => ⟨false, p.1, p.2⟩)

/-- The first block of virtual ranges that fails its verification in containment mode (R625). -/
def State.unverifiedVa (s : State) (acc : Acc) (l : List (Nat × Nat)) : Option Nat :=
  s.unverified (placesOf (l.flatMap (fun p => (s.trans acc p.1 p.2 false).toOption.getD [])))

/-- R627: writes that touch a data block in part, in containment mode. -/
def State.partCodes (s : State) (acc : Acc) (l : List (Nat × List Byte)) : List Nat :=
  if s.containment && !coversData (placesOf (s.writable acc l)) then [cDescriptor] else []

/-! ### DECODE (R579 to R583) -/

/-- The settings and bytes that decoding depends on. -/
structure Dec where
  flags : Nat
  src : List Byte

/-- What decoding finds. -/
def Dec.fact (x : Dec) (q i : Nat) : Nat := Config.decodedFact x.flags x.src q i
/-- The stream's codec. -/
def Dec.codec (x : Dec) : Nat := x.flags % 4
/-- The stream holds samples of more than 8 bits. -/
def Dec.wide (x : Dec) : Bool := x.fact 4 0 % 2 = 1
/-- Damage: 0 none, 1 BITSTREAM, 2 UNSUPPORTED, 3 REFERENCE. H.264 of more than 8 bits is not supported (R572). -/
def Dec.err (x : Dec) : Nat :=
  if x.fact 0 0 % 4 = 0 ∧ x.codec = 2 ∧ x.wide then 2 else x.fact 0 0 % 4
/-- Frames that are output. -/
def Dec.frames (x : Dec) : Nat := x.fact 1 0
/-- Width of an output frame. -/
def Dec.w (x : Dec) (f : Nat) : Nat := x.fact 2 f
/-- Height. -/
def Dec.h (x : Dec) (f : Nat) : Nat := x.fact 3 f
/-- Samples of 10 bits: AV1 and HEVC alone have them (R571). -/
def Dec.ten (x : Dec) : Bool := x.codec ≠ 2 && x.wide
/-- Buffers that its pictures need. -/
def Dec.need (x : Dec) : Nat := x.fact 5 0
/-- Luma samples processed. -/
def Dec.samples (x : Dec) : Nat := x.fact 6 0
/-- The largest picture. -/
def Dec.maxW (x : Dec) : Nat := x.fact 9 0
/-- Its height. -/
def Dec.maxH (x : Dec) : Nat := x.fact 10 0
/-- A sample of a plane. -/
def Dec.sample (x : Dec) (f plane i k : Nat) : Nat := Config.decodedSample x.flags x.src f plane i k % (if x.ten then 1024 else 256)

/-- R580 step 1: a chroma plane at luma resolution, as binary32. -/
def Dec.chroma (x : Dec) (lin : Bool) (f plane i k : Nat) : Nat :=
  let cols := resampleCoords true lin (cdiv (x.w f) 2) i
  let rows := resampleCoords true lin (cdiv (x.h f) 2) k
  let at_ := fun (c r : Nat) => f32OfNat (x.sample f plane (nth 0 cols c) (nth 0 rows r))
  if lin then
    (resampleStep true (resampleStep true (at_ 0 0) (at_ 1 0)).1 (resampleStep true (at_ 0 1) (at_ 1 1)).1).1
  else at_ 0 0

/-- R580: the value of a tensor element of a picture position, in binary32, rounded once to FMT, with its events. -/
def Dec.element (x : Dec) (d : Nat) (n : List Byte) (f i k c : Nat) : Nat × Ev :=
  let v := fun (j : Nat) => if j = 0 then f32OfNat (x.sample f 0 i k) else x.chroma (dLinear d) f j i k
  let t := (List.range (dC d)).map (fun j => (f32sub (v j) (normAt n (9 + j))).1)
  elemRound (dFmt d) .rne false (f32v (f32fma (colourMix d n c t) (normAt n (12 + c)) (normAt n (15 + c))).1)

/-- R581: the elements of an output frame, with the count of R580. -/
def Dec.tensor (x : Dec) (d : Nat) (n : List Byte) (f : Nat) : List ((Nat × List Byte) × Nat) :=
  (List.range (dOutH d)).flatMap (fun k => (List.range (dOutW d)).flatMap (fun i => (List.range (dC d)).map (fun c =>
    let va := tensorVa d f i k c
    if x.w f ≤ i ∨ x.h f ≤ k then ((va, toLE (dEb d) (elemRound (dFmt d) .rne false (f32v (normAt n 18))).1), 0)
    else
      let r := x.element d n f i k c
      ((va, toLE (dEb d) r.1), r.2.saturated + r.2.overflow))))

/-- R579: the rows of an output frame as raw planes from an address; padding bytes are free values. -/
def Dec.raw (x : Dec) (f : Nat) : Nat → List (Nat × Nat × Nat) → List (Nat × List Byte)
  | _, [] => []
  | a, (pl, k, n) :: r =>
    let sb := if x.ten then 2 else 1
    let bs := (List.range n).flatMap (fun i => toLE sb (x.sample f pl i k))
    let pad := (List.range (rawRowBytes sb n - bs.length)).map (fun i => Config.freeByte (a + bs.length + i))
    (a, bs ++ pad) :: x.raw f (a + rawRowBytes sb n) r

/-- The raw frames of a job, one after the other. -/
def Dec.raws (x : Dec) (a : Nat) (frames : List Nat) : List (Nat × List Byte) :=
  (frames.foldl (fun (r : Nat × List (Nat × List Byte)) f =>
    (r.1 + rawFrameBytes (if x.ten then 2 else 1) (x.w f) (x.h f), r.2 ++ x.raw f r.1 (rawRows (x.w f) (x.h f)))) (a, [])).2

/-- R588, R589: the stream after a DECODE: marks of the buffers that hold pictures, AV1's never LONG_TERM; END releases every
pending frame (R579). A free buffer that the job did not take stays free. -/
def Dec.stream (x : Dec) (st : VStream) (d : Nat) : VStream :=
  let held := fun (i : Nat) => !st.freeBufs.contains i || (st.freeBufs.take x.need).contains i
  { st with bufs := (List.range st.bufs.length).map (fun i =>
      if held i then (x.fact 7 i % (if x.codec = 0 then 2 else 3), !dEnd d && x.fact 8 i % 2 = 1) else (0, false)) }

/-- R589: what stops a DECODE, with its detail. -/
def Dec.stop (x : Dec) (st : VStream) (d : Nat) : Option (Nat × Nat) :=
  if x.err ≠ 0 then some (cDescriptor, x.err)
  else if oW st.openDesc < x.maxW ∨ oH st.openDesc < x.maxH ∨
      (List.range (min x.frames (dMaxOut d))).any (fun f => oW st.openDesc < x.w f || oH st.openDesc < x.h f) then some (cExtent, 5)
  else if st.freeBufs.length < x.need then some (cExtent, 4)
  else if dMaxOut d < x.frames then some (cExtent, 6)
  else none

/-- Results of reads, or every code among them. -/
def codesOf (l : List (Except Nat (List Byte))) : List Nat :=
  l.filterMap (fun x => match x with
    | .error e => some e
    | .ok _ => none)

/-- The bytes of a read that succeeded. -/
def bytesOf (x : Except Nat (List Byte)) : List Byte :=
  match x with
  | .ok l => l
  | .error _ => []

/-- The block whose check has failed is reported where the job ends with CHECKSUM (R433). -/
def VOut.checked (x : VOut) (b : Option Nat) : VOut := if firstCode x.job.codes = cChecksum then { x with bad := b } else x

/-- DECODE: what the job on an engine comes to, by all the codes that apply (R14). In containment mode what it reads is verified, and it
writes whole blocks alone (R625, R627). -/
def State.decodeJob (s : State) (j : VJob) : VOut :=
  let d := j.desc
  let st := s.vstream (vStream d)
  if frameBad j st then .none (j.fail [cDescriptor] 0)
  else
    let acc := s.accOf j.ctx
    let chunk := s.readVa acc (dBs d) (dBsBytes d)
    let norm := s.normRec j
    let pool := s.poolBytes acc st.openDesc
    let bad := s.unverifiedVa acc ([(dBs d, dBsBytes d), (oPool st.openDesc, oNbuf st.openDesc * oBufBytes st.openDesc)] ++
      (if dTensor d then [(dNorm d, 128)] else []))
    let codes := codesOf [chunk, norm, pool] ++ (if normBad norm then [cDescriptor] else []) ++ (if bad.isSome then [cChecksum] else [])
    if !(codesOf [chunk, pool]).isEmpty || normBad norm then (VOut.none (j.fail codes 0)).checked bad
    else
      let x : Dec := ⟨oCodec st.openDesc + 4 * b2n (dEnd d) + 8 * b2n (dGrain d), s.streamBytes j ++ bytesOf pool ++ bytesOf chunk⟩
      let frames := List.range (min x.frames (dMaxOut d))
      let tens := if dTensor d then frames.flatMap (x.tensor d (bytesOf norm)) else []
      let writes := tens.map (·.1) ++ (if dRaw d then x.raws (dRawAddr d) frames else []) ++
        poolWrites x.src st.openDesc (st.freeBufs.take x.need)
      let j : VJob := { j with samples := x.samples, sat := min 0xFFFF ((tens.map (fun y => y.2)).sum) }
      let stop := x.stop st d
      let all := codes ++ stop.toList.map (·.1) ++ s.writeCodes acc writes ++ s.partCodes acc writes
      if all.isEmpty then
        ⟨{ j.good x.src (x.stream st d) with frames := x.frames, bytes := dBsBytes d }, writes, tens.map (·.1), none⟩
      else
        let detail := match stop with
          | some (c, n) => if firstCode all = c then n else 0
          | none => 0
        (VOut.mk (j.fail all detail) writes (tens.map (·.1)) none).checked bad

/-! ### ENCODE (R584 to R586) -/

/-- R585 steps 1 to 3: channel i of a tensor position as binary32. -/
def inputValue (d : Nat) (n : List Byte) (x : Nat → Nat) (i : Nat) : Nat :=
  let u := (List.range (dC d)).map (fun c => (f32fma (x c) (normAt n (12 + c)) (normAt n (15 + c))).1)
  (f32add (colourMix d n i u) (normAt n (9 + i))).1

/-- R585 step 5: a sample, and whether it was clamped or a NaN. -/
def toSample (v : Nat) : Nat × Nat :=
  match (f32v v).rint with
  | .nan => (0, 1)
  | .inf neg => (if neg then 0 else 1023, 1)
  | w =>
    let i := w.toIntExact
    if i < 0 then (0, 1) else if 1023 < i then (1023, 1) else (i.toNat, 0)

/-- R585 step 4: a chroma value at half resolution, by DOWN2 along width and then height. -/
def halve (w h : Nat) (v : Nat → Nat → Nat) (i k : Nat) : Nat :=
  let cols := resampleCoords false true w i
  let rows := resampleCoords false true h k
  let row := fun (r : Nat) => (resampleStep false (v (nth 0 cols 0) r) (v (nth 0 cols 1) r)).1
  (resampleStep false (row (nth 0 rows 0)) (row (nth 0 rows 1))).1

/-- The samples of one source frame from the tensor, in the order of its raw planes (R585). -/
def frameFromTensor (d o : Nat) (n : List Byte) (elem : Nat → Nat → Nat → Nat) : List (Nat × Nat) :=
  let y := fun (pl i k : Nat) => inputValue d n (elem i k) pl
  (rawRows (oW o) (oH o)).flatMap (fun r => (List.range r.2.2).map (fun i =>
    if r.1 = 0 then toSample (y 0 i r.2.1)
    else if dColour d = 0 then (512, 0)
    else toSample (halve (oW o) (oH o) (y r.1) i r.2.1)))

/-- R586: the frame of a stream that is a key frame. -/
def isKey (o d coded i : Nat) : Bool := (coded + i) % oGop o = 0 || (i = 0 && dGrain d)

/-- R588: the frames kept after one more: the latest key frame and the REFS - 1 latest others, or the last one alone. -/
def keep (refs : Nat) (l : List (Nat × Bool)) : List (Nat × Bool) :=
  if refs = 1 then l.take 1
  else match l.find? (fun x => x.2) with
    | none => l.take (refs - 1)
    | some k =>
      let others := (l.erase k).take (refs - 1)
      l.filter (fun x => x = k || others.contains x)

/-- R588: the stream after coding frames into free buffers. -/
def VStream.afterFrames (st : VStream) (d : Nat) (bufs : List Nat) : VStream :=
  let o := st.openDesc
  let kept := (bufs.zipIdx).foldl (fun (l : List (Nat × Bool)) (b : Nat × Nat) =>
    keep (oRefs o) ((b.1, isKey o d st.coded b.2) :: l)) st.kept
  let key := (kept.find? (fun x => x.2)).map (·.1)
  { st with
    kept := kept, coded := st.coded + bufs.length,
    bufs := (List.range st.bufs.length).map (fun i =>
      (if !kept.any (fun x => x.1 = i) then 0 else if oRefs o ≠ 1 ∧ key = some i then 2 else 1, false)) }

/-- The bytes of the raw source frames. -/
def rawSourceBytes (d o : Nat) : Nat := dMaxOut d * rawFrameBytes 2 (oW o) (oH o)

/-- R584: the tensor range that a job reads. -/
def tensorBytes (d : Nat) : Nat := dOutT d * dOutH d * dOutW d * dC d * dEb d

/-- The physical pieces of the tensor elements that an ENCODE reads, or the code of the translation. -/
def State.inputPieces (s : State) (acc : Acc) (d o : Nat) : Except Nat (List (Nat × Nat)) :=
  match collect ((List.range (dMaxOut d)).flatMap (fun f => (List.range (oH o)).flatMap (fun k => (List.range (oW o)).flatMap
      (fun i => (List.range (dC d)).map (fun c => s.trans acc (tensorVa d f i k c) (dEb d) false))))) with
  | .ok l => .ok l.flatten
  | .error e => .error e

/-- R584, R434: the first block of the input that fails verification. -/
def State.badInput (s : State) (verify : Bool) (l : List (Nat × Nat)) : Option Nat :=
  ((l.filter (fun p => inData p.1)).map (fun p => p.1 / 4096)).eraseDups.find? (fun b =>
    sideState (s.sideOf b) = 2 ||
    (verify && (sideState (s.sideOf b) ≠ 1 || fld (s.sideOf b) 255 224 ≠ s.blockCrc b)))

/-- The samples of an ENCODE's source frames and the count of R585, or a code with the block that failed. -/
def State.sourceFrames (s : State) (j : VJob) (o : Nat) (norm : List Byte) : Except (Nat × Option Nat) (List (Nat × Nat)) :=
  let d := j.desc
  let acc := s.accOf j.ctx
  if dTensor d then
    match s.inputPieces acc d o with
    | .error e => .error (e, none)
    | .ok ps =>
      match s.badInput (dCsum d || s.containment) ps with
      | some b => .error (cChecksum, if sideState (s.sideOf b) = 2 then none else some b)
      | none => .ok ((List.range (dMaxOut d)).flatMap (fun f =>
          frameFromTensor d o norm (fun i k c => match s.readVa acc (tensorVa d f i k c) (dEb d) with
            | .ok bs => (elemToF32 (dFmt d) (leNat bs) 0).1
            | .error _ => 0)))
  else
    match s.readVa acc (dRawAddr d) (rawSourceBytes d o) with
    | .error e => .error (e, none)
    | .ok bs =>
      let rows := rawRows (oW o) (oH o)
      let frame := (rows.foldl (fun (r : Nat × List (Nat × Nat)) (x : Nat × Nat × Nat) =>
        (r.1 + rawRowBytes 2 x.2.2, r.2 ++ (List.range x.2.2).map (fun i => (r.1 + 2 * i, 0)))) (0, [])).2
      .ok ((List.range (dMaxOut d)).flatMap (fun f => frame.map (fun p =>
        (leNat ((bs.drop (f * rawFrameBytes 2 (oW o) (oH o) + p.1)).take 2) % 1024, 0))))

/-- The reference pictures of an encode stream, newest first, each with whether it is a key frame, from the bytes of its pool. -/
def VStream.refBytes (st : VStream) (pool : List Byte) : List Byte :=
  let n := oBufBytes st.openDesc
  st.kept.flatMap (fun k => BitVec.ofNat 8 (b2n k.2) :: (pool.drop (k.1 * n)).take n)

/-- ENCODE: what the job on an engine comes to, by all the codes that apply (R14). The bits depend on the source samples, the stream's
settings and state, FORCE_KEY and the encoder model (R573). -/
def State.encodeJob (s : State) (j : VJob) : VOut :=
  let d := j.desc
  let st := s.vstream (vStream d)
  let o := st.openDesc
  if frameBad j st then .none (j.fail [cDescriptor] 0)
  else
    let acc := s.accOf j.ctx
    let norm := s.normRec j
    let pool := s.poolBytes acc o
    let full : Bool := st.freeBufs.length < dMaxOut d
    let bad := s.unverifiedVa acc ((oPool o, oNbuf o * oBufBytes o) ::
      (if dTensor d then [(dNorm d, 128)] else [(dRawAddr d, rawSourceBytes d o)]))
    let codes := codesOf [norm, pool] ++ (if normBad norm then [cDescriptor] else []) ++ (if full then [cExtent] else []) ++
      (if bad.isSome then [cChecksum] else [])
    let detail := fun (l : List Nat) => if firstCode l = cExtent then (if full then 4 else 6) else 0
    let bufs := st.freeBufs.take (dMaxOut d)
    match s.sourceFrames j o (bytesOf norm) with
    | .error e => (VOut.none (j.fail (codes ++ [e.1]) (detail (codes ++ [e.1])))).checked (e.2.or bad)
    | .ok smp =>
      if !(codesOf [norm, pool]).isEmpty || normBad norm then (VOut.none (j.fail codes (detail codes))).checked bad
      else
        let hdr := toLE 112 (oSettings o) ++ [BitVec.ofNat 8 (b2n (dGrain d))] ++ s.streamBytes j ++ st.refBytes (bytesOf pool)
        let out := Config.encodedBytes (Config.encModel.toNat) hdr (smp.flatMap (fun p => toLE 2 p.1))
        let j : VJob := { j with samples := dMaxOut d * oW o * oH o, sat := min 0xFFFF ((smp.map (fun y => y.2)).sum) }
        let writes := (dBs d, out.take (dBsBytes d)) :: poolWrites (hdr ++ out) o bufs
        let all := codes ++ (if dBsBytes d < out.length then [cExtent] else []) ++ s.writeCodes acc writes ++ s.partCodes acc writes
        if all.isEmpty then
          ⟨{ j.good (hdr ++ out) (st.afterFrames d bufs) with frames := dMaxOut d, bytes := out.length }, writes, [], none⟩
        else (VOut.mk (j.fail all (detail all)) writes [] none).checked bad

/-- The effect of a DECODE or ENCODE on memory: what it writes, or bytes that are undefined where it publishes nothing
(R13); tensor blocks that are written whole are sealed (R583), in containment mode every block (R625), an encoder's with WRITER 0
(DESIGN CHOICE, log 157). -/
def State.applyOut (s : State) (x : VOut) : State :=
  let acc := s.accOf x.job.ctx
  let s := match x.bad with
    | some b => s.badBlockEvent b
    | none => s
  if x.job.codes.isEmpty then
    let sealed := dCsum x.job.desc || s.containment
    let ps := s.writable acc (if s.containment then x.writes else x.tensor)
    let writer := if vOp x.job.desc = 0x10 then 4 else 0
    let s := x.writes.foldl (fun (s : State) w => s.tryWriteVa acc w.1 w.2) s
    if !sealed then s
    else ((coverMap (ps.filter (fun p => inData p.1))).filter (fun b => 4096 ≤ b.2)).foldl (fun (s : State) b =>
      (s.seal b.1 (s.blockCrc b.1) writer x.job.ctx (vJobId x.job.desc) (Config.freeNat s.free % 2 ^ 32)).tick) s
  else (s.writable acc x.writes).foldl (fun (s : State) p => s.writeFree p.1 p.2) s

end Sys2Proof.Machine
end

