-- ==== Sys2Proof/Machine/VideoRows.lean ====
section
/-! DEFINITION. Video rings and engines (R575, R578, R593 to R597): jobs start on engines, end with a record, restart
after a fault, and engines drain and are reset. -/

namespace Sys2Proof.Machine

/-- Key of an object of a video ring (R597). -/
def kVr (i sub : Nat) : Nat := kDev (0x8200 + i) sub
/-- Key of an object of an engine: 0 to 7 decoders, 8 to 11 encoders. -/
def kEng (e sub : Nat) : Nat := kDev (if e < 8 then 0x8100 + e else 0x8180 + (e - 8)) sub
/-- STATE of an engine: 0 ACTIVE, 1 DRAINING, 2 DISABLED, 3 TESTING, 4 FAILED. -/
def State.engState (s : State) (e : Nat) : Nat := s.obj (kEng e 2)
/-- Engines of a class: 0 decode, 1 encode. -/
def classEngines (cls : Nat) : List Nat := if cls = 0 then List.range 8 else [8, 9, 10, 11]
/-- Class of an engine. -/
def engClass (e : Nat) : Nat := if e < 8 then 0 else 1

/-! ### Rings (R575) -/

/-- A write of a video ring's LIMIT and its status (R454). -/
def State.setVideoLimit (s : State) (i v : Nat) : State × Nat :=
  if 0x7FFFFFFF < v then (s, stRange)
  else if v < s.obj (kVr i 5) then (s, stState)
  else (s.setObj (kVr i 5) v, stOk)

/-- A video doorbell of a function; one that is refused is dropped and counted in REFUSED (R697, R698). -/
def State.doorbellVideo (s : State) (fn i v : Nat) : State :=
  let r := s.setVideoLimit i v
  if s.ownsCtx fn (s.obj (kVr i 1)) && r.2 = stOk then r.1 else s.cnt16 (kDev 0x1050 6) 1

/-- VIDEO_RING_LIMIT (R575). -/
def execVideoRingLimit (fn : HostFn) (ringNo : Fin 16) (v : BitVec 32) (s : State) : Host.Outcome State Fault Refusal :=
  .next (s.through fn.val false false (fun s => s.doorbellVideo fn.val ringNo.val v.toNat))

/-- The jobs that have started and have no record yet. -/
def State.runningJobs (s : State) : List VJob :=
  (s.video.engines.filterMap (fun (x : Nat × Option VJob) => x.2)) ++ s.video.again

/-- R453: a ring that may be rebound. -/
def State.ringIdle (s : State) (i : Nat) : Bool :=
  !s.runningJobs.any (fun j => j.ring = i) && s.obj (kVr i 5) ≤ s.obj (kVr i 6)

/-- A write of CONTEXT, RING_ADDR, RING_LOG2 or COMPL_ADDR of a ring and its status (R453). -/
def State.setVideoRing (s : State) (i sub v : Nat) : State × Nat :=
  if (sub = 1 ∧ v ≠ 0xFF ∧ 63 < v) ∨ (sub = 3 ∧ (v < 4 ∨ 16 < v)) then (s, stRange)
  else if !s.ringIdle i then (s, stState)
  else
    let s := s.setObj (kVr i sub) v
    (if sub = 1 then (s.setObj (kVr i 5) 0).setObj (kVr i 6) 0 else s, stOk)

/-- A write of STATE_PA and its status (R597). -/
def State.setStatePa (s : State) (v : Nat) : State × Nat :=
  if hbmTop < v + 0x2000000 then (s, stRange)
  else if s.obj (kDev 0x8000 2) ≠ 0 then (s, stState)
  else (s.setObj (kDev 0x8000 1) v, stOk)

/-! ### The start of a job (R578) -/

/-- A job of a ring from its descriptor. -/
def newJob (ring pos ctx d : Nat) : VJob :=
  { ring := ring, pos := pos, ctx := ctx, desc := d, ended := false, codes := [], detail := 0, frames := 0, bytes := 0,
    sat := 0, samples := 0, next := none, blob := [], outs := [], faults := 0 }

/-- The head of a ring: none where it holds no job that could start; else its descriptor, or the code of its read. -/
def State.videoHead (s : State) (i : Nat) : Option (Except Nat Nat) :=
  let c := s.obj (kVr i 1)
  let n := s.obj (kVr i 6)
  if s.moduleState = 3 && c < 64 && s.ctxState c = 1 && n < s.obj (kVr i 5) then
    some (s.readVaNat (s.accOf c) (s.obj (kVr i 2) + n % 2 ^ s.obj (kVr i 3) * 128) 128)
  else none

/-- The class of a job: that of its OPEN_STREAM, of its stream, or, on a CLOSED stream, of its operation. -/
def State.jobClass (s : State) (d : Nat) : Nat :=
  let st := s.vstream (vStream d)
  if vOp d = 0x01 then oClass d
  else if st.st ≠ 0 then oClass st.openDesc
  else if vOp d = 0x20 then 1
  else 0

/-- The class that serves the head of a ring; a job that cannot be read is served with the decoders. -/
def State.headClass (s : State) (h : Except Nat Nat) : Nat :=
  match h with
  | .ok d => s.jobClass d
  | .error _ => 0

/-- A stream whose previous job has not completed. -/
def State.streamBusy (s : State) (st : Nat) : Bool := s.runningJobs.any (fun j => vStream j.desc = st)

/-- ACTIVE engines of a class. -/
def State.activeEngines (s : State) (cls : Nat) : List Nat := (classEngines cls).filter (fun e => s.engState e = 0)

/-- The lowest-numbered idle ACTIVE engine of a class. -/
def State.idleEngine (s : State) (cls : Nat) : Option Nat := (s.activeEngines cls).find? (fun e => (s.vjob e).isNone)

/-- A job is placed on an engine; a change of its stream counts. -/
def State.placeJob (s : State) (e : Nat) (j : VJob) : State :=
  let last := nget 0 s.video.lastStream e
  let s := if last ≠ 0 ∧ last ≠ vStream j.desc + 1 then s.cnt48 (kEng e 7) 1 else s
  ({ s with video := { s.video with lastStream := nset 0 s.video.lastStream e (vStream j.desc + 1) } } : State).setVjob e
    (some j)

/-- R593: the record of a job, with the engine that completed it. -/
def State.videoRecord (s : State) (j : VJob) (e : Nat) : State :=
  let ok := j.codes.isEmpty
  let r := at' (vJobId j.desc) 255 224 + at' (firstCode j.codes) 223 216 + at' j.detail 215 208 + at' (vStream j.desc) 207 199 +
    at' (engClass e) 198 198 + at' (e % 8) 197 195 + at' (if ok then j.frames else 0) 194 184 +
    at' (if ok then j.bytes else 0) 183 160 + at' j.sat 159 144 + at' s.timeNs 63 0
  let bs := toLE 32 r
  let a := s.obj (kVr j.ring 4) + j.pos % 2 ^ s.obj (kVr j.ring 3) * 32
  (s.tryWriteVa (s.accOf j.ctx) a bs).mirror j.ctx bs

/-- R593: the tag of a job is incremented before its record; a quiesced cluster gives FENCED (R610). -/
def State.videoTag (s : State) (j : VJob) : State × VJob :=
  if !vTagEn j.desc || 12287 < vTag j.desc then (s, j)
  else if s.clServes (tagCl (vTag j.desc)) then (s.tagAdd j.ctx (vTag j.desc) 1, j)
  else (s, { j with codes := j.codes ++ [cFenced] })

/-- A job that reaches no engine completes with codes. -/
def State.videoRefuse (s : State) (j : VJob) (e : Nat) (codes : List Nat) : State :=
  let r := s.videoTag (j.fail codes 0)
  r.1.videoRecord r.2 e

/-- The rings from the one after the ring served last. -/
def State.ringOrder (s : State) : List Nat := (List.range 16).map (fun k => (s.video.lastRing + 1 + k) % 16)

/-- Whether the head of a ring is for engines of a class and can be dealt with now: one whose class has no ACTIVE engine
completes at once, any other waits for its stream. -/
def State.ringReady (s : State) (cls i : Nat) : Bool :=
  match s.videoHead i with
  | none => false
  | some h => s.headClass h = cls &&
    ((s.activeEngines cls).isEmpty || (match h with
      | .ok d => !s.streamBusy (vStream d)
      | .error _ => true))

/-- VIDEO_JOB_START: a job that restarts goes first (R594); else the next ring with a job ready (R578). -/
def State.videoStart (s : State) (cls : Nat) : State :=
  let anyEng := (classEngines cls).headD 0
  match s.video.again.find? (fun j => s.jobClass j.desc = cls) with
  | some j =>
    let rest : State := { s with video := { s.video with again := s.video.again.erase j } }
    if (s.activeEngines cls).isEmpty then
      (let r := rest.videoTag (rest.abortJob j 7)
       r.1.videoRecord r.2 anyEng)
    else (match s.idleEngine cls with
      | some e => rest.placeJob e j
      | none => s)
  | none =>
    match s.ringOrder.find? (s.ringReady cls) with
    | none => s
    | some i =>
      let n := s.obj (kVr i 6)
      let c := s.obj (kVr i 1)
      let take := fun (s : State) => ({ s with video := { s.video with lastRing := i } } : State).setObj (kVr i 6) (n + 1)
      match s.videoHead i with
      | none => s
      | some (.error x) =>
        (take s).tick.videoRefuse (newJob i n c ((Config.freeNat s.free % 2 ^ 32) <<< 952)) anyEng [x]
      | some (.ok d) =>
        if (s.activeEngines cls).isEmpty then (take s).videoRefuse (newJob i n c d) anyEng
            (cDisabled :: if s.jobBad (newJob i n c d) then [cDescriptor] else [])
        else match s.idleEngine cls with
          | some e => (take s).placeJob e (newJob i n c d)
          | none => s

/-- VIDEO_JOB_START (R578). -/
def execVideoJobStart (cls : VideoClass) (s : State) : Host.Outcome State Fault Refusal :=
  .next (s.videoStart (match cls with
    | .decode => 0
    | .encode => 1))

/-! ### The work of a job -/

/-- A job on an engine whose operation is `op`, or none that is defined, is done. -/
def State.videoRun (s : State) (e op : Nat) (f : VJob → State) : State :=
  match s.vjob e with
  | none => s
  | some j =>
    let known : Bool := ([0x01, 0x02, 0x03, 0x10, 0x20] : List Nat).contains (vOp j.desc)
    if j.ended || 1 < s.engState e || (known && vOp j.desc ≠ op) then s else f j

/-- OPEN_STREAM (R577). -/
def execOpenStream (eng : Engine) (s : State) : Host.Outcome State Fault Refusal :=
  .next (s.videoRun eng.val 0x01 (fun j => s.setVjob eng.val (some (s.openJob j))))

/-- CLOSE_STREAM (R577). -/
def execCloseStream (eng : Engine) (s : State) : Host.Outcome State Fault Refusal :=
  .next (s.videoRun eng.val 0x02 (fun j => s.setVjob eng.val (some (s.closeJob j))))

/-- RESET_STREAM (R577). -/
def execResetStream (eng : Engine) (s : State) : Host.Outcome State Fault Refusal :=
  .next (s.videoRun eng.val 0x03 (fun j => s.setVjob eng.val (some (s.resetJob j))))

/-- A job has run: its writes are made, and remembered until its record (R13). -/
def State.videoRan (s : State) (e : Nat) (x : VOut) : State :=
  (s.applyOut x).setVjob e (some { x.job with outs := s.writable (s.accOf x.job.ctx) x.writes })

/-- DECODE (R579). -/
def execDecode (eng : Engine) (s : State) : Host.Outcome State Fault Refusal :=
  .next (s.videoRun eng.val 0x10 (fun j => s.videoRan eng.val (s.decodeJob j)))

/-- ENCODE (R584). -/
def execEncode (eng : Engine) (s : State) : Host.Outcome State Fault Refusal :=
  .next (s.videoRun eng.val 0x20 (fun j => s.videoRan eng.val (s.encodeJob j)))

/-! ### The end of a job (R590, R593) -/

/-- R13: what a job has written and does not publish holds undefined bytes. -/
def State.unpublish (s : State) (j : VJob) : State :=
  let plan := fun (x : VOut) => s.writable (s.accOf j.ctx) x.writes
  let outs := if j.ended then j.outs
    else if vOp j.desc = 0x10 then plan (s.decodeJob j)
    else if vOp j.desc = 0x20 then plan (s.encodeJob j)
    else []
  outs.foldl (fun (s : State) (p : Nat × Nat) => s.writeFree p.1 p.2) s

/-- A stream's state, and the count of streams that are not CLOSED. -/
def State.setStream (s : State) (i : Nat) (st : VStream) : State :=
  let s : State := { s with video := { s.video with streams := nset VStream.closed s.video.streams i st } }
  s.setObj (kDev 0x8000 2) ((s.video.streams.filter (fun (x : Nat × VStream) => x.2.st ≠ 0)).length)

/-- A job that has ended leaves its engine: its context is written back where it ended with OK. -/
def State.finishJob (s : State) (e : Nat) (j : VJob) : State :=
  let i := vStream j.desc
  let s := s.cnt48 (kEng e 6) j.samples
  match j.codes, j.next with
  | [], some st => ((s.write (s.streamPa i) j.blob).setStream i st).cnt48 (kEng e 5) j.frames
  | _, _ =>
    let s := s.cnt16 (kEng e 8) 1
    if vOp j.desc = 0x10 && 1 ≤ j.detail && j.detail ≤ 3 then s.setStream i { s.vstream i with st := 2 } else s

/-- VIDEO_JOB_COMPLETE. -/
def State.videoComplete (s : State) (e : Nat) : State :=
  match s.vjob e with
  | none => s
  | some j =>
    if !j.ended then s
    else
      let r := s.videoTag j
      let s := if j.codes.isEmpty && !r.2.codes.isEmpty then r.1.unpublish j else r.1
      ((s.finishJob e r.2).videoRecord r.2 e).setVjob e none

/-- VIDEO_JOB_COMPLETE (R593). -/
def execVideoJobComplete (eng : Engine) (s : State) : Host.Outcome State Fault Refusal := .next (s.videoComplete eng.val)

/-! ### Faults, drains and resets (R594 to R596) -/

/-- VIDEO_ENGINE_FAULT: the engine of a job is FAILED and its job restarts elsewhere; a second fault, or no other ACTIVE
engine, ends it with ABORTED and detail ENGINE_FAULT. -/
def State.engineFault (s : State) (e : Nat) : State :=
  match s.vjob e with
  | none => s
  | some j =>
    if 1 < s.engState e || j.ended then s
    else
      let cls := engClass e
      let s := (s.setObj (kEng e 2) 4).event 0x50 2 j.ctx (cls * 8 + e % 8) (vJobId j.desc)
      if 1 ≤ j.faults || (s.activeEngines cls).isEmpty then (s.unpublish j).setVjob e (some (s.abortJob j 7))
      else
        let s := s.setVjob e none
        { s with video := { s.video with again := s.video.again ++ [{ j with faults := j.faults + 1 }] } }

/-- VIDEO_ENGINE_FAULT (R594). -/
def execVideoEngineFault (eng : Engine) (s : State) : Host.Outcome State Fault Refusal := .next (s.engineFault eng.val)

/-- A write of ENABLE of an engine and its status (R595, R596, R614). -/
def State.enableEngine (s : State) (e : Nat) (v : Bool) : State × Nat :=
  let st := s.engState e
  if v then
    if st = 3 ∨ st = 4 then (s, stState) else ((s.setObj (kEng e 1) 1).setObj (kEng e 2) 0, stOk)
  else
    let s := s.setObj (kEng e 1) 0
    (if st = 0 then s.setObj (kEng e 2) 1 else s, stOk)

/-- VIDEO_ENGINE_ENABLE (R595). -/
def execVideoEngineEnable (eng : Engine) (v : Bool) (s : State) : Host.Outcome State Fault Refusal :=
  .next (written (s.enableEngine eng.val v))

/-- A write of FORCE of an engine and its status: in the drain its job ends with ABORTED (R595). -/
def State.forceEngine (s : State) (e : Nat) (v : Bool) : State × Nat :=
  if !v then (s, stOk)
  else if s.engState e ≠ 1 then (s, stState)
  else match s.vjob e with
    | some j => ((s.unpublish j).setVjob e (some (s.abortJob j 0)), stOk)
    | none => (s, stOk)

/-- VIDEO_ENGINE_FORCE (R595). -/
def execVideoEngineForce (eng : Engine) (v : Bool) (s : State) : Host.Outcome State Fault Refusal :=
  .next (written (s.forceEngine eng.val v))

/-- The end of the drain of an engine: its job has completed (R595). -/
def State.endEngine (s : State) (e : Nat) : State :=
  if s.engState e = 1 && (s.vjob e).isNone then s.setObj (kEng e 2) 2 else s

/-- A write of RESET of an engine and its status (R596). -/
def State.resetEngine (s : State) (e : Nat) (v : Bool) : State × Nat :=
  if !v then (s, stOk)
  else if s.engState e ≠ 2 ∧ s.engState e ≠ 4 then (s, stState)
  else (s.setObj (kEng e 2) 3, stOk)

/-- VIDEO_ENGINE_RESET (R596). -/
def execVideoEngineReset (eng : Engine) (v : Bool) (s : State) : Host.Outcome State Fault Refusal :=
  .next (written (s.resetEngine eng.val v))

/-- VIDEO_ENGINE_TEST_DONE. -/
def State.engineTested (s : State) (e : Nat) (pass : Bool) : State :=
  if s.engState e = 3 then s.setObj (kEng e 2) (if pass then 2 else 4) else s

/-- VIDEO_ENGINE_TEST_DONE (R596). -/
def execVideoEngineTestDone (eng : Engine) (pass : Bool) (s : State) : Host.Outcome State Fault Refusal :=
  .next (s.engineTested eng.val pass)

end Sys2Proof.Machine
end

