-- ==== Sys2Proof/Machine/Drains.lean ====
section
/-! DEFINITION. The end of a drain (R614). -/

namespace Sys2Proof.Machine

/-- DRAIN_END: a function that drains, and has no work in flight left, is DISABLED, or its new mode applies. -/
def State.drainEnd (s : State) (f : DrainFn) : State :=
  match f with
  | .functionMode => s.endFunction
  | .containment => s.endContainment
  | .glide => s.endGlide
  | .chairlift => s.endChair
  | .cluster cl => s.drainCluster cl.val
  | .link n => s.endLink n.val
  | .engine e => s.endEngine e.val

/-- DRAIN_END (R614). -/
def execDrainEnd (f : DrainFn) (s : State) : Host.Outcome State Fault Refusal := .next (s.drainEnd f)

end Sys2Proof.Machine
end

