-- ==== Sys2Proof/Machine/Power.lean ====
section
/-! DEFINITION. Power, temperature, supply sag and start-up (R633 to R665, R680, R692). -/

namespace Sys2Proof.Machine

/-! ### Reset of the main domain (R528, R634, R651, R680) -/

/-- R634, R680: the objects of the main domain. JTAG_EN returns to 0 at standby power-up only (R704). -/
def mainKey (k : Nat) : Bool :=
  let i := k / 256
  (i = 0x1050 && k % 256 ≠ 8) || i = 0x1051 || i = 0x1052 || (0x2000 ≤ i && i ≤ 0x2FFF) || i = 0x4010 ||
  (0x5000 ≤ i && i ≤ 0xAFFF)

/-- STRAP_LINK_DEFAULT (R532). -/
def State.linkDefault (s : State) : Nat := s.obj (kDev 0x1020 8)

/-- The objects of the main domain that a reset does not change: slot windows, entry addresses, the count of table definitions (R528)
and what follows from the retirement lists (R438), which MRAM keeps, and CABLE_PRESENT, which reads a pin (R706). -/
def keptKey (k : Nat) : Bool :=
  let i := k / 256
  let sub := k % 256
  (0xA100 ≤ i && i ≤ 0xA107 && (sub = 1 || (3 ≤ sub && sub ≤ 5))) || k = kDev 0xA200 1 ||
  (0x7100 ≤ i && i ≤ 0x7207 && (sub = 7 || sub = 8)) || (0x6100 ≤ i && i ≤ 0x613F && sub = 0xF)

/-- R532, R643, R680: the main domain's objects whose defaults the straps give. -/
def State.strapDefaults (s : State) : State :=
  let s := ((s.setObj (kDev 0x2001 1) (s.obj (kDev 0x1020 4))).setObj (kDev 0x2002 1) (s.obj (kDev 0x1020 5))).setObj
    (kDev 0x2003 1) (s.obj (kDev 0x1020 6))
  let d := s.linkDefault
  if d = 1 ∨ d = 2 then
    (List.range 64).foldl (fun (s : State) n => (s.setObj (kLink n 2) 1).setObj (kLink n 4) (d - 1)) s
  else if d = 3 then
    (List.range 64).foldl (fun (s : State) n =>
      let v := nget (0, 0) s.patrol.linkSet n
      (s.setObj (kLink n 2) v.1).setObj (kLink n 4) v.2) s
  else s

/-- R439: the units that no spare block is left to. -/
def State.markDegraded (s : State) : State :=
  (List.range 24).foldl (fun (s : State) u => if s.obj (kDev (unitIdx u) 8) = 0 then s.setObj (kDev (unitIdx u) 1) 2 else s) s

/-- A reset of the main domain: memory, cores, dispatch, adders, Chairlift, links, video and host interface lose what they
hold, and every object of the domain has its default, but for what MRAM keeps. -/
def State.mainReset (s : State) : State :=
  let r := State.reset
  let s : State := { s with
    objs := nfilterOut (fun k => mainKey k && !keptKey k) s.objs, mem := [], side := [], cores := [], disp := r.disp, reds := [],
    chair := { entries := [], tables := cleanTables s.chair.tables, transfers := [] }, fab := r.fab, video := r.video,
    mctl := { s.mctl with ceCount := [] }, host := r.host, modes := r.modes,
    patrol := { s.patrol with queue := s.patrol.queue.filter (fun m => !inbandMsg m) } }
  s.strapDefaults.markDegraded

/-- MODULE_STATE takes a value (R657). -/
def State.setModule (s : State) (v : Nat) : State := s.setObj (kDev 0x3001 1) v

/-- The main rails go down: STANDBY. A snapshot that is being written is lost, and is reported at the next standby boot
(R649), and a trip whose reset was to come holds the module as after that reset (R642). -/
def State.toStandby (s : State) : State :=
  let s := s.mainReset.setModule 0
  { s with power := { s.power with
      snapBusy := false, nextBody := [], nextHdr := [], snapFailed := s.power.snapFailed || s.power.snapBusy, tripAt := none,
      tripped := s.power.tripped || s.power.tripAt.isSome, otherFail := false } }

/-! ### Standby power (R643, R651, R659, R680) -/

/-- What lasts over a loss of standby power (R653, R680): the objects of 0x1010, 0x1040, 0x4000 and 0x4001, and those that
count or stand in MRAM: SAG_WARNINGS and SAG_RESETS, SNAP_VALID and SNAP_SEQ, the versions of the images. -/
def mramKey (k : Nat) : Bool :=
  let i := k / 256
  i = 0x1010 || i = 0x1040 || i = 0x4000 || i = 0x4001 || i = 0x3012 || i = 0x3050 || k = kDev 0x1030 2 || k = kDev 0x1030 3

/-- Standby power is lost: the main domain with it, and all of Patrol that MRAM and flash do not hold. An image whose write
was under way is left invalid (R690). -/
def State.standbyLoss (s : State) : State :=
  let s := s.toStandby
  let t := s.obj (kDev 0x1030 4)
  let torn := s.obj (kDev 0x1030 6) = 1
  let s := if torn then s.setObj (kDev 0x1030 (2 + t)) 0 else s
  let p := s.power
  let q := s.patrol
  { s with
    objs := nfilterOut (fun k => !mramKey k && !keptKey k) s.objs
    power := { State.reset.power with snapFailed := p.snapFailed, snapBody := p.snapBody, snapHdr := p.snapHdr }
    patrol := { q with restarting := false, working := false, heldEvents := [], heldLost := 0, snapFailHeld := false, kept := [], queue := [],
                       written := 0, cut := if torn then t :: q.cut.filter (· ≠ t) else q.cut, on := false } }

/-- STANDBY_POWER_LOSS (R651). -/
def execStandbyPowerLoss (s : State) : Host.Outcome State Fault Refusal := .next s.standbyLoss

/-- R643: the thresholds of a preset of WARN_SEL. -/
def sagPreset (sel : Nat) : Nat × Nat := nth (690, 610) [(690, 610), (670, 580), (710, 630), (740, 640)] sel

/-- PLCA_STATE as PLCA_ENABLE and PLCA_NODE_ID give it: 0 CSMA/CD, 1 follower, 2 coordinator (R667). -/
def State.plcaJoin (s : State) : State :=
  s.setObj (kDev 0x1010 7) (if s.obj (kDev 0x1010 4) = 0 then 0 else if s.obj (kDev 0x1010 5) = 0 then 2 else 1)

/-- R708: the straps, SLOT_ID uppermost, and what each of them gives a default. -/
def State.sampleStraps (s : State) (v : Nat) : State :=
  let s := (((s.setObj (kDev 0x1020 1) (fld v 19 14)).setObj (kDev 0x1020 2) (fld v 13 9)).setObj (kDev 0x1020 3) (fld v 8 7)).setObj
    (kDev 0x1020 4) (fld v 6 6)
  let s := (((s.setObj (kDev 0x1020 5) (fld v 5 5)).setObj (kDev 0x1020 6) (fld v 4 4)).setObj (kDev 0x1020 7) (fld v 3 2)).setObj
    (kDev 0x1020 8) (fld v 1 0)
  let w := sagPreset (fld v 3 2)
  let s := (s.setObj (kDev 0x3010 1) w.1).setObj (kDev 0x3011 1) w.2
  if s.patrol.nodeSet then s else s.setObj (kDev 0x1010 5) (fld v 13 9)

/-- The version of an image that flash holds (R682). -/
def State.imageVersion (s : State) (i : Nat) : Nat :=
  let b := if i = 0 then s.patrol.imgA else s.patrol.imgB
  if s.patrol.cut.contains i then 0
  else if b.isEmpty then (Config.factoryVersion i).toNat
  else Config.imageField b 0 % 2 ^ 32

/-- RUNNING and FW_VERSION of the image that Patrol runs; 2 is recovery. -/
def State.runImage (s : State) (i : Nat) : State :=
  (s.setObj (kDev 0x1030 1) i).setObj (kDev 0x1001 5) (if i = 2 then 0 else s.imageVersion i)

/-- R690: the signature of an image that flash holds verifies, and no power loss cut its write off. The images of manufacture are
valid (log 107). -/
def State.imageGood (s : State) (i : Nat) : Bool :=
  let b := if i = 0 then s.patrol.imgA else s.patrol.imgB
  !s.patrol.cut.contains i && (b.isEmpty || Config.signatureValid b)

/-- Patrol runs image `a` where it is good, else the other, else recovery; it logs each that fails its check (R659, R690). -/
def State.bootFrom (s : State) (good : Nat → Bool) (a : Nat) : State :=
  let bad := fun (s : State) (i : Nat) =>
    let v := s.imageVersion i
    (s.setObj (kDev 0x1030 (2 + i)) 0).event 0x05 2 0xFF i v
  if good a then s.runImage a
  else if good (1 - a) then (bad s a).runImage (1 - a)
  else (bad (bad s a) (1 - a)).runImage 2

/-- R659: Patrol boots the image that BOOT_SRC prefers. An image whose read from flash fails, by the operands, fails its check too. -/
def State.boot (s : State) (okA okB : Bool) : State :=
  let src := s.obj (kDev 0x1020 3)
  let good := fun (i : Nat) => (if i = 0 then okA else okB) && s.imageGood i
  let s := (s.setObj (kDev 0x1030 2) (if good 0 then s.imageVersion 0 else 0)).setObj (kDev 0x1030 3)
    (if good 1 then s.imageVersion 1 else 0)
  if src = 2 then s.runImage 2
  else
    let s := if src = 3 then s.event 0x04 1 0xFF 0 0 else s
    s.bootFrom good (if src = 1 then 1 else 0)

/-- STANDBY_POWER_UP: the standby domain comes up, the straps are sampled, module time is 0 and Patrol boots. -/
def State.standbyUp (s : State) (straps : Nat) (okA okB : Bool) : State :=
  let s := s.standbyLoss
  let s : State := { s with timeNs := 0, patrol := { s.patrol with on := true } }
  let s := ((s.sampleStraps straps).mainReset.boot okA okB).plcaJoin
  if s.power.snapFailed then
    ({ s with power := { s.power with snapFailed := false } } : State).event 0x14 3 0xFF (s.obj (kDev 0x3050 2)) 0
  else s

/-- STANDBY_POWER_UP (R659). -/
def execStandbyPowerUp (straps : BitVec 20) (imgA imgB : Bool) (s : State) : Host.Outcome State Fault Refusal :=
  .next (s.standbyUp straps.toNat imgA imgB)

/-! ### Power-up (R635, R652, R657) -/

/-- Results of self-test at their defaults: running (R665). -/
def State.clearResults (s : State) : State :=
  { s with objs := nfilterOut (fun k => 0x4100 ≤ k / 256 && k / 256 ≤ 0x4105) s.objs,
           power := { s.power with otherFail := false } }

/-- POWER_UP: from STANDBY the rails ramp, once POWER_CTRL is 1, the input has recovered, and no trip holds the module
(R657). In recovery Patrol waits for an image (R659), and while it restarts MODULE_STATE does not change (R692). -/
def State.powerUp (s : State) : State :=
  if s.moduleState = 0 && s.patrol.on && s.obj (kDev 0x3001 2) = 1 && !s.power.inputLow && !s.power.tripped &&
      s.obj (kDev 0x1030 1) ≠ 2 && !s.patrol.restarting then s.mainReset.clearResults.setModule 1
  else s

/-- POWER_UP (R635). -/
def execPowerUp (s : State) : Host.Outcome State Fault Refusal := .next s.powerUp

/-- The module enters Lodge (R657, R687). -/
def State.toLodge (s : State) (phase : Nat) : State :=
  (((s.setObj (kDev 0x4100 1) 3).setObj (kDev 0x4100 2) phase).setModule 5).event 0x02 3 0xFF phase 0

/-- RAIL_FAULT: rail `r` of the ramp misses its window. -/
def State.railFault (s : State) (r : Nat) : State :=
  if s.moduleState ≠ 1 ∨ r = 0 then s
  else if r ≤ 2 then s.toStandby.event 0x03 3 0xFF r 0
  else ({ s with power := { s.power with otherFail := true } } : State).toLodge 0

/-- RAIL_FAULT (R635). -/
def execRailFault (rail : Fin 8) (s : State) : Host.Outcome State Fault Refusal := .next (s.railFault rail.val)

/-- START_GATE: the clocks start on one edge, self-test begins, and the PCIe link trains (R652, R657, R660). -/
def State.startGate (s : State) : State :=
  if s.moduleState ≠ 1 then s else (s.setModule 2).setObj (kDev 0x1050 1) 1

/-- START_GATE (R652). -/
def execStartGate (s : State) : Host.Outcome State Fault Refusal := .next s.startGate

/-! ### Self-test (R660 to R664) -/

/-- Bits of the enabled sites of a cluster (R3). -/
def fuses (cl : Nat) : Nat := (nth 0 Config.fuseMap cl).toNat

/-- CLUSTER_RESULT of a cluster: its enabled sites that failed, and bit 8. -/
def stCluster (r : SelfTest) (cl : Nat) : Nat :=
  let w := (nth 0 r.clusters cl).toNat
  (w &&& fuses cl) + w / 256 % 2 * 256

/-- MEM_RESULT of a unit. -/
def stMem (r : SelfTest) (u : Nat) : Nat :=
  if 16 + Config.lpddrPresent ≤ u then 3 else if nth false r.mems u then 1 else 2

/-- Something other than a core failed (R660, R663). -/
def stOther (r : SelfTest) : Bool :=
  (List.range 12).any (fun cl => stCluster r cl / 256 = 1) || (List.range 24).any (fun u => stMem r u = 2) || r.adderFail ||
  r.dispatchFail

/-- The objects that report the results (R665). -/
def State.report (s : State) (r : SelfTest) : State :=
  let s := (List.range 12).foldl (fun (s : State) i => s.setObj (kDev 0x4101 (i + 1)) (stCluster r i)) s
  let s := (List.range 24).foldl (fun (s : State) i => s.setObj (kDev 0x4102 (i + 1)) (stMem r i)) s
  let s := (List.range 64).foldl (fun (s : State) i => s.setObj (kDev 0x4103 (i + 1)) (nth 0 r.links i).toNat) s
  let s := (List.range 12).foldl (fun (s : State) i => s.setObj (kDev 0x4104 (i + 1)) (if nth false r.engines i then 1 else 2)) s
  s.setObj (kDev 0x4105 1) r.sfuFail.toNat

/-- R439, R660: a unit or a video engine that failed reads FAILED; R661: links with two bad lanes. -/
def State.markFailed (s : State) (r : SelfTest) : State :=
  let s := (List.range 24).foldl (fun (s : State) u =>
    if s.obj (kDev 0x4102 (u + 1)) = 2 then s.setObj (kDev (unitIdx u) 1) 3 else s) s
  let s := (List.range 12).foldl (fun (s : State) e => if s.obj (kDev 0x4104 (e + 1)) = 2 then s.setObj (kEng e 2) 4 else s) s
  { s with power := { s.power with badLinks := (List.range 64).filter (fun n => nth 0 r.links n = 0) } }

/-- R429, R660: every data block is zeroed and every sidecar entry is 0. -/
def State.zeroMemory (s : State) : State := { s with mem := [], side := [] }

/-- The cores read IDLE, those that failed FENCED with cause 7 (R602, R663), and the others are numbered (R5). -/
def State.placeCores (s : State) : State :=
  ((List.range 96).foldl (fun (s : State) i =>
    let cl := i / 8
    let k := i % 8
    if !bitAt (fuses cl) k then s
    else if bitAt (s.obj (kDev 0x4101 (cl + 1))) k then (s.setObj (kCore cl k 0 1) 3).setObj (kCore cl k 3 3) 7
    else s.setObj (kCore cl k 0 1) 1) s).renumber

/-- READY: cores are placed, links that are to train do so, and the event is logged (R657, R660, R661, R687). -/
def State.toReady (s : State) : State :=
  let before := s.moduleState
  let s := s.placeCores.setModule 3
  let s := (List.range 64).foldl (fun (s : State) n =>
    if s.obj (kLink n 2) = 0 then s else if s.linkBad n then s.setObj (kLink n 2) 0 else s.turnLink n true) s
  s.event 0x01 0 0xFF before 0

/-- SELFTEST_DONE: the phases end; a FAIL makes Lodge, and anything else READY. -/
def State.selftestDone (s : State) (r : SelfTest) : State :=
  if s.moduleState ≠ 2 then s
  else
    let s := ((s.report r).zeroMemory).markFailed r
    let cores := (List.range 12).any (fun cl => stCluster r cl % 256 ≠ 0)
    let weak := (List.range 64).any (fun n => nth 0 r.links n = 0) || (List.range 12).any (fun e => !nth false r.engines e)
    if cores || stOther r then
      ({ s with power := { s.power with otherFail := stOther r } } : State).toLodge r.failPhase.toNat
    else (s.setObj (kDev 0x4100 1) (if weak then 2 else 1)).toReady

/-- SELFTEST_DONE (R660). -/
def execSelftestDone (r : SelfTest) (s : State) : Host.Outcome State Fault Refusal := .next (s.selftestDone r)

/-- A write of ACCEPT_REDUCED and its status: accepted when cores alone failed and each cluster keeps one (R663). -/
def State.acceptReduced (s : State) (v : Bool) : State × Nat :=
  if !v then (s, stOk)
  else if s.moduleState ≠ 5 || s.power.otherFail ||
      (List.range 12).any (fun cl => s.obj (kDev 0x4101 (cl + 1)) % 256 = fuses cl) then (s, stState)
  else ((s.setObj (kDev 0x4100 3) 1).toReady, stOk)

/-- ACCEPT_REDUCED (R663). -/
def execAcceptReduced (v : Bool) (s : State) : Host.Outcome State Fault Refusal := .next (written (s.acceptReduced v))

/-- A write of RETEST and its status: power-up starts again at the rail ramp (R664). -/
def State.retest (s : State) (v : Bool) : State × Nat :=
  if !v then (s, stOk)
  else if s.moduleState ≠ 5 then (s, stState)
  else (s.mainReset.clearResults.setModule 1, stOk)

/-- RETEST (R664). -/
def execRetest (v : Bool) (s : State) : Host.Outcome State Fault Refusal := .next (written (s.retest v))

/-! ### The governor and the temperature loop (R638 to R642) -/

/-- The core clock is the smaller of the caps; a cap that falls and takes the clock with it is a step down (R638, R665). -/
def State.setCap (s : State) (sub v : Nat) : State :=
  let s := s.setObj (kDev 0x3020 sub) v
  let m := min (s.obj (kDev 0x3020 3)) (s.obj (kDev 0x3020 4))
  let s := if m < s.obj (kDev 0x3020 2) then s.cnt48 (kDev 0x3020 5) 1 else s
  s.setObj (kDev 0x3020 2) m

/-- A cap one step lower, and one step higher. -/
def capDown (v : Nat) : Nat := max 800 (v - 100)
/-- A cap one step higher. -/
def capUp (v : Nat) : Nat := min 1600 (v + 100)

/-- GOVERNOR_LOOP: the input power averaged over the last millisecond moves POWER_CAP_MHZ. While Patrol restarts the caps
hold (R692). -/
def State.governor (s : State) (w : Nat) : State :=
  if s.patrol.restarting || !s.patrol.on then s
  else
    let s := s.setObj (kDev 0x3001 4) w
    let lim := s.obj (kDev 0x3020 1)
    let cap := s.obj (kDev 0x3020 3)
    let p := s.power
    if lim < w then
      let n := if cap = 800 then p.unmet + 1 else 0
      let s : State := { s with power := { p with below := 0, unmet := n } }
      let s := if n = 10 then s.event 0x1A 2 0xFF w 0 else s
      s.setCap 3 (capDown cap)
    else if w < lim - 100 then
      if p.below + 1 < 10 then { s with power := { p with below := p.below + 1, unmet := 0 } }
      else ({ s with power := { p with below := 0, unmet := 0 } } : State).setCap 3 (capUp cap)
    else { s with power := { p with below := 0, unmet := 0 } }

/-- GOVERNOR_LOOP (R638). -/
def execGovernorLoop (watts : BitVec 16) (s : State) : Host.Outcome State Fault Refusal := .next (s.governor watts.toNat)

/-- POWER_CLAMP: above 2,200 W the clock and both caps fall to 800 MHz. -/
def State.clamp (s : State) (w : Nat) : State :=
  if w ≤ 2200 then s
  else (((s.setObj (kDev 0x3020 3) 800).setObj (kDev 0x3020 4) 800).setObj (kDev 0x3020 2) 800).cnt16 (kDev 0x3020 6) 1

/-- POWER_CLAMP (R640). -/
def execPowerClamp (watts : BitVec 16) (s : State) : Host.Outcome State Fault Refusal := .next (s.clamp watts.toNat)

/-- A temperature in hundredths of a degree as an I32 object holds it. -/
def i32Nat (v : Int) : Nat := (v % 2 ^ 32).toNat
/-- The value of an I32 object. -/
def natI32 (n : Nat) : Int := if n < 2 ^ 31 then n else (n : Int) - 2 ^ 32

/-- Key of a temperature object: junctions 0 to 33, stacks 34 to 49. -/
def kTemp (i : Nat) : Nat := if i < 34 then kDev 0x3031 (i + 1) else kDev 0x3032 (i - 34 + 1)
/-- The reading of a sensor. -/
def State.temp (s : State) (i : Nat) : Int := natI32 (s.obj (kTemp i))
/-- The throttle limit of a sensor, in hundredths of a degree. -/
def State.throttleAt (s : State) (i : Nat) : Int := (s.obj (kDev 0x3030 (if i < 34 then 1 else 2)) : Int) * 100
/-- The trip value of a sensor. -/
def State.tripValue (s : State) (i : Nat) : Int := (s.obj (kDev 0x3030 (if i < 34 then 3 else 4)) : Int) * 100

/-- THERMAL_LOOP: Patrol reads the sensors and moves THERMAL_CAP_MHZ; each fall is logged. -/
def State.thermal (s : State) (tj th : List Int) : State :=
  if s.patrol.restarting || !s.patrol.on then s
  else
    let s := ((tj.take 34).zipIdx).foldl (fun (s : State) (x : Int × Nat) => s.setObj (kTemp x.2) (i32Nat x.1)) s
    let s := ((th.take 16).zipIdx).foldl (fun (s : State) (x : Int × Nat) => s.setObj (kTemp (34 + x.2)) (i32Nat x.1)) s
    let cap := s.obj (kDev 0x3020 4)
    match (List.range 50).find? (fun i => s.throttleAt i < s.temp i) with
    | some i =>
      let s : State := { s with power := { s.power with cool := 0 } }
      if cap ≤ 800 then s else (s.setCap 4 (capDown cap)).event 0x18 1 0xFF i (s.obj (kTemp i))
    | none =>
      if (List.range 50).all (fun i => s.temp i ≤ s.throttleAt i - 500) then
        if s.power.cool + 1 < 10 then { s with power := { s.power with cool := s.power.cool + 1 } }
        else ({ s with power := { s.power with cool := 0 } } : State).setCap 4 (capUp cap)
      else { s with power := { s.power with cool := 0 } }

/-- THERMAL_LOOP (R641). -/
def execThermalLoop (tj : List Int) (th : List Int) (s : State) : Host.Outcome State Fault Refusal := .next (s.thermal tj th)

/-! ### Supply sag and the snapshot (R642 to R651) -/

/-- The section of a context in the snapshot (R648). -/
def State.snapSection (s : State) (c : Nat) : List Byte :=
  let body := s.sections c (min 1024 (s.logHeld c))
  s.commitHeader c (4096 + body.length) (s.obj (kCommit c 6)) 0 ++ body

/-- The contexts that are not IDLE. -/
def State.busyCtxs (s : State) : List Nat := (List.range 64).filter (fun c => s.ctxState c ≠ 0)

/-- The snapshot's header (R648). -/
def State.snapHeader (s : State) (n total : Nat) : List Byte :=
  let h := toLE 1 1 ++ toLE 1 n ++ toLE 2 0 ++ toLE 4 (s.obj (kDev 0x3050 2)) ++ toLE 4 s.ownId ++ toLE 4 0 ++ toLE 8 s.timeNs ++
    toLE 8 total ++ toLE 4060 0
  h ++ toLE 4 (crc32c h)

/-- R648: the old header is cleared and the snapshot begins. -/
def State.beginSnapshot (s : State) : State :=
  let s := (s.setObj (kDev 0x3050 1) 0).setObj (kDev 0x3050 2) ((s.obj (kDev 0x3050 2) + 1) % 2 ^ 32)
  let body := s.busyCtxs.flatMap s.snapSection
  { s with power := { s.power with
      snapBusy := true, snapHdr := [], nextBody := body, nextHdr := s.snapHeader s.busyCtxs.length (4096 + body.length) } }

/-- R646: the actions of a warning in READY, with the event that reports it. While Patrol restarts it writes no snapshot
(R692). -/
def State.hold (s : State) (code sev p0 p1 : Nat) : State :=
  let s := (List.range 64).foldl (fun (s : State) c => if s.commitState c = 1 then s.commitFail c else s) s
  let s := ({ s with power := { s.power with holdAt := s.timeNs } } : State).setModule 4
  let s := (s.raise 0 1).event code sev 0xFF p0 p1
  if s.busyCtxs.isEmpty then s
  else if s.patrol.restarting then
    ({ s with patrol := { s.patrol with snapFailHeld := true }, power := { s.power with snapHdr := [] } } : State).setObj
      (kDev 0x3050 1) 0
  else s.beginSnapshot

/-- A warning, by module state: a hold in READY, the end of a power-up, and elsewhere the event alone (R646). -/
def State.warn (s : State) (code sev p0 p1 : Nat) : State :=
  if s.moduleState = 3 then s.hold code sev p0 p1
  else if s.moduleState = 1 ∨ s.moduleState = 2 then s.toStandby.event code sev 0xFF p0 p1
  else s.event code sev 0xFF p0 p1

/-- SAG_WARNING: the input is below the warning threshold. -/
def State.sagWarning (s : State) (v : Nat) : State :=
  if s.obj (kDev 0x3010 1) ≤ v || !s.patrol.on then s
  else
    let s := (s.setObj (kDev 0x3001 3) v).cnt16 (kDev 0x3012 1) 1
    ({ s with power := { s.power with inputLow := true } } : State).warn 0x10 2 v 0

/-- SAG_WARNING (R646). -/
def execSagWarning (volts : BitVec 16) (s : State) : Host.Outcome State Fault Refusal := .next (s.sagWarning volts.toNat)

/-- SNAPSHOT_WRITTEN: the header is written, and the snapshot is valid. -/
def State.snapshotWritten (s : State) : State :=
  let p := s.power
  if !p.snapBusy || s.patrol.restarting then s
  else
    let s := ({ s with power := { p with snapBusy := false, snapBody := p.nextBody, snapHdr := p.nextHdr, nextBody := [],
                                         nextHdr := [] } } : State).setObj (kDev 0x3050 1) 1
    s.event 0x13 0 0xFF (s.obj (kDev 0x3050 2)) (4096 + p.nextBody.length)

/-- SNAPSHOT_WRITTEN (R649). -/
def execSnapshotWritten (s : State) : Host.Outcome State Fault Refusal := .next s.snapshotWritten

/-- R647: every EXPIRES is advanced by the duration of the hold. -/
def State.advanceLeases (s : State) (d : Nat) : State :=
  { s with disp := { s.disp with leases := s.disp.leases.map (fun (x : Nat × List Lease) =>
      (x.1, x.2.map (fun l => { l with expires := (l.expires + d) % 2 ^ 64 }))) } }

/-- SAG_RECOVERED: the input has recovered; a hold that no trip caused is released (R642, R650). -/
def State.sagRecovered (s : State) : State :=
  let s : State := { s with power := { s.power with inputLow := false } }
  if s.moduleState ≠ 4 || s.power.tripAt.isSome then s
  else
    let d := s.timeNs - s.power.holdAt
    ((s.advanceLeases d).setModule 3).event 0x11 0 0xFF (d / 1000) 0

/-- SAG_RECOVERED (R650). -/
def execSagRecovered (s : State) : Host.Outcome State Fault Refusal := .next s.sagRecovered

/-- SAG_RESET: the input is below the reset threshold. -/
def State.sagReset (s : State) : State :=
  let s := s.toStandby.cnt16 (kDev 0x3012 2) 1
  ({ s with power := { s.power with inputLow := true } } : State).event 0x12 3 0xFF 0 0

/-- SAG_RESET (R651). -/
def execSagReset (s : State) : Host.Outcome State Fault Refusal := .next s.sagReset

/-- THERMAL_TRIP: a sensor is above its trip value. Where the warning's actions lead to STANDBY the trip holds the module at once. -/
def State.thermalTrip (s : State) (i : Nat) (v : Int) : State :=
  if v ≤ s.tripValue i || s.moduleState = 0 then s
  else
    let s := (s.setObj (kTemp i) (i32Nat v)).warn 0x19 3 i (i32Nat v)
    if s.moduleState = 0 then { s with power := { s.power with tripped := true } }
    else { s with power := { s.power with tripAt := some (s.power.tripAt.getD s.timeNs) } }

/-- THERMAL_TRIP (R642). -/
def execThermalTrip (sensor : Fin 50) (reading : Int) (s : State) : Host.Outcome State Fault Refusal :=
  .next (s.thermalTrip sensor.val reading)

/-- THERMAL_TRIP_RESET: 5 ms after a trip the main domain is reset, and the module stays in STANDBY. -/
def State.tripReset (s : State) : State :=
  match s.power.tripAt with
  | some t =>
    if s.timeNs < t + 5000000 then s
    else s.toStandby
  | none => s

/-- THERMAL_TRIP_RESET (R642). -/
def execThermalTripReset (s : State) : Host.Outcome State Fault Refusal := .next s.tripReset

/-! ### Writes (R643, R644, R649, R656, R658) -/

/-- A write of POWER_CTRL and its status (R642, R658). -/
def State.powerCtrl (s : State) (v : Bool) : State × Nat :=
  if v then
    if s.power.tripped && !(List.range 50).all (fun i => s.temp i ≤ s.throttleAt i - 1000) then (s, stState)
    else (({ s with power := { s.power with tripped := false } } : State).setObj (kDev 0x3001 2) 1, stOk)
  else if s.anyCtxActive then (s, stState)
  else (s.toStandby.setObj (kDev 0x3001 2) 0, stOk)

/-- POWER_CTRL (R658). -/
def execPowerCtrl (v : Bool) (s : State) : Host.Outcome State Fault Refusal := .next (written (s.powerCtrl v))

/-- A write of TIME_NS and its status (R656). -/
def State.setTime (s : State) (v : Nat) : State × Nat :=
  if s.anyCtxActive then (s, stState) else ({ s with timeNs := v }, stOk)

/-- TIME_NS (R656). -/
def execTimeNs (v : BitVec 64) (s : State) : Host.Outcome State Fault Refusal := .next (written (s.setTime v.toNat))

/-- R644: the energy between the thresholds carries the module through a snapshot. -/
def sagPairOk (w r : Nat) : Bool := r * r + 82500 ≤ w * w

/-- A write of SAG_WARN_V and its status (R643, R644). -/
def State.setWarnV (s : State) (v : Nat) : State × Nat :=
  if v < 650 ∨ 740 < v then (s, stRange)
  else if sagPairOk v (s.obj (kDev 0x3011 1)) then (s.setObj (kDev 0x3010 1) v, stOk)
  else (s, stState)

/-- SAG_WARN_V (R644). -/
def execSagWarnV (v : BitVec 16) (s : State) : Host.Outcome State Fault Refusal := .next (written (s.setWarnV v.toNat))

/-- A write of SAG_RESET_V and its status (R643, R644). -/
def State.setResetV (s : State) (v : Nat) : State × Nat :=
  if v < 580 ∨ 640 < v then (s, stRange)
  else if sagPairOk (s.obj (kDev 0x3010 1)) v then (s.setObj (kDev 0x3011 1) v, stOk)
  else (s, stState)

/-- SAG_RESET_V (R644). -/
def execSagResetV (v : BitVec 16) (s : State) : Host.Outcome State Fault Refusal := .next (written (s.setResetV v.toNat))

/-- A write of SNAP_CLEAR: the snapshot is invalid (R649, R665). -/
def State.snapClear (s : State) (v : Bool) : State :=
  if v then ({ s with power := { s.power with snapHdr := [] } } : State).setObj (kDev 0x3050 1) 0 else s

/-- SNAP_CLEAR (R649). -/
def execSnapClear (v : Bool) (s : State) : Host.Outcome State Fault Refusal := .next (s.snapClear v)

end Sys2Proof.Machine
end

