-- ==== Sys2Proof/Machine/Dict.lean ====
section
/-! DEFINITION. The object dictionary as Patrol serves it (R679 to R682, and the object table of every chapter): the
value of each object, the write of each, the CLEAR objects, Patrol's keys and images. -/

namespace Sys2Proof.Machine

/-! ### CLEAR (R450 and the object tables) -/

/-- The CLEAR object of an index: its subindex, and the subindices that it clears. -/
def clearSpan (idx : Nat) : Option (Nat × Nat × Nat) :=
  let low := idx % 0x100
  if 0x5000 ≤ idx ∧ idx ≤ 0x5BFF then
    if low < 0x80 then (if low % 16 = 1 then some (7, 1, 6) else if low % 16 = 2 then some (5, 1, 4) else none)
    else if low = 0x80 then some (9, 1, 8)
    else if low = 0x90 then some (7, 2, 6)
    else none
  else if idx = 0x1050 then some (7, 6, 6)
  else if idx = 0x2010 then some (6, 4, 5)
  else if idx = 0x3020 then some (7, 5, 6)
  else if idx = 0x6000 then some (0xA, 4, 7)
  else if 0x6100 ≤ idx ∧ idx ≤ 0x613F then some (0xE, 8, 0xD)
  else if (0x7100 ≤ idx ∧ idx ≤ 0x710F) ∨ (0x7200 ≤ idx ∧ idx ≤ 0x7207) then some (9, 2, 6)
  else if 0x7400 ≤ idx ∧ idx ≤ 0x740F then some (7, 1, 5)
  else if (0x8100 ≤ idx ∧ idx ≤ 0x8107) ∨ (0x8180 ≤ idx ∧ idx ≤ 0x8183) then some (9, 5, 8)
  else if 0x9100 ≤ idx ∧ idx ≤ 0x913F then some (0x13, 0xD, 0x11)
  else if idx = 0xA000 then some (0xB, 9, 0xA)
  else none

/-- R685: the event log ring is emptied; HEAD is kept, and OLDEST takes its value. -/
def State.clearLog (s : State) : State :=
  ({ s with patrol := { s.patrol with log := [] } } : State).setObj (kDev 0x4000 2) (s.obj (kDev 0x4000 1))

/-- Writing 1 to the CLEAR object of an index. -/
def State.clearAt (s : State) (idx : Nat) (v : Bool) : State :=
  if !v then s
  else if idx = 0x4000 then s.clearLog
  else match clearSpan idx with
    | some (_, lo, hi) => s.clearSubs idx lo hi
    | none => s

/-- CLEAR (R450). -/
def execClear (index : BitVec 16) (v : Bool) (s : State) : Host.Outcome State Fault Refusal := .next (s.clearAt index.toNat v)

/-! ### Keys (R676 to R678) -/

/-- The key of a level: 1 operator, 2 service. -/
def State.levelKey (s : State) (level : Nat) : Option (BitVec 256) :=
  if level = 1 then s.patrol.opKey else if level = 2 then s.patrol.svcKey else none

/-- A key write: the level has the key, and its authentication counter is 0. -/
def State.setKey (s : State) (level : Nat) (k : BitVec 256) : State :=
  let s : State := { s with patrol := if level = 1 then { s.patrol with opKey := some k } else { s.patrol with svcKey := some k } }
  s.setObj (kDev 0x1040 (2 + level)) 0

/-! ### Images (R690, R691) -/

/-- The image that TARGET_IMAGE names. -/
def State.targetImage (s : State) : Nat := s.obj (kDev 0x1030 4)
/-- Its bytes. -/
def State.imageBytes (s : State) (i : Nat) : List Byte := if i = 0 then s.patrol.imgA else s.patrol.imgB

/-- Replace the bytes of an image. -/
def State.setImage (s : State) (i : Nat) (b : List Byte) : State :=
  { s with patrol := if i = 0 then { s.patrol with imgA := b } else { s.patrol with imgB := b } }

/-- A segment of IMAGE and its status (R690). -/
def State.imageSeg (s : State) (off : Nat) (data : List Byte) : State × Nat :=
  let i := s.targetImage
  if 0x800000 < off + data.length then (s, stRange)
  else if off = 0 then
    let s := ((s.setImage i data).setObj (kDev 0x1030 6) 1).setObj (kDev 0x1030 (2 + i)) 0
    ({ s with patrol := { s.patrol with written := data.length, cut := s.patrol.cut.filter (· ≠ i) } }, stOk)
  else if s.obj (kDev 0x1030 6) = 1 ∧ off = s.patrol.written then
    let s := s.setImage i (s.imageBytes i ++ data)
    ({ s with patrol := { s.patrol with written := off + data.length } }, stOk)
  else (s, stRange)

/-- IMAGE_VERIFIED: once the length in the header has been written, the image is verified. -/
def State.imageVerified (s : State) : State :=
  let i := s.targetImage
  let b := s.imageBytes i
  if s.obj (kDev 0x1030 6) ≠ 1 || s.patrol.restarting || !s.patrol.on || s.patrol.written < 4096 ||
      s.patrol.written < Config.imageField b 1 then s
  else
    let v := Config.imageField b 0 % 2 ^ 32
    if Config.signatureValid b then (s.setObj (kDev 0x1030 6) 2).setObj (kDev 0x1030 (2 + i)) v
    else ((s.setObj (kDev 0x1030 6) 3).setObj (kDev 0x1030 (2 + i)) 0).event 0x05 2 0xFF i v

/-- IMAGE_VERIFIED (R690). -/
def execImageVerified (s : State) : Host.Outcome State Fault Refusal := .next s.imageVerified

/-- A write of ACTIVATE and its status: Patrol restarts (R691). Requests of the network that wait go unanswered (R692). -/
def State.activate (s : State) (v : Bool) : State × Nat :=
  if !v then (s, stOk)
  else if s.obj (kDev 0x1030 6) = 2 && ([0, 3, 5].contains s.moduleState) then
    ({ s with patrol := { s.patrol with restarting := true, working := false, queue := s.patrol.queue.filter inbandMsg } }, stOk)
  else (s, stState)

/-- ACTIVATE (R691). -/
def execActivate (v : Bool) (s : State) : Host.Outcome State Fault Refusal := .next (written (s.activate v))

/-! ### Writes (R679 and the object tables) -/

/-- The range of values of an object that has no rule but its range. -/
def simpleRange (idx sub : Nat) : Option (Nat × Nat) :=
  if idx = 0x1010 then (if sub = 3 then some (1024, 65535) else if sub = 6 then some (1, 32) else none)
  else if idx = 0x2003 then some (0, 1)
  else if 0x2400 ≤ idx ∧ idx ≤ 0x243F ∧ sub = 1 then some (0, 1)
  else if idx = 0x3020 ∧ sub = 1 then some (1000, 2000)
  else if idx = 0x3030 ∧ sub = 1 then some (80, 105)
  else if idx = 0x3030 ∧ sub = 2 then some (70, 95)
  else if idx = 0x4000 ∧ sub = 4 then some (0, 3)
  else if idx = 0x6000 ∧ sub = 8 then some (100, 10000)
  else if idx = 0x6000 ∧ sub = 9 then some (1, 100)
  else if 0x6080 ≤ idx ∧ idx ≤ 0x60BF ∧ sub = 1 then some (0, 0xFFFFFF)
  else if idx = 0x7300 then some (1, if sub = 3 then 15 else 168)
  else if idx = 0x9000 ∧ sub = 1 then some (1, 10000)
  else none

/-- A write of an object whose rule is its range alone. -/
def State.writeSimple (s : State) (idx sub v : Nat) : State × Nat :=
  match simpleRange idx sub with
  | some (lo, hi) => if lo ≤ v ∧ v ≤ hi then (s.setObj (objKey idx sub) v, stOk) else (s, stRange)
  | none => (s.setObj (objKey idx sub) v, stOk)

/-- A write that is accepted where `ok` holds. -/
def State.writeIf (s : State) (ok : Bool) (key v : Nat) : State × Nat := if ok then (s.setObj key v, stOk) else (s, stState)

/-- Writes of a core's objects (R157, R632). -/
def State.writeCoreObj (s : State) (cl site off sub v : Nat) : State × Nat :=
  if off = 3 ∧ sub = 1 then s.fenceWrite cl site (v = 1)
  else if off = 3 ∧ sub = 2 then s.unfence cl site (v = 1)
  else (s.setObj (kCore cl site off sub) v, stOk)

/-- A task is issued to a cluster. -/
def State.clBusy (s : State) (cl : Nat) : Bool := (List.range 8).any (fun k => (s.core cl k).task.isSome)

/-- Writes of a queue's objects (R453, R454). -/
def State.writeQueueObj (s : State) (cl q sub v : Nat) : State × Nat :=
  if sub = 1 then s.bindQueue cl q v
  else if sub = 2 then (if 7 < v then (s, stRange) else (s.setObj (kQ cl q 2) v, stOk))
  else if sub = 6 then s.setLimit cl q v
  else if sub = 4 ∧ (v < 4 ∨ 20 < v) then (s, stRange)
  else s.writeIf (s.queueIdle cl q) (kQ cl q sub) v

/-- Writes of a cluster's objects (R440, R556, R608, R612). -/
def State.writeClusterObj (s : State) (cl off sub v : Nat) : State × Nat :=
  if off = 0x90 ∧ sub = 1 then s.setCache cl v
  else if off = 0x98 then s.writeIf (!s.clBusy cl) (kCl cl 0x98 sub) v
  else if 0xA0 ≤ off ∧ off ≤ 0xAF then s.writeQueueObj cl (off - 0xA0) sub v
  else if off = 0xB0 then
    if sub = 1 then s.enableCl cl (v = 1)
    else if sub = 3 then s.forceCl cl (v = 1)
    else if sub = 4 then s.quiesce cl (v = 1)
    else if sub = 5 then s.releaseCl cl (v = 1)
    else if sub = 6 then s.resetCl cl (v = 1)
    else s.powerCl cl (v = 1)
  else (s, stOk)

/-- Writes of a context's objects at 0x2400 (R281, R290, R403 to R406, R704). -/
def State.writeSeedObj (s : State) (c sub v : Nat) : State × Nat :=
  if sub = 4 then (s.setStep c v, stOk)
  else if sub = 5 then (if v = 1 then s.advanceStep c else s, stOk)
  else if 0x10 ≤ sub ∧ sub ≤ 0x17 then s.writeKey c (sub - 0x10) (BitVec.ofNat 256 v)
  else if sub = 0x20 then (if 8 < v then (s, stRange) else s.writeIf (s.ctxState c = 0) (kSeed c sub) v)
  else if sub = 0x21 then (if 2 ^ 20 ≤ v then (s, stRange) else s.writeIf (s.ctxState c = 0) (kSeed c sub) v)
  else if sub = 0x23 ∧ v ≠ 0 ∧ (v < 4 ∨ 20 < v) then (s, stRange)
  else s.writeSimple (0x2400 + c) sub v

/-- Writes of a context's objects at 0x9100 (R478, R497 to R501). -/
def State.writeCtxObj (s : State) (c sub v : Nat) : State × Nat :=
  if sub = 2 then s.preempt c (v = 1)
  else if sub = 3 then s.restore c (v = 1)
  else if sub = 4 then s.writeIf (s.ctxState c = 0 || s.ctxState c = 3) (kCtx c 4) v
  else if sub = 6 then
    (if 2 < v then (s, stRange)
     else s.writeIf (!s.disp.groups.any (fun g => g.ctx = c && g.live)) (kCtx c 6) v)
  else if sub = 8 then (if isPow2 v && 64 ≤ v && v ≤ 65536 then (s.setObj (kCtx c 8) v, stOk) else (s, stRange))
  else if sub = 9 then s.writeIf (s.obj (kCtx c 6) = 1) (kCtx c 9) v
  else if sub = 0xA then (s.setConsumed c v, stOk)
  else if sub = 0x12 then s.forceSwitch c v
  else (s.setObj (kCtx c sub) v, stOk)

/-- Writes of a context's objects at 0x9200 (R617, R623). -/
def State.writeCommitObj (s : State) (c sub v : Nat) : State × Nat :=
  if sub = 1 then s.beginCommit c (v = 1)
  else if sub = 7 then s.restoreCommit c v
  else if sub = 8 ∧ v ≠ 0 ∧ v ≠ 8 then (s, stRange)
  else (s.setObj (kCommit c sub) v, stOk)

/-- Writes of a slot's objects (R507, R513). -/
def State.writeSlotObj (s : State) (sl sub v : Nat) : State × Nat :=
  if sub = 1 then s.setWindow sl v
  else if 3 ≤ sub ∧ sub ≤ 5 then s.setEntryPa sl (sub - 3) v
  else s.setArchive sl sub v

/-- Writes of the Chairlift's objects (R518, R527). -/
def State.writeChairObj (s : State) (sub v : Nat) : State × Nat :=
  if sub = 1 then (s.enableChair (v = 1), stOk)
  else if sub = 3 then s.forceChair (v = 1)
  else if sub = 7 then s.ringLimit v
  else s.setChairObj sub v

/-- Writes of a link's objects (R532, R568). -/
def State.writeLinkObj (s : State) (n sub v : Nat) : State × Nat :=
  if sub = 2 then s.enableLink n (v = 1)
  else if sub = 3 then s.forceLink n (v = 1)
  else s.setPmd n v

/-- Writes of an engine's objects (R595, R596). -/
def State.writeEngineObj (s : State) (e sub v : Nat) : State × Nat :=
  if sub = 1 then s.enableEngine e (v = 1)
  else if sub = 3 then s.forceEngine e (v = 1)
  else s.resetEngine e (v = 1)

/-- Writes of the objects of communication and of the host interface (R667, R682, R704). -/
def State.writeCommObj (s : State) (idx sub v : Nat) : State × Nat :=
  if idx = 0x1010 ∧ sub = 5 then
    if 31 < v then (s, stRange)
    else
      let s : State := { s with patrol := { s.patrol with nodeSet := true } }
      ((s.setObj (kDev 0x1010 5) v).plcaJoin, stOk)
  else if idx = 0x1010 ∧ sub = 4 then ((s.setObj (kDev 0x1010 4) v).plcaJoin, stOk)
  else if idx = 0x1030 ∧ sub = 4 then
    (if 1 < v then (s, stRange) else s.writeIf (s.obj (kDev 0x1030 6) ≠ 1) (kDev 0x1030 4) v)
  else if idx = 0x1030 ∧ sub = 7 then s.activate (v = 1)
  else if idx = 0x1040 then (s.setKey sub (BitVec.ofNat 256 v), stOk)
  else if idx = 0x1051 then
    (if 63 < v ∧ v ≠ 0xFF then (s, stRange) else s.writeIf (s.obj (kDev 0x1050 5) < sub) (objKey idx sub) v)
  else if idx = 0x1052 then
    (if v % 4096 ≠ 0 then (s, stRange) else s.writeIf (s.obj (kDev 0x1050 5) < sub) (objKey idx sub) v)
  else s.writeSimple idx sub v

/-- Writes of the objects of power and faults (R605, R642 to R658, R663 to R665). -/
def State.writePowerObj (s : State) (idx sub v : Nat) : State × Nat :=
  let near := fun (t lo hi : Nat) => t + lo ≤ v ∧ v ≤ t + hi
  if idx = 0x3001 then s.powerCtrl (v = 1)
  else if idx = 0x3010 then s.setWarnV v
  else if idx = 0x3011 then s.setResetV v
  else if idx = 0x3030 ∧ sub = 3 then
    (if near (s.obj (kDev 0x3030 1)) 10 20 then (s.setObj (kDev 0x3030 3) v, stOk) else (s, stRange))
  else if idx = 0x3030 ∧ sub = 4 then
    (if near (s.obj (kDev 0x3030 2)) 5 15 then (s.setObj (kDev 0x3030 4) v, stOk) else (s, stRange))
  else if idx = 0x3040 then s.setTime v
  else if idx = 0x3050 then (s.snapClear (v = 1), stOk)
  else if idx = 0x4010 then s.retirePa v
  else if idx = 0x4100 then (if sub = 3 then s.acceptReduced (v = 1) else s.retest (v = 1))
  else s.writeSimple idx sub v

/-- Writes of the modes' objects (R191, R376, R630). -/
def State.writeModeObj (s : State) (idx sub v : Nat) : State × Nat :=
  if idx = 0x2010 then (if sub = 1 then (s.enableGlide (v = 1), stOk) else s.forceGlide (v = 1))
  else if idx = 0x2003 then s.writeSimple idx sub v
  else if sub = 1 then s.setMode idx v
  else s.forceMode idx (v = 1)

/-- A write of an object's value and its status. -/
def State.writeObj (s : State) (idx sub v : Nat) : State × Nat :=
  if (clearSpan idx).any (fun x => x.1 = sub) || (idx = 0x4000 && sub = 5) then (s.clearAt idx (v = 1), stOk)
  else if 0x5000 ≤ idx ∧ idx ≤ 0x5BFF then
    let low := idx % 0x100
    if low < 0x80 then s.writeCoreObj ((idx - 0x5000) / 0x100) (low / 0x10) (low % 0x10) sub v
    else s.writeClusterObj ((idx - 0x5000) / 0x100) low sub v
  else if idx < 0x2000 then s.writeCommObj idx sub v
  else if idx ≤ 0x2010 then s.writeModeObj idx sub v
  else if 0x2400 ≤ idx ∧ idx ≤ 0x243F then s.writeSeedObj (idx - 0x2400) sub v
  else if idx < 0x5000 then s.writePowerObj idx sub v
  else if idx = 0x6000 ∧ sub = 1 then s.setModuleId v
  else if idx = 0x6001 then (if noId < v then (s, stRange) else ((s.setObj (objKey idx sub) v).heard v, stOk))
  else if 0x6100 ≤ idx ∧ idx ≤ 0x613F then s.writeLinkObj (idx - 0x6100) sub v
  else if idx = 0x8000 then s.setStatePa v
  else if 0x8100 ≤ idx ∧ idx ≤ 0x8107 then s.writeEngineObj (idx - 0x8100) sub v
  else if 0x8180 ≤ idx ∧ idx ≤ 0x8183 then s.writeEngineObj (idx - 0x8180 + 8) sub v
  else if 0x8200 ≤ idx ∧ idx ≤ 0x820F then
    (if sub = 5 then s.setVideoLimit (idx - 0x8200) v else s.setVideoRing (idx - 0x8200) sub v)
  else if 0x9100 ≤ idx ∧ idx ≤ 0x913F then s.writeCtxObj (idx - 0x9100) sub v
  else if 0x9200 ≤ idx ∧ idx ≤ 0x923F then s.writeCommitObj (idx - 0x9200) sub v
  else if idx = 0xA000 then s.writeChairObj sub v
  else if 0xA100 ≤ idx ∧ idx ≤ 0xA107 then s.writeSlotObj (idx - 0xA100) sub v
  else s.writeSimple idx sub v

/-- The size of an OCTETS object that WRITE reaches (R679). -/
def octetSize (idx : Nat) : Option Nat :=
  if idx = 0x1040 ∨ (0x2400 ≤ idx ∧ idx ≤ 0x243F) then some 32 else if idx = 0x4001 then some 18 else none

/-- A target of NOTIFY that is not in use (R685). -/
def noTarget : List Byte := List.replicate 18 0

/-- TYPE. -/
def stType : Nat := 6

/-- A write of an object's bytes and its status: TYPE where the length is not the type's, RANGE for a BOOL above 1. -/
def State.writeBytes (s : State) (idx sub : Nat) (bs : List Byte) : State × Nat :=
  match objRow idx sub with
  | none => (s, 1)
  | some r =>
    match r.ty.size with
    | some n =>
      if bs.length ≠ n then (s, stType)
      else if r.ty = .bool ∧ 1 < leNat bs then (s, stRange)
      else s.writeObj idx sub (leNat bs)
    | none =>
      if octetSize idx ≠ some bs.length then (s, stType)
      else if idx = 0x4001 then
        ({ s with patrol := { s.patrol with notify := nset noTarget s.patrol.notify sub bs } }, stOk)
      else s.writeObj idx sub (leNat bs)

/-! ### Reads -/

/-- The bytes of an ASCII string. -/
def strBytes (t : String) : List Byte := t.toList.map (fun c => BitVec.ofNat 8 c.toNat)

/-- Enabled core sites (R3). -/
def enabledCores : Nat := ((List.range 96).filter (fun i => Config.siteEnabled (i / 8) (i % 8))).length

/-- The MAC address, first byte first. -/
def macBytes : List Byte := (toLE 6 Config.mac.toNat).reverse

/-- R668: the link-local address with a modified EUI-64 interface identifier. -/
def linkLocal : List Byte :=
  let m := macBytes
  [0xFE#8, 0x80#8] ++ List.replicate 6 0 ++ [nth 0 m 0 ^^^ 2#8, nth 0 m 1, nth 0 m 2, 0xFF#8, 0xFE#8] ++ m.drop 3

/-- FW_VERSION: the version of the running image (R682). -/
def State.fwVersion (s : State) : Nat :=
  let v := s.obj (kDev 0x1001 5)
  let i := s.obj (kDev 0x1030 1)
  if v = 0 ∧ i < 2 then (Config.factoryVersion i).toNat else v

/-- The number that an object of a type of fixed size reads. -/
def State.readNat (s : State) (idx sub : Nat) : Nat :=
  let low := idx % 0x100
  if idx = 0x1001 then (if sub = 1 then Config.serial.toNat else s.fwVersion)
  else if idx = 0x1003 then (if sub = 0xD then enabledCores else fuses (sub - 1))
  else if idx = 0x1040 ∧ sub = 5 then b2n s.patrol.opKey.isSome + 2 * b2n s.patrol.svcKey.isSome
  else if 0x2400 ≤ idx ∧ idx ≤ 0x243F ∧ sub = 1 then s.tileMode (idx - 0x2400)
  else if idx = 0x3040 then s.timeNs
  else if 0x5000 ≤ idx ∧ idx ≤ 0x5BFF ∧ 0xA0 ≤ low ∧ low ≤ 0xAF ∧ 6 ≤ sub then
    let cl := (idx - 0x5000) / 0x100
    if sub = 6 then s.qLimit cl (low - 0xA0) else if sub = 7 then s.qNext cl (low - 0xA0) else b2n (s.qExhausted cl (low - 0xA0))
  else if idx = 0x6000 ∧ sub = 3 then s.linkDefault
  else if 0x7400 ≤ idx ∧ idx ≤ 0x740F ∧ sub = 8 then s.freeGranules (idx - 0x7400)
  else if idx = 0x8000 ∧ sub = 3 then Config.encModel.toNat
  else if 0x9100 ≤ idx ∧ idx ≤ 0x913F ∧ sub = 0xC then
    (if s.ctxState (idx - 0x9100) = 0 then 0 else s.rate (idx - 0x9100))
  else if idx = 0xA200 ∧ 4 ≤ sub then s.tableQuery sub
  else s.obj (objKey idx sub)

/-- The bytes of a STR or OCTETS object. -/
def State.readOctets (s : State) (idx sub : Nat) : List Byte :=
  if idx = 0x1001 then (if sub = 2 then strBytes "Baleista" else if sub = 3 then strBytes "Timitor TM2" else Config.hwRev)
  else if idx = 0x1002 then strBytes Config.orderCode
  else if idx = 0x1010 then (if sub = 1 then macBytes else linkLocal)
  else if idx = 0x1030 then s.imageBytes s.targetImage
  else if idx = 0x2004 then (List.range 20256).map functionTableByte
  else if idx = 0x4001 then nget noTarget s.patrol.notify sub
  else []

/-- The bytes of an object's value (R679). -/
def State.readObj (s : State) (idx sub : Nat) : List Byte :=
  match objRow idx sub with
  | none => []
  | some r =>
    match r.ty.size with
    | some n => toLE n (s.readNat idx sub)
    | none => s.readOctets idx sub

/-! ### LIST (R670) -/

/-- Subindices of a table's rows at an index, ascending. -/
def subsOf (rows : List ObjRow) (idx : Nat) : List (Nat × ObjRow) :=
  (rows.filter (fun r => r.lo ≤ idx && idx ≤ r.hi)).flatMap (fun r =>
    (List.range (r.subHi + 1 - r.subLo)).map (fun i => (r.subLo + i, r)))

/-- The objects at an index. -/
def objectsAt (idx : Nat) : List (Nat × ObjRow) :=
  if 0x5000 ≤ idx ∧ idx ≤ 0x5BFF then
    let low := idx % 0x100
    if low < 0x80 then subsOf coreObjects (low % 0x10) else subsOf clusterObjects low
  else subsOf deviceObjects idx

/-- Position of a type in R679's table. -/
def ObjType.code : ObjType → Nat
  | .bool => 0
  | .u8 => 1
  | .u16 => 2
  | .u32 => 3
  | .u64 => 4
  | .i32 => 5
  | .f32 => 6
  | .str => 7
  | .octets => 8
  | .time => 9

/-- Position of an access code in R674's table. -/
def Access.code : Access → Nat
  | .ro => 0
  | .rw => 1
  | .wo => 2
  | .const => 3
  | .rwk => 4

/-- An entry of LIST; the spec gives no codes for types and access, so their byte is a free value. -/
def listEntry (idx : Nat) (x : Nat × ObjRow) : List Byte :=
  toLE 2 idx ++ toLE 1 x.1 ++ [Config.listCode (x.2.ty.code * 8 + x.2.acc.code)]

/-- Up to 300 entries from an index and subindex on, ascending. -/
def listing (idx sub : Nat) : List Byte :=
  let first := (objectsAt idx).filter (fun x => sub ≤ x.1)
  ((first.map (listEntry idx) ++
    (List.range (0xB000 - (idx + 1))).flatMap (fun i => (objectsAt (idx + 1 + i)).map (listEntry (idx + 1 + i)))).take 300).flatten

end Sys2Proof.Machine
end

