-- ==== Sys2Proof/Machine/Patrol.lean ====
section
/-! DEFINITION. Patrol's messages and its restart (R666 to R678, R686 to R692). -/

namespace Sys2Proof.Machine

/-! ### The header (R669) -/

/-- VERSION. -/
def hVer (h : Nat) : Nat := fld h 383 376
/-- OP. -/
def hOp (h : Nat) : Nat := fld h 375 368
/-- LEVEL. -/
def hLevel (h : Nat) : Nat := fld h 359 358
/-- SEQ. -/
def hSeq (h : Nat) : Nat := fld h 351 320
/-- INDEX. -/
def hIndex (h : Nat) : Nat := fld h 319 304
/-- SUBINDEX. -/
def hSub (h : Nat) : Nat := fld h 303 296
/-- LENGTH. -/
def hLen (h : Nat) : Nat := fld h 287 272
/-- AUTH_SEQ. -/
def hAuth (h : Nat) : Nat := fld h 255 192
/-- TARGET. -/
def hTarget (h : Nat) : Nat := fld h 191 128
/-- TAG. -/
def hTag (h : Nat) : Nat := fld h 127 0
/-- The RSVD fields are 0. -/
def hRsvdOk (h : Nat) : Bool := fld h 357 352 = 0 && fld h 295 288 = 0 && fld h 271 256 = 0

/-- The header with another OP. -/
def withOp (m : Msg) (op : Nat) : Msg :=
  let h := m.hdr.toNat
  { m with hdr := BitVec.ofNat 384 (h - at' (hOp h) 375 368 + at' op 375 368) }

/-- Statuses of R671 beside OK, RANGE, TYPE and STATE. -/
def stNoObject : Nat := 1
/-- ACCESS. -/
def stAccess : Nat := 2
/-- AUTH. -/
def stAuth : Nat := 3
/-- REPLAY. -/
def stReplay : Nat := 4
/-- BUSY. -/
def stBusy : Nat := 8
/-- VERSION. -/
def stVersion : Nat := 9
/-- TARGET. -/
def stTarget : Nat := 0xA

/-- Largest payload of a path (R669). -/
def pathRoom : Source → Nat
  | .net _ _ => 1400
  | .inband _ => 4048

/-- R675: the tag of a header, TAG set to 0, and a payload under a key. -/
def tagOf (key : BitVec 256) (h : Nat) (payload : List Byte) : Nat :=
  leNat ((hmac256 (toLE 32 key.toNat) (toLE 48 (h - hTag h) ++ payload)).take 16)

/-! ### Answers -/

/-- The response to a request: its status and payload, tagged where the request was (R669, R675). -/
def answerTo (h status : Nat) (payload : List Byte) (key : Option (BitVec 256)) : Answer :=
  let a := at' 1 383 376 + at' (hOp h + 0x80) 375 368 + at' status 367 360 + at' (hLevel h) 359 358 + at' (hSeq h) 351 320 +
    at' (hIndex h) 319 304 + at' (hSub h) 303 296 + at' payload.length 287 272 + at' Config.serial.toNat 191 128
  match key with
  | none => ⟨BitVec.ofNat 384 a, payload⟩
  | some k =>
    let a := a + at' (hAuth h) 255 192
    ⟨BitVec.ofNat 384 (a + tagOf k a payload), payload⟩

/-- The bytes of an answer. -/
def Answer.bytes (a : Answer) : List Byte := toLE 48 a.hdr.toNat ++ a.payload

/-- The answer leaves on the port, or stands in the window of its function (R688). -/
def State.respond (s : State) (src : Source) (a : Answer) : State :=
  let s := s.cnt48 (kDev 0x1010 9) 1
  match src with
  | .net _ _ => s.emit (.message src a)
  | .inband f => s.modFn f.val (fun x => { x with resp := a.bytes, respLen := a.bytes.length, state := 2 })

/-! ### Rights (R674, R677, R678, R689) -/

/-- An operation that writes. -/
def opWrites (op : Nat) : Bool := op = 2 || op = 4

/-- R677: objects that only the in-band path may write. -/
def inbandOnly (idx sub : Nat) : Bool :=
  (0x2400 ≤ idx && idx ≤ 0x243F && 0x10 ≤ sub && sub ≤ 0x17) || (idx = 0x1040 && sub ≤ 2)

/-- The level that an operation on an object needs; none where no level has the right (ACCESS). -/
def State.need (s : State) (src : Source) (op idx sub : Nat) : Option Nat :=
  if 0xF000 ≤ idx then some 2
  else match objRow idx sub with
    | none => none
    | some r =>
      if !opWrites op then (if r.acc = .wo then none else some 0)
      else match r.acc, src with
        | .ro, _ => none
        | .const, _ => none
        | .rwk, .net _ _ => some 2
        | .rwk, .inband f => if f.val = 0 then some 2 else none
        | _, .net _ _ => if inbandOnly idx sub then none else some 1
        | _, .inband f =>
          if f.val ≠ 0 then none
          else if idx = 0x1040 ∧ sub = 2 then (if s.patrol.svcKey.isNone then some 0 else some 2)
          else if s.obj (kDev 0x1010 0xC) = 1 then some 0
          else some 1

/-! ### Operations (R670) -/

/-- An event record's 32 bytes (R683). -/
def Event.bytes (e : Event) : List Byte :=
  toLE 4 e.seq ++ toLE 2 e.code ++ toLE 1 e.sev ++ toLE 1 e.ctx ++ toLE 8 e.time ++ toLE 8 e.p0 ++ toLE 4 e.p1 ++
  toLE 2 e.rep ++ toLE 2 0

/-- R685: the records from a SEQ on, at most 43 and at most `n`; none where the ring does not hold the SEQ. -/
def State.records (s : State) (seq n : Nat) : Option (List Byte) :=
  let k := (seq + 2 ^ 32 - s.obj (kDev 0x4000 2)) % 2 ^ 32
  if k < s.patrol.log.length then some (((s.patrol.log.reverse.drop k).take (min 43 n)).flatMap Event.bytes) else none

/-- READ_SEG: a segment of an object's bytes. -/
def State.readSeg (s : State) (room idx sub : Nat) (p : List Byte) : Nat × List Byte :=
  if p.length ≠ 6 then (stType, [])
  else
    let off := leNat (p.take 4)
    let n := leNat (p.drop 4)
    if idx = 0x4000 ∧ sub = 3 then
      (match s.records off (n / 32) with
        | some b => (stOk, p.take 4 ++ b)
        | none => (stRange, []))
    else
      let b := s.readObj idx sub
      if b.length < off then (stRange, []) else (stOk, p.take 4 ++ (b.drop off).take (min n (room - 4)))

/-- WRITE_SEG: IMAGE takes segments (R690); any other object takes its whole value at OFFSET 0. -/
def State.writeSeg (s : State) (idx sub : Nat) (p : List Byte) : State × Nat :=
  if p.length < 4 then (s, stType)
  else
    let off := leNat (p.take 4)
    if idx = 0x1030 ∧ sub = 5 then s.imageSeg off (p.drop 4)
    else if off ≠ 0 then (s, stRange)
    else s.writeBytes idx sub (p.drop 4)

/-- DISCOVER: SERIAL, ORDER_CODE, SLOT_ID, PLCA_NODE_ID, MODULE_STATE, FW_VERSION. -/
def State.discovery (s : State) : List Byte :=
  toLE 8 Config.serial.toNat ++ strBytes Config.orderCode ++ toLE 1 (s.obj (kDev 0x1020 1)) ++ toLE 1 (s.obj (kDev 0x1010 5)) ++
  toLE 1 s.moduleState ++ toLE 4 s.fwVersion

/-- The outcome of a request whose rights hold: the state, the status and the payload of the answer. An object of the
factory range is served in STANDBY and Lodge, with contents the spec does not describe (R674). -/
def State.execute (s : State) (room op idx sub : Nat) (p : List Byte) : State × Nat × List Byte :=
  if op = 5 then (s, stOk, s.discovery)
  else if op = 6 then (s, stOk, listing idx sub)
  else if 0xF000 ≤ idx then
    if s.moduleState ≠ 0 ∧ s.moduleState ≠ 5 then (s, stState, [])
    else (s.tick, stOk, if opWrites op then [] else (Config.factoryBytes s.free).take room)
  else if op = 1 then
    let b := s.readObj idx sub
    if room < b.length then (s, stRange, []) else (s, stOk, b)
  else if op = 2 then
    let r := s.writeBytes idx sub p
    (r.1, r.2, [])
  else if op = 3 then
    let r := s.readSeg room idx sub p
    (s, r.1, r.2)
  else
    let r := s.writeSeg idx sub p
    (r.1, r.2, [])

/-- The level a request runs at: a virtual function's is public, whatever its LEVEL (R689). -/
def levelOf (src : Source) (h : Nat) : Nat :=
  match src with
  | .inband f => if f.val = 0 then hLevel h else 0
  | .net _ _ => hLevel h

/-- R669, R670: a header that is answered with VERSION. -/
def msgBad (src : Source) (h : Nat) (p : List Byte) : Bool :=
  hVer h ≠ 1 || hOp h = 0 || 6 < hOp h || levelOf src h = 3 || !hRsvdOk h || hLen h ≠ p.length || pathRoom src < p.length

/-- R669: TARGET names this module. -/
def targetOk (src : Source) (h : Nat) : Bool :=
  hTarget h = Config.serial.toNat || (hTarget h = 0 && (hOp h = 5 || (match src with
    | .inband _ => true
    | .net _ _ => false)))

/-- R671, R681: a request that names no object of the dictionary. -/
def noObject (op idx sub : Nat) : Bool :=
  idx < 0xF000 && ((op ≤ 4 && (objRow idx sub).isNone) || (op = 6 && 0xB000 ≤ idx))

/-- Low 64 bits of a source's address, for AUTH_FAILED (R687); the function's number in-band. -/
def sourceLow : Source → Nat
  | .net a _ => a.toNat % 2 ^ 64
  | .inband f => f.val

/-- R671 to R678: the answer to a request, by the first status that applies; a refused request changes nothing. The answer to a request
whose tag is right is tagged (R675). -/
def State.answer (s : State) (m : Msg) : State × Answer :=
  let h := m.hdr.toNat
  let p := m.payload
  let op := hOp h
  let level := levelOf m.src h
  let key := s.levelKey level
  let good : Bool := match key with
    | some k => hTag h = tagOf k h p
    | none => false
  let tagged : Bool := level ≠ 0 && good
  let key := if tagged then key else none
  if msgBad m.src h p then (s, answerTo h stVersion [] key)
  else if !targetOk m.src h then (s, answerTo h stTarget [] key)
  else if noObject op (hIndex h) (hSub h) then (s, answerTo h stNoObject [] key)
  else
    let need := if op ≤ 4 then s.need m.src op (hIndex h) (hSub h) else some 0
    if (level ≠ 0 && !tagged) || need.any (level < ·) then
      ((s.cnt16 (kDev 0x1010 0xB) 1).event 0x60 1 0xFF (sourceLow m.src) 0, answerTo h stAuth [] key)
    else if tagged && hAuth h ≤ s.obj (kDev 0x1040 (2 + level)) then (s, answerTo h stReplay [] key)
    else if need.isNone then (s, answerTo h stAccess [] key)
    else
      let s' := if tagged then s.setObj (kDev 0x1040 (2 + level)) (hAuth h) else s
      let r := s'.execute (pathRoom m.src) op (hIndex h) (hSub h) p
      (if r.2.1 = stOk then r.1 else s, answerTo h r.2.1 r.2.2 key)

/-- R672: an answer is kept for its source, the last used of 64 first. -/
def State.keepAnswer (s : State) (k : Kept) : State :=
  { s with patrol := { s.patrol with kept := (k :: s.patrol.kept.filter (fun x => x.src ≠ k.src)).take 64 } }

/-- A request at the head of the queue: a SEQ that repeats has the kept answer again, any other is executed. -/
def State.serve (s : State) (m : Msg) : State :=
  let seq := hSeq m.hdr.toNat
  match s.patrol.kept.find? (fun k => k.src = m.src && k.seq = seq) with
  | some k => (s.keepAnswer k).respond m.src k.ans
  | none =>
    let r := s.answer m
    (r.1.keepAnswer ⟨m.src, seq, r.2⟩).respond m.src r.2

/-- R673, R692: a request arrives: it is executed, or waits in the queue of 16 behind the one in execution, or is answered with BUSY. While
Patrol restarts, one from the network goes unanswered. -/
def State.arriveMsg (s : State) (m : Msg) : State :=
  if !s.patrol.on || (s.patrol.restarting && !inbandMsg m) then s
  else
    let s := s.cnt48 (kDev 0x1010 8) 1
    if !s.patrol.restarting && !s.patrol.working then s.serve m
    else if 16 ≤ s.patrol.queue.length then
      (s.cnt16 (kDev 0x1010 0xA) 1).respond m.src (answerTo m.hdr.toNat stBusy [] none)
    else { s with patrol := { s.patrol with queue := s.patrol.queue ++ [m] } }

/-- Patrol is in the execution of a request: those that arrive wait (R673; DESIGN CHOICE, log 162: the time of a request is an event below
the commands). -/
def State.patrolBusy (s : State) : State :=
  if s.patrol.on && !s.patrol.restarting then { s with patrol := { s.patrol with working := true } } else s

/-- That execution ends: the next request of the queue is executed in its turn, or Patrol is at rest (R673). -/
def State.patrolDone (s : State) : State :=
  if !s.patrol.working then s
  else match s.patrol.queue with
    | [] => { s with patrol := { s.patrol with working := false } }
    | m :: q => ({ s with patrol := { s.patrol with queue := q } } : State).serve m

/-- Requests that waited are executed in order, until one makes Patrol restart. -/
def State.serveAll (s : State) : List Msg → State
  | [] => s
  | m :: r =>
    if s.patrol.restarting then { s with patrol := { s.patrol with queue := (m :: r).filter inbandMsg } }
    else (s.serve m).serveAll r

/-! ### The in-band window (R688, R689, R703) -/

/-- A message from its bytes in the request buffer. -/
def msgOf (f : HostFn) (bs : List Byte) : Msg := ⟨.inband f, BitVec.ofNat 384 (leNat (bs.take 48)), bs.drop 48⟩

/-- What STATE of a function's window reads: while Patrol restarts, 1 (R692, R702). -/
def State.windowState (s : State) (f : Nat) : Nat := if s.patrol.restarting then 1 else (s.fn f).state

/-- A DOORBELL write: the request's bytes are submitted, unless STATE reads 1. -/
def State.ring (s : State) (f : HostFn) (len : Nat) : State :=
  if s.windowState f.val = 1 then s.cnt16 (kDev 0x1010 0xD) 1
  else
    let bs := ngetRun 0 (s.fn f.val).req 0 (min len 4096)
    (s.modFn f.val (fun x => { x with state := 1 })).arriveMsg (msgOf f bs)

/-- DOORBELL (R688). -/
def execDoorbell (fn : HostFn) (len : BitVec 32) (s : State) : Host.Outcome State Fault Refusal :=
  .next (s.through fn.val true false (fun s => s.ring fn len.toNat))

/-- RESP_LEN has been read: STATE is idle but for a request that waits. -/
def State.clearLen (s : State) (f : Nat) : State :=
  if (s.fn f).state = 1 then s else s.modFn f (fun x => { x with state := 0 })

/-- A read of RESP_LEN: it returns the length of the response, and STATE is idle but for a request that waits. -/
def State.readLen (s : State) (f : Nat) : State := (s.emit (.hostRead f (toLE 4 (s.fn f).respLen))).clearLen f

/-- RESP_LEN (R688). -/
def execRespLen (fn : HostFn) (s : State) : Host.Outcome State Fault Refusal :=
  .next (s.through fn.val true true (fun s => s.readLen fn.val))

/-! ### The requests (R670) -/

/-- A request as a command: from the network it arrives at the port; a host function writes it into its window and rings
the doorbell. -/
def State.request (s : State) (m : Msg) : State :=
  match m.src with
  | .net _ _ => s.arriveMsg m
  | .inband f =>
    s.through f.val true false (fun s =>
      if s.windowState f.val = 1 then s.cnt16 (kDev 0x1010 0xD) 1
      else (s.modFn f.val (fun x => { x with req := nsetRun 0 [] 0 (toLE 48 m.hdr.toNat ++ m.payload), state := 1 })).arriveMsg m)

/-- The in-band request that writes a key of 0x1040: the header given, with the OP, object and LENGTH of that write (R669, R677). -/
def keyMsg (sub : Nat) (key : BitVec 256) (hdr : BitVec 384) : Msg :=
  let h := hdr.toNat
  ⟨.inband 0, BitVec.ofNat 384 (h - at' (hOp h) 375 368 - at' (hIndex h) 319 304 - at' (hSub h) 303 296 -
    at' (hLen h) 287 272 + at' 2 375 368 + at' 0x1040 319 304 + at' sub 303 296 + at' 32 287 272), toLE 32 key.toNat⟩

/-- R677, R678: the in-band write of a key of 0x1040 by the physical function. Where an untagged write is accepted the command is that
write; elsewhere it is the request with its header, which Patrol judges by its tag. -/
def State.keyWrite (s : State) (sub : Nat) (key : BitVec 256) (hdr : BitVec 384) : State :=
  if s.need (.inband 0) 2 0x1040 sub = some 0 then s.setKey sub key else s.request (keyMsg sub key hdr)

/-- OPERATOR_KEY (R678). -/
def execOperatorKey (key : KeyWrite) (s : State) : Host.Outcome State Fault Refusal := .next (s.keyWrite 1 key.key key.hdr)

/-- SERVICE_KEY (R678). -/
def execServiceKey (key : KeyWrite) (s : State) : Host.Outcome State Fault Refusal := .next (s.keyWrite 2 key.key key.hdr)

/-- READ (R670). -/
def execRead (m : Msg) (s : State) : Host.Outcome State Fault Refusal := .next (s.request (withOp m 1))

/-- WRITE (R673). -/
def execWrite (m : Msg) (s : State) : Host.Outcome State Fault Refusal := .next (s.request (withOp m 2))

/-- READ_SEG (R670). -/
def execReadSeg (m : Msg) (s : State) : Host.Outcome State Fault Refusal := .next (s.request (withOp m 3))

/-- WRITE_SEG (R670). -/
def execWriteSeg (m : Msg) (s : State) : Host.Outcome State Fault Refusal := .next (s.request (withOp m 4))

/-- DISCOVER (R670). -/
def execDiscover (m : Msg) (s : State) : Host.Outcome State Fault Refusal := .next (s.request (withOp m 5))

/-- LIST (R670). -/
def execList (m : Msg) (s : State) : Host.Outcome State Fault Refusal := .next (s.request (withOp m 6))

/-! ### The restart (R691, R692) -/

/-- Events that were held are logged in order, with the time they had. -/
def State.logHeld' (s : State) : State :=
  let s' : State := { s with patrol := { s.patrol with heldEvents := [], heldLost := 0, snapFailHeld := false } }
  let s' := s.patrol.heldEvents.foldl (fun (s : State) (e : Event) => s.addEvent e.code e.sev e.ctx e.p0 e.p1 e.time) s'
  let s' := if s.patrol.heldLost = 0 then s' else s'.event 0x62 2 0xFF s.patrol.heldLost 0
  if s.patrol.snapFailHeld then s'.event 0x14 3 0xFF (s'.obj (kDev 0x3050 2)) 0 else s'

/-- PATROL_RESTART_DONE: Patrol checks the target image and runs it (R690), logs what was held, and serves the requests that wait. Where the
check fails it boots by R659's rule, and FW_UPDATED names the image that runs (DEDUCED, log 107). -/
def State.restartDone (s : State) : State :=
  if !s.patrol.restarting then s
  else
    let q := s.patrol.queue
    let s : State := { s with patrol := { s.patrol with restarting := false, queue := [] } }
    let s := (s.bootFrom s.imageGood s.targetImage).logHeld'
    let i := s.obj (kDev 0x1030 1)
    let s := s.event 0x06 0 0xFF i (if i = 2 then 0 else s.imageVersion i)
    s.serveAll q

/-- PATROL_RESTART_DONE (R692). -/
def execPatrolRestartDone (s : State) : Host.Outcome State Fault Refusal := .next s.restartDone

/-! ### PLCA (R667) -/

/-- PLCA_NO_BEACON: a follower that hears no beacon falls back to CSMA/CD. -/
def State.noBeacon (s : State) : State :=
  if s.patrol.on && s.obj (kDev 0x1010 7) = 1 then (s.setObj (kDev 0x1010 7) 0).event 0x61 1 0xFF 0 0 else s

/-- PLCA_NO_BEACON (R667). -/
def execPlcaNoBeacon (s : State) : Host.Outcome State Fault Refusal := .next s.noBeacon

/-- PLCA_BEACON: a follower in fallback returns to PLCA. -/
def State.beacon (s : State) : State :=
  if s.patrol.on && s.obj (kDev 0x1010 4) = 1 && s.obj (kDev 0x1010 5) ≠ 0 && s.obj (kDev 0x1010 7) = 0 then
    s.setObj (kDev 0x1010 7) 1
  else s

/-- PLCA_BEACON (R667). -/
def execPlcaBeacon (s : State) : Host.Outcome State Fault Refusal := .next s.beacon

/-- The coordinator sends a beacon for PLCA_NODE_COUNT nodes (R667). -/
def State.sendBeacon (s : State) : State :=
  if s.patrol.on && s.obj (kDev 0x1010 7) = 2 then s.emit (.beacon (s.obj (kDev 0x1010 6))) else s

/-! ### Packets at the management port (R668) -/

/-- The port's address as a number. -/
def linkLocalAddr : BitVec 128 := BitVec.ofNat 128 (leNat linkLocal.reverse)

/-- ff02::1, to which DISCOVER is sent (R670). -/
def allNodes : BitVec 128 := BitVec.ofNat 128 (0xFF02 * 2 ^ 112 + 1)

/-- A packet reaches the port: it answers the neighbour discovery and the echo of its address, takes an Unfoide message to UDP_PORT, and
discards every other. While Patrol restarts none is answered (R692). -/
def State.portFrame (s : State) (f : Frame) : State :=
  if !s.patrol.on || s.patrol.restarting then s
  else match f with
    | .neighbourSolicitation t => if t = linkLocalAddr then s.emit (.neighbour t) else s
    | .echoRequest src dst data => if dst = linkLocalAddr then s.emit (.echo src data) else s
    | .udp dst port m =>
      if (dst = linkLocalAddr ∨ (dst = allNodes ∧ hOp m.hdr.toNat = 5)) ∧ port.toNat = s.obj (kDev 0x1010 3) ∧ inbandMsg m = false then
        s.arriveMsg m
      else s
    | .other => s

end Sys2Proof.Machine
end

