-- ==== Sys2Proof/Machine/HostPort.lean ====
section
/-! DEFINITION. The PCIe endpoint and the module's pins (R693 to R706). -/

namespace Sys2Proof.Machine

/-! ### BAR2 (R696, R697) -/

/-- Bytes of the BAR2 of the physical function, and of a virtual one. -/
def bar2Size (f : Nat) : Nat := if f = 0 then 0x40000000000 else 0x1000000000

/-- A physical range as pieces that lie in one page each; none where an access to it is refused (R441, R507, R610, R696). -/
def State.barPa (s : State) (pa n : Nat) (wr : Bool) : Option (List (Nat × Nat)) :=
  let ps := pieces 4096 pa n
  if ps.all (fun (p : Nat × Nat) => s.mapped p.1 && s.mapped (p.1 + p.2 - 1) && (s.hostCheck p.1 p.2 wr).isNone) then some ps
  else none

/-- The pieces that an access through a function's BAR2 reaches; none where it is refused. -/
def State.barPieces (s : State) (f off n : Nat) (wr : Bool) : Option (List (Nat × Nat)) :=
  if bar2Size f < off + n then none
  else if f = 0 then s.barPa off n wr
  else
    let c := s.obj (kDev 0x1051 f)
    if c = 0xFF then none
    else match s.trans (s.accOf c) (s.obj (kDev 0x1052 f) + off) n wr with
      | .ok ps => some ps
      | .error _ => none

/-- REFUSED counts an access, and a read of it is answered with Unsupported Request (R696). -/
def State.refuseHost (s : State) (f : Nat) : State := (s.cnt16 (kDev 0x1050 6) 1).emit (.unsupported f)

/-! ### BAR0 beside its doorbells and windows (R695, R422) -/

/-- Bytes of a unit's storage (R415, R416). -/
def unitSize (unit : Nat) : Nat := unitWords unit * 64

/-- A byte at a local offset of a stack or package, as its controller reads it (R422): a data block through the redirection of R438,
its sidecar entry, or a spare that serves a block. The bytes of an identity table and of a free spare are free values: the spec gives
neither (R447, log 122). -/
def State.localByte (s : State) (unit off : Nat) : Byte :=
  let data := fun (q : Nat) => s.byte (blockOf unit q * 4096 + off % 4096)
  match placeOf unit off with
  | .data q => data q
  | .sidecar q => BitVec.ofNat 8 (s.sideOf (blockOf unit q) >>> (8 * (off % 32)))
  | .identity _ _ => Config.freeByte (s.free * 2 ^ 40 + off)
  | .spare k => ((s.servedBy unit k).map data).getD (Config.freeByte (s.free * 2 ^ 40 + off))

/-- Whether the diagnostic window names a present stack or package, and a range within its storage. -/
def State.diagOk (s : State) (off n : Nat) : Bool :=
  decide (s.host.diagSel < 16 + Config.lpddrPresent) && decide (s.host.diagBase + off + n ≤ unitSize s.host.diagSel)

/-- The bytes that a read of the diagnostic window returns (R695). -/
def State.diagBytes (s : State) (off n : Nat) : List Byte :=
  (List.range n).map (fun i => s.localByte s.host.diagSel (s.host.diagBase + off + i))

/-- The value of a register of BAR0; a virtual function has its cause registers alone (R697). -/
def State.bar0Reg (s : State) (f : Nat) (r : Bar0Reg) : Option (List Byte) :=
  match r with
  | .intCause => some (toLE 8 (s.fn f).intCause)
  | .ctxCause => some (toLE 8 (s.fn f).ctxCause)
  | .hostBaseBlock => if f = 0 then some (toLE 4 s.host.baseBlock) else none
  | .hostTarget => if f = 0 then some (toLE 8 s.host.target) else none
  | .diagSel => if f = 0 then some (toLE 8 s.host.diagSel) else none
  | .diagBase => if f = 0 then some (toLE 8 s.host.diagBase) else none

/-- A byte of a function's Unfoide window (R688). A read of DOORBELL has no value that the spec gives: a free value (log 161). -/
def State.windowByte (s : State) (f o : Nat) : Byte :=
  if o < 0x1000 then nget 0 (s.fn f).req o
  else if o < 0x2000 then nth 0 (s.fn f).resp (o - 0x1000)
  else if 0x2004 ≤ o ∧ o < 0x2008 then nth 0 (toLE 4 (s.windowState f)) (o - 0x2004)
  else if 0x2008 ≤ o ∧ o < 0x200C then nth 0 (toLE 4 (s.fn f).respLen) (o - 0x2008)
  else Config.freeByte (s.free * 2 ^ 40 + o)

/-- A read of a function's window: where it reads RESP_LEN, STATE returns to 0 (R688). -/
def State.readWindow (s : State) (f off n : Nat) : State :=
  let s := (s.emit (.hostRead f ((List.range n).map (fun i => s.windowByte f (off + i))))).tick
  if off + n ≤ 0x2008 ∨ 0x200C ≤ off then s else s.clearLen f

/-- A write into the request buffer of a function's window (R688). What lies beyond it is read only, or rings the doorbell by a row of its
own. -/
def State.writeWindow (s : State) (f off : Nat) (bs : List Byte) : State :=
  s.modFn f (fun x => { x with req := nsetRun 0 x.req off (bs.take (0x1000 - off)) })

/-- A word of a vector's entry in the MSI-X table (R695, R700): its address and data as written, and the mask in bit 0 of the fourth. -/
def HostFnSt.msixWord (x : HostFnSt) (v w : Nat) : Nat := if w = 3 then b2n (x.masked.contains v) else nget 0 x.msix (v * 4 + w)

/-- A word of the pending bit array (R695, R700). -/
def HostFnSt.pbaWord (x : HostFnSt) (w : Nat) : Nat :=
  (List.range 32).foldl (fun a i => a + b2n (x.pend.contains (w * 32 + i)) * 2 ^ i) 0

/-- Pending vectors of a function that can leave now do so. -/
def State.sendPending (s : State) (f : Nat) : State :=
  let x := s.fn f
  if s.obj (kDev 0x1050 1) ≠ 2 || x.d3hot then s
  else
    let go := x.pend.filter (fun v => !x.masked.contains v)
    let s := s.modFn f (fun x => { x with pend := x.pend.filter (fun v => x.masked.contains v) })
    go.foldl (fun (s : State) v => s.emit (.msix f v)) s

/-- A vector's mask is written (R700). -/
def State.maskVector (s : State) (f v : Nat) (m : Bool) : State :=
  (s.modFn f (fun x => { x with masked := if m then (if x.masked.contains v then x.masked else v :: x.masked)
                                          else x.masked.filter (· ≠ v) })).sendPending f

/-- An access to BAR0 (R695). A value that its register does not name, and a window whose bytes do not exist, are met as an offset that
the map does not name (log 122): a read is unsupported, a write is dropped and counted. -/
def State.bar0 (s : State) (f : Nat) (a : Bar0Access) : State :=
  let unsupported := s.emit (.unsupported f)
  let dropped := s.cnt16 (kDev 0x1050 6) 1
  match a with
  | .reg r => ((s.bar0Reg f r).map (fun bs => s.emit (.hostRead f bs))).getD unsupported
  | .setDiagSel v =>
    if f = 0 ∧ v.toNat < 24 then { s with host := { s.host with diagSel := v.toNat } } else dropped
  | .setDiagBase v =>
    if f = 0 ∧ v.toNat % 2 ^ 25 = 0 then { s with host := { s.host with diagBase := v.toNat } } else dropped
  | .diagRead off n =>
    if f = 0 ∧ s.diagOk off.toNat n = true then (s.emit (.hostRead f (s.diagBytes off.toNat n))).tick else unsupported
  | .diagWrite => dropped
  | .unnamedRead => unsupported
  | .unnamedWrite => dropped
  | .winRead off n => s.readWindow f off.toNat n
  | .winWrite off bs => s.writeWindow f off.toNat bs
  | .msixRead v w => s.emit (.hostRead f (toLE 4 ((s.fn f).msixWord v.val w.val)))
  | .msixWrite v w x =>
    if w.val = 3 then s.maskVector f v.val (bitAt x.toNat 0)
    else s.modFn f (fun y => { y with msix := nset 0 y.msix (v.val * 4 + w.val) x.toNat })
  | .pbaRead w => s.emit (.hostRead f (toLE 4 ((s.fn f).pbaWord w.val)))
  | .pbaWrite => dropped

/-- A read or a write through BAR2, or one of BAR0. -/
def State.bar2 (s : State) (f off : Nat) (acc : BarAccess) : State :=
  match acc with
  | .bar0 a => s.bar0 f a
  | .read n =>
    (match s.barPieces f off n false with
      | none => s.refuseHost f
      | some ps =>
        (ps.foldl (fun (s : State) (p : Nat × Nat) => s.countRd p.1 p.2) s).emit
          (.hostRead f (ps.flatMap (fun (p : Nat × Nat) => s.view p.1 p.2))))
  | .write bs =>
    (match s.barPieces f off bs.length true with
      | none => s.cnt16 (kDev 0x1050 6) 1
      | some ps => writePieces s ps bs)

/-- Whether an access is one of the Unfoide window, which the physical function has in every module state (R689, R703). -/
def isWindow (acc : BarAccess) : Bool :=
  match acc with
  | .bar0 (.winRead _ _) => true
  | .bar0 (.winWrite _ _) => true
  | _ => false

/-- BAR2_ACCESS (R695, R696). -/
def execBar2Access (fn : HostFn) (off : BitVec 64) (acc : BarAccess) (s : State) : Host.Outcome State Fault Refusal :=
  .next (s.through fn.val (isWindow acc) acc.isRead (fun s => s.bar2 fn.val off.toNat acc))

/-- The physical address of an aligned AtomicOp through a function's BAR2: the offset itself, or a virtual function's, translated and
checked (R697); none where that refuses the access. -/
def State.atomicPa (s : State) (f off n : Nat) : Option Nat :=
  if f = 0 then some off
  else
    let c := s.obj (kDev 0x1051 f)
    if c = 0xFF || bar2Size f < off + n then none
    else match s.trans (s.accOf c) (s.obj (kDev 0x1052 f) + off) n true with
      | .ok (p :: _) => some p.1
      | _ => none

/-- R698: an AtomicOp of a function on a word of scratch. Any other address, a swap and a misaligned one end with Completer Abort. -/
def State.hostAtomic (s : State) (f off : Nat) (wide : Bool) (op : AtomicKind) (a b : Nat) : State :=
  let abort := (s.cnt16 (kDev 0x1050 6) 1).emit .aborted
  let n := if wide then 8 else 4
  if off % n ≠ 0 || op = .swap then abort
  else match s.atomicPa f off n with
    | none => s.refuseHost f
    | some pa => match s.atomicAt pa wide with
      | .error .fenced => s.refuseHost f
      | .error _ => abort
      | .ok _ =>
        s.atomic pa wide (fun x => if op = .fetchAdd then x + opWord wide a else if x = opWord wide a then opWord wide b else x)

/-- ATOMICOP (R698). -/
def execAtomicOp (off : BarPlace) (wide : Bool) (op : AtomicKind) (a b : BitVec 64) (s : State) :
    Host.Outcome State Fault Refusal :=
  .next (s.through off.fn.val false true (fun s => s.hostAtomic off.fn.val off.off.toNat wide op a.toNat b.toNat))

/-! ### The Chairlift host window (R699) -/

/-- The running HOST transfer that HOST_TARGET names, its manifest checked (R514). -/
def State.hostTransfer (s : State) : Option Transfer :=
  let w := s.host.target
  s.chair.transfers.find? (fun t => chSource t.cmd = 2 && t.manifest.isSome &&
    (if w % 2 ^ 16 ≠ 0 then t.entry.isNone && chTable t.cmd = w % 2 ^ 16
     else t.entry.isSome && chSlot t.cmd = fld w 18 16 && chVersion t.cmd = fld w 63 32))

/-- A slot whose last byte has been written: its bytes go to the transfer as a block. -/
def State.hostSlot (s : State) (slot : Nat) : State :=
  match s.hostTransfer with
  | none => s
  | some t => s.takeBlock t (s.host.baseBlock + slot) (ngetRun 0 s.host.window (slot * 4096) 4096)

/-- A write into the host window. -/
def State.hostWrite (s : State) (off : Nat) (bs : List Byte) : State :=
  if s.hostTransfer.isNone || 2 ^ 24 < off + bs.length then s.cnt16 (kDev 0x1050 6) 1
  else
    let s : State := { s with host := { s.host with window := nsetRun 0 s.host.window off bs } }
    ((pieces 4096 off bs.length).filter (fun (p : Nat × Nat) => (p.1 + p.2) % 4096 = 0)).foldl
      (fun (s : State) (p : Nat × Nat) => s.hostSlot (p.1 / 4096)) s

/-- HOST_WINDOW_WRITE (R699). -/
def execHostWindowWrite (off : BitVec 24) (data : List (BitVec 8)) (s : State) : Host.Outcome State Fault Refusal :=
  .next (s.through 0 false false (fun s => s.hostWrite off.toNat data))

/-- A write of HOST_BASE_BLOCK or HOST_TARGET. -/
def State.setHostTarget (s : State) (base : Bool) (v : Nat) : State :=
  { s with host := if base then { s.host with baseBlock := v % 2 ^ 32 } else { s.host with target := v } }

/-- HOST_TARGET (R699). -/
def execHostTarget (base : Bool) (v : BitVec 64) (s : State) : Host.Outcome State Fault Refusal :=
  .next (s.through 0 false false (fun s => s.setHostTarget base v.toNat))

/-! ### Interrupts (R700) -/

/-- A W1C write of INT_CAUSE or CTX_CAUSE. -/
def State.clearCause (s : State) (f : Nat) (ctxReg : Bool) (v : Nat) : State :=
  s.modFn f (fun x => if ctxReg then { x with ctxCause := x.ctxCause - (x.ctxCause &&& v) }
                      else { x with intCause := x.intCause - (x.intCause &&& v) })

/-- INT_CAUSE (R700). -/
def execIntCause (fn : HostFn) (ctxReg : Bool) (v : BitVec 64) (s : State) : Host.Outcome State Fault Refusal :=
  .next (s.through fn.val false false (fun s => s.clearCause fn.val ctxReg v.toNat))

/-! ### Configuration, training and resets (R661, R693, R702) -/

/-- The bytes of an identification value (R694). The VSEC is the physical function's. A register or a byte to which R694 gives no value
reads as a free value. -/
def State.configBytes (s : State) (f : Nat) (r : ConfigReg) : List Byte :=
  match r with
  | .vendorId => toLE 2 0x1F47
  | .deviceId => toLE 2 (if f = 0 then 0x0702 else 0x0703)
  | .classCode => toLE 3 0x120000
  | .revisionId => toLE 1 (Config.revision.val + 1)
  | .subsystemVendorId => toLE 2 0x1F47
  | .subsystemId => toLE 2 Config.order.subsystem
  | .vsec w =>
    if f ≠ 0 then s.freeBytes 4
    else match w with
      | 0 => s.freeBytes 4
      | 1 => toLE 2 0x0001 ++ s.freeBytes 2
      | 2 => toLE 1 s.moduleState ++ toLE 1 (s.obj (kDev 0x4100 1)) ++ toLE 1 (s.obj (kDev 0x4100 2)) ++ s.freeBytes 1
      | 3 => toLE 4 s.fwVersion

/-- A configuration request: virtual functions, D3hot, a read, or ASPM L1, which the endpoint refuses (R693). The mask of a vector stands in
BAR0: where that is not served, the write is refused as any other of it (R703). -/
def State.configure (s : State) (f : Nat) (w : ConfigWrite) : State :=
  if s.obj (kDev 0x1050 1) ≠ 2 || s.obj (kDev 0x1050 5) < f then s
  else match w with
    | .numVfs n =>
      if f ≠ 0 then s
      else
        let s := s.setObj (kDev 0x1050 5) n.val
        (List.range 8).foldl (fun (s : State) i => if n.val ≤ i then s.modFn (i + 1) (fun _ => HostFnSt.empty) else s) s
    | .read r => (s.emit (.hostRead f (s.configBytes f r))).tick
    | .d3hot on => (s.modFn f (fun x => { x with d3hot := on })).sendPending f
    | .aspmL1 => s
    | .msixMask v m => s.through f false false (fun s => s.maskVector f v.val m)

/-- CONFIGURATION_REQUEST (R693, R694). -/
def execConfigurationRequest (fn : HostFn) (w : ConfigWrite) (s : State) : Host.Outcome State Fault Refusal :=
  .next (s.configure fn.val w)

/-- R693: the rates and widths at which the endpoint trains; 2.5 GT/s reads 2 (log 161). -/
def pcieTrains (gts width : Nat) : Bool := [64, 32, 16, 8, 5, 2].contains gts && [16, 8, 4, 2, 1].contains width

/-- The endpoint's training ends: it is UP, and what waited to leave does so; or it reads DOWN and keeps training. -/
def State.pcieTrained (s : State) (up : Bool) (gts width : Nat) : State :=
  if s.moduleState < 2 then s
  else if up && pcieTrains gts width then
    let s := ((s.setObj (kDev 0x1050 1) 2).setObj (kDev 0x1050 2) gts).setObj (kDev 0x1050 3) width
    let w := s.host.mirrorWait
    let s : State := { s with host := { s.host with mirrorWait := [] } }
    let s := w.foldl (fun (s : State) (x : Nat × Nat × Nat × List Byte) => s.hostOut x.2.1 x.2.2.1 x.2.2.2) s
    (List.range 9).foldl (fun (s : State) f => s.sendPending f) s
  else ((s.setObj (kDev 0x1050 1) 0).setObj (kDev 0x1050 2) 0).setObj (kDev 0x1050 3) 0

/-- PCIE_LINK_TRAINING_DONE (R661). -/
def execPcieLinkTrainingDone (up : Bool) (gts width : BitVec 8) (s : State) : Host.Outcome State Fault Refusal :=
  .next (s.pcieTrained up gts.toNat width.toNat)

/-- Mirror writes that have not left are dropped: their records count as lost and MIRROR_SEQ is that of the last record
written (R702). Each record is two writes. -/
def State.dropMirror (s : State) : State :=
  let n := fun (c : Nat) => (s.host.mirrorWait.filter (fun (x : Nat × Nat × Nat × List Byte) => x.1 = c)).length / 2
  let s' : State := { s with host := { s.host with mirrorWait := [] } }
  (List.range 64).foldl (fun (s : State) c =>
    if n c = 0 then s
    else (s.cnt16 (kSeed c 0x26) (n c)).setObj (kSeed c 0x24) ((s.obj (kSeed c 0x24) + 2 ^ 32 - n c) % 2 ^ 32)) s'

/-- A function is reset; INT_CAUSE and CTX_CAUSE keep their bits (R702), and a request in its window is lost. -/
def State.resetFn (s : State) (f : Nat) : State :=
  let s : State := { s with patrol := { s.patrol with queue := s.patrol.queue.filter (fun m => match m.src with
    | .inband g => g.val ≠ f
    | .net _ _ => true) } }
  s.modFn f (fun x => { HostFnSt.empty with intCause := x.intCause, ctxCause := x.ctxCause })

/-- Every function is reset, and no virtual one is enabled. -/
def State.resetFns (s : State) : State :=
  let s := ((List.range 9).foldl (fun (s : State) f => s.resetFn f) s).dropMirror
  let s := s.setObj (kDev 0x1050 5) 0
  { s with host := { s.host with baseBlock := 0, target := 0, diagSel := 0, diagBase := 0, window := [], ats := [] } }

/-- PERST or a hot reset: the endpoint is as after power-on, and trains again when the reset ends. -/
def State.perst (s : State) : State :=
  let s := s.resetFns
  let s := (s.setObj (kDev 0x1050 2) 0).setObj (kDev 0x1050 3) 0
  s.setObj (kDev 0x1050 1) (if s.moduleState < 2 then 0 else 1)

/-- PERST (R702). -/
def execPerst (s : State) : Host.Outcome State Fault Refusal := .next s.perst

/-- FLR_PF (R702). -/
def execFlrPf (s : State) : Host.Outcome State Fault Refusal := .next s.resetFns

/-- FLR_VF (R702). -/
def execFlrVf (vf : Fin 8) (s : State) : Host.Outcome State Fault Refusal := .next (s.resetFn (vf.val + 1))

/-! ### Pins (R706, R707) -/

/-- LINK_LED# of a link is low: the link is UP or DEGRADED (R706). -/
def State.ledLow (s : State) (n : Nat) : Bool := s.linkState n = 2 || s.linkState n = 3

/-- ALERT# is low: bit 0 or 1 of INT_CAUSE is set (R707). -/
def State.alertLow (s : State) : Bool := (s.fn 0).intCause % 4 ≠ 0

/-- STBY_OK is high: the standby domain is in regulation (R707). -/
def State.stbyOk (s : State) : Bool := s.patrol.on

/-- The test access port serves boundary scan; otherwise it is held in Test-Logic-Reset (R707). -/
def State.tapServed (s : State) : Bool := s.obj (kDev 0x1050 8) = 1 && s.moduleState = 5

/-- MODPRS: the rack pulls a link's MODPRS# low, or releases it. -/
def State.modPrs (s : State) (n : Nat) (low : Bool) : State := s.setObj (kLink n 0xF) (b2n low)

/-- MODPRS (R706). -/
def execModprs (link : Fin 64) (low : Bool) (s : State) : Host.Outcome State Fault Refusal := .next (s.modPrs link.val low)

end Sys2Proof.Machine
end

