-- ==== Sys2Proof/Machine/VecRows.lean ====
section
/-! DEFINITION. The vector operations and directives as commands: each issues its word in the section in progress. -/

namespace Sys2Proof.Machine

/-- NOP (R167). -/
def execNop (core : CoreId) (w : BitVec 64) (s : State) : Host.Outcome State Fault Refusal :=
  .next (s.vecRow core.c core.s 0 w.toNat)

/-- FADD (R167). -/
def execFadd (core : CoreId) (w : BitVec 64) (s : State) : Host.Outcome State Fault Refusal :=
  .next (s.vecRow core.c core.s 1 w.toNat)

/-- FSUB (R167). -/
def execFsub (core : CoreId) (w : BitVec 64) (s : State) : Host.Outcome State Fault Refusal :=
  .next (s.vecRow core.c core.s 2 w.toNat)

/-- FMUL (R167). -/
def execFmul (core : CoreId) (w : BitVec 64) (s : State) : Host.Outcome State Fault Refusal :=
  .next (s.vecRow core.c core.s 3 w.toNat)

/-- FMA (R167). -/
def execFma (core : CoreId) (w : BitVec 64) (s : State) : Host.Outcome State Fault Refusal :=
  .next (s.vecRow core.c core.s 4 w.toNat)

/-- FNMA (R167). -/
def execFnma (core : CoreId) (w : BitVec 64) (s : State) : Host.Outcome State Fault Refusal :=
  .next (s.vecRow core.c core.s 5 w.toNat)

/-- FMAX (R168). -/
def execFmax (core : CoreId) (w : BitVec 64) (s : State) : Host.Outcome State Fault Refusal :=
  .next (s.vecRow core.c core.s 6 w.toNat)

/-- FMIN (R168). -/
def execFmin (core : CoreId) (w : BitVec 64) (s : State) : Host.Outcome State Fault Refusal :=
  .next (s.vecRow core.c core.s 7 w.toNat)

/-- FMAXN (R168). -/
def execFmaxn (core : CoreId) (w : BitVec 64) (s : State) : Host.Outcome State Fault Refusal :=
  .next (s.vecRow core.c core.s 8 w.toNat)

/-- FMINN (R168). -/
def execFminn (core : CoreId) (w : BitVec 64) (s : State) : Host.Outcome State Fault Refusal :=
  .next (s.vecRow core.c core.s 9 w.toNat)

/-- FABS (R167). -/
def execFabs (core : CoreId) (w : BitVec 64) (s : State) : Host.Outcome State Fault Refusal :=
  .next (s.vecRow core.c core.s 0xa w.toNat)

/-- FNEG (R167). -/
def execFneg (core : CoreId) (w : BitVec 64) (s : State) : Host.Outcome State Fault Refusal :=
  .next (s.vecRow core.c core.s 0xb w.toNat)

/-- FRINT (R167). -/
def execFrint (core : CoreId) (w : BitVec 64) (s : State) : Host.Outcome State Fault Refusal :=
  .next (s.vecRow core.c core.s 0xc w.toNat)

/-- FFLOOR (R167). -/
def execFfloor (core : CoreId) (w : BitVec 64) (s : State) : Host.Outcome State Fault Refusal :=
  .next (s.vecRow core.c core.s 0xd w.toNat)

/-- FCLAMP (R167). -/
def execFclamp (core : CoreId) (w : BitVec 64) (s : State) : Host.Outcome State Fault Refusal :=
  .next (s.vecRow core.c core.s 0xe w.toNat)

/-- FQUANT (R167). -/
def execFquant (core : CoreId) (w : BitVec 64) (s : State) : Host.Outcome State Fault Refusal :=
  .next (s.vecRow core.c core.s 0xf w.toNat)

/-- HADD (R173). -/
def execHadd (core : CoreId) (w : BitVec 64) (s : State) : Host.Outcome State Fault Refusal :=
  .next (s.vecRow core.c core.s 0x11 w.toNat)

/-- HSUB (R173). -/
def execHsub (core : CoreId) (w : BitVec 64) (s : State) : Host.Outcome State Fault Refusal :=
  .next (s.vecRow core.c core.s 0x12 w.toNat)

/-- HMUL (R173). -/
def execHmul (core : CoreId) (w : BitVec 64) (s : State) : Host.Outcome State Fault Refusal :=
  .next (s.vecRow core.c core.s 0x13 w.toNat)

/-- HFMA (R173). -/
def execHfma (core : CoreId) (w : BitVec 64) (s : State) : Host.Outcome State Fault Refusal :=
  .next (s.vecRow core.c core.s 0x14 w.toNat)

/-- HFNMA (R173). -/
def execHfnma (core : CoreId) (w : BitVec 64) (s : State) : Host.Outcome State Fault Refusal :=
  .next (s.vecRow core.c core.s 0x15 w.toNat)

/-- HMAX (R173). -/
def execHmax (core : CoreId) (w : BitVec 64) (s : State) : Host.Outcome State Fault Refusal :=
  .next (s.vecRow core.c core.s 0x16 w.toNat)

/-- HMIN (R173). -/
def execHmin (core : CoreId) (w : BitVec 64) (s : State) : Host.Outcome State Fault Refusal :=
  .next (s.vecRow core.c core.s 0x17 w.toNat)

/-- CVTIF (R167). -/
def execCvtif (core : CoreId) (w : BitVec 64) (s : State) : Host.Outcome State Fault Refusal :=
  .next (s.vecRow core.c core.s 0x1a w.toNat)

/-- CVTFI (R171). -/
def execCvtfi (core : CoreId) (w : BitVec 64) (s : State) : Host.Outcome State Fault Refusal :=
  .next (s.vecRow core.c core.s 0x1b w.toNat)

/-- IADD (R167). -/
def execIadd (core : CoreId) (w : BitVec 64) (s : State) : Host.Outcome State Fault Refusal :=
  .next (s.vecRow core.c core.s 0x20 w.toNat)

/-- ISUB (R167). -/
def execIsub (core : CoreId) (w : BitVec 64) (s : State) : Host.Outcome State Fault Refusal :=
  .next (s.vecRow core.c core.s 0x21 w.toNat)

/-- IMUL (R167). -/
def execImul (core : CoreId) (w : BitVec 64) (s : State) : Host.Outcome State Fault Refusal :=
  .next (s.vecRow core.c core.s 0x22 w.toNat)

/-- IMAX (R167). -/
def execImax (core : CoreId) (w : BitVec 64) (s : State) : Host.Outcome State Fault Refusal :=
  .next (s.vecRow core.c core.s 0x23 w.toNat)

/-- IMIN (R167). -/
def execImin (core : CoreId) (w : BitVec 64) (s : State) : Host.Outcome State Fault Refusal :=
  .next (s.vecRow core.c core.s 0x24 w.toNat)

/-- AND (R167). -/
def execAnd (core : CoreId) (w : BitVec 64) (s : State) : Host.Outcome State Fault Refusal :=
  .next (s.vecRow core.c core.s 0x25 w.toNat)

/-- OR (R167). -/
def execOr (core : CoreId) (w : BitVec 64) (s : State) : Host.Outcome State Fault Refusal :=
  .next (s.vecRow core.c core.s 0x26 w.toNat)

/-- XOR (R167). -/
def execXor (core : CoreId) (w : BitVec 64) (s : State) : Host.Outcome State Fault Refusal :=
  .next (s.vecRow core.c core.s 0x27 w.toNat)

/-- SHL (R172). -/
def execShl (core : CoreId) (w : BitVec 64) (s : State) : Host.Outcome State Fault Refusal :=
  .next (s.vecRow core.c core.s 0x28 w.toNat)

/-- SHR (R172). -/
def execShr (core : CoreId) (w : BitVec 64) (s : State) : Host.Outcome State Fault Refusal :=
  .next (s.vecRow core.c core.s 0x29 w.toNat)

/-- SAR (R172). -/
def execSar (core : CoreId) (w : BitVec 64) (s : State) : Host.Outcome State Fault Refusal :=
  .next (s.vecRow core.c core.s 0x2a w.toNat)

/-- FCMPEQ (R167). -/
def execFcmpeq (core : CoreId) (w : BitVec 64) (s : State) : Host.Outcome State Fault Refusal :=
  .next (s.vecRow core.c core.s 0x2c w.toNat)

/-- FCMPLT (R167). -/
def execFcmplt (core : CoreId) (w : BitVec 64) (s : State) : Host.Outcome State Fault Refusal :=
  .next (s.vecRow core.c core.s 0x2d w.toNat)

/-- FCMPLE (R167). -/
def execFcmple (core : CoreId) (w : BitVec 64) (s : State) : Host.Outcome State Fault Refusal :=
  .next (s.vecRow core.c core.s 0x2e w.toNat)

/-- FCMPUN (R167). -/
def execFcmpun (core : CoreId) (w : BitVec 64) (s : State) : Host.Outcome State Fault Refusal :=
  .next (s.vecRow core.c core.s 0x2f w.toNat)

/-- ICMPEQ (R167). -/
def execIcmpeq (core : CoreId) (w : BitVec 64) (s : State) : Host.Outcome State Fault Refusal :=
  .next (s.vecRow core.c core.s 0x30 w.toNat)

/-- ICMPLT (R167). -/
def execIcmplt (core : CoreId) (w : BitVec 64) (s : State) : Host.Outcome State Fault Refusal :=
  .next (s.vecRow core.c core.s 0x31 w.toNat)

/-- MAND (R167). -/
def execMand (core : CoreId) (w : BitVec 64) (s : State) : Host.Outcome State Fault Refusal :=
  .next (s.vecRow core.c core.s 0x34 w.toNat)

/-- MOR (R167). -/
def execMor (core : CoreId) (w : BitVec 64) (s : State) : Host.Outcome State Fault Refusal :=
  .next (s.vecRow core.c core.s 0x35 w.toNat)

/-- MXOR (R167). -/
def execMxor (core : CoreId) (w : BitVec 64) (s : State) : Host.Outcome State Fault Refusal :=
  .next (s.vecRow core.c core.s 0x36 w.toNat)

/-- MANDN (R167). -/
def execMandn (core : CoreId) (w : BitVec 64) (s : State) : Host.Outcome State Fault Refusal :=
  .next (s.vecRow core.c core.s 0x37 w.toNat)

/-- MNOT (R167). -/
def execMnot (core : CoreId) (w : BitVec 64) (s : State) : Host.Outcome State Fault Refusal :=
  .next (s.vecRow core.c core.s 0x38 w.toNat)

/-- MPOP (R167). -/
def execMpop (core : CoreId) (w : BitVec 64) (s : State) : Host.Outcome State Fault Refusal :=
  .next (s.vecRow core.c core.s 0x39 w.toNat)

/-- SEL (R169). -/
def execSel (core : CoreId) (w : BitVec 64) (s : State) : Host.Outcome State Fault Refusal :=
  .next (s.vecRow core.c core.s 0x3a w.toNat)

/-- EXP (R167). -/
def execExp (core : CoreId) (w : BitVec 64) (s : State) : Host.Outcome State Fault Refusal :=
  .next (s.vecRow core.c core.s 0x40 w.toNat)

/-- LOG (R167). -/
def execLog (core : CoreId) (w : BitVec 64) (s : State) : Host.Outcome State Fault Refusal :=
  .next (s.vecRow core.c core.s 0x41 w.toNat)

/-- RCP (R167). -/
def execRcp (core : CoreId) (w : BitVec 64) (s : State) : Host.Outcome State Fault Refusal :=
  .next (s.vecRow core.c core.s 0x42 w.toNat)

/-- RSQRT (R167). -/
def execRsqrt (core : CoreId) (w : BitVec 64) (s : State) : Host.Outcome State Fault Refusal :=
  .next (s.vecRow core.c core.s 0x43 w.toNat)

/-- SINR (R167). -/
def execSinr (core : CoreId) (w : BitVec 64) (s : State) : Host.Outcome State Fault Refusal :=
  .next (s.vecRow core.c core.s 0x44 w.toNat)

/-- COSR (R167). -/
def execCosr (core : CoreId) (w : BitVec 64) (s : State) : Host.Outcome State Fault Refusal :=
  .next (s.vecRow core.c core.s 0x45 w.toNat)

/-- RAND (R174). -/
def execRand (core : CoreId) (w : BitVec 64) (s : State) : Host.Outcome State Fault Refusal :=
  .next (s.vecRow core.c core.s 0x48 w.toNat)

/-- LD (R167). -/
def execLd (core : CoreId) (w : BitVec 64) (s : State) : Host.Outcome State Fault Refusal :=
  .next (s.vecRow core.c core.s 0x50 w.toNat)

/-- ST (R167). -/
def execSt (core : CoreId) (w : BitVec 64) (s : State) : Host.Outcome State Fault Refusal :=
  .next (s.vecRow core.c core.s 0x51 w.toNat)

/-- STQ (R167). -/
def execStq (core : CoreId) (w : BitVec 64) (s : State) : Host.Outcome State Fault Refusal :=
  .next (s.vecRow core.c core.s 0x52 w.toNat)

/-- LDX (R175). -/
def execLdx (core : CoreId) (w : BitVec 64) (s : State) : Host.Outcome State Fault Refusal :=
  .next (s.vecRow core.c core.s 0x53 w.toNat)

/-- STX (R175). -/
def execStx (core : CoreId) (w : BitVec 64) (s : State) : Host.Outcome State Fault Refusal :=
  .next (s.vecRow core.c core.s 0x54 w.toNat)

/-- PERM (R170). -/
def execPerm (core : CoreId) (w : BitVec 64) (s : State) : Host.Outcome State Fault Refusal :=
  .next (s.vecRow core.c core.s 0x55 w.toNat)

/-- SHUF (R167). -/
def execShuf (core : CoreId) (w : BitVec 64) (s : State) : Host.Outcome State Fault Refusal :=
  .next (s.vecRow core.c core.s 0x56 w.toNat)

/-- PACK (R176). -/
def execPack (core : CoreId) (w : BitVec 64) (s : State) : Host.Outcome State Fault Refusal :=
  .next (s.vecRow core.c core.s 0x57 w.toNat)

/-- UNPACK (R176). -/
def execUnpack (core : CoreId) (w : BitVec 64) (s : State) : Host.Outcome State Fault Refusal :=
  .next (s.vecRow core.c core.s 0x58 w.toNat)

/-- LSUM (R177). -/
def execLsum (core : CoreId) (w : BitVec 64) (s : State) : Host.Outcome State Fault Refusal :=
  .next (s.vecRow core.c core.s 0x59 w.toNat)

/-- LMAX (R167). -/
def execLmax (core : CoreId) (w : BitVec 64) (s : State) : Host.Outcome State Fault Refusal :=
  .next (s.vecRow core.c core.s 0x5a w.toNat)

/-- LMIN (R167). -/
def execLmin (core : CoreId) (w : BitVec 64) (s : State) : Host.Outcome State Fault Refusal :=
  .next (s.vecRow core.c core.s 0x5b w.toNat)

/-- LMAXI (R177). -/
def execLmaxi (core : CoreId) (w : BitVec 64) (s : State) : Host.Outcome State Fault Refusal :=
  .next (s.vecRow core.c core.s 0x5c w.toNat)

/-- SAMPLE (R197). -/
def execSample (core : CoreId) (w : BitVec 64) (s : State) : Host.Outcome State Fault Refusal :=
  .next (s.vecRow core.c core.s 0x5d w.toNat)

/-- STAT_LEAF (R212). -/
def execStatLeaf (core : CoreId) (w : BitVec 64) (s : State) : Host.Outcome State Fault Refusal :=
  .next (s.vecRow core.c core.s 0x100 w.toNat)

/-- STAT_GET (R212). -/
def execStatGet (core : CoreId) (w : BitVec 64) (s : State) : Host.Outcome State Fault Refusal :=
  .next (s.vecRow core.c core.s 0x101 w.toNat)

/-- INDEX (R212). -/
def execIndex (core : CoreId) (w : BitVec 64) (s : State) : Host.Outcome State Fault Refusal :=
  .next (s.vecRow core.c core.s 0x102 w.toNat)

end Sys2Proof.Machine
end

