-- ==== Sys2Proof/Machine/Dispatch.lean ====
section
/-! DEFINITION. One arm per command of the opcode table: a direct call of its meaning. -/

namespace Sys2Proof.Machine

/-- The effect of a command on everything but the queue. -/
def exec (i : Instr) (s : State) : Host.Outcome State Fault Refusal :=
  match i with
  | .endList core => Sys2Proof.Machine.execEndList core s
  | .ring core => Sys2Proof.Machine.execRing core s
  | .wait core => Sys2Proof.Machine.execWait core s
  | .waitRelease core => Sys2Proof.Machine.execWaitRelease core s
  | .signal core => Sys2Proof.Machine.execSignal core s
  | .move core => Sys2Proof.Machine.execMove core s
  | .yieldCmd core => Sys2Proof.Machine.execYieldCmd core s
  | .mmaTile core => Sys2Proof.Machine.execMmaTile core s
  | .schuss core => Sys2Proof.Machine.execSchuss core s
  | .routine core => Sys2Proof.Machine.execRoutine core s
  | .mmaIssue core => Sys2Proof.Machine.execMmaIssue core s
  | .weightBankFill core bank => Sys2Proof.Machine.execWeightBankFill core bank s
  | .drain core mi ni => Sys2Proof.Machine.execDrain core mi ni s
  | .slabDelivery core ringNo => Sys2Proof.Machine.execSlabDelivery core ringNo s
  | .routineImageLoad core => Sys2Proof.Machine.execRoutineImageLoad core s
  | .routineStep core => Sys2Proof.Machine.execRoutineStep core s
  | .finishingSection core => Sys2Proof.Machine.execFinishingSection core s
  | .yieldPoint core => Sys2Proof.Machine.execYieldPoint core s
  | .taskSaveDone core => Sys2Proof.Machine.execTaskSaveDone core s
  | .watchdogFault core => Sys2Proof.Machine.execWatchdogFault core s
  | .coreFault core cause => Sys2Proof.Machine.execCoreFault core cause s
  | .taskCommit core => Sys2Proof.Machine.execTaskCommit core s
  | .completionRecord core => Sys2Proof.Machine.execCompletionRecord core s
  | .leaseRenewal core => Sys2Proof.Machine.execLeaseRenewal core s
  | .leaseScan cl => Sys2Proof.Machine.execLeaseScan cl s
  | .workRequest core => Sys2Proof.Machine.execWorkRequest core s
  | .take pa wide => Sys2Proof.Machine.execTake pa wide s
  | .fetchAdd pa wide v => Sys2Proof.Machine.execFetchAdd pa wide v s
  | .cas pa wide expected new => Sys2Proof.Machine.execCas pa wide expected new s
  | .minU pa wide v => Sys2Proof.Machine.execMinU pa wide v s
  | .maxU pa wide v => Sys2Proof.Machine.execMaxU pa wide v s
  | .minS pa wide v => Sys2Proof.Machine.execMinS pa wide v s
  | .maxS pa wide v => Sys2Proof.Machine.execMaxS pa wide v s
  | .limit fn cl q v => Sys2Proof.Machine.execLimit fn cl q v s
  | .queueContext cl q v => Sys2Proof.Machine.execQueueContext cl q v s
  | .planPosition cl q => Sys2Proof.Machine.execPlanPosition cl q s
  | .chunkTake cl => Sys2Proof.Machine.execChunkTake cl s
  | .clusterFill cl => Sys2Proof.Machine.execClusterFill cl s
  | .reducePosition cl q => Sys2Proof.Machine.execReducePosition cl q s
  | .groupPosition cl q => Sys2Proof.Machine.execGroupPosition cl q s
  | .adderContribution ma hdr recs => Sys2Proof.Machine.execAdderContribution ma hdr recs s
  | .leafDoneMarker ma hdr => Sys2Proof.Machine.execLeafDoneMarker ma hdr s
  | .reductionCancel ctx redId => Sys2Proof.Machine.execReductionCancel ctx redId s
  | .preempt ctx v => Sys2Proof.Machine.execPreempt ctx v s
  | .saveAreaComplete ctx => Sys2Proof.Machine.execSaveAreaComplete ctx s
  | .restore ctx v => Sys2Proof.Machine.execRestore ctx v s
  | .restoreComplete ctx => Sys2Proof.Machine.execRestoreComplete ctx s
  | .savedTaskResume core => Sys2Proof.Machine.execSavedTaskResume core s
  | .forceSwitch ctx group => Sys2Proof.Machine.execForceSwitch ctx group s
  | .programLoad ctx prog => Sys2Proof.Machine.execProgramLoad ctx prog s
  | .commit ctx v => Sys2Proof.Machine.execCommit ctx v s
  | .commitRecord ctx => Sys2Proof.Machine.execCommitRecord ctx s
  | .commitDone ctx => Sys2Proof.Machine.execCommitDone ctx s
  | .restoreCommit ctx addr => Sys2Proof.Machine.execRestoreCommit ctx addr s
  | .nop core w => Sys2Proof.Machine.execNop core w s
  | .fadd core w => Sys2Proof.Machine.execFadd core w s
  | .fsub core w => Sys2Proof.Machine.execFsub core w s
  | .fmul core w => Sys2Proof.Machine.execFmul core w s
  | .fma core w => Sys2Proof.Machine.execFma core w s
  | .fnma core w => Sys2Proof.Machine.execFnma core w s
  | .fmax core w => Sys2Proof.Machine.execFmax core w s
  | .fmin core w => Sys2Proof.Machine.execFmin core w s
  | .fmaxn core w => Sys2Proof.Machine.execFmaxn core w s
  | .fminn core w => Sys2Proof.Machine.execFminn core w s
  | .fabs core w => Sys2Proof.Machine.execFabs core w s
  | .fneg core w => Sys2Proof.Machine.execFneg core w s
  | .frint core w => Sys2Proof.Machine.execFrint core w s
  | .ffloor core w => Sys2Proof.Machine.execFfloor core w s
  | .fclamp core w => Sys2Proof.Machine.execFclamp core w s
  | .fquant core w => Sys2Proof.Machine.execFquant core w s
  | .hadd core w => Sys2Proof.Machine.execHadd core w s
  | .hsub core w => Sys2Proof.Machine.execHsub core w s
  | .hmul core w => Sys2Proof.Machine.execHmul core w s
  | .hfma core w => Sys2Proof.Machine.execHfma core w s
  | .hfnma core w => Sys2Proof.Machine.execHfnma core w s
  | .hmax core w => Sys2Proof.Machine.execHmax core w s
  | .hmin core w => Sys2Proof.Machine.execHmin core w s
  | .cvtif core w => Sys2Proof.Machine.execCvtif core w s
  | .cvtfi core w => Sys2Proof.Machine.execCvtfi core w s
  | .iadd core w => Sys2Proof.Machine.execIadd core w s
  | .isub core w => Sys2Proof.Machine.execIsub core w s
  | .imul core w => Sys2Proof.Machine.execImul core w s
  | .imax core w => Sys2Proof.Machine.execImax core w s
  | .imin core w => Sys2Proof.Machine.execImin core w s
  | .and core w => Sys2Proof.Machine.execAnd core w s
  | .or core w => Sys2Proof.Machine.execOr core w s
  | .xor core w => Sys2Proof.Machine.execXor core w s
  | .shl core w => Sys2Proof.Machine.execShl core w s
  | .shr core w => Sys2Proof.Machine.execShr core w s
  | .sar core w => Sys2Proof.Machine.execSar core w s
  | .fcmpeq core w => Sys2Proof.Machine.execFcmpeq core w s
  | .fcmplt core w => Sys2Proof.Machine.execFcmplt core w s
  | .fcmple core w => Sys2Proof.Machine.execFcmple core w s
  | .fcmpun core w => Sys2Proof.Machine.execFcmpun core w s
  | .icmpeq core w => Sys2Proof.Machine.execIcmpeq core w s
  | .icmplt core w => Sys2Proof.Machine.execIcmplt core w s
  | .mand core w => Sys2Proof.Machine.execMand core w s
  | .mor core w => Sys2Proof.Machine.execMor core w s
  | .mxor core w => Sys2Proof.Machine.execMxor core w s
  | .mandn core w => Sys2Proof.Machine.execMandn core w s
  | .mnot core w => Sys2Proof.Machine.execMnot core w s
  | .mpop core w => Sys2Proof.Machine.execMpop core w s
  | .sel core w => Sys2Proof.Machine.execSel core w s
  | .exp core w => Sys2Proof.Machine.execExp core w s
  | .log core w => Sys2Proof.Machine.execLog core w s
  | .rcp core w => Sys2Proof.Machine.execRcp core w s
  | .rsqrt core w => Sys2Proof.Machine.execRsqrt core w s
  | .sinr core w => Sys2Proof.Machine.execSinr core w s
  | .cosr core w => Sys2Proof.Machine.execCosr core w s
  | .rand core w => Sys2Proof.Machine.execRand core w s
  | .ld core w => Sys2Proof.Machine.execLd core w s
  | .st core w => Sys2Proof.Machine.execSt core w s
  | .stq core w => Sys2Proof.Machine.execStq core w s
  | .ldx core w => Sys2Proof.Machine.execLdx core w s
  | .stx core w => Sys2Proof.Machine.execStx core w s
  | .perm core w => Sys2Proof.Machine.execPerm core w s
  | .shuf core w => Sys2Proof.Machine.execShuf core w s
  | .pack core w => Sys2Proof.Machine.execPack core w s
  | .unpack core w => Sys2Proof.Machine.execUnpack core w s
  | .lsum core w => Sys2Proof.Machine.execLsum core w s
  | .lmax core w => Sys2Proof.Machine.execLmax core w s
  | .lmin core w => Sys2Proof.Machine.execLmin core w s
  | .lmaxi core w => Sys2Proof.Machine.execLmaxi core w s
  | .sample core w => Sys2Proof.Machine.execSample core w s
  | .statLeaf core w => Sys2Proof.Machine.execStatLeaf core w s
  | .statGet core w => Sys2Proof.Machine.execStatGet core w s
  | .index core w => Sys2Proof.Machine.execIndex core w s
  | .copy core => Sys2Proof.Machine.execCopy core s
  | .fill core => Sys2Proof.Machine.execFill core s
  | .gather core => Sys2Proof.Machine.execGather core s
  | .scatter core => Sys2Proof.Machine.execScatter core s
  | .scatterAdd core => Sys2Proof.Machine.execScatterAdd core s
  | .window core => Sys2Proof.Machine.execWindow core s
  | .windowT core => Sys2Proof.Machine.execWindowT core s
  | .pad core => Sys2Proof.Machine.execPad core s
  | .up2 core => Sys2Proof.Machine.execUp2 core s
  | .down2 core => Sys2Proof.Machine.execDown2 core s
  | .crop core => Sys2Proof.Machine.execCrop core s
  | .landedRead cl granule => Sys2Proof.Machine.execLandedRead cl granule s
  | .deltaTask core => Sys2Proof.Machine.execDeltaTask core s
  | .glideEnable v => Sys2Proof.Machine.execGlideEnable v s
  | .glideForce v => Sys2Proof.Machine.execGlideForce v s
  | .tm1FunctionMode v => Sys2Proof.Machine.execTm1FunctionMode v s
  | .tm1FunctionModeForce v => Sys2Proof.Machine.execTm1FunctionModeForce v s
  | .tm1ContainmentMode v => Sys2Proof.Machine.execTm1ContainmentMode v s
  | .tm1ContainmentForce v => Sys2Proof.Machine.execTm1ContainmentForce v s
  | .drainEnd f => Sys2Proof.Machine.execDrainEnd f s
  | .seedKey ctx slot key => Sys2Proof.Machine.execSeedKey ctx slot key s
  | .stepAdvance ctx v => Sys2Proof.Machine.execStepAdvance ctx v s
  | .stepCounter ctx v => Sys2Proof.Machine.execStepCounter ctx v s
  | .ringLimit v => Sys2Proof.Machine.execRingLimit v s
  | .push => Sys2Proof.Machine.execPush s
  | .flip => Sys2Proof.Machine.execFlip s
  | .pin => Sys2Proof.Machine.execPin s
  | .unpin => Sys2Proof.Machine.execUnpin s
  | .evict => Sys2Proof.Machine.execEvict s
  | .abort => Sys2Proof.Machine.execAbort s
  | .defineTable => Sys2Proof.Machine.execDefineTable s
  | .loadTable => Sys2Proof.Machine.execLoadTable s
  | .flipTable => Sys2Proof.Machine.execFlipTable s
  | .dropTable => Sys2Proof.Machine.execDropTable s
  | .manifestCheck t => Sys2Proof.Machine.execManifestCheck t s
  | .chairliftBlock t blk => Sys2Proof.Machine.execChairliftBlock t blk s
  | .archiveCopyDone slot entry => Sys2Proof.Machine.execArchiveCopyDone slot entry s
  | .chairliftEnable v => Sys2Proof.Machine.execChairliftEnable v s
  | .chairliftForce v => Sys2Proof.Machine.execChairliftForce v s
  | .flitReceive link flit => Sys2Proof.Machine.execFlitReceive link flit s
  | .nak link ack => Sys2Proof.Machine.execNak link ack s
  | .replayTimeout link => Sys2Proof.Machine.execReplayTimeout link s
  | .packetForward link => Sys2Proof.Machine.execPacketForward link s
  | .remoteWrite => Sys2Proof.Machine.execRemoteWrite s
  | .writeDone => Sys2Proof.Machine.execWriteDone s
  | .writeDoneTimeout serial => Sys2Proof.Machine.execWriteDoneTimeout serial s
  | .contrib => Sys2Proof.Machine.execContrib s
  | .contribAck => Sys2Proof.Machine.execContribAck s
  | .leafDone => Sys2Proof.Machine.execLeafDone s
  | .bcastBlock => Sys2Proof.Machine.execBcastBlock s
  | .bcastManifest => Sys2Proof.Machine.execBcastManifest s
  | .resend => Sys2Proof.Machine.execResend s
  | .resendTimeout t => Sys2Proof.Machine.execResendTimeout t s
  | .heartbeatSend => Sys2Proof.Machine.execHeartbeatSend s
  | .heartbeat => Sys2Proof.Machine.execHeartbeat s
  | .heartbeatTimeout peer => Sys2Proof.Machine.execHeartbeatTimeout peer s
  | .neighbour => Sys2Proof.Machine.execNeighbour s
  | .linkDown => Sys2Proof.Machine.execLinkDown s
  | .linkDownTimeout link => Sys2Proof.Machine.execLinkDownTimeout link s
  | .laneFailure link lane => Sys2Proof.Machine.execLaneFailure link lane s
  | .retrainTimer link => Sys2Proof.Machine.execRetrainTimer link s
  | .linkTrainingDone link lane0 lane1 => Sys2Proof.Machine.execLinkTrainingDone link lane0 lane1 s
  | .linkEnable link v => Sys2Proof.Machine.execLinkEnable link v s
  | .linkForce link v => Sys2Proof.Machine.execLinkForce link v s
  | .moduleId v => Sys2Proof.Machine.execModuleId v s
  | .videoRingLimit fn ringNo v => Sys2Proof.Machine.execVideoRingLimit fn ringNo v s
  | .videoJobStart cls => Sys2Proof.Machine.execVideoJobStart cls s
  | .openStream eng => Sys2Proof.Machine.execOpenStream eng s
  | .closeStream eng => Sys2Proof.Machine.execCloseStream eng s
  | .resetStream eng => Sys2Proof.Machine.execResetStream eng s
  | .decode eng => Sys2Proof.Machine.execDecode eng s
  | .encode eng => Sys2Proof.Machine.execEncode eng s
  | .videoJobComplete eng => Sys2Proof.Machine.execVideoJobComplete eng s
  | .videoEngineFault eng => Sys2Proof.Machine.execVideoEngineFault eng s
  | .videoEngineEnable eng v => Sys2Proof.Machine.execVideoEngineEnable eng v s
  | .videoEngineForce eng v => Sys2Proof.Machine.execVideoEngineForce eng v s
  | .videoEngineReset eng v => Sys2Proof.Machine.execVideoEngineReset eng v s
  | .videoEngineTestDone eng pass => Sys2Proof.Machine.execVideoEngineTestDone eng pass s
  | .fence core v => Sys2Proof.Machine.execFence core v s
  | .unfence core v => Sys2Proof.Machine.execUnfence core v s
  | .unfenceTestDone core pass => Sys2Proof.Machine.execUnfenceTestDone core pass s
  | .clusterEnable cl v => Sys2Proof.Machine.execClusterEnable cl v s
  | .clusterForce cl v => Sys2Proof.Machine.execClusterForce cl v s
  | .quiesce cl v => Sys2Proof.Machine.execQuiesce cl v s
  | .release cl v => Sys2Proof.Machine.execRelease cl v s
  | .clusterReset cl v => Sys2Proof.Machine.execClusterReset cl v s
  | .clusterResetDone cl pass => Sys2Proof.Machine.execClusterResetDone cl pass s
  | .clusterPower cl v => Sys2Proof.Machine.execClusterPower cl v s
  | .clusterControlFault cl cause => Sys2Proof.Machine.execClusterControlFault cl cause s
  | .lockstepMismatch unit => Sys2Proof.Machine.execLockstepMismatch unit s
  | .retirePa v => Sys2Proof.Machine.execRetirePa v s
  | .groomerScrub unit word ecc => Sys2Proof.Machine.execGroomerScrub unit word ecc s
  | .cacheMib cl v => Sys2Proof.Machine.execCacheMib cl v s
  | .standbyPowerUp straps imgA imgB => Sys2Proof.Machine.execStandbyPowerUp straps imgA imgB s
  | .powerUp => Sys2Proof.Machine.execPowerUp s
  | .railFault rail => Sys2Proof.Machine.execRailFault rail s
  | .startGate => Sys2Proof.Machine.execStartGate s
  | .selftestDone r => Sys2Proof.Machine.execSelftestDone r s
  | .acceptReduced v => Sys2Proof.Machine.execAcceptReduced v s
  | .retest v => Sys2Proof.Machine.execRetest v s
  | .governorLoop watts => Sys2Proof.Machine.execGovernorLoop watts s
  | .powerClamp watts => Sys2Proof.Machine.execPowerClamp watts s
  | .thermalLoop tj th => Sys2Proof.Machine.execThermalLoop tj th s
  | .thermalTrip sensor reading => Sys2Proof.Machine.execThermalTrip sensor reading s
  | .sagWarning volts => Sys2Proof.Machine.execSagWarning volts s
  | .snapshotWritten => Sys2Proof.Machine.execSnapshotWritten s
  | .sagRecovered => Sys2Proof.Machine.execSagRecovered s
  | .sagReset => Sys2Proof.Machine.execSagReset s
  | .powerCtrl v => Sys2Proof.Machine.execPowerCtrl v s
  | .timeNs v => Sys2Proof.Machine.execTimeNs v s
  | .sagWarnV v => Sys2Proof.Machine.execSagWarnV v s
  | .sagResetV v => Sys2Proof.Machine.execSagResetV v s
  | .snapClear v => Sys2Proof.Machine.execSnapClear v s
  | .read m => Sys2Proof.Machine.execRead m s
  | .write m => Sys2Proof.Machine.execWrite m s
  | .readSeg m => Sys2Proof.Machine.execReadSeg m s
  | .writeSeg m => Sys2Proof.Machine.execWriteSeg m s
  | .discover m => Sys2Proof.Machine.execDiscover m s
  | .list m => Sys2Proof.Machine.execList m s
  | .doorbell fn len => Sys2Proof.Machine.execDoorbell fn len s
  | .respLen fn => Sys2Proof.Machine.execRespLen fn s
  | .plcaNoBeacon => Sys2Proof.Machine.execPlcaNoBeacon s
  | .imageVerified => Sys2Proof.Machine.execImageVerified s
  | .activate v => Sys2Proof.Machine.execActivate v s
  | .patrolRestartDone => Sys2Proof.Machine.execPatrolRestartDone s
  | .operatorKey key => Sys2Proof.Machine.execOperatorKey key s
  | .serviceKey key => Sys2Proof.Machine.execServiceKey key s
  | .clear index v => Sys2Proof.Machine.execClear index v s
  | .perst => Sys2Proof.Machine.execPerst s
  | .flrPf => Sys2Proof.Machine.execFlrPf s
  | .flrVf vf => Sys2Proof.Machine.execFlrVf vf s
  | .bar2Access fn off acc => Sys2Proof.Machine.execBar2Access fn off acc s
  | .atomicOp off wide op a b => Sys2Proof.Machine.execAtomicOp off wide op a b s
  | .hostWindowWrite off data => Sys2Proof.Machine.execHostWindowWrite off data s
  | .hostTarget base v => Sys2Proof.Machine.execHostTarget base v s
  | .intCause fn ctxReg v => Sys2Proof.Machine.execIntCause fn ctxReg v s
  | .standbyPowerLoss => Sys2Proof.Machine.execStandbyPowerLoss s
  | .thermalTripReset => Sys2Proof.Machine.execThermalTripReset s
  | .plcaBeacon => Sys2Proof.Machine.execPlcaBeacon s
  | .pcieLinkTrainingDone up gts width => Sys2Proof.Machine.execPcieLinkTrainingDone up gts width s
  | .modprs link low => Sys2Proof.Machine.execModprs link low s
  | .programUnload ctx => Sys2Proof.Machine.execProgramUnload ctx s
  | .configurationRequest fn w => Sys2Proof.Machine.execConfigurationRequest fn w s

end Sys2Proof.Machine
end

