-- ==== Sys2Proof/Machine/Env.lean ====
section
/-! DEFINITION. Physical happenings that no row of the opcode table brings (log 154): errors that ECC meets at a read, what controllers,
caches and lanes count, Patrol's time over a request, its beacons, packets at its port, and invalidations of the host's translations. -/

namespace Sys2Proof.Machine

/-- The read that met an uncorrectable error ends its task with CHECKSUM (R434, R436, R443). -/
def State.readerFails (s : State) (reader : Option CoreId) : State :=
  match reader with
  | none => s
  | some c => if ((s.core c.c c.s).task).isSome then s.taskFail c.c c.s cChecksum else s

/-- A word of a stack or package holds a byte of a data block: its own, or that of the block that a spare serves (R438). -/
def State.wordIsData (s : State) (unit word : Nat) : Bool :=
  match placeOf unit (word * 64) with
  | .data _ => true
  | .spare k => (s.servedBy unit k).isSome
  | _ => false

/-- A word of memory is read with an error (R435, R436). -/
def State.memoryError (s : State) (unit word : Nat) (bad : Bool) (reader : Option CoreId) : State :=
  if !wordExists unit word then s
  else
    let s' := s.eccAt unit word (if bad then .uncorrectable else .corrected)
    if bad && s.wordIsData unit word then s'.readerFails reader else s'

/-- A word of a cluster's SRAM is read with an error (R443, R450): in a cache line the line is dropped and fetched again, in the control
region the cluster takes a fault, and elsewhere the task that reads ends with CHECKSUM. -/
def State.scratchError (s : State) (cl off : Nat) (bad : Bool) (reader : Option CoreId) : State :=
  if !bad then s.cnt16 (kCl cl 0x90 5) 1
  else
    let s := s.cnt16 (kCl cl 0x90 6) 1
    if s.scratchSize cl ≤ off then s
    else if inControl off then s.controlFault cl
    else s.readerFails reader

/-- FEC corrects symbols of a link, or meets codewords that it cannot correct (R535, R570). -/
def State.fecCounts (s : State) (n corrected uncorrectable : Nat) : State :=
  if s.linkState n = 0 then s else (s.cnt48 (kLink n 8) corrected).cnt16 (kLink n 9) uncorrectable

/-- The main domain has its rails and clocks: self-test or later (R634, R657). -/
def State.mainUp (s : State) : Bool := 2 ≤ s.moduleState

/-- A happening's effect. Those of the main domain need its rails. -/
def State.happen (s : State) (h : Happening) : State :=
  match h with
  | .memoryError u w bad r => if s.mainUp then s.memoryError u.val w.toNat bad r else s
  | .scratchError cl off bad r => if s.mainUp then s.scratchError cl.val off.toNat bad r else s
  | .coreCorrected c => if s.mainUp && s.siteState c.c c.s ≠ 0 then s.cnt16 (kCore c.c c.s 3 4) 1 else s
  | .demoted u => if s.mainUp && wordExists u.val 0 then s.cnt48 (kDev (unitIdx u.val) 4) 1 else s
  | .cacheRead cl hit => if s.mainUp then s.cnt48 (kCl cl.val 0x90 (if hit then 2 else 3)) 1 else s
  | .fec n c u => if s.mainUp then s.fecCounts n.val c u else s
  | .patrolBusy => s.patrolBusy
  | .patrolDone => s.patrolDone
  | .beaconDue => s.sendBeacon
  | .frame f => s.portFrame f
  | .atsInvalidate pasid page =>
    { s with host := { s.host with ats := s.host.ats.filter (fun x => !(x.1 = pasid && x.2.1 = page)) } }

end Sys2Proof.Machine
end

