-- ==== Sys2Proof/Machine/Idle.lean ====
section
/-! DEFINITION. What the block does while no command waits. -/

namespace Sys2Proof.Machine

/-- The first physical happening that waits takes place (DESIGN CHOICE, log 154). -/
def State.nextHappening (s : State) : State :=
  match s.env with
  | [] => s
  | h :: r => ({ s with env := r } : State).happen h

/-- One period of the 100 MHz reference: module time advances by 10 ns (R656), the watchdogs count (R146), and one physical happening takes
place where one waits. -/
def State.idle (s : State) : State :=
  let s := s.wdTick
  ({ s with timeNs := (s.timeNs + 10) % 2 ^ 64 } : State).nextHappening

end Sys2Proof.Machine
end

