-- ==== Sys2Proof/Machine/Step.lean ====
section
/-! DEFINITION. The step: the command at the front of the queue, or one idle period. -/

namespace Sys2Proof.Machine

/-- One step: the command at the front runs on the state whose queue is the rest; on an empty queue the block idles
for one reference period. -/
def step (s : State) : Host.Outcome State Fault Refusal :=
  match s.pending with
  | [] => .next s.idle
  | i :: r => exec i { s with pending := r }

/-- No word spells a command, so there is none to put at the front (the table gives no bits). -/
def State.withFetchWord (s : State) (nbits w : Nat) : State :=
  match Sys2Proof.decodeTableWord nbits w with
  | some i => { s with pending := i :: s.pending }
  | none => s

end Sys2Proof.Machine
end

