-- ==== Sys2Proof/Safety.lean ====
section
/-! DEFINITION. What a safe state is, in the terms that claims use. -/

namespace Sys2Proof.Machine

/-- Memory holds its canonical form: addresses strictly rising, and no byte listed that an unlisted address would
read as. -/
def State.memWf (s : State) : Bool := nwf (0 : Byte) s.mem

/-- A run of one step that neither faults nor is refused. -/
def Runs (s : State) : Prop := ∃ t, step s = .next t

end Sys2Proof.Machine
end

