-- ==== Sys2Proof/WellFormed.lean ====
section
/-! DEFINITION. Well-formed commands: what a sender can really send beyond the operands' types, by the shape of the
units that the spec counts (R4, R641, R665). -/

namespace Sys2Proof

/-- The result lists of a self-test name each unit once (R665): 12 clusters, 24 memory units, 64 links, 12 engines. -/
def SelfTest.wellFormed (r : SelfTest) : Bool :=
  r.clusters.length = 12 && r.mems.length = 24 && r.links.length = 64 && r.engines.length = 12

/-- A message carries the payload its header's LENGTH names (R669). -/
def Msg.wellFormed (m : Msg) : Bool := m.payload.length = (m.hdr.extractLsb' 272 16).toNat

/-- Whether an engine belongs to a class (R4): VD0 to VD7 decode, VE0 to VE3 encode. -/
def engineIs (c : VideoClass) (e : Engine) : Bool :=
  match c with
  | .decode => e.val < 8
  | .encode => 8 ≤ e.val

/-- An access of BAR0 stays within the part that it names (R688, R695). -/
def Bar0Access.wellFormed : Bar0Access → Bool
  | .diagRead off len => 0 < len && len ≤ 4096 && off.toNat + len ≤ 2 ^ 25
  | .winRead off len => 0 < len && off.toNat + len ≤ 0x200C
  | .winWrite off d => 0 < d.length && off.toNat + d.length ≤ 0x1000
  | _ => true

/-- An access of BAR2 has 1 to 4,096 bytes. -/
def BarAccess.wellFormed : BarAccess → Bool
  | .read len => 0 < len && len ≤ 4096
  | .write d => 0 < d.length && d.length ≤ 4096
  | .bar0 a => a.wellFormed

/-- A command that can be sent. -/
def Instr.wellFormed : Instr → Bool
  | .decode e => engineIs .decode e
  | .encode e => engineIs .encode e
  | .thermalLoop tj th => tj.length = 34 && th.length = 16
  | .selftestDone r => r.wellFormed
  | .read m => m.wellFormed
  | .write m => m.wellFormed
  | .readSeg m => m.wellFormed
  | .writeSeg m => m.wellFormed
  | .discover m => m.wellFormed
  | .list m => m.wellFormed
  | .adderContribution _ _ recs => recs.length % 4 = 0
  | .groomerScrub u w _ => w.toNat < (if u.val < 16 then 48 * 2 ^ 24 else 64 * 2 ^ 24)
  | .thermalTrip _ _ => true
  | .bar2Access _ _ acc => acc.wellFormed
  | .hostWindowWrite off d => off.toNat + d.length ≤ 2 ^ 24
  | .pcieLinkTrainingDone _ gts w => [64, 32, 16, 8, 5, 2].contains gts.toNat && [16, 8, 4, 2, 1].contains w.toNat
  | _ => true

end Sys2Proof
end

