-- ==== Sys2Proof/Certificates/Slice0/Obligations.lean ====
section
/-! DEFINITION. The statements about the model, one `Obligations.<Name>` each, over predicates of `Sys2Proof.Claims` that
say when a command runs and what it leaves alone. -/

namespace Sys2Proof.Claims

open Sys2Proof.Machine

/-! ### Vector operations (spec/05, spec/06) -/

/-- A vector command by its word. -/
abbrev VecCmd := CoreId → BitVec 64 → Instr

/-- The live task of a core and the routine section that its vector engine runs (R165, R219). -/
def InSection (s : State) (core : CoreId) (t : Task) (x : Section) : Prop :=
  s.liveTask core.c core.s = some t ∧ (s.core core.c core.s).sect = some x

/-- What the section gives its words: rows, columns, generators and the random state (R209 to R224). -/
def env (s : State) (core : CoreId) (t : Task) (x : Section) : VEnv :=
  (s.core core.c core.s).venv t x (s.free * 4096)

/-- The first `n` sources of a word, 256 lanes each (R210). -/
def Reads (s : State) (core : CoreId) (t : Task) (x : Section) (w : BitVec 64) (n : Nat) (xs : List (List Nat)) : Prop :=
  (s.core core.c core.s).operands (env s core t x) w.toNat n = .ok xs

/-- What one word of the vector engine leaves alone, and what it counts: nothing but the core, the four counters of its
vector engine and the model's own counter of free values changes; the word counts `ops` in the first counter (R158) and
its events on the task (R178). Memory, the sidecar, every other core and every other object stay. -/
structure VecFrame (s u : State) (core : CoreId) (t : Task) (ops : Nat) (ev : Ev) : Prop where
  rest : u = { s with cores := u.cores, objs := u.objs, free := s.free + 1 }
  bytes : ∀ a, u.byte a = s.byte a
  others : ∀ n, n ≠ core.c * 8 + core.s → nget CoreSt.empty u.cores n = nget CoreSt.empty s.cores n
  objects : ∀ k, (∀ i, 1 ≤ i → i ≤ 4 → k ≠ kCore core.c core.s 2 i) → u.obj k = s.obj k
  counted : u.obj (kCore core.c core.s 2 1) = wrapAdd48 (s.obj (kCore core.c core.s 2 1)) ops
  task : (u.core core.c core.s).task = some { t with ev := t.ev.count ev }

/-- A word that writes vector register `d` and nothing else of the core (R163): rings, operand SRAM, masks, commands in
progress and every other register stay. -/
def OnlyVreg (c c' : CoreSt) (d : Nat) : Prop :=
  (∀ n, n ≠ d → c'.vreg n = c.vreg n) ∧
  c' = { c with vregs := c'.vregs, task := c'.task, wdCount := 0 }

/-- A word that writes mask register `d` and nothing else of the core (R163). -/
def OnlyMask (c c' : CoreSt) (d : Nat) : Prop :=
  (∀ n, n ≠ d → c'.mask n = c.mask n) ∧
  c' = { c with masks := c'.masks, task := c'.task, wdCount := 0 }

/-- A word that writes operand SRAM and nothing else of the core (R218): a byte outside the runs `ws` stays. -/
def OnlySram (c c' : CoreSt) (ws : List (Nat × Nat)) : Prop :=
  (∀ a, (∀ p ∈ ws, a < p.1 ∨ p.1 + p.2 ≤ a) → nget 0 c'.sram a = nget 0 c.sram a) ∧
  c' = { c with sram := c'.sram, task := c'.task, wdCount := 0 }

/-- The lane operations of R167 to R172 by command, code, number of sources and the function of one lane. -/
def laneOps : List (VecCmd × Nat × Nat × (List Nat → Nat × Ev)) :=
  [(Instr.fadd, 0x01, 2, lFadd), (Instr.fsub, 0x02, 2, lFsub), (Instr.fmul, 0x03, 2, lFmul), (Instr.fma, 0x04, 3, lFma),
   (Instr.fnma, 0x05, 3, lFnma), (Instr.fmax, 0x06, 2, lFmax), (Instr.fmin, 0x07, 2, lFmin),
   (Instr.fmaxn, 0x08, 2, lFmaxn), (Instr.fminn, 0x09, 2, lFminn), (Instr.fabs, 0x0A, 1, lFabs),
   (Instr.fneg, 0x0B, 1, lFneg), (Instr.frint, 0x0C, 1, lFrint), (Instr.ffloor, 0x0D, 1, lFfloor),
   (Instr.fclamp, 0x0E, 3, lFclamp), (Instr.cvtif, 0x1A, 1, lCvtif), (Instr.cvtfi, 0x1B, 1, lCvtfi),
   (Instr.iadd, 0x20, 2, lInt (· + ·)), (Instr.isub, 0x21, 2, lInt (· - ·)), (Instr.imul, 0x22, 2, lInt (· * ·)),
   (Instr.imax, 0x23, 2, lInt max), (Instr.imin, 0x24, 2, lInt min), (Instr.and, 0x25, 2, lAnd), (Instr.or, 0x26, 2, lOr),
   (Instr.xor, 0x27, 2, lXor), (Instr.shl, 0x28, 2, lShl), (Instr.shr, 0x29, 2, lShr), (Instr.sar, 0x2A, 2, lSar)]

/-- The special functions of R167 and R179. -/
def sfuOps : List (VecCmd × Nat × SfuFn) :=
  [(Instr.exp, 0x40, .exp), (Instr.log, 0x41, .log), (Instr.rcp, 0x42, .rcp), (Instr.rsqrt, 0x43, .rsqrt),
   (Instr.sinr, 0x44, .sinr), (Instr.cosr, 0x45, .cosr)]

/-- The packed operations of R173. -/
def packedOps : List (VecCmd × Nat × Nat × (List Nat → Nat × Ev)) :=
  [(Instr.hadd, 0x11, 2, pHadd), (Instr.hsub, 0x12, 2, pHsub), (Instr.hmul, 0x13, 2, pHmul), (Instr.hfma, 0x14, 3, pHfma),
   (Instr.hfnma, 0x15, 3, pHfnma), (Instr.hmax, 0x16, 2, pHmax), (Instr.hmin, 0x17, 2, pHmin)]

/-- The comparisons of R167. -/
def compareOps : List (VecCmd × Nat × (Nat → Nat → Bool)) :=
  [(Instr.fcmpeq, 0x2C, cFeq), (Instr.fcmplt, 0x2D, cFlt), (Instr.fcmple, 0x2E, cFle), (Instr.fcmpun, 0x2F, cFun),
   (Instr.icmpeq, 0x30, cIeq), (Instr.icmplt, 0x31, cIlt)]

/-- The mask operations of R167, as Boolean functions of one bit. -/
def maskOps : List (VecCmd × Nat × (Bool → Bool → Bool)) :=
  [(Instr.mand, 0x34, fun a b => a && b), (Instr.mor, 0x35, fun a b => a || b), (Instr.mxor, 0x36, fun a b => a != b),
   (Instr.mandn, 0x37, fun a b => a && !b), (Instr.mnot, 0x38, fun a _ => !a)]

/-- Operations whose result fills every lane of d, whatever K holds (log 24): by command, code, number of sources and what
lane i takes from the core, the environment, the word and the sources. LMAX and LMIN with no active lane hold a free value
(log 25). -/
def wholeOps : List (VecCmd × Nat × Nat × (CoreSt → VEnv → Nat → List (List Nat) → Nat → Nat)) :=
  [(Instr.mpop, 0x39, 0, fun c _ w _ _ => ((List.range 512).filter (c.activeH (wK w))).length),
   (Instr.sel, 0x3A, 2, fun c _ w xs i => nth 0 (nth [] xs (if c.active (wK w) i then 0 else 1)) i),
   (Instr.lmax, 0x5A, 1, fun c v w xs _ => match (c.leaves (wK w) (nth [] xs 0)).filterMap id with
      | x :: l => canonF32 (l.foldl f32max x)
      | [] => (Config.freeWord (v.free * 2 ^ 24)).toNat),
   (Instr.lmin, 0x5B, 1, fun c v w xs _ => match (c.leaves (wK w) (nth [] xs 0)).filterMap id with
      | x :: l => canonF32 (l.foldl f32min x)
      | [] => (Config.freeWord (v.free * 2 ^ 24)).toNat),
   (Instr.index, 0x102, 0, fun _ v w _ i => match fld w 21 20 with
      | 0 => v.lrow + wRow w
      | 1 => v.col + 256 * wHalf w + i
      | _ => v.loc + wRow w)]

/-- Operations that move patterns between lanes (R170, R176): what an active lane i takes from the word and the sources. -/
def laneMoves : List (VecCmd × Nat × Nat × (Nat → List (List Nat) → Nat → Nat)) :=
  [(Instr.perm, 0x55, 3, fun _ xs i =>
      let n := nth 0 (nth [] xs 1) i
      if n < 256 then nth 0 (nth [] xs 0) n else if n < 512 then nth 0 (nth [] xs 2) (n - 256) else 0),
   (Instr.shuf, 0x56, 1, fun w xs i => nth 0 (nth [] xs 0) (match fld w 21 20 with
      | 0 => (i + fld w 7 0) % 256
      | 1 => i ^^^ 2 ^ (fld w 7 0 % 8)
      | _ => fld w 7 0)),
   (Instr.unpack, 0x58, 1, fun w xs i =>
      let bits := fmtBits (fld w 17 14)
      let e := 256 * wHalf w + i
      let x := nth 0 (nth [] xs 0) (e / (32 / max 1 bits))
      (elemToF32 (fld w 17 14) (fld x (bits * (e % (32 / max 1 bits)) + bits - 1) (bits * (e % (32 / max 1 bits)))) 127).1)]

/-- The core of a command after it has run. -/
def after (u : State) (core : CoreId) : CoreSt := u.core core.c core.s

/-- Lane i of register d is `f i` where lane i is active under K, and what it was elsewhere (R163). -/
def LanesAre (c c' : CoreSt) (w : Nat) (f : Nat → Nat) : Prop :=
  ∀ i, i < 256 → nth 0 (c'.vreg (wD w)) i = if c.active (wK w) i then f i % 2 ^ 32 else nth 0 (c.vreg (wD w)) i

/-- The rounded code of element e of PACK's concatenated sources; past them the spec names no element, and the bits are a
free value. -/
def packCode (v : VEnv) (ctrl w : Nat) (xs : List (List Nat)) (e : Nat) : Nat :=
  if e < 512 then (ctrlRound ctrl (v.quantRand ctrl w e) (f32v (pairElem xs e))).1
  else (Config.freeByte (v.free * 4096 + e)).toNat

/-- The record that STAT_GET reads for a row and slot: this step's, the group's root, or 12 bytes of operand SRAM (R237, R241). -/
def statRecord (c : CoreSt) (v : VEnv) (w : Nat) : List Nat :=
  if v.statFrom = 0 then (match c.sect with
    | some x => nget [] x.stepStats (wRow w * 32 + fld w 19 15)
    | none => [])
  else if v.statFrom = 1 then (match c.groupOf v.tile with
    | some g => statRoot (nget [] g.stats ((v.q0 + wRow w) * 32 + fld w 19 15))
    | none => [])
  else
    let a := statAddr c v w
    [c.rdNat a 4, c.rdNat (a + 4) 4, c.rdNat (a + 8) 4]
where
  /-- Address of the record in operand SRAM (R241). -/
  statAddr (c : CoreSt) (v : VEnv) (w : Nat) : Nat :=
    let g := bAg v.bind (wAg w)
    (if agAbs g then agBase g else (c.ring (agRing g)).slabAddr (nth 0 v.slabs (wAg w))) +
      12 * (((if agAbs g then v.q else v.q0) + wRow w) * eNstat v.entry + fld w 19 15)

/-- Every vector command with its code (R167, R212). -/
def vecOps : List (VecCmd × Nat) :=
  [(Instr.nop, 0x00)] ++ laneOps.map (fun p => (p.1, p.2.1)) ++ sfuOps.map (fun p => (p.1, p.2.1)) ++
  packedOps.map (fun p => (p.1, p.2.1)) ++ compareOps.map (fun p => (p.1, p.2.1)) ++ maskOps.map (fun p => (p.1, p.2.1)) ++
  wholeOps.map (fun p => (p.1, p.2.1)) ++ laneMoves.map (fun p => (p.1, p.2.1)) ++
  [(Instr.fquant, 0x0F), (Instr.rand, 0x48), (Instr.ld, 0x50), (Instr.st, 0x51), (Instr.stq, 0x52), (Instr.ldx, 0x53),
   (Instr.stx, 0x54), (Instr.pack, 0x57), (Instr.lsum, 0x59), (Instr.lmaxi, 0x5C), (Instr.sample, 0x5D),
   (Instr.statLeaf, 0x100), (Instr.statGet, 0x101)]

/-! ### Cores and tasks (spec/04, spec/06) -/

/-- The only change is that the core has become `c'`: every object, every byte of memory, the sidecar, every queue and every
other core stay. -/
structure CoreOnly (s u : State) (core : CoreId) (c' : CoreSt) : Prop where
  rest : u = { s with cores := u.cores }
  bytes : ∀ a, u.byte a = s.byte a
  others : ∀ n, n ≠ core.c * 8 + core.s → nget CoreSt.empty u.cores n = nget CoreSt.empty s.cores n
  core : after u core = c'

/-- The sequencer of a core stands before the command `w` of opcode `op` of its live task: no code has ended the task, its
image is loaded, no WAIT or YIELD holds it back (R130, R131, R207). -/
structure AtCommand (s : State) (core : CoreId) (op : Nat) (t : Task) (w : Nat) : Prop where
  live : s.liveTask core.c core.s = some t
  running : t.ended = false
  image : t.imageDone = true
  free : t.hold = none
  fetched : s.fetchCmd t t.cmdIndex = .ok w
  opcode : fld w 255 248 = op
  allowed : t.glideOpBad op = false

/-- The sequencer commands but SCHUSS, which also runs a command that has started, by opcode (R130). -/
def seqCmds : List ((CoreId → Instr) × Nat) :=
  [(Instr.endList, 1), (Instr.ring, 2), (Instr.wait, 3), (Instr.signal, 4), (Instr.move, 5), (Instr.yieldCmd, 6),
   (Instr.mmaTile, 0x10), (Instr.routine, 0x20)]

/-- The command whose MMAs are being issued, at a place that issues one, with its slabs and a bank ready (R119, R144). -/
structure CanIssue (s : State) (core : CoreId) (t : Task) (ti : Tile) : Prop where
  live : s.liveTask core.c core.s = some t
  issuing : (s.core core.c core.s).issuing = some ti
  noYield : ti.atYield = false
  present : ti.live (mmaAt ti.schuss ti.cmd ti.issued) = true

/-- The first three conditions of R119 that an MMA waits for: its weight bank, its activation slab, its accumulators. -/
def bankReady (c : CoreSt) (ti : Tile) : Bool :=
  bankHolds c.bank0 ti (mmaAt ti.schuss ti.cmd ti.issued) || bankHolds c.bank1 ti (mmaAt ti.schuss ti.cmd ti.issued)
/-- The activation slab of the next MMA is resident (R119 condition 3). -/
def actReady (c : CoreSt) (ti : Tile) : Bool :=
  (c.ring ti.actRing).resident (ti.actSlab (mmaAt ti.schuss ti.cmd ti.issued))
/-- Its frames are reserved or free, and its sub-tile may open (R119 condition 4, R148). -/
def accReady (c : CoreSt) (ti : Tile) : Bool := c.canReserve ti && ti.canOpen (mmaAt ti.schuss ti.cmd ti.issued)

/-- What a SCHUSS command's sub-tiles hold when the slices up to its next yield point have been folded in order, activation
and weight slabs read as they stand (R82, R154). -/
def schussSum (tm1 : Bool) (c : CoreSt) (ti : Tile) : Tile :=
  let ik := fmtIK (cFa ti.cmd)
  ti.schussPart.foldl (fun x p =>
    if x.live p then
      x.setSub (((x.sub p.mi p.ni).getD (SubTile.fresh p.mi p.ni (cLeafA ti.cmd))).fold tm1 x p (cFw ti.cmd)
        (c.rdSlab (cARing ti.cmd) (ti.actSlab p) 0 (slabBytes (cFa ti.cmd) ik (cRows true ti.cmd)))
        (c.rdSlab (cWRing ti.cmd) (ti.wSlab p) 0 (slabBytes (cFw ti.cmd) ik 512))).1
    else x) ti

/-- The SCHUSS command `ti` runs its product to its next yield point: its sub-tiles hold the folded slices, its places are
passed, the cycles of the slices that issue are counted, and operand SRAM and memory stay (R152 to R155). -/
structure SchussRuns (s : State) (core : CoreId) (ti : Tile) (u : State) : Prop where
  rest : u = { s with cores := u.cores, objs := u.objs }
  bytes : ∀ a, u.byte a = s.byte a
  sram : (after u core).sram = (s.core core.c core.s).sram
  counted : u.obj (kCore core.c core.s 1 5) =
    wrapAdd48 (s.obj (kCore core.c core.s 1 5)) ((ti.schussPart.filter ti.live).length * schussCycles (cFw ti.cmd))
  objects : ∀ k, k ≠ kCore core.c core.s 1 5 → u.obj k = s.obj k
  tile : ∃ tj, (after u core).tiles.find? (fun x => x.num = ti.num) = some tj ∧ tj.issued = ti.issued + ti.schussPart.length ∧
    tj.reserved = true ∧ tj.subs = (schussSum s.tm1 (s.core core.c core.s) ti).subs

/-! ### Queues, atomics, reductions and contexts (spec/03, spec/12, spec/13) -/

/-- The atomics of R444 but CAS and TAKE: the new value of a word from the operand and the old one. -/
def atomicOps : List ((BitVec 52 → Bool → BitVec 64 → Instr) × (Bool → Nat → Nat → Nat)) :=
  [(Instr.fetchAdd, fun _ v x => x + v), (Instr.minU, fun w v x => min x (opWord w v)),
   (Instr.maxU, fun w v x => max x (opWord w v)),
   (Instr.minS, fun w v x => if sWord w v < sWord w x then opWord w v else x),
   (Instr.maxS, fun w v x => if sWord w x < sWord w v then opWord w v else x)]

/-- Offset `off` of cluster `cl` holds no word of a plan's counter (R284, R455). -/
def noPlanWord (s : State) (cl off : Nat) : Prop :=
  0x40080 ≤ off → off < 0x44000 → ∀ p ∈ s.disp.plans,
    ¬((off - 0x40000) / 8 = p.tileCtr ∧ bitAt (plClusters p.record) cl = true) ∧ ¬((off - 0x40000) / 8 = p.chunkCtr ∧ p.cl = cl)

/-- The adder of this module that takes a task's contribution: that of its block, or MA0 where no record of the RED_ID holds
the block (R94). -/
def homeAdder (s : State) (t : Task) (g : Staged) : Nat :=
  match s.redOf t.ctx g.redId with
  | some r => (r.blocks[g.block]?.map (·.adder)).getD 0
  | none => 0

/-- Bytes of a word. -/
def wordBytes (wide : Bool) : Nat := if wide then 8 else 4

/-- Bytes outside [a, a + n) read as before. -/
def BytesOutside (s u : State) (a n : Nat) : Prop := ∀ b, (b < a ∨ a + n ≤ b) → u.byte b = s.byte b

/-- The dispatcher can take the head of a queue, whose descriptor is `d` (R452, R464, R465). -/
def HeadIs (s : State) (cl q d : Nat) : Prop :=
  s.qReady cl q = true ∧ (s.queue cl q).reissue = [] ∧ (s.queue cl q).saved = [] ∧ s.headDesc cl q = .ok d

/-- A contribution or marker that reaches adder `ma`, and the open reduction it belongs to (R94, R95). -/
def ReachesOpen (s : State) (hdr : BitVec 128) (r : Reduction) : Prop :=
  s.redOf (hCtx hdr.toNat) (hRed hdr.toNat) = some r ∧ r.gen = hGen hdr.toNat ∧ r.status = .open_

/-! ### The tensor mover (spec/07 to spec/09) -/

/-- The operations of the tensor mover that run from a task's list, by opcode (R246). -/
def moverOps : List ((CoreId → Instr) × Nat) :=
  [(Instr.copy, opCopy), (Instr.fill, opFill), (Instr.gather, opGather), (Instr.scatter, opScatter),
   (Instr.window, opWindow), (Instr.windowT, opWindowT), (Instr.pad, opPad), (Instr.up2, opUp2), (Instr.down2, opDown2),
   (Instr.crop, opCrop)]

/-- Before its commit, the head of a task's issued descriptors is `m`, of operation `op`, on a core of a cluster that serves
requests in a READY module, or in SAG_HOLD, where what runs runs to completion (R646). -/
structure HeadIssued (s : State) (core : CoreId) (t : Task) (m : Mv) (rest : List Mv) (op : Nat) : Prop where
  ready : s.moduleState = 3 ∨ s.moduleState = 4
  serves : s.clServes core.c = true
  task : (s.core core.c core.s).task = some t
  open_ : t.committed = false
  good : t.codes = []
  list : t.moves = m :: rest
  op : mOp m.desc = op

/-- At the commit, the head of a task's commit-time descriptors is `m`, of operation `op`, and awaits no WRITE_DONE. -/
structure HeadCommitted (s : State) (core : CoreId) (t : Task) (m : Mv) (rest : List Mv) (op : Nat) : Prop where
  ready : s.moduleState = 3 ∨ s.moduleState = 4
  serves : s.clServes core.c = true
  task : (s.core core.c core.s).task = some t
  committed : t.committed = true
  list : t.commitMoves = m :: rest
  op : mOp m.desc = op
  here : m.serial = none

/-- GATHER over the indices `idx` (R266, R267): a slice by its effective index, +0 where it has none. -/
def gatherJob (d desc : Nat) (idx : List Int) : Job :=
  { Job.plain (dstRows d desc) (mN0 d desc) (fun i =>
      match (nth (none, 3) (idx.map (effIndex (mIdxMode d) (mEff d desc (mIdxDim d)))) (nth 0 i (mIdxDim d))).1 with
      | some e => .src (setDim i (mIdxDim d) e)
      | none => .const 0) with reads := idxReads d, masks := maskRuns d }

/-- The last position of SCATTER that names slice `v` of the destination (R270). -/
def lastNaming (eff : List (Option (Option Nat × Nat))) (v : Nat) : Option Nat :=
  ((List.range eff.length).filter (fun p => match nth none eff p with
    | some (some x, _) => x = v
    | _ => false)).getLast?

/-- SCATTER over its effective indices (R266, R270): the slices that a position names, each from the last that names it. -/
def scatterJob (d desc : Nat) (eff : List (Option (Option Nat × Nat))) : Job :=
  let dim := mIdxDim d
  let pick := fun (i : List Nat) => match lastNaming eff (nth 0 i dim) with
    | some p => Pick.src (setDim i dim p)
    | none => .const 0
  if dim = 0 then
    { Job.plain (dstRows d desc) (mN0 d desc) pick with
      reads := idxReads d ++ maskRuns d, keep := fun i0 => (lastNaming eff i0).isSome }
  else
    { Job.plain ((dstRows d desc).filter (fun is => (lastNaming eff (nth 0 is (dim - 1))).isSome)) (mN0 d desc) pick with
      reads := idxReads d ++ maskRuns d }

/-- The operations whose destination is a view of elements, with what they compute: the state in which they read (their own
counters have run on) and the job over the destination view (R246, R250, R266, R270, R306, R308, R313, R338). -/
def jobOps : List ((CoreId → Instr) × Nat × (State → CoreId → Task → Mv → State → Job → Prop)) :=
  [(Instr.fill, opFill, fun s _ t m v j => v = s ∧ j = fillJob m.desc t.desc),
   (Instr.copy, opCopy, fun s core t m v j =>
      ((∀ b, s.srcBank m = some b → b.1 ≠ 2) ∧ v = s ∧ j = copyJob m.desc t.desc) ∨
      (∃ pa, s.srcBank m = some (2, pa) ∧ s.touchesPoison pa 64 = false ∧ s.unverified [⟨false, pa, 64⟩] = none ∧ pageBad m.desc (s.pageHdr pa) = false ∧
        let keys := (pageKeys m.desc t.desc).filter (fun k => klLimit (mSrcAddr m.desc) = 0 || k < klLimit (mSrcAddr m.desc))
        (∀ k ∈ keys, k < phKeys (s.pageHdr pa) → bitAt (s.pageEntry pa k) 63 = true ∧
          s.touchesPoison (pa + 64 + 8 * (k / 64)) 8 = false) ∧
        s.unverified (((keys.filter (· < phKeys (s.pageHdr pa))).map (fun k => (pa + 64 + 8 * (k / 64), 8))).map
          (fun p => ⟨false, p.1, p.2⟩)) = none ∧
        v = s.mvCntOnce core.c m (keys.filter (fun k => phKeys (s.pageHdr pa) ≤ k)).length ∧
        j = { copyJob m.desc t.desc with picks := fun i => [v.pagePick m.desc pa i] })),
   (Instr.pad, opPad, fun s _ t m v j => v = s ∧ j = padJob m.desc t.desc),
   (Instr.up2, opUp2, fun s _ t m v j => v = s ∧ j = resampleJob m.desc t.desc),
   (Instr.down2, opDown2, fun s _ t m v j => v = s ∧ j = resampleJob m.desc t.desc),
   (Instr.gather, opGather, fun s _ t m v j => v = s ∧ xMaskAddr m.desc = 0 ∧
      ∃ idx, s.readIdx t m.desc m 0 (xIdxCount m.desc) = .ok idx ∧ j = gatherJob m.desc t.desc idx),
   (Instr.scatter, opScatter, fun s _ t m v j => v = s ∧
      ∃ eff, s.scatterEff t m.desc m 0 (xIdxCount m.desc) = .ok eff ∧ j = scatterJob m.desc t.desc eff),
   (Instr.crop, opCrop, fun s core t m v j => ∃ id e tb, m.box = some (id, e) ∧ s.table id = some tb ∧
      xBox0 m.desc + mExt m.desc 3 ≤ (tb.bank e).len * 128 ∧
      s.touchesPoison ((tb.bank e).pa + 32 * xBox0 m.desc) (32 * mExt m.desc 3) = false ∧
      s.unverified [⟨false, (tb.bank e).pa + 32 * xBox0 m.desc, 32 * mExt m.desc 3⟩] = none ∧
      v = s.mvCntOnce core.c m ((List.range (mExt m.desc 3)).filter (fun k =>
        !boxOk m.desc (s.boxRec (tb.bank e).pa (xBox0 m.desc + k)))).length ∧
      j = v.cropJob m.desc t.desc (tb.bank e).pa)]

/-- A descriptor has written the rows `r.out` of its destination view, and with TAG_EN its tag, and no other byte; it has
left the task's commit-time list, and its events and bytes are counted (R258, R262, R291). -/
structure ViewWritten (s u : State) (core : CoreId) (t : Task) (m : Mv) (rest : List Mv) (v : State) (r : Moved) : Prop where
  mem : u.mem = (((r.srcPlaces.foldl (fun s q => if q.sram then s else s.countRd q.a q.n) v).modCore core.c core.s
    (fun c => c.releaseRead m.desc r.srcRuns)).writeRuns (v.accMv t m) (mDstAddr m.desc) r.out |>.mvTag t m.desc).mem
  task : ∃ t', (after u core).task = some t' ∧ t'.commitMoves = rest ∧ t'.committed = true ∧ t'.ev = t.ev.count r.ev
  counted : u.obj (kCl core.c 0x80 1) = wrapAdd48 (s.obj (kCl core.c 0x80 1)) ((r.out.map (fun q => q.2.length)).sum)

/-- A fill has queued the deliveries `ds` of slabs behind those of its core, and no byte of memory or operand SRAM has
changed yet; its descriptor stands as `moves` says (R127, R244, R262). -/
structure RingFilled (s u : State) (core : CoreId) (t : Task) (ds : List Delivery) (moves : List Mv) (ev : Ev) : Prop where
  bytes : ∀ a, u.byte a = s.byte a
  deliveries : (after u core).deliveries = (s.core core.c core.s).deliveries ++ ds
  sram : (after u core).sram = (s.core core.c core.s).sram
  task : ∃ t', (after u core).task = some t' ∧ t'.moves = moves ∧ t'.codes = [] ∧ t'.ev = t.ev.count ev
  others : ∀ n, n ≠ core.c * 8 + core.s → nget CoreSt.empty u.cores n = nget CoreSt.empty s.cores n

/-- The deliveries of a fill that has computed `r`, over the ring as it is when the slabs it releases are gone. -/
def fillDeliveries (s : State) (core : CoreId) (m : Mv) (r : Moved) : List Delivery :=
  let c := s.core core.c core.s
  mvDeliveries (if r.upto.isNone then c.releaseRead m.desc r.srcRuns else c) m.desc m
    (runsEnd ((mDstView m.desc).runs (mDstExt m.desc 0 false))) r

/-- What a fill leaves of a descriptor: nothing where it has made its last slab, else how many it has made. -/
def fillLeft (m : Mv) (rest : List Mv) (r : Moved) : List Mv :=
  match r.upto with
  | none => rest
  | some k => { m with sent := k } :: rest

/-- The picks of a window descriptor's slabs (R300). -/
def windowPicks (d : Nat) : List (List (List Pick)) :=
  (List.range (xNpos d / (if mOp d = opWindow then 128 else 512) * (xNleaf d * (1024 / fmtIK (ctrlFmt (mCtrl d)))))).map
    (windowSlab d)

/-- The slabs that a window descriptor has yet to make, as bytes with their events (R301 to R304). -/
def windowOut (s : State) (core : CoreId) (t : Task) (m : Mv) : List (List Byte × Ev) :=
  ((windowPicks m.desc).drop m.sent).map (fun sl => packSlab (mCtrl m.desc) (sl.map (fun row => row.map (fun k =>
    (k.padded, pickValue (mSrcView m.desc).fmt k
      (s.pickCode (s.core core.c core.s) (s.accMv t m) (mSrcPort s m.desc m) (mSrcView m.desc) k))))))

/-- Their deliveries, the last one with the descriptor's tag. -/
def windowDeliveries (c : CoreSt) (m : Mv) (outs : List (List Byte × Ev)) : List Delivery :=
  let a := mDstAddr m.desc
  ((List.range outs.length).map (fun k =>
    (⟨rsRing a, (rsSlab a + (m.sent + k)) % 2 ^ 32, [(rsOff a, (nth ([], Ev.none) outs k).1)],
      if m.sent + k + 1 = (windowPicks m.desc).length && mTagEn m.desc && !m.tagged then some (mTag m.desc) else none, false⟩ :
      Delivery))).filter (fun x => !m.again || serialGe x.slab (c.ring x.ring).filled)

/-! ### The Chairlift (spec/14) -/

/-- The commands of the Chairlift's ring by opcode (R518). -/
def chairRows : List (Instr × Nat) :=
  [(.push, 0x01), (.flip, 0x02), (.pin, 0x03), (.unpin, 0x04), (.evict, 0x05), (.abort, 0x06), (.defineTable, 0x10),
   (.loadTable, 0x11), (.flipTable, 0x12), (.dropTable, 0x13)]

/-- The command `c` of opcode `op` stands at position `n`, the head of the ring, and no code refuses it (R518, R519). -/
structure ChairGood (s : State) (op n c : Nat) : Prop where
  head : s.chairHead = some (n, c)
  op : chOp c = op
  good : s.chairCodes c = []

/-- The ring's head has moved past position `n` (R518). -/
def pastHead (s : State) (n : Nat) : State := s.setObj (kChair 8) (n + 1)

/-! ### Video (spec/16) -/

/-- A class of engines as a number: 0 decode, 1 encode (R571). -/
def classNo : VideoClass → Nat
  | .decode => 0
  | .encode => 1

/-- The jobs of an engine that write nothing into memory, with what they come to (R577). -/
def streamJobs : List ((Engine → Instr) × Nat × (State → VJob → VJob)) :=
  [(Instr.openStream, 0x01, State.openJob), (Instr.closeStream, 0x02, State.closeJob), (Instr.resetStream, 0x03, State.resetJob)]

/-- The jobs of an engine that code pictures, with what they come to (R579, R584). -/
def pictureJobs : List ((Engine → Instr) × Nat × (State → VJob → VOut)) :=
  [(Instr.decode, 0x10, State.decodeJob), (Instr.encode, 0x20, State.encodeJob)]

/-- A job of operation `op` runs on an engine that is ACTIVE or DRAINING, and has not ended. -/
structure JobRuns (s : State) (e op : Nat) (j : VJob) : Prop where
  job : s.vjob e = some j
  op : vOp j.desc = op
  running : j.ended = false
  serves : s.engState e ≤ 1

/-- Nothing but the video engines' working state changes, and of it the job of engine `e` alone. -/
def OnlyJob (s u : State) (e : Nat) : Prop :=
  u = { s with video := { s.video with engines := u.video.engines } } ∧ ∀ k, k ≠ e → u.vjob k = s.vjob k

/-! ### Patrol and the host interface (spec/19, spec/20) -/

/-- The requests by OP (R670). -/
def RequestRow (p : (Msg → Instr) × Nat) : Prop :=
  p ∈ [(Instr.read, 1), (Instr.write, 2), (Instr.readSeg, 3), (Instr.writeSeg, 4), (Instr.discover, 5), (Instr.list, 6)]

/-- Patrol has power, is not restarting, and executes no request (R659, R673, R692). -/
def PatrolServes (s : State) : Prop := s.patrol.on = true ∧ s.patrol.restarting = false ∧ s.patrol.working = false

/-- No answer to this request is kept for its source (R672). -/
def NotKept (s : State) (m : Msg) : Prop :=
  s.patrol.kept.find? (fun k => k.src = m.src && k.seq = hSeq m.hdr.toNat) = none

/-- A request that is well formed, meant for this module, and about an object that exists (R669 to R671). -/
structure GoodRequest (s : State) (m : Msg) : Prop where
  form : msgBad m.src m.hdr.toNat m.payload = false
  target : targetOk m.src m.hdr.toNat = true
  object : noObject (hOp m.hdr.toNat) (hIndex m.hdr.toNat) (hSub m.hdr.toNat) = false

/-- The key whose right tag a request bears, at its level (R675). -/
def tagKey (s : State) (m : Msg) : Option (BitVec 256) :=
  (s.levelKey (levelOf m.src m.hdr.toNat)).filter (fun k =>
    levelOf m.src m.hdr.toNat ≠ 0 ∧ hTag m.hdr.toNat = tagOf k m.hdr.toNat m.payload)

/-- A request without the right: it counts as a failed authentication, is logged, and is answered with AUTH (R676, R687). -/
def authFailed (s : State) (m : Msg) (key : Option (BitVec 256)) : State × Answer :=
  ((s.cnt16 (kDev 0x1010 0xB) 1).event 0x60 1 0xFF (sourceLow m.src) 0, answerTo m.hdr.toNat stAuth [] key)

/-- The level that a request needs: none where no level has the right; DISCOVER and LIST need none (R677, R689). -/
def levelNeeded (s : State) (m : Msg) : Option Nat :=
  if hOp m.hdr.toNat ≤ 4 then s.need m.src (hOp m.hdr.toNat) (hIndex m.hdr.toNat) (hSub m.hdr.toNat) else some 0

/-- What a request that is let through does and is answered with (R670): a status that is not OK changes nothing. -/
def served (s v : State) (m : Msg) (key : Option (BitVec 256)) : State × Answer :=
  let h := m.hdr.toNat
  let r := v.execute (pathRoom m.src) (hOp h) (hIndex h) (hSub h) m.payload
  (if r.2.1 = stOk then r.1 else s, answerTo h r.2.1 r.2.2 key)

/-- The accesses of a host function that pass its gate: the function, whether it is of the Unfoide window (R693, R697), and
whether it is answered, as a read is and a posted write is not (R696). -/
def hostAccess : Instr → Option (Nat × Bool × Bool)
  | .doorbell fn _ => some (fn.val, true, false)
  | .respLen fn => some (fn.val, true, true)
  | .bar2Access fn _ acc => some (fn.val, isWindow acc, acc.isRead)
  | .atomicOp off _ _ _ _ => some (off.fn.val, false, true)
  | .hostWindowWrite _ _ => some (0, false, false)
  | .hostTarget _ _ => some (0, false, false)
  | .intCause fn _ _ => some (fn.val, false, false)
  | .limit fn _ _ _ => some (fn.val, false, false)
  | .videoRingLimit fn _ _ => some (fn.val, false, false)
  | .ringLimit _ => some (0, false, false)
  | _ => none

/-- A function after a reset: its cause registers keep their bits (R702). -/
def fnReset (f : HostFnSt) : HostFnSt := { HostFnSt.empty with intCause := f.intCause, ctxCause := f.ctxCause }

/-! ### Objects and the rest of the module -/

/-- The objects of `l` hold the values it gives, and every other object is what it was. -/
def ObjsAre (s u : State) (l : List (Nat × Nat)) : Prop :=
  ∀ k, u.obj k = ((l.find? (fun p => p.1 = k)).map (·.2)).getD (s.obj k)

/-- Nothing but the objects of `l` changes (R679): memory, cores, queues, links and all the rest of the module stay. -/
def ObjWrite (s u : State) (l : List (Nat × Nat)) : Prop := u = { s with objs := u.objs } ∧ ObjsAre s u l

/-- A command is turned away with a status and changes nothing (R671). -/
def TurnedAway (s : State) (i : Instr) (status : Nat) : Prop := exec i s = .next (s.emit (.refused status))

/-- Every byte of memory stays. -/
def BytesStay (s u : State) : Prop := ∀ a, u.byte a = s.byte a

/-- What every step keeps: memory and the sidecar are in canonical form. -/
structure Inv (s : State) : Prop where
  mem : nwf (0 : Byte) s.mem = true
  side : nwf 0 s.side = true

/-- Objects after reset, by the tables of R157, R203, R290, R291, R375, R450, R501, R529, R570, R597, R632, R665 and R704: the first
index, how many indices and the distance between them, the subindex, and the value. -/
def resetValues : List (Nat × Nat × Nat × Nat × Nat) :=
  [(0x5000, 12, 256, 1, 0), (0x5070, 12, 256, 1, 0), (0x5000, 12, 256, 2, 0xFF), (0x5000, 12, 256, 3, 1600000), (0x5001, 12, 256, 1, 0), (0x5002, 12, 256, 1, 0),
   (0x5090, 12, 256, 1, 16), (0x50A0, 12, 256, 1, 0xFF), (0x50A0, 12, 256, 4, 10), (0x50B0, 12, 256, 1, 1),
   (0x50B0, 12, 256, 2, 0), (0x50B0, 12, 256, 7, 1), (0x2010, 1, 1, 1, 1), (0x2010, 1, 1, 2, 0), (0x2400, 64, 1, 2, 3),
   (0x2400, 64, 1, 4, 0), (0x2400, 64, 1, 8, 0), (0x3001, 1, 1, 1, 0), (0x3020, 1, 1, 1, 2000), (0x3030, 1, 1, 3, 115),
   (0x6000, 1, 1, 1, 0x1FFFF), (0x6000, 1, 1, 8, 500), (0x6000, 1, 1, 9, 4), (0x6100, 64, 1, 6, 0x1FFFF), (0x6100, 64, 1, 7, 0xFF),
   (0x7100, 16, 1, 8, 29696), (0x7300, 1, 1, 3, 3), (0x7400, 16, 1, 8, 2048), (0x8200, 16, 1, 1, 0xFF), (0x9000, 1, 1, 1, 50),
   (0x9100, 64, 1, 1, 0), (0x9100, 64, 1, 8, 1024), (0x9200, 64, 1, 5, 0), (0xA000, 1, 1, 1, 1), (0xA000, 1, 1, 2, 0),
   (0xA100, 8, 1, 2, 0), (0xA200, 1, 1, 1, 0)]

/-- A warning's snapshot (R646, R648, R692): begun when a context is not IDLE and Patrol does not restart, of the contexts as
the warning leaves them; begun or not, no snapshot is valid then where a context is not IDLE. -/
abbrev SnapshotBegins (s u : State) : Prop :=
  (s.busyCtxs = [] → u.power.snapHdr = s.power.snapHdr ∧ u.power.snapBusy = s.power.snapBusy) ∧
  (s.busyCtxs ≠ [] → u.power.snapHdr = [] ∧ u.obj (kDev 0x3050 1) = 0 ∧
    (s.patrol.restarting = false → u.power.snapBusy = true ∧
      u.obj (kDev 0x3050 2) = (s.obj (kDev 0x3050 2) + 1) % 2 ^ 32 ∧ u.busyCtxs = s.busyCtxs ∧
      u.power.nextBody = s.busyCtxs.flatMap u.snapSection ∧
      u.power.nextHdr = u.snapHeader s.busyCtxs.length (4096 + u.power.nextBody.length)) ∧
    (s.patrol.restarting = true → u.power.snapBusy = s.power.snapBusy))

end Sys2Proof.Claims

open Sys2Proof Sys2Proof.Machine Sys2Proof.Claims

/-! ### Vector operations -/

/-- R167 to R172, R163, R178, R179, R203: each arithmetic, integer, shift and special-function operation writes its result into
the active lanes of d and nothing else of the machine, and counts its lanes' events on the task. -/
def Obligations.LaneOperationsWriteActiveLanes : Prop :=
  (∀ p ∈ laneOps, ∀ s core w t x xs, InSection s core t x → wordOk p.2.1 (BitVec.toNat w) = true →
    Reads s core t x w p.2.2.1 xs →
    ∃ u, exec (p.1 core w) s = .next u ∧
      VecFrame s u core t 1 (Ev.sum ((List.range 256).map (fun i =>
        if (s.core core.c core.s).active (wK w.toNat) i then (p.2.2.2 (laneOf xs i)).2 else Ev.none))) ∧
      OnlyVreg (s.core core.c core.s) (after u core) (wD w.toNat) ∧
      LanesAre (s.core core.c core.s) (after u core) w.toNat (fun i => (p.2.2.2 (laneOf xs i)).1)) ∧
  (∀ p ∈ sfuOps, ∀ s core w t x xs, InSection s core t x → wordOk p.2.1 (BitVec.toNat w) = true →
    Reads s core t x w 1 xs →
    ∃ u, exec (p.1 core w) s = .next u ∧
      VecFrame s u core t 1 (Ev.sum ((List.range 256).map (fun i =>
        if (s.core core.c core.s).active (wK w.toNat) i then (lSfu s.tm1 p.2.2 (laneOf xs i)).2 else Ev.none))) ∧
      OnlyVreg (s.core core.c core.s) (after u core) (wD w.toNat) ∧
      LanesAre (s.core core.c core.s) (after u core) w.toNat (fun i => (lSfu s.tm1 p.2.2 (laneOf xs i)).1) ∧
      u.obj (kCore core.c core.s 2 2) = wrapAdd48 (s.obj (kCore core.c core.s 2 2))
        ((List.range 256).filter ((s.core core.c core.s).active (wK w.toNat))).length)

/-- R160, R163, R173: a packed operation rounds each active half-lane to bfloat16; an inactive half-lane keeps its 16 bits. That
the exact result, HFMA's and HFNMA's product included, is rounded once is the model's choice (log 22). -/
def Obligations.PackedOperationsWriteActiveHalfLanes : Prop :=
  ∀ p ∈ packedOps, ∀ s core w t x xs, InSection s core t x → wordOk p.2.1 (BitVec.toNat w) = true →
    Reads s core t x w p.2.2.1 xs →
    ∃ u ev, exec (p.1 core w) s = .next u ∧ VecFrame s u core t 1 ev ∧
      OnlyVreg (s.core core.c core.s) (after u core) (wD w.toNat) ∧
      ∀ i, i < 256 → nth 0 ((after u core).vreg (wD w.toNat)) i =
        let half := fun (j : Nat) =>
          if (s.core core.c core.s).activeH (wK w.toNat) j then (p.2.2.2 (xs.map (fun x => halfOf x j))).1
          else halfOf ((s.core core.c core.s).vreg (wD w.toNat)) j
        (half (2 * i) + 65536 * half (2 * i + 1)) % 2 ^ 32

/-- R161, R163: a comparison writes both bits of each active lane of the mask it names, and no other bit. That bits beyond a
form's lanes stay is the model's choice (log 23). R167, R162, R163: mask logic acts on the bits of the mask it names that K
holds, m0 reading as all ones. That its sources are the masks that the operand codes A and B number, and that K predicates it
bit by bit, is the model's choice (log 23). -/
def Obligations.MaskOperationsWriteMasks : Prop :=
  (∀ p ∈ compareOps, ∀ s core w t x xs, InSection s core t x → wordOk p.2.1 (BitVec.toNat w) = true →
     Reads s core t x w 2 xs →
     ∃ u, exec (p.1 core w) s = .next u ∧ VecFrame s u core t 1 Ev.none ∧
       OnlyMask (s.core core.c core.s) (after u core) (wD w.toNat) ∧
       ∀ j, j < 512 → ((after u core).mask (wD w.toNat)).getLsbD j =
         if (s.core core.c core.s).active (wK w.toNat) (j / 2) then
           p.2.2 (nth 0 (nth [] xs 0) (j / 2)) (nth 0 (nth [] xs 1) (j / 2))
         else ((s.core core.c core.s).mask (wD w.toNat)).getLsbD j) ∧
  (∀ p ∈ maskOps, ∀ s core w t x, InSection s core t x → wordOk p.2.1 (BitVec.toNat w) = true →
     ∃ u, exec (p.1 core w) s = .next u ∧ VecFrame s u core t 1 Ev.none ∧
       OnlyMask (s.core core.c core.s) (after u core) (wD w.toNat) ∧
       ∀ j, j < 512 → ((after u core).mask (wD w.toNat)).getLsbD j =
         if ((s.core core.c core.s).mask (wK w.toNat)).getLsbD j then
           p.2.2 (((s.core core.c core.s).mask (wA w.toNat)).getLsbD j) (((s.core core.c core.s).mask (wB w.toNat)).getLsbD j)
         else ((s.core core.c core.s).mask (wD w.toNat)).getLsbD j)

/-- R169, R177, R212 and log 24, 25: MPOP, SEL, LMAX, LMIN and INDEX fill every lane of d; LSUM with the root of the tree over
its active lanes, a NaN in canonical form and +0 where none is active (which form of LSUM a word has is log 128); LMAXI with the
lowest active lane that holds the largest number, -1 where none holds one. -/
def Obligations.WholeRegisterResults : Prop :=
  (∀ p ∈ wholeOps, ∀ s core w t x xs, InSection s core t x → wordOk p.2.1 (BitVec.toNat w) = true →
    Reads s core t x w p.2.2.1 xs →
    ∃ u, exec (p.1 core w) s = .next u ∧ VecFrame s u core t (if p.2.1 < 0x100 then 1 else 0) Ev.none ∧
      OnlyVreg (s.core core.c core.s) (after u core) (wD w.toNat) ∧
      ∀ i, i < 256 → nth 0 ((after u core).vreg (wD w.toNat)) i =
        p.2.2.2 (s.core core.c core.s) (env s core t x) w.toNat xs i % 2 ^ 32) ∧
  (∀ s core w t x xs, InSection s core t x → wordOk 0x59 (BitVec.toNat w) = true →
    Reads s core t x w (if wA w.toNat = wB w.toNat then 1 else 2) xs →
    let r := treeVal nodeAdd (xs.flatMap ((s.core core.c core.s).leaves (wK w.toNat)))
    ∃ u, exec (.lsum core w) s = .next u ∧ VecFrame s u core t 1 r.2 ∧
      OnlyVreg (s.core core.c core.s) (after u core) (wD w.toNat) ∧
      ∀ i, i < 256 → nth 0 ((after u core).vreg (wD w.toNat)) i = canonF32 (r.1.getD 0) % 2 ^ 32) ∧
  (∀ s core w t x xs, InSection s core t x → wordOk 0x5C (BitVec.toNat w) = true → Reads s core t x w 1 xs →
    let l := (s.core core.c core.s).leaves (wK w.toNat) (nth [] xs 0)
    ∃ u r, exec (.lmaxi core w) s = .next u ∧ VecFrame s u core t 1 Ev.none ∧
      OnlyVreg (s.core core.c core.s) (after u core) (wD w.toNat) ∧
      (∀ i, i < 256 → nth 0 ((after u core).vreg (wD w.toNat)) i = r % 2 ^ 32) ∧
      ((l.filterMap id).filter (fun y => !f32IsNan y) = [] → r = 2 ^ 32 - 1) ∧
      (∀ y ys, (l.filterMap id).filter (fun y => !f32IsNan y) = y :: ys →
        l[r]? = some (some (ys.foldl f32max y)) ∧ ∀ i < r, l[i]? ≠ some (some (ys.foldl f32max y))))

/-- R170, R176, R163: PERM, SHUF and UNPACK give each active lane of d the pattern that its index, its rotation or its packed
element names, count no event, and leave every other lane. The direction of the rotation, the distance of the swap and the
operands of PERM, the lanes of A and C by the index in B, are the model's choice (log 27). -/
def Obligations.LaneMovesSelectLanes : Prop :=
  ∀ p ∈ laneMoves, ∀ s core w t x xs, InSection s core t x → wordOk p.2.1 (BitVec.toNat w) = true →
    Reads s core t x w p.2.2.1 xs →
    ∃ u, exec (p.1 core w) s = .next u ∧ VecFrame s u core t 1 Ev.none ∧
      OnlyVreg (s.core core.c core.s) (after u core) (wD w.toNat) ∧
      LanesAre (s.core core.c core.s) (after u core) w.toNat (p.2.2.2 w.toNat xs)

/-- R167, R176, R163, R224, R400: FQUANT and PACK round each active lane by their control byte; PACK fills both halves of d for
a 16-bit format, and for an 8-bit one the two bytes that its half selector names. A control byte that rounds stochastically
draws the task's stream and needs its key; the place of an element in the step is a free value (log 29). R174, R224: RAND gives
each active lane the word of the stream its binding names, at the lane's logical index, from the task's captured key and step.
-/
def Obligations.RoundingAndRandomLanes : Prop :=
  (∀ s core w t x xs, InSection s core t x → wordOk 0x0F (BitVec.toNat w) = true → Reads s core t x w 1 xs →
    (env s core t x).needsKey (fld w.toNat 21 14) = false →
    let ctrl := fld w.toNat 21 14
    let r := roundLanes ctrl ((env s core t x).quantRand ctrl w.toNat) ((s.core core.c core.s).active (wK w.toNat)) (fun i => nth 0 (nth [] xs 0) i)
    ∃ u, exec (.fquant core w) s = .next u ∧ VecFrame s u core t 1 (Ev.sum r.2.2) ∧
      OnlyVreg (s.core core.c core.s) (after u core) (wD w.toNat) ∧
      LanesAre (s.core core.c core.s) (after u core) w.toNat (fun i =>
        nth 0 (r.1.zipIdx.map (fun p => (elemToF32 (ctrlFmt ctrl) p.1 (nth 127 r.2.1 (p.2 / 32))).1)) i)) ∧
  (∀ s core w t x xs, InSection s core t x → wordOk 0x57 (BitVec.toNat w) = true → Reads s core t x w 2 xs →
    (env s core t x).needsKey (fld w.toNat 21 14) = false →
    let code := packCode (env s core t x) (fld w.toNat 21 14) w.toNat xs
    ∃ u ev, exec (.pack core w) s = .next u ∧ VecFrame s u core t 1 ev ∧
      OnlyVreg (s.core core.c core.s) (after u core) (wD w.toNat) ∧
      LanesAre (s.core core.c core.s) (after u core) w.toNat (fun i =>
        let old := nth 0 ((s.core core.c core.s).vreg (wD w.toNat)) i
        if fmtBits (ctrlFmt (fld w.toNat 21 14)) = 16 then code (2 * i) + 65536 * code (2 * i + 1)
        else if wHalf w.toNat = 0 then code (4 * i) + 256 * code (4 * i + 1) + old / 65536 * 65536
        else old % 65536 + 65536 * (code (4 * i + 2) + 256 * code (4 * i + 3)))) ∧
  (∀ s core w t x k, InSection s core t x → wordOk 0x48 (BitVec.toNat w) = true → t.key = some k →
     let stream := bParam x.binding (fld w.toNat 21 17)
     purposeBits (stream % 256) ≠ 0 → stream % 256 ≤ 7 →
     ∃ u, exec (.rand core w) s = .next u ∧ VecFrame s u core t 1 Ev.none ∧
       OnlyVreg (s.core core.c core.s) (after u core) (wD w.toNat) ∧
       LanesAre (s.core core.c core.s) (after u core) w.toNat (fun i =>
         randElem k t.step stream ((env s core t x).index (wRow w.toNat) (wHalf w.toNat) i)))

/-- R167, R163, R175, R218, R241: LD, LDX and STAT_GET fill the active lanes of d from operand SRAM or a statistic. LD reads 4
bytes a lane at its generator's address; LDX at the lane's own address, where one that does not fit reads 0 and counts in
BAD_INDEX; STAT_GET one field of a record. None changes operand SRAM. That LDX takes its address in operand A is the model's
choice (log 26). -/
def Obligations.LoadsFillActiveLanes : Prop :=
  (∀ s core w t x, InSection s core t x → wordOk 0x50 (BitVec.toNat w) = true →
    let c := s.core core.c core.s
    let a := c.genAddr (env s core t x) (wAg w.toNat) (wRow w.toNat) (fld w.toNat 7 0 * 16)
    c.readStop (env s core t x) (wAg w.toNat) (((List.range 256).filter (c.active (wK w.toNat))).map (fun i => (a + 4 * i, 4))) = none →
    ∃ u, exec (.ld core w) s = .next u ∧ VecFrame s u core t 1 Ev.none ∧ OnlyVreg c (after u core) (wD w.toNat) ∧
      LanesAre c (after u core) w.toNat (fun i => c.rdNat (a + 4 * i) 4)) ∧
  (∀ s core w t x xs, InSection s core t x → wordOk 0x53 (BitVec.toNat w) = true → Reads s core t x w 1 xs →
    let c := s.core core.c core.s
    let at_ := fun i => nth 0 (nth [] xs 0) i
    ∃ u, exec (.ldx core w) s = .next u ∧ VecFrame s u core t 1 Ev.none ∧ OnlyVreg c (after u core) (wD w.toNat) ∧
      LanesAre c (after u core) w.toNat (fun i => if at_ i % 4 = 0 ∧ at_ i + 4 ≤ sramSize then c.rdNat (at_ i) 4 else 0) ∧
      u.obj (kCore core.c core.s 2 4) = satAdd16 (s.obj (kCore core.c core.s 2 4))
        ((List.range 256).filter (fun i => c.active (wK w.toNat) i && !laneAddrOk (at_ i))).length) ∧
  (∀ s core w t x, InSection s core t x → wordOk 0x101 (BitVec.toNat w) = true →
    let c := s.core core.c core.s
    let v := env s core t x
    (v.statFrom ≤ 1 ∨ ((List.range 256).any (c.active (wK w.toNat)) = true ∧
      c.readStop v (wAg w.toNat) [(statRecord.statAddr c v w.toNat, 12)] = none)) →
    ∃ u, exec (.statGet core w) s = .next u ∧ VecFrame s u core t 0 Ev.none ∧ OnlyVreg c (after u core) (wD w.toNat) ∧
      LanesAre c (after u core) w.toNat (fun _ =>
        if fld w.toNat 21 20 = 0 then f32OfNat (nth 0 (statRecord c v w.toNat) 0)
        else nth 0 (statRecord c v w.toNat) (fld w.toNat 21 20)))

/-- R218, R220, R224, R175, R163: ST stores 4 bytes and STQ the rounded elements of each lane that is active and present, at the
generator's address; STX stores 4 bytes at the lane's own address and counts the lanes whose address does not fit. Every other
byte of operand SRAM, every bit of an inactive lane in an MX block, and every register, stays. The model's choice: STX takes its
data in A and its address in B, two of its lanes with different data for one address leave a free value there (log 26), and an
MX block's scale bytes follow the element bytes (log 30). -/
def Obligations.StoresWriteOperandSram : Prop :=
  (∀ s core w t x xs, InSection s core t x → wordOk 0x51 (BitVec.toNat w) = true → Reads s core t x w 1 xs →
    let c := s.core core.c core.s
    let v := env s core t x
    let a := c.genAddr v (wAg w.toNat) (wRow w.toNat) (fld w.toNat 7 0 * 16)
    let runs := ((List.range 256).filter (c.stored v w.toNat)).map (fun i => (a + 4 * i, 4))
    c.writeStop v (wAg w.toNat) runs = none →
    ∃ u, exec (.st core w) s = .next u ∧ VecFrame s u core t 1 Ev.none ∧ OnlySram c (after u core) runs ∧
      ∀ i, i < 256 → c.stored v w.toNat i = true → (after u core).rd (a + 4 * i) 4 = toLE 4 (nth 0 (nth [] xs 0) i)) ∧
  (∀ s core w t x xs, InSection s core t x → wordOk 0x52 (BitVec.toNat w) = true → Reads s core t x w 1 xs →
    let c := s.core core.c core.s
    let v := env s core t x
    let ctrl := fld w.toNat 21 14
    let a := c.genAddr v (wAg w.toNat) (wRow w.toNat) (fld w.toNat 7 0 * 16)
    let r := roundLanes ctrl (v.storeRand ctrl (wRow w.toNat) (wHalf w.toNat)) (c.stored v w.toNat) (fun i => nth 0 (nth [] xs 0) i)
    let codes := if fmtIsMx (ctrlFmt ctrl) then (List.range 256).map (fun i =>
      if c.stored v w.toNat i then nth 0 r.1 i else unpackElem (ctrlFmt ctrl) (c.rd a (planeBytes (ctrlFmt ctrl) 256)) i) else r.1
    let runs := stqRuns (ctrlFmt ctrl) a (c.stored v w.toNat) (packElems (ctrlFmt ctrl) codes) r.2.1
    ((List.range 256).any (c.stored v w.toNat) = true → v.needsKey ctrl = false) →
    c.writeStop v (wAg w.toNat) (runs.map (fun p => (p.1, p.2.length))) = none →
    ∃ u ev, exec (.stq core w) s = .next u ∧ VecFrame s u core t 1 ev ∧
      OnlySram c (after u core) (runs.map (fun p => (p.1, p.2.length))) ∧
      (after u core).sram = (runs.foldl (fun c p => c.wr p.1 p.2) c).sram) ∧
  (∀ s core w t x xs, InSection s core t x → wordOk 0x54 (BitVec.toNat w) = true → Reads s core t x w 2 xs →
    let c := s.core core.c core.s
    let at_ := fun i => nth 0 (nth [] xs 1) i
    let ok := (List.range 256).filter (fun i => c.active (wK w.toNat) i && laneAddrOk (at_ i))
    ∃ u, exec (.stx core w) s = .next u ∧ VecFrame s u core t 1 Ev.none ∧
      OnlySram c (after u core) (ok.map (fun i => (at_ i, 4))) ∧
      (∀ i ∈ ok, (∀ j ∈ ok, at_ j = at_ i → nth 0 (nth [] xs 0) j = nth 0 (nth [] xs 0) i) →
        (after u core).rd (at_ i) 4 = toLE 4 (nth 0 (nth [] xs 0) i)) ∧
      u.obj (kCore core.c core.s 2 4) = satAdd16 (s.obj (kCore core.c core.s 2 4))
        ((List.range 256).filter (fun i => c.active (wK w.toNat) i && !laneAddrOk (at_ i))).length)

/-- R193 to R201: SAMPLE writes one 16-byte record a row at the output of its descriptor, from the logits of the row, the mask
bank where the descriptor names one and the row's random word, and counts its rows. That the descriptor's address is lane 0 of
operand A, that K predicates nothing and what KEPT holds after NAN, INF or GREEDY is the model's choice (log 32), as is K' where
the prefix of R197 reaches no total (log 150). -/
def Obligations.SampleWritesOneRecordPerRow : Prop :=
  ∀ s core w t x xs key bank, InSection s core t x → wordOk 0x5D (BitVec.toNat w) = true → Reads s core t x w 1 xs →
    let c := s.core core.c core.s
    let v := env s core t x
    let a := nth 0 (nth [] xs 0) 0
    let d := c.rdNat a 32
    let V := fld d 255 237
    let es := if fld d 225 222 = 0 then 4 else 2
    let n := fld d 15 8 + 1
    a + 32 ≤ sramSize → sampleBad d = false → v.key = some key →
    (if bitAt d 221 then s.maskBank v.ctx (fld d 63 48) else .ok (0, 2 ^ 52)) = .ok bank →
    (bitAt d 221 = true → cdiv V 8 ≤ bank.2 ∧ s.touchesPoison bank.1 (cdiv V 8) = false) →
    let row := fun (i : Nat) => sampleRow s.tm1 (fld d 207 176) (fld d 175 144) (fld d 236 226)
      (randElem key v.step (streamId (fld d 143 120) 6) ((fld d 119 96 + i) * 2 ^ 20 + fld d 95 76)) (v.free * 1024 + i)
      (fun tok => !bitAt d 221 || (s.byte (bank.1 + tok / 8)).getLsbD (tok % 8))
      ((List.range V).map (fun tok =>
        let y := leNat (((c.rd (fld d 46 32 * 256 + i * roundUp (V * es) 256) (V * es)).drop (tok * es)).take es)
        if es = 4 then y else y * 65536))
    ∃ u, exec (.sample core w) s = .next u ∧
      VecFrame s u core t 1 (Ev.sum ((List.range n).map (fun i => (row i).2))) ∧
      OnlySram c (after u core) ((List.range n).map (fun i => (fld d 30 16 * 256 + 16 * i, 16))) ∧
      (∀ i, i < n → (after u core).rd (fld d 30 16 * 256 + 16 * i) 16 = toLE 16 (row i).1) ∧
      u.obj (kCore core.c core.s 2 3) = wrapAdd48 (s.obj (kCore core.c core.s 2 3)) n

/-- R167, R230, R236, R240: NOP changes no register; STAT_LEAF forms the leaf of its row from the present, active columns and
adds it to the step's records, the stacks of the deferred group of its command or the command's own, and leaves registers, masks
and operand SRAM. -/
def Obligations.NopAndStatLeaf : Prop :=
  (∀ s core w t x, InSection s core t x → wordOk 0x00 (BitVec.toNat w) = true →
    ∃ u, exec (.nop core w) s = .next u ∧ VecFrame s u core t 1 Ev.none ∧
      after u core = { s.core core.c core.s with task := (after u core).task, wdCount := 0 }) ∧
  (∀ s core w t x xs, InSection s core t x → wordOk 0x100 (BitVec.toNat w) = true → Reads s core t x w 2 xs →
    let c := s.core core.c core.s
    let v := env s core t x
    let lf := statLeaf s.tm1 ((List.range 512).map (fun p =>
      if p < v.cols && c.active (wK w.toNat) (p % 256) then some (pairElem xs p) else none))
    let slot := fld w.toNat 19 15
    ∃ u ev, exec (.statLeaf core w) s = .next u ∧ VecFrame s u core t 0 ev ∧
      after u core = { c with
        task := (after u core).task, wdCount := 0, sect := (after u core).sect, group := (after u core).group,
        older := (after u core).older, tiles := (after u core).tiles } ∧
      (v.rows ≤ wRow w.toNat → (after u core).sect = c.sect ∧ (after u core).groups = c.groups ∧ (after u core).tiles = c.tiles) ∧
      (wRow w.toNat < v.rows → v.statTo = 0 → (after u core).groups = c.groups ∧ (after u core).tiles = c.tiles ∧
        ∃ y, (after u core).sect = some y ∧ nget [] y.stepStats (wRow w.toNat * 32 + slot) = lf.1.getD []) ∧
      (∀ g, wRow w.toNat < v.rows → v.statTo = 1 → c.groupOf v.tile = some g →
        (after u core).sect = c.sect ∧ (after u core).tiles = c.tiles ∧
        let key := (v.q0 + wRow w.toNat) * 32 + slot
        (after u core).groups = c.groups.map (fun y => if y.first = g.first then { g with
          stats := nset [] g.stats key (statPush s.tm1 (nget [] g.stats key) v.leaf0 (v.col / 512) lf.1).1 } else y)) ∧
      (wRow w.toNat < v.rows → 2 ≤ v.statTo → (after u core).sect = c.sect ∧ (after u core).groups = c.groups ∧
        (after u core).tiles = c.tiles.map (fun y => if y.num = v.tile then { y with
          stats := nset [] y.stats ((v.q0 + wRow w.toNat) * 32 + slot) (statPush s.tm1
            (match c.tiles.find? (fun z => z.num = v.tile) with
              | some z => nget [] z.stats ((v.q0 + wRow w.toNat) * 32 + slot)
              | none => []) v.leaf0 (v.col / 512) lf.1).1 } else y)))

/-- R165, R210, R213, R217, R218: where a vector word cannot go on. A word that no image may hold, or one sent while no section
runs, changes nothing (the model's choice, log 21); a word whose slab has not arrived waits and changes nothing; one that the
spec refuses is counted as issued (R203), completes the task with a code and changes nothing else. -/
def Obligations.VectorWordsWaitOrFail : Prop :=
  ∀ p ∈ vecOps, ∀ s core w,
    (wordOk p.2 (BitVec.toNat w) = false → exec (p.1 core w) s = .next s) ∧
    (s.liveTask core.c core.s = none → exec (p.1 core w) s = .next s) ∧
    (∀ t x, InSection s core t x → wordOk p.2 (BitVec.toNat w) = true →
      ((s.vop p.2 (env s core t x) (s.core core.c core.s) w.toNat).stop = some none → exec (p.1 core w) s = .next s) ∧
      (∀ code, (s.vop p.2 (env s core t x) (s.core core.c core.s) w.toNat).stop = some (some code) →
        ∃ v, exec (p.1 core w) s = .next (v.taskFail core.c core.s code) ∧
          VecFrame s v core t (if p.2 < 0x100 then 1 else 0) Ev.none ∧
          after v core = { s.core core.c core.s with wdCount := 0, task := (after v core).task }))

/-! ### The sequencer, the arrays and routines -/

/-- R130, R626, R129, R132, R244, R475: END ends the list; RING writes its entry and clears the ring's counters, and keeps the
old entry while a command is in progress; WAIT holds the sequencer until WAIT_RELEASE finds its tag past VALUE; SIGNAL is kept
for the commit; YIELD holds with its live state, and in an open deferred group ends the task with DESCRIPTOR. Each changes its
core alone. That WAIT keeps its command index until WAIT_RELEASE, after its yield point, is the model's choice (log 47), as is
that the entry a RING replaces is kept for a save (log 75). R130, R131, R351: where a sequencer command cannot run. No live
task, an ended list, an image that is not loaded or a hold: nothing changes. A command that cannot be fetched, a reserved opcode
or one that a glided task may not hold ends the task with its code. Another command's opcode changes nothing. -/
def Obligations.SequencerRunsItsList : Prop :=
  (∀ s core t w, AtCommand s core 1 t w → fld w 247 0 = 0 → s.containment = false →
    (∀ g, (s.core core.c core.s).group = some g → g.ntot ≤ g.nextCol ∧ g.broken = false) →
    ∃ u, exec (.endList core) s = .next u ∧
      CoreOnly s u core { s.core core.c core.s with task := some { t.started w with ended := true } }) ∧
  (∀ s core t w, AtCommand s core 2 t w → fld w 243 128 = 0 → fld w 63 0 = 0 →
    let c := s.core core.c core.s
    let r : Ring := { Ring.empty with entry := fld w 127 64 }
    c.ringBusy t (fld w 247 244) = false → c.ringBad (fld w 247 244) r = false →
    ∃ u, exec (.ring core) s = .next u ∧
      CoreOnly s u core { c with
        rings := nset Ring.empty c.rings (fld w 247 244) r,
        prior := if c.tiles.isEmpty then [] else c.prior ++ [(t.cmdIndex, fld w 247 244, c.ring (fld w 247 244))],
        task := some (t.started w) }) ∧
  (∀ s core t w, AtCommand s core 3 t w → fld w 231 224 = 0 → fld w 191 0 = 0 → fld w 247 232 ≤ 12287 →
    ∃ u, exec (.wait core) s = .next u ∧
      CoreOnly s u core { s.core core.c core.s with task := some { t with hold := some 3, yieldReported := false } }) ∧
  (∀ s core t w, s.liveTask core.c core.s = some t → t.hold = some 3 → t.yieldReported = true →
    s.fetchCmd t t.cmdIndex = .ok w → s.clServes (tagCl (fld w 247 232)) = true →
    (serialGe (s.tag t.ctx (fld w 247 232)) (fld w 223 192) = false → exec (.waitRelease core) s = .next s) ∧
    (serialGe (s.tag t.ctx (fld w 247 232)) (fld w 223 192) = true → ∃ u, exec (.waitRelease core) s = .next u ∧
      CoreOnly s u core { s.core core.c core.s with task := some { t.started w with hold := none, yieldReported := false } })) ∧
  (∀ s core t w, AtCommand s core 4 t w → fld w 231 224 = 0 → fld w 191 0 = 0 → fld w 247 232 ≤ 12287 →
    ∃ u, exec (.signal core) s = .next u ∧
      CoreOnly s u core { s.core core.c core.s with
        task := some { t.started w with signals := t.signals ++ [(fld w 247 232, fld w 223 192)] } }) ∧
  (∀ s core t w, AtCommand s core 6 t w → fld w 223 0 = 0 →
    ((∀ g, (s.core core.c core.s).group = some g → g.ntot ≤ g.nextCol ∧ g.broken = false) →
      ∃ u, exec (.yieldCmd core) s = .next u ∧
        CoreOnly s u core { s.core core.c core.s with
          task := some { t.started w with hold := some 6, yieldReported := false, liveKib := fld w 247 224 } }) ∧
    (∀ g, (s.core core.c core.s).group = some g → g.nextCol < g.ntot →
      exec (.yieldCmd core) s = .next (s.taskFail core.c core.s cDescriptor))) ∧
  (∀ p ∈ seqCmds, ∀ s core,
     (s.liveTask core.c core.s = none → exec (p.1 core) s = .next s) ∧
     ∀ t, s.liveTask core.c core.s = some t →
       (t.ended = true ∨ t.imageDone = false ∨ t.hold.isSome = true → exec (p.1 core) s = .next s) ∧
       (t.ended = false → t.imageDone = true → t.hold = none →
         (∀ e, s.fetchCmd t t.cmdIndex = .error e → exec (p.1 core) s = .next (s.taskFail core.c core.s e)) ∧
         (∀ w, s.fetchCmd t t.cmdIndex = .ok w →
           (opcodeDefined (fld w 255 248) = false ∨ t.glideOpBad (fld w 255 248) = true →
             exec (p.1 core) s = .next (s.taskFail core.c core.s cDescriptor)) ∧
           (opcodeDefined (fld w 255 248) = true → t.glideOpBad (fld w 255 248) = false → fld w 255 248 ≠ p.2 →
             exec (p.1 core) s = .next s))))

/-- R251, R257, R278, R136, R14: a MOVE whose descriptor passes its checks is issued, tagged with the epochs current then, and
kept for the commit, or run at once when it fills a ring, whose next slab number then follows its slabs. One that does not pass
ends its task with the first code that applies. -/
def Obligations.MoveIsIssuedOrKept : Prop :=
  ∀ s core t w d phys turned, AtCommand s core 5 t w → fld w 247 64 = 0 → s.mvDesc core.c core.s t w = .ok (d, phys, turned) →
    (∀ e, s.checkedMv core.c core.s t d = .error e → exec (.move core) s = .next (s.taskFail core.c core.s e)) ∧
    (∀ v mv, mvCodes (s.core core.c core.s) t (s.obj (kDev 0x6000 1)) d = [] → s.issueMv t d = .ok (v, mv) →
      s.tableBad mv = false →
      let m : Mv := { mv with phys := phys, turned := turned }
      mv.desc = d ∧ mv.xlat = (s.xlatTag t.ctx).toOption ∧ v = { s with chair := v.chair } ∧
      (mvAtCommit d = true → ∃ u, exec (.move core) s = .next u ∧
        CoreOnly v u core { s.core core.c core.s with
          task := some { t.started w with commitMoves := t.commitMoves ++ [m] } }) ∧
      (mvAtCommit d = false → ∃ u, exec (.move core) s = .next u ∧
        CoreOnly v u core { (s.core core.c core.s).modRing (rsRing (mDstAddr d)) (fun r =>
            { r with nextFill := (rsSlab (mDstAddr d) + mvSlabs (s.core core.c core.s) d) % 2 ^ 32 }) with
          task := some { t.started w with moves := t.moves ++ [m] } }))

/-- R131, R133, R136, R140, R152, R154, R155: MMA_TILE and SCHUSS start when the arrays are free and their checks pass: the
command joins the commands in progress with the slabs it takes, and its leaves are noted for the commit. A product task's
command starts with the mode and the skipped slices of its glide state. SCHUSS runs its product as far as its slabs stand ready:
each slice is folded once, and its cycles are counted. That it runs all slices up to the next yield point in one command is the
model's choice (log 48). -/
def Obligations.ProductsStart : Prop :=
  (∀ s core t w g (sch : Bool), AtCommand s core (if sch then 0x11 else 0x10) t w →
    let c := s.core core.c core.s
    let b := ((s.readBinding t w).toOption.join).getD 0
    c.canStartTile = true →
    tileCodes c t sch w (s.readBinding t w) (if cNode w then (s.redNamed t.ctx (cRed w) (cGen w)).map Reduction.leaves else none) = [] →
    (match (if t.isProduct then t.glide else none) with
      | some r => s.productStart c t r w
      | none => .ok (false, [], [])) = .ok g →
    (sch = true → c.tiles.find? (fun x => x.schuss && !x.allIssued) = none) →
    let e := extWord t.desc (cExtSel w)
    let c' : CoreSt := { c.addTile t sch w b g.2.1 with
      task := some { t.started w with
        dones := t.dones ++ ((if cNode w then [⟨cGen w, cRed w, cLeafA w, cLeafB w⟩] else []) ++ spillDone c w b),
        gDone := true, gFull := g.1, gStamps := g.2.2 } }
    (∃ v, CoreOnly s v core c' ∧
      (sch = false → exec (.mmaTile core) s = .next v) ∧
      (sch = true → c'.schussNext = none → exec (.schuss core) s = .next v) ∧
      (∀ ti, sch = true → c'.schussNext = some ti → ∃ u, exec (.schuss core) s = .next u ∧ SchussRuns v core ti u)) ∧
    (extM e ≠ 0 → extN e ≠ 0 → cLeafA w < extL e → ∃ ti, c'.tiles = c.tiles ++ [ti] ∧ ti.num = t.cmdNum ∧ ti.cmd = w ∧
      ti.schuss = sch ∧ ti.binding = b ∧ ti.issued = 0 ∧ ti.drained = [] ∧ ti.reserved = false ∧
      ti.rtM = extM e ∧ ti.rtN = extN e ∧ ti.rtL = extL e ∧ ti.skips = g.2.1 ∧
      ti.aBase = (c.ring (cARing w)).nextRead ∧
      (cARing w ≠ cWRing w → ti.wBase = (c.ring (cWRing w)).nextRead) ∧ ti.oBase = (c.ring (cORing w)).nextFill)) ∧
  (∀ s core t x, s.liveTask core.c core.s = some t →
    (s.core core.c core.s).tiles.find? (fun x => x.schuss && !x.allIssued) = some x →
    ((s.core core.c core.s).schussNext = none → exec (.schuss core) s = .next s) ∧
    (∀ ti, (s.core core.c core.s).schussNext = some ti → ∃ u, exec (.schuss core) s = .next u ∧ SchussRuns s core ti u))

/-- R158: a stall cycle counts in only one of the three stall counters: that of the first condition of R119 that failed, in the
order bank (2), slab (3), accumulators (4); it changes nothing else. A cycle that issues counts in none. -/
def Obligations.StallCyclesCountTheFirstCause : Prop :=
  ∀ s core t ti, CanIssue s core t ti →
    let c := s.core core.c core.s
    let k := fun i => kCore core.c core.s 1 i
    let first := if bankReady c ti = false then some 2 else if actReady c ti = false then some 3
      else if accReady c ti = false then some 4 else none
    ∃ u, exec (.mmaIssue core) s = .next u ∧ (∀ i ∈ [2, 3, 4], u.obj (k i) =
        if first = some i then wrapAdd48 (s.obj (k i)) 1 else s.obj (k i)) ∧
      (∀ i, first = some i → ObjWrite s u [(k i, wrapAdd48 (s.obj (k i)) 1)])

/-- R119 to R123, R148: the next MMA of the order issues when its bank, its slab and its accumulators are ready: the slice is
folded into its sub-tile once, the place is passed and one MMA is counted. R121, R122: a free bank takes the next weight slice
that no bank holds once its slab is resident: its bytes as they stand in the W_RING slab, or for Pair-BF16 and FP32 the 64 KiB
of pieces of its pass (R118). A bank that is not free stays. -/
def Obligations.MmaIssueFoldsOneSlice : Prop :=
  (∀ s core t ti, CanIssue s core t ti →
     let c := s.core core.c core.s
     let p := mmaAt ti.schuss ti.cmd ti.issued
     let k := fun i => kCore core.c core.s 1 i
     (bankReady c ti = true → actReady c ti = true → accReady c ti = true →
       let f := ((ti.sub p.mi p.ni).getD (SubTile.fresh p.mi p.ni (cLeafA ti.cmd))).fold s.tm1 ti p (bankFmt (cFw ti.cmd))
         (c.rdSlab ti.actRing (ti.actSlab p) 0 (slabBytes (cFa ti.cmd) (fmtIK (cFa ti.cmd)) (cRows ti.schuss ti.cmd)))
         (match (if bankHolds c.bank0 ti p then c.bank0 else c.bank1) with
           | some b => b.data
           | none => [])
       ∃ u, exec (.mmaIssue core) s = .next u ∧ (∀ a, u.byte a = s.byte a) ∧
         u = { s with cores := u.cores, objs := u.objs } ∧ u.obj (k 1) = wrapAdd48 (s.obj (k 1)) 1 ∧
         (∀ n, n ≠ k 1 → u.obj n = s.obj n) ∧ (after u core).sram = c.sram ∧
         ∃ tj, (after u core).tiles.find? (fun x => x.num = ti.num) = some tj ∧ tj.issued = ti.issued + 1 ∧ tj.reserved = true ∧
           tj.subs = (ti.setSub f.1).subs)) ∧
  (∀ s core (b : Fin 2) t ti p, s.liveTask core.c core.s = some t → (s.core core.c core.s).issuing = some ti →
     let c := s.core core.c core.s
     let bank := fun (x : CoreSt) => if b.val = 0 then x.bank0 else x.bank1
     (bank c ≠ none → exec (.weightBankFill core b) s = .next s) ∧
     (bank c = none → ti.nextNeeds.find? (fun p => !bankHolds c.bank0 ti p && !bankHolds c.bank1 ti p) = some p →
       (c.ring (cWRing ti.cmd)).resident (ti.wSlab p) = true →
       ∃ u, exec (.weightBankFill core b) s = .next u ∧ (∀ a, u.byte a = s.byte a) ∧ u = { s with cores := u.cores } ∧
         bank (after u core) = some ⟨ti.num, ti.wSlab p, p.pass,
           bankBytes (cFw ti.cmd) p.pass
             (c.rdSlab (cWRing ti.cmd) (ti.wSlab p) 0 (slabBytes (cFw ti.cmd) (fmtIK (cFw ti.cmd)) 512))⟩ ∧
         (after u core).sram = c.sram ∧ (after u core).tiles = c.tiles ∧ (after u core).rings = c.rings))

/-- R138, R139, R150: a finished sub-tile of a command without an epilogue drains into its slab, which awaits delivery: the
rounded rows of a ROOT product, the unrounded binary32 sums of a NODE product, which also leaves its contributions for the
commit. A sub-tile beyond the run-time extents only gives its slab, which is the model's choice (log 45). R126, R127, R245: the
next slab of a ring is delivered when there is room for it: its bytes stand in the slab and FILLED advances by one; the last
slab of a tagged descriptor increments its tag. Otherwise nothing changes. -/
def Obligations.DrainsAndDeliveriesFillTheRings : Prop :=
  (∀ s core (mi : Fin 8) (ni : Fin 4) t ti, s.liveTask core.c core.s = some t →
     let c := s.core core.c core.s
     let y := (c.formY ti mi.val ni.val).1
     let tj := (y.tiles.find? (fun x => x.num = ti.num)).getD ti
     c.readyTile mi.val ni.val = some ti → cEpi ti.cmd = 0xFF →
     (c.ring (cORing ti.cmd)).room (ti.oSlab mi.val ni.val) = true → c.yReady ti mi.val ni.val = true →
     (∀ v, tj.sub mi.val ni.val = some v → ∃ u, exec (.drain core mi ni) s = .next u ∧ (∀ a, u.byte a = s.byte a) ∧
       (after u core).sram = (if cNode ti.cmd then (y.drainNode tj v).sram else (y.drainRoot t tj v).1.sram) ∧
       (after u core).deliveries = c.deliveries ++ [⟨cORing ti.cmd, tj.oSlab mi.val ni.val, [], none, false⟩] ∧
       ∃ t', (after u core).task = some t' ∧
         t'.staged = t.staged ++ (if cNode ti.cmd then nodeStaged tj v else [])) ∧
     (tj.sub mi.val ni.val = none → ∃ u, exec (.drain core mi ni) s = .next u ∧ (∀ a, u.byte a = s.byte a) ∧
       (after u core).sram = y.sram ∧ (after u core).deliveries = c.deliveries ++ [⟨cORing ti.cmd, tj.oSlab mi.val ni.val, [], none, false⟩])) ∧
  (∀ s core (ringNo : Fin 16) t, s.liveTask core.c core.s = some t →
     let c := s.core core.c core.s
     ((∀ d ∈ c.deliveries, d.ring = ringNo.val → c.canDeliver d = false) → exec (.slabDelivery core ringNo) s = .next s) ∧
     (∀ d, c.deliveries.find? (fun d => d.ring = ringNo.val && c.canDeliver d) = some d →
       ∃ v, CoreOnly s v core { c.deliver d with wdCount := 0 } ∧
         (d.tag = none → exec (.slabDelivery core ringNo) s = .next v) ∧
         (∀ g, d.tag = some g → exec (.slabDelivery core ringNo) s = .next (v.tagAdd t.ctx g 1)) ∧
         ((after v core).ring ringNo.val).filled = ((c.ring ringNo.val).filled + 1) % 2 ^ 32 ∧
         (∀ r, r ≠ ringNo.val → (after v core).ring r = c.ring r) ∧
         (after v core).deliveries = c.deliveries.erase d))

/-- R207, R208, R214, R230: the named image is loaded before the task's first command, a refused one leaving the image before it
resident; ROUTINE reads its binding block, takes the slab numbers of its generators and waits its turn on the vector engine.
Which images are malformed beyond the checks that R208 lists, and that a refused one leaves the image before it, is the model's
choice (log 38). -/
def Obligations.RoutineImagesAndCommands : Prop :=
  (∀ s core t, s.liveTask core.c core.s = some t → t.imageDone = false →
    let c := s.core core.c core.s
    (c.imageReady t.desc = true → ∃ u, exec (.routineImageLoad core) s = .next u ∧
      CoreOnly s u core { c with task := some { t with imageDone := true } }) ∧
    (∀ bs, c.imageReady t.desc = false → s.readVa (s.accNow t) (fld t.desc 799 752) 16384 = .ok bs →
      let m := nsetRun (0 : Byte) [] 0 bs
      (imgNat m 0 8 = fld t.desc 863 800 → imageBad m = false → ∃ u, exec (.routineImageLoad core) s = .next u ∧
        CoreOnly s u core { c with rmem := m, resident := true, task := some { t with imageDone := true } }) ∧
      (imgNat m 0 8 ≠ fld t.desc 863 800 ∨ imageBad m = true →
        exec (.routineImageLoad core) s = .next (s.taskFail core.c core.s cDescriptor)))) ∧
  (∀ s core t w b, AtCommand s core 0x20 t w → fld w 247 64 = 0 → s.readVaNat (s.accNow t) (fld w 63 0) 256 = .ok b →
    let c := s.core core.c core.s
    (routineBad c b = true → exec (.routine core) s = .next (s.taskFail core.c core.s cDescriptor)) ∧
    (routineBad c b = false → ∃ u, exec (.routine core) s = .next u ∧
      CoreOnly s u core { c.queueRoutine (Section.fresh .standalone (bEntry b) t.cmdNum b 0 (bSection b)) with
        task := some (t.started w) }))

/-- R219 to R222, R225, R236, R203, R217: one step of the section in progress, or of the next one, which begins, runs its words
on its rows. It waits while a slab that a word reads has not arrived, and at the end of a unit until its generators' slabs have;
where a word fails, what was issued before is counted and the task ends. Else the section stands at its next rows with the
registers and operand SRAM that the words and the write back left, its head has run, and its operations are counted, those of
the head among them. The step that finishes the section, or a unit of a standalone one, releases its slabs and ends it. That a
command's pieces share one head's registers, and which of several sections ready together comes first, is the model's choice
(logs 34 and 35). R127, R221: without a live task, or while no section has its turn, a routine step changes nothing. R237, R238,
R221: once every tile section of a core's oldest group, complete, has ended, the finishing section runs over its next held sub-
tile with the registers that the one before it left; its output slab then awaits delivery, and the group ends with its last one.
It waits while a slab that it reads has not arrived. -/
def Obligations.RoutineStepsRunSections : Prop :=
  (∀ s core t c x ev, s.liveTask core.c core.s = some t → (s.core core.c core.s).turn = some (c, x, ev) →
     let e := imgEntry c.rmem x.entry
     let r := if c.sectRows x ≤ x.row then VRes.ok c .none else s.stepRows c t x (s.free * 4096)
     let ops := (((if x.head then [] else headWords c.rmem e) ++ sectWords c x).filter (fun w => wClass w = 0)).length
     let ops := if c.sectRows x ≤ x.row then 0 else ops
     let z : Section := match r.c.sect with
       | some y => { y with row := x.row + eRps e, head := true }
       | none => x
     let last := c.sectRows x ≤ z.row
     (r.stop = some none → exec (.routineStep core) s = .next s) ∧
     (∀ code, r.stop = some (some code) → exec (.routineStep core) s =
       .next ((s.vecDone core.c core.s { r with ev := ev.plus r.ev }).taskFail core.c core.s code)) ∧
     (r.stop = none → (last ∨ unitTurn z z.row = true) → r.c.unitReady z = false →
       exec (.routineStep core) s = .next s) ∧
     (r.stop = none → ¬last → unitTurn z z.row = false →
       ∃ u, exec (.routineStep core) s = .next u ∧ (∀ a, u.byte a = s.byte a) ∧
         u = { s with cores := u.cores, objs := u.objs, free := s.free + 1 } ∧
         (after u core).sect = some z ∧
         (after u core).vregs = r.c.vregs ∧ (after u core).masks = r.c.masks ∧ (after u core).sram = r.c.sram ∧
         (after u core).tiles = r.c.tiles ∧
         u.obj (kCore core.c core.s 2 1) = wrapAdd48 (s.obj (kCore core.c core.s 2 1)) ops) ∧
     (r.stop = none → ¬last → unitTurn z z.row = true → r.c.unitReady z = true →
       ∃ u, exec (.routineStep core) s = .next u ∧ (∀ a, u.byte a = s.byte a) ∧
         (after u core).sect = some (r.c.unitOf z) ∧ (after u core).rings = (r.c.endUnit z).rings ∧
         (after u core).deliveries = (r.c.endUnit z).deliveries ∧ (after u core).sram = r.c.sram ∧
         u.obj (kCore core.c core.s 2 1) = wrapAdd48 (s.obj (kCore core.c core.s 2 1)) ops) ∧
     (r.stop = none → last → r.c.unitReady z = true →
       let d := r.c.endSection s.tm1 (r.c.venv t z (s.free * 4096)) z
       ∃ u t', exec (.routineStep core) s = .next u ∧ (∀ a, u.byte a = s.byte a) ∧ (after u core).sect = none ∧
         (after u core).tiles = d.1.tiles ∧ (after u core).rings = d.1.rings ∧ (after u core).deliveries = d.1.deliveries ∧
         (after u core).sram = d.1.sram ∧ (after u core).group = d.1.group ∧
         (after u core).task = some t' ∧ t'.staged = t.staged ++ d.2.2 ∧
         u.obj (kCore core.c core.s 2 1) = wrapAdd48 (s.obj (kCore core.c core.s 2 1)) ops)) ∧
  (∀ (s : State) (core : CoreId), s.liveTask core.c core.s = none ∨ (s.core core.c core.s).turn = none →
     exec (.routineStep core) s = .next s) ∧
  (∀ s core t g, s.liveTask core.c core.s = some t → (s.core core.c core.s).groups.head? = some g →
     let c := s.core core.c core.s
     let z := if g.closing then (g, Ev.none) else g.collapse s.tm1
     (c.groupReady g = false → exec (.finishingSection core) s = .next s) ∧
     (c.groupReady g = true → z.1.held = [] → ∃ u, exec (.finishingSection core) s = .next u ∧
       CoreOnly s u core { c.endGroup with task := (after u core).task }) ∧
     (∀ h rest, c.groupReady g = true → z.1.held = h :: rest →
       let x := { Section.fresh .finishing g.entry h.tile h.binding h.ni false with gens := h.gens, slabs := h.slabs }
       let y := (c.setGroup z.1).enter g.finRegs x
       let r := s.finSteps t 129 (VRes.ok { y.1 with sect := some y.2 } z.2)
       (∀ code, r.stop = some (some code) →
         exec (.finishingSection core) s = .next ((s.vecDone core.c core.s r).taskFail core.c core.s code)) ∧
       (r.stop = some none ∨ (r.stop = none ∧ r.c.unitReady x = false) → exec (.finishingSection core) s = .next s) ∧
       (r.stop = none → r.c.unitReady x = true → ∃ u, exec (.finishingSection core) s = .next u ∧
         (∀ a, u.byte a = s.byte a) ∧ (after u core).sect = none ∧
         (after u core).groups = (if rest.isEmpty then r.c.endGroup else r.c.setGroup { z.1 with
           held := rest, finRegs := (r.c.sect.map (fun v => r.c.leftRegs v g.finRegs)).getD g.finRegs }).groups ∧
         (after u core).deliveries = ((r.c.endUnit x).deliveries ++
           [⟨cORing h.cmd, h.oSlab, [], none, eCsum (imgEntry r.c.rmem g.entry)⟩]) ∧
         (after u core).sram = (r.c.endUnit x).sram ∧
         u.obj (kCore core.c core.s 2 1) = wrapAdd48 (s.obj (kCore core.c core.s 2 1)) r.ops)))

/-! ### Tasks, queues and reductions -/

/-- R467, R477, R481: at a yield point the core renews its lease and its group is projected; the task goes on, or, in a context
that is pre-empted, writes its save record and waits for TASK_SAVE_DONE, which frees the core and leaves the task among the
saved ones with its lease SAVED. A save write that fails is the context's failure, and a core that cannot save yet stays. Which
work under way a core saves, and that a stale holder's save only frees its core, is the model's choice (logs 75 and 80). -/
def Obligations.YieldPointsPassOrSave : Prop :=
  (∀ s core t, s.liveTask core.c core.s = some t →
    let c := s.core core.c core.s
    let pre := s.ctxState t.ctx = 2 && !(s.ctx t.ctx).saveFailed
    (c.yieldTile.isSome || t.hold = some 6 || (t.hold = some 3 && (pre || !t.yieldReported))) = true →
    let v := (s.renew core.c t).project t
    (pre = false →
      (∀ ti, c.yieldTile = some ti → ∃ u, exec (.yieldPoint core) s = .next u ∧ CoreOnly v u core
        (c.setTile { ti with yielded := ti.issued / (stepLen ti.schuss ti.cmd * 2 ^ (cYpt ti.cmd - 1)) })) ∧
      (c.yieldTile = none → t.hold = some 6 → ∃ u, exec (.yieldPoint core) s = .next u ∧
        CoreOnly v u core { c with task := some { t with hold := none, yieldReported := false } }) ∧
      (c.yieldTile = none → t.hold = some 3 → ∃ u, exec (.yieldPoint core) s = .next u ∧
        CoreOnly v u core { c with task := some { t with yieldReported := true } })) ∧
    (pre = true → v.canSave core.c core.s t = false → exec (.yieldPoint core) s = .next v) ∧
    (pre = true → v.canSave core.c core.s t = true →
      let a := (v.ctx t.ctx).saveNext
      let bs := v.taskRecord core.c core.s t
      (∀ w, v.writeVa (v.accOf t.ctx) a bs = .ok w →
        ∃ u t', exec (.yieldPoint core) s = .next u ∧ u.mem = w.mem ∧ (after u core).task = some t' ∧ t'.hold = some 7 ∧
          t'.saveAddr = a ∧ (u.ctx t.ctx).saveNext = a + roundUp bs.length 4096) ∧
      (∀ e, v.writeVa (v.accOf t.ctx) a bs = .error e →
        ∃ u, exec (.yieldPoint core) s = .next u ∧ (u.ctx t.ctx).saveFailed = true ∧ u.mem = v.mem))) ∧
  (∀ s core t, s.liveTask core.c core.s = some t → t.hold = some 7 →
    ∃ u, exec (.taskSaveDone core) s = .next u ∧ BytesStay s u ∧ (after u core).task = none ∧ u.siteState core.c core.s = 1 ∧
      (s.holds core.c t = true →
        u.leases core.c = (s.leases core.c).map (fun l => if l.isOf t.q t.plan t.pos then { l with state := .saved } else l) ∧
        ∃ x, (u.ctx t.ctx).saveTasks = (s.ctx t.ctx).saveTasks ++ [x] ∧ x.addr = t.saveAddr ∧ x.ctx = t.ctx ∧ x.cl = core.c ∧
          x.qcl = t.qcl ∧ x.q = t.q ∧ x.pos = t.pos ∧ x.plan = t.plan ∧ x.ev = t.ev ∧ x.dups = t.dups ∧
          x.nans = (s.core core.c core.s).openNans) ∧
      (s.holds core.c t = false → u.leases core.c = s.leases core.c ∧ (u.ctx t.ctx).saveTasks = (s.ctx t.ctx).saveTasks))

/-- R145, R599, R600, R146: a core fault, a watchdog that has reached its limit and a FENCE write fence a core that is enabled
and not fenced already (a signature fault in containment mode alone): it reads FENCED with the cause, its sequencer and
everything in it is discarded, memory stays. A core that is disabled or fenced is left alone, and a watchdog below its limit
acts on nothing. -/
def Obligations.FaultsFenceTheCore : Prop :=
  (∀ s core cause, s.siteState core.c core.s ≠ 0 → s.siteState core.c core.s ≠ 3 → (cause = .signature → s.containment = true) →
    ∃ u, exec (.coreFault core cause) s = .next u ∧ (∀ a, u.byte a = s.byte a) ∧ u.siteState core.c core.s = 3 ∧
      u.obj (kCore core.c core.s 3 3) = causeNat cause ∧ (after u core).tiles = [] ∧ (after u core).sram = [] ∧
      (after u core).rings = [] ∧ (after u core).vregs = [] ∧ (after u core).resident = false ∧
      (after u core).task = fencedTask (s.core core.c core.s).task) ∧
  (∀ s core cause, s.siteState core.c core.s = 0 ∨ s.siteState core.c core.s = 3 ∨ (cause = .signature ∧ s.containment = false) →
    exec (.coreFault core cause) s = .next s) ∧
  (∀ s core t, s.liveTask core.c core.s = some t →
    (s.wdLimit core.c core.s ≤ (s.core core.c core.s).wdCount →
      exec (.watchdogFault core) s = .next (s.fenceCore core.c core.s 3) ∧ (s.fenceCore core.c core.s 3).siteState core.c core.s = 3) ∧
    ((s.core core.c core.s).wdCount < s.wdLimit core.c core.s → exec (.watchdogFault core) s = .next s)) ∧
  (∀ s core, s.siteState core.c core.s ≠ 0 → s.siteState core.c core.s ≠ 3 →
    exec (.fence core true) s = .next (s.fenceCore core.c core.s 6) ∧ (s.fenceCore core.c core.s 6).siteState core.c core.s = 3 ∧
    (s.fenceCore core.c core.s 6).obj (kCore core.c core.s 3 3) = 6)

/-- R13, R143, R368, R470, R616, R93, R94: a task commits once its commands have finished or a code has ended it. The current
holder publishes: its lease reads COMMITTED, its contributions leave for the adders of their blocks, its tag is written, and its
commit-time MOVEs and signals follow. A failed one publishes nothing: nothing of it is kept for the commit. A stale one is
counted and sends its contributions alone. That signals and glide state wait for the completion record, and that a failed stamp
test stops the commit here, is the model's choice (logs 66 and 67). -/
def Obligations.TaskCommitPublishesOnce : Prop :=
  ∀ s core t, s.siteState core.c core.s = 2 → s.moduleState = 3 → (s.core core.c core.s).task = some t → t.committed = false →
    let c := s.core core.c core.s
    let v := ((s.unrefMoves t.moves).modCore core.c core.s CoreSt.endWork).modTask core.c core.s
      (fun t => { t with moves := [], hold := none, ended := true })
    let l := v.modLease core.c t.q t.plan t.pos (fun l => { l with state := .committed })
    let committed := (s.leases core.c).map (fun l => if l.isOf t.q t.plan t.pos then { l with state := .committed } else l)
    let sent := t.staged.map (fun g => (⟨t.uid, homeAdder s t g,
      mkHeader (dTask t.desc) t.ctx g.kind g.gen g.redId g.block g.a g.b, c.stagedBytes g⟩ : InFlight))
    let alone := s.siteOfUid t.uid = some (core.c, core.s) ∧ t.dones = []
    let local_ := ∀ g ∈ t.staged, ∀ r, s.redOf t.ctx g.redId = some r → r.status ≠ .forwarding
    (t.codes = [] → c.finished t = false → exec (.taskCommit core) s = .next s) ∧
    (t.codes = [] → c.finished t = true → s.stampsBusy t = false →
      (s.holds core.c t = true → l.glideStop t = [] → ∃ u t', exec (.taskCommit core) s = .next u ∧
        (after u core).task = some t' ∧ t'.committed = true ∧ t'.current = true ∧ t'.commitTime = s.timeNs ∧
        t'.commitMoves = t.commitMoves ∧ t'.signals = t.signals ∧ t'.staged = [] ∧ t'.moves = [] ∧
        (after u core).tiles = [] ∧ u.leases core.c = committed ∧ t'.regions = l.looseRegions core.c core.s t true ∧
        (local_ → alone → u.disp.inflight = s.disp.inflight ++ sent) ∧
        (local_ → alone → dTag t.desc = 0 → t'.codes = [] ∧ BytesStay s u)) ∧
      (s.holds core.c t = true → ∀ e es, l.glideStop t = e :: es → ∃ u t', exec (.taskCommit core) s = .next u ∧
        BytesStay s u ∧ (after u core).task = some t' ∧ t'.committed = true ∧ t'.current = true ∧ t'.codes = e :: es ∧
        t'.signals = [] ∧ t'.commitMoves = [] ∧ t'.staged = [] ∧ t'.dones = [] ∧
        t'.regions = l.looseRegions core.c core.s t false ∧ u.leases core.c = committed) ∧
      (s.holds core.c t = false → ∃ u t', exec (.taskCommit core) s = .next u ∧
        (after u core).task = some t' ∧ t'.committed = true ∧ t'.current = t.current ∧ t'.signals = [] ∧ t'.staged = [] ∧
        t'.commitMoves = t.commitMoves.filter (fun m => mOp m.desc = opScatterAdd) ∧ u.leases core.c = s.leases core.c ∧
        u.obj (kCtx t.ctx 0xF) = satAdd16 (s.obj (kCtx t.ctx 0xF)) 1 ∧
        (local_ → alone → u.disp.inflight = s.disp.inflight ++ sent ∧ BytesStay s u))) ∧
    (t.codes ≠ [] → s.holds core.c t = true → ∃ u t', exec (.taskCommit core) s = .next u ∧
      (∀ a, u.byte a = s.byte a) ∧ (after u core).task = some t' ∧ t'.committed = true ∧ t'.current = true ∧
      t'.signals = [] ∧ t'.commitMoves = [] ∧ t'.staged = [] ∧ t'.dones = [] ∧ t'.regions = l.looseRegions core.c core.s t false)

/-- R143, R278, R470, R473, R13, R128, R610: once a committed task's commit-time MOVEs and contributions have finished, its core
is free and idle. For the current holder, its signals have been sent or its output regions left undefined, its lease is released
and its record is written and counted; a plan's core tile adds its codes to the plan. A stale holder writes none. A signal into
a cluster that serves nothing ends the task with FENCED, with none of them sent. The place of the signals, the free values of
the regions and the projection here are the model's choice (logs 66, 136 and 146). -/
def Obligations.CompletionRecordsFreeTheCore : Prop :=
  ∀ s core t, (s.core core.c core.s).task = some t → t.committed = true → s.commitOpen t = false →
    (t.current = false → ∃ u, exec (.completionRecord core) s = .next u ∧ (after u core).task = none ∧
      (s.siteState core.c core.s = 2 → u.siteState core.c core.s = 1) ∧ (dRole t.desc ≠ 1 → BytesStay s u)) ∧
    (t.current = true →
      let t' := { t with codes := t.codes ++ (if t.failing then [] else s.signalCodes t) }
      let v := if t'.failing then s.undefineAll t'.regions
        else match t'.glide with
          | some r => (s.glidePublish t' r).sendSignals t'
          | none => s.sendSignals t'
      let w := (v.leaveCore core.c core.s).dropLease core.c t'.q t'.plan t'.pos
      let bs := toLE 32 (CRec.word { task := dTask t'.desc, status := firstCode t'.codes, ctx := t'.ctx, cluster := core.c, site := core.s, seq := t'.leaseSeq, ev := t'.ev, dups := t'.dups, stale := 0, time := t'.commitTime })
      ∃ u, exec (.completionRecord core) s = .next u ∧ (after u core).task = none ∧
        (v.siteState core.c core.s = 2 → u.siteState core.c core.s = 1) ∧
        (t'.plan = none → ∀ x, w.writeVa (w.accOf t'.ctx) (w.qCompl t'.qcl t'.q + t'.pos % w.qSize t'.qcl t'.q * 32) bs = .ok x →
          u.obj (kCtx t'.ctx 0xD) = wrapAdd48 (x.obj (kCtx t'.ctx 0xD)) 1 ∧ u.leases core.c = w.leases core.c ∧
          t'.pos ∉ (u.queue t'.qcl t'.q).open_ ∧ (dRole t'.desc ≠ 1 → u.mem = x.mem)) ∧
        (∀ id, t'.plan = some id → u = ((w.modPlan id (fun p => { p with
          codes := p.codes ++ t'.codes, ev := p.ev.count t'.ev, dups := min 0xFFFF (p.dups + t'.dups) })).planCheck id).project t'))

/-- R467, R469, R472: a core in a WAIT renews the lease of its current holder; a scan expires every RUNNING lease whose time has
passed: its LEASE_SEQ advances, its position, or a plan's core tile, then waits for re-issue, and every other lease stays. No
scan runs in a hold. -/
def Obligations.LeasesAreRenewedAndExpire : Prop :=
  (∀ s core t, s.liveTask core.c core.s = some t →
    (t.hold = some 3 → s.holds core.c t = true → ∃ u, exec (.leaseRenewal core) s = .next u ∧ u = { s with disp := u.disp } ∧
      u.leases core.c = (s.leases core.c).map (fun l => if l.isOf t.q t.plan t.pos then { l with expires := s.expiry } else l) ∧
      (∀ cl, cl ≠ core.c → u.leases cl = s.leases cl)) ∧
    (t.hold ≠ some 3 ∨ s.holds core.c t = false → exec (.leaseRenewal core) s = .next s)) ∧
  (∀ s (cl : Fin 12), s.moduleState = 4 → exec (.leaseScan cl) s = .next s) ∧
  (∀ s (cl : Fin 12), s.moduleState ≠ 4 →
    let gone := (s.leases cl.val).filter (fun l => l.valid && l.state = .running && l.expires < s.timeNs)
    let times := fun (x : Lease) => (gone.filter (fun l => x.isOf l.queue l.plan l.pos)).length
    ∃ u, exec (.leaseScan cl) s = .next u ∧ u = { s with disp := u.disp } ∧
      u.leases cl.val = (s.leases cl.val).map (fun x =>
        if times x = 0 then x else { x with state := .expired, seq := (x.seq + times x) % 2 ^ 32 }) ∧
      (∀ c, c ≠ cl.val → u.leases c = s.leases c) ∧
      (∀ l ∈ gone, (l.plan = none → l.pos ∈ (u.queue cl.val l.queue).reissue) ∧
        (∀ id p, l.plan = some id → s.plan id = some p → ∃ p', u.plan id = some p' ∧ l.pos ∈ (p'.part cl.val).reissue)))

/-- R464 to R466, R460, R462, R469, R284, R286, R458: an idle core of a cluster that takes work gets what the cluster serves
next. The head of a queue that is admitted is taken and its task starts on the core, which reads RUNNING; one that completes
without a core gets its record. A position that waits for re-issue starts under its own lease, and a core tile of a plan with
the commands generated for the buffers that hold its blocks; commands that cannot be generated end the plan. A core that is not
free, or a full lease table, gets nothing. -/
def Obligations.WorkRequestStartsATask : Prop :=
  (∀ s core, s.coreFree core.c core.s = false ∨ leaseMax ≤ ((s.leases core.c).filter (·.valid)).length →
    exec (.workRequest core) s = .next s ∧ exec (.savedTaskResume core) s = .next s) ∧
  (∀ s core q d d', s.coreFree core.c core.s = true → ((s.leases core.c).filter (·.valid)).length < leaseMax →
    s.chooseWork core.c = some (q, .head) →
    let v := s.noteServed core.c q
    v.headDesc core.c q = .ok d → v.admission (v.qCtx core.c q) d (fun _ => []) = .go d' →
    let r := v.takeHead core.c q
    let w := (r.1.noteStep (v.qCtx core.c q) d').bindVersion (dBound d')
    exec (.workRequest core) s = .next (w.startTask core.c core.s core.c (w.newLease core.c q none r.2 (v.qCtx core.c q) d' [])) ∧
    ∃ u t, exec (.workRequest core) s = .next u ∧ u.siteState core.c core.s = 2 ∧ (after u core).task = some t ∧
      t.desc = d' ∧ t.pos = r.2 ∧ t.q = q ∧ t.cmdIndex = 0) ∧
  (∀ s core q d e, s.coreFree core.c core.s = true → ((s.leases core.c).filter (·.valid)).length < leaseMax →
    s.chooseWork core.c = some (q, .head) →
    let v := s.noteServed core.c q
    v.headDesc core.c q = .ok d → v.admission (v.qCtx core.c q) d (fun _ => []) = .fail e →
    exec (.workRequest core) s = .next ((v.takeHead core.c q).1.finishHead core.c q (v.takeHead core.c q).2 e d)) ∧
  (∀ s core q pos l, s.coreFree core.c core.s = true → ((s.leases core.c).filter (·.valid)).length < leaseMax →
    s.chooseWork core.c = some (q, .again none pos) → s.leaseOf core.c q none pos = some l →
    let v := ((s.noteServed core.c q).modQueue core.c q (fun x => { x with reissue := x.reissue.erase pos })).cnt16 (kCtx l.ctx 0xE) 1
    ∃ u t, exec (.workRequest core) s = .next u ∧ u = v.startTask core.c core.s core.c l ∧ u.siteState core.c core.s = 2 ∧
      (after u core).task = some t ∧ t.desc = l.desc ∧ t.pos = pos ∧ t.q = q ∧ t.leaseSeq = l.seq ∧ t.step = l.step ∧ t.key = l.key ∧
      (u.queue core.c q).reissue = (s.queue core.c q).reissue.erase pos) ∧
  (∀ s core q id pos p a b, s.coreFree core.c core.s = true → ((s.leases core.c).filter (·.valid)).length < leaseMax →
    s.plan id = some p → p.bufFor core.c 0 (pos / max 1 p.per) = some a → p.bufFor core.c 1 (pos / max 1 p.per) = some b →
    let z := s.noteServed core.c q
    (s.chooseWork core.c = some (q, .tile id pos) →
      (∀ e, z.tileCmds p core.c pos a.idx b.idx = .error e → exec (.workRequest core) s = .next (z.planFail id e)) ∧
      (∀ cs, z.tileCmds p core.c pos a.idx b.idx = .ok cs →
        let v := (z.modPlan id (fun p => p.modPart core.c (fun x => { x with next := pos + 1 }))).shown id
        ∃ u t, exec (.workRequest core) s = .next u ∧ u = v.startTask core.c core.s p.cl (v.tileLease p core.c pos cs) ∧
          u.siteState core.c core.s = 2 ∧ (after u core).task = some t ∧ t.plan = some id ∧ t.pos = pos ∧ t.cmds = cs ∧
          t.qcl = p.cl ∧ t.cmdIndex = 0)) ∧
    (s.chooseWork core.c = some (q, .again (some id) pos) →
      let v := z.modPlan id (fun p => p.modPart core.c (fun x => { x with reissue := x.reissue.erase pos }))
      (∀ e, v.tileCmds p core.c pos a.idx b.idx = .error e → exec (.workRequest core) s = .next (v.planFail id e)) ∧
      (∀ cs, v.tileCmds p core.c pos a.idx b.idx = .ok cs →
        ∃ u t, exec (.workRequest core) s = .next u ∧ u.siteState core.c core.s = 2 ∧ (after u core).task = some t ∧
          t.plan = some id ∧ t.pos = pos ∧ t.cmds = cs ∧ t.qcl = p.cl ∧
          (∀ l, v.leaseOf core.c q (some id) pos = some l → p.q = q → t.leaseSeq = l.seq ∧ t.step = l.step ∧ t.key = l.key)))) ∧
  (∀ s core q plan st rest head cmds lv, s.coreFree core.c core.s = true →
    ((s.leases core.c).filter (·.valid)).length < leaseMax → s.chooseWork core.c = some (q, .saved plan) →
    (match plan with
      | some id => ((s.plan id).map (fun p => (p.part core.c).saved)).getD []
      | none => (s.queue core.c q).saved) = st :: rest →
    let v := (s.noteServed core.c q).dropSaved core.c q st.plan
    v.readVa (v.accOf st.ctx) st.addr 512 = .ok head → v.savedCmds core.c st = .ok cmds →
    v.readLive (v.accOf st.ctx) st.addr (leNat ((head.drop 184).take 4)) = .ok lv →
    let l := v.resumeLease core.c q st head cmds
    let old := v.leaseOf core.c q st.plan st.pos
    (old = none → v.boundCodes l.desc ≠ [] → exec (.savedTaskResume core) s = .next (v.savedStale core.c q st l.desc)) ∧
    (old.isSome = true ∨ v.boundCodes l.desc = [] →
      let w := if old.isSome then v else v.bindVersion l.bound
      ∃ u t, exec (.savedTaskResume core) s = .next u ∧
        u = (w.startTask core.c core.s (leNat ((head.drop 133).take 1)) l).placeTask core.c core.s st head lv ∧
        u.siteState core.c core.s = 2 ∧ (after u core).task = some t ∧ t.desc = l.desc ∧ t.pos = st.pos ∧ t.leaseSeq = l.seq ∧
        t.step = leNat ((head.drop 144).take 8) ∧ t.ev = st.ev ∧ t.dups = st.dups ∧ t.committed = false))

/-- R444, R445, R446, R455, R610: an atomic on an aligned word of the mapped scratch of a cluster that serves requests returns
the prior value and writes the new one, whole; every other byte stays, and the cluster counts one atomic. A word of the lease
table keeps its fields, and one of a plan's counters sets the plan. One that may not run changes nothing and is answered, with
FENCED where the cluster serves nothing; what else it is answered with is the model's choice (log 64), as is what it may touch
of the control region (log 156). R462: TAKE on a pair of words of a control region returns NEXT; while it is below LIMIT, NEXT
advances by one and EXHAUSTED clears, else EXHAUSTED is set and NEXT stays. Every other byte stays. That a lease's word is read
alone is the model's choice (log 156). -/
def Obligations.AtomicsReturnThePriorValue : Prop :=
  (∀ p ∈ atomicOps, ∀ s pa wide v,
    (∀ cl off, s.atomicAt (BitVec.toNat pa) wide = .ok (cl, off) →
      let n := wordBytes wide
      let new := p.2 wide v.toNat (s.word pa.toNat n) % 2 ^ (8 * n)
      (inLeases off = false → noPlanWord s cl off →
        ∃ u, exec (p.1 pa wide v) s = .next u ∧ u.word pa.toNat n = new ∧
          BytesOutside s u pa.toNat n ∧ u.out = .value (s.word pa.toNat n) :: s.out ∧
          u.obj (kCl cl 0x90 4) = wrapAdd48 (s.obj (kCl cl 0x90 4)) 1 ∧
          (∀ k, k ≠ kCl cl 0x90 4 → u.obj k = s.obj k) ∧ u.cores = s.cores ∧ u.disp = s.disp) ∧
      (inLeases off = true → ∃ u, exec (p.1 pa wide v) s = .next u ∧ BytesStay s u ∧ u.disp = s.disp ∧ u.cores = s.cores ∧
        u.out = .value (leNat (s.view pa.toNat n)) :: s.out ∧ ObjsAre s u [(kCl cl 0x90 4, wrapAdd48 (s.obj (kCl cl 0x90 4)) 1)]) ∧
      (∀ q, s.disp.plans = [q] → inLeases off = false → 0x40080 ≤ off → off < 0x44000 → (off - 0x40000) / 8 = q.tileCtr →
        bitAt (plClusters q.record) cl = true →
        let w := (s.putWord pa.toNat n new).unland pa.toNat n
        exec (p.1 pa wide v) s = .next ((((w.modPlan q.id (fun y => y.modPart cl (fun x => { x with
          next := w.qNext cl q.tileCtr, limit := w.qLimit cl q.tileCtr }))).planCheck q.id).cnt48 (kCl cl 0x90 4) 1).emit
            (.value (s.word pa.toNat n))))) ∧
    (∀ o, s.atomicAt (BitVec.toNat pa) wide = .error o → exec (p.1 pa wide v) s = .next (s.emit o)) ∧
    (∀ cl off, s.scratchOf (BitVec.toNat pa) = some (cl, off) → pa.toNat % wordBytes wide = 0 → inHidden off = false →
      (s.clServes cl = true → s.atomicAt pa.toNat wide = .ok (cl, off)) ∧
      (s.clServes cl = false → s.atomicAt pa.toNat wide = .error .fenced))) ∧
  (∀ s pa wide expected new cl off, s.atomicAt (BitVec.toNat pa) wide = .ok (cl, off) → inLeases off = false → noPlanWord s cl off →
    let n := wordBytes wide
    ∃ u, exec (.cas pa wide expected new) s = .next u ∧
      u.word pa.toNat n = (if s.word pa.toNat n = opWord wide expected.toNat then opWord wide new.toNat
        else s.word pa.toNat n) % 2 ^ (8 * n) ∧
      BytesOutside s u pa.toNat n ∧ u.out = .value (s.word pa.toNat n) :: s.out) ∧
  (∀ s (pa : BitVec 52) cl off, s.atomicAt pa.toNat false = .ok (cl, off) → inControl off = true →
     (inLeases off = true → ∃ u, exec (.take pa false) s = .next u ∧ BytesStay s u ∧ u.disp = s.disp ∧
       u.out = .value (leNat (s.view pa.toNat 4)) :: s.out) ∧
     (inLeases off = false → noPlanWord s cl off →
     let next := s.word pa.toNat 4
     let limit := s.word (pa.toNat + 4) 4 % 2 ^ 31
     ∃ u, exec (.take pa false) s = .next u ∧ u.out.head? = some (.value next) ∧ BytesOutside s u pa.toNat 8 ∧
       (next < limit → u.word pa.toNat 4 = next + 1 ∧ u.word (pa.toNat + 4) 4 = limit) ∧
       (limit ≤ next → u.word pa.toNat 4 = next ∧ u.word (pa.toNat + 4) 4 = limit + 2 ^ 31)))

/-- R453, R454, R463, R697: a LIMIT doorbell that the endpoint serves, by the function that owns the queue's context, raises
LIMIT, keeps NEXT, and clears EXHAUSTED when it raises it; any other is dropped and counted in REFUSED. CONTEXT of a queue with
nothing open is rebound with its relay counter at zero; of any other, refused. -/
def Obligations.QueueObjectsAreWritten : Prop :=
  (∀ s (fn : HostFn) (cl : Fin 12) (q : Fin 16) (v : BitVec 32), s.gate fn.val false = .served →
    (v.toNat ≤ 0x7FFFFFFF → s.qLimit cl.val q.val ≤ v.toNat → s.ownsCtx fn.val (s.qCtx cl.val q.val) = true →
      ∃ u, exec (.limit fn cl q v) s = .next u ∧ u.qLimit cl.val q.val = v.toNat ∧
        u.qNext cl.val q.val = s.qNext cl.val q.val ∧
        u.qExhausted cl.val q.val = (s.qExhausted cl.val q.val && decide (v.toNat = s.qLimit cl.val q.val)) ∧
        BytesOutside s u (relayPa cl.val q.val) 8 ∧ u.objs = s.objs) ∧
    (0x7FFFFFFF < v.toNat ∨ v.toNat < s.qLimit cl.val q.val ∨ s.ownsCtx fn.val (s.qCtx cl.val q.val) = false →
      exec (.limit fn cl q v) s = .next (s.cnt16 (kDev 0x1050 6) 1))) ∧
  (∀ s (cl : Fin 12) (q : Fin 16) (v : BitVec 8),
    (v.toNat = 0xFF ∨ v.toNat ≤ 63 → s.queueIdle cl.val q.val = true → ∃ u, exec (.queueContext cl q v) s = .next u ∧
      u.qCtx cl.val q.val = v.toNat ∧ u.qNext cl.val q.val = 0 ∧ u.qLimit cl.val q.val = 0 ∧
      u.qExhausted cl.val q.val = false ∧ BytesOutside s u (relayPa cl.val q.val) 8) ∧
    (v.toNat = 0xFF ∨ v.toNat ≤ 63 → s.queueIdle cl.val q.val = false →
      exec (.queueContext cl q v) s = .next (s.emit (.refused stState))))

/-- R284, R286 to R288, R455, R460: PLAN_POSITION takes a PLAN position whose plan is not refused and walks it: the plan joins
those that are walked, its position open, at its first chunk. CHUNK_TAKE gives the next chunk to a cluster of the plan with no
core tile left. CLUSTER_FILL loads the next block that the cluster lacks into a free buffer and writes no byte outside it. A
plan that is refused, or whose block cannot be read, ends with its code. -/
def Obligations.PlansAreWalked : Prop :=
  (∀ s (cl : Fin 12) (q : Fin 16) d, HeadIs s cl.val q.val d → dKind d = 1 →
    s.disp.plans.any (fun p => p.cl = cl.val && p.q = q.val) = false →
    let adm := s.admission (s.qCtx cl.val q.val) d (s.planCodes cl.val q.val (s.qNext cl.val q.val))
    let r := s.takeHead cl.val q.val
    (adm = .wait → exec (.planPosition cl q) s = .next s) ∧
    (∀ e, adm = .fail e → exec (.planPosition cl q) s = .next (r.1.finishHead cl.val q.val r.2 e d)) ∧
    (∀ d' p, adm = .go d' → s.readPlan cl.val q.val (s.qNext cl.val q.val) d' = .ok p → 0 < p.chunks →
      s.plan s.disp.nextPlan = none →
      ∃ u, exec (.planPosition cl q) s = .next u ∧ u.disp.plans = s.disp.plans ++ [p] ∧
        u.disp.nextPlan = s.disp.nextPlan + 1 ∧ u.qNext cl.val q.val = s.qNext cl.val q.val + 1 ∧
        s.qNext cl.val q.val ∈ (u.queue cl.val q.val).open_ ∧ u.cores = s.cores ∧
        u.qNext cl.val p.chunkCtr = 0 ∧ p.nextChunk = 0 ∧ p.id = s.disp.nextPlan ∧ p.ctx = s.qCtx cl.val q.val ∧ p.desc = d')) ∧
  (∀ s (cl : Fin 12) p,
    s.disp.plans.find? (fun p => s.planServed p cl.val && p.nextChunk < p.chunks && !p.hasNext cl.val) = some p →
    s.plan p.id = some p →
    let lo := p.nextChunk * plChunk p.record * p.per
    let hi := min ((p.nextChunk + 1) * plChunk p.record) p.tiles * p.per
    let f := fun (y : Plan) => { (y.modPart cl.val (fun x => { x with chunk := some y.nextChunk, next := lo, limit := hi })) with
      nextChunk := y.nextChunk + 1 }
    exec (.chunkTake cl) s = .next (((s.modPlan p.id f).shown p.id).planCheck p.id) ∧
    ((p.firstIn lo hi).isSome = true → ∃ u, exec (.chunkTake cl) s = .next u ∧
      u.disp.plans = s.disp.plans.map (fun y => if y.id = p.id then f y else y) ∧ u.cores = s.cores ∧ u.objs = s.objs)) ∧
  (∀ s (cl : Fin 12), s.disp.plans.find? (fun p => s.planServed p cl.val && p.nextChunk < p.chunks && !p.hasNext cl.val) = none →
    exec (.chunkTake cl) s = .next s) ∧
  (∀ s (cl : Fin 12), s.nextFillOf cl.val = none → exec (.clusterFill cl) s = .next s) ∧
  (∀ s (cl : Fin 12) p kind ct i, s.nextFillOf cl.val = some (p, kind, ct, i) →
    (∀ e, s.fillBlock p cl.val kind ct i = .error e → exec (.clusterFill cl) s = .next (e.2.planFail p.id e.1)) ∧
    (∀ v, s.fillBlock p cl.val kind ct i = .ok v → ∃ u, exec (.clusterFill cl) s = .next u ∧ u.mem = v.mem ∧ u.objs = v.objs ∧
      BytesOutside s u (scratchPa cl.val (p.bufOff kind i)) (if kind = 0 then p.aBytes else p.wBytes) ∧
      u.disp.plans = s.disp.plans.map (fun y => if y.id = p.id then y.modPart cl.val (fun x => { x with
        bufs := x.bufs.filter (fun b => !(b.kind = kind && b.idx = i)) ++ [⟨kind, i, y.blkOf kind ct⟩] }) else y)))

/-- R91, R92, R448, R458, R460, R488, R499: REDUCE_POSITION registers the reduction of its position, here while fewer than 1,024
are open or as a forwarding registration at any time, and GROUP_POSITION opens its group; each position is taken and completes
at once with its code. Either waits for what holds it back, and a position that is refused registers and opens nothing. -/
def Obligations.ReduceAndGroupPositions : Prop :=
  (∀ s (cl : Fin 12) (q : Fin 16) d, HeadIs s cl.val q.val d → dKind d = 2 →
    let c := s.qCtx cl.val q.val
    let adm := s.admission c d (fun d => s.registerCodes c (d % 2 ^ 320))
    let r := s.takeHead cl.val q.val
    (s.headBad c d = false → s.homeOf (rdDest (d % 2 ^ 320)) = none → 1024 ≤ s.openReds → exec (.reducePosition cl q) s = .next s) ∧
    (s.headBad c d = true ∨ s.openReds < 1024 ∨ s.homeOf (rdDest (d % 2 ^ 320)) ≠ none →
      (∀ e, adm = .fail e → exec (.reducePosition cl q) s = .next (r.1.finishHead cl.val q.val r.2 e d)) ∧
      (∀ d', adm = .go d' →
        let g := d' % 2 ^ 320
        let z := r.1.register c g
        ∃ u, exec (.reducePosition cl q) s = .next u ∧ u = z.1.finishHead cl.val q.val r.2 z.2 d' ∧
          s.qNext cl.val q.val ∉ (u.queue cl.val q.val).open_ ∧
          (r.1.registerCodes c g = [] → ∃ x, u.redOf c (rdId g) = some x ∧ x.desc = g ∧ x.gen = rdGen g ∧
            x.step = s.stepNow c ∧ x.key = s.seedKey c (rdSeed g) ∧
            (s.homeOf (rdDest g) = none → rdLeaves g ≠ 0 → x.status = .open_ ∧ x.blocks.length = rdBlocks g ∧
              u.openReds = s.openReds + 1) ∧
            (∀ m, s.homeOf (rdDest g) = some m → x.status = .forwarding ∧ x.home = m ∧ u.openReds = s.openReds))))) ∧
  (∀ s (cl : Fin 12) (q : Fin 16) d, HeadIs s cl.val q.val d → dKind d = 3 →
    let c := s.qCtx cl.val q.val
    let g := d % 2 ^ 512
    let adm := s.admission c d (fun _ => if groupBad g then [cDescriptor] else [])
    let r := s.takeHead cl.val q.val
    let live := s.disp.groups.any (fun x => x.id = gId g && x.live)
    (s.headBad c d = false → groupBad g = false → live = true → exec (.groupPosition cl q) s = .next s) ∧
    (s.headBad c d = true ∨ groupBad g = true ∨ live = false →
      (∀ e, adm = .fail e → exec (.groupPosition cl q) s = .next (r.1.finishHead cl.val q.val r.2 e d)) ∧
      (∀ d', adm = .go d' → ∃ u x, exec (.groupPosition cl q) s = .next u ∧
        u = (r.1.openGroup c g).finishHead cl.val q.val r.2 cOk d' ∧
        s.qNext cl.val q.val ∉ (u.queue cl.val q.val).open_ ∧ u.group c (gId g) = some x ∧ x.record = g ∧
        x.remaining = gRemaining g ∧ x.maxStep = none ∧
        (s.obj (kCtx c 6) ≠ 1 → x.state = .open_ ∧ x.switched = false))))

/-- R95 to R97, R106: a contribution that an open reduction accepts pairs in its block and settles; one that is there already is
a duplicate, and one whose reduction is unknown, of another GEN or not open is stale: both change no byte of memory and are
counted. One of a reduction that has closed is a late duplicate; a malformed one, and one whose descendant is there, gives its
task DESCRIPTOR and changes nothing else. A marker marks its range in every block its adder holds, and a cancelled reduction is
open no more. -/
def Obligations.AddersPairContributions : Prop :=
  (∀ s (ma : Fin 16) (hdr : BitVec 128) recs r k, ReachesOpen s hdr r → r.blocks[hBlock hdr.toNat]? = some k →
    hKind hdr.toNat = rdKind r.desc → isCanonical (rdLeaves r.desc) (hA hdr.toNat) (hB hdr.toNat) = true →
    (recsOf r.desc recs).length = rdElems r.desc →
    let h := hdr.toNat
    let q := s.takeInFlight (fun u => ⟨u, ma.val, h, recs⟩)
    let give := fun (v : State) (o : Sys2Proof.Machine.Outcome) => match q.2 with
      | some n => (v.noteOutcome n o).sendDones n
      | none => v
    ((k.handled || k.resolved (hA h) (hB h) || k.occ.any (fun o => o.1 ≤ hA h && hB h ≤ o.2)) = true →
      exec (.adderContribution ma hdr recs) s = .next (give ((q.1.cnt16 (kDev (0x7400 + ma.val) 3) 1).modRed r.ctx r.id
        (fun r => { r with dups := satAdd16 r.dups 1 })) .duplicate) ∧
      (s.disp.inflight = [] → ∃ u, exec (.adderContribution ma hdr recs) s = .next u ∧ BytesStay s u ∧ u.cores = s.cores)) ∧
    ((k.handled || k.resolved (hA h) (hB h) || k.occ.any (fun o => o.1 ≤ hA h && hB h ≤ o.2)) = false →
      k.occ.any (fun o => hA h ≤ o.1 && o.2 ≤ hB h) = false →
      let e := q.1.pairEnv r (hBlock h) ma.val
      exec (.adderContribution ma hdr recs) s = .next (give (q.1.settle r (hBlock h) ma.val
        (arrive e (k.granules e.need) 64 ⟨k, .none, 0, 0, [], none, false⟩ (hA h) (hB h) (recsOf r.desc recs))) .accepted) ∧
      (∃ u r' k', exec (.adderContribution ma hdr recs) s = .next u ∧ u.redOf (hCtx h) (hRed h) = some r' ∧
        r'.gen = r.gen ∧ r'.desc = r.desc ∧ r'.blocks[hBlock h]? = some k' ∧ (hA h, hB h) ∈ k'.occ))) ∧
  (∀ s (ma : Fin 16) (hdr : BitVec 128) recs, s.redOf (hCtx hdr.toNat) (hRed hdr.toNat) = none →
    ∃ u, exec (.adderContribution ma hdr recs) s = .next u ∧ (∀ a, u.byte a = s.byte a) ∧ u.reds = s.reds ∧
      u.obj (kDev (0x7400 + ma.val) 4) = satAdd16 (s.obj (kDev (0x7400 + ma.val) 4)) 1) ∧
  (∀ s (ma : Fin 16) (hdr : BitVec 128) recs r, s.redOf (hCtx hdr.toNat) (hRed hdr.toNat) = some r →
    let h := hdr.toNat
    let q := s.takeInFlight (fun u => ⟨u, ma.val, h, recs⟩)
    let give := fun (v : State) (o : Sys2Proof.Machine.Outcome) => match q.2 with
      | some n => (v.noteOutcome n o).sendDones n
      | none => v
    (r.gen = hGen h → r.status = .closed →
      exec (.adderContribution ma hdr recs) s = .next (give (q.1.cnt16 (kDev (0x7400 + ma.val) 3) 1) .late) ∧
      (s.disp.inflight = [] → exec (.leafDoneMarker ma hdr) s = .next s)) ∧
    (r.gen ≠ hGen h ∨ (r.status ≠ .open_ ∧ r.status ≠ .closed) →
      exec (.adderContribution ma hdr recs) s = .next (give (q.1.countStale ma.val h) .stale) ∧
      (s.disp.inflight = [] → exec (.leafDoneMarker ma hdr) s = .next (s.countStale ma.val h)) ∧
      (s.countStale ma.val h).obj (kDev (0x7400 + ma.val) 4) = satAdd16 (s.obj (kDev (0x7400 + ma.val) 4)) 1 ∧
      BytesStay s (s.countStale ma.val h) ∧
      (∃ r', (s.countStale ma.val h).redOf (hCtx h) (hRed h) = some r' ∧ r'.blocks = r.blocks ∧
        r'.stale = if r.status = .open_ ∧ r.blocks.any (fun b => b.adder = ma.val) then satAdd16 r.stale 1 else r.stale)) ∧
    (r.gen = hGen h → r.status = .open_ →
      (r.blocks[hBlock h]? = none ∨ (∃ k, r.blocks[hBlock h]? = some k ∧ (hKind h ≠ rdKind r.desc ∨
        isCanonical (rdLeaves r.desc) (hA h) (hB h) = false ∨ (recsOf r.desc recs).length ≠ rdElems r.desc ∨
        ((k.handled || k.resolved (hA h) (hB h) || k.occ.any (fun o => o.1 ≤ hA h && hB h ≤ o.2)) = false ∧
          k.occ.any (fun o => hA h ≤ o.1 && o.2 ≤ hB h) = true))) →
        exec (.adderContribution ma hdr recs) s = .next (give q.1 .descriptor)) ∧
      (isCanonical (rdLeaves r.desc) (hA h) (hB h) = false → s.disp.inflight = [] →
        exec (.leafDoneMarker ma hdr) s = .next s))) ∧
  (∀ s (ma : Fin 16) (hdr : BitVec 128) r, ReachesOpen s hdr r →
    isCanonical (rdLeaves r.desc) (hA hdr.toNat) (hB hdr.toNat) = true → s.disp.inflight = [] →
    ((∀ k ∈ r.blocks, k.adder ≠ ma.val ∨ k.handled = true) → exec (.leafDoneMarker ma hdr) s = .next s) ∧
    (∃ (u : State) (r' : Reduction), exec (.leafDoneMarker ma hdr) s = .next u ∧
      u.redOf (hCtx hdr.toNat) (hRed hdr.toNat) = some r' ∧
      (∀ (i : Nat) (k : OutBlock), r.blocks[i]? = some k → k.adder ≠ ma.val → r'.blocks[i]? = some k) ∧
      (∀ (i : Nat) (k : OutBlock), r.blocks[i]? = some k → k.adder = ma.val → k.handled = false →
        ∃ k' : OutBlock, r'.blocks[i]? = some k' ∧ (hA hdr.toNat, hB hdr.toNat) ∈ k'.doneRanges)) ∧
    (∀ k, r.blocks = [k] → k.adder = ma.val → k.handled = false →
      let h := hdr.toNat
      let b := if k.doneRanges.contains (hA h, hB h) then k else { k with doneRanges := (hA h, hB h) :: k.doneRanges }
      let e := s.pairEnv r 0 ma.val
      exec (.leafDoneMarker ma hdr) s = .next (s.settle r 0 ma.val
        (promote e (b.granules e.need) (b.slots.length + 1) ⟨b, .none, 0, 0, [], none, false⟩)))) ∧
  (∀ s (ctx : Fin 64) (redId : BitVec 16) r, s.redOf ctx.val redId.toNat = some r → r.status = .open_ →
    ∃ u r', exec (.reductionCancel ctx redId) s = .next u ∧ u.redOf ctx.val redId.toNat = some r' ∧
      r'.status = .cancelled ∧ r'.gen = r.gen ∧ (∀ b ∈ r'.blocks, b.occ = [] ∧ b.slots = [] ∧ b.doneRanges = []))

/-! ### Contexts -/

/-- R401, R403 to R406: a key is written to a slot that no task in flight uses, its check value and its bit of KEY_VALID follow,
and the other slots stay; STEP_ADVANCE adds one to the step counter, which stays at its limit, sets STEP_SATURATED and logs the
event; STEP_COUNTER replaces it. -/
def Obligations.SeedKeysAndStepCounters : Prop :=
  (∀ s (ctx : Fin 64) (slot : Fin 8) key, s.slotInUse ctx.val slot.val = false →
    ∃ u, exec (.seedKey ctx slot key) s = .next u ∧ u = { s with objs := u.objs, disp := u.disp } ∧
      u.ctx ctx.val = { s.ctx ctx.val with keys := (s.ctx ctx.val).keys.set slot.val (some key) } ∧
      (∀ c, c ≠ ctx.val → u.ctx c = s.ctx c) ∧
      ObjsAre s u [(kSeed ctx.val 8, keyValid (u.ctx ctx.val).keys), (kSeed ctx.val (0x18 + slot.val), (keyCheck key).toNat)]) ∧
  (∀ s (ctx : Fin 64) (slot : Fin 8) key, s.slotInUse ctx.val slot.val = true →
    TurnedAway s (.seedKey ctx slot key) stState) ∧
  (∀ s (ctx : Fin 64), exec (.stepAdvance ctx false) s = .next s) ∧
  (∀ s (ctx : Fin 64), s.stepNow ctx.val ≠ 2 ^ 64 - 1 → ∃ u, exec (.stepAdvance ctx true) s = .next u ∧
    ObjWrite s u [(kSeed ctx.val 4, s.stepNow ctx.val + 1)]) ∧
  (∀ s (ctx : Fin 64), s.stepNow ctx.val = 2 ^ 64 - 1 →
    exec (.stepAdvance ctx true) s = .next ((s.setObj (kSeed ctx.val 6) 1).event 0x30 2 ctx.val 0 0)) ∧
  (∀ s (ctx : Fin 64) (v : BitVec 64), ∃ u, exec (.stepCounter ctx v) s = .next u ∧
    ObjWrite s u [(kSeed ctx.val 4, v.toNat),
      (kSeed ctx.val 6, if v.toNat < 2 ^ 64 - 1 then 0 else s.obj (kSeed ctx.val 6))])

/-- R478, R629: an IDLE context takes a program that was compiled for the module's modes and reads RUNNING, with its hash, its
tags at 0 and nothing on a core; a SAVED one, or one whose save failed, is unloaded: it reads IDLE, none of its tasks stands on
a core and none of its leases is valid. In any other state, and for a program that does not fit, nothing changes. R478, R479,
R482, R484, R485, R498, R617, R647: PREEMPT takes a RUNNING context to PREEMPTING and ends a commit of it FAILED; once none of
its tasks stands on a core the area is written and it reads SAVED with the area's size; RESTORE reads an area back and SAVED
becomes RESTORING, which RESTORE_COMPLETE ends in RUNNING; FORCE_SWITCH switches an open group, whose record is written. Each is
refused, or waits, in any other state, and in a hold. FROM_STEP 0 where no primary was taken is the model's choice (log 55), as
is that a decision that cannot be recorded is not taken (log 129). -/
def Obligations.ContextsChangeState : Prop :=
  (∀ s (ctx : Fin 64) p, s.ctxState ctx.val = 0 → s.programBad p = false →
    ∃ u, exec (.programLoad ctx p) s = .next u ∧ u.ctxState ctx.val = 1 ∧ u.obj (kSeed ctx.val 7) = p.hash.toNat ∧
      (u.ctx ctx.val).prog = some p ∧ (∀ i, i < 12288 → u.tag ctx.val i = 0) ∧ u.cores = s.cores ∧
      (∀ c, c ≠ ctx.val → u.ctxState c = s.ctxState c ∧ u.ctx c = s.ctx c)) ∧
  (∀ s (ctx : Fin 64) p, s.ctxState ctx.val ≠ 0 ∨ s.programBad p = true → TurnedAway s (.programLoad ctx p) stState) ∧
  (∀ s (ctx : Fin 64), s.ctxState ctx.val = 3 ∨ s.ctxState ctx.val = 2 ∧ (s.ctx ctx.val).saveFailed = true →
    ∃ u, exec (.programUnload ctx) s = .next u ∧ u.ctxState ctx.val = 0 ∧ (u.ctx ctx.val).prog = none ∧
      (∀ cl < 12, ∀ site < 8, ∀ t, (u.core cl site).task = some t → t.ctx ≠ ctx.val) ∧
      (∀ cl < 12, ∀ l ∈ u.leases cl, l.ctx = ctx.val → l.valid = false)) ∧
  (∀ s (ctx : Fin 64), s.ctxState ctx.val ≠ 3 → ¬(s.ctxState ctx.val = 2 ∧ (s.ctx ctx.val).saveFailed = true) →
    TurnedAway s (.programUnload ctx) stState) ∧
  (∀ s (ctx : Fin 64), exec (.preempt ctx false) s = .next s ∧ exec (.restore ctx false) s = .next s) ∧
  (∀ s (ctx : Fin 64), s.ctxState ctx.val = 1 → s.moduleState ≠ 4 →
    ∃ u, exec (.preempt ctx true) s = .next u ∧ u.ctxState ctx.val = 2 ∧ BytesStay s u ∧ u.cores = s.cores ∧
      (u.ctx ctx.val).saveFailed = false ∧ (u.ctx ctx.val).saveTasks = [] ∧
      u.commitState ctx.val = (if s.commitState ctx.val = 1 then 3 else s.commitState ctx.val)) ∧
  (∀ s (ctx : Fin 64), s.ctxState ctx.val ≠ 1 ∨ s.moduleState = 4 → TurnedAway s (.preempt ctx true) stState) ∧
  (∀ s (ctx : Fin 64) v w, s.ctxState ctx.val = 2 → (s.ctx ctx.val).saveFailed = false → s.ctxOnCores ctx.val = false →
    let area := s.areaBytes ctx.val
    let base := s.obj (kCtx ctx.val 4)
    s.writeVa (s.accOf ctx.val) base area.hdr = .ok v →
    v.writeVa (v.accOf ctx.val) (base + area.off) area.body = .ok w →
    ∃ u, exec (.saveAreaComplete ctx) s = .next u ∧ u.ctxState ctx.val = 3 ∧
      u.obj (kCtx ctx.val 5) = area.total ∧ u.mem = w.mem ∧ u.cores = s.cores ∧ u.disp.leases = s.disp.leases) ∧
  (∀ s (ctx : Fin 64), s.ctxState ctx.val ≠ 2 ∨ (s.ctx ctx.val).saveFailed = true ∨ s.ctxOnCores ctx.val = true →
    exec (.saveAreaComplete ctx) s = .next s) ∧
  (∀ s (ctx : Fin 64), s.ctxState ctx.val = 3 → s.moduleState ≠ 4 →
    (∀ w, s.restoreArea ctx.val = some w → exec (.restore ctx true) s = .next (w.setObj (kCtx ctx.val 1) 4)) ∧
    (∀ h, (s.restoreArea ctx.val).isSome = true → s.readVa (s.accOf ctx.val) (s.obj (kCtx ctx.val 4)) 256 = .ok h →
      ∃ u, exec (.restore ctx true) s = .next u ∧ u.ctxState ctx.val = 4 ∧ u.cores = s.cores ∧
        u.stepNow ctx.val = leNat ((h.drop 16).take 8) ∧ u.logSeq ctx.val = leNat ((h.drop 36).take 4)) ∧
    (s.restoreArea ctx.val = none → TurnedAway s (.restore ctx true) stState)) ∧
  (∀ s (ctx : Fin 64), s.ctxState ctx.val ≠ 3 ∨ s.moduleState = 4 → TurnedAway s (.restore ctx true) stState) ∧
  (∀ s (ctx : Fin 64), s.ctxState ctx.val = 4 → ∃ u, exec (.restoreComplete ctx) s = .next u ∧
    u = { s with objs := u.objs, disp := u.disp } ∧ ObjsAre s u [(kCtx ctx.val 1, 1)] ∧
    u.ctx ctx.val = { s.ctx ctx.val with loadedAt := s.timeNs }) ∧
  (∀ s (ctx : Fin 64), s.ctxState ctx.val ≠ 4 → exec (.restoreComplete ctx) s = .next s) ∧
  (∀ s (ctx : Fin 64) (g : BitVec 16) x, s.group ctx.val g.toNat = some x →
    (s.obj (kCtx ctx.val 6) = 0 → x.state = .open_ → exec (.forceSwitch ctx g) s = .next (s.switchGroup x 2 0)) ∧
    let from_ := match x.maxStep with
      | some m => m + 1
      | none => 0
    let write := s.writeVa (s.accOf ctx.val) (s.logAddr ctx.val (s.logSeq ctx.val))
      (toLE 64 (decisionRec (s.logSeq ctx.val) ctx.val 2 from_ (s.stepNow ctx.val) s.timeNs 0 x.record))
    (s.obj (kCtx ctx.val 6) = 0 → x.state = .open_ → s.logHeld ctx.val < s.obj (kCtx ctx.val 8) → write.isOk = false →
      exec (.forceSwitch ctx g) s = .next s) ∧
    (s.obj (kCtx ctx.val 6) = 0 → x.state = .open_ → s.logHeld ctx.val < s.obj (kCtx ctx.val 8) → write.isOk = true →
      ∃ u y, exec (.forceSwitch ctx g) s = .next u ∧ u.group ctx.val g.toNat = some y ∧ y.state = .switched ∧
        y.switched = true ∧ y.seq = s.logSeq ctx.val ∧ y.record = x.record ∧ y.remaining = x.remaining ∧
        y.fromStep = from_ ∧
        u.logSeq ctx.val = (s.logSeq ctx.val + 1) % 2 ^ 32 ∧
        u.obj (kCtx ctx.val 0x10) = satAdd16 (s.obj (kCtx ctx.val 0x10)) 1 ∧ u.cores = s.cores) ∧
    (s.obj (kCtx ctx.val 6) = 0 → x.state = .open_ → s.obj (kCtx ctx.val 8) ≤ s.logHeld ctx.val →
      ∃ u, exec (.forceSwitch ctx g) s = .next u ∧ BytesStay s u ∧ u.disp.groups = s.disp.groups ∧
        u.obj (kCtx ctx.val 0x11) = satAdd16 (s.obj (kCtx ctx.val 0x11)) 1 ∧ u.cores = s.cores) ∧
    (s.obj (kCtx ctx.val 6) ≠ 0 ∨ x.state ≠ .open_ → TurnedAway s (.forceSwitch ctx g) stState)) ∧
  (∀ s (ctx : Fin 64) (g : BitVec 16), s.group ctx.val g.toNat = none → TurnedAway s (.forceSwitch ctx g) stState)

/-- R617 to R620, R623: COMMIT begins the commit of a RUNNING context outside a hold; once the context is quiet its record is
written here, its header after its body; the commit completes when its three headers are written, with its number in COMMIT_SEQ,
and fails when a copy fails; RESTORE_COMMIT applies a record that can be read to a RUNNING context that is idle. What a commit
does beyond those rules is the model's choice (log 82). -/
def Obligations.CommitsAreMadeAndRestored : Prop :=
  (∀ s (ctx : Fin 64), exec (.commit ctx false) s = .next s) ∧
  (∀ s (ctx : Fin 64), s.ctxState ctx.val = 1 → s.commitState ctx.val ≠ 1 → s.moduleState ≠ 4 →
    ∃ u, exec (.commit ctx true) s = .next u ∧ u = { s with objs := u.objs, disp := u.disp } ∧
      ObjsAre s u [(kCommit ctx.val 5, 1)] ∧ (u.ctx ctx.val).commitStage = 0 ∧ (u.ctx ctx.val).commitFailed = false) ∧
  (∀ s (ctx : Fin 64), s.ctxState ctx.val ≠ 1 ∨ s.commitState ctx.val = 1 ∨ s.moduleState = 4 →
    TurnedAway s (.commit ctx true) stState) ∧
  (∀ s (ctx : Fin 64), s.commitState ctx.val ≠ 1 ∨ s.ctxState ctx.val ≠ 1 → exec (.commitRecord ctx) s = .next s) ∧
  (∀ s (ctx : Fin 64) body v w, s.commitState ctx.val = 1 → s.ctxState ctx.val = 1 → (s.ctx ctx.val).commitStage = 0 →
    s.ctxQuiet ctx.val = true → s.commitBody ctx.val = .ok body → afterHeader body.length ≤ commitMax →
    let a := s.obj (kCommit ctx.val 2) + (s.ctx ctx.val).slotOff
    let h := s.commitHeader ctx.val (afterHeader body.length) (s.ctx ctx.val).commitNext (s.extras ctx.val).length
    s.writeBlocks ctx.val (afterHeader a) body = .ok v → v.writeBlocks ctx.val a h = .ok w →
    ∃ u, exec (.commitRecord ctx) s = .next u ∧ u.mem = w.mem ∧ u.side = w.side ∧ (u.ctx ctx.val).commitStage = 1 ∧
      (u.ctx ctx.val).commitHdr = h ∧ u.commitState ctx.val = 1) ∧
  (∀ s (ctx : Fin 64), (s.ctx ctx.val).commitStage = 0 → s.ctxQuiet ctx.val = false →
    exec (.commitRecord ctx) s = .next s) ∧
  (∀ s (ctx : Fin 64), s.commitState ctx.val = 1 → s.copyOut ctx.val = false → (s.ctx ctx.val).commitStage = 2 →
    (s.ctx ctx.val).commitFailed = false →
    s.fab.remote.all (fun r => r.commit.all (fun x => x.1 ≠ ctx.val || r.status = some cOk)) = true →
    ∃ u, exec (.commitDone ctx) s = .next u ∧ BytesStay s u ∧
      ObjsAre s u [(kCommit ctx.val 5, 2), (kCommit ctx.val 6, (s.ctx ctx.val).commitNext)] ∧
      (u.ctx ctx.val).commitNext = ((s.ctx ctx.val).commitNext + 1) % 2 ^ 32 ∧
      u.fab.remote.all (fun r => r.commit.all (fun x => x.1 ≠ ctx.val)) = true) ∧
  (∀ s (ctx : Fin 64), s.commitState ctx.val = 1 → (s.ctx ctx.val).commitStage ≠ 0 → s.copyOut ctx.val = false →
    (s.ctx ctx.val).commitFailed = true → exec (.commitDone ctx) s = .next (s.commitFail ctx.val) ∧
    (s.commitFail ctx.val).commitState ctx.val = 3) ∧
  (∀ s (ctx : Fin 64), s.commitState ctx.val ≠ 1 ∨ (s.ctx ctx.val).commitStage = 0 ∨ s.copyOut ctx.val = true →
    exec (.commitDone ctx) s = .next s) ∧
  (∀ s (ctx : Fin 64) (addr : BitVec 64) h b, s.ctxState ctx.val = 1 → s.commitState ctx.val ≠ 1 →
    s.ctxOnCores ctx.val = false → (s.boundQueues ctx.val).all (fun p => s.queueIdle p.1 p.2) = true →
    s.readRecord ctx.val addr.toNat = some (h, b) →
    let base := s.obj (kCommit ctx.val 8)
    let clash := b.queues.any (fun r => s.qCtx r.cl ((r.q + base) % 16) ≠ ctx.val && s.qCtx r.cl ((r.q + base) % 16) ≠ 0xFF) ||
      b.extras.any (fun e => !(s.trans (s.accOf ctx.val) e.1 e.2.length true).isOk)
    (clash = false → ∃ u, exec (.restoreCommit ctx addr) s = .next u ∧ u = s.applyRecord ctx.val h b ∧ u.cores = s.cores ∧
      u.stepNow ctx.val = leNat ((h.drop 16).take 8) ∧ u.logSeq ctx.val = leNat ((h.drop 36).take 4) ∧
      u.obj (kCommit ctx.val 6) = leNat ((h.drop 4).take 4) ∧
      (u.ctx ctx.val).commitNext = (leNat ((h.drop 4).take 4) + 1) % 2 ^ 32) ∧
    (clash = true → TurnedAway s (.restoreCommit ctx addr) stState)) ∧
  (∀ s (ctx : Fin 64) (addr : BitVec 64), s.ctxState ctx.val ≠ 1 ∨ s.ctxOnCores ctx.val = true ∨
    s.commitState ctx.val = 1 ∨ (s.boundQueues ctx.val).any (fun p => !s.queueIdle p.1 p.2) = true ∨
    s.readRecord ctx.val addr.toNat = none → TurnedAway s (.restoreCommit ctx addr) stState)

/-! ### The tensor mover, modes and Glide -/

/-- R246, R262, R274: a command of the mover runs the descriptor at the head of its task's list when it is of its operation. The
descriptor waits, ends its task with a code, or finishes: it then leaves the list and releases its table references. With
nothing of its operation at the head, nothing changes. That descriptors run on in a hold is the model's choice (log 158). R84,
R257, R271, R278, R279: at the commit the descriptor at the head of the task's commit-time list runs: where it finishes it
leaves the list and the task's markers may follow; where it fails, its code stands in the record and those after it do not
start. A broadcast that has started waits until its packets have left the module. What a failed one's task has written is the
model's choice (log 66). SCATTER_ADD sends its contributions to their adders, and its LEAF_DONE waits for them. -/
def Obligations.MoverRunsDescriptorsInOrder : Prop :=
  (∀ p ∈ moverOps, ∀ s core t m rest, HeadIssued s core t m rest p.2 →
    (∀ w, s.runMove core.c core.s t m = .done w →
      exec (p.1 core) s = .next ((w.modTask core.c core.s (fun t => { t with moves := rest })).unrefMoves [m])) ∧
    (∀ e w, s.runMove core.c core.s t m = .fail e w → exec (p.1 core) s = .next (w.taskFail core.c core.s e)) ∧
    (∀ k w, s.runMove core.c core.s t m = .part k w →
      exec (p.1 core) s = .next (w.modTask core.c core.s (fun t => { t with moves := { m with sent := k } :: rest }))) ∧
    (s.runMove core.c core.s t m = .wait → exec (p.1 core) s = .next s)) ∧
  (∀ p ∈ moverOps ++ [(Instr.scatterAdd, opScatterAdd)], ∀ s core,
    (s.moduleState ≠ 3 ∧ s.moduleState ≠ 4) ∨ s.clServes core.c = false ∨ (s.core core.c core.s).task = none → exec (p.1 core) s = .next s) ∧
  (∀ p ∈ moverOps, ∀ s core t m rest op, HeadIssued s core t m rest op → op ≠ p.2 → exec (p.1 core) s = .next s) ∧
  (∀ p ∈ moverOps ++ [(Instr.scatterAdd, opScatterAdd)], ∀ s core t m rest, HeadCommitted s core t m rest p.2 →
    (∀ w, s.runCommit core.c core.s t m = .done w →
      (∀ t', (w.core core.c core.s).task = some t' → ∀ m', t'.commitMoves.head? = some m' → m'.serial = none) →
      exec (p.1 core) s = .next ((w.commitMoveDone core.c core.s m).sendDones t.uid)) ∧
    (∀ e w, s.runCommit core.c core.s t m = .fail e w →
      exec (p.1 core) s = .next (w.commitMoveFail core.c core.s e)) ∧
    (∀ k w, s.runCommit core.c core.s t m = .part k w → exec (p.1 core) s = .next w) ∧
    (s.runCommit core.c core.s t m = .wait → exec (p.1 core) s = .next s)) ∧
  (∀ p ∈ moverOps, ∀ s core t m rest id, HeadCommitted s core t m rest p.2 → m.bits = none → mvBcast m.desc = some id → m.sent ≠ 0 →
    (s.bcastWaits id = true → exec (p.1 core) s = .next s) ∧
    (s.bcastWaits id = false → ∃ u t', exec (p.1 core) s = .next u ∧ (after u core).task = some t' ∧
      t'.commitMoves = rest ∧ t'.ev = t.ev ∧ BytesStay s u)) ∧
  (∀ s core t m rest x, HeadCommitted s core t m rest opScatterAdd →
    s.scatterAddStage core.c core.s t m.desc m = .inr x →
    (∀ g ∈ x.staged, ∀ r, s.redOf t.ctx g.redId = some r → r.status ≠ .forwarding) →
    ∃ u t', exec (.scatterAdd core) s = .next u ∧ (after u core).task = some t' ∧ t'.commitMoves = rest ∧
      t'.ev = t.ev.count x.ev ∧
      u.mem = (if t.current then s.mvTag t m.desc else s).mem ∧
      (x.staged ≠ [] → t'.codes = t.codes ∧ t'.dones = t.dones ++ [x.done] ∧ u.disp.inflight = s.disp.inflight ++ x.staged.map (fun g =>
        (⟨t.uid, homeAdder s t g, mkHeader (dTask t.desc) t.ctx g.kind g.gen g.redId g.block g.a g.b,
          (s.core core.c core.s).stagedBytes g⟩ : InFlight))))

/-- R246, R249, R250, R266 to R270, R299 to R315, R337, R338, R127, R244: GATHER, SCATTER, CROP and the operations of element
views write, at the commit, the rows of their destination in memory, each element computed from what the operation reads, and no
other byte but their tag; before the commit they, and the window operations, queue the slabs of their ring, as far as their
source has landed. GATHER with a mask writes the mask's bits too, that of a ring at the commit (R615). -/
def Obligations.MoverWritesTheDestinationView : Prop :=
  (∀ p ∈ jobOps, ∀ s core t m rest v j r, HeadCommitted s core t m rest p.2.1 → m.bits = none → p.2.2 s core t m v j →
    mDstSpace m.desc = 0 → mvEmpty m.desc t.desc = false →
    v.mvCompute core.c (s.core core.c core.s) t m.desc m j = .inr r →
    (mGen m.desc = 2 → ((s.core core.c core.s).slabSums m.desc t.desc).isSome = true) →
    ∃ u, exec (p.1 core) s = .next u ∧ ViewWritten s u core t m rest v r) ∧
  (∀ p ∈ jobOps, ∀ s core t m rest v j r, HeadIssued s core t m rest p.2.1 → p.2.2 s core t m v j →
    mDstSpace m.desc = 1 → mvEmpty m.desc t.desc = false →
    v.mvCompute core.c (s.core core.c core.s) t m.desc m j = .inr r →
    (mGen m.desc = 2 → ((s.core core.c core.s).slabSums m.desc t.desc).isSome = true) →
    ∃ u, exec (p.1 core) s = .next u ∧ RingFilled s u core t (fillDeliveries s core m r) (fillLeft m rest r) r.ev) ∧
  (∀ s core t m rest idx w mp, HeadCommitted s core t m rest opGather → m.bits = none → xMaskAddr m.desc ≠ 0 → mDstSpace m.desc ≠ 1 →
    mvEmpty m.desc t.desc = false → s.idxLanded core.c core.s t m 0 (xIdxCount m.desc) false = true →
    s.readIdx t m.desc m 0 (xIdxCount m.desc) = .ok idx →
    s.mvRun core.c core.s t m.desc m (gatherJob m.desc t.desc idx) = .done w →
    let eff := idx.map (effIndex (mIdxMode m.desc) (mEff m.desc t.desc (mIdxDim m.desc)))
    let x := (w.idxCount core.c eff).cnt48 (kCl core.c 0x80 2) (coalesced (sliceBytes m.desc t.desc) (eff.map (·.1)))
    x.places (x.core core.c core.s) (x.accMv t m) (.virt 0) true (maskRuns m.desc) = .ok mp →
    ∃ u, exec (.gather core) s = .next u ∧ u.mem = (writePieces x (mp.map (fun p => (p.a, p.n)))
      (maskBytes (xIdxCount m.desc) (eff.map (·.1.isSome)) (mp.flatMap (fun p => x.view p.a p.n)))).mem) ∧
  (∀ s core t m rest idx w, HeadIssued s core t m rest opGather → xMaskAddr m.desc ≠ 0 → mDstSpace m.desc = 1 →
    mvEmpty m.desc t.desc = false → s.idxLanded core.c core.s t m 0 (xIdxCount m.desc) false = true →
    s.readIdx t m.desc m 0 (xIdxCount m.desc) = .ok idx →
    s.mvRun core.c core.s t m.desc m (gatherJob m.desc t.desc idx) = .done w →
    ∃ u t', exec (.gather core) s = .next u ∧ BytesStay s u ∧ (after u core).task = some t' ∧ t'.moves = rest ∧
      t'.commitMoves = t.commitMoves ++ [{ m with src := none, box := none, bits := some (idx.map (fun i =>
        (effIndex (mIdxMode m.desc) (mEff m.desc t.desc (mIdxDim m.desc)) i).1.isSome)) }]) ∧
  (∀ s core t m rest bits mp, HeadCommitted s core t m rest opGather → m.bits = some bits →
    s.places (s.core core.c core.s) (s.accMv t m) (.virt 0) true (maskRuns m.desc) = .ok mp →
    ∃ u, exec (.gather core) s = .next u ∧ u.mem = (writePieces s (mp.map (fun p => (p.a, p.n)))
      (maskBytes (xIdxCount m.desc) bits (mp.flatMap (fun p => s.view p.a p.n)))).mem) ∧
  (∀ p ∈ [(Instr.window, opWindow), (Instr.windowT, opWindowT)], ∀ s core t m rest pl, HeadIssued s core t m rest p.2 →
    let c := s.core core.c core.s
    let runs := (windowPicks m.desc).flatMap (slabPickRuns (mSrcView m.desc))
    (mSrcSpace m.desc = 1 → slabsResident c m.desc runs = true) →
    s.places c (s.accMv t m) (mSrcPort s m.desc m) false runs = .ok pl → s.landedAll core.c pl = true →
    (mChk m.desc = true → pl.all (fun q => q.sram || inData q.a) = true) → s.csumBad c t m.desc m = false →
    pl.any (fun q => !q.sram && s.touchesPoison q.a q.n) = false →
    (mChk m.desc = true ∨ s.containment = true → s.badBlock pl = none) →
    ∃ u, exec (p.1 core) s = .next u ∧ RingFilled s u core t (windowDeliveries c m (windowOut s core t m)) rest
      (Ev.sum ((windowOut s core t m).map (·.2))))

/-- R556, R357: LANDED_READ lets the first descriptor of the cluster that reads a granule that has landed proceed, as its own
command does; DELTA_TASK runs the delta pass of a task that waits for it, and stages its outputs, stamps and counts. -/
def Obligations.LandedReadsAndDeltaPasses : Prop :=
  (∀ s (cl : Fin 12) (g : Fin 262144), nget false s.fab.landed (cl.val * 2 ^ 18 + g.val) = false →
    exec (.landedRead cl g) s = .next s) ∧
  (∀ s (cl : Fin 12) (site : Fin 8) (g : Fin 262144) t m, nget false s.fab.landed (cl.val * 2 ^ 18 + g.val) = true →
    (List.range 8).find? (fun k => s.readsGranule cl.val k g.val) = some site.val →
    s.headMove cl.val site.val = some (t, m) →
    ∀ p ∈ moverOps ++ [(Instr.scatterAdd, opScatterAdd)], mOp m.desc = p.2 →
      ∃ u, exec (.landedRead cl g) s = .next u ∧ exec (p.1 ⟨cl, site⟩) s = .next u) ∧
  (∀ p ∈ jobOps, ∀ s (cl : Fin 12) (site : Fin 8) (g : Fin 262144) t m rest v j r,
    nget false s.fab.landed (cl.val * 2 ^ 18 + g.val) = true →
    (List.range 8).find? (fun k => s.readsGranule cl.val k g.val) = some site.val →
    HeadIssued s ⟨cl, site⟩ t m rest p.2.1 → p.2.2 s ⟨cl, site⟩ t m v j →
    mDstSpace m.desc = 1 → mvEmpty m.desc t.desc = false →
    v.mvCompute cl.val (s.core cl.val site.val) t m.desc m j = .inr r →
    (mGen m.desc = 2 → ((s.core cl.val site.val).slabSums m.desc t.desc).isSome = true) →
    ∃ u, exec (.landedRead cl g) s = .next u ∧
      RingFilled s u ⟨cl, site⟩ t (fillDeliveries s ⟨cl, site⟩ m r) (fillLeft m rest r) r.ev) ∧
  (∀ s core t r h d, s.liveTask core.c core.s = some t → t.isDelta = true → t.ended = true → t.gDone = false →
    t.glide = some r → s.readVaNat (s.accTask t (s.xlatTag t.ctx)) (glState r) 64 = .ok h → deltaBad r h = false →
    extM (extWord t.desc 0) ≤ ghM h →
    s.deltaAll (s.accTask t (s.xlatTag t.ctx)) r h (glideFull r h) (extM (extWord t.desc 0))
      ((List.range (glRowbs r)).map (fun i => glRowb0 r + i)) ⟨[], [], [], .none, [0, 0, 0, 0, 0, 0]⟩ = .ok d →
    ∃ u t', exec (.deltaTask core) s = .next u ∧ BytesStay s u ∧ u.objs = s.objs ∧ (after u core).task = some t' ∧
      t'.gDone = true ∧ t'.gOut = d.out ∧ t'.gStamps = d.stamps ∧ t'.gCounts = d.counts ∧ t'.gFull = glideFull r h ∧
      t'.ev = t.ev.count d.ev ∧ t'.codes = t.codes)

/-- R191, R192, R376, R614, R630: a write of the function mode or the containment mode is kept and its object reads DRAINING
until nothing is in flight, when DRAIN_END applies it; a second write in the drain is refused and one of the same value changes
nothing; Glide is enabled and disabled alike; FORCE ends what is in flight, in a drain only. What a drain waits for, and what
becomes of positions on no core, is the model's choice (log 84). -/
def Obligations.ModesDrainAndApply : Prop :=
  (∀ p ∈ [(Instr.tm1FunctionMode, 0x2002), (Instr.tm1ContainmentMode, 0x2001)], ∀ s (v : BitVec 8),
    (v.toNat ≤ 1 → s.obj (kDev p.2 2) ≠ 1 → v.toNat ≠ s.obj (kDev p.2 1) → ∃ u, exec (p.1 v) s = .next u ∧
      u = { s with objs := u.objs, modes := u.modes } ∧ ObjsAre s u [(kDev p.2 2, 1)] ∧
      u.modes = (if p.2 = 0x2002 then { s.modes with function := some v.toNat }
        else { s.modes with containment := some v.toNat })) ∧
    (1 < v.toNat → TurnedAway s (p.1 v) stRange) ∧
    (v.toNat ≤ 1 → s.obj (kDev p.2 2) = 1 → TurnedAway s (p.1 v) stState) ∧
    (v.toNat ≤ 1 → s.obj (kDev p.2 2) ≠ 1 → v.toNat = s.obj (kDev p.2 1) → exec (p.1 v) s = .next s)) ∧
  (∀ p ∈ [(Instr.tm1FunctionModeForce, 0x2002), (Instr.tm1ContainmentForce, 0x2001)], ∀ s,
    exec (p.1 false) s = .next s ∧
    (s.obj (kDev p.2 2) = 1 → exec (p.1 true) s = .next s.abortAll) ∧
    (s.obj (kDev p.2 2) ≠ 1 → TurnedAway s (p.1 true) stState)) ∧
  (∀ s v, s.obj (kDev 0x2002 2) = 1 → s.anyWork = false → s.modes.function = some v →
    ∃ u, exec (.drainEnd .functionMode) s = .next u ∧ u.obj (kDev 0x2002 1) = v ∧ u.obj (kDev 0x2002 2) = 0 ∧
      u.modes = { s.modes with function := none } ∧ BytesStay s u ∧ u.cores = s.cores) ∧
  (∀ s v, s.obj (kDev 0x2001 2) = 1 → s.anyWork = false → s.modes.containment = some v →
    ∃ u, exec (.drainEnd .containment) s = .next u ∧ u.obj (kDev 0x2001 1) = v ∧ u.obj (kDev 0x2001 2) = 0 ∧
      u.modes = { s.modes with containment := none } ∧ BytesStay s u ∧ u.cores = s.cores) ∧
  (∀ s, s.anyWork = true → exec (.drainEnd .functionMode) s = .next s ∧ exec (.drainEnd .containment) s = .next s) ∧
  (∀ s, ∃ u, exec (.glideEnable true) s = .next u ∧ ObjWrite s u [(kDev 0x2010 1, 1), (kDev 0x2010 2, 0)]) ∧
  (∀ s, ∃ u, exec (.glideEnable false) s = .next u ∧
    ObjWrite s u [(kDev 0x2010 1, 0), (kDev 0x2010 2, if s.obj (kDev 0x2010 2) = 0 then 1 else s.obj (kDev 0x2010 2))]) ∧
  (∀ s, s.obj (kDev 0x2010 2) = 1 → s.anyGlide = false → ∃ u, exec (.drainEnd .glide) s = .next u ∧
    ObjWrite s u [(kDev 0x2010 2, 2)]) ∧
  (∀ s, exec (.glideForce false) s = .next s ∧
    (s.obj (kDev 0x2010 2) = 1 → exec (.glideForce true) s =
      .next (((s.abortCores (fun t => t.glide.isSome)).abortWaiting (fun l => dGlide l.desc ≠ 0)).abortPlans Plan.glided)) ∧
    (s.obj (kDev 0x2010 2) ≠ 1 → TurnedAway s (.glideForce true) stState))

/-! ### The Chairlift -/

/-- R505, R509, R510, R518 to R523, R517: the command at the head of the Chairlift's ring runs when it is of the kind that is
commanded. One that a code refuses writes its record with the first code and has no other effect. PUSH and LOAD_TABLE start a
transfer, which writes its record when it ends, and wait while four run; every other one takes effect and writes its record.
R503, R505, R509, R510, R521, R523: what the commands of the Chairlift's ring that take effect at once do. A FLIP of a newer
version makes it CURRENT and the slot's CURRENT entry PREVIOUS; PIN and UNPIN count references and pins; EVICT drains, archives
or empties the entry; ABORT ends the transfer and empties its entry; DEFINE_TABLE defines a table with two FREE banks;
FLIP_TABLE flips to the READY bank and counts; DROP_TABLE takes the definition away. -/
def Obligations.ChairliftRunsItsRing : Prop :=
  (∀ p ∈ chairRows, ∀ s, s.chairHead = none → exec p.1 s = .next s) ∧
  (∀ p ∈ chairRows, ∀ s n c, s.chairHead = some (n, c) → chOp c ≠ p.2 → chOps.contains (chOp c) = true →
    exec p.1 s = .next s) ∧
  (∀ p ∈ chairRows, ∀ s n c, s.chairHead = some (n, c) → chOp c = p.2 → s.chairCodes c ≠ [] →
    exec p.1 s = .next ((pastHead s n).chairRecord n c (firstCode (s.chairCodes c)) 0 0)) ∧
  (∀ s n c e, ChairGood s 0x01 n c → s.chair.transfers.length < 4 → s.pushEntry (chSlot c) = some e →
    ∃ u t, exec .push s = .next u ∧ BytesStay s u ∧ u.cores = s.cores ∧
      ObjsAre s u [(kChair 8, n + 1), (kSlot (chSlot c) (0x06 + e), eReceiving), (kSlot (chSlot c) (0x09 + e), chVersion c),
        (kSlot (chSlot c) (0x0C + e), 0)] ∧
      u.chair.transfers = s.chair.transfers ++ [t] ∧ t.pos = n ∧ t.cmd = c ∧ t.entry = some (chSlot c, e) ∧
      t.manifest = none ∧ t.written = [] ∧ t.verified = [] ∧ (u.entry (chSlot c) e).blocks = chBlocks c) ∧
  (∀ s n c tb, ChairGood s 0x11 n c → s.chair.transfers.length < 4 → s.table (chTable c) = some tb →
    ∃ u t, exec .loadTable s = .next u ∧ BytesStay s u ∧ u.cores = s.cores ∧ ObjsAre s u [(kChair 8, n + 1)] ∧
      u.table (chTable c) = some (tb.modBank (tb.epoch + 1) (fun b => { b with state := .loading })) ∧
      u.chair.transfers = s.chair.transfers ++ [t] ∧ t.pos = n ∧ t.cmd = c ∧ t.entry = none ∧ t.verified = []) ∧
  (∀ s n c, ChairGood s 0x01 n c ∨ ChairGood s 0x11 n c → 4 ≤ s.chair.transfers.length →
    exec .push s = .next s ∧ exec .loadTable s = .next s) ∧
  (∀ p ∈ chairRows, ∀ s n c, p.2 ≠ 0x01 → p.2 ≠ 0x11 → ChairGood s p.2 n c →
    exec p.1 s = .next (((pastHead s n).chairApply n c).chairRecord n c cOk 0 0)) ∧
  (∀ s n c e, ChairGood s 0x02 n c → s.residentIn (chSlot c) (chVersion c) = some e →
    s.obj (kSlot (chSlot c) 2) = 0 ∨ newer (chVersion c) (s.obj (kSlot (chSlot c) 2)) = true →
    let v := (pastHead s n).chairApply n c
    v.eState (chSlot c) e = eCurrent ∧ v.obj (kSlot (chSlot c) 2) = chVersion c ∧
    ∀ k < 3, k ≠ e → s.eState (chSlot c) k = eCurrent → v.eState (chSlot c) k = ePrevious) ∧
  (∀ s n c e, ChairGood s 0x03 n c → s.residentIn (chSlot c) (chVersion c) = some e →
    let v := (pastHead s n).chairApply n c
    ObjsAre s v [(kChair 8, n + 1), (kSlot (chSlot c) (0x0C + e), s.eRefs (chSlot c) e + chCount c)] ∧
    (v.entry (chSlot c) e).pins = (s.entry (chSlot c) e).pins + chCount c) ∧
  (∀ s n c e, ChairGood s 0x04 n c → s.residentIn (chSlot c) (chVersion c) = some e →
    s.eState (chSlot c) e ≠ eDraining →
    let v := (pastHead s n).chairApply n c
    ObjsAre s v [(kChair 8, n + 1), (kSlot (chSlot c) (0x0C + e), s.eRefs (chSlot c) e - chCount c)] ∧
    (v.entry (chSlot c) e).pins = (s.entry (chSlot c) e).pins - chCount c) ∧
  (∀ s n c e, ChairGood s 0x05 n c → s.residentIn (chSlot c) (chVersion c) = some e →
    let v := (pastHead s n).chairApply n c
    (s.eRefs (chSlot c) e ≠ 0 → v.eState (chSlot c) e = eDraining) ∧
    (s.eRefs (chSlot c) e = 0 → s.obj (kSlot (chSlot c) 0x11) ≠ 0 → v.eState (chSlot c) e = eArchiving) ∧
    (s.eRefs (chSlot c) e = 0 → s.obj (kSlot (chSlot c) 0x11) = 0 → v.eState (chSlot c) e = eEmpty ∧
      v.eVersion (chSlot c) e = 0)) ∧
  (∀ s n c t, ChairGood s 0x06 n c → s.abortNames c = some t →
    let v := (pastHead s n).chairApply n c
    (∀ x ∈ v.chair.transfers, x.pos ≠ t.pos) ∧
    ∀ sl < 8, ∀ e < 3, t.entry = some (sl, e) → v.eState sl e = eEmpty ∧ v.eVersion sl e = 0) ∧
  (∀ s n c, ChairGood s 0x10 n c → ((pastHead s n).chairApply n c).table (chTable c) =
    some { type := chType c, owner := chOwner c, blocks := chBlocks c, epoch := 0, b0 := ⟨chSrc c, .free, 0, 0⟩,
           b1 := ⟨chManifest c, .free, 0, 0⟩ }) ∧
  (∀ s n c tb, ChairGood s 0x12 n c → s.table (chTable c) = some tb →
    let v := (pastHead s n).chairApply n c
    v.table (chTable c) = some tb.flip ∧ v.obj (kDev 0xA200 2) = wrapAdd48 (s.obj (kDev 0xA200 2)) 1) ∧
  (∀ s n c, ChairGood s 0x13 n c → ((pastHead s n).chairApply n c).table (chTable c) = none)

/-- R513, R514, R516, R518, R527: a transfer whose manifest's CRC holds keeps its values, one whose CRC does not fails; a block
that is written is verified against them, after the block of a MEMORY transfer has been read; the copy of an ARCHIVING entry
ends in EMPTY; ENABLE, FORCE and RING_LIMIT are written, and the drain ends DISABLED. The answer to a RING_LIMIT below the
present value, and an archive copy that waits only in STATE 2, are the model's choice (log 90). -/
def Obligations.ChairliftTransfersAreVerified : Prop :=
  (∀ s (i : Fin 4) t bs, s.chair.transfers[i.val]? = some t → t.manifest = none → s.manifestBytes t = some bs →
    let n := chBlocks t.cmd * 4
    (crc32c (bs.take n) = leNat (bs.drop n) → ∃ u, exec (.manifestCheck i) s = .next u ∧ BytesStay s u ∧ u.objs = s.objs ∧
      u.chair.transfers = s.chair.transfers.map (fun x =>
        if x.pos = t.pos then { x with manifest := some ((chunks 4 (bs.take n)).map leNat) } else x)) ∧
    (crc32c (bs.take n) ≠ leNat (bs.drop n) → exec (.manifestCheck i) s = .next (s.failTransfer t cChecksum))) ∧
  (∀ s (i : Fin 4) t, s.chair.transfers[i.val]? = some t → t.manifest.isSome = true ∨ s.manifestBytes t = none →
    exec (.manifestCheck i) s = .next s) ∧
  (∀ s (i : Fin 4), s.chair.transfers[i.val]? = none → exec (.manifestCheck i) s = .next s) ∧
  (∀ s (i : Fin 4) (blk : BitVec 25) t m, s.chair.transfers[i.val]? = some t → t.manifest = some m →
    blk.toNat < chBlocks t.cmd → t.verified.contains blk.toNat = false →
    let v := if chSource t.cmd = 1 ∧ t.written.contains blk.toNat = false then
        (s.countRd (chSrc t.cmd + blk.toNat * 4096) 4096).writeBlock t blk.toNat (s.view (chSrc t.cmd + blk.toNat * 4096) 4096)
      else s
    ∀ t', v.transferAt t.pos = some t' → t'.written.contains blk.toNat = true →
      exec (.chairliftBlock i blk) s = .next (v.verifyBlock t' m blk.toNat) ∧
      (v.blockCrc (v.targetPa t' / 4096 + blk.toNat) = nth 0 m blk.toNat →
        t'.verified.length + 1 ≠ chBlocks t'.cmd →
        let u := v.verifyBlock t' m blk.toNat
        BytesStay v u ∧ sideState (u.sideOf (v.targetPa t' / 4096 + blk.toNat)) = 1 ∧
        u.chair.transfers = v.chair.transfers.map (fun x =>
          if x.pos = t'.pos then { x with verified := blk.toNat :: t'.verified } else x))) ∧
  (∀ s (slot : Fin 8) (e : Fin 3), s.eState slot.val e.val = eArchiving → s.chairState ≠ 2 →
    ∃ u, exec (.archiveCopyDone slot e) s = .next u ∧ u.mem = (s.archiveCopy slot.val e.val).mem ∧
      u.eState slot.val e.val = eEmpty ∧ u.eVersion slot.val e.val = 0 ∧
      u.obj (kSlot slot.val 0x12) = (s.obj (kSlot slot.val 0x12) + 1) % 2 ^ 32) ∧
  (∀ s (slot : Fin 8) (e : Fin 3), s.eState slot.val e.val ≠ eArchiving ∨ s.chairState = 2 →
    exec (.archiveCopyDone slot e) s = .next s) ∧
  (∀ s, ∃ u, exec (.chairliftEnable true) s = .next u ∧ ObjWrite s u [(kChair 1, 1), (kChair 2, 0)]) ∧
  (∀ s, ∃ u, exec (.chairliftEnable false) s = .next u ∧
    ObjWrite s u [(kChair 1, 0), (kChair 2, if s.chairState = 0 then 1 else s.chairState)]) ∧
  (∀ s, exec (.chairliftForce false) s = .next s ∧
    (s.chairState = 1 → exec (.chairliftForce true) s =
      .next (s.chair.transfers.foldl (fun s t => s.failTransfer t cAborted) s)) ∧
    (s.chairState = 1 → ∃ u, exec (.chairliftForce true) s = .next u ∧ u.chair.transfers = [] ∧ u.cores = s.cores ∧
      ∀ t ∈ s.chair.transfers, ∀ sl < 8, ∀ e < 3, t.entry = some (sl, e) → u.eState sl e = eEmpty ∧ u.eVersion sl e = 0) ∧
    (s.chairState ≠ 1 → TurnedAway s (.chairliftForce true) stState)) ∧
  (∀ s (v : BitVec 32), s.gate 0 false = .served → s.obj (kChair 7) ≤ v.toNat → ∃ u, exec (.ringLimit v) s = .next u ∧
    ObjWrite s u [(kChair 7, v.toNat)]) ∧
  (∀ s (v : BitVec 32), s.gate 0 false = .served → v.toNat < s.obj (kChair 7) → exec (.ringLimit v) s = .next (s.cnt16 (kDev 0x1050 6) 1)) ∧
  (∀ s, s.chairState = 1 → s.chair.transfers = [] → ∃ u, exec (.drainEnd .chairlift) s = .next u ∧
    ObjWrite s u [(kChair 2, 2)])

/-! ### Links -/

/-- R533 to R539, R548: a link that carries flits takes a flit that is good and in order: it counts, its credits and its
acknowledgement are taken, a NAK has the sender's flits sent again, and what it carries is processed; a bad or out-of-order flit
is counted, and one NAK leaves until a flit is accepted; an undefined link word takes the link down. NAK and a time without
progress send every unacknowledged flit again, in order. PACKET_FORWARD sends the next packet that may leave, flit by flit, or
an IDLE flit. The quantum by which the next packet is chosen, and that an IDLE flit counts as accepted, are the model's choice
(log 94). -/
def Obligations.LinksExchangeFlits : Prop :=
  (∀ s (n : Fin 64) (f : BitVec 2048) (a : BitVec 12), s.linkCarries n.val = false →
    exec (.flitReceive n f) s = .next s ∧ exec (.nak n a) s = .next s ∧ exec (.replayTimeout n) s = .next s ∧
    exec (.packetForward n) s = .next s) ∧
  (∀ s (n : Fin 64) (f : BitVec 2048), s.linkCarries n.val = true →
    flCrcOk f.toNat = false ∨ flCrcOk f.toNat = true ∧ flKind f.toNat ≤ 6 ∧ fld f.toNat 23 0 = 0 ∧ flKind f.toNat ≠ 0 ∧
      flKind f.toNat ≠ 6 ∧ flSeq f.toNat ≠ (s.link n.val).expect →
    ∃ u, exec (.flitReceive n f) s = .next u ∧ BytesStay s u ∧
      ObjsAre s u ([(kLink n.val 0xA, satAdd16 (s.obj (kLink n.val 0xA)) 1)] ++
        if (s.link n.val).nakSent then [] else [(kLink n.val 0xC, wrapAdd48 (s.obj (kLink n.val 0xC)) 1)]) ∧
      (u.link n.val).nakSent = true ∧ (u.link n.val).expect = (s.link n.val).expect ∧
      (if (s.link n.val).nakSent then u.out = s.out
       else ∃ b k, u.out = .flit n.val (mkFlit 0 (s.link n.val).lastAcc b k 6 0 0) :: s.out)) ∧
  (∀ s (n : Fin 64) (f : BitVec 2048), s.linkCarries n.val = true → flCrcOk f.toNat = true →
    6 < flKind f.toNat ∨ fld f.toNat 23 0 ≠ 0 → exec (.flitReceive n f) s = .next (s.linkDrop n.val)) ∧
  (∀ s (n : Fin 64) (f : BitVec 2048), s.linkCarries n.val = true → flCrcOk f.toNat = true → flKind f.toNat ≤ 6 →
    fld f.toNat 23 0 = 0 → (flKind f.toNat ≠ 0 → flKind f.toNat ≠ 6 → flSeq f.toNat = (s.link n.val).expect) →
    ∃ v, v = { s with objs := v.objs, fab := { s.fab with links := v.fab.links } } ∧
      ObjsAre s v [(kLink n.val 0xD, wrapAdd48 (s.obj (kLink n.val 0xD)) 1)] ∧
      (∀ m, m ≠ n.val → v.link m = s.link m) ∧ (v.link n.val).nakSent = false ∧
      (v.link n.val).credits = modNth (s.link n.val).credits (flCbuf f.toNat) (fun c => min 64 (c + flCredits f.toNat)) ∧
      (flKind f.toNat = 0 → (v.link n.val).expect = (s.link n.val).expect ∧
        exec (.flitReceive n f) s = .next (v.linkAck n.val (flAck f.toNat))) ∧
      (flKind f.toNat = 6 → (v.link n.val).expect = (s.link n.val).expect ∧
        exec (.flitReceive n f) s = .next (v.linkNak n.val (flAck f.toNat))) ∧
      (flKind f.toNat ≠ 0 → flKind f.toNat ≠ 6 → (v.link n.val).expect = ((s.link n.val).expect + 1) % 4096 ∧
        (v.link n.val).lastAcc = flSeq f.toNat ∧
        exec (.flitReceive n f) s = .next ((v.linkAck n.val (flAck f.toNat)).takeFlit n.val f.toNat))) ∧
  (∀ s (n : Fin 64) (a : BitVec 12), s.linkCarries n.val = true →
    let v := s.linkAck n.val a.toNat
    exec (.nak n a) s = .next (v.resendAll n.val) ∧
    ((v.link n.val).unacked ≠ 0 → (v.link n.val).resends < 16 → ∃ u, exec (.nak n a) s = .next u ∧ BytesStay s u ∧
      u.out = ((v.link n.val).toResend.map (Out.flit n.val)).reverse ++ s.out ∧
      (u.link n.val).resends = (v.link n.val).resends + 1)) ∧
  (∀ s (n : Fin 64), s.linkCarries n.val = true →
    ((s.link n.val).progressAt + 2000 ≤ s.timeNs → exec (.replayTimeout n) s = .next (s.resendAll n.val)) ∧
    ((s.link n.val).progressAt + 2000 ≤ s.timeNs → (s.link n.val).unacked ≠ 0 → (s.link n.val).resends < 16 →
      ∃ u, exec (.replayTimeout n) s = .next u ∧ BytesStay s u ∧
        u.out = ((s.link n.val).toResend.map (Out.flit n.val)).reverse ++ s.out ∧
        (u.link n.val).resends = (s.link n.val).resends + 1 ∧ (u.link n.val).progressAt = s.timeNs ∧
        (u.link n.val).replay = (s.link n.val).replay) ∧
    (s.timeNs < (s.link n.val).progressAt + 2000 → exec (.replayTimeout n) s = .next s)) ∧
  (∀ (s : State) (n : Fin 64), (s.link n.val).unacked ≠ 0 → 16 ≤ (s.link n.val).resends →
    s.resendAll n.val = s.linkDrop n.val) ∧
  (∀ s (n : Fin 64) p, s.linkLive n.val = true → ((s.link n.val).nextPacket (s.moduleState = 4)).2 = some p →
    ∃ u fs, exec (.packetForward n) s = .next u ∧ BytesStay s u ∧
      (u.link n.val).nextSeq = ((s.link n.val).nextSeq + p.flits.length) % 4096 ∧
      (u.link n.val).replay = (s.link n.val).replay ++ [⟨(s.link n.val).nextSeq, p, fs⟩] ∧ fs.length = p.flits.length ∧
      (u.link n.val).outQ = (s.link n.val).outQ.erase p ∧
      (u.link n.val).credits = modNth (s.link n.val).credits p.buf (· - p.flits.length) ∧
      u.out = (fs.map (Out.flit n.val)).reverse ++ s.out) ∧
  (∀ s (n : Fin 64), (s.linkLive n.val = true ∧ ((s.link n.val).nextPacket (s.moduleState = 4)).2 = none) ∨
      (s.linkLive n.val = false ∧ s.linkCarries n.val = true) →
    ∃ u b k, exec (.packetForward n) s = .next u ∧ BytesStay s u ∧
      u.out = .flit n.val (mkFlit 0 (s.link n.val).lastAcc b k 0 0 0) :: s.out)

/-- R537, R542, R543, R564 to R568, R614, R661, R706: a link trains, carries flits on the lanes that came up, loses a lane,
drains and goes down, and its state and its lanes say so; a lost neighbour is reported once; MODULE_ID and the module's presence
pins are objects that are written. Outside READY and SAG_HOLD the links stand idle, and one that is enabled then trains later.
What a write in a drain does, when packets are lost and the sequence numbers of a new link are the model's choice (logs 95, 141
and 147). -/
def Obligations.LinkStatesFollowTheirEvents : Prop :=
  (∀ s (n : Fin 64) (lane : Fin 2),
    (bitAt (s.lanes n.val) lane.val = false → exec (.laneFailure n lane) s = .next s) ∧
    (bitAt (s.lanes n.val) lane.val = true → s.lanes n.val ≠ 2 ^ lane.val → ∃ u, exec (.laneFailure n lane) s = .next u ∧
      ObjWrite s u [(kLink n.val 5, s.lanes n.val - 2 ^ lane.val),
        (kLink n.val 1, if s.linkState n.val = 2 then 3 else s.linkState n.val)]) ∧
    (bitAt (s.lanes n.val) lane.val = true → s.lanes n.val = 2 ^ lane.val →
      exec (.laneFailure n lane) s = .next (s.linkDrop n.val))) ∧
  (∀ (s : State) (n : Fin 64), (s.linkDrop n.val).linkState n.val = 5 ∧ (s.linkDrop n.val).lanes n.val = 0 ∧
    BytesStay s (s.linkDrop n.val)) ∧
  (∀ (s : State) (n : Fin 64), (s.linkState n.val = 5 → s.obj (kLink n.val 2) = 1 → ∃ u, exec (.retrainTimer n) s = .next u ∧
      ObjWrite s u [(kLink n.val 5, 0), (kLink n.val 1, 1)]) ∧
    (s.linkState n.val ≠ 5 ∨ s.obj (kLink n.val 2) ≠ 1 → exec (.retrainTimer n) s = .next s)) ∧
  (∀ s (n : Fin 64) a b, s.linksOn = false → exec (.linkTrainingDone n a b) s = .next s) ∧
  (∀ s (n : Fin 64) a b, s.linksOn = true → s.linkState n.val = 1 →
    ((a || b) = false → ∃ u, exec (.linkTrainingDone n a b) s = .next u ∧
      ObjWrite s u [(kLink n.val 5, 0), (kLink n.val 1, 5)]) ∧
    ((a || b) = true → ∃ u, exec (.linkTrainingDone n a b) s = .next u ∧ BytesStay s u ∧
      ObjsAre s u [(kLink n.val 5, b2n a + 2 * b2n b), (kLink n.val 1, if a && b then 2 else 3)] ∧
      (u.link n.val).expect = 0 ∧ (u.link n.val).nextSeq = 0 ∧ (u.link n.val).replay = [] ∧
      (u.link n.val).credits = List.replicate 8 64 ∧ (u.link n.val).lostPkts = [] ∧
      ∃ p, (u.link n.val).outQ = (s.link n.val).outQ ++ [p] ∧ p.flits = mkFlits (mkHdr noId s.ownId tyNeighbour 0 0
        (at' n.val 171 166 + at' s.ownId 165 149) 0) [])) ∧
  (∀ s (n : Fin 64) a b, s.linksOn = true → s.linkState n.val = 3 → (if bitAt (s.lanes n.val) 0 then b else a) = true →
    ∃ u, exec (.linkTrainingDone n a b) s = .next u ∧ ObjsAre s u [(kLink n.val 5, 3), (kLink n.val 1, 2)] ∧ BytesStay s u) ∧
  (∀ s (n : Fin 64), s.linkBad n.val = true → TurnedAway s (.linkEnable n true) stState) ∧
  (∀ s (n : Fin 64), s.linkBad n.val = false → s.linksOn = false →
    ∃ u, exec (.linkEnable n true) s = .next u ∧ u.fab = s.fab ∧ ObjsAre s u [(kLink n.val 2, 1)] ∧
      nget (0, 0) u.patrol.linkSet n.val = (1, (nget (0, 0) s.patrol.linkSet n.val).2)) ∧
  (∀ s (n : Fin 64), s.linkBad n.val = false → s.linksOn = true → s.linkState n.val = 0 ∨ s.linkState n.val = 5 →
    ∃ u, exec (.linkEnable n true) s = .next u ∧ u.fab = s.fab ∧
      ObjsAre s u [(kLink n.val 5, 0), (kLink n.val 1, 1), (kLink n.val 2, 1)] ∧
      nget (0, 0) u.patrol.linkSet n.val = (1, (nget (0, 0) s.patrol.linkSet n.val).2)) ∧
  (∀ s (n : Fin 64), s.linkState n.val ≠ 0 → s.linkState n.val ≠ 4 → ∃ u, exec (.linkEnable n false) s = .next u ∧
    u.linkState n.val = 4 ∧ u.lanes n.val = s.lanes n.val ∧ u.obj (kLink n.val 2) = 0 ∧ BytesStay s u) ∧
  (∀ s (n : Fin 64), exec (.linkForce n false) s = .next s ∧
    (s.linkState n.val = 4 → exec (.linkForce n true) s = .next (s.linkDrop n.val)) ∧
    (s.linkState n.val ≠ 4 → TurnedAway s (.linkForce n true) stState)) ∧
  (∀ s (n : Fin 64), s.linkState n.val = 4 → (s.link n.val).replay = [] → (s.link n.val).inPkt = [] →
    ∃ u, exec (.drainEnd (.link n)) s = .next u ∧ ObjWrite s u [(kLink n.val 5, 0), (kLink n.val 1, 0)]) ∧
  (∀ (s : State) (n : Fin 64) t, (s.link n.val).lostAt = some t →
    (s.timeNs < t + 1000000 → exec (.linkDownTimeout n) s = .next s) ∧
    (t + 1000000 ≤ s.timeNs → ∃ u, exec (.linkDownTimeout n) s = .next u ∧ (u.link n.val).lost = true ∧
      (u.link n.val).lostAt = none ∧ (u.link n.val).lostPkts = [] ∧ s.obj (kLink n.val 6) ∈ u.fab.silent ∧ BytesStay s u)) ∧
  (∀ (s : State) (n : Fin 64), (s.link n.val).lostAt = none → exec (.linkDownTimeout n) s = .next s) ∧
  (∀ s (v : BitVec 32), v.toNat ≤ noId → (List.range 64).all (fun c => s.ctxState c ≠ 1) = true →
    ∃ u, exec (.moduleId v) s = .next u ∧ ObjWrite s u [(kDev 0x6000 1, v.toNat)]) ∧
  (∀ s (v : BitVec 32), (noId < v.toNat → TurnedAway s (.moduleId v) stRange) ∧
    (v.toNat ≤ noId → (List.range 64).any (fun c => s.ctxState c = 1) = true → TurnedAway s (.moduleId v) stState)) ∧
  (∀ s (n : Fin 64) low, ∃ u, exec (.modprs n low) s = .next u ∧ ObjWrite s u [(kLink n.val 0xF, b2n low)])

/-- R554, R555, R559, R611, R621, R627: the oldest remote WRITE that does not wait is checked against its context's job and
rights and applied: one that fails writes nothing, one that passes writes its bytes and no others; it counts toward its
descriptor. In containment mode a part of a block fails. WRITE_DONE, or 20 ms without it from the time its last packet left,
ends the remote MOVE. A contribution that is complete is applied at its adder and acknowledged, as is a marker; an
acknowledgement's outcome reaches the task that sent. A reply for a cluster that serves nothing is discarded and counted. The
assembly of a contribution, and the adder of one whose reduction is unknown, are the model's choice (logs 60 and 98). -/
def Obligations.RemoteWorkIsAppliedAndAcknowledged : Prop :=
  (∀ s, s.pickWrite [] s.fab.rx = none → exec .remoteWrite s = .next s) ∧
  (∀ s p rest, s.pickWrite [] s.fab.rx = some (p, rest) →
    let v := ({ s with fab := { s.fab with rx := rest } } : State).freeInput p
    let c := pkCtx p.hdr
    let r := v.applyWrite p.hdr p.data p.tag
    let bs := p.data.take (fld p.hdr 47 35)
    exec .remoteWrite s = .next ((r.1.unrefTable p.tag).countArrival p.hdr r.2) ∧
    (v.jobId c = 0 ∨ v.jobId c ≠ pkJob p.hdr → r.2 = cProtection ∧ BytesStay v r.1) ∧
    (∀ e, v.jobId c ≠ 0 → v.jobId c = pkJob p.hdr →
      v.trans (v.accRemote c p.tag) (fld p.hdr 111 66) (fld p.hdr 47 35) true = .error e → r.2 = e ∧ BytesStay v r.1) ∧
    (∀ pa k, v.jobId c ≠ 0 → v.jobId c = pkJob p.hdr →
      v.trans (v.accRemote c p.tag) (fld p.hdr 111 66) (fld p.hdr 47 35) true = .ok [(pa, k)] → bs.length = k →
      (v.containment = true → inData pa = true → pa % 4096 = 0 ∧ k = 4096) →
      r.2 = cOk ∧ r.1.bytes pa k = bs ∧ BytesOutside v r.1 pa k ∧
      r.1.obj (kDev (0x6080 + c) 3) = wrapAdd48 (v.obj (kDev (0x6080 + c) 3)) 1) ∧
    (∀ pa k, v.jobId c ≠ 0 → v.jobId c = pkJob p.hdr →
      v.trans (v.accRemote c p.tag) (fld p.hdr 111 66) (fld p.hdr 47 35) true = .ok [(pa, k)] → v.containment = true →
      inData pa = true → pa % 4096 ≠ 0 ∨ k ≠ 4096 → r.2 = cDescriptor ∧ BytesStay v r.1)) ∧
  (∀ (s : State) p, pkType p.hdr = tyWrite → (s.deliver p).fab.rx = s.fab.rx ++ [{ p with tag := s.xlatNow (pkCtx p.hdr) }]) ∧
  (∀ s, s.takeRx tyWriteDone = none → exec .writeDone s = .next s) ∧
  (∀ s p v, s.takeRx tyWriteDone = some (p, v) →
    (∀ m, v.fab.remote.find? (fun m => m.serial = fld p.hdr 171 140 && m.status.isNone) = some m →
      (m.commit ≠ none ∨ v.clServes m.cl = true → exec .writeDone s = .next (v.remoteOver m (fld p.hdr 139 132))) ∧
      (m.commit = none → v.clServes m.cl = false → exec .writeDone s =
        .next (({ v with fab := { v.fab with remote := v.fab.remote.filter (fun x => x.serial ≠ m.serial) } } : State).discardReply)) ∧
      (∀ cl site t mv rest, m.commit = none → v.siteOfUid m.uid = some (cl, site) → v.clServes m.cl = true →
        (v.core cl site).task = some t → t.commitMoves = mv :: rest → mv.serial = some m.serial →
        ∃ u t', exec .writeDone s = .next u ∧ BytesStay s u ∧ (u.core cl site).task = some t' ∧
          u.fab.remote = v.fab.remote.filter (fun x => x.serial ≠ m.serial) ∧
          (fld p.hdr 139 132 = cOk → t'.commitMoves = rest ∧ t'.ev = t.ev) ∧
          (fld p.hdr 139 132 ≠ cOk → t'.commitMoves = [] ∧ t'.codes = t.codes ++ [fld p.hdr 139 132]))) ∧
    (v.fab.remote.find? (fun m => m.serial = fld p.hdr 171 140 && m.status.isNone) = none → exec .writeDone s = .next v)) ∧
  (∀ s (serial : BitVec 32) m, s.fab.remote.find? (fun m => m.serial = serial.toNat && m.status.isNone) = some m →
    (m.leftAt + 20000000 ≤ s.timeNs → s.writesWait serial.toNat = false →
      exec (.writeDoneTimeout serial) s = .next (s.remoteOver m cFenced)) ∧
    (s.timeNs < m.leftAt + 20000000 ∨ s.writesWait serial.toNat = true → exec (.writeDoneTimeout serial) s = .next s)) ∧
  (∀ (s : State) m code cm, m.commit = some cm → ∃ u, s.remoteOver m code = u ∧ u = { s with fab := u.fab } ∧
    u.fab.remote = s.fab.remote.filter (fun x => x.serial ≠ m.serial) ++ [{ m with status := some code }]) ∧
  (∀ s, s.takeRx tyContrib = none → exec .contrib s = .next s) ∧
  (∀ s p v, s.takeRx tyContrib = some (p, v) →
    let h := fld p.hdr 171 44
    let mine := fun (a : Assembly) => decide (a.src = pkSrc p.hdr) && decide (a.hdr = h)
    let old := (v.fab.assembly.find? mine).getD (v.newAssembly (pkSrc p.hdr) h (fld p.hdr 27 12))
    let a := { old with parts := nset [] old.parts (fld p.hdr 43 28) p.data }
    let rest := v.fab.assembly.filter (fun x => !mine x)
    let w := v.spillPart a (fld p.hdr 43 28) (p.data.take 4096)
    (a.parts.length < a.npart → exec .contrib s = .next { w with fab := { w.fab with assembly := rest ++ [a] } } ∧
      (old.spilled = none → w = v)) ∧
    (a.npart ≤ a.parts.length → exec .contrib s =
      .next (({ w with fab := { w.fab with assembly := rest } } : State).contribWhole p.hdr h (a.parts.map (·.2))))) ∧
  (∀ s, s.takeRx tyLeafDone = none → exec .leafDone s = .next s) ∧
  (∀ s p v, s.takeRx tyLeafDone = some (p, v) →
    let h := fld p.hdr 171 44
    (v.redOf (hCtx h) (hRed h) = none → exec .leafDone s = .next ((v.leafMarker 0 h).1.sendAck p.hdr h (v.leafMarker 0 h).2)) ∧
    (∀ r, v.redOf (hCtx h) (hRed h) = some r → r.blocks ≠ [] →
      let z := ((r.blocks.map (fun x => x.adder)).eraseDups).foldl (fun (x : State × Outcome) ma =>
        ((x.1.leafMarker ma h).1, if x.2 = Outcome.accepted then (x.1.leafMarker ma h).2 else x.2)) (v, Outcome.accepted)
      exec .leafDone s = .next (z.1.sendAck p.hdr h z.2))) ∧
  (∀ s, s.takeRx tyContribAck = none → exec .contribAck s = .next s) ∧
  (∀ s p v x, s.takeRx tyContribAck = some (p, v) →
    v.disp.awaitAck.find? (fun x => fld x.hdr 127 96 = fld p.hdr 171 140 && hRed x.hdr = fld p.hdr 139 124 &&
      hGen x.hdr = fld p.hdr 123 116 && hBlock x.hdr = fld p.hdr 115 100 && hA x.hdr = fld p.hdr 99 80 &&
      hB x.hdr = fld p.hdr 79 60) = some x →
    let w : State := { v with disp := { v.disp with awaitAck := v.disp.awaitAck.erase x } }
    (w.clServes x.cl = false → exec .contribAck s = .next w.discardReply) ∧
    (w.clServes x.cl = true →
      exec .contribAck s = .next ((w.noteOutcome x.uid (if hKind x.hdr = 0xF ∧ outcomeOf (fld p.hdr 59 58) ≠ .descriptor
        then .accepted else outcomeOf (fld p.hdr 59 58))).sendDones x.uid)))

/-- R561 to R563: a broadcast packet goes to the LINK transfer of its identifier, whose block is written once and whose part of
the manifest is kept, or is counted where none runs, and goes on down the tree either way; a RESEND is answered with what is
held; 10 ms after the last packet a transfer asks for what it lacks, and fails after the fourth time. -/
def Obligations.BroadcastsReachTheirTransfers : Prop :=
  (∀ (s : State), (s.takeRx tyBlock = none → exec .bcastBlock s = .next s) ∧ (s.takeRx tyManifest = none → exec .bcastManifest s = .next s) ∧
    (s.takeRx tyResend = none → exec .resend s = .next s)) ∧
  (∀ s p v, s.takeRx tyBlock = some (p, v) → v.bcastTransfer (bcId p.hdr) = none →
    exec .bcastBlock s = .next ((v.cnt16 (kDev 0x6000 7) 1).bcastForward p.hdr (p.data.take 4096) p.inCls)) ∧
  (∀ s p v, s.takeRx tyManifest = some (p, v) → v.bcastTransfer (bcId p.hdr) = none →
    exec .bcastManifest s = .next ((v.cnt16 (kDev 0x6000 7) 1).bcastForward p.hdr (p.data.take 4096) p.inCls)) ∧
  (∀ s p v t, s.takeRx tyBlock = some (p, v) → v.bcastTransfer (bcId p.hdr) = some t → v.chair.transfers = [t] →
    let t' := { t with
      origins := nset noId t.origins (bcBlock p.hdr) (bcOrigin p.hdr), lastOrigin := some (bcOrigin p.hdr), lastPacket := s.timeNs }
    let w : State := { v with chair := { v.chair with transfers := [t'] } }
    (chBlocks t.cmd ≤ bcBlock p.hdr ∨ t.written.contains (bcBlock p.hdr) = true →
      exec .bcastBlock s = .next ((w.dropBlock t').bcastForward p.hdr (p.data.take 4096) p.inCls)) ∧
    (bcBlock p.hdr < chBlocks t.cmd → t.written.contains (bcBlock p.hdr) = false →
      exec .bcastBlock s = .next ((w.writeBlock t' (bcBlock p.hdr) (p.data.take 4096)).bcastForward p.hdr (p.data.take 4096)
        p.inCls))) ∧
  (∀ s p v t, s.takeRx tyManifest = some (p, v) → v.bcastTransfer (bcId p.hdr) = some t → v.chair.transfers = [t] →
    bcBlock p.hdr < cdiv (chBlocks t.cmd * 4 + 4) 4096 →
    let item := bcBlock p.hdr + 2 ^ 25
    let t' := { t with
      origins := nset noId t.origins item (bcOrigin p.hdr), lastOrigin := some (bcOrigin p.hdr), lastPacket := s.timeNs
      mparts := nset [] t.mparts (bcBlock p.hdr) (p.data.take 4096)
      resends := ndel item t.resends }
    exec .bcastManifest s = .next (({ v with chair := { v.chair with transfers := [t'] } } : State).bcastForward p.hdr
      (p.data.take 4096) p.inCls)) ∧
  (∀ s p v pa has man, s.takeRx tyResend = some (p, v) → v.bcastHeld (fld p.hdr 171 156) = some (pa, has, man) →
    let b := fld p.hdr 155 131
    let send := fun ty bs => v.reply (pkSrc p.hdr) ty 0 0 (bcFields (fld p.hdr 171 156) b 0 0 v.ownId) bs
    (bitAt p.hdr 130 = false → has b = true → exec .resend s = .next (send tyBlock (v.bytes (pa + 4096 * b) 4096))) ∧
    (bitAt p.hdr 130 = false → has b = false → exec .resend s = .next v) ∧
    (bitAt p.hdr 130 = true → man.drop (4096 * b) ≠ [] →
      exec .resend s = .next (send tyManifest ((man.drop (4096 * b)).take 4096)))) ∧
  (∀ s p v, s.takeRx tyResend = some (p, v) → v.bcastHeld (fld p.hdr 171 156) = none → exec .resend s = .next v) ∧
  (∀ s (i : Fin 4) t, s.chair.transfers[i.val]? = some t →
    let due := (missing t).filter (fun x => decide ((if (nget (0, 0) t.resends x).1 = 0 then t.lastPacket
      else (nget (0, 0) t.resends x).2) + 10000000 ≤ s.timeNs))
    (chSource t.cmd ≠ 0 ∨ t.lastOrigin = none ∨ due = [] → exec (.resendTimeout i) s = .next s) ∧
    (chSource t.cmd = 0 → t.lastOrigin ≠ none → due.any (fun x => 4 ≤ (nget (0, 0) t.resends x).1) = true →
      exec (.resendTimeout i) s = .next (s.failTransfer t cChecksum)) ∧
    (∀ x, chSource t.cmd = 0 → t.lastOrigin ≠ none → due = [x] → (nget (0, 0) t.resends x).1 < 4 →
      ∀ t', s.transferAt t.pos = some t' → exec (.resendTimeout i) s = .next (s.sendResend t' x)))

/-- R543, R567, R569, R621: heartbeats leave for every module of the list and on every live link whose neighbour is known,
unless the module has no ID or is lost; one that is heard renews its sender; one that is missed for HB_TIMEOUT_MS is reported
once; NEIGHBOUR sets the link's neighbour objects and raises CABLING where it is not expected; LINK_DOWN routes again what the
neighbour had not accepted. What LINK_DOWN finds on a live link, and which heartbeats and silences are reported, are the model's
choice (logs 95 and 99). -/
def Obligations.NeighboursAreHeard : Prop :=
  (∀ s, s.ownId = noId ∨ s.modes.lost = true → exec .heartbeatSend s = .next s) ∧
  (∀ s, s.ownId ≠ noId → s.modes.lost = false →
    let f := at' s.timeNs 171 108
    let w := s.hbPeers.foldl (fun (v : State) p => v.reply p tyHeartbeat 0 0 f []) s
    exec .heartbeatSend s = .next (w.hbLinks.foldl (fun (v : State) n =>
      v.queueOn n ⟨mkFlits (mkHdr (v.obj (kLink n 6)) v.ownId tyHeartbeat 0 0 f 0) [], false, 0, 0, none, none⟩) w)) ∧
  (∀ s, s.takeRx tyHeartbeat = none → exec .heartbeat s = .next s) ∧
  (∀ s p v, s.takeRx tyHeartbeat = some (p, v) → ∃ u, exec .heartbeat s = .next u ∧ u = { v with fab := u.fab } ∧
    nget 0 u.fab.beats (pkSrc p.hdr) = v.timeNs ∧ (∀ m, m ≠ pkSrc p.hdr → nget 0 u.fab.beats m = nget 0 v.fab.beats m) ∧
    u.fab.silent = v.fab.silent.erase (pkSrc p.hdr) ∧ u.fab.links = v.fab.links) ∧
  (∀ s (m : BitVec 17), s.hbPeers.contains m.toNat = true → s.fab.silent.contains m.toNat = false → s.ownId ≠ noId →
    (nget 0 s.fab.beats m.toNat + s.obj (kDev 0x6000 9) * 1000000 ≤ s.timeNs → exec (.heartbeatTimeout m) s =
      .next (({ s with fab := { s.fab with silent := m.toNat :: s.fab.silent } } : State).event 0x4A 3 0xFF m.toNat 0)) ∧
    (s.timeNs < nget 0 s.fab.beats m.toNat + s.obj (kDev 0x6000 9) * 1000000 →
      exec (.heartbeatTimeout m) s = .next s)) ∧
  (∀ s (m : BitVec 17), s.fab.silent.contains m.toNat = true ∨ s.ownId = noId →
    exec (.heartbeatTimeout m) s = .next s) ∧
  (∀ s p v n b, s.takeRx tyNeighbour = some (p, v) → p.from_ = some (n, b) → n < 64 →
    let w := ((v.setObj (kLink n 6) (fld p.hdr 165 149)).setObj (kLink n 7) (fld p.hdr 171 166)).heard (fld p.hdr 165 149)
    (w.cablingOk n (fld p.hdr 165 149) = true → exec .neighbour s = .next w) ∧
    (w.cablingOk n (fld p.hdr 165 149) = false →
      exec .neighbour s = .next (w.event 0x49 2 0xFF n (fld p.hdr 165 149)))) ∧
  (∀ s, s.takeRx tyNeighbour = none → exec .neighbour s = .next s) ∧
  (∀ s, s.takeRx tyLinkDown = none → exec .linkDown s = .next s) ∧
  (∀ s p v, s.takeRx tyLinkDown = some (p, v) →
    let n := fld p.hdr 165 160
    (v.obj (kLink n 6) ≠ pkSrc p.hdr → exec .linkDown s = .next v) ∧
    (v.obj (kLink n 6) = pkSrc p.hdr →
      let w := if v.linkCarries n then v.linkDrop n else v
      ((w.link n).lost = true → exec .linkDown s = .next w) ∧
      ((w.link n).lost = false → exec .linkDown s = .next ((w.link n).lostPkts.foldl (fun y x =>
        if (x.1 + 4096 - fld p.hdr 159 148 - 1) % 4096 < 2048 then y.reroute { x.2 with from_ := none } else y)
        (w.modLink n (fun l => { l with lostPkts := [], lostAt := none }))))))

/-! ### Video -/

/-- R454, R575, R578, R593, R595: a video ring's LIMIT is raised by a doorbell that the endpoint serves, of the function that
owns its context; the head of the next ring that has a job ready is taken and placed on the lowest idle ACTIVE engine of its
class, waits while all are busy, and completes with DISABLED where none is ACTIVE; a job that restarts goes first, and ends with
ABORTED, or DESCRIPTOR where it is malformed, when none is ACTIVE. A job that has ended leaves its engine with its record: the
stream takes its new state and the frames are counted where it ended with OK, else the failure is. What a failing job's record
and tag hold, and the engine that a refused one names, are the model's choice (log 103). R576, R577, R579, R584, R594, R573,
R625, R627: a command of an engine runs the job on it when it is of its operation: it has ended then. OPEN_STREAM of a CLOSED
stream opens it with its unused buffers, CLOSE_STREAM closes and RESET_STREAM empties one of the job's ring, each writing no
memory before it completes; DECODE and ENCODE write what they come to, and nothing where their descriptor is malformed; in
containment mode what they read is verified and they write whole blocks alone. A malformed job ends with DESCRIPTOR. -/
def Obligations.VideoJobsStartRunAndComplete : Prop :=
  (∀ s (fn : HostFn) (i : Fin 16) (v : BitVec 32), s.gate fn.val false = .served →
    (s.ownsCtx fn.val (s.obj (kVr i.val 1)) = true → v.toNat ≤ 0x7FFFFFFF → s.obj (kVr i.val 5) ≤ v.toNat →
      ∃ u, exec (.videoRingLimit fn i v) s = .next u ∧ ObjWrite s u [(kVr i.val 5, v.toNat)]) ∧
    (s.ownsCtx fn.val (s.obj (kVr i.val 1)) = false ∨ 0x7FFFFFFF < v.toNat ∨ v.toNat < s.obj (kVr i.val 5) →
      exec (.videoRingLimit fn i v) s = .next (s.cnt16 (kDev 0x1050 6) 1))) ∧
  (∀ s cls, s.video.again.find? (fun j => s.jobClass j.desc = classNo cls) = none →
    (s.ringOrder.find? (s.ringReady (classNo cls)) = none → exec (.videoJobStart cls) s = .next s) ∧
    (∀ i d, s.ringOrder.find? (s.ringReady (classNo cls)) = some i → s.videoHead i = some (.ok d) →
      let n := s.obj (kVr i 6)
      let v := ({ s with video := { s.video with lastRing := i } } : State).setObj (kVr i 6) (n + 1)
      (s.activeEngines (classNo cls) = [] → exec (.videoJobStart cls) s =
        .next (v.videoRefuse (newJob i n (s.obj (kVr i 1)) d) ((classEngines (classNo cls)).headD 0)
          (cDisabled :: if s.jobBad (newJob i n (s.obj (kVr i 1)) d) then [cDescriptor] else []))) ∧
      (s.activeEngines (classNo cls) ≠ [] → s.idleEngine (classNo cls) = none → exec (.videoJobStart cls) s = .next s) ∧
      (∀ e, s.idleEngine (classNo cls) = some e → ∃ u, exec (.videoJobStart cls) s = .next u ∧ BytesStay s u ∧
        u.vjob e = some (newJob i n (s.obj (kVr i 1)) d) ∧ u.obj (kVr i 6) = n + 1 ∧ u.video.lastRing = i ∧
        (∀ k, k ≠ e → u.vjob k = s.vjob k) ∧ u.cores = s.cores))) ∧
  (∀ s cls j, s.video.again.find? (fun j => s.jobClass j.desc = classNo cls) = some j →
    (∀ e, s.idleEngine (classNo cls) = some e → ∃ u, exec (.videoJobStart cls) s = .next u ∧ BytesStay s u ∧
      u.vjob e = some j ∧ u.video.again = s.video.again.erase j ∧ u.video.lastRing = s.video.lastRing) ∧
    (s.activeEngines (classNo cls) ≠ [] → s.idleEngine (classNo cls) = none → exec (.videoJobStart cls) s = .next s) ∧
    (s.activeEngines (classNo cls) = [] →
      let v := { s with video := { s.video with again := s.video.again.erase j } }
      let r := v.videoTag (j.fail (if v.jobBad j then [cDescriptor, cAborted] else [cAborted]) (if v.jobBad j then 0 else 7))
      exec (.videoJobStart cls) s = .next (r.1.videoRecord r.2 ((classEngines (classNo cls)).headD 0)))) ∧
  (∀ s (e : Engine), (∀ j, s.vjob e.val = some j → j.ended = false) → exec (.videoJobComplete e) s = .next s) ∧
  (∀ s (e : Engine) j, s.vjob e.val = some j → j.ended = true → vTagEn j.desc = false →
    exec (.videoJobComplete e) s = .next (((s.finishJob e.val j).videoRecord j e.val).setVjob e.val none) ∧
    (∀ st, j.codes = [] → j.next = some st → ∃ u, exec (.videoJobComplete e) s = .next u ∧ u.vjob e.val = none ∧
      u.vstream (vStream j.desc) = st) ∧
    (j.codes ≠ [] → (s.finishJob e.val j).mem = s.mem ∧
      (s.finishJob e.val j).obj (kEng e.val 8) = satAdd16 (s.obj (kEng e.val 8)) 1)) ∧
  (∀ p ∈ streamJobs, ∀ s e j, JobRuns s e.val p.2.1 j → ∃ u, exec (p.1 e) s = .next u ∧ OnlyJob s u e.val ∧
    u.vjob e.val = some (p.2.2 s j) ∧ (p.2.2 s j).ended = true) ∧
  (∀ p ∈ pictureJobs, ∀ s e j, JobRuns s e.val p.2.1 j → ∃ u j', exec (p.1 e) s = .next u ∧
    u.vjob e.val = some j' ∧ j'.ended = true ∧ j'.codes = (p.2.2 s j).job.codes ∧ u.mem = (s.applyOut (p.2.2 s j)).mem ∧
    u.cores = s.cores ∧ (frameBad j (s.vstream (vStream j.desc)) = true → j'.codes = [cDescriptor] ∧ u.mem = s.mem)) ∧
  (∀ s (e : Engine) j chunk norm pool, JobRuns s e.val 0x10 j →
    let d := j.desc
    let st := s.vstream (vStream d)
    let acc := s.accOf j.ctx
    frameBad j st = false → s.readVa acc (dBs d) (dBsBytes d) = .ok chunk →
    (if dTensor d then s.readVa acc (dNorm d) 128 else .ok []) = .ok norm → (norm.drop 76).all (· = 0) = true →
    s.poolBytes acc st.openDesc = .ok pool →
    s.unverifiedVa acc ([(dBs d, dBsBytes d), (oPool st.openDesc, oNbuf st.openDesc * oBufBytes st.openDesc)] ++
      (if dTensor d then [(dNorm d, 128)] else [])) = none →
    let x : Dec := ⟨oCodec st.openDesc + 4 * b2n (dEnd d) + 8 * b2n (dGrain d), s.streamBytes j ++ pool ++ chunk⟩
    let frames := List.range (min x.frames (dMaxOut d))
    let tens := if dTensor d then frames.flatMap (x.tensor d norm) else []
    let writes := tens.map (·.1) ++ (if dRaw d then x.raws (dRawAddr d) frames else []) ++
      poolWrites x.src st.openDesc (st.freeBufs.take x.need)
    x.stop st d = none → s.writeCodes acc writes = [] → s.partCodes acc writes = [] →
    ∃ u j', exec (.decode e) s = .next u ∧ u.vjob e.val = some j' ∧ j'.ended = true ∧ j'.codes = j.codes ∧
      j'.frames = x.frames ∧ j'.bytes = dBsBytes d ∧ j'.samples = x.samples ∧ j'.next = some (x.stream st d) ∧
      j'.sat = min 0xFFFF ((tens.map (fun y => y.2)).sum) ∧
      u.mem = (writes.foldl (fun (s : State) w => s.tryWriteVa acc w.1 w.2) s).mem) ∧
  (∀ s (e : Engine) j norm pool smp, JobRuns s e.val 0x20 j →
    let d := j.desc
    let st := s.vstream (vStream d)
    let acc := s.accOf j.ctx
    frameBad j st = false → (if dTensor d then s.readVa acc (dNorm d) 128 else .ok []) = .ok norm →
    (norm.drop 76).all (· = 0) = true → s.poolBytes acc st.openDesc = .ok pool →
    s.sourceFrames j st.openDesc norm = .ok smp → dMaxOut d ≤ st.freeBufs.length →
    s.unverifiedVa acc ((oPool st.openDesc, oNbuf st.openDesc * oBufBytes st.openDesc) ::
      (if dTensor d then [(dNorm d, 128)] else [(dRawAddr d, rawSourceBytes d st.openDesc)])) = none →
    let hdr := toLE 112 (oSettings st.openDesc) ++ [BitVec.ofNat 8 (b2n (dGrain d))] ++ s.streamBytes j ++ st.refBytes pool
    let out := Config.encodedBytes (Config.encModel.toNat) hdr (smp.flatMap (fun p => toLE 2 p.1))
    let bufs := st.freeBufs.take (dMaxOut d)
    let writes := (dBs d, out.take (dBsBytes d)) :: poolWrites (hdr ++ out) st.openDesc bufs
    out.length ≤ dBsBytes d → s.writeCodes acc writes = [] → s.partCodes acc writes = [] →
    ∃ u j', exec (.encode e) s = .next u ∧ u.vjob e.val = some j' ∧ j'.ended = true ∧ j'.codes = j.codes ∧
      j'.frames = dMaxOut d ∧ j'.bytes = out.length ∧ j'.samples = dMaxOut d * oW st.openDesc * oH st.openDesc ∧
      j'.next = some (st.afterFrames d bufs) ∧ j'.sat = min 0xFFFF ((smp.map (fun y => y.2)).sum) ∧
      u.mem = (writes.foldl (fun (s : State) w => s.tryWriteVa acc w.1 w.2) s).mem) ∧
  (∀ p ∈ streamJobs.map (fun p => (p.1, p.2.1)) ++ pictureJobs.map (fun p => (p.1, p.2.1)), ∀ s e,
    s.vjob e.val = none ∨ 1 < s.engState e.val ∨ (∃ j, s.vjob e.val = some j ∧ j.ended = true) →
    exec (p.1 e) s = .next s) ∧
  (∀ (s : State) (j : VJob), headerBad j = false → openBad j.desc = false → (s.vstream (vStream j.desc)).st = 0 →
    (s.openJob j).codes = j.codes ∧
    (s.openJob j).next = some ⟨1, j.desc, j.ring, List.replicate (oNbuf j.desc) (0, false), [], 0⟩) ∧
  (∀ (s : State) (j : VJob), headerBad j = false → fld j.desc 895 0 = 0 → (s.vstream (vStream j.desc)).st ≠ 0 →
    (s.vstream (vStream j.desc)).ring = j.ring → (s.closeJob j).next = some VStream.closed ∧
    ∃ st, (s.resetJob j).next = some st ∧ st.st = 1 ∧ st.coded = 0 ∧ st.kept = [] ∧
      st.openDesc = (s.vstream (vStream j.desc)).openDesc ∧ st.bufs.all (fun b => b = (0, false)) = true) ∧
  (∀ (s : State) (j : VJob), headerBad j = true → (s.openJob j).codes = [cDescriptor] ∧ (s.closeJob j).codes = [cDescriptor] ∧
    (s.resetJob j).codes = [cDescriptor])

/-- R594 to R596, R614: an engine whose job meets a fault is FAILED, and its job restarts on another ACTIVE engine, once; else
it ends with ABORTED and detail 7, or with DESCRIPTOR where its descriptor is malformed (R14). ENABLE, FORCE, RESET and the end
of a drain or of a test move an engine between ACTIVE, DRAINING, DISABLED, TESTING and FAILED, and are refused in the other
states. That ENABLE 1 is refused in TESTING and FAILED is the model's choice (log 103). -/
def Obligations.VideoEnginesDrainAndRecover : Prop :=
  (∀ s (e : Engine) j, s.vjob e.val = some j → j.ended = false → s.engState e.val ≤ 1 →
    let cls := engClass e.val
    let v := (s.setObj (kEng e.val 2) 4).event 0x50 2 j.ctx (cls * 8 + e.val % 8) (vJobId j.desc)
    (j.faults = 0 → v.activeEngines cls ≠ [] → ∃ u, exec (.videoEngineFault e) s = .next u ∧ BytesStay s u ∧
      u.engState e.val = 4 ∧ u.vjob e.val = none ∧ u.video.again = s.video.again ++ [{ j with faults := 1 }]) ∧
    (1 ≤ j.faults ∨ v.activeEngines cls = [] → ∃ u j', exec (.videoEngineFault e) s = .next u ∧ u.engState e.val = 4 ∧
      u.vjob e.val = some j' ∧ j'.ended = true ∧ j'.next = none ∧
      (v.jobBad j = false → j'.codes = [cAborted] ∧ j'.detail = 7) ∧ (v.jobBad j = true → firstCode j'.codes = cDescriptor))) ∧
  (∀ s (e : Engine), s.vjob e.val = none ∨ 1 < s.engState e.val → exec (.videoEngineFault e) s = .next s) ∧
  (∀ s (e : Engine), s.engState e.val ≠ 3 → s.engState e.val ≠ 4 → ∃ u, exec (.videoEngineEnable e true) s = .next u ∧
    ObjWrite s u [(kEng e.val 1, 1), (kEng e.val 2, 0)]) ∧
  (∀ s (e : Engine), s.engState e.val = 3 ∨ s.engState e.val = 4 → TurnedAway s (.videoEngineEnable e true) stState) ∧
  (∀ s (e : Engine), ∃ u, exec (.videoEngineEnable e false) s = .next u ∧
    ObjWrite s u [(kEng e.val 1, 0), (kEng e.val 2, if s.engState e.val = 0 then 1 else s.engState e.val)]) ∧
  (∀ s (e : Engine), exec (.videoEngineForce e false) s = .next s ∧ exec (.videoEngineReset e false) s = .next s) ∧
  (∀ s (e : Engine), s.engState e.val = 1 →
    (∀ j, s.vjob e.val = some j → ∃ u, exec (.videoEngineForce e true) s = .next u ∧ u.engState e.val = 1 ∧
      u.vjob e.val = some (j.fail (if s.jobBad j then [cDescriptor, cAborted] else [cAborted]) 0)) ∧
    (s.vjob e.val = none → exec (.videoEngineForce e true) s = .next s ∧ ∃ u, exec (.drainEnd (.engine e)) s = .next u ∧
      ObjWrite s u [(kEng e.val 2, 2)])) ∧
  (∀ s (e : Engine), s.engState e.val ≠ 1 → TurnedAway s (.videoEngineForce e true) stState) ∧
  (∀ s (e : Engine), s.engState e.val = 2 ∨ s.engState e.val = 4 → ∃ u, exec (.videoEngineReset e true) s = .next u ∧
    ObjWrite s u [(kEng e.val 2, 3)]) ∧
  (∀ s (e : Engine), s.engState e.val ≠ 2 → s.engState e.val ≠ 4 → TurnedAway s (.videoEngineReset e true) stState) ∧
  (∀ s (e : Engine) pass, s.engState e.val = 3 → ∃ u, exec (.videoEngineTestDone e pass) s = .next u ∧
    ObjWrite s u [(kEng e.val 2, if pass then 2 else 4)]) ∧
  (∀ s (e : Engine) pass, s.engState e.val ≠ 3 → exec (.videoEngineTestDone e pass) s = .next s)

/-! ### Clusters, cores and memory -/

/-- R608 to R614, R621, R625, R627: what takes a cluster from one state to another: ENABLE, FORCE, QUIESCE, RELEASE, RESET,
POWER and the end of a self-test in the states that allow them, each refused in the others; QUIESCED has no task on a core but
one whose commit has begun; a reset and a power-down clear its scratch, its leases and its cores; a control fault quiesces it
and pre-empts every RUNNING context, and a lockstep mismatch in containment mode is one, or loses the module. What a fence
leaves of a committed task, the causes of a FORCE and of a mismatch, and a fault of a cluster that serves nothing already are
the model's choice (logs 52, 85 and 155). -/
def Obligations.ClustersChangeState : Prop :=
  (∀ s (cl : Fin 12), exec (.clusterForce cl false) s = .next s ∧ exec (.quiesce cl false) s = .next s ∧
    exec (.release cl false) s = .next s ∧ exec (.clusterReset cl false) s = .next s) ∧
  (∀ s (cl : Fin 12) v, 4 ≤ s.clState cl.val → TurnedAway s (.clusterEnable cl v) stState) ∧
  (∀ s (cl : Fin 12), s.clState cl.val < 4 → ∃ u, exec (.clusterEnable cl true) s = .next u ∧
    ObjWrite s u [(kCl cl.val 0xB0 1, 1), (kCl cl.val 0xB0 2, 0)]) ∧
  (∀ s (cl : Fin 12), s.clState cl.val = 0 → ∃ u, exec (.clusterEnable cl false) s = .next u ∧
    u = { s with objs := u.objs } ∧ u.obj (kCl cl.val 0xB0 1) = 0 ∧
    (u.clState cl.val = 1 ∨ u.clState cl.val = 2)) ∧
  (∀ s (cl : Fin 12), s.clState cl.val = 1 → ∃ u, exec (.clusterForce cl true) s = .next u ∧ u.clState cl.val = 2 ∧
    BytesStay s u ∧ ∀ k < 8, u.siteState cl.val k = 0 ∨ u.siteState cl.val k = 3) ∧
  (∀ s (cl : Fin 12), s.clState cl.val ≠ 1 → TurnedAway s (.clusterForce cl true) stState) ∧
  (∀ s (cl : Fin 12), s.clState cl.val ≤ 2 → ∃ u, exec (.quiesce cl true) s = .next u ∧ u.clState cl.val = 3 ∧
    BytesStay s u ∧ (∀ k < 8, ∀ t, (u.core cl.val k).task = some t → t.committed = true ∧ t.commitMoves = [] ∧ t.moves = []) ∧
    (∀ l ∈ u.leases cl.val, l.valid = true → l.state ≠ .running)) ∧
  (∀ s (cl : Fin 12), 2 < s.clState cl.val → TurnedAway s (.quiesce cl true) stState) ∧
  (∀ s (cl : Fin 12), s.clState cl.val = 3 → ∃ u, exec (.release cl true) s = .next u ∧ u.leases cl.val = [] ∧
    u.clState cl.val = 3 ∧
    ∀ q < 16, (u.queue cl.val q).reissue = [] ∧ (u.queue cl.val q).saved = []) ∧
  (∀ s (cl : Fin 12), s.clState cl.val ≠ 3 → TurnedAway s (.release cl true) stState) ∧
  (∀ s (cl : Fin 12), s.clState cl.val = 3 → s.anyCtxActive = false →
    (∃ u, exec (.clusterReset cl true) s = .next u ∧ u.clState cl.val = 4 ∧ u.leases cl.val = [] ∧
      (∀ off < 0x4000000, u.byte (scratchPa cl.val off) = 0) ∧ (∀ k < 8, u.core cl.val k = CoreSt.empty)) ∧
    (∃ u, exec (.clusterPower cl false) s = .next u ∧ u.clState cl.val = 5 ∧ u.obj (kCl cl.val 0xB0 7) = 0 ∧
      u.leases cl.val = [] ∧ (∀ off < 0x4000000, u.byte (scratchPa cl.val off) = 0) ∧
      (∀ k < 8, u.core cl.val k = CoreSt.empty))) ∧
  (∀ s (cl : Fin 12), s.clState cl.val ≠ 3 ∨ s.anyCtxActive = true →
    TurnedAway s (.clusterReset cl true) stState ∧ TurnedAway s (.clusterPower cl false) stState) ∧
  (∀ s (cl : Fin 12), s.clState cl.val = 5 → ∃ u, exec (.clusterPower cl true) s = .next u ∧
    ObjWrite s u [(kCl cl.val 0xB0 7, 1), (kCl cl.val 0xB0 2, 4)]) ∧
  (∀ s (cl : Fin 12), s.clState cl.val ≠ 5 → exec (.clusterPower cl true) s = .next s) ∧
  (∀ s (cl : Fin 12) pass, s.clState cl.val = 4 → ∃ u, exec (.clusterResetDone cl pass) s = .next u ∧
    ObjWrite s u [(kCl cl.val 0xB0 2, if pass then 2 else 6)]) ∧
  (∀ s (cl : Fin 12) pass, s.clState cl.val ≠ 4 → exec (.clusterResetDone cl pass) s = .next s) ∧
  (∀ s (cl : Fin 12) cause, ∃ u, exec (.clusterControlFault cl cause) s = .next u ∧
    u.clState cl.val = (if s.clState cl.val ≤ 2 then 3 else s.clState cl.val) ∧ ∀ c < 64, u.ctxState c = (if s.ctxState c = 1 then 2 else s.ctxState c) ∧
      (u.ctxState c = 2 → (u.ctx c).tagsLost = true)) ∧
  (∀ s unit, s.containment = false → exec (.lockstepMismatch unit) s = .next s) ∧
  (∀ s (cl : Fin 12), s.containment = true → ∃ u v, exec (.lockstepMismatch (some cl)) s = .next u ∧
    exec (.clusterControlFault cl (BitVec.ofNat 32 (Config.freeNat s.free))) s = .next v ∧ u = v.tick ∧
    u.clState cl.val = (if s.clState cl.val ≤ 2 then 3 else s.clState cl.val)) ∧
  (∀ s, s.containment = true → exec (.lockstepMismatch none) s = .next { s with modes := { s.modes with lost := true } })

/-- R5, R440, R602: UNFENCE starts the tests of a fenced core, which reads IDLE with FENCE_CAUSE 0 when they pass and stays
FENCED with cause 7 when they fail, every other core's cause staying; FENCE with 0 does nothing and a disabled core's is
refused; CACHE_MIB takes 0, 8, 16, 24 or 32 MiB while no task is on the cluster. -/
def Obligations.CoresAreUnfencedAndCachesSized : Prop :=
  (∀ s core, exec (.fence core false) s = .next s ∧ exec (.unfence core false) s = .next s ∧
    (s.siteState core.c core.s = 0 → TurnedAway s (.fence core true) stState)) ∧
  (∀ s core, (s.siteState core.c core.s = 3 → ∃ u, exec (.unfence core true) s = .next u ∧
      CoreOnly s u core { s.core core.c core.s with testing := true }) ∧
    (s.siteState core.c core.s ≠ 3 → TurnedAway s (.unfence core true) stState)) ∧
  (∀ s core, s.siteState core.c core.s = 3 → (s.core core.c core.s).testing = true → (s.core core.c core.s).task = none →
    (∃ u, exec (.unfenceTestDone core true) s = .next u ∧ BytesStay s u ∧ u.siteState core.c core.s = 1 ∧
      u.obj (kCore core.c core.s 3 3) = 0 ∧ u.obj (kCore core.c core.s 0 2) ≠ 0xFF ∧ (after u core).testing = false) ∧
    (∃ u, exec (.unfenceTestDone core false) s = .next u ∧ u = { s with cores := u.cores, objs := u.objs } ∧
      ObjsAre s u [(kCore core.c core.s 3 3, 7)] ∧ (after u core).testing = false)) ∧
  (∀ s core pass, s.siteState core.c core.s ≠ 3 ∨ (s.core core.c core.s).testing = false ∨
    (s.core core.c core.s).task.isSome = true → exec (.unfenceTestDone core pass) s = .next s) ∧
  (∀ s (cl : Fin 12) (v : BitVec 8), ([0, 8, 16, 24, 32] : List Nat).contains v.toNat = true →
    ((∀ k < 8, (s.core cl.val k).task = none) → ∃ u, exec (.cacheMib cl v) s = .next u ∧
      ObjWrite s u [(kCl cl.val 0x90 1, v.toNat)]) ∧
    ((∃ k < 8, (s.core cl.val k).task ≠ none) → TurnedAway s (.cacheMib cl v) stState)) ∧
  (∀ s (cl : Fin 12) (v : BitVec 8), ([0, 8, 16, 24, 32] : List Nat).contains v.toNat = false →
    TurnedAway s (.cacheMib cl v) stRange)

/-- R435 to R439, R605: RETIRE_PA retires a data block with a POISONED entry into a spare block, and is refused elsewhere; the
Groomer counts a corrected error against its block, retires the block when its errors reach CE_THRESHOLD (R438), and poisons and
retires one with an uncorrectable error. A unit whose last spare is taken, or that has none left (R439), reads DEGRADED, and
other blocks stay. A pass ends at the last word of a unit. The region code and the address in event 0x2A, and where a pass ends,
are the model's choice (log 86). R426, R435, R436, R443, R450, R535, R570, R599: what happens below the commands, while the main
domain has its clocks: a read that meets an error counts and acts as the Groomer's does, and an uncorrectable one of a data
block ends the task that reads it with CHECKSUM; one of a cluster's scratch is counted, ends the task that reads it, or is a
control fault of the control region; corrected errors of a core, demoted requests, reads of a cache and what FEC meets are
counted. That these come one at each idle period is the model's choice (log 154), as is the cause of that control fault (log
85). -/
def Obligations.BlocksAreScrubbedAndRetired : Prop :=
  (∀ s (v : BitVec 64), inData v.toNat = false → TurnedAway s (.retirePa v) stRange) ∧
  (∀ s (v : BitVec 64), inData v.toNat = true → exec (.retirePa v) s =
    .next (s.retire (unitOf v.toNat) (localBlock v.toNat) true)) ∧
  (∀ s (v : BitVec 64), inData v.toNat = true →
    let i := unitIdx (unitOf v.toNat)
    let b := blockOf (unitOf v.toNat) (localBlock v.toNat)
    ∃ u, exec (.retirePa v) s = .next u ∧ sideState (u.sideOf b) = 2 ∧ (∀ k, k ≠ b → u.sideOf k = s.sideOf k) ∧
      BytesOutside s u (b * 4096) 4096 ∧ u.cores = s.cores ∧
      u.obj (kDev i 8) = s.obj (kDev i 8) - 1 ∧
      u.obj (kDev i 7) = (if s.obj (kDev i 8) = 0 then s.obj (kDev i 7) else satAdd16 (s.obj (kDev i 7)) 1) ∧
      (s.obj (kDev i 8) ≤ 1 → u.obj (kDev i 1) = 2) ∧ (s.obj (kDev i 8) = 0 → BytesStay s u ∧ u.mctl = s.mctl)) ∧
  (∀ (s : State) unit q, unit < 24 → q < 2 ^ 32 → s.obj (kDev (unitIdx unit) 8) ≠ 0 →
    let u := s.retire unit q true
    sideState (u.sideOf (blockOf unit q)) = 2 ∧ (∀ i < 4096, u.byte (blockOf unit q * 4096 + i) = 0) ∧
    BytesOutside s u (blockOf unit q * 4096) 4096 ∧ (∀ b, b ≠ blockOf unit q → u.sideOf b = s.sideOf b) ∧
    u.obj (kDev (unitIdx unit) 8) = s.obj (kDev (unitIdx unit) 8) - 1 ∧
    u.obj (kDev (unitIdx unit) 7) = satAdd16 (s.obj (kDev (unitIdx unit) 7)) 1 ∧
    (s.obj (kDev (unitIdx unit) 8) = 1 → u.obj (kDev (unitIdx unit) 1) = 2)) ∧
  (∀ s (unit : MemUnit) (word : BitVec 40), word.toNat + 1 < unitWords unit.val →
    ¬(16 ≤ unit.val ∧ Config.lpddrPresent ≤ unit.val - 16) →
    exec (.groomerScrub unit word .clean) s = .next s ∧
    (∀ q, placeOf unit.val (word.toNat * 64) = .data q →
      let v := s.cnt16 (kDev (unitIdx unit.val) 5) 1
      (nget 0 s.mctl.ceCount (retKey unit.val q) + 1 < s.obj (kDev 0x7300 3) →
        ∃ u, exec (.groomerScrub unit word .corrected) s = .next u ∧ u = { v with mctl := u.mctl } ∧
          nget 0 u.mctl.ceCount (retKey unit.val q) = nget 0 s.mctl.ceCount (retKey unit.val q) + 1 ∧
          u.mctl.retired = s.mctl.retired) ∧
      (s.obj (kDev 0x7300 3) ≤ nget 0 s.mctl.ceCount (retKey unit.val q) + 1 → ∃ u, exec (.groomerScrub unit word .corrected) s = .next u ∧
        BytesStay s u ∧ u.side = s.side ∧
        (s.obj (kDev (unitIdx unit.val) 8) ≠ 0 → u.obj (kDev (unitIdx unit.val) 8) = s.obj (kDev (unitIdx unit.val) 8) - 1 ∧
          nget 29696 u.mctl.retired (retKey unit.val q) = spares unit.val - s.obj (kDev (unitIdx unit.val) 8) ∧
          nget 0 u.mctl.ceCount (retKey unit.val q) = 0) ∧
        (s.obj (kDev (unitIdx unit.val) 8) ≤ 1 → u.obj (kDev (unitIdx unit.val) 1) = 2) ∧
        (s.obj (kDev (unitIdx unit.val) 8) = 0 → u.mctl.retired = s.mctl.retired)) ∧
      exec (.groomerScrub unit word .uncorrectable) s =
        .next (((s.cnt16 (kDev (unitIdx unit.val) 6) 1).event 0x2A 2 0xFF (blockOf unit.val q * 4096) 0).retire unit.val q true))) ∧
  (∀ s (unit : MemUnit) (word : BitVec 40) k q, word.toNat + 1 < unitWords unit.val →
    ¬(16 ≤ unit.val ∧ Config.lpddrPresent ≤ unit.val - 16) → placeOf unit.val (word.toNat * 64) = .spare k →
    s.servedBy unit.val k = some q → nget 0 s.mctl.ceCount (retKey unit.val q) + 1 < s.obj (kDev 0x7300 3) →
    ∃ u, exec (.groomerScrub unit word .corrected) s = .next u ∧
      u = { s.cnt16 (kDev (unitIdx unit.val) 5) 1 with mctl := u.mctl } ∧
      nget 0 u.mctl.ceCount (retKey unit.val q) = nget 0 s.mctl.ceCount (retKey unit.val q) + 1) ∧
  (∀ s (unit : MemUnit) (word : BitVec 40) e, wordExists unit.val word.toNat = true → ∃ u, exec (.groomerScrub unit word e) s = .next u ∧
    u.cores = s.cores ∧
    u.obj (kDev (unitIdx unit.val) 5) = (if e = .corrected then satAdd16 (s.obj (kDev (unitIdx unit.val) 5)) 1
      else s.obj (kDev (unitIdx unit.val) 5)) ∧
    u.obj (kDev (unitIdx unit.val) 6) = (if e = .uncorrectable then satAdd16 (s.obj (kDev (unitIdx unit.val) 6)) 1
      else s.obj (kDev (unitIdx unit.val) 6))) ∧
  (∀ s (unit : MemUnit) (word : BitVec 40), wordExists unit.val word.toNat = true → word.toNat + 1 = unitWords unit.val →
    ∃ u, exec (.groomerScrub unit word .clean) s = .next u ∧ u = { s with objs := u.objs, mctl := u.mctl } ∧
      (∀ q < 2 ^ 32, nget 0 u.mctl.ceCount (retKey unit.val q) = 0) ∧ u.mctl.retired = s.mctl.retired ∧
      ObjsAre s u (if unit.val = 15 then [(kDev 0x7300 4, wrapAdd48 (s.obj (kDev 0x7300 4)) 1), (kDev 0x7300 5, s.timeNs)] else [])) ∧
  (∀ s (unit : MemUnit) (word : BitVec 40) e, unitWords unit.val ≤ word.toNat ∨
    (16 ≤ unit.val ∧ Config.lpddrPresent ≤ unit.val - 16) →
    exec (.groomerScrub unit word e) s = .next s) ∧
  (∀ s (unit : MemUnit) (word : BitVec 40) r, 2 ≤ s.moduleState → word.toNat + 1 ≠ unitWords unit.val →
    exec (.groomerScrub unit word .corrected) s = .next (s.happen (.memoryError unit word false r)) ∧
    exec (.groomerScrub unit word .uncorrectable) s = .next (s.happen (.memoryError unit word true none))) ∧
  (∀ (s : State) (unit : MemUnit) (word : BitVec 40) (c : CoreId) q t, 2 ≤ s.moduleState → wordExists unit.val word.toNat = true →
    placeOf unit.val (word.toNat * 64) = .data q → (s.core c.c c.s).task = some t →
    ((s.happen (.memoryError unit word true (some c))).core c.c c.s).task =
      some { t with codes := t.codes ++ [cChecksum], ended := true }) ∧
  (∀ s (cl : Fin 12) (off : BitVec 26) r, 2 ≤ s.moduleState →
    ObjWrite s (s.happen (.scratchError cl off false r)) [(kCl cl.val 0x90 5, satAdd16 (s.obj (kCl cl.val 0x90 5)) 1)] ∧
    (s.scratchSize cl.val ≤ off.toNat →
      ObjWrite s (s.happen (.scratchError cl off true r)) [(kCl cl.val 0x90 6, satAdd16 (s.obj (kCl cl.val 0x90 6)) 1)]) ∧
    (off.toNat < s.scratchSize cl.val → inControl off.toNat = false → let u := s.happen (.scratchError cl off true r)
      BytesStay s u ∧ ObjsAre s u [(kCl cl.val 0x90 6, satAdd16 (s.obj (kCl cl.val 0x90 6)) 1)] ∧
      ∀ c t, r = some c → (s.core c.c c.s).task = some t →
        (u.core c.c c.s).task = some { t with codes := t.codes ++ [cChecksum], ended := true }) ∧
    (off.toNat < s.scratchSize cl.val → inControl off.toNat = true →
      ∃ v, exec (.clusterControlFault cl (BitVec.ofNat 32 (Config.freeNat s.free)))
        (s.cnt16 (kCl cl.val 0x90 6) 1) = .next v ∧ s.happen (.scratchError cl off true r) = v.tick)) ∧
  (∀ s (c : CoreId), 2 ≤ s.moduleState → s.siteState c.c c.s ≠ 0 → ObjWrite s (s.happen (.coreCorrected c))
    [(kCore c.c c.s 3 4, satAdd16 (s.obj (kCore c.c c.s 3 4)) 1)]) ∧
  (∀ s (unit : MemUnit), 2 ≤ s.moduleState → wordExists unit.val 0 = true → ObjWrite s (s.happen (.demoted unit))
    [(kDev (unitIdx unit.val) 4, wrapAdd48 (s.obj (kDev (unitIdx unit.val) 4)) 1)]) ∧
  (∀ s (cl : Fin 12) (hit : Bool), 2 ≤ s.moduleState → let k := kCl cl.val 0x90 (if hit then 2 else 3)
    ObjWrite s (s.happen (.cacheRead cl hit)) [(k, wrapAdd48 (s.obj k) 1)]) ∧
  (∀ s (n : Fin 64) c w, 2 ≤ s.moduleState → s.linkState n.val ≠ 0 → ObjWrite s (s.happen (.fec n c w))
    [(kLink n.val 8, wrapAdd48 (s.obj (kLink n.val 8)) c), (kLink n.val 9, satAdd16 (s.obj (kLink n.val 9)) w)])

/-! ### Power -/

/-- R429, R634, R635, R651, R652, R656 to R664, R680: standby power brings up the standby domain with the straps that were
sampled and the image that they prefer, where its check succeeds; its loss keeps what MRAM and flash hold and nothing of the
main domain. From STANDBY the rails ramp once the host asks, a missed rail ends the ramp, START_GATE starts self-test, and its
results make READY, with the enabled cores IDLE, or Lodge, which ACCEPT_REDUCED and RETEST leave; a unit, engine or link that
failed is marked in both. POWER_CTRL and TIME_NS are refused while a context runs. The model's choices: an image passes its
check where the power-up's operand and the held bytes both do, an image of manufacture being valid (log 107); the input counts
as low from standby power-up on, and POWER_UP needs all that is listed (log 108); a fault of rail 3 or above makes Lodge and
blocks ACCEPT_REDUCED, RETEST goes to POWERING, and RESULT 2 needs a bad link or engine (log 109). -/
def Obligations.PowerUpLeadsToReady : Prop :=
  (∀ s, ∃ u, exec .standbyPowerLoss s = .next u ∧ u.mem = [] ∧ u.side = [] ∧ u.cores = [] ∧ u.moduleState = 0 ∧
    u.patrol.on = false ∧ u.patrol.log = s.patrol.log ∧ u.patrol.opKey = s.patrol.opKey ∧ u.patrol.svcKey = s.patrol.svcKey ∧
    u.patrol.imgA = s.patrol.imgA ∧ u.patrol.imgB = s.patrol.imgB ∧ u.power.snapBody = s.power.snapBody ∧
    u.mctl.retired = s.mctl.retired ∧ u.power.inputLow = true) ∧
  (∀ s (straps : BitVec 20) a b, let v := straps.toNat
    let goodA := a && s.standbyLoss.imageGood 0
    let goodB := b && s.standbyLoss.imageGood 1
    ∃ u, exec (.standbyPowerUp straps a b) s = .next u ∧ u.power.inputLow = true ∧ u.timeNs = 0 ∧ u.mem = [] ∧ u.cores = [] ∧ u.moduleState = 0 ∧
      u.patrol.on = true ∧ u.obj (kDev 0x1020 1) = fld v 19 14 ∧ u.obj (kDev 0x1020 2) = fld v 13 9 ∧
      u.obj (kDev 0x1020 3) = fld v 8 7 ∧ u.obj (kDev 0x1020 4) = fld v 6 6 ∧ u.obj (kDev 0x1020 5) = fld v 5 5 ∧
      u.obj (kDev 0x1020 6) = fld v 4 4 ∧ u.obj (kDev 0x1020 7) = fld v 3 2 ∧ u.obj (kDev 0x1020 8) = fld v 1 0 ∧
      u.obj (kDev 0x3010 1) = (sagPreset (fld v 3 2)).1 ∧ u.obj (kDev 0x3011 1) = (sagPreset (fld v 3 2)).2 ∧
      (fld v 8 7 = 2 → u.obj (kDev 0x1030 1) = 2) ∧
      (fld v 8 7 = 0 ∨ fld v 8 7 = 3 → (goodA = true → u.obj (kDev 0x1030 1) = 0) ∧
        (goodA = false → goodB = true → u.obj (kDev 0x1030 1) = 1)) ∧
      (fld v 8 7 = 1 → (goodB = true → u.obj (kDev 0x1030 1) = 1) ∧
        (goodB = false → goodA = true → u.obj (kDev 0x1030 1) = 0)) ∧
      (goodA = false → goodB = false → u.obj (kDev 0x1030 1) = 2)) ∧
  (∀ s, s.moduleState = 0 → s.patrol.on = true → s.obj (kDev 0x3001 2) = 1 → s.power.inputLow = false →
    s.power.tripped = false → s.obj (kDev 0x1030 1) ≠ 2 → s.patrol.restarting = false → ∃ u, exec .powerUp s = .next u ∧ u.moduleState = 1 ∧ u.mem = [] ∧
      u.side = [] ∧ u.cores = [] ∧ u.patrol.log = s.patrol.log) ∧
  (∀ s, s.moduleState ≠ 0 ∨ s.patrol.on = false ∨ s.obj (kDev 0x3001 2) ≠ 1 ∨ s.power.inputLow = true ∨
    s.power.tripped = true ∨ s.obj (kDev 0x1030 1) = 2 ∨ s.patrol.restarting = true → exec .powerUp s = .next s) ∧
  (∀ s (r : Fin 8), (s.moduleState ≠ 1 ∨ r.val = 0 → exec (.railFault r) s = .next s) ∧
    (s.moduleState = 1 → r.val ≠ 0 → ∃ u, exec (.railFault r) s = .next u ∧
      u.moduleState = (if r.val ≤ 2 then 0 else 5))) ∧
  (∀ s, (s.moduleState = 1 → ∃ u, exec .startGate s = .next u ∧ ObjWrite s u [(kDev 0x3001 1, 2), (kDev 0x1050 1, 1)]) ∧
    (s.moduleState ≠ 1 → exec .startGate s = .next s)) ∧
  (∀ s r, s.moduleState ≠ 2 → exec (.selftestDone r) s = .next s) ∧
  (∀ s r, s.moduleState = 2 → ∃ u, exec (.selftestDone r) s = .next u ∧ u.power.badLinks =
      (List.range 64).filter (fun n => nth 0 r.links n = 0) ∧
    (∀ m < 24, stMem r m = 2 → u.obj (kDev (unitIdx m) 1) = 3) ∧
    ∀ e < 12, nth false r.engines e = false → u.obj (kEng e 2) = 4) ∧
  (∀ s r, s.moduleState = 2 →
    ((List.range 12).all (fun cl => stCluster r cl % 256 = 0) = true → stOther r = false →
      ∃ u, exec (.selftestDone r) s = .next u ∧ u.moduleState = 3 ∧ u.mem = [] ∧ u.side = [] ∧
        u.obj (kDev 0x4100 1) ∈ [1, 2] ∧ ∀ cl < 12, ∀ k < 8, bitAt (fuses cl) k = true → u.siteState cl k = 1) ∧
    ((List.range 12).any (fun cl => stCluster r cl % 256 ≠ 0) = true ∨ stOther r = true →
      ∃ u, exec (.selftestDone r) s = .next u ∧ u.moduleState = 5 ∧ u.mem = [] ∧ u.side = [] ∧ u.obj (kDev 0x4100 1) = 3 ∧
        u.power.otherFail = stOther r)) ∧
  (∀ s, exec (.acceptReduced false) s = .next s ∧ exec (.retest false) s = .next s) ∧
  (∀ s, s.moduleState = 5 → s.power.otherFail = false →
    (List.range 12).all (fun cl => s.obj (kDev 0x4101 (cl + 1)) % 256 ≠ fuses cl) = true →
    ∃ u, exec (.acceptReduced true) s = .next u ∧ u.moduleState = 3 ∧ u.obj (kDev 0x4100 3) = 1 ∧ BytesStay s u ∧
      ∀ cl < 12, ∀ k < 8, bitAt (fuses cl) k = true →
        u.siteState cl k = (if bitAt (s.obj (kDev 0x4101 (cl + 1))) k then 3 else 1)) ∧
  (∀ s, s.moduleState ≠ 5 ∨ s.power.otherFail = true ∨
    (List.range 12).any (fun cl => s.obj (kDev 0x4101 (cl + 1)) % 256 = fuses cl) = true →
    TurnedAway s (.acceptReduced true) stState) ∧
  (∀ s, (s.moduleState = 5 → ∃ u, exec (.retest true) s = .next u ∧ u.moduleState = 1 ∧ u.mem = [] ∧ u.cores = []) ∧
    (s.moduleState ≠ 5 → TurnedAway s (.retest true) stState)) ∧
  (∀ s, (s.power.tripped = false → ∃ u, exec (.powerCtrl true) s = .next u ∧ ObjWrite s u [(kDev 0x3001 2, 1)]) ∧
    (s.power.tripped = true → (List.range 50).any (fun i => s.throttleAt i - 1000 < s.temp i) = true →
      TurnedAway s (.powerCtrl true) stState) ∧
    (s.power.tripped = true → (List.range 50).all (fun i => s.temp i ≤ s.throttleAt i - 1000) = true →
      ∃ u, exec (.powerCtrl true) s = .next u ∧ u.power.tripped = false ∧ ObjsAre s u [(kDev 0x3001 2, 1)]) ∧
    (s.anyCtxActive = true → TurnedAway s (.powerCtrl false) stState) ∧
    (s.anyCtxActive = false → ∃ u, exec (.powerCtrl false) s = .next u ∧ u.moduleState = 0 ∧ u.obj (kDev 0x3001 2) = 0 ∧
      u.mem = [])) ∧
  (∀ s (v : BitVec 64), (s.anyCtxActive = false → exec (.timeNs v) s = .next { s with timeNs := v.toNat }) ∧
    (s.anyCtxActive = true → TurnedAway s (.timeNs v) stState))

/-- R638 to R641, R665, R692: above the limit the governor lowers its cap by 100 MHz, ten loops 100 W below it raise it by 100
MHz, and the core clock is the smaller cap; the clamp takes clock and caps to 800 MHz; a sensor above its limit lowers the
thermal cap, ten loops with every sensor 5 °C below raise it. While Patrol restarts, or has no power, the caps hold. That a cap
rises once per ten loops, counted anew, and holds in a restart is the model's reading (log 110). -/
def Obligations.CapsFollowPowerAndTemperature : Prop :=
  (∀ s (w : BitVec 16) tj th, s.patrol.restarting = true ∨ s.patrol.on = false →
    exec (.governorLoop w) s = .next s ∧ exec (.thermalLoop tj th) s = .next s) ∧
  (∀ s (w : BitVec 16), s.patrol.restarting = false → s.patrol.on = true →
    let lim := s.obj (kDev 0x3020 1)
    let cap := s.obj (kDev 0x3020 3)
    ∃ u, exec (.governorLoop w) s = .next u ∧ BytesStay s u ∧ u.cores = s.cores ∧ u.obj (kDev 0x3001 4) = w.toNat ∧
      u.obj (kDev 0x3020 4) = s.obj (kDev 0x3020 4) ∧
      (lim < w.toNat → u.obj (kDev 0x3020 3) = max 800 (cap - 100) ∧
        u.obj (kDev 0x3020 2) = min (max 800 (cap - 100)) (s.obj (kDev 0x3020 4)) ∧ u.power.below = 0 ∧
        u.power.unmet = (if cap = 800 then s.power.unmet + 1 else 0)) ∧
      (w.toNat < lim - 100 → 9 ≤ s.power.below → u.obj (kDev 0x3020 3) = min 1600 (cap + 100) ∧
        u.obj (kDev 0x3020 2) = min (min 1600 (cap + 100)) (s.obj (kDev 0x3020 4)) ∧ u.power.below = 0) ∧
      (w.toNat < lim - 100 → s.power.below < 9 → u.obj (kDev 0x3020 3) = cap ∧
        u.obj (kDev 0x3020 2) = s.obj (kDev 0x3020 2) ∧ u.power.below = s.power.below + 1) ∧
      (w.toNat ≤ lim → lim - 100 ≤ w.toNat → u.obj (kDev 0x3020 3) = cap ∧ u.obj (kDev 0x3020 2) = s.obj (kDev 0x3020 2) ∧
        u.power.below = 0 ∧ u.power.unmet = 0)) ∧
  (∀ s (w : BitVec 16), (w.toNat ≤ 2200 → exec (.powerClamp w) s = .next s) ∧
    (2200 < w.toNat → ∃ u, exec (.powerClamp w) s = .next u ∧ ObjWrite s u [(kDev 0x3020 2, 800), (kDev 0x3020 3, 800),
      (kDev 0x3020 4, 800), (kDev 0x3020 6, satAdd16 (s.obj (kDev 0x3020 6)) 1)])) ∧
  (∀ s tj th, s.patrol.restarting = false → s.patrol.on = true → tj.length = 34 → th.length = 16 →
    let cap := s.obj (kDev 0x3020 4)
    ∃ u, exec (.thermalLoop tj th) s = .next u ∧ BytesStay s u ∧
      (∀ i < 34, u.obj (kDev 0x3031 (i + 1)) = i32Nat (tj.getD i 0)) ∧
      (∀ i < 16, u.obj (kDev 0x3032 (i + 1)) = i32Nat (th.getD i 0)) ∧
      ((∃ i < 50, u.throttleAt i < u.temp i) → u.power.cool = 0 ∧
        u.obj (kDev 0x3020 4) = (if cap ≤ 800 then cap else max 800 (cap - 100))) ∧
      ((∀ i < 50, u.temp i ≤ u.throttleAt i - 500) → 9 ≤ s.power.cool → u.power.cool = 0 ∧
        u.obj (kDev 0x3020 4) = min 1600 (cap + 100)) ∧
      ((∀ i < 50, u.temp i ≤ u.throttleAt i - 500) → s.power.cool < 9 → u.power.cool = s.power.cool + 1 ∧
        u.obj (kDev 0x3020 4) = cap))

/-- R642 to R651, R654, R657: a supply warning or a thermal trip in READY holds the module, fails the commits and begins a
snapshot, and in the ramp ends it; a hold is released when the input recovers, with every lease's time advanced by its length,
unless a trip caused it; a sag reset and 5 ms after a trip the main domain is reset into STANDBY, where a trip locks the module
out. A snapshot is valid once its header is written and until it is cleared. The model's choices: a warning in the ramp is
logged and counted too, a trip counts neither SAG_WARNINGS nor SAG_RESETS, its hold is not released before its reset, and
thresholds too near are refused with STATE (log 111); a snapshot's bytes and SNAP_SEQ + 1 are taken at the start of the hold
(log 112). -/
def Obligations.SupplyAndTripsHoldAndReset : Prop :=
  (∀ s (v : BitVec 16), s.obj (kDev 0x3010 1) ≤ v.toNat ∨ s.patrol.on = false → exec (.sagWarning v) s = .next s) ∧
  (∀ s (v : BitVec 16), v.toNat < s.obj (kDev 0x3010 1) → s.patrol.on = true →
    ∃ u, exec (.sagWarning v) s = .next u ∧ u.power.inputLow = true ∧
      u.obj (kDev 0x3012 1) = satAdd16 (s.obj (kDev 0x3012 1)) 1 ∧
      (s.moduleState = 3 → u.moduleState = 4 ∧ u.power.holdAt = s.timeNs ∧ BytesStay s u ∧ u.cores = s.cores ∧
        (∀ c < 64, u.commitState c = if s.commitState c = 1 then 3 else s.commitState c) ∧ SnapshotBegins s u) ∧
      (s.moduleState = 1 ∨ s.moduleState = 2 → u.moduleState = 0 ∧ u.mem = [])) ∧
  (∀ s, (s.moduleState ≠ 4 ∨ s.power.tripAt.isSome = true → exec .sagRecovered s =
      .next { s with power := { s.power with inputLow := false } }) ∧
    (s.moduleState = 4 → s.power.tripAt = none → ∃ u, exec .sagRecovered s = .next u ∧ u.moduleState = 3 ∧ BytesStay s u ∧
      u.power.inputLow = false ∧ u.cores = s.cores ∧
      ∀ cl < 12, u.leases cl = (s.leases cl).map (fun l =>
        { l with expires := (l.expires + (s.timeNs - s.power.holdAt)) % 2 ^ 64 }))) ∧
  (∀ s, ∃ u, exec .sagReset s = .next u ∧ u.moduleState = 0 ∧ u.mem = [] ∧ u.side = [] ∧ u.cores = [] ∧
    u.obj (kDev 0x3012 2) = satAdd16 (s.obj (kDev 0x3012 2)) 1 ∧ u.power.inputLow = true ∧
    u.power.tripped = (s.power.tripped || s.power.tripAt.isSome)) ∧
  (∀ s (i : Fin 50) (v : Int), v ≤ s.tripValue i.val ∨ s.moduleState = 0 → exec (.thermalTrip i v) s = .next s) ∧
  (∀ s (i : Fin 50) (v : Int), s.tripValue i.val < v → s.moduleState = 3 →
    ∃ u, exec (.thermalTrip i v) s = .next u ∧ u.moduleState = 4 ∧ BytesStay s u ∧
      u.power.tripAt = some (s.power.tripAt.getD s.timeNs) ∧ SnapshotBegins s u) ∧
  (∀ s (i : Fin 50) (v : Int), s.tripValue i.val < v → 4 ≤ s.moduleState →
    ∃ u, exec (.thermalTrip i v) s = .next u ∧ u.moduleState = s.moduleState ∧ BytesStay s u ∧
      u.power.tripAt = some (s.power.tripAt.getD s.timeNs)) ∧
  (∀ s (i : Fin 50) (v : Int), s.tripValue i.val < v → s.moduleState = 1 ∨ s.moduleState = 2 →
    ∃ u, exec (.thermalTrip i v) s = .next u ∧ u.moduleState = 0 ∧ u.mem = [] ∧ u.power.tripped = true ∧ u.power.tripAt = none) ∧
  (∀ s, s.power.tripAt = none → exec .thermalTripReset s = .next s) ∧
  (∀ s t, s.power.tripAt = some t → (s.timeNs < t + 5000000 → exec .thermalTripReset s = .next s) ∧
    (t + 5000000 ≤ s.timeNs → ∃ u, exec .thermalTripReset s = .next u ∧ u.moduleState = 0 ∧ u.mem = [] ∧ u.cores = [] ∧
      u.power.tripped = true ∧ u.power.tripAt = none)) ∧
  (∀ s, (s.power.snapBusy = false ∨ s.patrol.restarting = true → exec .snapshotWritten s = .next s) ∧
    (s.power.snapBusy = true → s.patrol.restarting = false → ∃ u, exec .snapshotWritten s = .next u ∧
      u.power.snapBusy = false ∧ u.power.snapBody = s.power.nextBody ∧ u.power.snapHdr = s.power.nextHdr ∧
      u.obj (kDev 0x3050 1) = 1 ∧ BytesStay s u)) ∧
  (∀ s, exec (.snapClear false) s = .next s ∧ ∃ u, exec (.snapClear true) s = .next u ∧
    ObjsAre s u [(kDev 0x3050 1, 0)] ∧ u.power = { s.power with snapHdr := [] }) ∧
  (∀ s (v : BitVec 16), (650 ≤ v.toNat → v.toNat ≤ 740 → v.toNat * v.toNat < s.obj (kDev 0x3011 1) * s.obj (kDev 0x3011 1) + 82500 →
      TurnedAway s (.sagWarnV v) stState) ∧
    (580 ≤ v.toNat → v.toNat ≤ 640 → s.obj (kDev 0x3010 1) * s.obj (kDev 0x3010 1) < v.toNat * v.toNat + 82500 →
      TurnedAway s (.sagResetV v) stState))

/-- R643, R644: a write to either threshold within its range is refused when the resulting pair gives Vw² - Vr² below 82,500 V²,
with Vw the warning and Vr the reset threshold in volts, and changes nothing then; it is kept otherwise. One out of its range is
refused. The status of the refusal is no part of it: the model's is STATE (log 111), which the statement on supply and trips
says. -/
def Obligations.ThresholdPairsStayApart : Prop :=
  ∀ (s : State) (v : BitVec 16), let vw := s.obj (kDev 0x3010 1)
    let vr := s.obj (kDev 0x3011 1)
    (v.toNat < 650 ∨ 740 < v.toNat → TurnedAway s (.sagWarnV v) stRange) ∧
    (v.toNat < 580 ∨ 640 < v.toNat → TurnedAway s (.sagResetV v) stRange) ∧
    (650 ≤ v.toNat → v.toNat ≤ 740 →
      ((v.toNat : Int) ^ 2 - (vr : Int) ^ 2 < 82500 → ∃ st, st ≠ stOk ∧ TurnedAway s (.sagWarnV v) st) ∧
      (82500 ≤ (v.toNat : Int) ^ 2 - (vr : Int) ^ 2 → ∃ u, exec (.sagWarnV v) s = .next u ∧
        ObjWrite s u [(kDev 0x3010 1, v.toNat)])) ∧
    (580 ≤ v.toNat → v.toNat ≤ 640 →
      ((vw : Int) ^ 2 - (v.toNat : Int) ^ 2 < 82500 → ∃ st, st ≠ stOk ∧ TurnedAway s (.sagResetV v) st) ∧
      (82500 ≤ (vw : Int) ^ 2 - (v.toNat : Int) ^ 2 → ∃ u, exec (.sagResetV v) s = .next u ∧
        ObjWrite s u [(kDev 0x3011 1, v.toNat)]))

/-! ### Patrol and the host -/

/-- R669 to R678, R688, R689, R692: a request from the network is answered on the port and one in-band in its function's window,
the kept answer again where its SEQ repeats, and not at all from the network while Patrol restarts; in-band it is then ignored
and counted, as where one waits in its window. While Patrol executes one, up to 16 wait, and a further one is answered with
BUSY. The answer has the first status that applies: VERSION, TARGET, NO_OBJECT, AUTH, REPLAY, ACCESS, else that of the
operation, which a public request may do where it needs no level and a tagged one with a good tag and a fresh AUTH_SEQ where its
level has the right; the answer to a right tag is tagged. A request that is refused changes no object but, for AUTH, the count
and the event. That a request takes time only by a happening below the commands is the model's choice (log 162). -/
def Obligations.RequestsAreAnswered : Prop :=
  (∀ p, RequestRow p → ∀ (s : State) a q h pl, let m := withOp ⟨.net a q, h, pl⟩ p.2
    (s.patrol.on = false ∨ s.patrol.restarting = true → exec (p.1 ⟨.net a q, h, pl⟩) s = .next s) ∧
    (s.patrol.on = true → s.patrol.restarting = false → s.patrol.working = true →
      (s.patrol.queue.length < 16 → ∃ u, exec (p.1 ⟨.net a q, h, pl⟩) s = .next u ∧ u.out = s.out ∧ BytesStay s u ∧
        u.patrol.queue = s.patrol.queue ++ [m] ∧ ObjsAre s u [(kDev 0x1010 8, wrapAdd48 (s.obj (kDev 0x1010 8)) 1)]) ∧
      (16 ≤ s.patrol.queue.length → ∃ u, exec (p.1 ⟨.net a q, h, pl⟩) s = .next u ∧ u.patrol.queue = s.patrol.queue ∧
        u.out = .message m.src (answerTo m.hdr.toNat stBusy [] none) :: s.out ∧ BytesStay s u ∧
        u.obj (kDev 0x1010 0xA) = satAdd16 (s.obj (kDev 0x1010 0xA)) 1)) ∧
    (PatrolServes s → NotKept s m → let r := (s.cnt48 (kDev 0x1010 8) 1).answer m
      ∃ u, exec (p.1 ⟨.net a q, h, pl⟩) s = .next u ∧ u.out = .message m.src r.2 :: r.1.out ∧ u.mem = r.1.mem ∧
        u.cores = r.1.cores ∧ u.disp = r.1.disp ∧ u.patrol.kept.head? = some ⟨m.src, hSeq m.hdr.toNat, r.2⟩) ∧
    (∀ k, PatrolServes s → s.patrol.kept.find? (fun k => k.src = m.src && k.seq = hSeq m.hdr.toNat) = some k →
      ∃ u, exec (p.1 ⟨.net a q, h, pl⟩) s = .next u ∧ u.out = .message m.src k.ans :: s.out ∧ BytesStay s u ∧
        u.cores = s.cores ∧ u.disp = s.disp)) ∧
  (∀ p, RequestRow p → ∀ (s : State) (f : HostFn) h pl, let m := withOp ⟨.inband f, h, pl⟩ p.2
    let w := s.modFn f.val (fun x => { x with req := nsetRun 0 [] 0 (toLE 48 m.hdr.toNat ++ m.payload), state := 1 })
    s.gate f.val true = .served → (s.windowState f.val = 1 →
      exec (p.1 ⟨.inband f, h, pl⟩) s = .next (s.cnt16 (kDev 0x1010 0xD) 1)) ∧
    (PatrolServes s → (s.fn f.val).state ≠ 1 → NotKept s m →
      let r := (w.cnt48 (kDev 0x1010 8) 1).answer m
      ∃ u, exec (p.1 ⟨.inband f, h, pl⟩) s = .next u ∧ (u.fn f.val).resp = r.2.bytes ∧ (u.fn f.val).state = 2 ∧
        (u.fn f.val).respLen = r.2.bytes.length ∧ u.out = r.1.out ∧ u.mem = r.1.mem)) ∧
  (∀ (s : State) (m : Msg), msgBad m.src m.hdr.toNat m.payload = true →
    s.answer m = (s, answerTo m.hdr.toNat stVersion [] (tagKey s m))) ∧
  (∀ (s : State) (m : Msg), msgBad m.src m.hdr.toNat m.payload = false → targetOk m.src m.hdr.toNat = false →
    s.answer m = (s, answerTo m.hdr.toNat stTarget [] (tagKey s m))) ∧
  (∀ (s : State) (m : Msg), msgBad m.src m.hdr.toNat m.payload = false → targetOk m.src m.hdr.toNat = true → 
    noObject (hOp m.hdr.toNat) (hIndex m.hdr.toNat) (hSub m.hdr.toNat) = true →
    s.answer m = (s, answerTo m.hdr.toNat stNoObject [] (tagKey s m))) ∧
  (∀ op idx sub, noObject op idx sub = true ↔ idx < 0xF000 ∧ ((op ≤ 4 ∧ objRow idx sub = none) ∨ (op = 6 ∧ 0xB000 ≤ idx))) ∧
  (∀ (s : State) (m : Msg), GoodRequest s m → levelOf m.src m.hdr.toNat = 0 →
    (levelNeeded s m = some 0 → s.answer m = served s s m none) ∧
    (levelNeeded s m = none → s.answer m = (s, answerTo m.hdr.toNat stAccess [] none)) ∧
    (∀ n, levelNeeded s m = some (n + 1) → s.answer m = authFailed s m none)) ∧
  (∀ (s : State) (m : Msg) l, GoodRequest s m → levelOf m.src m.hdr.toNat = l + 1 → tagKey s m = none →
    s.answer m = authFailed s m none) ∧
  (∀ (s : State) (m : Msg) l k, GoodRequest s m → levelOf m.src m.hdr.toNat = l + 1 → tagKey s m = some k →
    (∀ n, levelNeeded s m = some n → l + 1 < n → s.answer m = authFailed s m (some k)) ∧
    ((levelNeeded s m).all (· ≤ l + 1) = true → hAuth m.hdr.toNat ≤ s.obj (kDev 0x1040 (3 + l)) →
      s.answer m = (s, answerTo m.hdr.toNat stReplay [] (some k))) ∧
    (levelNeeded s m = none → s.obj (kDev 0x1040 (3 + l)) < hAuth m.hdr.toNat →
      s.answer m = (s, answerTo m.hdr.toNat stAccess [] (some k))) ∧
    (∀ n, levelNeeded s m = some n → n ≤ l + 1 → s.obj (kDev 0x1040 (3 + l)) < hAuth m.hdr.toNat →
      s.answer m = served s (s.setObj (kDev 0x1040 (3 + l)) (hAuth m.hdr.toNat)) m (some k))) ∧
  (∀ (s : State) room op idx sub p, op ∈ [1, 3, 5, 6] → idx < 0xF000 → (s.execute room op idx sub p).1 = s) ∧
  (∀ (s : State) room idx sub p, idx < 0xF000 → (s.readObj idx sub).length ≤ room →
    s.execute room 1 idx sub p = (s, stOk, s.readObj idx sub)) ∧
  (∀ (s : State) room idx sub p, idx < 0xF000 →
    s.execute room 2 idx sub p = ((s.writeBytes idx sub p).1, (s.writeBytes idx sub p).2, []))

/-- R450, R667, R676, R678, R685, R690 to R692: ACTIVATE of a verified image in STANDBY, READY or Lodge restarts Patrol, which
then runs the target image where its check succeeds, else the other, else recovery (the model's reading, log 107); a key write
gives its level the key and resets its counter, where an untagged one is accepted, and else is the request that its header
makes: without the right tag it changes no key, and a service key that is set changes by a tag of its own level alone; an image
that is written whole is verified; CLEAR sets the objects of its index to 0, or empties the log; PLCA falls back without beacons
and returns with them, and the coordinator sends them. The port answers echo and neighbour discovery for its address, takes
messages at UDP_PORT, and discards what else comes (R668). That its packets, its beacons and the time of a request come below
the commands is the model's choice (logs 154, 160 and 162). -/
def Obligations.PatrolControlsTakeEffect : Prop :=
  (∀ s : State, exec (.activate false) s = .next s ∧
    (s.obj (kDev 0x1030 6) = 2 → s.moduleState ∈ [0, 3, 5] →
      exec (.activate true) s = .next { s with patrol := { s.patrol with
        restarting := true, working := false, queue := s.patrol.queue.filter inbandMsg } }) ∧
    (s.obj (kDev 0x1030 6) ≠ 2 ∨ s.moduleState ∉ [0, 3, 5] → TurnedAway s (.activate true) stState)) ∧
  (∀ s : State, (s.patrol.restarting = false → exec .patrolRestartDone s = .next s) ∧
    (s.patrol.restarting = true → s.patrol.queue = [] → ∃ u, exec .patrolRestartDone s = .next u ∧ BytesStay s u ∧
      u.patrol.restarting = false ∧ u.patrol.heldEvents = [] ∧ u.patrol.heldLost = 0 ∧
      u.cores = s.cores ∧ let t := s.targetImage
      (s.imageGood t = true → u.obj (kDev 0x1030 1) = t) ∧
      (s.imageGood t = false → s.imageGood (1 - t) = true → u.obj (kDev 0x1030 1) = 1 - t) ∧
      (s.imageGood t = false → s.imageGood (1 - t) = false → u.obj (kDev 0x1030 1) = 2))) ∧
  (∀ (s : State) key hdr, (s.need (.inband 0) 2 0x1040 1 = some 0 → ∃ u, exec (.operatorKey ⟨key, hdr⟩) s = .next u ∧ u = { s with objs := u.objs, patrol := u.patrol } ∧
      u.patrol = { s.patrol with opKey := some key } ∧ ObjsAre s u [(kDev 0x1040 3, 0)]) ∧
    (s.need (.inband 0) 2 0x1040 1 ≠ some 0 →
      exec (.operatorKey ⟨key, hdr⟩) s = .next (s.request (keyMsg 1 key hdr)) ∧ (tagKey s (keyMsg 1 key hdr) = none →
        (s.request (keyMsg 1 key hdr)).patrol.opKey = s.patrol.opKey)) ∧
    (s.patrol.svcKey = none → ∃ u, exec (.serviceKey ⟨key, hdr⟩) s = .next u ∧ u = { s with objs := u.objs, patrol := u.patrol } ∧
      u.patrol = { s.patrol with svcKey := some key } ∧ ObjsAre s u [(kDev 0x1040 4, 0)]) ∧
    (s.patrol.svcKey ≠ none →
      exec (.serviceKey ⟨key, hdr⟩) s = .next (s.request (keyMsg 2 key hdr)) ∧
      (levelOf (.inband 0) (keyMsg 2 key hdr).hdr.toNat ≠ 2 ∨ tagKey s (keyMsg 2 key hdr) = none →
        (s.request (keyMsg 2 key hdr)).patrol.svcKey = s.patrol.svcKey))) ∧
  (∀ s : State, s.targetImage ≤ 1 → s.obj (kDev 0x1030 6) = 1 → s.patrol.on = true →
    s.patrol.restarting = false → 4096 ≤ s.patrol.written →
    let b := s.imageBytes s.targetImage
    Config.imageField b 1 ≤ s.patrol.written →
    (Config.signatureValid b = true → ∃ u, exec .imageVerified s = .next u ∧
      ObjWrite s u [(kDev 0x1030 6, 2), (kDev 0x1030 (2 + s.targetImage), Config.imageField b 0 % 2 ^ 32)]) ∧
    (Config.signatureValid b = false → ∃ u, exec .imageVerified s = .next u ∧ u.obj (kDev 0x1030 6) = 3 ∧
      u.obj (kDev 0x1030 (2 + s.targetImage)) = 0 ∧ BytesStay s u ∧ u.cores = s.cores)) ∧
  (∀ s : State, s.obj (kDev 0x1030 6) ≠ 1 ∨ s.patrol.written < 4096 → exec .imageVerified s = .next s) ∧
  (∀ (s : State) (i : BitVec 16), exec (.clear i false) s = .next s) ∧
  (∀ s : State, ∃ u, exec (.clear 0x4000 true) s = .next u ∧ u.patrol = { s.patrol with log := [] } ∧
    ObjsAre s u [(kDev 0x4000 2, s.obj (kDev 0x4000 1))]) ∧
  (∀ (s : State) (i : BitVec 16), i.toNat ≠ 0x4000 →
    (clearSpan i.toNat = none → exec (.clear i true) s = .next s) ∧
    (∀ c lo hi, clearSpan i.toNat = some (c, lo, hi) → ∃ u, exec (.clear i true) s = .next u ∧
      u = { s with objs := u.objs } ∧ ∀ k, u.obj k =
        if k / 256 = i.toNat ∧ lo ≤ k % 256 ∧ k % 256 ≤ hi then 0 else s.obj k)) ∧
  (∀ s : State, (s.patrol.on = true → s.obj (kDev 0x1010 7) = 1 →
      exec .plcaNoBeacon s = .next ((s.setObj (kDev 0x1010 7) 0).event 0x61 1 0xFF 0 0)) ∧
    (s.patrol.on = false ∨ s.obj (kDev 0x1010 7) ≠ 1 → exec .plcaNoBeacon s = .next s)) ∧
  (∀ s : State, (s.patrol.on = true → s.obj (kDev 0x1010 4) = 1 → s.obj (kDev 0x1010 5) ≠ 0 → s.obj (kDev 0x1010 7) = 0 →
      ∃ u, exec .plcaBeacon s = .next u ∧ ObjWrite s u [(kDev 0x1010 7, 1)]) ∧
    (s.patrol.on = false ∨ s.obj (kDev 0x1010 4) ≠ 1 ∨ s.obj (kDev 0x1010 5) = 0 ∨ s.obj (kDev 0x1010 7) ≠ 0 →
      exec .plcaBeacon s = .next s) ∧
    s.happen .beaconDue = (if s.patrol.on = true ∧ s.obj (kDev 0x1010 7) = 2 then s.emit (.beacon (s.obj (kDev 0x1010 6))) else s)) ∧
  (∀ s : State, s.patrol.on = true → s.patrol.restarting = false →
    s.happen .patrolBusy = { s with patrol := { s.patrol with working := true } } ∧
    (s.patrol.working = true → s.patrol.queue = [] →
      s.happen .patrolDone = { s with patrol := { s.patrol with working := false } }) ∧
    (∀ m q, s.patrol.working = true → s.patrol.queue = m :: q →
      let v : State := { s with patrol := { s.patrol with queue := q } }
      let u := s.happen .patrolDone
      u = v.serve m ∧ (NotKept s m → BytesStay (v.answer m).1 u ∧
        u.patrol.kept.head? = some ⟨m.src, hSeq m.hdr.toNat, (v.answer m).2⟩)) ∧
    (∀ a src data, s.happen (.frame (.echoRequest src a data)) = (if a = linkLocalAddr then s.emit (.echo src data) else s) ∧
      s.happen (.frame (.neighbourSolicitation a)) = (if a = linkLocalAddr then s.emit (.neighbour a) else s)) ∧
    (∀ port m, inbandMsg m = false → s.happen (.frame (.udp linkLocalAddr port m)) =
      (if port.toNat = s.obj (kDev 0x1010 3) then s.arriveMsg m else s)) ∧
    s.happen (.frame .other) = s) ∧
  (∀ s : State, s.patrol.on = false ∨ s.patrol.restarting = true → ∀ f, s.happen (.frame f) = s)

/-- R688, R693, R696 to R703: an access of a host function that its gate does not serve has no effect but its answer and its
count; one that is served reads or writes what it names: the message window, BAR2 within its pages and rights, a register of
BAR0, its MSI-X table and pending bits, or the bytes of a stack or package that the diagnostic window shows (log 122), a word of
scratch, the Chairlift's host window and its target, and the causes of interrupts. The model's choices: which module states
serve a window, and what a function in D3hot answers (log 120), and a word of the MSI-X table as the carrier of its fields (log
161). R661, R693, R700, R702: the endpoint reads UP with its speed and width once it has trained, and what waited to leave has
left; PERST and a reset of the physical function reset every function, a reset of a virtual one that function alone, and the
cause registers keep their bits; a configuration write sets the number of virtual functions, a power state or, where BAR0 is
served, a vector's mask, and a read returns the identification that the spec gives (R694). A mirror write leaves at the address
that the endpoint holds or asks for (R701; log 159). The model's choices: what a reset clears and drops, and that training is
ignored in STANDBY and POWERING (log 121), the value 2 for 2.5 GT/s (log 161), and the place of the values in the VSEC (log
138). -/
def Obligations.HostAccessesPassTheEndpoint : Prop :=
  (∀ i s f win rd, hostAccess i = some (f, win, rd) →
    let answered := fun (t : State) => if rd = true then t.emit (.unsupported f) else t
    (s.gate f win = .absent → exec i s = .next s) ∧
    (s.gate f win = .unsupported → exec i s = .next (answered s)) ∧
    (s.gate f win = .refused → exec i s = .next (answered (s.cnt16 (kDev 0x1050 6) 1)))) ∧
  (∀ (s : State) (f : HostFn) (len : BitVec 32), s.gate f.val true = .served →
    (s.windowState f.val = (if s.patrol.restarting = true then 1 else (s.fn f.val).state)) ∧
    (s.windowState f.val = 1 → exec (.doorbell f len) s = .next (s.cnt16 (kDev 0x1010 0xD) 1)) ∧
    (s.windowState f.val ≠ 1 → exec (.doorbell f len) s =
      .next ((s.modFn f.val (fun x => { x with state := 1 })).arriveMsg
        (msgOf f (ngetRun 0 (s.fn f.val).req 0 (min len.toNat 4096)))))) ∧
  (∀ (s : State) (f : HostFn), s.gate f.val true = .served → ∃ u, exec (.respLen f) s = .next u ∧
    u.out = .hostRead f.val (toLE 4 (s.fn f.val).respLen) :: s.out ∧ BytesStay s u ∧ u.objs = s.objs ∧
    u.fn f.val = (if (s.fn f.val).state = 1 then s.fn f.val else { s.fn f.val with state := 0 })) ∧
  (∀ (s : State) (f : HostFn) (off : BitVec 64) (o : BitVec 14), s.gate f.val true = .served →
    (∀ n, ∃ u, exec (.bar2Access f off (.bar0 (.winRead o n))) s = .next u ∧ BytesStay s u ∧ u.objs = s.objs ∧
      u.out = .hostRead f.val ((List.range n).map (fun i => s.windowByte f.val (o.toNat + i))) :: s.out ∧
      u.fn f.val = (if o.toNat + n ≤ 0x2008 ∨ 0x200C ≤ o.toNat ∨ (s.fn f.val).state = 1 then s.fn f.val
        else { s.fn f.val with state := 0 })) ∧
    (∀ i < 0x1000, s.windowByte f.val i = nget 0 (s.fn f.val).req i ∧
      s.windowByte f.val (0x1000 + i) = (s.fn f.val).resp.getD i 0) ∧
    (∀ i < 4, s.windowByte f.val (0x2004 + i) = (toLE 4 (s.windowState f.val)).getD i 0 ∧
      s.windowByte f.val (0x2008 + i) = (toLE 4 (s.fn f.val).respLen).getD i 0) ∧
    (∀ bs, ∃ u, exec (.bar2Access f off (.bar0 (.winWrite o bs))) s = .next u ∧ u = { s with host := u.host } ∧
      u.fn f.val = { s.fn f.val with req := nsetRun 0 (s.fn f.val).req o.toNat (bs.take (0x1000 - o.toNat)) })) ∧
  (∀ (s : State) (f : HostFn) (off : BitVec 64) (v : Fin 66), s.gate f.val false = .served →
    let msix := fun a => exec (.bar2Access f off (.bar0 a)) s
    (∀ w : Fin 4, msix (.msixRead v w) = .next (s.emit (.hostRead f.val (toLE 4 (if w.val = 3 then
      b2n ((s.fn f.val).masked.contains v.val) else nget 0 (s.fn f.val).msix (v.val * 4 + w.val)))))) ∧
    (∀ (w : Fin 4) (x : BitVec 32), w.val ≠ 3 → ∃ u, msix (.msixWrite v w x) = .next u ∧ u = { s with host := u.host } ∧
      nget 0 (u.fn f.val).msix (v.val * 4 + w.val) = x.toNat ∧ (u.fn f.val).masked = (s.fn f.val).masked ∧
      ∀ g, g ≠ f.val → u.fn g = s.fn g) ∧
    (∀ x : BitVec 32, ∃ u, msix (.msixWrite v 3 x) = .next u ∧ u.objs = s.objs ∧ BytesStay s u ∧
      ((u.fn f.val).masked.contains v.val = true ↔ x.getLsbD 0 = true)) ∧
    (∀ w : Fin 4, ∃ n, msix (.pbaRead w) = .next (s.emit (.hostRead f.val (toLE 4 n))) ∧ n < 2 ^ 32 ∧
      ∀ i < 32, bitAt n i = (s.fn f.val).pend.contains (w.val * 32 + i)) ∧
    msix .pbaWrite = .next (s.cnt16 (kDev 0x1050 6) 1)) ∧
  (∀ (s : State) (f : HostFn) (off : BitVec 64) n ps, s.gate f.val false = .served →
    (s.barPieces f.val off.toNat n false = some ps → ∃ u v : State, exec (.bar2Access f off (.read n)) s = .next u ∧ BytesStay s u ∧
      v = { s with objs := v.objs } ∧ u = v.emit (.hostRead f.val (ps.flatMap (fun (p : Nat × Nat) => s.view p.1 p.2)))) ∧
    (s.barPieces f.val off.toNat n false = none →
      exec (.bar2Access f off (.read n)) s = .next ((s.cnt16 (kDev 0x1050 6) 1).emit (.unsupported f.val)))) ∧
  (∀ (s : State) (f : HostFn) (off : BitVec 64) bs, s.gate f.val false = .served →
    (∀ pa, s.barPieces f.val off.toNat bs.length true = some [(pa, bs.length)] →
      ∃ u, exec (.bar2Access f off (.write bs)) s = .next u ∧ u.bytes pa bs.length = bs ∧ BytesOutside s u pa bs.length ∧
        u.cores = s.cores ∧ u.out = s.out) ∧
    (s.barPieces f.val off.toNat bs.length true = none →
      exec (.bar2Access f off (.write bs)) s = .next (s.cnt16 (kDev 0x1050 6) 1))) ∧
  (∀ (s : State) (f : HostFn) (off : BitVec 64), s.gate f.val false = .served →
    let get := fun (r : Bar0Reg) => exec (.bar2Access f off (.bar0 (.reg r))) s
    let answer := fun (bs : List (BitVec 8)) => Host.Outcome.next (s.emit (.hostRead f.val bs))
    let none_ := Host.Outcome.next (s.emit (.unsupported f.val))
    get .intCause = answer (toLE 8 (s.fn f.val).intCause) ∧ get .ctxCause = answer (toLE 8 (s.fn f.val).ctxCause) ∧
    get .hostBaseBlock = (if f.val = 0 then answer (toLE 4 s.host.baseBlock) else none_) ∧
    get .hostTarget = (if f.val = 0 then answer (toLE 8 s.host.target) else none_) ∧
    get .diagSel = (if f.val = 0 then answer (toLE 8 s.host.diagSel) else none_) ∧
    get .diagBase = (if f.val = 0 then answer (toLE 8 s.host.diagBase) else none_) ∧
    exec (.bar2Access f off (.bar0 .unnamedRead)) s = none_ ∧
    exec (.bar2Access f off (.bar0 .unnamedWrite)) s = .next (s.cnt16 (kDev 0x1050 6) 1) ∧
    exec (.bar2Access f off (.bar0 .diagWrite)) s = .next (s.cnt16 (kDev 0x1050 6) 1)) ∧
  (∀ (s : State) (off v : BitVec 64), s.gate 0 false = .served →
    (v.toNat < 24 → exec (.bar2Access 0 off (.bar0 (.setDiagSel v))) s =
      .next { s with host := { s.host with diagSel := v.toNat } }) ∧
    (v.toNat % 2 ^ 25 = 0 → exec (.bar2Access 0 off (.bar0 (.setDiagBase v))) s =
      .next { s with host := { s.host with diagBase := v.toNat } })) ∧
  (∀ (s : State) (off : BitVec 64) (o : BitVec 25) n, s.gate 0 false = .served → s.host.diagSel < 16 + Config.lpddrPresent →
    s.host.diagBase + o.toNat + n ≤ unitSize s.host.diagSel →
    ∃ u bs, exec (.bar2Access 0 off (.bar0 (.diagRead o n))) s = .next u ∧
      u = { s with out := .hostRead 0 bs :: s.out, free := s.free + 1 } ∧ bs.length = n ∧
      ∀ i < n, let a := s.host.diagBase + o.toNat + i
        (∀ q, placeOf s.host.diagSel a = .data q → bs[i]? = some (s.byte (blockOf s.host.diagSel q * 4096 + a % 4096))) ∧
        (∀ q, placeOf s.host.diagSel a = .sidecar q →
          bs[i]? = some (BitVec.ofNat 8 (s.sideOf (blockOf s.host.diagSel q) >>> (8 * (a % 32))))) ∧
        (∀ k q, placeOf s.host.diagSel a = .spare k → s.servedBy s.host.diagSel k = some q →
          bs[i]? = some (s.byte (blockOf s.host.diagSel q * 4096 + a % 4096)))) ∧
  (∀ (s : State) (f : HostFn) (off : BitVec 64) wide (a b : BitVec 64) pa cl o, s.gate f.val false = .served →
    off.toNat % wordBytes wide = 0 → s.atomicPa f.val off.toNat (wordBytes wide) = some pa →
    s.atomicAt pa wide = .ok (cl, o) → inLeases o = false → noPlanWord s cl o →
    let n := wordBytes wide
    let old := s.word pa n
    (∃ u, exec (.atomicOp ⟨f, off⟩ wide .fetchAdd a b) s = .next u ∧ u.word pa n = (old + opWord wide a.toNat) % 2 ^ (8 * n) ∧
      BytesOutside s u pa n ∧ u.out = .value old :: s.out) ∧
    (∃ u, exec (.atomicOp ⟨f, off⟩ wide .cas a b) s = .next u ∧
      u.word pa n = (if old = opWord wide a.toNat then opWord wide b.toNat else old) % 2 ^ (8 * n) ∧
      BytesOutside s u pa n ∧ u.out = .value old :: s.out)) ∧
  (∀ (s : State) (f : HostFn) (off : BitVec 64) wide op (a b : BitVec 64), s.gate f.val false = .served →
    let n := wordBytes wide
    let aborted := Host.Outcome.next ((s.cnt16 (kDev 0x1050 6) 1).emit .aborted)
    let refused := Host.Outcome.next ((s.cnt16 (kDev 0x1050 6) 1).emit (.unsupported f.val))
    (off.toNat % n ≠ 0 ∨ op = .swap → exec (.atomicOp ⟨f, off⟩ wide op a b) s = aborted) ∧
    (off.toNat % n = 0 → op ≠ .swap →
      (s.atomicPa f.val off.toNat n = none → exec (.atomicOp ⟨f, off⟩ wide op a b) s = refused) ∧
      (∀ pa, s.atomicPa f.val off.toNat n = some pa →
        (s.scratchOf pa = none → exec (.atomicOp ⟨f, off⟩ wide op a b) s = aborted) ∧
        (s.atomicAt pa wide = .error .fenced → exec (.atomicOp ⟨f, off⟩ wide op a b) s = refused)))) ∧
  (∀ (s : State) off n, s.atomicPa 0 off n = some off) ∧
  (∀ (s : State) (off : BitVec 24) bs, s.gate 0 false = .served →
    (s.hostTransfer = none ∨ 2 ^ 24 < off.toNat + bs.length →
      exec (.hostWindowWrite off bs) s = .next (s.cnt16 (kDev 0x1050 6) 1)) ∧
    (s.hostTransfer ≠ none → off.toNat + bs.length ≤ 2 ^ 24 →
      let w : State := { s with host := { s.host with window := nsetRun 0 s.host.window off.toNat bs } }
      (off.toNat / 4096 = (off.toNat + bs.length) / 4096 → exec (.hostWindowWrite off bs) s = .next w) ∧
      (off.toNat % 4096 + bs.length = 4096 → bs ≠ [] →
        exec (.hostWindowWrite off bs) s = .next (w.hostSlot (off.toNat / 4096))))) ∧
  (∀ (s : State) (v : BitVec 64), s.gate 0 false = .served →
    exec (.hostTarget true v) s = .next { s with host := { s.host with baseBlock := v.toNat % 2 ^ 32 } } ∧
    exec (.hostTarget false v) s = .next { s with host := { s.host with target := v.toNat } }) ∧
  (∀ (s : State) (f : HostFn) (v : BitVec 64), s.gate f.val false = .served →
    (∃ u, exec (.intCause f false v) s = .next u ∧ u = { s with host := { s.host with fns := u.host.fns } } ∧
      u.fn f.val = { s.fn f.val with intCause := (s.fn f.val).intCause - ((s.fn f.val).intCause &&& v.toNat) } ∧
      ∀ g, g ≠ f.val → u.fn g = s.fn g) ∧
    (∃ u, exec (.intCause f true v) s = .next u ∧ u = { s with host := { s.host with fns := u.host.fns } } ∧
      u.fn f.val = { s.fn f.val with ctxCause := (s.fn f.val).ctxCause - ((s.fn f.val).ctxCause &&& v.toNat) } ∧
      ∀ g, g ≠ f.val → u.fn g = s.fn g)) ∧
  (∀ (s : State) up (g w : BitVec 8), s.moduleState < 2 → exec (.pcieLinkTrainingDone up g w) s = .next s) ∧
  (∀ (s : State) (g w : BitVec 8), 2 ≤ s.moduleState →
    (pcieTrains g.toNat w.toNat = false → ∃ u, exec (.pcieLinkTrainingDone true g w) s = .next u ∧
      ObjWrite s u [(kDev 0x1050 1, 0), (kDev 0x1050 2, 0), (kDev 0x1050 3, 0)]) ∧
    (pcieTrains g.toNat w.toNat = true → ∃ u, exec (.pcieLinkTrainingDone true g w) s = .next u ∧ u.obj (kDev 0x1050 1) = 2 ∧ u.obj (kDev 0x1050 2) = g.toNat ∧
      u.obj (kDev 0x1050 3) = w.toNat ∧ u.host.mirrorWait = [] ∧ BytesStay s u ∧
      ∀ c p x bs, s.host.mirrorWait = [(c, p, x, bs)] → bs ≠ [] → x % 4096 + bs.length ≤ 4096 →
        match s.host.ats.find? (fun y => y.1 = p && y.2.1 = x / 4096) with
        | some y => .hostWrite p (y.2.2 * 4096 + x % 4096) bs ∈ u.out
        | none => .atsRequest p (x / 4096) ∈ u.out ∧
          .hostWrite p (Config.atsPage s.free p (x / 4096) * 4096 + x % 4096) bs ∈ u.out) ∧
    (∃ u, exec (.pcieLinkTrainingDone false g w) s = .next u ∧
      ObjWrite s u [(kDev 0x1050 1, 0), (kDev 0x1050 2, 0), (kDev 0x1050 3, 0)])) ∧
  (∀ s : State, ∃ u, exec .perst s = .next u ∧ u.obj (kDev 0x1050 1) = (if s.moduleState < 2 then 0 else 1) ∧
    u.obj (kDev 0x1050 5) = 0 ∧ (∀ f < 9, u.fn f = fnReset (s.fn f)) ∧ u.host.mirrorWait = [] ∧ u.host.window = [] ∧
    u.host.ats = [] ∧ BytesStay s u ∧ u.cores = s.cores) ∧
  (∀ s : State, ∃ u, exec .flrPf s = .next u ∧ u.obj (kDev 0x1050 1) = s.obj (kDev 0x1050 1) ∧ u.obj (kDev 0x1050 5) = 0 ∧
    (∀ f < 9, u.fn f = fnReset (s.fn f)) ∧ u.host.mirrorWait = [] ∧ u.host.window = [] ∧ u.host.ats = [] ∧
    BytesStay s u ∧ u.cores = s.cores) ∧
  (∀ (s : State) (vf : Fin 8), ∃ u, exec (.flrVf vf) s = .next u ∧ u.fn (vf.val + 1) = fnReset (s.fn (vf.val + 1)) ∧
    (∀ f, f ≠ vf.val + 1 → u.fn f = s.fn f) ∧ u.objs = s.objs ∧ BytesStay s u ∧ u.cores = s.cores) ∧
  (∀ (s : State) p g, let u := s.happen (.atsInvalidate p g)
    u = { s with host := u.host } ∧ u.host.ats.find? (fun y => y.1 = p && y.2.1 = g) = none ∧
    ∀ y ∈ s.host.ats, y.1 ≠ p ∨ y.2.1 ≠ g → y ∈ u.host.ats) ∧
  (∀ (s : State) (f : HostFn) w, s.obj (kDev 0x1050 1) ≠ 2 ∨ s.obj (kDev 0x1050 5) < f.val →
    exec (.configurationRequest f w) s = .next s) ∧
  (∀ (s : State) (n : Fin 9), s.obj (kDev 0x1050 1) = 2 → ∃ u, exec (.configurationRequest 0 (.numVfs n)) s = .next u ∧
    ObjsAre s u [(kDev 0x1050 5, n.val)] ∧ (∀ f, f ≤ n.val → u.fn f = s.fn f) ∧
    (∀ f, n.val < f → f ≤ 8 → u.fn f = HostFnSt.empty) ∧ u.cores = s.cores ∧ BytesStay s u) ∧
  (∀ (s : State) (f : HostFn), s.obj (kDev 0x1050 1) = 2 → f.val ≤ s.obj (kDev 0x1050 5) →
    let reads := fun (r : ConfigReg) bs => ∃ u, exec (.configurationRequest f (.read r)) s = .next u ∧
      u = { s with out := .hostRead f.val bs :: s.out, free := s.free + 1 }
    reads .vendorId [0x47, 0x1F] ∧ reads .deviceId (if f.val = 0 then [0x02, 0x07] else [0x03, 0x07]) ∧
    reads .classCode [0x00, 0x00, 0x12] ∧ reads .subsystemVendorId [0x47, 0x1F] ∧
    reads .revisionId [BitVec.ofNat 8 (Config.revision.val + 1)] ∧ reads .subsystemId (toLE 2 Config.order.subsystem) ∧
    (f.val = 0 → (∃ x, x.length = 2 ∧ reads (.vsec 1) ([0x01, 0x00] ++ x)) ∧
      (∃ x, reads (.vsec 2) ([BitVec.ofNat 8 s.moduleState, BitVec.ofNat 8 (s.obj (kDev 0x4100 1)),
        BitVec.ofNat 8 (s.obj (kDev 0x4100 2)), x])) ∧ reads (.vsec 3) (toLE 4 s.fwVersion))) ∧
  (∀ (s : State) (f : HostFn), s.obj (kDev 0x1050 1) = 2 → f.val ≤ s.obj (kDev 0x1050 5) →
    (∃ u, exec (.configurationRequest f (.d3hot true)) s = .next u ∧ u.fn f.val = { s.fn f.val with d3hot := true } ∧
      u.out = s.out ∧ u.objs = s.objs) ∧
    (∃ u, exec (.configurationRequest f (.d3hot false)) s = .next u ∧ (u.fn f.val).d3hot = false ∧
      (u.fn f.val).pend = (s.fn f.val).pend.filter (fun v => (s.fn f.val).masked.contains v)) ∧
    exec (.configurationRequest f .aspmL1) s = .next s ∧
    (∀ (v : Fin 66) m, (s.gate f.val false = .served → ∃ u, exec (.configurationRequest f (.msixMask v m)) s = .next u ∧
        (v.val ∈ (u.fn f.val).masked ↔ m = true)) ∧
      (s.gate f.val false = .unsupported → exec (.configurationRequest f (.msixMask v m)) s = .next s) ∧
      (s.gate f.val false = .refused →
        exec (.configurationRequest f (.msixMask v m)) s = .next (s.cnt16 (kDev 0x1050 6) 1))))

/-! ### The whole machine -/

/-- The model's step (logs 1 and 2, its own choice): with a command at the front of the queue, a step is that command's effect
on the state whose queue is the rest; on an empty queue 10 ns of module time pass (R656), the watchdog of each core whose work
could go on counts the core cycles in them (R146), the first happening that waits takes place (log 154), and nothing else of the
machine changes. -/
def Obligations.StepRunsTheFrontCommand : Prop :=
  (∀ (c : Instr) (r : List Instr) (s : State), s.pending = c :: r → step s = exec c { s with pending := r }) ∧
  (∀ s : State, s.pending = [] → ∃ u : State, u = { s with timeNs := (s.timeNs + 10) % 2 ^ 64, cores := u.cores } ∧
    u.cores.map (fun p => (p.1, { p.2 with wdCount := 0 })) = s.cores.map (fun p => (p.1, { p.2 with wdCount := 0 })) ∧
    (∀ cl < 12, ∀ k < 8, (s.core cl k).task ≠ none → (u.core cl k).wdCount = (s.core cl k).wdCount +
      (if s.moduleState = 3 ∧ s.couldGo cl k = true then s.obj (kDev 0x3020 2) / 100 else 0)) ∧
    (s.env = [] → step s = .next u) ∧
    (∀ h r, s.env = h :: r → step s = .next (({ u with env := r } : State).happen h)))

/-- R656, R657, R429, R157, R203, R290, R291, R375, R450, R501, R529, R597, R632, R665: right after reset the module is in
STANDBY with time 0; no core has a task, no context is RUNNING, every link reads DOWN, and every object holds the default of its
table, of which a list is read as through READ; the input counts as low (log 108); memory and the sidecar read 0 (log 6: for
scratch the model's choice), and the invariant holds. -/
def Obligations.ResetHoldsItsValues : Prop :=
  (State.reset.timeNs = 0 ∧ State.reset.pending = [] ∧ State.reset.moduleState = 0) ∧
  (∀ a, State.reset.byte a = 0 ∧ State.reset.sideOf a = 0) ∧
  (∀ cl < 12, ∀ k < 8, State.reset.siteState cl k = 0 ∧ (State.reset.core cl k).task = none) ∧
  (∀ k, State.reset.obj k = objDefault k) ∧ (∀ n < 64, State.reset.linkState n = 0) ∧ (∀ c < 64, State.reset.ctxState c = 0) ∧
  State.reset.power.inputLow = true ∧ State.reset.power.tripped = false ∧ State.reset.patrol.on = true ∧
  (∀ r ∈ resetValues, ∀ i < r.2.1, leNat (State.reset.readObj (r.1 + i * r.2.2.1) r.2.2.2.1) = r.2.2.2.2) ∧
  Inv State.reset

/-- R429, R430 and the model's canonical form: memory and the sidecar keep it. From every state where both are in canonical form
(keys strictly rising, no entry that equals what an unlisted one reads as), each step, whatever its command, gives a state where
they are; so equal memories stay equal data. -/
def Obligations.StepKeepsTheInvariant : Prop :=
  ∀ s t : State, Inv s → step s = .next t → Inv t

/-- The model never stops, since every error that the spec describes has its effect on the state: every step, of every command
in every state, answers a next state, takes exactly the command at the front of the queue, and the counter of free values never
goes back (log 9). -/
def Obligations.EveryStepAnswersAndTakesOne : Prop :=
  (∀ s : State, ∃ t, step s = .next t ∧ t.pending = s.pending.tail ∧ s.free ≤ t.free) ∧
  (∀ (c : Instr) (s : State), ∃ t, exec c s = .next t ∧ t.pending = s.pending)
end

