-- ==== Sys2Proof/Laws/Map.lean ====
section
/-! SUPPORT. What the operations on sparse stores do: a read after a write, and the canonical form that every write
keeps. -/

namespace Sys2Proof.Machine

variable {α : Type}

@[simp] theorem nget_nil (d : α) (k : Nat) : nget d [] k = d := rfl

theorem nget_nput_same (d : α) (m : NMap α) (k : Nat) (v : α) : nget d (nput k v m) k = v := by
  induction m with
  | nil => simp [nput, nget]
  | cons p r ih =>
    obtain ⟨k', v'⟩ := p
    unfold nput
    split
    · simp [nget]
    · split
      · simp [nget]
      · simp only [nget]
        rw [if_neg (by omega)]
        exact ih

theorem nget_nput_ne (d : α) (m : NMap α) {j k : Nat} (h : j ≠ k) (v : α) : nget d (nput k v m) j = nget d m j := by
  induction m with
  | nil => simp [nput, nget, Ne.symm h]
  | cons p r ih =>
    obtain ⟨k', v'⟩ := p
    unfold nput
    split
    · simp [nget, Ne.symm h]
    · split
      · subst_vars
        simp [nget, Ne.symm h]
      · simp only [nget, ih]

theorem nget_ndel_same (d : α) (m : NMap α) (k : Nat) : nget d (ndel k m) k = d := by
  induction m with
  | nil => rfl
  | cons p r ih =>
    obtain ⟨k', v'⟩ := p
    unfold ndel
    split
    · exact ih
    · simp only [nget]
      rw [if_neg (by omega)]
      exact ih

theorem nget_ndel_ne (d : α) (m : NMap α) {j k : Nat} (h : j ≠ k) : nget d (ndel k m) j = nget d m j := by
  induction m with
  | nil => rfl
  | cons p r ih =>
    obtain ⟨k', v'⟩ := p
    unfold ndel
    split
    · subst_vars
      simp only [nget, ih]
      rw [if_neg (Ne.symm h)]
    · simp only [nget, ih]

/-- A read after a write of a store: the value written at its key, what stood before at every other key. -/
theorem nget_nset [DecidableEq α] (d : α) (m : NMap α) (j k : Nat) (v : α) :
    nget d (nset d m k v) j = if j = k then v else nget d m j := by
  unfold nset
  by_cases hv : v = d
  · by_cases h : j = k
    · subst h
      simp [hv, nget_ndel_same]
    · simp [hv, h, nget_ndel_ne d m h]
  · by_cases h : j = k
    · subst h
      simp [hv, nget_nput_same]
    · simp [hv, h, nget_nput_ne d m h]

@[simp] theorem nget_nset_same [DecidableEq α] (d : α) (m : NMap α) (k : Nat) (v : α) :
    nget d (nset d m k v) k = v := by simp [nget_nset]

theorem nget_nset_ne [DecidableEq α] (d : α) (m : NMap α) {j k : Nat} (h : j ≠ k) (v : α) :
    nget d (nset d m k v) j = nget d m j := by simp [nget_nset, h]

@[simp] theorem nget_nmod_same [DecidableEq α] (d : α) (m : NMap α) (k : Nat) (f : α → α) :
    nget d (nmod d m k f) k = f (nget d m k) := by simp [nmod]

theorem nget_nmod_ne [DecidableEq α] (d : α) (m : NMap α) {j k : Nat} (h : j ≠ k) (f : α → α) :
    nget d (nmod d m k f) j = nget d m j := by simp [nmod, nget_nset_ne d m h]

/-- A read after a run of writes: inside the run the value written there, outside it what stood before. -/
theorem nget_nsetRun [DecidableEq α] (d : α) (l : List α) (m : NMap α) (k j : Nat) :
    nget d (nsetRun d m k l) j = if k ≤ j ∧ j < k + l.length then l.getD (j - k) d else nget d m j := by
  induction l generalizing m k with
  | nil => simp [nsetRun]
  | cons v r ih =>
    simp only [nsetRun, ih, List.length_cons, nget_nset]
    by_cases h : j = k
    · subst h
      simp
    · by_cases h2 : k + 1 ≤ j ∧ j < k + 1 + r.length
      · rw [if_pos h2, if_pos (by omega), show j - k = (j - (k + 1)) + 1 by omega]
        simp
      · rw [if_neg h2, if_neg h, if_neg (by omega)]

/-! ### The canonical form -/

/-- Every key of a store with rising keys lies above the bound, and the form holds after the first key. -/
theorem nwfFrom_cons [DecidableEq α] (d : α) (lo : Option Nat) (k : Nat) (v : α) (r : NMap α) :
    nwfFrom d lo ((k, v) :: r) = true ↔ (∀ l, lo = some l → l < k) ∧ v ≠ d ∧ nwfFrom d (some k) r = true := by
  cases lo <;> simp [nwfFrom, and_assoc]

theorem nwfFrom_mono [DecidableEq α] (d : α) {lo lo' : Option Nat} {m : NMap α}
    (h : nwfFrom d lo m = true) (hl : ∀ k, (∀ l, lo = some l → l < k) → ∀ l, lo' = some l → l < k) :
    nwfFrom d lo' m = true := by
  cases m with
  | nil => rfl
  | cons p r =>
    obtain ⟨k, v⟩ := p
    rw [nwfFrom_cons] at h ⊢
    exact ⟨hl k h.1, h.2⟩

theorem nwfFrom_nput [DecidableEq α] (d : α) (m : NMap α) (lo : Option Nat) (k : Nat) (v : α) (hv : v ≠ d)
    (hlo : ∀ l, lo = some l → l < k) (h : nwfFrom d lo m = true) : nwfFrom d lo (nput k v m) = true := by
  induction m generalizing lo with
  | nil => exact (nwfFrom_cons ..).2 ⟨hlo, hv, rfl⟩
  | cons p r ih =>
    obtain ⟨k', v'⟩ := p
    rw [nwfFrom_cons] at h
    unfold nput
    split
    · next hk => exact (nwfFrom_cons ..).2 ⟨hlo, hv, (nwfFrom_cons ..).2 ⟨by simpa using hk, h.2⟩⟩
    · split
      · next hk =>
        subst hk
        exact (nwfFrom_cons ..).2 ⟨hlo, hv, h.2.2⟩
      · exact (nwfFrom_cons ..).2 ⟨h.1, h.2.1, ih (some k') (by intro l hl; cases hl; omega) h.2.2⟩

theorem nwfFrom_ndel [DecidableEq α] (d : α) (m : NMap α) (lo : Option Nat) (k : Nat)
    (h : nwfFrom d lo m = true) : nwfFrom d lo (ndel k m) = true := by
  induction m generalizing lo with
  | nil => rfl
  | cons p r ih =>
    obtain ⟨k', v'⟩ := p
    rw [nwfFrom_cons] at h
    unfold ndel
    split
    · apply ih
      refine nwfFrom_mono d h.2.2 ?_
      intro j hj l hl
      have h1 := h.1 l hl
      have h2 := hj k' rfl
      omega
    · exact (nwfFrom_cons ..).2 ⟨h.1, h.2.1, ih (some k') h.2.2⟩

/-- A write keeps the canonical form. -/
theorem nwf_nset [DecidableEq α] (d : α) (m : NMap α) (k : Nat) (v : α) (h : nwf d m = true) :
    nwf d (nset d m k v) = true := by
  unfold nset
  split
  · exact nwfFrom_ndel d m none k h
  · next hv => exact nwfFrom_nput d m none k v hv (by simp) h

/-- A run of writes keeps the canonical form. -/
theorem nwf_nsetRun [DecidableEq α] (d : α) (l : List α) (m : NMap α) (k : Nat) (h : nwf d m = true) :
    nwf d (nsetRun d m k l) = true := by
  induction l generalizing m k with
  | nil => exact h
  | cons v r ih => exact ih _ _ (nwf_nset d m k v h)

theorem nwfFrom_filter [DecidableEq α] (d : α) (p : Nat × α → Bool) (m : NMap α) (lo : Option Nat)
    (h : nwfFrom d lo m = true) : nwfFrom d lo (m.filter p) = true := by
  induction m generalizing lo with
  | nil => rfl
  | cons e r ih =>
    obtain ⟨k, v⟩ := e
    rw [nwfFrom_cons] at h
    rw [List.filter_cons]
    split
    · exact (nwfFrom_cons ..).2 ⟨h.1, h.2.1, ih _ h.2.2⟩
    · apply ih
      refine nwfFrom_mono d h.2.2 ?_
      intro j hj l hl
      have h1 := h.1 l hl
      have h2 := hj k rfl
      omega

/-- The removal of keys keeps the canonical form. -/
theorem nwf_nfilterOut [DecidableEq α] (d : α) (p : Nat → Bool) (m : NMap α) (h : nwf d m = true) :
    nwf d (nfilterOut p m) = true := nwfFrom_filter d _ m none h

end Sys2Proof.Machine
end

