-- ==== Sys2Proof/Laws/Keeps.lean ====
section
/-! SUPPORT. What every step keeps: `Keeps s t` says that `t` has the waiting commands of `s`, that memory and the sidecar
stay in canonical form and that no free value is used twice. The files Keeps<Area> prove it of every operation. -/

namespace Sys2Proof.Machine

/-- `t` has come of `s` by effects on everything but the queue, each of which keeps the canonical forms. -/
structure Keeps (s t : State) : Prop where
  pending : t.pending = s.pending
  mem : nwf (0 : Byte) s.mem = true → nwf (0 : Byte) t.mem = true
  side : nwf 0 s.side = true → nwf 0 t.side = true
  free : s.free ≤ t.free

theorem Keeps.refl (s : State) : Keeps s s := ⟨rfl, id, id, le_refl _⟩

theorem Keeps.upd_iff {s0 t : State} (ev tm o ob co di re ch fa vi mc po pa ho mo) :
    Keeps s0 (State.mk t.pending ev tm t.free o t.mem t.side ob co di re ch fa vi mc po pa ho mo) ↔ Keeps s0 t :=
  ⟨fun h => ⟨h.1, h.2, h.3, h.4⟩, fun h => ⟨h.1, h.2, h.3, h.4⟩⟩

theorem Keeps.iteFst {α : Type} {s0 : State} {a b : State × α} {c : Prop} [Decidable c] (h1 : c → Keeps s0 a.1)
    (h2 : ¬ c → Keeps s0 b.1) : Keeps s0 (if c then a else b).1 := by
  split
  · exact h1 ‹_›
  · exact h2 ‹_›

theorem Keeps.ite {s0 a b : State} {c : Prop} [Decidable c] (h1 : c → Keeps s0 a) (h2 : ¬ c → Keeps s0 b) :
    Keeps s0 (if c then a else b) := by
  split
  · exact h1 ‹_›
  · exact h2 ‹_›

theorem Keeps.foldl {β : Type} {s0 s : State} {f : State → β → State} (l : List β)
    (hf : ∀ s x, Keeps s0 s → Keeps s0 (f s x)) (h : Keeps s0 s) : Keeps s0 (l.foldl f s) := by
  induction l generalizing s with
  | nil => exact h
  | cons x l ih => exact ih (hf _ _ h)

theorem Keeps.foldl1 {β γ : Type} {s0 : State} {p : State × γ} {f : State × γ → β → State × γ} (l : List β)
    (hf : ∀ p x, Keeps s0 p.1 → Keeps s0 (f p x).1) (h : Keeps s0 p.1) : Keeps s0 (l.foldl f p).1 := by
  induction l generalizing p with
  | nil => exact h
  | cons x l ih => exact ih (hf _ _ h)

theorem Keeps.getD {s0 s : State} {o : Option State} (ho : ∀ u, o = some u → Keeps s0 u) (h : Keeps s0 s) :
    Keeps s0 (o.getD s) := by
  cases o with
  | none => exact h
  | some u => exact ho u rfl

theorem Keeps.elim {α : Type} {s0 s : State} {o : Option α} {f : α → State} (ho : ∀ u, Keeps s0 (f u)) (h : Keeps s0 s) :
    Keeps s0 (o.elim s f) := by
  cases o with
  | none => exact h
  | some u => exact ho u

theorem Keeps.of_map {α : Type} {s0 t : State} {o : Option α} {f : α → State} (ho : ∀ u, Keeps s0 (f u)) :
    o.map f = some t → Keeps s0 t := by
  cases o with
  | none => intro e; cases e
  | some u => intro e; cases e; exact ho u

theorem Keeps.of_map_some {α : Type} {s0 t : State} {o : Option α} {f : α → State} (ho : ∀ u, o = some u → Keeps s0 (f u)) :
    o.map f = some t → Keeps s0 t := by
  cases o with
  | none => intro e; cases e
  | some u => intro e; cases e; exact ho u rfl

theorem Keeps.fst_eq {β : Type} {s0 a : State} {b : β} {e : State × β} (h : e = (a, b)) (k : Keeps s0 e.1) :
    Keeps s0 a := by
  subst h; exact k

theorem Keeps.of_ok {ε : Type} {s0 u t : State} (k : Keeps s0 u) : (Except.ok u : Except ε State) = .ok t → Keeps s0 t := by
  intro e; cases e; exact k

theorem Keeps.of_some {s0 u t : State} (k : Keeps s0 u) : some u = some t → Keeps s0 t := by
  intro e; cases e; exact k

theorem Keeps.of_next {F R : Type} {s0 u t : State} (k : Keeps s0 u) : (Host.Outcome.next u : Host.Outcome State F R) = .next t →
    Keeps s0 t := by
  intro e; cases e; exact k

theorem Keeps.of_error {ε : Type} {s0 t : State} {x : ε} : (Except.error x : Except ε State) = .ok t → Keeps s0 t := by
  intro e; cases e

theorem Keeps.of_none {s0 t : State} : (none : Option State) = some t → Keeps s0 t := by
  intro e; cases e

theorem Keeps.foldl_ok {β : Type} {s0 s t : State} {f : Except Nat State → β → Except Nat State}
    (hf : ∀ s x t, Keeps s0 s → f (.ok s) x = .ok t → Keeps s0 t) (he : ∀ e x, f (.error e) x = .error e)
    (l : List β) (h : Keeps s0 s) (e : l.foldl f (.ok s) = .ok t) : Keeps s0 t := by
  induction l generalizing s with
  | nil => cases e; exact h
  | cons x l ih =>
    rw [List.foldl_cons] at e
    cases hx : f (.ok s) x with
    | ok u =>
      rw [hx] at e
      exact ih (hf _ _ _ h hx) e
    | error c =>
      rw [hx] at e
      have : ∀ l : List β, l.foldl f (.error c) = .error c := by
        intro l
        induction l with
        | nil => rfl
        | cons y l ih => rw [List.foldl_cons, he, ih]
      rw [this] at e
      cases e

theorem State.tick_keeps {s0 s : State} (h : Keeps s0 s) : Keeps s0 s.tick := ⟨h.1, h.2, h.3, Nat.le_succ_of_le h.4⟩
theorem State.put_keeps {s0 s : State} (h : Keeps s0 s) (pa bs) : Keeps s0 (s.put pa bs) :=
  ⟨h.1, fun k => nwf_nsetRun _ _ _ _ (h.2 k), h.3, h.4⟩
theorem State.setSide_keeps {s0 s : State} (h : Keeps s0 s) (b e) : Keeps s0 (s.setSide b e) :=
  ⟨h.1, h.2, fun k => nwf_nset _ _ _ _ (h.3 k), h.4⟩
theorem written_keeps {s0 : State} {r : State × Nat} (h : Keeps s0 r.1) : Keeps s0 (written r) := by
  unfold written
  split
  · exact h
  · exact ⟨h.1, h.2, h.3, h.4⟩

end Sys2Proof.Machine
end

