-- ==== Sys2Proof/Laws/KeepsOps.lean ====
section
/-! SUPPORT. `Keeps` for the shared operations (memory and object writes, tables, packets, translation). -/

namespace Sys2Proof.Machine

theorem State.emit_keeps {s0 s : State} (h : Keeps s0 s) (a1) :
    Keeps s0 (State.emit s a1) := by
  unfold State.emit
  try dsimp only
  repeat' first
    | with_reducible assumption
    | simp only [Keeps.upd_iff]

theorem State.setObj_keeps {s0 s : State} (h : Keeps s0 s) (a1 a2) :
    Keeps s0 (State.setObj s a1 a2) := by
  unfold State.setObj
  try dsimp only
  repeat' first
    | with_reducible assumption
    | simp only [Keeps.upd_iff]

theorem State.cnt48_keeps {s0 s : State} (h : Keeps s0 s) (a1 a2) :
    Keeps s0 (State.cnt48 s a1 a2) := by
  unfold State.cnt48
  try dsimp only
  repeat' first
    | with_reducible assumption
    | with_reducible refine State.setObj_keeps ?_ _ _

theorem State.cnt16_keeps {s0 s : State} (h : Keeps s0 s) (a1 a2) :
    Keeps s0 (State.cnt16 s a1 a2) := by
  unfold State.cnt16
  try dsimp only
  repeat' first
    | with_reducible assumption
    | with_reducible refine State.setObj_keeps ?_ _ _

theorem State.clearSubs_keeps {s0 s : State} (h : Keeps s0 s) (a1 a2 a3) :
    Keeps s0 (State.clearSubs s a1 a2 a3) := by
  unfold State.clearSubs
  try dsimp only
  repeat' first
    | with_reducible assumption
    | with_reducible refine State.setObj_keeps ?_ _ _
    | with_reducible refine Keeps.foldl _ (fun _ _ _ => ?_) ?_

theorem State.modCtx_keeps {s0 s : State} (h : Keeps s0 s) (a1 a2) :
    Keeps s0 (State.modCtx s a1 a2) := by
  unfold State.modCtx
  try dsimp only
  repeat' first
    | with_reducible assumption
    | simp only [Keeps.upd_iff]

theorem State.setCore_keeps {s0 s : State} (h : Keeps s0 s) (a1 a2 a3) :
    Keeps s0 (State.setCore s a1 a2 a3) := by
  unfold State.setCore
  try dsimp only
  repeat' first
    | with_reducible assumption
    | simp only [Keeps.upd_iff]

theorem State.modCore_keeps {s0 s : State} (h : Keeps s0 s) (a1 a2 a3) :
    Keeps s0 (State.modCore s a1 a2 a3) := by
  unfold State.modCore
  try dsimp only
  repeat' first
    | with_reducible assumption
    | with_reducible refine State.setCore_keeps ?_ _ _ _

theorem State.modLink_keeps {s0 s : State} (h : Keeps s0 s) (a1 a2) :
    Keeps s0 (State.modLink s a1 a2) := by
  unfold State.modLink
  try dsimp only
  repeat' first
    | with_reducible assumption
    | simp only [Keeps.upd_iff]

theorem State.modFn_keeps {s0 s : State} (h : Keeps s0 s) (a1 a2) :
    Keeps s0 (State.modFn s a1 a2) := by
  unfold State.modFn
  try dsimp only
  repeat' first
    | with_reducible assumption
    | simp only [Keeps.upd_iff]

theorem State.modQueue_keeps {s0 s : State} (h : Keeps s0 s) (a1 a2 a3) :
    Keeps s0 (State.modQueue s a1 a2 a3) := by
  unfold State.modQueue
  try dsimp only
  repeat' first
    | with_reducible assumption
    | simp only [Keeps.upd_iff]

theorem State.modLeases_keeps {s0 s : State} (h : Keeps s0 s) (a1 a2) :
    Keeps s0 (State.modLeases s a1 a2) := by
  unfold State.modLeases
  try dsimp only
  repeat' first
    | with_reducible assumption
    | simp only [Keeps.upd_iff]

theorem State.raise_keeps {s0 s : State} (h : Keeps s0 s) (a1 a2) :
    Keeps s0 (State.raise s a1 a2) := by
  unfold State.raise
  try dsimp only
  repeat' first
    | with_reducible assumption
    | with_reducible refine State.modFn_keeps ?_ _ _
    | with_reducible refine State.emit_keeps ?_ _
    | with_reducible refine Keeps.ite (fun _ => ?_) (fun _ => ?_)

theorem State.notifyEvent_keeps {s0 s : State} (h : Keeps s0 s) (a1) :
    Keeps s0 (State.notifyEvent s a1) := by
  unfold State.notifyEvent
  try dsimp only
  repeat' first
    | with_reducible assumption
    | with_reducible refine State.cnt48_keeps ?_ _ _
    | with_reducible refine State.emit_keeps ?_ _
    | with_reducible refine Keeps.ite (fun _ => ?_) (fun _ => ?_)
    | with_reducible refine Keeps.foldl _ (fun _ _ _ => ?_) ?_

theorem State.raiseEvent_keeps {s0 s : State} (h : Keeps s0 s) (a1) :
    Keeps s0 (State.raiseEvent s a1) := by
  unfold State.raiseEvent
  try dsimp only
  repeat' first
    | with_reducible assumption
    | with_reducible refine State.raise_keeps ?_ _ _
    | with_reducible refine Keeps.ite (fun _ => ?_) (fun _ => ?_)

theorem State.addEvent_keeps {s0 s : State} (h : Keeps s0 s) (a1 a2 a3 a4 a5 a6) :
    Keeps s0 (State.addEvent s a1 a2 a3 a4 a5 a6) := by
  unfold State.addEvent
  try dsimp only
  repeat' first
    | with_reducible assumption
    | with_reducible refine State.setObj_keeps ?_ _ _
    | with_reducible refine State.raiseEvent_keeps ?_ _
    | with_reducible refine State.notifyEvent_keeps ?_ _
    | simp only [Keeps.upd_iff]
    | with_reducible refine Keeps.ite (fun _ => ?_) (fun _ => ?_)
    | split

theorem State.event_keeps {s0 s : State} (h : Keeps s0 s) (a1 a2 a3 a4 a5) :
    Keeps s0 (State.event s a1 a2 a3 a4 a5) := by
  unfold State.event
  try dsimp only
  repeat' first
    | with_reducible assumption
    | with_reducible refine State.cnt16_keeps ?_ _ _
    | with_reducible refine State.addEvent_keeps ?_ _ _ _ _ _ _
    | simp only [Keeps.upd_iff]
    | with_reducible refine Keeps.ite (fun _ => ?_) (fun _ => ?_)

theorem State.putWord_keeps {s0 s : State} (h : Keeps s0 s) (a1 a2 a3) :
    Keeps s0 (State.putWord s a1 a2 a3) := by
  unfold State.putWord
  try dsimp only
  repeat' first
    | with_reducible assumption
    | with_reducible refine State.put_keeps ?_ _ _

theorem State.unseal_keeps {s0 s : State} (h : Keeps s0 s) (a1) :
    Keeps s0 (State.unseal s a1) := by
  unfold State.unseal
  try dsimp only
  repeat' first
    | with_reducible assumption
    | with_reducible refine State.tick_keeps ?_
    | with_reducible refine State.setSide_keeps ?_ _ _
    | with_reducible refine Keeps.ite (fun _ => ?_) (fun _ => ?_)

theorem State.unsealRange_keeps {s0 s : State} (h : Keeps s0 s) (a1 a2) :
    Keeps s0 (State.unsealRange s a1 a2) := by
  unfold State.unsealRange
  try dsimp only
  repeat' first
    | with_reducible assumption
    | with_reducible refine State.unseal_keeps ?_ _
    | with_reducible refine Keeps.ite (fun _ => ?_) (fun _ => ?_)
    | with_reducible refine Keeps.foldl _ (fun _ _ _ => ?_) ?_

theorem State.seal_keeps {s0 s : State} (h : Keeps s0 s) (a1 a2 a3 a4 a5 a6) :
    Keeps s0 (State.seal s a1 a2 a3 a4 a5 a6) := by
  unfold State.seal
  try dsimp only
  repeat' first
    | with_reducible assumption
    | with_reducible refine State.setSide_keeps ?_ _ _

theorem State.poison_keeps {s0 s : State} (h : Keeps s0 s) (a1) :
    Keeps s0 (State.poison s a1) := by
  unfold State.poison
  try dsimp only
  repeat' first
    | with_reducible assumption
    | with_reducible refine State.setSide_keeps ?_ _ _
    | with_reducible refine Keeps.ite (fun _ => ?_) (fun _ => ?_)

theorem State.unland_keeps {s0 s : State} (h : Keeps s0 s) (a1 a2) :
    Keeps s0 (State.unland s a1 a2) := by
  unfold State.unland
  try dsimp only
  repeat' first
    | with_reducible assumption
    | simp only [Keeps.upd_iff]
    | with_reducible refine Keeps.ite (fun _ => ?_) (fun _ => ?_)
    | with_reducible refine Keeps.foldl _ (fun _ _ _ => ?_) ?_
    | split

theorem State.countWr_keeps {s0 s : State} (h : Keeps s0 s) (a1 a2) :
    Keeps s0 (State.countWr s a1 a2) := by
  unfold State.countWr
  try dsimp only
  repeat' first
    | with_reducible assumption
    | with_reducible refine State.cnt48_keeps ?_ _ _
    | with_reducible refine Keeps.ite (fun _ => ?_) (fun _ => ?_)
    | with_reducible refine Keeps.foldl _ (fun _ _ _ => ?_) ?_

theorem State.countRd_keeps {s0 s : State} (h : Keeps s0 s) (a1 a2) :
    Keeps s0 (State.countRd s a1 a2) := by
  unfold State.countRd
  try dsimp only
  repeat' first
    | with_reducible assumption
    | with_reducible refine State.cnt48_keeps ?_ _ _
    | with_reducible refine Keeps.ite (fun _ => ?_) (fun _ => ?_)
    | with_reducible refine Keeps.foldl _ (fun _ _ _ => ?_) ?_

theorem State.write_keeps {s0 s : State} (h : Keeps s0 s) (a1 a2) :
    Keeps s0 (State.write s a1 a2) := by
  unfold State.write
  try dsimp only
  repeat' first
    | with_reducible assumption
    | with_reducible refine State.countWr_keeps ?_ _ _
    | with_reducible refine State.unland_keeps ?_ _ _
    | with_reducible refine State.unsealRange_keeps ?_ _ _
    | with_reducible refine State.put_keeps ?_ _ _

theorem State.putFree_keeps {s0 s : State} (h : Keeps s0 s) (a1 a2) :
    Keeps s0 (State.putFree s a1 a2) := by
  unfold State.putFree
  try dsimp only
  repeat' first
    | with_reducible assumption
    | with_reducible refine State.tick_keeps ?_
    | with_reducible refine State.put_keeps ?_ _ _

theorem State.maybeUnseal_keeps {s0 s : State} (h : Keeps s0 s) (a1 a2) :
    Keeps s0 (State.maybeUnseal s a1 a2) := by
  unfold State.maybeUnseal
  try dsimp only
  repeat' first
    | with_reducible assumption
    | with_reducible refine State.unsealRange_keeps ?_ _ _
    | with_reducible refine State.tick_keeps ?_
    | with_reducible refine Keeps.ite (fun _ => ?_) (fun _ => ?_)

theorem State.undefine_keeps {s0 s : State} (h : Keeps s0 s) (a1 a2) :
    Keeps s0 (State.undefine s a1 a2) := by
  unfold State.undefine
  try dsimp only
  repeat' first
    | with_reducible assumption
    | with_reducible refine State.maybeUnseal_keeps ?_ _ _
    | with_reducible refine State.putFree_keeps ?_ _ _

theorem State.writeFree_keeps {s0 s : State} (h : Keeps s0 s) (a1 a2) :
    Keeps s0 (State.writeFree s a1 a2) := by
  unfold State.writeFree
  try dsimp only
  repeat' first
    | with_reducible assumption
    | with_reducible refine State.tick_keeps ?_
    | with_reducible refine State.write_keeps ?_ _ _

theorem State.writeSealed_keeps {s0 s : State} (h : Keeps s0 s) (a1 a2 a3 a4 a5 a6) :
    Keeps s0 (State.writeSealed s a1 a2 a3 a4 a5 a6) := by
  unfold State.writeSealed
  try dsimp only
  repeat' first
    | with_reducible assumption
    | with_reducible refine State.seal_keeps ?_ _ _ _ _ _ _
    | with_reducible refine State.countWr_keeps ?_ _ _
    | with_reducible refine State.put_keeps ?_ _ _

theorem State.tagAdd_keeps {s0 s : State} (h : Keeps s0 s) (a1 a2 a3) :
    Keeps s0 (State.tagAdd s a1 a2 a3) := by
  unfold State.tagAdd
  try dsimp only
  repeat' first
    | with_reducible assumption
    | with_reducible refine State.cnt48_keeps ?_ _ _
    | with_reducible refine State.putWord_keeps ?_ _ _ _

theorem State.setRelay_keeps {s0 s : State} (h : Keeps s0 s) (a1 a2 a3 a4 a5) :
    Keeps s0 (State.setRelay s a1 a2 a3 a4 a5) := by
  unfold State.setRelay
  try dsimp only
  repeat' first
    | with_reducible assumption
    | with_reducible refine State.putWord_keeps ?_ _ _ _

theorem State.noService_keeps {s0 s : State} (h : Keeps s0 s) (a1 a2) :
    Keeps s0 (State.noService s a1 a2) := by
  unfold State.noService
  try dsimp only
  repeat' first
    | with_reducible assumption
    | with_reducible refine State.emit_keeps ?_ _
    | with_reducible refine Keeps.ite (fun _ => ?_) (fun _ => ?_)

theorem State.through_keeps {s0 s : State} (h : Keeps s0 s) (f win rd k) (hk : Keeps s0 (k s)) :
    Keeps s0 (State.through s f win rd k) := by
  unfold State.through
  split
  · exact h
  · exact State.noService_keeps h _ _
  · exact State.noService_keeps (State.cnt16_keeps h _ _) _ _
  · exact hk

theorem State.modTask_keeps {s0 s : State} (h : Keeps s0 s) (a1 a2 a3) :
    Keeps s0 (State.modTask s a1 a2 a3) := by
  unfold State.modTask
  try dsimp only
  repeat' first
    | with_reducible assumption
    | with_reducible refine State.modCore_keeps ?_ _ _ _

theorem State.taskFail_keeps {s0 s : State} (h : Keeps s0 s) (a1 a2 a3) :
    Keeps s0 (State.taskFail s a1 a2 a3) := by
  unfold State.taskFail
  try dsimp only
  repeat' first
    | with_reducible assumption
    | with_reducible refine State.modCore_keeps ?_ _ _ _

theorem State.taskEv_keeps {s0 s : State} (h : Keeps s0 s) (a1 a2 a3) :
    Keeps s0 (State.taskEv s a1 a2 a3) := by
  unfold State.taskEv
  try dsimp only
  repeat' first
    | with_reducible assumption
    | with_reducible refine State.modTask_keeps ?_ _ _ _

theorem State.setTable_keeps {s0 s : State} (h : Keeps s0 s) (a1 a2) :
    Keeps s0 (State.setTable s a1 a2) := by
  unfold State.setTable
  try dsimp only
  repeat' first
    | with_reducible assumption
    | simp only [Keeps.upd_iff]

theorem State.refTable_keeps {s0 s : State} (h : Keeps s0 s) (a1) :
    Keeps s0 (State.refTable s a1) := by
  unfold State.refTable
  try dsimp only
  repeat' first
    | with_reducible assumption
    | with_reducible refine State.setTable_keeps ?_ _ _
    | split

theorem State.unrefTable_keeps {s0 s : State} (h : Keeps s0 s) (a1) :
    Keeps s0 (State.unrefTable s a1) := by
  unfold State.unrefTable
  try dsimp only
  repeat' first
    | with_reducible assumption
    | with_reducible refine State.setTable_keeps ?_ _ _
    | split

theorem State.setEState_keeps {s0 s : State} (h : Keeps s0 s) (a1 a2 a3) :
    Keeps s0 (State.setEState s a1 a2 a3) := by
  unfold State.setEState
  try dsimp only
  repeat' first
    | with_reducible assumption
    | with_reducible refine State.setObj_keeps ?_ _ _

theorem State.modEntry_keeps {s0 s : State} (h : Keeps s0 s) (a1 a2 a3) :
    Keeps s0 (State.modEntry s a1 a2 a3) := by
  unfold State.modEntry
  try dsimp only
  repeat' first
    | with_reducible assumption
    | simp only [Keeps.upd_iff]

theorem State.leaveEntry_keeps {s0 s : State} (h : Keeps s0 s) (a1 a2) :
    Keeps s0 (State.leaveEntry s a1 a2) := by
  unfold State.leaveEntry
  try dsimp only
  repeat' first
    | with_reducible assumption
    | with_reducible refine State.setEState_keeps ?_ _ _ _
    | with_reducible refine State.event_keeps ?_ _ _ _ _ _
    | with_reducible refine State.modEntry_keeps ?_ _ _ _
    | with_reducible refine State.setObj_keeps ?_ _ _
    | with_reducible refine Keeps.ite (fun _ => ?_) (fun _ => ?_)

theorem State.unrefEntry_keeps {s0 s : State} (h : Keeps s0 s) (a1 a2 a3) :
    Keeps s0 (State.unrefEntry s a1 a2 a3) := by
  unfold State.unrefEntry
  try dsimp only
  repeat' first
    | with_reducible assumption
    | with_reducible refine State.setObj_keeps ?_ _ _
    | with_reducible refine State.leaveEntry_keeps ?_ _ _
    | with_reducible refine Keeps.ite (fun _ => ?_) (fun _ => ?_)

theorem State.bindVersion_keeps {s0 s : State} (h : Keeps s0 s) (a1) :
    Keeps s0 (State.bindVersion s a1) := by
  unfold State.bindVersion
  try dsimp only
  repeat' first
    | with_reducible assumption
    | with_reducible refine State.setObj_keeps ?_ _ _
    | split

theorem State.unbindVersion_keeps {s0 s : State} (h : Keeps s0 s) (a1) :
    Keeps s0 (State.unbindVersion s a1) := by
  unfold State.unbindVersion
  try dsimp only
  repeat' first
    | with_reducible assumption
    | with_reducible refine State.unrefEntry_keeps ?_ _ _ _
    | split

theorem writePieces_keeps {s0 s : State} (h : Keeps s0 s) (l bs) : Keeps s0 (writePieces s l bs) := by
  induction l generalizing s bs with
  | nil => exact h
  | cons p r ih =>
    unfold writePieces
    exact ih (State.write_keeps h _ _) _

theorem State.writeVa_keeps {s0 s t : State} (h : Keeps s0 s) {a1 a2 a3} (e : (State.writeVa s a1 a2 a3) = .ok t) :
    Keeps s0 t := by
  revert e
  unfold State.writeVa
  try dsimp only
  repeat' first
    | with_reducible refine Keeps.of_ok ?_
    | with_reducible exact Keeps.of_error
    | with_reducible assumption
    | with_reducible refine writePieces_keeps ?_ _ _
    | split

theorem State.tryWriteVa_keeps {s0 s : State} (h : Keeps s0 s) (a1 a2 a3) :
    Keeps s0 (State.tryWriteVa s a1 a2 a3) := by
  unfold State.tryWriteVa
  try dsimp only
  repeat' first
    | with_reducible assumption
    | refine State.writeVa_keeps ?_ (by with_reducible assumption)
    | split

theorem State.queueOn_keeps {s0 s : State} (h : Keeps s0 s) (a1 a2) :
    Keeps s0 (State.queueOn s a1 a2) := by
  unfold State.queueOn
  try dsimp only
  repeat' first
    | with_reducible assumption
    | with_reducible refine State.modLink_keeps ?_ _ _

theorem State.deliver_keeps {s0 s : State} (h : Keeps s0 s) (a1) :
    Keeps s0 (State.deliver s a1) := by
  unfold State.deliver
  try dsimp only
  repeat' first
    | with_reducible assumption
    | with_reducible refine State.refTable_keeps ?_ _
    | simp only [Keeps.upd_iff]

theorem State.deliverHere_keeps {s0 s : State} (h : Keeps s0 s) (a1) :
    Keeps s0 (State.deliverHere s a1) := by
  unfold State.deliverHere
  try dsimp only
  repeat' first
    | with_reducible assumption
    | with_reducible refine State.deliver_keeps ?_ _

theorem State.injectAt_keeps {s0 s t : State} (h : Keeps s0 s) {a1 a2 a3} (e : (State.injectAt s a1 a2 a3) = .ok t) :
    Keeps s0 t := by
  revert e
  unfold State.injectAt
  try dsimp only
  repeat' first
    | with_reducible refine Keeps.of_ok ?_
    | with_reducible exact Keeps.of_error
    | with_reducible assumption
    | with_reducible refine State.deliverHere_keeps ?_ _
    | with_reducible refine State.queueOn_keeps ?_ _ _
    | split

theorem State.inject_keeps {s0 s t : State} (h : Keeps s0 s) {a1 a2} (e : (State.inject s a1 a2) = .ok t) :
    Keeps s0 t := by
  revert e
  unfold State.inject
  try dsimp only
  repeat' first
    | with_reducible assumption
    | with_reducible refine fun e => State.injectAt_keeps ?_ e

theorem State.injectOr_keeps {s0 s : State} (h : Keeps s0 s) (a1 a2) :
    Keeps s0 (State.injectOr s a1 a2) := by
  unfold State.injectOr
  try dsimp only
  repeat' first
    | with_reducible assumption
    | refine State.inject_keeps ?_ (by with_reducible assumption)
    | with_reducible refine State.cnt16_keeps ?_ _ _
    | split

theorem State.sendCopy_keeps {s0 s : State} (h : Keeps s0 s) (a1 a2 a3 a4 a5 a6 a7 a8) :
    Keeps s0 (State.sendCopy s a1 a2 a3 a4 a5 a6 a7 a8) := by
  unfold State.sendCopy
  try dsimp only
  repeat' first
    | with_reducible assumption
    | with_reducible refine State.queueOn_keeps ?_ _ _
    | refine State.injectAt_keeps ?_ (by with_reducible assumption)
    | with_reducible refine State.cnt16_keeps ?_ _ _
    | split

theorem State.bcastStart_keeps {s0 s t : State} (h : Keeps s0 s) {a1 a2 a3 a4} (e : (State.bcastStart s a1 a2 a3 a4) = .ok t) :
    Keeps s0 t := by
  revert e
  unfold State.bcastStart
  try dsimp only
  repeat' first
    | with_reducible refine Keeps.of_ok ?_
    | with_reducible exact Keeps.of_error
    | with_reducible assumption
    | with_reducible refine State.sendCopy_keeps ?_ _ _ _ _ _ _ _ _
    | with_reducible refine State.deliverHere_keeps ?_ _
    | with_reducible refine Keeps.foldl _ (fun _ _ _ => ?_) ?_
    | split

theorem State.bcastForward_keeps {s0 s : State} (h : Keeps s0 s) (a1 a2 a3) :
    Keeps s0 (State.bcastForward s a1 a2 a3) := by
  unfold State.bcastForward
  try dsimp only
  repeat' first
    | with_reducible assumption
    | with_reducible refine State.sendCopy_keeps ?_ _ _ _ _ _ _ _ _
    | with_reducible refine Keeps.ite (fun _ => ?_) (fun _ => ?_)
    | with_reducible refine Keeps.foldl _ (fun _ _ _ => ?_) ?_
    | split

end Sys2Proof.Machine
end

