-- ==== Sys2Proof/Laws/KeepsCompute.lean ====
section
/-! SUPPORT. `Keeps` for the vector engine and the matrix arrays. -/

namespace Sys2Proof.Machine

theorem State.mmaIssue_keeps {s0 s : State} (h : Keeps s0 s) (a1 a2) :
    Keeps s0 (State.mmaIssue s a1 a2) := by
  unfold State.mmaIssue
  try dsimp only
  repeat' first
    | with_reducible assumption
    | with_reducible refine State.setCore_keeps ?_ _ _ _
    | with_reducible refine State.cnt48_keeps ?_ _ _
    | with_reducible refine State.taskEv_keeps ?_ _ _ _
    | with_reducible refine Keeps.ite (fun _ => ?_) (fun _ => ?_)
    | split

theorem State.bankFill_keeps {s0 s : State} (h : Keeps s0 s) (a1 a2 a3) :
    Keeps s0 (State.bankFill s a1 a2 a3) := by
  unfold State.bankFill
  try dsimp only
  repeat' first
    | with_reducible assumption
    | with_reducible refine State.taskEv_keeps ?_ _ _ _
    | with_reducible refine State.setCore_keeps ?_ _ _ _
    | with_reducible refine Keeps.ite (fun _ => ?_) (fun _ => ?_)
    | split

theorem State.drain_keeps {s0 s : State} (h : Keeps s0 s) (a1 a2 a3 a4) :
    Keeps s0 (State.drain s a1 a2 a3 a4) := by
  unfold State.drain
  try dsimp only
  repeat' first
    | with_reducible assumption
    | with_reducible refine State.taskEv_keeps ?_ _ _ _
    | with_reducible refine State.setCore_keeps ?_ _ _ _
    | with_reducible refine State.modTask_keeps ?_ _ _ _
    | with_reducible refine State.cnt48_keeps ?_ _ _
    | with_reducible refine Keeps.ite (fun _ => ?_) (fun _ => ?_)
    | split

theorem State.slabDelivery_keeps {s0 s : State} (h : Keeps s0 s) (a1 a2 a3) :
    Keeps s0 (State.slabDelivery s a1 a2 a3) := by
  unfold State.slabDelivery
  try dsimp only
  repeat' first
    | with_reducible assumption
    | with_reducible refine State.setCore_keeps ?_ _ _ _
    | with_reducible refine State.tagAdd_keeps ?_ _ _ _
    | split

theorem State.schussRun_keeps {s0 s : State} (h : Keeps s0 s) (a1 a2) :
    Keeps s0 (State.schussRun s a1 a2) := by
  unfold State.schussRun
  try dsimp only
  repeat' first
    | with_reducible assumption
    | with_reducible refine State.cnt48_keeps ?_ _ _
    | with_reducible refine State.taskEv_keeps ?_ _ _ _
    | with_reducible refine State.setCore_keeps ?_ _ _ _
    | split

end Sys2Proof.Machine
end

