-- ==== Sys2Proof/Laws/KeepsMover.lean ====
section
/-! SUPPORT. `Keeps` for mover descriptors, records and TAKE. -/

namespace Sys2Proof.Machine

/-- The states that an attempt to run a descriptor leaves. -/
def RKeeps (s0 : State) : MoveRes → Prop
  | .wait => True
  | .fail _ t => Keeps s0 t
  | .part _ t => Keeps s0 t
  | .done t => Keeps s0 t

theorem RKeeps.wait {s0 : State} : RKeeps s0 .wait := trivial
theorem RKeeps.fail {s0 t : State} {c : Nat} (h : Keeps s0 t) : RKeeps s0 (.fail c t) := h
theorem RKeeps.done {s0 t : State} (h : Keeps s0 t) : RKeeps s0 (.done t) := h
theorem RKeeps.part {s0 t : State} {n : Nat} (h : Keeps s0 t) : RKeeps s0 (.part n t) := h
theorem RKeeps.done_eq {s0 t : State} {r : MoveRes} (h : RKeeps s0 r) (e : r = .done t) : Keeps s0 t := by
  subst e; exact h
theorem RKeeps.fail_eq {s0 t : State} {c : Nat} {r : MoveRes} (h : RKeeps s0 r) (e : r = .fail c t) : Keeps s0 t := by
  subst e; exact h
theorem RKeeps.part_eq {s0 t : State} {n : Nat} {r : MoveRes} (h : RKeeps s0 r) (e : r = .part n t) : Keeps s0 t := by
  subst e; exact h
theorem RKeeps.ite {s0 : State} {c : Prop} [Decidable c] {x y : MoveRes} (h1 : RKeeps s0 x) (h2 : RKeeps s0 y) :
    RKeeps s0 (if c then x else y) := by
  split
  · exact h1
  · exact h2
theorem RKeeps.of_inl {α : Type} {s0 : State} {u r : MoveRes} (h : RKeeps s0 u) :
    (Sum.inl u : Sum MoveRes α) = .inl r → RKeeps s0 r := by
  intro e; cases e; exact h
theorem RKeeps.of_inr {α : Type} {s0 : State} {m : α} {r : MoveRes} :
    (Sum.inr m : Sum MoveRes α) = .inl r → RKeeps s0 r := by
  intro e; cases e

theorem RKeeps.iteInl {α : Type} {s0 : State} {r : MoveRes} {c : Prop} [Decidable c] {x y : Sum MoveRes α} (h1 : x = .inl r → RKeeps s0 r)
    (h2 : y = .inl r → RKeeps s0 r) : (if c then x else y) = .inl r → RKeeps s0 r := by
  split
  · exact h1
  · exact h2

theorem State.mvCnt_keeps {s0 s : State} (h : Keeps s0 s) (a1 a2 a3) :
    Keeps s0 (State.mvCnt s a1 a2 a3) := by
  unfold State.mvCnt
  try dsimp only
  repeat' first
    | with_reducible assumption
    | with_reducible refine State.cnt16_keeps ?_ _ _
    | with_reducible refine Keeps.ite (fun _ => ?_) (fun _ => ?_)

theorem State.mvFail_keeps {s0 s : State} (h : Keeps s0 s) (a1 a2) :
    RKeeps s0 (State.mvFail s a1 a2) := by
  unfold State.mvFail
  try dsimp only
  repeat' first
    | with_reducible refine RKeeps.fail ?_
    | with_reducible assumption
    | with_reducible refine State.mvCnt_keeps ?_ _ _ _
    | with_reducible refine Keeps.ite (fun _ => ?_) (fun _ => ?_)

theorem State.writeRuns_keeps {s0 s : State} (h : Keeps s0 s) (a1 a2 a3) :
    Keeps s0 (State.writeRuns s a1 a2 a3) := by
  unfold State.writeRuns
  try dsimp only
  repeat' first
    | with_reducible assumption
    | with_reducible refine State.tryWriteVa_keeps ?_ _ _ _
    | with_reducible refine Keeps.foldl _ (fun _ _ _ => ?_) ?_

theorem State.sealWhole_keeps {s0 s : State} (h : Keeps s0 s) (a1 a2 a3) :
    Keeps s0 (State.sealWhole s a1 a2 a3) := by
  unfold State.sealWhole
  try dsimp only
  repeat' first
    | with_reducible assumption
    | with_reducible refine State.seal_keeps ?_ _ _ _ _ _ _
    | with_reducible refine Keeps.foldl _ (fun _ _ _ => ?_) ?_

theorem State.mvTag_keeps {s0 s : State} (h : Keeps s0 s) (a1 a2) :
    Keeps s0 (State.mvTag s a1 a2) := by
  unfold State.mvTag
  try dsimp only
  repeat' first
    | with_reducible assumption
    | with_reducible refine State.tagAdd_keeps ?_ _ _ _
    | with_reducible refine Keeps.ite (fun _ => ?_) (fun _ => ?_)

theorem State.badBlockEvent_keeps {s0 s : State} (h : Keeps s0 s) (a1) :
    Keeps s0 (State.badBlockEvent s a1) := by
  unfold State.badBlockEvent
  try dsimp only
  repeat' first
    | with_reducible assumption
    | with_reducible refine State.event_keeps ?_ _ _ _ _ _

theorem State.noteBadBlock_keeps {s0 s : State} (h : Keeps s0 s) (a1 a2) :
    Keeps s0 (State.noteBadBlock s a1 a2) := by
  unfold State.noteBadBlock
  try dsimp only
  repeat' first
    | with_reducible assumption
    | with_reducible refine State.badBlockEvent_keeps ?_ _
    | with_reducible refine State.mvCnt_keeps ?_ _ _ _

theorem State.badBlockFail_keeps {s0 s : State} (h : Keeps s0 s) (a1 a2) :
    RKeeps s0 (State.badBlockFail s a1 a2) := by
  unfold State.badBlockFail
  try dsimp only
  repeat' first
    | with_reducible assumption
    | with_reducible refine State.mvFail_keeps ?_ _ _
    | with_reducible refine State.noteBadBlock_keeps ?_ _ _

theorem State.mvCompute_keeps {s0 s : State} {r : MoveRes} (h : Keeps s0 s) {a1 a2 a3 a4 a5 a6} (e : (State.mvCompute s a1 a2 a3 a4 a5 a6) = .inl r) :
    RKeeps s0 r := by
  have wt : (Sum.inl .wait : Sum MoveRes Moved) = .inl r → RKeeps s0 r := RKeeps.of_inl RKeeps.wait
  have fl : ∀ c, (Sum.inl (s.mvFail a1 c) : Sum MoveRes Moved) = .inl r → RKeeps s0 r := fun c => RKeeps.of_inl (State.mvFail_keeps h _ _)
  revert e
  unfold State.mvCompute
  extract_lets dv dstRuns acc p sv srcRuns src dst ext mask chk addr sz rs e
  refine RKeeps.iteInl wt ?_
  clear_value src dst ext mask rs
  split
  · extract_lets
    refine RKeeps.iteInl (fl _) (RKeeps.iteInl (fl _) (RKeeps.iteInl (fl _) (RKeeps.iteInl wt (RKeeps.iteInl (fl _) ?_))))
    split
    · exact RKeeps.of_inl (State.badBlockFail_keeps h _ _)
    · exact RKeeps.iteInl wt RKeeps.of_inr
  · exact fl _

theorem State.sealWith_keeps {s0 s : State} (h : Keeps s0 s) (a1 a2 a3 a4) :
    Keeps s0 (State.sealWith s a1 a2 a3 a4) := by
  unfold State.sealWith
  try dsimp only
  repeat' first
    | with_reducible assumption
    | with_reducible refine State.seal_keeps ?_ _ _ _ _ _ _
    | with_reducible refine Keeps.ite (fun _ => ?_) (fun _ => ?_)
    | with_reducible refine Keeps.foldl _ (fun _ _ _ => ?_) ?_
    | split

theorem State.mvWrite_keeps {s0 s : State} (h : Keeps s0 s) (a1 a2 a3 a4 a5 a6 a7) :
    RKeeps s0 (State.mvWrite s a1 a2 a3 a4 a5 a6 a7) := by
  unfold State.mvWrite
  extract_lets acc sums s1 s2 ds s3 n s4 dp n' s5 s6
  split
  · exact State.mvFail_keeps h _ _
  · have h2 : Keeps s0 s2 := by
      refine Keeps.ite (fun _ => State.modCore_keeps ?_ _ _ _) (fun _ => ?_)
      all_goals exact Keeps.ite (fun _ => Keeps.foldl _ (fun _ _ k => Keeps.ite (fun _ => k) (fun _ => State.countRd_keeps k _ _)) h) (fun _ => h)
    clear_value s2
    split
    · have h4 : Keeps s0 s4 := State.cnt48_keeps (State.taskEv_keeps (State.modCore_keeps h2 _ _ _) _ _ _) _ _
      split
      · exact RKeeps.part h4
      · exact RKeeps.done h4
    · have h3 : Keeps s0 s5 := State.writeRuns_keeps h2 _ _ _
      refine RKeeps.done (State.mvTag_keeps (State.cnt48_keeps (State.taskEv_keeps ?_ _ _ _) _ _) _ _)
      exact Keeps.ite (fun _ => State.sealWith_keeps h3 _ _ _ _) (fun _ => Keeps.ite (fun _ => State.sealWhole_keeps h3 _ _ _) (fun _ => h3))

theorem State.injectWrites_keeps {s0 s u : State} (h : Keeps s0 s) {t d serial npkt sums ps}
    (e : s.injectWrites t d serial npkt sums ps = .ok u) : Keeps s0 u := by
  induction ps generalizing s with
  | nil => cases e; exact h
  | cons p ps ih =>
    unfold State.injectWrites at e
    split at e
    · cases e
    · next e1 => exact ih (State.inject_keeps h e1) e

theorem State.sendWrites_keeps {s0 s : State} (h : Keeps s0 s) (a1 a2 a3 a4 a5) :
    RKeeps s0 (State.sendWrites s a1 a2 a3 a4 a5) := by
  unfold State.sendWrites
  dsimp only
  refine RKeeps.ite (State.mvFail_keeps h _ _) ?_
  generalize hr : State.injectWrites _ _ _ _ _ _ _ = r
  cases r with
  | error e => exact RKeeps.fail h
  | ok u =>
    refine RKeeps.done (State.modTask_keeps ?_ _ _ _)
    simp only [Keeps.upd_iff]
    exact State.injectWrites_keeps h hr

theorem State.sendBcast_keeps {s0 s : State} (h : Keeps s0 s) (a1 a2 a3 a4 a5) :
    RKeeps s0 (State.sendBcast s a1 a2 a3 a4 a5) := by
  unfold State.sendBcast
  try dsimp only
  repeat' first
    | with_reducible refine RKeeps.fail ?_
    | with_reducible refine RKeeps.part ?_
    | with_reducible refine RKeeps.done ?_
    | with_reducible assumption
    | with_reducible refine State.mvFail_keeps ?_ _ _
    | refine State.bcastStart_keeps ?_ (by with_reducible assumption)
    | with_reducible refine State.modTask_keeps ?_ _ _ _
    | refine Keeps.foldl_ok (fun _ _ _ _ _ => ?_) (fun _ _ => rfl) _ ?_ (by with_reducible assumption)
    | split

theorem State.mvSend_keeps {s0 s : State} (h : Keeps s0 s) (a1 a2 a3 a4 a5) :
    RKeeps s0 (State.mvSend s a1 a2 a3 a4 a5) := by
  unfold State.mvSend
  dsimp only
  have h1 := State.taskEv_keeps (Keeps.foldl (f := fun (s : State) (p : Place) => if p.sram then s else s.countRd p.a p.n) a5.srcPlaces
    (fun s x hs => Keeps.ite (fun _ => hs) (fun _ => State.countRd_keeps hs _ _)) h) a1 a2 a5.ev
  have h2 := RKeeps.ite (c := raModule (mDstAddr a4) = noId) (State.sendBcast_keeps h1 a1 a2 a3 a4 a5) (State.sendWrites_keeps h1 a1 a2 a3 a4 a5)
  split
  · next e => exact RKeeps.done (State.cnt48_keeps (State.modCore_keeps (RKeeps.done_eq h2 e) _ _ _) _ _)
  · next e => exact RKeeps.part (State.cnt48_keeps (State.modCore_keeps (RKeeps.part_eq h2 e) _ _ _) _ _)
  · exact h2

theorem State.mvRun_keeps {s0 s : State} (h : Keeps s0 s) (a1 a2 a3 a4 a5 a6) :
    RKeeps s0 (State.mvRun s a1 a2 a3 a4 a5 a6) := by
  unfold State.mvRun
  try dsimp only
  repeat' first
    | with_reducible assumption
    | with_reducible refine State.mvSend_keeps ?_ _ _ _ _ _
    | with_reducible refine State.mvWrite_keeps ?_ _ _ _ _ _ _ _
    | refine State.mvCompute_keeps ?_ (by assumption)
    | split

theorem State.takeAt_keeps {s0 s : State} (h : Keeps s0 s) (a1) :
    Keeps s0 (State.takeAt s a1).1 := by
  unfold State.takeAt
  try dsimp only
  repeat' first
    | with_reducible assumption
    | with_reducible refine State.putWord_keeps ?_ _ _ _
    | with_reducible refine Keeps.iteFst (fun _ => ?_) (fun _ => ?_)

theorem State.takeQ_keeps {s0 s : State} (h : Keeps s0 s) (a1 a2) :
    Keeps s0 (State.takeQ s a1 a2).1 := by
  unfold State.takeQ
  try dsimp only
  repeat' first
    | with_reducible assumption
    | with_reducible refine State.takeAt_keeps ?_ _
    | with_reducible refine State.cnt48_keeps ?_ _ _
    | with_reducible refine State.event_keeps ?_ _ _ _ _ _
    | simp only [Keeps.upd_iff]
    | with_reducible refine Keeps.ite (fun _ => ?_) (fun _ => ?_)
    | with_reducible refine Keeps.iteFst (fun _ => ?_) (fun _ => ?_)

theorem State.atsLookup_keeps {s0 s : State} (h : Keeps s0 s) (a1 a2) :
    Keeps s0 (State.atsLookup s a1 a2).1 := by
  unfold State.atsLookup
  try dsimp only
  repeat' first
    | with_reducible assumption
    | with_reducible refine State.tick_keeps ?_
    | with_reducible refine State.emit_keeps ?_ _
    | simp only [Keeps.upd_iff]
    | split

theorem State.hostPieces_keeps {s0 s : State} (h : Keeps s0 s) (a1 a2 a3) : Keeps s0 (s.hostPieces a1 a2 a3) := by
  induction a2 generalizing s a3 with
  | nil => exact h
  | cons p ps ih =>
    unfold State.hostPieces
    dsimp only
    exact ih (State.emit_keeps (State.atsLookup_keeps h _ _) _) _

theorem State.hostOut_keeps {s0 s : State} (h : Keeps s0 s) (a1 a2 a3) :
    Keeps s0 (State.hostOut s a1 a2 a3) := by
  unfold State.hostOut
  try dsimp only
  repeat' first
    | with_reducible assumption
    | with_reducible refine State.hostPieces_keeps ?_ _ _ _

theorem State.mirrorWrite_keeps {s0 s : State} (h : Keeps s0 s) (a1 a2 a3) :
    Keeps s0 (State.mirrorWrite s a1 a2 a3) := by
  unfold State.mirrorWrite
  try dsimp only
  repeat' first
    | with_reducible assumption
    | with_reducible refine State.hostOut_keeps ?_ _ _ _
    | simp only [Keeps.upd_iff]
    | with_reducible refine Keeps.ite (fun _ => ?_) (fun _ => ?_)

theorem State.mirror_keeps {s0 s : State} (h : Keeps s0 s) (a1 a2) :
    Keeps s0 (State.mirror s a1 a2) := by
  unfold State.mirror
  try dsimp only
  repeat' first
    | with_reducible assumption
    | with_reducible refine State.cnt16_keeps ?_ _ _
    | with_reducible refine State.mirrorWrite_keeps ?_ _ _ _
    | with_reducible refine State.setObj_keeps ?_ _ _
    | with_reducible refine Keeps.ite (fun _ => ?_) (fun _ => ?_)

theorem State.complete_keeps {s0 s : State} (h : Keeps s0 s) (a1 a2 a3 a4) :
    Keeps s0 (State.complete s a1 a2 a3 a4) := by
  unfold State.complete
  try dsimp only
  repeat' first
    | with_reducible assumption
    | refine State.writeVa_keeps ?_ (by with_reducible assumption)
    | with_reducible refine State.cnt48_keeps ?_ _ _
    | with_reducible refine State.mirror_keeps ?_ _ _
    | with_reducible refine State.modQueue_keeps ?_ _ _ _
    | split

theorem State.setLease_keeps {s0 s : State} (h : Keeps s0 s) (a1 a2) :
    Keeps s0 (State.setLease s a1 a2) := by
  unfold State.setLease
  try dsimp only
  repeat' first
    | with_reducible assumption
    | with_reducible refine State.modLeases_keeps ?_ _ _

theorem State.modLease_keeps {s0 s : State} (h : Keeps s0 s) (a1 a2 a3 a4 a5) :
    Keeps s0 (State.modLease s a1 a2 a3 a4 a5) := by
  unfold State.modLease
  try dsimp only
  repeat' first
    | with_reducible assumption
    | with_reducible refine State.modLeases_keeps ?_ _ _

theorem State.dropLease_keeps {s0 s : State} (h : Keeps s0 s) (a1 a2 a3 a4) :
    Keeps s0 (State.dropLease s a1 a2 a3 a4) := by
  unfold State.dropLease
  try dsimp only
  repeat' first
    | with_reducible assumption
    | with_reducible refine State.modLease_keeps ?_ _ _ _ _ _

theorem State.renew_keeps {s0 s : State} (h : Keeps s0 s) (a1 a2) :
    Keeps s0 (State.renew s a1 a2) := by
  unfold State.renew
  try dsimp only
  repeat' first
    | with_reducible assumption
    | with_reducible refine State.modLease_keeps ?_ _ _ _ _ _
    | with_reducible refine Keeps.ite (fun _ => ?_) (fun _ => ?_)

theorem State.modGroup_keeps {s0 s : State} (h : Keeps s0 s) (a1 a2 a3) :
    Keeps s0 (State.modGroup s a1 a2 a3) := by
  unfold State.modGroup
  try dsimp only
  repeat' first
    | with_reducible assumption
    | simp only [Keeps.upd_iff]

theorem State.takeHead_keeps {s0 s : State} (h : Keeps s0 s) (a1 a2) :
    Keeps s0 (State.takeHead s a1 a2).1 := by
  unfold State.takeHead
  try dsimp only
  repeat' first
    | with_reducible assumption
    | with_reducible refine State.takeQ_keeps ?_ _ _
    | with_reducible refine State.modQueue_keeps ?_ _ _ _

theorem State.finishHead_keeps {s0 s : State} (h : Keeps s0 s) (a1 a2 a3 a4 a5) :
    Keeps s0 (State.finishHead s a1 a2 a3 a4 a5) := by
  unfold State.finishHead
  try dsimp only
  repeat' first
    | with_reducible assumption
    | with_reducible refine State.complete_keeps ?_ _ _ _ _

theorem State.unreadHead_keeps {s0 s : State} (h : Keeps s0 s) (a1 a2 a3) :
    Keeps s0 (State.unreadHead s a1 a2 a3) := by
  unfold State.unreadHead
  try dsimp only
  repeat' first
    | with_reducible assumption
    | with_reducible refine State.takeHead_keeps ?_ _ _
    | with_reducible refine State.tick_keeps ?_
    | with_reducible refine State.finishHead_keeps ?_ _ _ _ _ _

theorem State.noteStep_keeps {s0 s : State} (h : Keeps s0 s) (a1 a2) :
    Keeps s0 (State.noteStep s a1 a2) := by
  unfold State.noteStep
  try dsimp only
  repeat' first
    | with_reducible assumption
    | with_reducible refine State.modGroup_keeps ?_ _ _ _
    | with_reducible refine Keeps.ite (fun _ => ?_) (fun _ => ?_)

end Sys2Proof.Machine
end

