-- ==== Sys2Proof/Laws/KeepsMoverOps.lean ====
section
/-! SUPPORT. `Keeps` for adder blocks, the mover operations and fences. -/

namespace Sys2Proof.Machine

theorem State.countOpen_keeps {s0 s : State} (h : Keeps s0 s) :
    Keeps s0 (State.countOpen s) := by
  unfold State.countOpen
  try dsimp only
  repeat' first
    | with_reducible assumption
    | with_reducible refine State.setObj_keeps ?_ _ _
    | with_reducible refine Keeps.foldl _ (fun _ _ _ => ?_) ?_

theorem State.modRed_keeps {s0 s : State} (h : Keeps s0 s) (a1 a2 a3) :
    Keeps s0 (State.modRed s a1 a2 a3) := by
  unfold State.modRed
  try dsimp only
  repeat' first
    | with_reducible assumption
    | simp only [Keeps.upd_iff]

theorem State.sealPieces_keeps {s0 s : State} (h : Keeps s0 s) (a1 a2 a3 a4 a5) :
    Keeps s0 (State.sealPieces s a1 a2 a3 a4 a5) := by
  unfold State.sealPieces
  try dsimp only
  repeat' first
    | with_reducible assumption
    | with_reducible refine State.seal_keeps ?_ _ _ _ _ _ _
    | with_reducible refine Keeps.foldl _ (fun _ _ _ => ?_) ?_

theorem State.closeRed_keeps {s0 s : State} (h : Keeps s0 s) (a1) :
    Keeps s0 (State.closeRed s a1) := by
  unfold State.closeRed
  try dsimp only
  repeat' first
    | with_reducible assumption
    | with_reducible refine State.tryWriteVa_keeps ?_ _ _ _
    | with_reducible refine State.modRed_keeps ?_ _ _ _
    | with_reducible refine State.tagAdd_keeps ?_ _ _ _
    | with_reducible refine State.countOpen_keeps ?_
    | with_reducible refine State.unrefTable_keeps ?_ _
    | with_reducible refine Keeps.ite (fun _ => ?_) (fun _ => ?_)

theorem State.handleBlock_keeps {s0 s : State} (h : Keeps s0 s) (a1 a2 a3) :
    Keeps s0 (State.handleBlock s a1 a2 a3) := by
  unfold State.handleBlock
  try dsimp only
  repeat' first
    | with_reducible assumption
    | with_reducible refine State.modRed_keeps ?_ _ _ _
    | with_reducible refine State.closeRed_keeps ?_ _
    | with_reducible refine Keeps.ite (fun _ => ?_) (fun _ => ?_)
    | split

theorem State.looseBlock_keeps {s0 s : State} (h : Keeps s0 s) (a1 a2) :
    Keeps s0 (State.looseBlock s a1 a2) := by
  unfold State.looseBlock
  try dsimp only
  repeat' first
    | with_reducible assumption
    | with_reducible refine State.putFree_keeps ?_ _ _
    | with_reducible refine Keeps.foldl _ (fun _ _ _ => ?_) ?_
    | split

theorem State.unwriteBlock_keeps {s0 s : State} (h : Keeps s0 s) (a1 a2) :
    Keeps s0 (State.unwriteBlock s a1 a2) := by
  unfold State.unwriteBlock
  try dsimp only
  repeat' first
    | with_reducible assumption
    | with_reducible refine State.handleBlock_keeps ?_ _ _ _
    | with_reducible refine State.modRed_keeps ?_ _ _ _
    | with_reducible refine State.looseBlock_keeps ?_ _ _

theorem State.rootWrite_keeps {s0 s : State} (h : Keeps s0 s) (a1 a2 a3) :
    Keeps s0 (State.rootWrite s a1 a2 a3) := by
  unfold State.rootWrite
  try dsimp only
  repeat' first
    | with_reducible assumption
    | with_reducible refine State.handleBlock_keeps ?_ _ _ _
    | with_reducible refine State.sealPieces_keeps ?_ _ _ _ _ _
    | with_reducible refine State.tryWriteVa_keeps ?_ _ _ _
    | with_reducible refine State.unwriteBlock_keeps ?_ _ _
    | with_reducible refine State.badBlockEvent_keeps ?_ _
    | with_reducible refine State.modRed_keeps ?_ _ _ _
    | with_reducible refine Keeps.ite (fun _ => ?_) (fun _ => ?_)
    | split

theorem State.clearBitmap_keeps {s0 s : State} (h : Keeps s0 s) (a1 a2) :
    Keeps s0 (State.clearBitmap s a1 a2) := by
  unfold State.clearBitmap
  try dsimp only
  repeat' first
    | with_reducible assumption
    | with_reducible refine State.tryWriteVa_keeps ?_ _ _ _

theorem State.setOccBit_keeps {s0 s : State} (h : Keeps s0 s) (a1 a2 a3) :
    Keeps s0 (State.setOccBit s a1 a2 a3) := by
  unfold State.setOccBit
  try dsimp only
  repeat' first
    | with_reducible assumption
    | with_reducible refine State.tryWriteVa_keeps ?_ _ _ _
    | split

theorem State.openRed_keeps {s0 s : State} (h : Keeps s0 s) (a1 a2 a3 a4) :
    Keeps s0 (State.openRed s a1 a2 a3 a4) := by
  unfold State.openRed
  try dsimp only
  repeat' first
    | with_reducible assumption
    | with_reducible refine State.countOpen_keeps ?_
    | with_reducible refine State.refTable_keeps ?_ _
    | with_reducible refine State.clearBitmap_keeps ?_ _ _
    | with_reducible refine State.rootWrite_keeps ?_ _ _ _
    | simp only [Keeps.upd_iff]
    | with_reducible refine Keeps.ite (fun _ => ?_) (fun _ => ?_)
    | with_reducible refine Keeps.foldl _ (fun _ _ _ => ?_) ?_
    | split

theorem State.register_keeps {s0 s : State} (h : Keeps s0 s) (a1 a2) :
    Keeps s0 (State.register s a1 a2).1 := by
  unfold State.register
  try dsimp only
  repeat' first
    | with_reducible assumption
    | with_reducible refine State.openRed_keeps ?_ _ _ _ _
    | simp only [Keeps.upd_iff]
    | split

theorem State.reducePosition_keeps {s0 s : State} (h : Keeps s0 s) (a1 a2) :
    Keeps s0 (State.reducePosition s a1 a2) := by
  unfold State.reducePosition
  try dsimp only
  repeat' first
    | with_reducible assumption
    | with_reducible refine State.takeHead_keeps ?_ _ _
    | with_reducible refine State.finishHead_keeps ?_ _ _ _ _ _
    | with_reducible refine State.register_keeps ?_ _ _
    | with_reducible refine Keeps.ite (fun _ => ?_) (fun _ => ?_)
    | split

theorem execReducePosition_keeps {s0 s t : State} (h : Keeps s0 s) {a0 a1} (e : (execReducePosition a0 a1 s) = .next t) :
    Keeps s0 t := by
  revert e
  unfold execReducePosition
  try dsimp only
  repeat' first
    | with_reducible refine Keeps.of_next ?_
    | with_reducible assumption
    | with_reducible refine State.reducePosition_keeps ?_ _ _

theorem State.cancelRed_keeps {s0 s : State} (h : Keeps s0 s) (a1 a2) :
    Keeps s0 (State.cancelRed s a1 a2) := by
  unfold State.cancelRed
  try dsimp only
  repeat' first
    | with_reducible assumption
    | with_reducible refine State.modRed_keeps ?_ _ _ _
    | with_reducible refine State.looseBlock_keeps ?_ _ _
    | with_reducible refine State.clearBitmap_keeps ?_ _ _
    | with_reducible refine State.countOpen_keeps ?_
    | with_reducible refine State.unrefTable_keeps ?_ _
    | with_reducible refine Keeps.ite (fun _ => ?_) (fun _ => ?_)
    | with_reducible refine Keeps.foldl _ (fun _ _ _ => ?_) ?_
    | split

theorem execReductionCancel_keeps {s0 s t : State} (h : Keeps s0 s) {a0 a1} (e : (execReductionCancel a0 a1 s) = .next t) :
    Keeps s0 t := by
  revert e
  unfold execReductionCancel
  try dsimp only
  repeat' first
    | with_reducible refine Keeps.of_next ?_
    | with_reducible assumption
    | with_reducible refine State.cancelRed_keeps ?_ _ _

theorem State.settle_keeps {s0 s : State} (h : Keeps s0 s) (a1 a2 a3 a4) :
    Keeps s0 (State.settle s a1 a2 a3 a4) := by
  unfold State.settle
  try dsimp only
  repeat' first
    | with_reducible assumption
    | with_reducible refine State.setOccBit_keeps ?_ _ _ _
    | with_reducible refine State.tryWriteVa_keeps ?_ _ _ _
    | with_reducible refine State.cnt48_keeps ?_ _ _
    | with_reducible refine State.modRed_keeps ?_ _ _ _
    | with_reducible refine State.unwriteBlock_keeps ?_ _ _
    | with_reducible refine State.rootWrite_keeps ?_ _ _ _
    | with_reducible refine Keeps.ite (fun _ => ?_) (fun _ => ?_)
    | with_reducible refine Keeps.foldl _ (fun _ _ _ => ?_) ?_
    | split

theorem State.countStale_keeps {s0 s : State} (h : Keeps s0 s) (a1 a2) :
    Keeps s0 (State.countStale s a1 a2) := by
  unfold State.countStale
  try dsimp only
  repeat' first
    | with_reducible assumption
    | with_reducible refine State.cnt16_keeps ?_ _ _
    | with_reducible refine State.modRed_keeps ?_ _ _ _
    | with_reducible refine Keeps.ite (fun _ => ?_) (fun _ => ?_)
    | split

theorem State.contribute_keeps {s0 s : State} (h : Keeps s0 s) (a1 a2 a3) :
    Keeps s0 (State.contribute s a1 a2 a3).1 := by
  unfold State.contribute
  try dsimp only
  repeat' first
    | with_reducible assumption
    | with_reducible refine State.countStale_keeps ?_ _ _
    | with_reducible refine State.cnt16_keeps ?_ _ _
    | with_reducible refine State.modRed_keeps ?_ _ _ _
    | with_reducible refine State.settle_keeps ?_ _ _ _ _
    | with_reducible refine Keeps.iteFst (fun _ => ?_) (fun _ => ?_)
    | split

theorem State.leafMarker_keeps {s0 s : State} (h : Keeps s0 s) (a1 a2) :
    Keeps s0 (State.leafMarker s a1 a2).1 := by
  unfold State.leafMarker
  try dsimp only
  repeat' first
    | with_reducible assumption
    | with_reducible refine State.countStale_keeps ?_ _ _
    | with_reducible refine State.settle_keeps ?_ _ _ _ _
    | simp only [Keeps.upd_iff]
    | with_reducible refine Keeps.ite (fun _ => ?_) (fun _ => ?_)
    | with_reducible refine Keeps.iteFst (fun _ => ?_) (fun _ => ?_)
    | with_reducible refine Keeps.foldl _ (fun _ _ _ => ?_) ?_
    | split

theorem State.noteDup_keeps {s0 s : State} (h : Keeps s0 s) (a1 a2) :
    Keeps s0 (State.noteDup s a1 a2) := by
  unfold State.noteDup
  try dsimp only
  repeat' first
    | with_reducible assumption
    | with_reducible refine State.modTask_keeps ?_ _ _ _

theorem State.noteOutcome_keeps {s0 s : State} (h : Keeps s0 s) (a1 a2) :
    Keeps s0 (State.noteOutcome s a1 a2) := by
  unfold State.noteOutcome
  try dsimp only
  repeat' first
    | with_reducible assumption
    | with_reducible refine State.noteDup_keeps ?_ _ _
    | with_reducible refine State.modTask_keeps ?_ _ _ _
    | split

theorem State.sendMarker_keeps {s0 s : State} (h : Keeps s0 s) (a1 a2 a3 a4 a5) :
    Keeps s0 (State.sendMarker s a1 a2 a3 a4 a5) := by
  unfold State.sendMarker
  try dsimp only
  repeat' first
    | with_reducible assumption
    | refine State.inject_keeps ?_ (by with_reducible assumption)
    | with_reducible refine State.modTask_keeps ?_ _ _ _
    | simp only [Keeps.upd_iff]
    | with_reducible refine Keeps.ite (fun _ => ?_) (fun _ => ?_)
    | with_reducible refine Keeps.foldl _ (fun _ _ _ => ?_) ?_
    | split

theorem State.sendDones_keeps {s0 s : State} (h : Keeps s0 s) (a1) :
    Keeps s0 (State.sendDones s a1) := by
  unfold State.sendDones
  try dsimp only
  repeat' first
    | with_reducible assumption
    | with_reducible refine State.modTask_keeps ?_ _ _ _
    | with_reducible refine State.sendMarker_keeps ?_ _ _ _ _ _
    | with_reducible refine Keeps.ite (fun _ => ?_) (fun _ => ?_)
    | with_reducible refine Keeps.foldl _ (fun _ _ _ => ?_) ?_
    | split

theorem State.takeInFlight_keeps {s0 s : State} (h : Keeps s0 s) (a1) :
    Keeps s0 (State.takeInFlight s a1).1 := by
  unfold State.takeInFlight
  try dsimp only
  repeat' first
    | with_reducible assumption
    | simp only [Keeps.upd_iff]
    | split

theorem State.adderContribution_keeps {s0 s : State} (h : Keeps s0 s) (a1 a2 a3) :
    Keeps s0 (State.adderContribution s a1 a2 a3) := by
  unfold State.adderContribution
  try dsimp only
  repeat' first
    | with_reducible assumption
    | with_reducible refine State.takeInFlight_keeps ?_ _
    | with_reducible refine State.contribute_keeps ?_ _ _ _
    | with_reducible refine State.sendDones_keeps ?_ _
    | with_reducible refine State.noteOutcome_keeps ?_ _ _
    | split

theorem execAdderContribution_keeps {s0 s t : State} (h : Keeps s0 s) {a0 a1 a2} (e : (execAdderContribution a0 a1 a2 s) = .next t) :
    Keeps s0 t := by
  revert e
  unfold execAdderContribution
  try dsimp only
  repeat' first
    | with_reducible refine Keeps.of_next ?_
    | with_reducible assumption
    | with_reducible refine State.adderContribution_keeps ?_ _ _ _

theorem State.adderMarker_keeps {s0 s : State} (h : Keeps s0 s) (a1 a2) :
    Keeps s0 (State.adderMarker s a1 a2) := by
  unfold State.adderMarker
  try dsimp only
  repeat' first
    | with_reducible assumption
    | with_reducible refine State.takeInFlight_keeps ?_ _
    | with_reducible refine State.leafMarker_keeps ?_ _ _
    | with_reducible refine State.noteOutcome_keeps ?_ _ _
    | split

theorem execLeafDoneMarker_keeps {s0 s t : State} (h : Keeps s0 s) {a0 a1} (e : (execLeafDoneMarker a0 a1 s) = .next t) :
    Keeps s0 t := by
  revert e
  unfold execLeafDoneMarker
  try dsimp only
  repeat' first
    | with_reducible refine Keeps.of_next ?_
    | with_reducible assumption
    | with_reducible refine State.adderMarker_keeps ?_ _ _

theorem State.mvCntOnce_keeps {s0 s : State} (h : Keeps s0 s) (a1 a2 a3) :
    Keeps s0 (State.mvCntOnce s a1 a2 a3) := by
  unfold State.mvCntOnce
  try dsimp only
  repeat' first
    | with_reducible assumption
    | with_reducible refine State.mvCnt_keeps ?_ _ _ _
    | with_reducible refine Keeps.ite (fun _ => ?_) (fun _ => ?_)

theorem State.pageFill_keeps {s0 s : State} (h : Keeps s0 s) (a1 a2 a3 a4 a5 a6) :
    RKeeps s0 (State.pageFill s a1 a2 a3 a4 a5 a6) := by
  unfold State.pageFill
  extract_lets hd l bad keys
  have hf : ∀ c, RKeeps s0 (s.mvFail a1 c) := fun _ => State.mvFail_keeps h _ _
  have hb : ∀ c, RKeeps s0 (s.badBlockFail a1 c) := fun _ => State.badBlockFail_keeps h _ _
  have h1 : ∀ n, Keeps s0 (s.mvCntOnce a1 a5 n) := fun _ => State.mvCntOnce_keeps h _ _ _
  clear_value hd keys bad
  refine RKeeps.ite (hf _) (RKeeps.ite (hb _) (RKeeps.ite (hf _) (RKeeps.ite (hf _) (RKeeps.ite (hf _) ?_))))
  split
  · exact hb _
  · exact State.mvRun_keeps (h1 _) _ _ _ _ _ _

theorem State.runCopy_keeps {s0 s : State} (h : Keeps s0 s) (a1 a2 a3 a4 a5) :
    RKeeps s0 (State.runCopy s a1 a2 a3 a4 a5) := by
  unfold State.runCopy
  try dsimp only
  repeat' first
    | with_reducible assumption
    | with_reducible refine State.pageFill_keeps ?_ _ _ _ _ _ _
    | with_reducible refine State.mvRun_keeps ?_ _ _ _ _ _ _
    | split

theorem State.runFill_keeps {s0 s : State} (h : Keeps s0 s) (a1 a2 a3 a4 a5) :
    RKeeps s0 (State.runFill s a1 a2 a3 a4 a5) := by
  unfold State.runFill
  try dsimp only
  repeat' first
    | with_reducible assumption
    | with_reducible refine State.mvRun_keeps ?_ _ _ _ _ _ _

theorem State.idxCount_keeps {s0 s : State} (h : Keeps s0 s) (a1 a2) :
    Keeps s0 (State.idxCount s a1 a2) := by
  unfold State.idxCount
  try dsimp only
  repeat' first
    | with_reducible assumption
    | with_reducible refine State.mvCnt_keeps ?_ _ _ _

theorem State.writeMask_keeps {s0 s t : State} (h : Keeps s0 s) {a1 a2 a3 a4 a5} (e : (State.writeMask s a1 a2 a3 a4 a5) = .ok t) :
    Keeps s0 t := by
  revert e
  unfold State.writeMask
  try dsimp only
  repeat' first
    | with_reducible refine Keeps.of_ok ?_
    | with_reducible exact Keeps.of_error
    | with_reducible assumption
    | with_reducible refine writePieces_keeps ?_ _ _
    | with_reducible refine State.cnt48_keeps ?_ _ _
    | with_reducible refine State.sealWhole_keeps ?_ _ _ _
    | with_reducible refine Keeps.ite (fun _ => ?_) (fun _ => ?_)
    | split

theorem State.gatherMask_keeps {s0 s : State} (h : Keeps s0 s) (a1 a2 a3 a4 a5) :
    Keeps s0 (State.gatherMask s a1 a2 a3 a4 a5) := by
  unfold State.gatherMask
  try dsimp only
  repeat' first
    | with_reducible assumption
    | with_reducible refine State.modTask_keeps ?_ _ _ _
    | with_reducible refine State.refTable_keeps ?_ _
    | refine State.writeMask_keeps ?_ (by with_reducible assumption)
    | with_reducible refine Keeps.ite (fun _ => ?_) (fun _ => ?_)
    | split

theorem State.runGather_keeps {s0 s : State} (h : Keeps s0 s) (a1 a2 a3 a4 a5) :
    RKeeps s0 (State.runGather s a1 a2 a3 a4 a5) := by
  unfold State.runGather
  try dsimp only
  repeat' first
    | with_reducible exact RKeeps.wait
    | with_reducible refine RKeeps.done ?_
    | with_reducible assumption
    | refine RKeeps.done_eq (State.mvRun_keeps ?_ _ _ _ _ _ _) (by with_reducible assumption)
    | with_reducible refine State.mvRun_keeps ?_ _ _ _ _ _ _
    | with_reducible refine State.mvFail_keeps ?_ _ _
    | with_reducible refine State.cnt48_keeps ?_ _ _
    | with_reducible refine State.idxCount_keeps ?_ _ _
    | with_reducible refine State.gatherMask_keeps ?_ _ _ _ _ _
    | split

theorem State.runScatter_keeps {s0 s : State} (h : Keeps s0 s) (a1 a2 a3 a4 a5) :
    RKeeps s0 (State.runScatter s a1 a2 a3 a4 a5) := by
  unfold State.runScatter
  try dsimp only
  repeat' first
    | with_reducible exact RKeeps.wait
    | with_reducible refine RKeeps.done ?_
    | with_reducible assumption
    | refine RKeeps.done_eq (State.mvRun_keeps ?_ _ _ _ _ _ _) (by with_reducible assumption)
    | with_reducible refine State.mvRun_keeps ?_ _ _ _ _ _ _
    | with_reducible refine State.mvFail_keeps ?_ _ _
    | with_reducible refine State.idxCount_keeps ?_ _ _
    | split

theorem State.scatterAddStage_keeps {s0 s : State} {r : MoveRes} (h : Keeps s0 s) {a1 a2 a3 a4 a5} (e : (State.scatterAddStage s a1 a2 a3 a4 a5) = .inl r) :
    RKeeps s0 r := by
  revert e
  unfold State.scatterAddStage
  try dsimp only
  repeat' first
    | with_reducible refine RKeeps.of_inl ?_
    | with_reducible exact RKeeps.of_inr
    | with_reducible exact RKeeps.wait
    | with_reducible assumption
    | with_reducible refine State.mvFail_keeps ?_ _ _
    | with_reducible refine State.badBlockFail_keeps ?_ _ _
    | split

theorem State.runWindow_keeps {s0 s : State} (h : Keeps s0 s) (a1 a2 a3 a4 a5) :
    RKeeps s0 (State.runWindow s a1 a2 a3 a4 a5) := by
  unfold State.runWindow
  extract_lets c rows ik n v acc port slabs runs
  have hf : ∀ c, RKeeps s0 (s.mvFail a1 c) := fun _ => State.mvFail_keeps h _ _
  clear_value c slabs runs n
  split
  · exact RKeeps.wait
  · split
    · exact hf _
    · split
      · exact hf _
      · split
        · exact hf _
        · split
          · exact State.badBlockFail_keeps h _ _
          · extract_lets top outs ds ds' s1 s2 s3
            have h3 : Keeps s0 s3 := State.cnt48_keeps (State.taskEv_keeps (State.modCore_keeps h _ _ _) _ _ _) _ _
            clear_value top s3
            split
            · exact RKeeps.wait
            · exact iteInduction (motive := RKeeps s0) (fun _ => RKeeps.done h3) (fun _ => RKeeps.part h3)

theorem State.runCrop_keeps {s0 s : State} (h : Keeps s0 s) (a1 a2 a3 a4 a5) :
    RKeeps s0 (State.runCrop s a1 a2 a3 a4 a5) := by
  unfold State.runCrop
  try dsimp only
  repeat' first
    | with_reducible assumption
    | with_reducible refine State.mvFail_keeps ?_ _ _
    | with_reducible refine State.badBlockFail_keeps ?_ _ _
    | with_reducible refine State.mvCntOnce_keeps ?_ _ _ _
    | with_reducible refine State.mvRun_keeps ?_ _ _ _ _ _ _
    | split

theorem State.runMove_keeps {s0 s : State} (h : Keeps s0 s) (a1 a2 a3 a4) :
    RKeeps s0 (State.runMove s a1 a2 a3 a4) := by
  unfold State.runMove
  try dsimp only
  repeat' first
    | with_reducible assumption
    | with_reducible refine State.runCopy_keeps ?_ _ _ _ _ _
    | with_reducible refine State.runFill_keeps ?_ _ _ _ _ _
    | with_reducible refine State.runGather_keeps ?_ _ _ _ _ _
    | with_reducible refine State.runScatter_keeps ?_ _ _ _ _ _
    | with_reducible refine State.runWindow_keeps ?_ _ _ _ _ _
    | with_reducible refine State.mvRun_keeps ?_ _ _ _ _ _ _
    | with_reducible refine State.runCrop_keeps ?_ _ _ _ _ _
    | split

theorem State.renumber_keeps {s0 s : State} (h : Keeps s0 s) :
    Keeps s0 (State.renumber s) := by
  unfold State.renumber
  try dsimp only
  repeat' first
    | with_reducible assumption
    | with_reducible refine State.setObj_keeps ?_ _ _
    | with_reducible refine Keeps.iteFst (fun _ => ?_) (fun _ => ?_)
    | with_reducible refine Keeps.foldl1 _ (fun _ _ _ => ?_) ?_

theorem State.unrefMoves_keeps {s0 s : State} (h : Keeps s0 s) (a1) :
    Keeps s0 (State.unrefMoves s a1) := by
  unfold State.unrefMoves
  try dsimp only
  repeat' first
    | with_reducible assumption
    | with_reducible refine State.unrefTable_keeps ?_ _
    | with_reducible refine Keeps.foldl _ (fun _ _ _ => ?_) ?_

theorem State.discardCore_keeps {s0 s : State} (h : Keeps s0 s) (a1 a2) :
    Keeps s0 (State.discardCore s a1 a2) := by
  unfold State.discardCore
  try dsimp only
  repeat' first
    | with_reducible assumption
    | with_reducible refine State.unrefMoves_keeps ?_ _
    | with_reducible refine State.setCore_keeps ?_ _ _ _
    | split

theorem State.commitFail_keeps {s0 s : State} (h : Keeps s0 s) (a1) :
    Keeps s0 (State.commitFail s a1) := by
  unfold State.commitFail
  try dsimp only
  repeat' first
    | with_reducible assumption
    | with_reducible refine State.modCtx_keeps ?_ _ _
    | with_reducible refine State.event_keeps ?_ _ _ _ _ _
    | with_reducible refine State.setObj_keeps ?_ _ _
    | simp only [Keeps.upd_iff]

theorem State.faultCommit_keeps {s0 s : State} (h : Keeps s0 s) (a1 a2) :
    Keeps s0 (State.faultCommit s a1 a2) := by
  unfold State.faultCommit
  try dsimp only
  repeat' first
    | with_reducible assumption
    | with_reducible refine State.commitFail_keeps ?_ _
    | with_reducible refine Keeps.ite (fun _ => ?_) (fun _ => ?_)
    | split

theorem State.fenceCore_keeps {s0 s : State} (h : Keeps s0 s) (a1 a2 a3) :
    Keeps s0 (State.fenceCore s a1 a2 a3) := by
  unfold State.fenceCore
  try dsimp only
  repeat' first
    | with_reducible assumption
    | with_reducible refine State.faultCommit_keeps ?_ _ _
    | with_reducible refine State.discardCore_keeps ?_ _ _
    | with_reducible refine State.modCore_keeps ?_ _ _ _
    | with_reducible refine State.setObj_keeps ?_ _ _
    | with_reducible refine State.renumber_keeps ?_
    | with_reducible refine State.cnt16_keeps ?_ _ _
    | with_reducible refine State.event_keeps ?_ _ _ _ _ _
    | with_reducible refine Keeps.ite (fun _ => ?_) (fun _ => ?_)

end Sys2Proof.Machine
end

