-- ==== Sys2Proof/Laws/KeepsSequencer.lean ====
section
/-! SUPPORT. `Keeps` for Glide, the command sequencer and routines. -/

namespace Sys2Proof.Machine

theorem State.deltaPass_keeps {s0 s : State} (h : Keeps s0 s) (a1 a2) :
    Keeps s0 (State.deltaPass s a1 a2) := by
  unfold State.deltaPass
  try dsimp only
  repeat' first
    | with_reducible assumption
    | with_reducible refine State.taskFail_keeps ?_ _ _ _
    | with_reducible refine State.noteBadBlock_keeps ?_ _ _
    | with_reducible refine State.taskEv_keeps ?_ _ _ _
    | with_reducible refine State.modTask_keeps ?_ _ _ _
    | with_reducible refine Keeps.ite (fun _ => ?_) (fun _ => ?_)
    | split

theorem execDeltaTask_keeps {s0 s t : State} (h : Keeps s0 s) {a0} (e : (execDeltaTask a0 s) = .next t) :
    Keeps s0 t := by
  revert e
  unfold execDeltaTask
  try dsimp only
  repeat' first
    | with_reducible refine Keeps.of_next ?_
    | with_reducible assumption
    | with_reducible refine State.deltaPass_keeps ?_ _ _

theorem State.glideCounts_keeps {s0 s : State} (h : Keeps s0 s) (a1 a2) :
    Keeps s0 (State.glideCounts s a1 a2) := by
  unfold State.glideCounts
  try dsimp only
  repeat' first
    | with_reducible assumption
    | with_reducible refine State.cnt48_keeps ?_ _ _
    | with_reducible refine State.putWord_keeps ?_ _ _ _
    | with_reducible refine State.unland_keeps ?_ _ _
    | with_reducible refine Keeps.ite (fun _ => ?_) (fun _ => ?_)
    | with_reducible refine Keeps.foldl _ (fun _ _ _ => ?_) ?_

theorem State.sealTouched_keeps {s0 s : State} (h : Keeps s0 s) (a1 a2) :
    Keeps s0 (State.sealTouched s a1 a2) := by
  unfold State.sealTouched
  try dsimp only
  repeat' first
    | with_reducible assumption
    | with_reducible refine State.seal_keeps ?_ _ _ _ _ _ _
    | with_reducible refine Keeps.ite (fun _ => ?_) (fun _ => ?_)
    | with_reducible refine Keeps.foldl _ (fun _ _ _ => ?_) ?_

theorem State.glidePublish_keeps {s0 s : State} (h : Keeps s0 s) (a1 a2) :
    Keeps s0 (State.glidePublish s a1 a2) := by
  unfold State.glidePublish
  try dsimp only
  repeat' first
    | with_reducible assumption
    | with_reducible refine State.tryWriteVa_keeps ?_ _ _ _
    | with_reducible refine State.sealTouched_keeps ?_ _ _
    | with_reducible refine State.glideCounts_keeps ?_ _ _
    | with_reducible refine Keeps.foldl _ (fun _ _ _ => ?_) ?_

theorem State.seqCmd_keeps {s0 s : State} (h : Keeps s0 s) {cl site op : Nat} {k : State → Task → Nat → Option State}
    (hk : ∀ s t w u, Keeps s0 s → k s t w = some u → Keeps s0 u) : Keeps s0 (s.seqCmd cl site op k) := by
  unfold State.seqCmd
  try dsimp only
  repeat' first
    | with_reducible assumption
    | with_reducible refine State.taskFail_keeps ?_ _ _ _
    | with_reducible refine Keeps.getD (hk _ _ _ · h) ?_
    | split

theorem State.startCmd_keeps {s0 s : State} (h : Keeps s0 s) (a1 a2 a3 a4) :
    Keeps s0 (State.startCmd s a1 a2 a3 a4) := by
  unfold State.startCmd
  try dsimp only
  repeat' first
    | with_reducible assumption
    | with_reducible refine State.modTask_keeps ?_ _ _ _

theorem State.endList_keeps {s0 s : State} (h : Keeps s0 s) (a1 a2) :
    Keeps s0 (State.endList s a1 a2) := by
  unfold State.endList
  try dsimp only
  repeat' first
    | with_reducible assumption
    | with_reducible refine Keeps.of_some ?_
    | with_reducible refine State.seqCmd_keeps ?_ (fun _ _ _ _ _ => ?_)
    | with_reducible refine State.taskFail_keeps ?_ _ _ _
    | with_reducible refine State.startCmd_keeps ?_ _ _ _ _
    | with_reducible refine State.fenceCore_keeps ?_ _ _ _
    | split

theorem execEndList_keeps {s0 s t : State} (h : Keeps s0 s) {a0} (e : (execEndList a0 s) = .next t) :
    Keeps s0 t := by
  revert e
  unfold execEndList
  try dsimp only
  repeat' first
    | with_reducible refine Keeps.of_next ?_
    | with_reducible assumption
    | with_reducible refine State.endList_keeps ?_ _ _

theorem State.ringCmd_keeps {s0 s : State} (h : Keeps s0 s) (a1 a2) :
    Keeps s0 (State.ringCmd s a1 a2) := by
  unfold State.ringCmd
  try dsimp only
  repeat' first
    | with_reducible assumption
    | with_reducible refine Keeps.of_some ?_
    | with_reducible exact Keeps.of_none
    | with_reducible refine State.seqCmd_keeps ?_ (fun _ _ _ _ _ => ?_)
    | with_reducible refine State.taskFail_keeps ?_ _ _ _
    | with_reducible refine State.startCmd_keeps ?_ _ _ _ _
    | with_reducible refine State.modCore_keeps ?_ _ _ _
    | split

theorem execRing_keeps {s0 s t : State} (h : Keeps s0 s) {a0} (e : (execRing a0 s) = .next t) :
    Keeps s0 t := by
  revert e
  unfold execRing
  try dsimp only
  repeat' first
    | with_reducible refine Keeps.of_next ?_
    | with_reducible assumption
    | with_reducible refine State.ringCmd_keeps ?_ _ _

theorem State.waitCmd_keeps {s0 s : State} (h : Keeps s0 s) (a1 a2) :
    Keeps s0 (State.waitCmd s a1 a2) := by
  unfold State.waitCmd
  try dsimp only
  repeat' first
    | with_reducible assumption
    | with_reducible refine Keeps.of_some ?_
    | with_reducible refine State.seqCmd_keeps ?_ (fun _ _ _ _ _ => ?_)
    | with_reducible refine State.taskFail_keeps ?_ _ _ _
    | with_reducible refine State.modTask_keeps ?_ _ _ _
    | split

theorem execWait_keeps {s0 s t : State} (h : Keeps s0 s) {a0} (e : (execWait a0 s) = .next t) :
    Keeps s0 t := by
  revert e
  unfold execWait
  try dsimp only
  repeat' first
    | with_reducible refine Keeps.of_next ?_
    | with_reducible assumption
    | with_reducible refine State.waitCmd_keeps ?_ _ _

theorem State.waitReleaseCmd_keeps {s0 s : State} (h : Keeps s0 s) (a1 a2) :
    Keeps s0 (State.waitReleaseCmd s a1 a2) := by
  unfold State.waitReleaseCmd
  try dsimp only
  repeat' first
    | with_reducible assumption
    | with_reducible refine State.taskFail_keeps ?_ _ _ _
    | with_reducible refine State.startCmd_keeps ?_ _ _ _ _
    | with_reducible refine Keeps.ite (fun _ => ?_) (fun _ => ?_)
    | split

theorem execWaitRelease_keeps {s0 s t : State} (h : Keeps s0 s) {a0} (e : (execWaitRelease a0 s) = .next t) :
    Keeps s0 t := by
  revert e
  unfold execWaitRelease
  try dsimp only
  repeat' first
    | with_reducible refine Keeps.of_next ?_
    | with_reducible assumption
    | with_reducible refine State.waitReleaseCmd_keeps ?_ _ _

theorem State.signalCmd_keeps {s0 s : State} (h : Keeps s0 s) (a1 a2) :
    Keeps s0 (State.signalCmd s a1 a2) := by
  unfold State.signalCmd
  try dsimp only
  repeat' first
    | with_reducible assumption
    | with_reducible refine Keeps.of_some ?_
    | with_reducible refine State.seqCmd_keeps ?_ (fun _ _ _ _ _ => ?_)
    | with_reducible refine State.taskFail_keeps ?_ _ _ _
    | with_reducible refine State.startCmd_keeps ?_ _ _ _ _
    | split

theorem execSignal_keeps {s0 s t : State} (h : Keeps s0 s) {a0} (e : (execSignal a0 s) = .next t) :
    Keeps s0 t := by
  revert e
  unfold execSignal
  try dsimp only
  repeat' first
    | with_reducible refine Keeps.of_next ?_
    | with_reducible assumption
    | with_reducible refine State.signalCmd_keeps ?_ _ _

theorem State.yieldC_keeps {s0 s : State} (h : Keeps s0 s) (a1 a2) :
    Keeps s0 (State.yieldC s a1 a2) := by
  unfold State.yieldC
  try dsimp only
  repeat' first
    | with_reducible assumption
    | with_reducible refine Keeps.of_some ?_
    | with_reducible refine State.seqCmd_keeps ?_ (fun _ _ _ _ _ => ?_)
    | with_reducible refine State.taskFail_keeps ?_ _ _ _
    | with_reducible refine State.startCmd_keeps ?_ _ _ _ _
    | split

theorem execYieldCmd_keeps {s0 s t : State} (h : Keeps s0 s) {a0} (e : (execYieldCmd a0 s) = .next t) :
    Keeps s0 t := by
  revert e
  unfold execYieldCmd
  try dsimp only
  repeat' first
    | with_reducible refine Keeps.of_next ?_
    | with_reducible assumption
    | with_reducible refine State.yieldC_keeps ?_ _ _

theorem State.issueMv_keeps {s0 s t : State} {m : Mv} (h : Keeps s0 s) {a1 a2} (e : s.issueMv a1 a2 = .ok (t, m)) :
    Keeps s0 t := by
  revert e
  unfold State.issueMv
  dsimp only
  repeat' split
  all_goals
    intro e
    cases e
  all_goals exact State.refTable_keeps (State.refTable_keeps (State.refTable_keeps h _) _) _

theorem State.checkedMv_keeps {s0 s t : State} {m : Mv} (h : Keeps s0 s) {a1 a2 a3 a4} (e : s.checkedMv a1 a2 a3 a4 = .ok (t, m)) :
    Keeps s0 t := by
  revert e
  unfold State.checkedMv
  dsimp only
  repeat' split
  all_goals
    intro e
    cases e
  all_goals exact State.issueMv_keeps h (by assumption)

theorem State.queueMv_keeps {s0 s : State} (h : Keeps s0 s) (a1 a2 a3 a4) :
    Keeps s0 (State.queueMv s a1 a2 a3 a4) := by
  unfold State.queueMv
  try dsimp only
  repeat' first
    | with_reducible assumption
    | with_reducible refine State.startCmd_keeps ?_ _ _ _ _
    | with_reducible refine State.modCore_keeps ?_ _ _ _
    | with_reducible refine Keeps.ite (fun _ => ?_) (fun _ => ?_)

theorem State.moveCmd_keeps {s0 s : State} (h : Keeps s0 s) (a1 a2) :
    Keeps s0 (State.moveCmd s a1 a2) := by
  unfold State.moveCmd
  try dsimp only
  repeat' first
    | with_reducible assumption
    | with_reducible refine Keeps.of_some ?_
    | with_reducible refine State.seqCmd_keeps ?_ (fun _ _ _ _ _ => ?_)
    | with_reducible refine State.taskFail_keeps ?_ _ _ _
    | refine State.checkedMv_keeps ?_ (by assumption)
    | with_reducible refine State.queueMv_keeps ?_ _ _ _ _
    | split

theorem execMove_keeps {s0 s t : State} (h : Keeps s0 s) {a0} (e : (execMove a0 s) = .next t) :
    Keeps s0 t := by
  revert e
  unfold execMove
  try dsimp only
  repeat' first
    | with_reducible refine Keeps.of_next ?_
    | with_reducible assumption
    | with_reducible refine State.moveCmd_keeps ?_ _ _

theorem State.startTile_keeps {s0 s t : State} (h : Keeps s0 s) {a1 a2 a3 a4 a5} (e : (State.startTile s a1 a2 a3 a4 a5) = some t) :
    Keeps s0 t := by
  revert e
  unfold State.startTile
  try dsimp only
  repeat' first
    | with_reducible refine Keeps.of_some ?_
    | with_reducible exact Keeps.of_none
    | with_reducible assumption
    | with_reducible refine State.taskFail_keeps ?_ _ _ _
    | with_reducible refine State.setCore_keeps ?_ _ _ _
    | with_reducible refine State.startCmd_keeps ?_ _ _ _ _
    | split

theorem State.mmaTileCmd_keeps {s0 s : State} (h : Keeps s0 s) (a1 a2) :
    Keeps s0 (State.mmaTileCmd s a1 a2) := by
  unfold State.mmaTileCmd
  try dsimp only
  repeat' first
    | with_reducible assumption
    | with_reducible refine State.seqCmd_keeps ?_ (fun _ _ _ _ _ => ?_)
    | with_reducible refine fun e => State.startTile_keeps ?_ e

theorem execMmaTile_keeps {s0 s t : State} (h : Keeps s0 s) {a0} (e : (execMmaTile a0 s) = .next t) :
    Keeps s0 t := by
  revert e
  unfold execMmaTile
  try dsimp only
  repeat' first
    | with_reducible refine Keeps.of_next ?_
    | with_reducible assumption
    | with_reducible refine State.mmaTileCmd_keeps ?_ _ _

theorem State.schussCmd_keeps {s0 s : State} (h : Keeps s0 s) (a1 a2) :
    Keeps s0 (State.schussCmd s a1 a2) := by
  unfold State.schussCmd
  try dsimp only
  repeat' first
    | with_reducible assumption
    | with_reducible refine State.schussRun_keeps ?_ _ _
    | with_reducible refine State.seqCmd_keeps ?_ (fun _ _ _ _ _ => ?_)
    | with_reducible refine fun e => State.startTile_keeps ?_ e
    | split

theorem execSchuss_keeps {s0 s t : State} (h : Keeps s0 s) {a0} (e : (execSchuss a0 s) = .next t) :
    Keeps s0 t := by
  revert e
  unfold execSchuss
  try dsimp only
  repeat' first
    | with_reducible refine Keeps.of_next ?_
    | with_reducible assumption
    | with_reducible refine State.schussCmd_keeps ?_ _ _

theorem execMmaIssue_keeps {s0 s t : State} (h : Keeps s0 s) {a0} (e : (execMmaIssue a0 s) = .next t) :
    Keeps s0 t := by
  revert e
  unfold execMmaIssue
  try dsimp only
  repeat' first
    | with_reducible refine Keeps.of_next ?_
    | with_reducible assumption
    | with_reducible refine State.mmaIssue_keeps ?_ _ _

theorem execWeightBankFill_keeps {s0 s t : State} (h : Keeps s0 s) {a0 a1} (e : (execWeightBankFill a0 a1 s) = .next t) :
    Keeps s0 t := by
  revert e
  unfold execWeightBankFill
  try dsimp only
  repeat' first
    | with_reducible refine Keeps.of_next ?_
    | with_reducible assumption
    | with_reducible refine State.bankFill_keeps ?_ _ _ _

theorem execDrain_keeps {s0 s t : State} (h : Keeps s0 s) {a0 a1 a2} (e : (execDrain a0 a1 a2 s) = .next t) :
    Keeps s0 t := by
  revert e
  unfold execDrain
  try dsimp only
  repeat' first
    | with_reducible refine Keeps.of_next ?_
    | with_reducible assumption
    | with_reducible refine State.drain_keeps ?_ _ _ _ _

theorem execSlabDelivery_keeps {s0 s t : State} (h : Keeps s0 s) {a0 a1} (e : (execSlabDelivery a0 a1 s) = .next t) :
    Keeps s0 t := by
  revert e
  unfold execSlabDelivery
  try dsimp only
  repeat' first
    | with_reducible refine Keeps.of_next ?_
    | with_reducible assumption
    | with_reducible refine State.slabDelivery_keeps ?_ _ _ _

theorem State.showPlan_keeps {s0 s : State} (h : Keeps s0 s) (a1) :
    Keeps s0 (State.showPlan s a1) := by
  unfold State.showPlan
  try dsimp only
  repeat' first
    | with_reducible assumption
    | with_reducible refine State.setRelay_keeps ?_ _ _ _ _ _
    | with_reducible refine Keeps.foldl _ (fun _ _ _ => ?_) ?_

theorem State.freeCounters_keeps {s0 s : State} (h : Keeps s0 s) (a1) :
    Keeps s0 (State.freeCounters s a1) := by
  unfold State.freeCounters
  try dsimp only
  repeat' first
    | with_reducible assumption
    | with_reducible refine State.setRelay_keeps ?_ _ _ _ _ _
    | with_reducible refine Keeps.foldl _ (fun _ _ _ => ?_) ?_

theorem State.modPlan_keeps {s0 s : State} (h : Keeps s0 s) (a1 a2) :
    Keeps s0 (State.modPlan s a1 a2) := by
  unfold State.modPlan
  try dsimp only
  repeat' first
    | with_reducible assumption
    | simp only [Keeps.upd_iff]

theorem State.shown_keeps {s0 s : State} (h : Keeps s0 s) (a1) :
    Keeps s0 (State.shown s a1) := by
  unfold State.shown
  try dsimp only
  repeat' first
    | with_reducible assumption
    | with_reducible refine State.showPlan_keeps ?_ _
    | with_reducible refine Keeps.elim (fun _ => ?_) ?_

theorem State.planCheck_keeps {s0 s : State} (h : Keeps s0 s) (a1) :
    Keeps s0 (State.planCheck s a1) := by
  unfold State.planCheck
  try dsimp only
  repeat' first
    | with_reducible assumption
    | with_reducible refine State.complete_keeps ?_ _ _ _ _
    | with_reducible refine State.freeCounters_keeps ?_ _
    | with_reducible refine State.unrefTable_keeps ?_ _
    | with_reducible refine State.unbindVersion_keeps ?_ _
    | simp only [Keeps.upd_iff]
    | with_reducible refine Keeps.ite (fun _ => ?_) (fun _ => ?_)
    | split

theorem State.planFail_keeps {s0 s : State} (h : Keeps s0 s) (a1 a2) :
    Keeps s0 (State.planFail s a1 a2) := by
  unfold State.planFail
  try dsimp only
  repeat' first
    | with_reducible assumption
    | with_reducible refine State.planCheck_keeps ?_ _
    | with_reducible refine State.shown_keeps ?_ _
    | with_reducible refine State.modPlan_keeps ?_ _ _

theorem State.openPlan_keeps {s0 s : State} (h : Keeps s0 s) (a1) :
    Keeps s0 (State.openPlan s a1) := by
  unfold State.openPlan
  try dsimp only
  repeat' first
    | with_reducible assumption
    | with_reducible refine State.refTable_keeps ?_ _
    | with_reducible refine State.bindVersion_keeps ?_ _
    | with_reducible refine State.showPlan_keeps ?_ _
    | simp only [Keeps.upd_iff]

theorem State.planPosition_keeps {s0 s : State} (h : Keeps s0 s) (a1 a2) :
    Keeps s0 (State.planPosition s a1 a2) := by
  unfold State.planPosition
  try dsimp only
  repeat' first
    | with_reducible assumption
    | with_reducible refine State.takeHead_keeps ?_ _ _
    | with_reducible refine State.finishHead_keeps ?_ _ _ _ _ _
    | with_reducible refine State.planCheck_keeps ?_ _
    | with_reducible refine State.openPlan_keeps ?_ _
    | with_reducible refine State.noteStep_keeps ?_ _ _
    | with_reducible refine Keeps.ite (fun _ => ?_) (fun _ => ?_)
    | split

theorem execPlanPosition_keeps {s0 s t : State} (h : Keeps s0 s) {a0 a1} (e : (execPlanPosition a0 a1 s) = .next t) :
    Keeps s0 t := by
  revert e
  unfold execPlanPosition
  try dsimp only
  repeat' first
    | with_reducible refine Keeps.of_next ?_
    | with_reducible assumption
    | with_reducible refine State.planPosition_keeps ?_ _ _

theorem State.chunkTake_keeps {s0 s : State} (h : Keeps s0 s) (a1) :
    Keeps s0 (State.chunkTake s a1) := by
  unfold State.chunkTake
  try dsimp only
  repeat' first
    | with_reducible assumption
    | with_reducible refine State.planCheck_keeps ?_ _
    | with_reducible refine State.shown_keeps ?_ _
    | with_reducible refine State.modPlan_keeps ?_ _ _
    | split

theorem execChunkTake_keeps {s0 s t : State} (h : Keeps s0 s) {a0} (e : (execChunkTake a0 s) = .next t) :
    Keeps s0 t := by
  revert e
  unfold execChunkTake
  try dsimp only
  repeat' first
    | with_reducible refine Keeps.of_next ?_
    | with_reducible assumption
    | with_reducible refine State.chunkTake_keeps ?_ _

/-- What the load of a block leaves, whether it succeeds or not. -/
def EKeeps (s0 : State) : Except (Nat × State) State → Prop
  | .error e => Keeps s0 e.2
  | .ok t => Keeps s0 t

theorem EKeeps.error_eq {s0 : State} {x : Except (Nat × State) State} {e : Nat × State} (h : EKeeps s0 x) (q : x = .error e) :
    Keeps s0 e.2 := by
  subst q; exact h

theorem EKeeps.ok_eq {s0 t : State} {x : Except (Nat × State) State} (h : EKeeps s0 x) (q : x = .ok t) : Keeps s0 t := by
  subst q; exact h

theorem State.loadBlock_keeps {s0 s : State} (h : Keeps s0 s) (a1 a2 a3 a4 a5 a6 a7 a8 a9) :
    EKeeps s0 (State.loadBlock s a1 a2 a3 a4 a5 a6 a7 a8 a9) := by
  unfold State.loadBlock
  extract_lets spans rb ns base
  clear_value spans
  split
  · exact Keeps.ite (fun _ => State.mvCnt_keeps h _ _ _) (fun _ => h)
  · extract_lets pl
    clear_value pl
    split
    · exact h
    · generalize hb : (if (a2 || s.containment) = true then s.badBlock pl else none) = b
      cases b with
      | some b => exact State.noteBadBlock_keeps h _ _
      | none =>
        refine State.cnt48_keeps (Keeps.foldl _ (fun _ _ k => ?_) h) _ _
        exact Keeps.ite (fun _ => State.write_keeps (State.write_keeps k _ _) _ _) (fun _ => State.write_keeps k _ _)

theorem State.fillBlock_keeps {s0 s : State} (h : Keeps s0 s) (a1 a2 a3 a4 a5) :
    EKeeps s0 (State.fillBlock s a1 a2 a3 a4 a5) := by
  unfold State.fillBlock
  extract_lets
  repeat' split
  all_goals exact State.loadBlock_keeps h _ _ _ _ _ _ _ _ _

theorem State.clusterFill_keeps {s0 s : State} (h : Keeps s0 s) (a1) : Keeps s0 (State.clusterFill s a1) := by
  unfold State.clusterFill
  split
  · exact h
  · split
    · exact State.planFail_keeps ((State.fillBlock_keeps h _ _ _ _ _).error_eq (by assumption)) _ _
    · exact State.modPlan_keeps ((State.fillBlock_keeps h _ _ _ _ _).ok_eq (by assumption)) _ _

theorem execClusterFill_keeps {s0 s t : State} (h : Keeps s0 s) {a0} (e : (execClusterFill a0 s) = .next t) :
    Keeps s0 t := by
  revert e
  unfold execClusterFill
  try dsimp only
  repeat' first
    | with_reducible refine Keeps.of_next ?_
    | with_reducible assumption
    | with_reducible refine State.clusterFill_keeps ?_ _

theorem State.imageLoad_keeps {s0 s : State} (h : Keeps s0 s) (a1 a2) :
    Keeps s0 (State.imageLoad s a1 a2) := by
  unfold State.imageLoad
  try dsimp only
  repeat' first
    | with_reducible assumption
    | with_reducible refine State.modTask_keeps ?_ _ _ _
    | with_reducible refine State.taskFail_keeps ?_ _ _ _
    | with_reducible refine State.modCore_keeps ?_ _ _ _
    | with_reducible refine Keeps.ite (fun _ => ?_) (fun _ => ?_)
    | split

theorem execRoutineImageLoad_keeps {s0 s t : State} (h : Keeps s0 s) {a0} (e : (execRoutineImageLoad a0 s) = .next t) :
    Keeps s0 t := by
  revert e
  unfold execRoutineImageLoad
  try dsimp only
  repeat' first
    | with_reducible refine Keeps.of_next ?_
    | with_reducible assumption
    | with_reducible refine State.imageLoad_keeps ?_ _ _

theorem State.routineCmd_keeps {s0 s : State} (h : Keeps s0 s) (a1 a2) :
    Keeps s0 (State.routineCmd s a1 a2) := by
  unfold State.routineCmd
  try dsimp only
  repeat' first
    | with_reducible assumption
    | with_reducible refine Keeps.of_some ?_
    | with_reducible refine State.seqCmd_keeps ?_ (fun _ _ _ _ _ => ?_)
    | with_reducible refine State.taskFail_keeps ?_ _ _ _
    | with_reducible refine State.modCore_keeps ?_ _ _ _
    | with_reducible refine State.startCmd_keeps ?_ _ _ _ _
    | with_reducible refine Keeps.ite (fun _ => ?_) (fun _ => ?_)
    | split

theorem execRoutine_keeps {s0 s t : State} (h : Keeps s0 s) {a0} (e : (execRoutine a0 s) = .next t) :
    Keeps s0 t := by
  revert e
  unfold execRoutine
  try dsimp only
  repeat' first
    | with_reducible refine Keeps.of_next ?_
    | with_reducible assumption
    | with_reducible refine State.routineCmd_keeps ?_ _ _

theorem State.vecDone_keeps {s0 s : State} (h : Keeps s0 s) (a1 a2 a3) :
    Keeps s0 (State.vecDone s a1 a2 a3) := by
  unfold State.vecDone
  try dsimp only
  repeat' first
    | with_reducible assumption
    | with_reducible refine State.taskEv_keeps ?_ _ _ _
    | with_reducible refine State.setCore_keeps ?_ _ _ _
    | with_reducible refine State.cnt48_keeps ?_ _ _
    | with_reducible refine State.tick_keeps ?_
    | with_reducible refine State.cnt16_keeps ?_ _ _

theorem State.applyVec_keeps {s0 s t : State} (h : Keeps s0 s) {a1 a2 a3} (e : (State.applyVec s a1 a2 a3) = some t) :
    Keeps s0 t := by
  revert e
  unfold State.applyVec
  try dsimp only
  repeat' first
    | with_reducible refine Keeps.of_some ?_
    | with_reducible exact Keeps.of_none
    | with_reducible assumption
    | with_reducible refine State.taskFail_keeps ?_ _ _ _
    | with_reducible refine State.vecDone_keeps ?_ _ _ _
    | split

theorem State.routineGo_keeps {s0 s t : State} (h : Keeps s0 s) {a1 a2} (e : (State.routineGo s a1 a2) = some t) :
    Keeps s0 t := by
  revert e
  unfold State.routineGo
  try dsimp only
  repeat' first
    | with_reducible exact Keeps.of_none
    | with_reducible refine fun e => State.applyVec_keeps h e
    | with_reducible refine Keeps.of_map_some (fun u hu => State.modTask_keeps (State.applyVec_keeps h hu) _ _ _)
    | split

theorem State.routineStep_keeps {s0 s : State} (h : Keeps s0 s) (a1 a2) :
    Keeps s0 (State.routineStep s a1 a2) := by
  unfold State.routineStep
  try dsimp only
  repeat' first
    | with_reducible assumption
    | with_reducible refine fun e => State.routineGo_keeps ?_ e
    | with_reducible refine Keeps.getD (fun _ => ?_) ?_

theorem execRoutineStep_keeps {s0 s t : State} (h : Keeps s0 s) {a0} (e : (execRoutineStep a0 s) = .next t) :
    Keeps s0 t := by
  revert e
  unfold execRoutineStep
  try dsimp only
  repeat' first
    | with_reducible refine Keeps.of_next ?_
    | with_reducible assumption
    | with_reducible refine State.routineStep_keeps ?_ _ _

theorem State.finishGo_keeps {s0 s t : State} (h : Keeps s0 s) {a1 a2} (e : (State.finishGo s a1 a2) = some t) :
    Keeps s0 t := by
  revert e
  unfold State.finishGo
  try dsimp only
  repeat' first
    | with_reducible refine Keeps.of_some ?_
    | with_reducible exact Keeps.of_none
    | with_reducible assumption
    | with_reducible refine State.taskEv_keeps ?_ _ _ _
    | with_reducible refine State.setCore_keeps ?_ _ _ _
    | with_reducible refine fun e => State.applyVec_keeps ?_ e
    | simp only [Keeps.upd_iff]
    | split

theorem State.finishing_keeps {s0 s : State} (h : Keeps s0 s) (a1 a2) :
    Keeps s0 (State.finishing s a1 a2) := by
  unfold State.finishing
  try dsimp only
  repeat' first
    | with_reducible assumption
    | with_reducible refine fun e => State.finishGo_keeps ?_ e
    | with_reducible refine Keeps.getD (fun _ => ?_) ?_

theorem execFinishingSection_keeps {s0 s t : State} (h : Keeps s0 s) {a0} (e : (execFinishingSection a0 s) = .next t) :
    Keeps s0 t := by
  revert e
  unfold execFinishingSection
  try dsimp only
  repeat' first
    | with_reducible refine Keeps.of_next ?_
    | with_reducible assumption
    | with_reducible refine State.finishing_keeps ?_ _ _

theorem State.vecRow_keeps {s0 s : State} (h : Keeps s0 s) (a1 a2 a3 a4) :
    Keeps s0 (State.vecRow s a1 a2 a3 a4) := by
  unfold State.vecRow
  try dsimp only
  repeat' first
    | with_reducible assumption
    | with_reducible refine fun e => State.applyVec_keeps ?_ e
    | with_reducible refine Keeps.ite (fun _ => ?_) (fun _ => ?_)
    | with_reducible refine Keeps.getD (fun _ => ?_) ?_
    | split

theorem State.setConsumed_keeps {s0 s : State} (h : Keeps s0 s) (a1 a2) :
    Keeps s0 (State.setConsumed s a1 a2) := by
  unfold State.setConsumed
  try dsimp only
  repeat' first
    | with_reducible assumption
    | with_reducible refine State.modCtx_keeps ?_ _ _
    | with_reducible refine State.setObj_keeps ?_ _ _

theorem State.switchGroup_keeps {s0 s : State} (h : Keeps s0 s) (a1 a2 a3) :
    Keeps s0 (State.switchGroup s a1 a2 a3) := by
  unfold State.switchGroup
  try dsimp only
  repeat' first
    | with_reducible assumption
    | with_reducible refine State.event_keeps ?_ _ _ _ _ _
    | with_reducible refine State.cnt16_keeps ?_ _ _
    | refine State.writeVa_keeps ?_ (by with_reducible assumption)
    | with_reducible refine State.tryWriteVa_keeps ?_ _ _ _
    | with_reducible refine State.setObj_keeps ?_ _ _
    | with_reducible refine State.modGroup_keeps ?_ _ _ _
    | with_reducible refine Keeps.ite (fun _ => ?_) (fun _ => ?_)
    | split

theorem State.project_keeps {s0 s : State} (h : Keeps s0 s) (a1) :
    Keeps s0 (State.project s a1) := by
  unfold State.project
  try dsimp only
  repeat' first
    | with_reducible assumption
    | with_reducible refine State.switchGroup_keeps ?_ _ _ _
    | with_reducible refine Keeps.ite (fun _ => ?_) (fun _ => ?_)
    | split

theorem State.countGroups_keeps {s0 s : State} (h : Keeps s0 s) :
    Keeps s0 (State.countGroups s) := by
  unfold State.countGroups
  try dsimp only
  repeat' first
    | with_reducible assumption
    | with_reducible refine State.setObj_keeps ?_ _ _

theorem State.consumedTo_keeps {s0 s : State} (h : Keeps s0 s) (a1 a2) :
    Keeps s0 (State.consumedTo s a1 a2) := by
  unfold State.consumedTo
  try dsimp only
  repeat' first
    | with_reducible assumption
    | with_reducible refine State.setObj_keeps ?_ _ _
    | with_reducible refine Keeps.ite (fun _ => ?_) (fun _ => ?_)

theorem State.openGroup_keeps {s0 s : State} (h : Keeps s0 s) (a1 a2) :
    Keeps s0 (State.openGroup s a1 a2) := by
  unfold State.openGroup
  try dsimp only
  repeat' first
    | with_reducible assumption
    | with_reducible refine State.countGroups_keeps ?_
    | with_reducible refine State.consumedTo_keeps ?_ _ _
    | with_reducible refine State.tryWriteVa_keeps ?_ _ _ _
    | simp only [Keeps.upd_iff]
    | split

theorem State.groupPosition_keeps {s0 s : State} (h : Keeps s0 s) (a1 a2) :
    Keeps s0 (State.groupPosition s a1 a2) := by
  unfold State.groupPosition
  try dsimp only
  repeat' first
    | with_reducible assumption
    | with_reducible refine State.takeHead_keeps ?_ _ _
    | with_reducible refine State.finishHead_keeps ?_ _ _ _ _ _
    | with_reducible refine State.openGroup_keeps ?_ _ _
    | with_reducible refine Keeps.ite (fun _ => ?_) (fun _ => ?_)
    | split

theorem execGroupPosition_keeps {s0 s t : State} (h : Keeps s0 s) {a0 a1} (e : (execGroupPosition a0 a1 s) = .next t) :
    Keeps s0 t := by
  revert e
  unfold execGroupPosition
  try dsimp only
  repeat' first
    | with_reducible refine Keeps.of_next ?_
    | with_reducible assumption
    | with_reducible refine State.groupPosition_keeps ?_ _ _

theorem State.forceSwitch_keeps {s0 s : State} (h : Keeps s0 s) (a1 a2) :
    Keeps s0 (State.forceSwitch s a1 a2).1 := by
  unfold State.forceSwitch
  try dsimp only
  repeat' first
    | with_reducible assumption
    | with_reducible refine State.switchGroup_keeps ?_ _ _ _
    | with_reducible refine Keeps.iteFst (fun _ => ?_) (fun _ => ?_)
    | split

theorem execForceSwitch_keeps {s0 s t : State} (h : Keeps s0 s) {a0 a1} (e : (execForceSwitch a0 a1 s) = .next t) :
    Keeps s0 t := by
  revert e
  unfold execForceSwitch
  try dsimp only
  repeat' first
    | with_reducible refine Keeps.of_next ?_
    | with_reducible assumption
    | with_reducible refine written_keeps ?_
    | with_reducible refine State.forceSwitch_keeps ?_ _ _

theorem State.groupCommit_keeps {s0 s : State} (h : Keeps s0 s) (a1) :
    Keeps s0 (State.groupCommit s a1) := by
  unfold State.groupCommit
  try dsimp only
  repeat' first
    | with_reducible assumption
    | with_reducible refine State.modGroup_keeps ?_ _ _ _
    | with_reducible refine State.countGroups_keeps ?_
    | with_reducible refine Keeps.ite (fun _ => ?_) (fun _ => ?_)
    | split

end Sys2Proof.Machine
end

