-- ==== Sys2Proof/Laws/KeepsTasks.lean ====
section
/-! SUPPORT. `Keeps` for tasks, commits and the mover rows. -/

namespace Sys2Proof.Machine

theorem State.startTask_keeps {s0 s : State} (h : Keeps s0 s) (a1 a2 a3 a4) :
    Keeps s0 (State.startTask s a1 a2 a3 a4) := by
  unfold State.startTask
  try dsimp only
  repeat' first
    | with_reducible assumption
    | with_reducible refine State.setLease_keeps ?_ _ _
    | with_reducible refine State.modCore_keeps ?_ _ _ _
    | with_reducible refine State.setObj_keeps ?_ _ _
    | simp only [Keeps.upd_iff]

theorem State.noteServed_keeps {s0 s : State} (h : Keeps s0 s) (a1 a2) :
    Keeps s0 (State.noteServed s a1 a2) := by
  unfold State.noteServed
  try dsimp only
  repeat' first
    | with_reducible assumption
    | simp only [Keeps.upd_iff]

theorem State.startHead_keeps {s0 s : State} (h : Keeps s0 s) (a1 a2 a3) :
    Keeps s0 (State.startHead s a1 a2 a3) := by
  unfold State.startHead
  try dsimp only
  repeat' first
    | with_reducible assumption
    | with_reducible refine State.unreadHead_keeps ?_ _ _ _
    | with_reducible refine State.takeHead_keeps ?_ _ _
    | with_reducible refine State.finishHead_keeps ?_ _ _ _ _ _
    | with_reducible refine State.bindVersion_keeps ?_ _
    | with_reducible refine State.noteStep_keeps ?_ _ _
    | with_reducible refine State.startTask_keeps ?_ _ _ _ _
    | split

theorem State.startAgain_keeps {s0 s : State} (h : Keeps s0 s) (a1 a2 a3 a4 a5) :
    Keeps s0 (State.startAgain s a1 a2 a3 a4 a5) := by
  unfold State.startAgain
  try dsimp only
  repeat' first
    | with_reducible assumption
    | with_reducible refine State.modPlan_keeps ?_ _ _
    | with_reducible refine State.planFail_keeps ?_ _ _
    | with_reducible refine State.startTask_keeps ?_ _ _ _ _
    | with_reducible refine State.cnt16_keeps ?_ _ _
    | with_reducible refine State.modQueue_keeps ?_ _ _ _
    | with_reducible refine State.tick_keeps ?_
    | with_reducible refine State.finishHead_keeps ?_ _ _ _ _ _
    | with_reducible refine State.bindVersion_keeps ?_ _
    | with_reducible refine State.noteStep_keeps ?_ _ _
    | split

theorem State.startPlanTile_keeps {s0 s : State} (h : Keeps s0 s) (a1 a2 a3 a4) :
    Keeps s0 (State.startPlanTile s a1 a2 a3 a4) := by
  unfold State.startPlanTile
  try dsimp only
  repeat' first
    | with_reducible assumption
    | with_reducible refine State.planFail_keeps ?_ _ _
    | with_reducible refine State.shown_keeps ?_ _
    | with_reducible refine State.modPlan_keeps ?_ _ _
    | with_reducible refine State.startTask_keeps ?_ _ _ _ _
    | split

theorem State.workRequest_keeps {s0 s : State} (h : Keeps s0 s) (a1 a2) :
    Keeps s0 (State.workRequest s a1 a2) := by
  unfold State.workRequest
  try dsimp only
  repeat' first
    | with_reducible assumption
    | with_reducible refine State.startAgain_keeps ?_ _ _ _ _ _
    | with_reducible refine State.noteServed_keeps ?_ _ _
    | with_reducible refine State.startPlanTile_keeps ?_ _ _ _ _
    | with_reducible refine State.startHead_keeps ?_ _ _ _
    | with_reducible refine Keeps.ite (fun _ => ?_) (fun _ => ?_)
    | split

theorem execWorkRequest_keeps {s0 s t : State} (h : Keeps s0 s) {a0} (e : (execWorkRequest a0 s) = .next t) :
    Keeps s0 t := by
  revert e
  unfold execWorkRequest
  try dsimp only
  repeat' first
    | with_reducible refine Keeps.of_next ?_
    | with_reducible assumption
    | with_reducible refine State.workRequest_keeps ?_ _ _

theorem State.leaseRenewal_keeps {s0 s : State} (h : Keeps s0 s) (a1 a2) :
    Keeps s0 (State.leaseRenewal s a1 a2) := by
  unfold State.leaseRenewal
  try dsimp only
  repeat' first
    | with_reducible assumption
    | with_reducible refine State.renew_keeps ?_ _ _
    | with_reducible refine Keeps.ite (fun _ => ?_) (fun _ => ?_)
    | split

theorem execLeaseRenewal_keeps {s0 s t : State} (h : Keeps s0 s) {a0} (e : (execLeaseRenewal a0 s) = .next t) :
    Keeps s0 t := by
  revert e
  unfold execLeaseRenewal
  try dsimp only
  repeat' first
    | with_reducible refine Keeps.of_next ?_
    | with_reducible assumption
    | with_reducible refine State.leaseRenewal_keeps ?_ _ _

theorem State.joinReissue_keeps {s0 s : State} (h : Keeps s0 s) (a1 a2) :
    Keeps s0 (State.joinReissue s a1 a2) := by
  unfold State.joinReissue
  try dsimp only
  repeat' first
    | with_reducible assumption
    | with_reducible refine State.modPlan_keeps ?_ _ _
    | with_reducible refine State.modQueue_keeps ?_ _ _ _
    | split

theorem State.expireLease_keeps {s0 s : State} (h : Keeps s0 s) (a1 a2) :
    Keeps s0 (State.expireLease s a1 a2) := by
  unfold State.expireLease
  try dsimp only
  repeat' first
    | with_reducible assumption
    | with_reducible refine State.joinReissue_keeps ?_ _ _
    | with_reducible refine State.modLease_keeps ?_ _ _ _ _ _

theorem State.leaseScan_keeps {s0 s : State} (h : Keeps s0 s) (a1) :
    Keeps s0 (State.leaseScan s a1) := by
  unfold State.leaseScan
  try dsimp only
  repeat' first
    | with_reducible assumption
    | with_reducible refine State.expireLease_keeps ?_ _ _
    | with_reducible refine Keeps.ite (fun _ => ?_) (fun _ => ?_)
    | with_reducible refine Keeps.foldl _ (fun _ _ _ => ?_) ?_

theorem execLeaseScan_keeps {s0 s t : State} (h : Keeps s0 s) {a0} (e : (execLeaseScan a0 s) = .next t) :
    Keeps s0 t := by
  revert e
  unfold execLeaseScan
  try dsimp only
  repeat' first
    | with_reducible refine Keeps.of_next ?_
    | with_reducible assumption
    | with_reducible refine State.leaseScan_keeps ?_ _

theorem State.adopt_keeps {s0 s : State} (h : Keeps s0 s) (a1 a2) :
    Keeps s0 (State.adopt s a1 a2) := by
  unfold State.adopt
  try dsimp only
  repeat' first
    | with_reducible assumption
    | with_reducible refine State.planCheck_keeps ?_ _
    | with_reducible refine State.modPlan_keeps ?_ _ _
    | with_reducible refine Keeps.ite (fun _ => ?_) (fun _ => ?_)
    | with_reducible refine Keeps.foldl _ (fun _ _ _ => ?_) ?_

theorem State.setAtomic_keeps {s0 s : State} (h : Keeps s0 s) (a1 a2 a3 a4 a5) :
    Keeps s0 (State.setAtomic s a1 a2 a3 a4 a5) := by
  unfold State.setAtomic
  try dsimp only
  repeat' first
    | with_reducible assumption
    | with_reducible refine State.unland_keeps ?_ _ _
    | with_reducible refine State.putWord_keeps ?_ _ _ _
    | with_reducible refine State.adopt_keeps ?_ _ _
    | with_reducible refine Keeps.ite (fun _ => ?_) (fun _ => ?_)

theorem State.atomic_keeps {s0 s : State} (h : Keeps s0 s) (a1 a2 a3) :
    Keeps s0 (State.atomic s a1 a2 a3) := by
  unfold State.atomic
  try dsimp only
  repeat' first
    | with_reducible assumption
    | with_reducible refine State.emit_keeps ?_ _
    | with_reducible refine State.cnt48_keeps ?_ _ _
    | with_reducible refine State.setAtomic_keeps ?_ _ _ _ _ _
    | split

theorem State.atomicTake_keeps {s0 s : State} (h : Keeps s0 s) (a1 a2) :
    Keeps s0 (State.atomicTake s a1 a2) := by
  unfold State.atomicTake
  try dsimp only
  repeat' first
    | with_reducible assumption
    | with_reducible refine State.emit_keeps ?_ _
    | with_reducible refine State.cnt48_keeps ?_ _ _
    | with_reducible refine State.takeQ_keeps ?_ _ _
    | with_reducible refine State.modQueue_keeps ?_ _ _ _
    | with_reducible refine State.takeAt_keeps ?_ _
    | with_reducible refine State.adopt_keeps ?_ _ _
    | with_reducible refine Keeps.ite (fun _ => ?_) (fun _ => ?_)
    | split

theorem execTake_keeps {s0 s t : State} (h : Keeps s0 s) {a0 a1} (e : (execTake a0 a1 s) = .next t) :
    Keeps s0 t := by
  revert e
  unfold execTake
  try dsimp only
  repeat' first
    | with_reducible refine Keeps.of_next ?_
    | with_reducible assumption
    | with_reducible refine State.atomicTake_keeps ?_ _ _

theorem execFetchAdd_keeps {s0 s t : State} (h : Keeps s0 s) {a0 a1 a2} (e : (execFetchAdd a0 a1 a2 s) = .next t) :
    Keeps s0 t := by
  revert e
  unfold execFetchAdd
  try dsimp only
  repeat' first
    | with_reducible refine Keeps.of_next ?_
    | with_reducible assumption
    | with_reducible refine State.atomic_keeps ?_ _ _ _

theorem execCas_keeps {s0 s t : State} (h : Keeps s0 s) {a0 a1 a2 a3} (e : (execCas a0 a1 a2 a3 s) = .next t) :
    Keeps s0 t := by
  revert e
  unfold execCas
  try dsimp only
  repeat' first
    | with_reducible refine Keeps.of_next ?_
    | with_reducible assumption
    | with_reducible refine State.atomic_keeps ?_ _ _ _

theorem execMinU_keeps {s0 s t : State} (h : Keeps s0 s) {a0 a1 a2} (e : (execMinU a0 a1 a2 s) = .next t) :
    Keeps s0 t := by
  revert e
  unfold execMinU
  try dsimp only
  repeat' first
    | with_reducible refine Keeps.of_next ?_
    | with_reducible assumption
    | with_reducible refine State.atomic_keeps ?_ _ _ _

theorem execMaxU_keeps {s0 s t : State} (h : Keeps s0 s) {a0 a1 a2} (e : (execMaxU a0 a1 a2 s) = .next t) :
    Keeps s0 t := by
  revert e
  unfold execMaxU
  try dsimp only
  repeat' first
    | with_reducible refine Keeps.of_next ?_
    | with_reducible assumption
    | with_reducible refine State.atomic_keeps ?_ _ _ _

theorem execMinS_keeps {s0 s t : State} (h : Keeps s0 s) {a0 a1 a2} (e : (execMinS a0 a1 a2 s) = .next t) :
    Keeps s0 t := by
  revert e
  unfold execMinS
  try dsimp only
  repeat' first
    | with_reducible refine Keeps.of_next ?_
    | with_reducible assumption
    | with_reducible refine State.atomic_keeps ?_ _ _ _

theorem execMaxS_keeps {s0 s t : State} (h : Keeps s0 s) {a0 a1 a2} (e : (execMaxS a0 a1 a2 s) = .next t) :
    Keeps s0 t := by
  revert e
  unfold execMaxS
  try dsimp only
  repeat' first
    | with_reducible refine Keeps.of_next ?_
    | with_reducible assumption
    | with_reducible refine State.atomic_keeps ?_ _ _ _

theorem State.setLimit_keeps {s0 s : State} (h : Keeps s0 s) (a1 a2 a3) :
    Keeps s0 (State.setLimit s a1 a2 a3).1 := by
  unfold State.setLimit
  try dsimp only
  repeat' first
    | with_reducible assumption
    | with_reducible refine State.setRelay_keeps ?_ _ _ _ _ _
    | with_reducible refine Keeps.iteFst (fun _ => ?_) (fun _ => ?_)

theorem State.doorbellLimit_keeps {s0 s : State} (h : Keeps s0 s) (a1 a2 a3 a4) :
    Keeps s0 (State.doorbellLimit s a1 a2 a3 a4) := by
  unfold State.doorbellLimit
  try dsimp only
  repeat' first
    | with_reducible assumption
    | with_reducible refine State.setLimit_keeps ?_ _ _ _
    | with_reducible refine State.cnt16_keeps ?_ _ _
    | with_reducible refine Keeps.ite (fun _ => ?_) (fun _ => ?_)

theorem execLimit_keeps {s0 s t : State} (h : Keeps s0 s) {a0 a1 a2 a3} (e : (execLimit a0 a1 a2 a3 s) = .next t) :
    Keeps s0 t := by
  revert e
  unfold execLimit
  try dsimp only
  repeat' first
    | with_reducible refine Keeps.of_next ?_
    | with_reducible assumption
    | with_reducible refine State.through_keeps ?_ _ _ _ _ ?_
    | with_reducible refine State.doorbellLimit_keeps ?_ _ _ _ _

theorem State.bindQueue_keeps {s0 s : State} (h : Keeps s0 s) (a1 a2 a3) :
    Keeps s0 (State.bindQueue s a1 a2 a3).1 := by
  unfold State.bindQueue
  try dsimp only
  repeat' first
    | with_reducible assumption
    | with_reducible refine State.setRelay_keeps ?_ _ _ _ _ _
    | with_reducible refine State.setObj_keeps ?_ _ _
    | with_reducible refine Keeps.iteFst (fun _ => ?_) (fun _ => ?_)

theorem execQueueContext_keeps {s0 s t : State} (h : Keeps s0 s) {a0 a1 a2} (e : (execQueueContext a0 a1 a2 s) = .next t) :
    Keeps s0 t := by
  revert e
  unfold execQueueContext
  try dsimp only
  repeat' first
    | with_reducible refine Keeps.of_next ?_
    | with_reducible assumption
    | with_reducible refine written_keeps ?_
    | with_reducible refine State.bindQueue_keeps ?_ _ _ _

theorem State.toAdder_keeps {s0 s : State} (h : Keeps s0 s) (a1 a2 a3 a4) :
    Keeps s0 (State.toAdder s a1 a2 a3 a4) := by
  unfold State.toAdder
  try dsimp only
  repeat' first
    | with_reducible assumption
    | simp only [Keeps.upd_iff]

theorem State.toHome_keeps {s0 s t : State} (h : Keeps s0 s) {a1 a2 a3 a4 a5 a6} (e : (State.toHome s a1 a2 a3 a4 a5 a6) = .ok t) :
    Keeps s0 t := by
  revert e
  unfold State.toHome
  try dsimp only
  repeat' first
    | with_reducible refine Keeps.of_ok ?_
    | with_reducible exact Keeps.of_error
    | with_reducible assumption
    | refine State.inject_keeps ?_ (by with_reducible assumption)
    | refine Keeps.foldl_ok (fun _ _ _ _ _ => ?_) (fun _ _ => rfl) _ ?_ (by with_reducible assumption)
    | simp only [Keeps.upd_iff]
    | split

theorem State.sendContrib_keeps {s0 s : State} (h : Keeps s0 s) (a1 a2 a3 a4 a5) :
    Keeps s0 (State.sendContrib s a1 a2 a3 a4 a5) := by
  unfold State.sendContrib
  try dsimp only
  repeat' first
    | with_reducible assumption
    | with_reducible refine State.toAdder_keeps ?_ _ _ _ _
    | refine State.toHome_keeps ?_ (by with_reducible assumption)
    | with_reducible refine State.modTask_keeps ?_ _ _ _
    | with_reducible refine Keeps.ite (fun _ => ?_) (fun _ => ?_)
    | split

theorem State.sendStaged_keeps {s0 s : State} (h : Keeps s0 s) (a1 a2 a3) :
    Keeps s0 (State.sendStaged s a1 a2 a3) := by
  unfold State.sendStaged
  try dsimp only
  repeat' first
    | with_reducible assumption
    | with_reducible refine State.sendContrib_keeps ?_ _ _ _ _ _
    | with_reducible refine State.sendDones_keeps ?_ _
    | with_reducible refine State.modTask_keeps ?_ _ _ _
    | with_reducible refine Keeps.foldl _ (fun _ _ _ => ?_) ?_

theorem State.writeTag_keeps {s0 s : State} (h : Keeps s0 s) (a1 a2 a3) :
    Keeps s0 (State.writeTag s a1 a2 a3) := by
  unfold State.writeTag
  try dsimp only
  repeat' first
    | with_reducible assumption
    | with_reducible refine State.modTask_keeps ?_ _ _ _
    | refine State.writeVa_keeps ?_ (by with_reducible assumption)
    | with_reducible refine Keeps.ite (fun _ => ?_) (fun _ => ?_)
    | split

theorem State.noteWork_keeps {s0 s : State} (h : Keeps s0 s) (a1) :
    Keeps s0 (State.noteWork s a1) := by
  unfold State.noteWork
  try dsimp only
  repeat' first
    | with_reducible assumption
    | with_reducible refine State.modCtx_keeps ?_ _ _

theorem State.undefineAll_keeps {s0 s : State} (h : Keeps s0 s) (a1) :
    Keeps s0 (State.undefineAll s a1) := by
  unfold State.undefineAll
  try dsimp only
  repeat' first
    | with_reducible assumption
    | with_reducible refine State.undefine_keeps ?_ _ _
    | with_reducible refine Keeps.foldl _ (fun _ _ _ => ?_) ?_

theorem State.commitStale_keeps {s0 s : State} (h : Keeps s0 s) (a1 a2 a3 a4) :
    Keeps s0 (State.commitStale s a1 a2 a3 a4) := by
  unfold State.commitStale
  try dsimp only
  repeat' first
    | with_reducible assumption
    | with_reducible refine State.unrefMoves_keeps ?_ _
    | with_reducible refine State.modTask_keeps ?_ _ _ _
    | with_reducible refine State.cnt16_keeps ?_ _ _
    | with_reducible refine State.sendStaged_keeps ?_ _ _ _
    | with_reducible refine Keeps.ite (fun _ => ?_) (fun _ => ?_)

theorem State.commitFailed_keeps {s0 s : State} (h : Keeps s0 s) (a1 a2 a3 a4) :
    Keeps s0 (State.commitFailed s a1 a2 a3 a4) := by
  unfold State.commitFailed
  try dsimp only
  repeat' first
    | with_reducible assumption
    | with_reducible refine State.modTask_keeps ?_ _ _ _
    | with_reducible refine State.unrefMoves_keeps ?_ _

theorem State.commitGood_keeps {s0 s : State} (h : Keeps s0 s) (a1 a2 a3) :
    Keeps s0 (State.commitGood s a1 a2 a3) := by
  unfold State.commitGood
  try dsimp only
  repeat' first
    | with_reducible assumption
    | with_reducible refine State.modTask_keeps ?_ _ _ _
    | with_reducible refine State.writeTag_keeps ?_ _ _ _
    | with_reducible refine State.noteWork_keeps ?_ _
    | with_reducible refine State.groupCommit_keeps ?_ _
    | with_reducible refine State.sendStaged_keeps ?_ _ _ _

theorem State.taskCommit_keeps {s0 s : State} (h : Keeps s0 s) (a1 a2) :
    Keeps s0 (State.taskCommit s a1 a2) := by
  unfold State.taskCommit
  try dsimp only
  repeat' first
    | with_reducible assumption
    | with_reducible refine State.modCore_keeps ?_ _ _ _
    | with_reducible refine State.unrefMoves_keeps ?_ _
    | with_reducible refine State.modTask_keeps ?_ _ _ _
    | with_reducible refine State.commitStale_keeps ?_ _ _ _ _
    | with_reducible refine State.modLease_keeps ?_ _ _ _ _ _
    | with_reducible refine State.commitGood_keeps ?_ _ _ _
    | with_reducible refine State.commitFailed_keeps ?_ _ _ _ _
    | with_reducible refine Keeps.ite (fun _ => ?_) (fun _ => ?_)
    | split

theorem execTaskCommit_keeps {s0 s t : State} (h : Keeps s0 s) {a0} (e : (execTaskCommit a0 s) = .next t) :
    Keeps s0 t := by
  revert e
  unfold execTaskCommit
  try dsimp only
  repeat' first
    | with_reducible refine Keeps.of_next ?_
    | with_reducible assumption
    | with_reducible refine State.taskCommit_keeps ?_ _ _

theorem State.sendSignals_keeps {s0 s : State} (h : Keeps s0 s) (a1) :
    Keeps s0 (State.sendSignals s a1) := by
  unfold State.sendSignals
  try dsimp only
  repeat' first
    | with_reducible assumption
    | with_reducible refine State.tagAdd_keeps ?_ _ _ _
    | with_reducible refine Keeps.foldl _ (fun _ _ _ => ?_) ?_

theorem State.publish_keeps {s0 s : State} (h : Keeps s0 s) (a1) :
    Keeps s0 (State.publish s a1) := by
  unfold State.publish
  try dsimp only
  repeat' first
    | with_reducible assumption
    | with_reducible refine State.undefineAll_keeps ?_ _
    | with_reducible refine State.sendSignals_keeps ?_ _
    | with_reducible refine State.glidePublish_keeps ?_ _ _
    | with_reducible refine Keeps.ite (fun _ => ?_) (fun _ => ?_)
    | split

theorem State.drainCluster_keeps {s0 s : State} (h : Keeps s0 s) (a1) :
    Keeps s0 (State.drainCluster s a1) := by
  unfold State.drainCluster
  try dsimp only
  repeat' first
    | with_reducible assumption
    | with_reducible refine State.setObj_keeps ?_ _ _
    | with_reducible refine Keeps.ite (fun _ => ?_) (fun _ => ?_)

theorem State.leaveCore_keeps {s0 s : State} (h : Keeps s0 s) (a1 a2) :
    Keeps s0 (State.leaveCore s a1 a2) := by
  unfold State.leaveCore
  try dsimp only
  repeat' first
    | with_reducible assumption
    | with_reducible refine State.modCore_keeps ?_ _ _ _
    | with_reducible refine State.drainCluster_keeps ?_ _
    | with_reducible refine State.setObj_keeps ?_ _ _
    | with_reducible refine Keeps.ite (fun _ => ?_) (fun _ => ?_)

theorem State.recordTask_keeps {s0 s : State} (h : Keeps s0 s) (a1 a2 a3) :
    Keeps s0 (State.recordTask s a1 a2 a3) := by
  unfold State.recordTask
  try dsimp only
  repeat' first
    | with_reducible assumption
    | with_reducible refine State.dropLease_keeps ?_ _ _ _ _
    | with_reducible refine State.planCheck_keeps ?_ _
    | with_reducible refine State.modPlan_keeps ?_ _ _
    | with_reducible refine State.unbindVersion_keeps ?_ _
    | with_reducible refine State.complete_keeps ?_ _ _ _ _
    | split

theorem State.completionRecord_keeps {s0 s : State} (h : Keeps s0 s) (a1 a2) :
    Keeps s0 (State.completionRecord s a1 a2) := by
  unfold State.completionRecord
  try dsimp only
  repeat' first
    | with_reducible assumption
    | with_reducible refine State.project_keeps ?_ _
    | with_reducible refine State.leaveCore_keeps ?_ _ _
    | with_reducible refine State.recordTask_keeps ?_ _ _ _
    | with_reducible refine State.publish_keeps ?_ _
    | with_reducible refine Keeps.ite (fun _ => ?_) (fun _ => ?_)
    | split

theorem execCompletionRecord_keeps {s0 s t : State} (h : Keeps s0 s) {a0} (e : (execCompletionRecord a0 s) = .next t) :
    Keeps s0 t := by
  revert e
  unfold execCompletionRecord
  try dsimp only
  repeat' first
    | with_reducible refine Keeps.of_next ?_
    | with_reducible assumption
    | with_reducible refine State.completionRecord_keeps ?_ _ _

theorem State.runHead_keeps {s0 s : State} (h : Keeps s0 s) (a1 a2 a3 a4 a5) :
    Keeps s0 (State.runHead s a1 a2 a3 a4 a5) := by
  unfold State.runHead
  try dsimp only
  repeat' first
    | with_reducible assumption
    | refine RKeeps.done_eq (State.runMove_keeps ?_ _ _ _ _) (by with_reducible assumption)
    | refine RKeeps.part_eq (State.runMove_keeps ?_ _ _ _ _) (by with_reducible assumption)
    | refine RKeeps.fail_eq (State.runMove_keeps ?_ _ _ _ _) (by with_reducible assumption)
    | with_reducible refine State.taskFail_keeps ?_ _ _ _
    | with_reducible refine State.modTask_keeps ?_ _ _ _
    | with_reducible refine State.unrefMoves_keeps ?_ _
    | split

theorem State.commitMoveFail_keeps {s0 s : State} (h : Keeps s0 s) (a1 a2 a3) :
    Keeps s0 (State.commitMoveFail s a1 a2 a3) := by
  unfold State.commitMoveFail
  try dsimp only
  repeat' first
    | with_reducible assumption
    | with_reducible refine State.unrefMoves_keeps ?_ _
    | with_reducible refine State.modTask_keeps ?_ _ _ _
    | split

theorem State.commitMoveDone_keeps {s0 s : State} (h : Keeps s0 s) (a1 a2 a3) :
    Keeps s0 (State.commitMoveDone s a1 a2 a3) := by
  unfold State.commitMoveDone
  try dsimp only
  repeat' first
    | with_reducible assumption
    | with_reducible refine State.unrefMoves_keeps ?_ _
    | with_reducible refine State.modTask_keeps ?_ _ _ _

theorem State.scatterAddRun_keeps {s0 s : State} (h : Keeps s0 s) (a1 a2 a3 a4) :
    RKeeps s0 (State.scatterAddRun s a1 a2 a3 a4) := by
  unfold State.scatterAddRun
  try dsimp only
  repeat' first
    | with_reducible refine RKeeps.done ?_
    | with_reducible assumption
    | refine State.scatterAddStage_keeps ?_ (by assumption)
    | with_reducible refine State.sendContrib_keeps ?_ _ _ _ _ _
    | with_reducible refine State.modTask_keeps ?_ _ _ _
    | with_reducible refine State.modCore_keeps ?_ _ _ _
    | with_reducible refine State.idxCount_keeps ?_ _ _
    | with_reducible refine State.mvTag_keeps ?_ _ _
    | with_reducible refine Keeps.ite (fun _ => ?_) (fun _ => ?_)
    | with_reducible refine Keeps.foldl _ (fun _ _ _ => ?_) ?_
    | split

theorem State.runCommit_keeps {s0 s : State} (h : Keeps s0 s) (a1 a2 a3 a4) :
    RKeeps s0 (State.runCommit s a1 a2 a3 a4) := by
  unfold State.runCommit
  try dsimp only
  repeat' first
    | with_reducible exact RKeeps.wait
    | with_reducible refine RKeeps.done ?_
    | with_reducible assumption
    | with_reducible refine State.scatterAddRun_keeps ?_ _ _ _ _
    | refine State.writeMask_keeps ?_ (by with_reducible assumption)
    | with_reducible refine State.mvFail_keeps ?_ _ _
    | with_reducible refine State.runMove_keeps ?_ _ _ _ _
    | split

theorem State.runCommitHead_keeps {s0 s : State} (h : Keeps s0 s) (a1 a2 a3 a4) :
    Keeps s0 (State.runCommitHead s a1 a2 a3 a4) := by
  unfold State.runCommitHead
  try dsimp only
  repeat' first
    | with_reducible assumption
    | refine RKeeps.done_eq (State.runCommit_keeps ?_ _ _ _ _) (by with_reducible assumption)
    | refine RKeeps.part_eq (State.runCommit_keeps ?_ _ _ _ _) (by with_reducible assumption)
    | refine RKeeps.fail_eq (State.runCommit_keeps ?_ _ _ _ _) (by with_reducible assumption)
    | with_reducible refine State.commitMoveFail_keeps ?_ _ _ _
    | with_reducible refine State.sendDones_keeps ?_ _
    | with_reducible refine State.commitMoveDone_keeps ?_ _ _ _
    | with_reducible refine Keeps.ite (fun _ => ?_) (fun _ => ?_)
    | split

theorem State.moveRow_keeps {s0 s : State} (h : Keeps s0 s) (a1 a2 a3) :
    Keeps s0 (State.moveRow s a1 a2 a3) := by
  unfold State.moveRow
  try dsimp only
  repeat' first
    | with_reducible assumption
    | with_reducible refine State.runCommitHead_keeps ?_ _ _ _ _
    | with_reducible refine State.runHead_keeps ?_ _ _ _ _ _
    | with_reducible refine Keeps.ite (fun _ => ?_) (fun _ => ?_)
    | split

theorem execCopy_keeps {s0 s t : State} (h : Keeps s0 s) {a0} (e : (execCopy a0 s) = .next t) :
    Keeps s0 t := by
  revert e
  unfold execCopy
  try dsimp only
  repeat' first
    | with_reducible refine Keeps.of_next ?_
    | with_reducible assumption
    | with_reducible refine State.moveRow_keeps ?_ _ _ _

theorem execFill_keeps {s0 s t : State} (h : Keeps s0 s) {a0} (e : (execFill a0 s) = .next t) :
    Keeps s0 t := by
  revert e
  unfold execFill
  try dsimp only
  repeat' first
    | with_reducible refine Keeps.of_next ?_
    | with_reducible assumption
    | with_reducible refine State.moveRow_keeps ?_ _ _ _

theorem execGather_keeps {s0 s t : State} (h : Keeps s0 s) {a0} (e : (execGather a0 s) = .next t) :
    Keeps s0 t := by
  revert e
  unfold execGather
  try dsimp only
  repeat' first
    | with_reducible refine Keeps.of_next ?_
    | with_reducible assumption
    | with_reducible refine State.moveRow_keeps ?_ _ _ _

theorem execScatter_keeps {s0 s t : State} (h : Keeps s0 s) {a0} (e : (execScatter a0 s) = .next t) :
    Keeps s0 t := by
  revert e
  unfold execScatter
  try dsimp only
  repeat' first
    | with_reducible refine Keeps.of_next ?_
    | with_reducible assumption
    | with_reducible refine State.moveRow_keeps ?_ _ _ _

theorem execScatterAdd_keeps {s0 s t : State} (h : Keeps s0 s) {a0} (e : (execScatterAdd a0 s) = .next t) :
    Keeps s0 t := by
  revert e
  unfold execScatterAdd
  try dsimp only
  repeat' first
    | with_reducible refine Keeps.of_next ?_
    | with_reducible assumption
    | with_reducible refine State.moveRow_keeps ?_ _ _ _

theorem execWindow_keeps {s0 s t : State} (h : Keeps s0 s) {a0} (e : (execWindow a0 s) = .next t) :
    Keeps s0 t := by
  revert e
  unfold execWindow
  try dsimp only
  repeat' first
    | with_reducible refine Keeps.of_next ?_
    | with_reducible assumption
    | with_reducible refine State.moveRow_keeps ?_ _ _ _

theorem execWindowT_keeps {s0 s t : State} (h : Keeps s0 s) {a0} (e : (execWindowT a0 s) = .next t) :
    Keeps s0 t := by
  revert e
  unfold execWindowT
  try dsimp only
  repeat' first
    | with_reducible refine Keeps.of_next ?_
    | with_reducible assumption
    | with_reducible refine State.moveRow_keeps ?_ _ _ _

theorem execPad_keeps {s0 s t : State} (h : Keeps s0 s) {a0} (e : (execPad a0 s) = .next t) :
    Keeps s0 t := by
  revert e
  unfold execPad
  try dsimp only
  repeat' first
    | with_reducible refine Keeps.of_next ?_
    | with_reducible assumption
    | with_reducible refine State.moveRow_keeps ?_ _ _ _

theorem execUp2_keeps {s0 s t : State} (h : Keeps s0 s) {a0} (e : (execUp2 a0 s) = .next t) :
    Keeps s0 t := by
  revert e
  unfold execUp2
  try dsimp only
  repeat' first
    | with_reducible refine Keeps.of_next ?_
    | with_reducible assumption
    | with_reducible refine State.moveRow_keeps ?_ _ _ _

theorem execDown2_keeps {s0 s t : State} (h : Keeps s0 s) {a0} (e : (execDown2 a0 s) = .next t) :
    Keeps s0 t := by
  revert e
  unfold execDown2
  try dsimp only
  repeat' first
    | with_reducible refine Keeps.of_next ?_
    | with_reducible assumption
    | with_reducible refine State.moveRow_keeps ?_ _ _ _

theorem execCrop_keeps {s0 s t : State} (h : Keeps s0 s) {a0} (e : (execCrop a0 s) = .next t) :
    Keeps s0 t := by
  revert e
  unfold execCrop
  try dsimp only
  repeat' first
    | with_reducible refine Keeps.of_next ?_
    | with_reducible assumption
    | with_reducible refine State.moveRow_keeps ?_ _ _ _

theorem State.landedRead_keeps {s0 s : State} (h : Keeps s0 s) (a1 a2) :
    Keeps s0 (State.landedRead s a1 a2) := by
  unfold State.landedRead
  try dsimp only
  repeat' first
    | with_reducible assumption
    | with_reducible refine State.moveRow_keeps ?_ _ _ _
    | with_reducible refine Keeps.ite (fun _ => ?_) (fun _ => ?_)
    | split

theorem execLandedRead_keeps {s0 s t : State} (h : Keeps s0 s) {a0 a1} (e : (execLandedRead a0 a1 s) = .next t) :
    Keeps s0 t := by
  revert e
  unfold execLandedRead
  try dsimp only
  repeat' first
    | with_reducible refine Keeps.of_next ?_
    | with_reducible assumption
    | with_reducible refine State.landedRead_keeps ?_ _ _

end Sys2Proof.Machine
end

