-- ==== Sys2Proof/Laws/KeepsContext.lean ====
section
/-! SUPPORT. `Keeps` for context save, restore and commit, and seeds. -/

namespace Sys2Proof.Machine

theorem State.saveFail_keeps {s0 s : State} (h : Keeps s0 s) (a1 a2 a3) :
    Keeps s0 (State.saveFail s a1 a2 a3) := by
  unfold State.saveFail
  try dsimp only
  repeat' first
    | with_reducible assumption
    | with_reducible refine State.event_keeps ?_ _ _ _ _ _
    | with_reducible refine State.modCtx_keeps ?_ _ _

theorem State.saveTask_keeps {s0 s : State} (h : Keeps s0 s) (a1 a2 a3) :
    Keeps s0 (State.saveTask s a1 a2 a3) := by
  unfold State.saveTask
  try dsimp only
  repeat' first
    | with_reducible assumption
    | refine State.writeVa_keeps ?_ (by with_reducible assumption)
    | with_reducible refine State.saveFail_keeps ?_ _ _ _
    | with_reducible refine State.modTask_keeps ?_ _ _ _
    | with_reducible refine State.modCtx_keeps ?_ _ _
    | split

theorem State.passYield_keeps {s0 s : State} (h : Keeps s0 s) (a1 a2 a3) :
    Keeps s0 (State.passYield s a1 a2 a3) := by
  unfold State.passYield
  try dsimp only
  repeat' first
    | with_reducible assumption
    | with_reducible refine State.modCore_keeps ?_ _ _ _
    | with_reducible refine State.modTask_keeps ?_ _ _ _
    | split

theorem State.yieldPoint_keeps {s0 s : State} (h : Keeps s0 s) (a1 a2) :
    Keeps s0 (State.yieldPoint s a1 a2) := by
  unfold State.yieldPoint
  try dsimp only
  repeat' first
    | with_reducible assumption
    | with_reducible refine State.project_keeps ?_ _
    | with_reducible refine State.renew_keeps ?_ _ _
    | with_reducible refine State.passYield_keeps ?_ _ _ _
    | with_reducible refine State.saveTask_keeps ?_ _ _ _
    | with_reducible refine Keeps.ite (fun _ => ?_) (fun _ => ?_)
    | split

theorem execYieldPoint_keeps {s0 s t : State} (h : Keeps s0 s) {a0} (e : (execYieldPoint a0 s) = .next t) :
    Keeps s0 t := by
  revert e
  unfold execYieldPoint
  try dsimp only
  repeat' first
    | with_reducible refine Keeps.of_next ?_
    | with_reducible assumption
    | with_reducible refine State.yieldPoint_keeps ?_ _ _

theorem State.taskSaveDone_keeps {s0 s : State} (h : Keeps s0 s) (a1 a2) :
    Keeps s0 (State.taskSaveDone s a1 a2) := by
  unfold State.taskSaveDone
  try dsimp only
  repeat' first
    | with_reducible assumption
    | with_reducible refine State.leaveCore_keeps ?_ _ _
    | with_reducible refine State.unrefMoves_keeps ?_ _
    | with_reducible refine State.modCtx_keeps ?_ _ _
    | with_reducible refine State.modLease_keeps ?_ _ _ _ _ _
    | with_reducible refine Keeps.ite (fun _ => ?_) (fun _ => ?_)
    | split

theorem execTaskSaveDone_keeps {s0 s t : State} (h : Keeps s0 s) {a0} (e : (execTaskSaveDone a0 s) = .next t) :
    Keeps s0 t := by
  revert e
  unfold execTaskSaveDone
  try dsimp only
  repeat' first
    | with_reducible refine Keeps.of_next ?_
    | with_reducible assumption
    | with_reducible refine State.taskSaveDone_keeps ?_ _ _

theorem State.beginPreempt_keeps {s0 s : State} (h : Keeps s0 s) (a1) :
    Keeps s0 (State.beginPreempt s a1) := by
  unfold State.beginPreempt
  try dsimp only
  repeat' first
    | with_reducible assumption
    | with_reducible refine State.modCtx_keeps ?_ _ _
    | with_reducible refine State.setObj_keeps ?_ _ _
    | with_reducible refine State.commitFail_keeps ?_ _
    | with_reducible refine Keeps.ite (fun _ => ?_) (fun _ => ?_)

theorem State.preempt_keeps {s0 s : State} (h : Keeps s0 s) (a1 a2) :
    Keeps s0 (State.preempt s a1 a2).1 := by
  unfold State.preempt
  try dsimp only
  repeat' first
    | with_reducible assumption
    | with_reducible refine State.beginPreempt_keeps ?_ _
    | with_reducible refine Keeps.iteFst (fun _ => ?_) (fun _ => ?_)

theorem execPreempt_keeps {s0 s t : State} (h : Keeps s0 s) {a0 a1} (e : (execPreempt a0 a1 s) = .next t) :
    Keeps s0 t := by
  revert e
  unfold execPreempt
  try dsimp only
  repeat' first
    | with_reducible refine Keeps.of_next ?_
    | with_reducible assumption
    | with_reducible refine written_keeps ?_
    | with_reducible refine State.preempt_keeps ?_ _ _

theorem State.writeArea_keeps {s0 s : State} (h : Keeps s0 s) (a1 a2) :
    Keeps s0 (State.writeArea s a1 a2) := by
  unfold State.writeArea
  try dsimp only
  repeat' first
    | with_reducible assumption
    | refine State.writeVa_keeps ?_ (by with_reducible assumption)
    | with_reducible refine State.saveFail_keeps ?_ _ _ _
    | with_reducible refine State.event_keeps ?_ _ _ _ _ _
    | with_reducible refine State.setObj_keeps ?_ _ _
    | split

theorem State.saveArea_keeps {s0 s : State} (h : Keeps s0 s) (a1) :
    Keeps s0 (State.saveArea s a1) := by
  unfold State.saveArea
  try dsimp only
  repeat' first
    | with_reducible assumption
    | with_reducible refine State.writeArea_keeps ?_ _ _
    | with_reducible refine Keeps.ite (fun _ => ?_) (fun _ => ?_)

theorem execSaveAreaComplete_keeps {s0 s t : State} (h : Keeps s0 s) {a0} (e : (execSaveAreaComplete a0 s) = .next t) :
    Keeps s0 t := by
  revert e
  unfold execSaveAreaComplete
  try dsimp only
  repeat' first
    | with_reducible refine Keeps.of_next ?_
    | with_reducible assumption
    | with_reducible refine State.saveArea_keeps ?_ _

theorem State.placePlan_keeps {s0 s : State} (h : Keeps s0 s) (a1) :
    Keeps s0 (State.placePlan s a1) := by
  unfold State.placePlan
  try dsimp only
  repeat' first
    | with_reducible assumption
    | with_reducible refine State.modQueue_keeps ?_ _ _ _
    | with_reducible refine State.shown_keeps ?_ _
    | with_reducible refine State.modPlan_keeps ?_ _ _
    | with_reducible refine State.openPlan_keeps ?_ _
    | split

theorem State.takePlans_keeps {s0 s : State} (h : Keeps s0 s) (c n l) : Keeps s0 (State.takePlans s c n l).1 := by
  induction n generalizing s l with
  | zero => exact h
  | succ n ih =>
    unfold State.takePlans
    exact ih (State.placePlan_keeps h _) _

theorem State.takeQueue_keeps {s0 s : State} (h : Keeps s0 s) (a1 a2) :
    Keeps s0 (State.takeQueue s a1 a2) := by
  unfold State.takeQueue
  try dsimp only
  repeat' first
    | with_reducible assumption
    | with_reducible refine State.setObj_keeps ?_ _ _
    | with_reducible refine State.modQueue_keeps ?_ _ _ _
    | with_reducible refine State.setRelay_keeps ?_ _ _ _ _ _

theorem State.setTags_keeps {s0 s : State} (h : Keeps s0 s) (a1 a2) :
    Keeps s0 (State.setTags s a1 a2) := by
  unfold State.setTags
  try dsimp only
  repeat' first
    | with_reducible assumption
    | with_reducible refine State.putWord_keeps ?_ _ _ _
    | with_reducible refine Keeps.foldl _ (fun _ _ _ => ?_) ?_

theorem State.setGroups_keeps {s0 s : State} (h : Keeps s0 s) (a1 a2) :
    Keeps s0 (State.setGroups s a1 a2) := by
  unfold State.setGroups
  try dsimp only
  repeat' first
    | with_reducible assumption
    | with_reducible refine State.countGroups_keeps ?_
    | simp only [Keeps.upd_iff]

theorem State.joinSaved_keeps {s0 s : State} (h : Keeps s0 s) (a1 a2) :
    Keeps s0 (State.joinSaved s a1 a2) := by
  unfold State.joinSaved
  try dsimp only
  repeat' first
    | with_reducible assumption
    | with_reducible refine State.modPlan_keeps ?_ _ _
    | with_reducible refine State.modQueue_keeps ?_ _ _ _
    | with_reducible refine Keeps.ite (fun _ => ?_) (fun _ => ?_)
    | split

theorem State.takeSaved_keeps {s0 s : State} (h : Keeps s0 s) (a1 a2 n l) : Keeps s0 (State.takeSaved s a1 a2 n l) := by
  induction n generalizing s l with
  | zero => exact h
  | succ n ih =>
    unfold State.takeSaved
    exact ih (State.joinSaved_keeps h _ _) _

theorem State.checkPlans_keeps {s0 s : State} (h : Keeps s0 s) (a1) :
    Keeps s0 (State.checkPlans s a1) := by
  unfold State.checkPlans
  try dsimp only
  repeat' first
    | with_reducible assumption
    | with_reducible refine State.planCheck_keeps ?_ _
    | with_reducible refine Keeps.foldl _ (fun _ _ _ => ?_) ?_

theorem State.restoreArea_keeps {s0 s t : State} (h : Keeps s0 s) {a1} (e : (State.restoreArea s a1) = some t) :
    Keeps s0 t := by
  revert e
  unfold State.restoreArea
  try dsimp only
  repeat' first
    | with_reducible refine Keeps.of_some ?_
    | with_reducible exact Keeps.of_none
    | with_reducible assumption
    | with_reducible refine State.takeQueue_keeps ?_ _ _
    | with_reducible refine State.setTags_keeps ?_ _ _
    | with_reducible refine State.takePlans_keeps ?_ _ _ _
    | with_reducible refine State.setGroups_keeps ?_ _ _
    | with_reducible refine State.setObj_keeps ?_ _ _
    | with_reducible refine State.checkPlans_keeps ?_ _
    | with_reducible refine State.takeSaved_keeps ?_ _ _ _ _
    | with_reducible refine Keeps.foldl _ (fun _ _ _ => ?_) ?_
    | split

theorem State.restore_keeps {s0 s : State} (h : Keeps s0 s) (a1 a2) :
    Keeps s0 (State.restore s a1 a2).1 := by
  unfold State.restore
  try dsimp only
  repeat' first
    | with_reducible assumption
    | refine State.restoreArea_keeps ?_ (by with_reducible assumption)
    | with_reducible refine State.setObj_keeps ?_ _ _
    | with_reducible refine Keeps.iteFst (fun _ => ?_) (fun _ => ?_)
    | split

theorem execRestore_keeps {s0 s t : State} (h : Keeps s0 s) {a0 a1} (e : (execRestore a0 a1 s) = .next t) :
    Keeps s0 t := by
  revert e
  unfold execRestore
  try dsimp only
  repeat' first
    | with_reducible refine Keeps.of_next ?_
    | with_reducible assumption
    | with_reducible refine written_keeps ?_
    | with_reducible refine State.restore_keeps ?_ _ _

theorem State.restoreDone_keeps {s0 s : State} (h : Keeps s0 s) (a1) :
    Keeps s0 (State.restoreDone s a1) := by
  unfold State.restoreDone
  try dsimp only
  repeat' first
    | with_reducible assumption
    | with_reducible refine State.modCtx_keeps ?_ _ _
    | with_reducible refine State.setObj_keeps ?_ _ _
    | with_reducible refine Keeps.ite (fun _ => ?_) (fun _ => ?_)

theorem execRestoreComplete_keeps {s0 s t : State} (h : Keeps s0 s) {a0} (e : (execRestoreComplete a0 s) = .next t) :
    Keeps s0 t := by
  revert e
  unfold execRestoreComplete
  try dsimp only
  repeat' first
    | with_reducible refine Keeps.of_next ?_
    | with_reducible assumption
    | with_reducible refine State.restoreDone_keeps ?_ _

theorem State.againTile_keeps {s0 s t : State} (h : Keeps s0 s) {a1 a2 a3 a4 a5} (e : (State.againTile s a1 a2 a3 a4 a5) = .ok t) :
    Keeps s0 t := by
  revert e
  unfold State.againTile
  try dsimp only
  repeat' first
    | with_reducible refine Keeps.of_ok ?_
    | with_reducible exact Keeps.of_error
    | with_reducible assumption
    | with_reducible refine State.startCmd_keeps ?_ _ _ _ _
    | with_reducible refine State.setCore_keeps ?_ _ _ _
    | split

theorem State.againCmd_keeps {s0 s : State} (h : Keeps s0 s) (a1 a2) :
    Keeps s0 (State.againCmd s a1 a2) := by
  unfold State.againCmd
  try dsimp only
  repeat' first
    | with_reducible assumption
    | with_reducible refine State.taskFail_keeps ?_ _ _ _
    | with_reducible refine State.startCmd_keeps ?_ _ _ _ _
    | with_reducible refine State.modCore_keeps ?_ _ _ _
    | refine State.issueMv_keeps ?_ (by assumption)
    | with_reducible refine State.queueMv_keeps ?_ _ _ _ _
    | refine State.againTile_keeps ?_ (by with_reducible assumption)
    | with_reducible refine State.modTask_keeps ?_ _ _ _
    | with_reducible refine Keeps.ite (fun _ => ?_) (fun _ => ?_)
    | split

theorem State.restoreTile_keeps {s0 s : State} (h : Keeps s0 s) (a1 a2 a3 a4 a5) :
    Keeps s0 (State.restoreTile s a1 a2 a3 a4 a5) := by
  unfold State.restoreTile
  try dsimp only
  repeat' first
    | with_reducible assumption
    | with_reducible refine State.taskFail_keeps ?_ _ _ _
    | refine State.againTile_keeps ?_ (by with_reducible assumption)
    | with_reducible refine State.modCore_keeps ?_ _ _ _
    | with_reducible refine State.modTask_keeps ?_ _ _ _
    | with_reducible refine Keeps.ite (fun _ => ?_) (fun _ => ?_)
    | split

theorem State.placeTask_keeps {s0 s : State} (h : Keeps s0 s) (a1 a2 a3 a4 a5) :
    Keeps s0 (State.placeTask s a1 a2 a3 a4 a5) := by
  unfold State.placeTask
  try dsimp only
  repeat' first
    | with_reducible assumption
    | with_reducible refine State.imageLoad_keeps ?_ _ _
    | with_reducible refine State.modCore_keeps ?_ _ _ _
    | with_reducible refine State.againCmd_keeps ?_ _ _
    | with_reducible refine State.modTask_keeps ?_ _ _ _
    | with_reducible refine State.restoreTile_keeps ?_ _ _ _ _ _
    | with_reducible refine Keeps.foldl _ (fun _ _ _ => ?_) ?_

theorem State.dropSaved_keeps {s0 s : State} (h : Keeps s0 s) (a1 a2 a3) :
    Keeps s0 (State.dropSaved s a1 a2 a3) := by
  unfold State.dropSaved
  try dsimp only
  repeat' first
    | with_reducible assumption
    | with_reducible refine State.modPlan_keeps ?_ _ _
    | with_reducible refine State.modQueue_keeps ?_ _ _ _
    | split

theorem State.savedAgain_keeps {s0 s : State} (h : Keeps s0 s) (a1 a2 a3) :
    Keeps s0 (State.savedAgain s a1 a2 a3) := by
  unfold State.savedAgain
  try dsimp only
  repeat' first
    | with_reducible assumption
    | with_reducible refine State.expireLease_keeps ?_ _ _
    | with_reducible refine State.modPlan_keeps ?_ _ _
    | with_reducible refine State.modQueue_keeps ?_ _ _ _
    | split

theorem State.savedStale_keeps {s0 s : State} (h : Keeps s0 s) (a1 a2 a3 a4) :
    Keeps s0 (State.savedStale s a1 a2 a3 a4) := by
  unfold State.savedStale
  try dsimp only
  repeat' first
    | with_reducible assumption
    | with_reducible refine State.planFail_keeps ?_ _ _
    | with_reducible refine State.finishHead_keeps ?_ _ _ _ _ _
    | split

theorem State.resumeTask_keeps {s0 s : State} (h : Keeps s0 s) (a1 a2 a3 a4) :
    Keeps s0 (State.resumeTask s a1 a2 a3 a4) := by
  unfold State.resumeTask
  try dsimp only
  repeat' first
    | with_reducible assumption
    | with_reducible refine State.dropSaved_keeps ?_ _ _ _
    | with_reducible refine State.savedAgain_keeps ?_ _ _ _
    | with_reducible refine State.savedStale_keeps ?_ _ _ _ _
    | with_reducible refine State.bindVersion_keeps ?_ _
    | with_reducible refine State.placeTask_keeps ?_ _ _ _ _ _
    | with_reducible refine State.startTask_keeps ?_ _ _ _ _
    | with_reducible refine Keeps.ite (fun _ => ?_) (fun _ => ?_)
    | split

theorem State.savedResume_keeps {s0 s : State} (h : Keeps s0 s) (a1 a2) :
    Keeps s0 (State.savedResume s a1 a2) := by
  unfold State.savedResume
  try dsimp only
  repeat' first
    | with_reducible assumption
    | with_reducible refine State.resumeTask_keeps ?_ _ _ _ _
    | with_reducible refine State.noteServed_keeps ?_ _ _
    | with_reducible refine Keeps.ite (fun _ => ?_) (fun _ => ?_)
    | split

theorem execSavedTaskResume_keeps {s0 s t : State} (h : Keeps s0 s) {a0} (e : (execSavedTaskResume a0 s) = .next t) :
    Keeps s0 t := by
  revert e
  unfold execSavedTaskResume
  try dsimp only
  repeat' first
    | with_reducible refine Keeps.of_next ?_
    | with_reducible assumption
    | with_reducible refine State.savedResume_keeps ?_ _ _

theorem State.programLoad_keeps {s0 s : State} (h : Keeps s0 s) (a1 a2) :
    Keeps s0 (State.programLoad s a1 a2).1 := by
  unfold State.programLoad
  try dsimp only
  repeat' first
    | with_reducible assumption
    | with_reducible refine State.setObj_keeps ?_ _ _
    | with_reducible refine State.setTags_keeps ?_ _ _
    | with_reducible refine State.modCtx_keeps ?_ _ _
    | with_reducible refine Keeps.iteFst (fun _ => ?_) (fun _ => ?_)

theorem execProgramLoad_keeps {s0 s t : State} (h : Keeps s0 s) {a0 a1} (e : (execProgramLoad a0 a1 s) = .next t) :
    Keeps s0 t := by
  revert e
  unfold execProgramLoad
  try dsimp only
  repeat' first
    | with_reducible refine Keeps.of_next ?_
    | with_reducible assumption
    | with_reducible refine written_keeps ?_
    | with_reducible refine State.programLoad_keeps ?_ _ _

theorem State.dropTasks_keeps {s0 s : State} (h : Keeps s0 s) (a1) :
    Keeps s0 (State.dropTasks s a1) := by
  unfold State.dropTasks
  try dsimp only
  repeat' first
    | with_reducible assumption
    | with_reducible refine State.leaveCore_keeps ?_ _ _
    | with_reducible refine State.unrefMoves_keeps ?_ _
    | with_reducible refine Keeps.ite (fun _ => ?_) (fun _ => ?_)
    | with_reducible refine Keeps.foldl _ (fun _ _ _ => ?_) ?_
    | split

theorem State.dropLeases_keeps {s0 s : State} (h : Keeps s0 s) (a1) :
    Keeps s0 (State.dropLeases s a1) := by
  unfold State.dropLeases
  try dsimp only
  repeat' first
    | with_reducible assumption
    | with_reducible refine State.unbindVersion_keeps ?_ _
    | with_reducible refine State.modLeases_keeps ?_ _ _
    | with_reducible refine Keeps.foldl _ (fun _ _ _ => ?_) ?_

theorem State.dropPlans_keeps {s0 s : State} (h : Keeps s0 s) (a1) :
    Keeps s0 (State.dropPlans s a1) := by
  unfold State.dropPlans
  try dsimp only
  repeat' first
    | with_reducible assumption
    | with_reducible refine State.unrefTable_keeps ?_ _
    | with_reducible refine State.unbindVersion_keeps ?_ _
    | simp only [Keeps.upd_iff]
    | with_reducible refine Keeps.foldl _ (fun _ _ _ => ?_) ?_

theorem State.dropQueues_keeps {s0 s : State} (h : Keeps s0 s) (a1) :
    Keeps s0 (State.dropQueues s a1) := by
  unfold State.dropQueues
  try dsimp only
  repeat' first
    | with_reducible assumption
    | with_reducible refine State.setRelay_keeps ?_ _ _ _ _ _
    | with_reducible refine State.modQueue_keeps ?_ _ _ _
    | with_reducible refine Keeps.foldl _ (fun _ _ _ => ?_) ?_

theorem State.programUnload_keeps {s0 s : State} (h : Keeps s0 s) (a1) :
    Keeps s0 (State.programUnload s a1).1 := by
  unfold State.programUnload
  try dsimp only
  repeat' first
    | with_reducible assumption
    | with_reducible refine State.dropQueues_keeps ?_ _
    | with_reducible refine State.dropPlans_keeps ?_ _
    | with_reducible refine State.dropLeases_keeps ?_ _
    | with_reducible refine State.dropTasks_keeps ?_ _
    | with_reducible refine State.setGroups_keeps ?_ _ _
    | with_reducible refine State.modCtx_keeps ?_ _ _
    | with_reducible refine State.setObj_keeps ?_ _ _
    | with_reducible refine Keeps.iteFst (fun _ => ?_) (fun _ => ?_)

theorem execProgramUnload_keeps {s0 s t : State} (h : Keeps s0 s) {a0} (e : (execProgramUnload a0 s) = .next t) :
    Keeps s0 t := by
  revert e
  unfold execProgramUnload
  try dsimp only
  repeat' first
    | with_reducible refine Keeps.of_next ?_
    | with_reducible assumption
    | with_reducible refine written_keeps ?_
    | with_reducible refine State.programUnload_keeps ?_ _

theorem State.putKey_keeps {s0 s : State} (h : Keeps s0 s) (a1 a2 a3) :
    Keeps s0 (State.putKey s a1 a2 a3) := by
  unfold State.putKey
  try dsimp only
  repeat' first
    | with_reducible assumption
    | with_reducible refine State.modCtx_keeps ?_ _ _
    | with_reducible refine State.setObj_keeps ?_ _ _

theorem State.writeKey_keeps {s0 s : State} (h : Keeps s0 s) (a1 a2 a3) :
    Keeps s0 (State.writeKey s a1 a2 a3).1 := by
  unfold State.writeKey
  try dsimp only
  repeat' first
    | with_reducible assumption
    | with_reducible refine State.putKey_keeps ?_ _ _ _
    | with_reducible refine Keeps.iteFst (fun _ => ?_) (fun _ => ?_)

theorem execSeedKey_keeps {s0 s t : State} (h : Keeps s0 s) {a0 a1 a2} (e : (execSeedKey a0 a1 a2 s) = .next t) :
    Keeps s0 t := by
  revert e
  unfold execSeedKey
  try dsimp only
  repeat' first
    | with_reducible refine Keeps.of_next ?_
    | with_reducible assumption
    | with_reducible refine written_keeps ?_
    | with_reducible refine State.writeKey_keeps ?_ _ _ _

theorem State.advanceStep_keeps {s0 s : State} (h : Keeps s0 s) (a1) :
    Keeps s0 (State.advanceStep s a1) := by
  unfold State.advanceStep
  try dsimp only
  repeat' first
    | with_reducible assumption
    | with_reducible refine State.event_keeps ?_ _ _ _ _ _
    | with_reducible refine State.setObj_keeps ?_ _ _
    | with_reducible refine Keeps.ite (fun _ => ?_) (fun _ => ?_)

theorem execStepAdvance_keeps {s0 s t : State} (h : Keeps s0 s) {a0 a1} (e : (execStepAdvance a0 a1 s) = .next t) :
    Keeps s0 t := by
  revert e
  unfold execStepAdvance
  try dsimp only
  repeat' first
    | with_reducible refine Keeps.of_next ?_
    | with_reducible assumption
    | with_reducible refine State.advanceStep_keeps ?_ _
    | with_reducible refine Keeps.ite (fun _ => ?_) (fun _ => ?_)

theorem State.setStep_keeps {s0 s : State} (h : Keeps s0 s) (a1 a2) :
    Keeps s0 (State.setStep s a1 a2) := by
  unfold State.setStep
  try dsimp only
  repeat' first
    | with_reducible assumption
    | with_reducible refine State.setObj_keeps ?_ _ _
    | with_reducible refine Keeps.ite (fun _ => ?_) (fun _ => ?_)

theorem execStepCounter_keeps {s0 s t : State} (h : Keeps s0 s) {a0 a1} (e : (execStepCounter a0 a1 s) = .next t) :
    Keeps s0 t := by
  revert e
  unfold execStepCounter
  try dsimp only
  repeat' first
    | with_reducible refine Keeps.of_next ?_
    | with_reducible assumption
    | with_reducible refine State.setStep_keeps ?_ _ _

theorem State.beginCommit_keeps {s0 s : State} (h : Keeps s0 s) (a1 a2) :
    Keeps s0 (State.beginCommit s a1 a2).1 := by
  unfold State.beginCommit
  try dsimp only
  repeat' first
    | with_reducible assumption
    | with_reducible refine State.modCtx_keeps ?_ _ _
    | with_reducible refine State.setObj_keeps ?_ _ _
    | with_reducible refine Keeps.iteFst (fun _ => ?_) (fun _ => ?_)

theorem execCommit_keeps {s0 s t : State} (h : Keeps s0 s) {a0 a1} (e : (execCommit a0 a1 s) = .next t) :
    Keeps s0 t := by
  revert e
  unfold execCommit
  try dsimp only
  repeat' first
    | with_reducible refine Keeps.of_next ?_
    | with_reducible assumption
    | with_reducible refine written_keeps ?_
    | with_reducible refine State.beginCommit_keeps ?_ _ _

theorem State.writeBlocks_keeps {s0 s t : State} (h : Keeps s0 s) {a1 a2 a3} (e : (State.writeBlocks s a1 a2 a3) = .ok t) :
    Keeps s0 t := by
  revert e
  unfold State.writeBlocks
  try dsimp only
  repeat' first
    | with_reducible refine Keeps.of_ok ?_
    | with_reducible exact Keeps.of_error
    | with_reducible assumption
    | with_reducible refine State.writeSealed_keeps ?_ _ _ _ _ _ _
    | with_reducible refine Keeps.foldl _ (fun _ _ _ => ?_) ?_
    | split

theorem State.sendCopyTo_keeps {s0 s : State} (h : Keeps s0 s) (a1 a2 a3 a4) :
    Keeps s0 (State.sendCopyTo s a1 a2 a3 a4) := by
  unfold State.sendCopyTo
  try dsimp only
  repeat' first
    | with_reducible assumption
    | with_reducible refine State.modCtx_keeps ?_ _ _
    | refine State.inject_keeps ?_ (by with_reducible assumption)
    | refine Keeps.foldl_ok (fun _ _ _ _ _ => ?_) (fun _ _ => rfl) _ ?_ (by with_reducible assumption)
    | simp only [Keeps.upd_iff]
    | with_reducible refine Keeps.ite (fun _ => ?_) (fun _ => ?_)
    | split

theorem State.commitBad_keeps {s0 s : State} (h : Keeps s0 s) (a1) :
    Keeps s0 (State.commitBad s a1) := by
  unfold State.commitBad
  try dsimp only
  repeat' first
    | with_reducible assumption
    | with_reducible refine State.modCtx_keeps ?_ _ _

theorem State.storeRecord_keeps {s0 s : State} (h : Keeps s0 s) (c off body hd a b) :
    Keeps s0 (State.storeRecord s c off body hd a b) := by
  unfold State.storeRecord
  split
  · exact State.commitBad_keeps h _
  · next e1 =>
    have h1 := State.writeBlocks_keeps h e1
    split
    · exact State.commitBad_keeps h1 _
    · next e2 =>
      have h2 := State.writeBlocks_keeps h1 e2
      exact State.sendCopyTo_keeps (State.sendCopyTo_keeps (State.modCtx_keeps h2 _ _) _ _ _ _) _ _ _ _

theorem State.writeRecord_keeps {s0 s : State} (h : Keeps s0 s) (c) : Keeps s0 (State.writeRecord s c) := by
  unfold State.writeRecord
  split
  · exact State.commitBad_keeps h _
  · dsimp only
    split
    · exact State.commitBad_keeps h _
    · exact State.storeRecord_keeps h _ _ _ _ _ _

theorem State.sendHeader_keeps {s0 s : State} (h : Keeps s0 s) (a1 a2) :
    Keeps s0 (State.sendHeader s a1 a2) := by
  unfold State.sendHeader
  try dsimp only
  repeat' first
    | with_reducible assumption
    | with_reducible refine State.sendCopyTo_keeps ?_ _ _ _ _
    | with_reducible refine State.modCtx_keeps ?_ _ _
    | with_reducible refine Keeps.ite (fun _ => ?_) (fun _ => ?_)
    | split

theorem State.commitRecord_keeps {s0 s : State} (h : Keeps s0 s) (a1) :
    Keeps s0 (State.commitRecord s a1) := by
  unfold State.commitRecord
  try dsimp only
  repeat' first
    | with_reducible assumption
    | with_reducible refine State.writeRecord_keeps ?_ _
    | with_reducible refine State.sendHeader_keeps ?_ _ _
    | with_reducible refine State.modCtx_keeps ?_ _ _
    | with_reducible refine Keeps.ite (fun _ => ?_) (fun _ => ?_)

theorem execCommitRecord_keeps {s0 s t : State} (h : Keeps s0 s) {a0} (e : (execCommitRecord a0 s) = .next t) :
    Keeps s0 t := by
  revert e
  unfold execCommitRecord
  try dsimp only
  repeat' first
    | with_reducible refine Keeps.of_next ?_
    | with_reducible assumption
    | with_reducible refine State.commitRecord_keeps ?_ _

theorem State.commitDone_keeps {s0 s : State} (h : Keeps s0 s) (a1) :
    Keeps s0 (State.commitDone s a1) := by
  unfold State.commitDone
  try dsimp only
  repeat' first
    | with_reducible assumption
    | with_reducible refine State.commitFail_keeps ?_ _
    | with_reducible refine State.modCtx_keeps ?_ _ _
    | with_reducible refine State.setObj_keeps ?_ _ _
    | simp only [Keeps.upd_iff]
    | with_reducible refine Keeps.ite (fun _ => ?_) (fun _ => ?_)

theorem execCommitDone_keeps {s0 s t : State} (h : Keeps s0 s) {a0} (e : (execCommitDone a0 s) = .next t) :
    Keeps s0 t := by
  revert e
  unfold execCommitDone
  try dsimp only
  repeat' first
    | with_reducible refine Keeps.of_next ?_
    | with_reducible assumption
    | with_reducible refine State.commitDone_keeps ?_ _

theorem State.applyRecord_keeps {s0 s : State} (h : Keeps s0 s) (a1 a2 a3) :
    Keeps s0 (State.applyRecord s a1 a2 a3) := by
  unfold State.applyRecord
  try dsimp only
  repeat' first
    | with_reducible assumption
    | with_reducible refine State.takeQueue_keeps ?_ _ _
    | with_reducible refine State.setGroups_keeps ?_ _ _
    | with_reducible refine State.setTags_keeps ?_ _ _
    | with_reducible refine State.setConsumed_keeps ?_ _ _
    | with_reducible refine State.setObj_keeps ?_ _ _
    | with_reducible refine State.tryWriteVa_keeps ?_ _ _ _
    | with_reducible refine State.putKey_keeps ?_ _ _ _
    | with_reducible refine State.modCtx_keeps ?_ _ _
    | with_reducible refine Keeps.foldl _ (fun _ _ _ => ?_) ?_

theorem State.restoreCommit_keeps {s0 s : State} (h : Keeps s0 s) (a1 a2) :
    Keeps s0 (State.restoreCommit s a1 a2).1 := by
  unfold State.restoreCommit
  try dsimp only
  repeat' first
    | with_reducible assumption
    | with_reducible refine State.applyRecord_keeps ?_ _ _ _
    | with_reducible refine Keeps.iteFst (fun _ => ?_) (fun _ => ?_)
    | split

theorem execRestoreCommit_keeps {s0 s t : State} (h : Keeps s0 s) {a0 a1} (e : (execRestoreCommit a0 a1 s) = .next t) :
    Keeps s0 t := by
  revert e
  unfold execRestoreCommit
  try dsimp only
  repeat' first
    | with_reducible refine Keeps.of_next ?_
    | with_reducible assumption
    | with_reducible refine written_keeps ?_
    | with_reducible refine State.restoreCommit_keeps ?_ _ _

end Sys2Proof.Machine
end

