-- ==== Sys2Proof/Laws/KeepsFabric.lean ====
section
/-! SUPPORT. `Keeps` for the Chairlift and the link fabric. -/

namespace Sys2Proof.Machine

theorem State.chairRecord_keeps {s0 s : State} (h : Keeps s0 s) (a1 a2 a3 a4 a5) :
    Keeps s0 (State.chairRecord s a1 a2 a3 a4 a5) := by
  unfold State.chairRecord
  try dsimp only
  repeat' first
    | with_reducible assumption
    | with_reducible refine State.write_keeps ?_ _ _
    | with_reducible refine Keeps.ite (fun _ => ?_) (fun _ => ?_)

theorem State.flipSlot_keeps {s0 s : State} (h : Keeps s0 s) (a1 a2) :
    Keeps s0 (State.flipSlot s a1 a2) := by
  unfold State.flipSlot
  try dsimp only
  repeat' first
    | with_reducible assumption
    | with_reducible refine State.setEState_keeps ?_ _ _ _
    | with_reducible refine State.leaveEntry_keeps ?_ _ _
    | with_reducible refine State.event_keeps ?_ _ _ _ _ _
    | with_reducible refine State.setObj_keeps ?_ _ _
    | with_reducible refine Keeps.ite (fun _ => ?_) (fun _ => ?_)
    | with_reducible refine Keeps.foldl _ (fun _ _ _ => ?_) ?_

theorem State.flipTable_keeps {s0 s : State} (h : Keeps s0 s) (a1) :
    Keeps s0 (State.flipTable s a1) := by
  unfold State.flipTable
  try dsimp only
  repeat' first
    | with_reducible assumption
    | with_reducible refine State.cnt48_keeps ?_ _ _
    | with_reducible refine State.setTable_keeps ?_ _ _
    | with_reducible refine Keeps.ite (fun _ => ?_) (fun _ => ?_)
    | split

theorem State.countTables_keeps {s0 s : State} (h : Keeps s0 s) :
    Keeps s0 (State.countTables s) := by
  unfold State.countTables
  try dsimp only
  repeat' first
    | with_reducible assumption
    | with_reducible refine State.setObj_keeps ?_ _ _

theorem State.modLoad_keeps {s0 s : State} (h : Keeps s0 s) (a1 a2) :
    Keeps s0 (State.modLoad s a1 a2) := by
  unfold State.modLoad
  try dsimp only
  repeat' first
    | with_reducible assumption
    | with_reducible refine State.setTable_keeps ?_ _ _
    | split

theorem State.modTransfer_keeps {s0 s : State} (h : Keeps s0 s) (a1 a2) :
    Keeps s0 (State.modTransfer s a1 a2) := by
  unfold State.modTransfer
  try dsimp only
  repeat' first
    | with_reducible assumption
    | simp only [Keeps.upd_iff]

theorem State.closeTransfer_keeps {s0 s : State} (h : Keeps s0 s) (a1 a2) :
    Keeps s0 (State.closeTransfer s a1 a2) := by
  unfold State.closeTransfer
  try dsimp only
  repeat' first
    | with_reducible assumption
    | with_reducible refine State.chairRecord_keeps ?_ _ _ _ _ _
    | simp only [Keeps.upd_iff]

theorem State.failTransfer_keeps {s0 s : State} (h : Keeps s0 s) (a1 a2) :
    Keeps s0 (State.failTransfer s a1 a2) := by
  unfold State.failTransfer
  try dsimp only
  repeat' first
    | with_reducible assumption
    | with_reducible refine State.event_keeps ?_ _ _ _ _ _
    | with_reducible refine State.modEntry_keeps ?_ _ _ _
    | with_reducible refine State.setObj_keeps ?_ _ _
    | with_reducible refine State.setEState_keeps ?_ _ _ _
    | with_reducible refine State.modLoad_keeps ?_ _ _
    | with_reducible refine State.closeTransfer_keeps ?_ _ _
    | split

theorem State.finishTransfer_keeps {s0 s : State} (h : Keeps s0 s) (a1) :
    Keeps s0 (State.finishTransfer s a1) := by
  unfold State.finishTransfer
  try dsimp only
  repeat' first
    | with_reducible assumption
    | with_reducible refine State.closeTransfer_keeps ?_ _ _
    | with_reducible refine State.setEState_keeps ?_ _ _ _
    | with_reducible refine State.flipSlot_keeps ?_ _ _
    | with_reducible refine State.modLoad_keeps ?_ _ _
    | with_reducible refine State.flipTable_keeps ?_ _
    | with_reducible refine State.failTransfer_keeps ?_ _ _
    | with_reducible refine Keeps.ite (fun _ => ?_) (fun _ => ?_)
    | split

theorem State.writeBlock_keeps {s0 s : State} (h : Keeps s0 s) (a1 a2 a3) :
    Keeps s0 (State.writeBlock s a1 a2 a3) := by
  unfold State.writeBlock
  try dsimp only
  repeat' first
    | with_reducible assumption
    | with_reducible refine State.cnt48_keeps ?_ _ _
    | with_reducible refine State.write_keeps ?_ _ _
    | with_reducible refine State.modTransfer_keeps ?_ _ _
    | with_reducible refine State.setEState_keeps ?_ _ _ _
    | with_reducible refine Keeps.ite (fun _ => ?_) (fun _ => ?_)
    | split

theorem State.dropBlock_keeps {s0 s : State} (h : Keeps s0 s) (a1) :
    Keeps s0 (State.dropBlock s a1) := by
  unfold State.dropBlock
  try dsimp only
  repeat' first
    | with_reducible assumption
    | with_reducible refine State.cnt16_keeps ?_ _ _
    | with_reducible refine State.modTransfer_keeps ?_ _ _

theorem State.takeBlock_keeps {s0 s : State} (h : Keeps s0 s) (a1 a2 a3) :
    Keeps s0 (State.takeBlock s a1 a2 a3) := by
  unfold State.takeBlock
  try dsimp only
  repeat' first
    | with_reducible assumption
    | with_reducible refine State.dropBlock_keeps ?_ _
    | with_reducible refine State.writeBlock_keeps ?_ _ _ _
    | with_reducible refine Keeps.ite (fun _ => ?_) (fun _ => ?_)

theorem State.resendTo_keeps {s0 s : State} (h : Keeps s0 s) (a1 a2 a3) :
    Keeps s0 (State.resendTo s a1 a2 a3) := by
  unfold State.resendTo
  try dsimp only
  repeat' first
    | with_reducible assumption
    | with_reducible refine State.injectOr_keeps ?_ _ _
    | with_reducible refine State.modTransfer_keeps ?_ _ _

theorem State.sendResend_keeps {s0 s : State} (h : Keeps s0 s) (a1 a2) :
    Keeps s0 (State.sendResend s a1 a2) := by
  unfold State.sendResend
  try dsimp only
  repeat' first
    | with_reducible assumption
    | with_reducible refine State.resendTo_keeps ?_ _ _ _
    | split

theorem State.verifyBlock_keeps {s0 s : State} (h : Keeps s0 s) (a1 a2 a3) :
    Keeps s0 (State.verifyBlock s a1 a2 a3) := by
  unfold State.verifyBlock
  try dsimp only
  repeat' first
    | with_reducible assumption
    | with_reducible refine State.countRd_keeps ?_ _ _
    | with_reducible refine State.modTransfer_keeps ?_ _ _
    | with_reducible refine State.seal_keeps ?_ _ _ _ _ _ _
    | with_reducible refine State.finishTransfer_keeps ?_ _
    | with_reducible refine State.dropBlock_keeps ?_ _
    | with_reducible refine State.failTransfer_keeps ?_ _ _
    | with_reducible refine State.event_keeps ?_ _ _ _ _ _
    | with_reducible refine State.sendResend_keeps ?_ _ _
    | with_reducible refine Keeps.ite (fun _ => ?_) (fun _ => ?_)
    | split

theorem State.checkManifest_keeps {s0 s : State} (h : Keeps s0 s) (a1) :
    Keeps s0 (State.checkManifest s a1) := by
  unfold State.checkManifest
  try dsimp only
  repeat' first
    | with_reducible assumption
    | with_reducible refine State.modTransfer_keeps ?_ _ _
    | with_reducible refine State.modEntry_keeps ?_ _ _ _
    | with_reducible refine State.failTransfer_keeps ?_ _ _
    | with_reducible refine Keeps.ite (fun _ => ?_) (fun _ => ?_)
    | split

theorem State.manifestCheck_keeps {s0 s : State} (h : Keeps s0 s) (a1) :
    Keeps s0 (State.manifestCheck s a1) := by
  unfold State.manifestCheck
  try dsimp only
  repeat' first
    | with_reducible assumption
    | with_reducible refine State.checkManifest_keeps ?_ _
    | split

theorem execManifestCheck_keeps {s0 s t : State} (h : Keeps s0 s) {a0} (e : (execManifestCheck a0 s) = .next t) :
    Keeps s0 t := by
  revert e
  unfold execManifestCheck
  try dsimp only
  repeat' first
    | with_reducible refine Keeps.of_next ?_
    | with_reducible assumption
    | with_reducible refine State.manifestCheck_keeps ?_ _

theorem State.chairBlock_keeps {s0 s : State} (h : Keeps s0 s) (a1 a2) :
    Keeps s0 (State.chairBlock s a1 a2) := by
  unfold State.chairBlock
  try dsimp only
  repeat' first
    | with_reducible assumption
    | with_reducible refine State.writeBlock_keeps ?_ _ _ _
    | with_reducible refine State.countRd_keeps ?_ _ _
    | with_reducible refine State.verifyBlock_keeps ?_ _ _ _
    | with_reducible refine Keeps.ite (fun _ => ?_) (fun _ => ?_)
    | split

theorem execChairliftBlock_keeps {s0 s t : State} (h : Keeps s0 s) {a0 a1} (e : (execChairliftBlock a0 a1 s) = .next t) :
    Keeps s0 t := by
  revert e
  unfold execChairliftBlock
  try dsimp only
  repeat' first
    | with_reducible refine Keeps.of_next ?_
    | with_reducible assumption
    | with_reducible refine State.chairBlock_keeps ?_ _ _

theorem State.startTransfer_keeps {s0 s : State} (h : Keeps s0 s) (a1 a2 a3) :
    Keeps s0 (State.startTransfer s a1 a2 a3) := by
  unfold State.startTransfer
  try dsimp only
  repeat' first
    | with_reducible assumption
    | simp only [Keeps.upd_iff]

theorem State.push_keeps {s0 s : State} (h : Keeps s0 s) (a1 a2) :
    Keeps s0 (State.push s a1 a2) := by
  unfold State.push
  try dsimp only
  repeat' first
    | with_reducible assumption
    | with_reducible refine State.setObj_keeps ?_ _ _
    | with_reducible refine State.setEState_keeps ?_ _ _ _
    | with_reducible refine State.startTransfer_keeps ?_ _ _ _
    | with_reducible refine State.modEntry_keeps ?_ _ _ _
    | split

theorem State.chairApply_keeps {s0 s : State} (h : Keeps s0 s) (a1 a2) :
    Keeps s0 (State.chairApply s a1 a2) := by
  unfold State.chairApply
  try dsimp only
  repeat' first
    | with_reducible assumption
    | with_reducible refine State.push_keeps ?_ _ _
    | with_reducible refine State.flipSlot_keeps ?_ _ _
    | with_reducible refine State.modEntry_keeps ?_ _ _ _
    | with_reducible refine State.setObj_keeps ?_ _ _
    | with_reducible refine State.unrefEntry_keeps ?_ _ _ _
    | with_reducible refine State.setEState_keeps ?_ _ _ _
    | with_reducible refine State.leaveEntry_keeps ?_ _ _
    | with_reducible refine State.failTransfer_keeps ?_ _ _
    | with_reducible refine State.countTables_keeps ?_
    | with_reducible refine State.setTable_keeps ?_ _ _
    | with_reducible refine State.startTransfer_keeps ?_ _ _ _
    | with_reducible refine State.modLoad_keeps ?_ _ _
    | with_reducible refine State.flipTable_keeps ?_ _
    | with_reducible refine Keeps.ite (fun _ => ?_) (fun _ => ?_)
    | split

theorem State.chairCmd_keeps {s0 s : State} (h : Keeps s0 s) (a1) :
    Keeps s0 (State.chairCmd s a1) := by
  unfold State.chairCmd
  try dsimp only
  repeat' first
    | with_reducible assumption
    | with_reducible refine State.setObj_keeps ?_ _ _
    | with_reducible refine State.chairRecord_keeps ?_ _ _ _ _ _
    | with_reducible refine State.chairApply_keeps ?_ _ _
    | with_reducible refine Keeps.ite (fun _ => ?_) (fun _ => ?_)
    | split

theorem execPush_keeps {s0 s t : State} (h : Keeps s0 s)  (e : (execPush s) = .next t) :
    Keeps s0 t := by
  revert e
  unfold execPush
  try dsimp only
  repeat' first
    | with_reducible refine Keeps.of_next ?_
    | with_reducible assumption
    | with_reducible refine State.chairCmd_keeps ?_ _

theorem execFlip_keeps {s0 s t : State} (h : Keeps s0 s)  (e : (execFlip s) = .next t) :
    Keeps s0 t := by
  revert e
  unfold execFlip
  try dsimp only
  repeat' first
    | with_reducible refine Keeps.of_next ?_
    | with_reducible assumption
    | with_reducible refine State.chairCmd_keeps ?_ _

theorem execPin_keeps {s0 s t : State} (h : Keeps s0 s)  (e : (execPin s) = .next t) :
    Keeps s0 t := by
  revert e
  unfold execPin
  try dsimp only
  repeat' first
    | with_reducible refine Keeps.of_next ?_
    | with_reducible assumption
    | with_reducible refine State.chairCmd_keeps ?_ _

theorem execUnpin_keeps {s0 s t : State} (h : Keeps s0 s)  (e : (execUnpin s) = .next t) :
    Keeps s0 t := by
  revert e
  unfold execUnpin
  try dsimp only
  repeat' first
    | with_reducible refine Keeps.of_next ?_
    | with_reducible assumption
    | with_reducible refine State.chairCmd_keeps ?_ _

theorem execEvict_keeps {s0 s t : State} (h : Keeps s0 s)  (e : (execEvict s) = .next t) :
    Keeps s0 t := by
  revert e
  unfold execEvict
  try dsimp only
  repeat' first
    | with_reducible refine Keeps.of_next ?_
    | with_reducible assumption
    | with_reducible refine State.chairCmd_keeps ?_ _

theorem execAbort_keeps {s0 s t : State} (h : Keeps s0 s)  (e : (execAbort s) = .next t) :
    Keeps s0 t := by
  revert e
  unfold execAbort
  try dsimp only
  repeat' first
    | with_reducible refine Keeps.of_next ?_
    | with_reducible assumption
    | with_reducible refine State.chairCmd_keeps ?_ _

theorem execDefineTable_keeps {s0 s t : State} (h : Keeps s0 s)  (e : (execDefineTable s) = .next t) :
    Keeps s0 t := by
  revert e
  unfold execDefineTable
  try dsimp only
  repeat' first
    | with_reducible refine Keeps.of_next ?_
    | with_reducible assumption
    | with_reducible refine State.chairCmd_keeps ?_ _

theorem execLoadTable_keeps {s0 s t : State} (h : Keeps s0 s)  (e : (execLoadTable s) = .next t) :
    Keeps s0 t := by
  revert e
  unfold execLoadTable
  try dsimp only
  repeat' first
    | with_reducible refine Keeps.of_next ?_
    | with_reducible assumption
    | with_reducible refine State.chairCmd_keeps ?_ _

theorem execFlipTable_keeps {s0 s t : State} (h : Keeps s0 s)  (e : (execFlipTable s) = .next t) :
    Keeps s0 t := by
  revert e
  unfold execFlipTable
  try dsimp only
  repeat' first
    | with_reducible refine Keeps.of_next ?_
    | with_reducible assumption
    | with_reducible refine State.chairCmd_keeps ?_ _

theorem execDropTable_keeps {s0 s t : State} (h : Keeps s0 s)  (e : (execDropTable s) = .next t) :
    Keeps s0 t := by
  revert e
  unfold execDropTable
  try dsimp only
  repeat' first
    | with_reducible refine Keeps.of_next ?_
    | with_reducible assumption
    | with_reducible refine State.chairCmd_keeps ?_ _

theorem State.archiveCopy_keeps {s0 s : State} (h : Keeps s0 s) (a1 a2) :
    Keeps s0 (State.archiveCopy s a1 a2) := by
  unfold State.archiveCopy
  try dsimp only
  repeat' first
    | with_reducible assumption
    | with_reducible refine State.tick_keeps ?_
    | with_reducible refine State.writeSealed_keeps ?_ _ _ _ _ _ _
    | with_reducible refine State.seal_keeps ?_ _ _ _ _ _ _
    | with_reducible refine State.countWr_keeps ?_ _ _
    | with_reducible refine State.put_keeps ?_ _ _
    | with_reducible refine State.countRd_keeps ?_ _ _
    | with_reducible refine State.setObj_keeps ?_ _ _
    | with_reducible refine Keeps.foldl _ (fun _ _ _ => ?_) ?_

theorem State.archiveDone_keeps {s0 s : State} (h : Keeps s0 s) (a1 a2) :
    Keeps s0 (State.archiveDone s a1 a2) := by
  unfold State.archiveDone
  try dsimp only
  repeat' first
    | with_reducible assumption
    | with_reducible refine State.archiveCopy_keeps ?_ _ _
    | with_reducible refine State.event_keeps ?_ _ _ _ _ _
    | with_reducible refine State.modEntry_keeps ?_ _ _ _
    | with_reducible refine State.setObj_keeps ?_ _ _
    | with_reducible refine State.setEState_keeps ?_ _ _ _
    | with_reducible refine Keeps.ite (fun _ => ?_) (fun _ => ?_)

theorem execArchiveCopyDone_keeps {s0 s t : State} (h : Keeps s0 s) {a0 a1} (e : (execArchiveCopyDone a0 a1 s) = .next t) :
    Keeps s0 t := by
  revert e
  unfold execArchiveCopyDone
  try dsimp only
  repeat' first
    | with_reducible refine Keeps.of_next ?_
    | with_reducible assumption
    | with_reducible refine State.archiveDone_keeps ?_ _ _

theorem State.ringLimit_keeps {s0 s : State} (h : Keeps s0 s) (a1) :
    Keeps s0 (State.ringLimit s a1).1 := by
  unfold State.ringLimit
  try dsimp only
  repeat' first
    | with_reducible assumption
    | with_reducible refine State.setObj_keeps ?_ _ _
    | with_reducible refine Keeps.iteFst (fun _ => ?_) (fun _ => ?_)

theorem State.doorbellChair_keeps {s0 s : State} (h : Keeps s0 s) (a1) :
    Keeps s0 (State.doorbellChair s a1) := by
  unfold State.doorbellChair
  try dsimp only
  repeat' first
    | with_reducible assumption
    | with_reducible refine State.ringLimit_keeps ?_ _
    | with_reducible refine State.cnt16_keeps ?_ _ _
    | with_reducible refine Keeps.ite (fun _ => ?_) (fun _ => ?_)

theorem execRingLimit_keeps {s0 s t : State} (h : Keeps s0 s) {a0} (e : (execRingLimit a0 s) = .next t) :
    Keeps s0 t := by
  revert e
  unfold execRingLimit
  try dsimp only
  repeat' first
    | with_reducible refine Keeps.of_next ?_
    | with_reducible assumption
    | with_reducible refine State.through_keeps ?_ _ _ _ _ ?_
    | with_reducible refine State.doorbellChair_keeps ?_ _

theorem State.enableChair_keeps {s0 s : State} (h : Keeps s0 s) (a1) :
    Keeps s0 (State.enableChair s a1) := by
  unfold State.enableChair
  try dsimp only
  repeat' first
    | with_reducible assumption
    | with_reducible refine State.setObj_keeps ?_ _ _
    | with_reducible refine Keeps.ite (fun _ => ?_) (fun _ => ?_)

theorem execChairliftEnable_keeps {s0 s t : State} (h : Keeps s0 s) {a0} (e : (execChairliftEnable a0 s) = .next t) :
    Keeps s0 t := by
  revert e
  unfold execChairliftEnable
  try dsimp only
  repeat' first
    | with_reducible refine Keeps.of_next ?_
    | with_reducible assumption
    | with_reducible refine State.enableChair_keeps ?_ _

theorem State.forceChair_keeps {s0 s : State} (h : Keeps s0 s) (a1) :
    Keeps s0 (State.forceChair s a1).1 := by
  unfold State.forceChair
  try dsimp only
  repeat' first
    | with_reducible assumption
    | with_reducible refine State.failTransfer_keeps ?_ _ _
    | simp only [Keeps.upd_iff]
    | with_reducible refine Keeps.iteFst (fun _ => ?_) (fun _ => ?_)
    | with_reducible refine Keeps.foldl _ (fun _ _ _ => ?_) ?_

theorem execChairliftForce_keeps {s0 s t : State} (h : Keeps s0 s) {a0} (e : (execChairliftForce a0 s) = .next t) :
    Keeps s0 t := by
  revert e
  unfold execChairliftForce
  try dsimp only
  repeat' first
    | with_reducible refine Keeps.of_next ?_
    | with_reducible assumption
    | with_reducible refine written_keeps ?_
    | with_reducible refine State.forceChair_keeps ?_ _

theorem State.endChair_keeps {s0 s : State} (h : Keeps s0 s) :
    Keeps s0 (State.endChair s) := by
  unfold State.endChair
  try dsimp only
  repeat' first
    | with_reducible assumption
    | with_reducible refine State.setObj_keeps ?_ _ _
    | with_reducible refine Keeps.ite (fun _ => ?_) (fun _ => ?_)

theorem State.setChairObj_keeps {s0 s : State} (h : Keeps s0 s) (a1 a2) :
    Keeps s0 (State.setChairObj s a1 a2).1 := by
  unfold State.setChairObj
  try dsimp only
  repeat' first
    | with_reducible assumption
    | with_reducible refine State.setObj_keeps ?_ _ _
    | with_reducible refine Keeps.iteFst (fun _ => ?_) (fun _ => ?_)

theorem State.setWindow_keeps {s0 s : State} (h : Keeps s0 s) (a1 a2) :
    Keeps s0 (State.setWindow s a1 a2).1 := by
  unfold State.setWindow
  try dsimp only
  repeat' first
    | with_reducible assumption
    | with_reducible refine State.setObj_keeps ?_ _ _
    | with_reducible refine Keeps.iteFst (fun _ => ?_) (fun _ => ?_)

theorem State.setEntryPa_keeps {s0 s : State} (h : Keeps s0 s) (a1 a2 a3) :
    Keeps s0 (State.setEntryPa s a1 a2 a3).1 := by
  unfold State.setEntryPa
  try dsimp only
  repeat' first
    | with_reducible assumption
    | with_reducible refine State.setObj_keeps ?_ _ _
    | with_reducible refine Keeps.iteFst (fun _ => ?_) (fun _ => ?_)

theorem State.setArchive_keeps {s0 s : State} (h : Keeps s0 s) (a1 a2 a3) :
    Keeps s0 (State.setArchive s a1 a2 a3).1 := by
  unfold State.setArchive
  try dsimp only
  repeat' first
    | with_reducible assumption
    | with_reducible refine State.setObj_keeps ?_ _ _
    | with_reducible refine Keeps.iteFst (fun _ => ?_) (fun _ => ?_)

theorem State.setLink_keeps {s0 s : State} (h : Keeps s0 s) (a1 a2 a3) :
    Keeps s0 (State.setLink s a1 a2 a3) := by
  unfold State.setLink
  try dsimp only
  repeat' first
    | with_reducible assumption
    | with_reducible refine State.setObj_keeps ?_ _ _

theorem State.sendFlit_keeps {s0 s : State} (h : Keeps s0 s) (a1 a2) :
    Keeps s0 (State.sendFlit s a1 a2) := by
  unfold State.sendFlit
  try dsimp only
  repeat' first
    | with_reducible assumption
    | with_reducible refine State.cnt48_keeps ?_ _ _
    | with_reducible refine State.emit_keeps ?_ _

theorem State.sendBare_keeps {s0 s : State} (h : Keeps s0 s) (a1 a2) :
    Keeps s0 (State.sendBare s a1 a2) := by
  unfold State.sendBare
  try dsimp only
  repeat' first
    | with_reducible assumption
    | with_reducible refine State.sendFlit_keeps ?_ _ _
    | with_reducible refine State.modLink_keeps ?_ _ _

theorem State.freeInput_keeps {s0 s : State} (h : Keeps s0 s) (a1) :
    Keeps s0 (State.freeInput s a1) := by
  unfold State.freeInput
  try dsimp only
  repeat' first
    | with_reducible assumption
    | with_reducible refine State.modLink_keeps ?_ _ _
    | split

theorem State.undelivered_keeps {s0 s : State} (h : Keeps s0 s) (a1 a2) :
    Keeps s0 (State.undelivered s a1 a2) := by
  unfold State.undelivered
  try dsimp only
  repeat' first
    | with_reducible assumption
    | with_reducible refine State.cnt16_keeps ?_ _ _
    | with_reducible refine State.deliverHere_keeps ?_ _
    | with_reducible refine State.modTask_keeps ?_ _ _ _
    | simp only [Keeps.upd_iff]
    | with_reducible refine Keeps.ite (fun _ => ?_) (fun _ => ?_)
    | split

theorem State.reroute_keeps {s0 s : State} (h : Keeps s0 s) (a1) :
    Keeps s0 (State.reroute s a1) := by
  unfold State.reroute
  try dsimp only
  repeat' first
    | with_reducible assumption
    | with_reducible refine State.deliver_keeps ?_ _
    | with_reducible refine State.queueOn_keeps ?_ _ _
    | with_reducible refine State.undelivered_keeps ?_ _ _
    | with_reducible refine State.freeInput_keeps ?_ _
    | split

theorem State.cutOff_keeps {s0 s : State} (h : Keeps s0 s) (a1 a2 a3) :
    Keeps s0 (State.cutOff s a1 a2 a3) := by
  unfold State.cutOff
  try dsimp only
  repeat' first
    | with_reducible assumption
    | with_reducible refine State.cnt16_keeps ?_ _ _
    | with_reducible refine State.queueOn_keeps ?_ _ _
    | with_reducible refine State.reroute_keeps ?_ _
    | with_reducible refine Keeps.ite (fun _ => ?_) (fun _ => ?_)
    | split

theorem State.linkDrop_keeps {s0 s : State} (h : Keeps s0 s) (a1) :
    Keeps s0 (State.linkDrop s a1) := by
  unfold State.linkDrop
  try dsimp only
  repeat' first
    | with_reducible assumption
    | with_reducible refine State.setLink_keeps ?_ _ _ _
    | with_reducible refine State.modLink_keeps ?_ _ _
    | with_reducible refine State.cutOff_keeps ?_ _ _ _
    | with_reducible refine State.injectOr_keeps ?_ _ _
    | with_reducible refine State.reroute_keeps ?_ _
    | with_reducible refine Keeps.ite (fun _ => ?_) (fun _ => ?_)
    | with_reducible refine Keeps.foldl _ (fun _ _ _ => ?_) ?_
    | split

theorem State.resendAll_keeps {s0 s : State} (h : Keeps s0 s) (a1) :
    Keeps s0 (State.resendAll s a1) := by
  unfold State.resendAll
  try dsimp only
  repeat' first
    | with_reducible assumption
    | with_reducible refine State.linkDrop_keeps ?_ _
    | with_reducible refine State.modLink_keeps ?_ _ _
    | with_reducible refine State.cnt48_keeps ?_ _ _
    | with_reducible refine State.sendFlit_keeps ?_ _ _
    | with_reducible refine Keeps.ite (fun _ => ?_) (fun _ => ?_)
    | with_reducible refine Keeps.foldl _ (fun _ _ _ => ?_) ?_

theorem State.linkAck_keeps {s0 s : State} (h : Keeps s0 s) (a1 a2) :
    Keeps s0 (State.linkAck s a1 a2) := by
  unfold State.linkAck
  try dsimp only
  repeat' first
    | with_reducible assumption
    | with_reducible refine State.modLink_keeps ?_ _ _
    | with_reducible refine Keeps.ite (fun _ => ?_) (fun _ => ?_)

theorem State.linkNak_keeps {s0 s : State} (h : Keeps s0 s) (a1 a2) :
    Keeps s0 (State.linkNak s a1 a2) := by
  unfold State.linkNak
  try dsimp only
  repeat' first
    | with_reducible assumption
    | with_reducible refine State.resendAll_keeps ?_ _
    | with_reducible refine State.linkAck_keeps ?_ _ _
    | with_reducible refine Keeps.ite (fun _ => ?_) (fun _ => ?_)

theorem execNak_keeps {s0 s t : State} (h : Keeps s0 s) {a0 a1} (e : (execNak a0 a1 s) = .next t) :
    Keeps s0 t := by
  revert e
  unfold execNak
  try dsimp only
  repeat' first
    | with_reducible refine Keeps.of_next ?_
    | with_reducible assumption
    | with_reducible refine State.linkNak_keeps ?_ _ _

theorem State.replayTimeout_keeps {s0 s : State} (h : Keeps s0 s) (a1) :
    Keeps s0 (State.replayTimeout s a1) := by
  unfold State.replayTimeout
  try dsimp only
  repeat' first
    | with_reducible assumption
    | with_reducible refine State.resendAll_keeps ?_ _
    | with_reducible refine Keeps.ite (fun _ => ?_) (fun _ => ?_)

theorem execReplayTimeout_keeps {s0 s t : State} (h : Keeps s0 s) {a0} (e : (execReplayTimeout a0 s) = .next t) :
    Keeps s0 t := by
  revert e
  unfold execReplayTimeout
  try dsimp only
  repeat' first
    | with_reducible refine Keeps.of_next ?_
    | with_reducible assumption
    | with_reducible refine State.replayTimeout_keeps ?_ _

theorem State.headDest_keeps {s0 s : State} (h : Keeps s0 s) (a1 a2) :
    Keeps s0 (State.headDest s a1 a2).1 := by
  unfold State.headDest
  try dsimp only
  repeat' first
    | with_reducible assumption
    | with_reducible refine State.cnt16_keeps ?_ _ _
    | with_reducible refine Keeps.iteFst (fun _ => ?_) (fun _ => ?_)
    | split

theorem State.packetDone_keeps {s0 s : State} (h : Keeps s0 s) (a1 a2 a3 a4 a5) :
    Keeps s0 (State.packetDone s a1 a2 a3 a4 a5) := by
  unfold State.packetDone
  try dsimp only
  repeat' first
    | with_reducible assumption
    | with_reducible refine State.cnt16_keeps ?_ _ _
    | with_reducible refine State.freeInput_keeps ?_ _
    | with_reducible refine State.deliver_keeps ?_ _
    | with_reducible refine State.queueOn_keeps ?_ _ _
    | with_reducible refine State.reroute_keeps ?_ _
    | with_reducible refine Keeps.ite (fun _ => ?_) (fun _ => ?_)
    | split

theorem State.takeFlit_keeps {s0 s : State} (h : Keeps s0 s) (a1 a2) :
    Keeps s0 (State.takeFlit s a1 a2) := by
  unfold State.takeFlit
  try dsimp only
  repeat' first
    | with_reducible assumption
    | with_reducible refine State.modLink_keeps ?_ _ _
    | with_reducible refine State.headDest_keeps ?_ _ _
    | with_reducible refine State.packetDone_keeps ?_ _ _ _ _ _
    | with_reducible refine Keeps.ite (fun _ => ?_) (fun _ => ?_)
    | split

theorem State.badFlit_keeps {s0 s : State} (h : Keeps s0 s) (a1) :
    Keeps s0 (State.badFlit s a1) := by
  unfold State.badFlit
  try dsimp only
  repeat' first
    | with_reducible assumption
    | with_reducible refine State.cnt16_keeps ?_ _ _
    | with_reducible refine State.sendBare_keeps ?_ _ _
    | with_reducible refine State.modLink_keeps ?_ _ _
    | with_reducible refine Keeps.ite (fun _ => ?_) (fun _ => ?_)

theorem State.flitReceive_keeps {s0 s : State} (h : Keeps s0 s) (a1 a2) :
    Keeps s0 (State.flitReceive s a1 a2) := by
  unfold State.flitReceive
  try dsimp only
  repeat' first
    | with_reducible assumption
    | with_reducible refine State.badFlit_keeps ?_ _
    | with_reducible refine State.linkDrop_keeps ?_ _
    | with_reducible refine State.modLink_keeps ?_ _ _
    | with_reducible refine State.cnt48_keeps ?_ _ _
    | with_reducible refine State.linkNak_keeps ?_ _ _
    | with_reducible refine State.linkAck_keeps ?_ _ _
    | with_reducible refine State.takeFlit_keeps ?_ _ _
    | with_reducible refine Keeps.ite (fun _ => ?_) (fun _ => ?_)

theorem execFlitReceive_keeps {s0 s t : State} (h : Keeps s0 s) {a0 a1} (e : (execFlitReceive a0 a1 s) = .next t) :
    Keeps s0 t := by
  revert e
  unfold execFlitReceive
  try dsimp only
  repeat' first
    | with_reducible refine Keeps.of_next ?_
    | with_reducible assumption
    | with_reducible refine State.flitReceive_keeps ?_ _ _

theorem State.noteLeft_keeps {s0 s : State} (h : Keeps s0 s) (a1) :
    Keeps s0 (State.noteLeft s a1) := by
  unfold State.noteLeft
  try dsimp only
  repeat' first
    | with_reducible assumption
    | simp only [Keeps.upd_iff]
    | with_reducible refine Keeps.ite (fun _ => ?_) (fun _ => ?_)

theorem State.sendPacket_keeps {s0 s : State} (h : Keeps s0 s) (a1 a2) :
    Keeps s0 (State.sendPacket s a1 a2) := by
  unfold State.sendPacket
  try dsimp only
  repeat' first
    | with_reducible assumption
    | with_reducible refine State.modLink_keeps ?_ _ _
    | with_reducible refine State.sendFlit_keeps ?_ _ _
    | with_reducible refine State.noteLeft_keeps ?_ _
    | with_reducible refine State.freeInput_keeps ?_ _
    | with_reducible refine Keeps.foldl _ (fun _ _ _ => ?_) ?_

theorem State.packetForward_keeps {s0 s : State} (h : Keeps s0 s) (a1) :
    Keeps s0 (State.packetForward s a1) := by
  unfold State.packetForward
  try dsimp only
  repeat' first
    | with_reducible assumption
    | with_reducible refine State.sendPacket_keeps ?_ _ _
    | with_reducible refine State.modLink_keeps ?_ _ _
    | with_reducible refine State.sendBare_keeps ?_ _ _
    | with_reducible refine Keeps.ite (fun _ => ?_) (fun _ => ?_)
    | split

theorem execPacketForward_keeps {s0 s t : State} (h : Keeps s0 s) {a0} (e : (execPacketForward a0 s) = .next t) :
    Keeps s0 t := by
  revert e
  unfold execPacketForward
  try dsimp only
  repeat' first
    | with_reducible refine Keeps.of_next ?_
    | with_reducible assumption
    | with_reducible refine State.packetForward_keeps ?_ _

theorem State.laneFail_keeps {s0 s : State} (h : Keeps s0 s) (a1 a2) :
    Keeps s0 (State.laneFail s a1 a2) := by
  unfold State.laneFail
  try dsimp only
  repeat' first
    | with_reducible assumption
    | with_reducible refine State.linkDrop_keeps ?_ _
    | with_reducible refine State.setLink_keeps ?_ _ _ _
    | with_reducible refine Keeps.ite (fun _ => ?_) (fun _ => ?_)

theorem execLaneFailure_keeps {s0 s t : State} (h : Keeps s0 s) {a0 a1} (e : (execLaneFailure a0 a1 s) = .next t) :
    Keeps s0 t := by
  revert e
  unfold execLaneFailure
  try dsimp only
  repeat' first
    | with_reducible refine Keeps.of_next ?_
    | with_reducible assumption
    | with_reducible refine State.laneFail_keeps ?_ _ _

theorem State.retrain_keeps {s0 s : State} (h : Keeps s0 s) (a1) :
    Keeps s0 (State.retrain s a1) := by
  unfold State.retrain
  try dsimp only
  repeat' first
    | with_reducible assumption
    | with_reducible refine State.setLink_keeps ?_ _ _ _
    | with_reducible refine Keeps.ite (fun _ => ?_) (fun _ => ?_)

theorem execRetrainTimer_keeps {s0 s t : State} (h : Keeps s0 s) {a0} (e : (execRetrainTimer a0 s) = .next t) :
    Keeps s0 t := by
  revert e
  unfold execRetrainTimer
  try dsimp only
  repeat' first
    | with_reducible refine Keeps.of_next ?_
    | with_reducible assumption
    | with_reducible refine State.retrain_keeps ?_ _

theorem State.linkUp_keeps {s0 s : State} (h : Keeps s0 s) (a1 a2) :
    Keeps s0 (State.linkUp s a1 a2) := by
  unfold State.linkUp
  try dsimp only
  repeat' first
    | with_reducible assumption
    | with_reducible refine State.setLink_keeps ?_ _ _ _
    | with_reducible refine State.modLink_keeps ?_ _ _
    | with_reducible refine State.queueOn_keeps ?_ _ _

theorem State.laneResult_keeps {s0 s : State} (h : Keeps s0 s) (a1 a2 a3) :
    Keeps s0 (State.laneResult s a1 a2 a3) := by
  unfold State.laneResult
  try dsimp only
  repeat' first
    | with_reducible assumption
    | with_reducible refine State.modLink_keeps ?_ _ _
    | with_reducible refine State.event_keeps ?_ _ _ _ _ _
    | with_reducible refine Keeps.ite (fun _ => ?_) (fun _ => ?_)

theorem State.trainingDone_keeps {s0 s : State} (h : Keeps s0 s) (a1 a2 a3) :
    Keeps s0 (State.trainingDone s a1 a2 a3) := by
  unfold State.trainingDone
  try dsimp only
  repeat' first
    | with_reducible assumption
    | with_reducible refine State.setLink_keeps ?_ _ _ _
    | with_reducible refine State.linkUp_keeps ?_ _ _
    | with_reducible refine State.laneResult_keeps ?_ _ _ _
    | with_reducible refine Keeps.ite (fun _ => ?_) (fun _ => ?_)

theorem execLinkTrainingDone_keeps {s0 s t : State} (h : Keeps s0 s) {a0 a1 a2} (e : (execLinkTrainingDone a0 a1 a2 s) = .next t) :
    Keeps s0 t := by
  revert e
  unfold execLinkTrainingDone
  try dsimp only
  repeat' first
    | with_reducible refine Keeps.of_next ?_
    | with_reducible assumption
    | with_reducible refine State.trainingDone_keeps ?_ _ _ _

theorem State.turnLink_keeps {s0 s : State} (h : Keeps s0 s) (a1 a2) :
    Keeps s0 (State.turnLink s a1 a2) := by
  unfold State.turnLink
  try dsimp only
  repeat' first
    | with_reducible assumption
    | with_reducible refine State.setObj_keeps ?_ _ _
    | with_reducible refine State.setLink_keeps ?_ _ _ _
    | with_reducible refine State.modLink_keeps ?_ _ _
    | with_reducible refine State.reroute_keeps ?_ _
    | with_reducible refine Keeps.ite (fun _ => ?_) (fun _ => ?_)
    | with_reducible refine Keeps.foldl _ (fun _ _ _ => ?_) ?_

theorem State.noteLink_keeps {s0 s : State} (h : Keeps s0 s) (a1 a2) :
    Keeps s0 (State.noteLink s a1 a2) := by
  unfold State.noteLink
  try dsimp only
  repeat' first
    | with_reducible assumption
    | simp only [Keeps.upd_iff]

theorem State.enableLink_keeps {s0 s : State} (h : Keeps s0 s) (a1 a2) :
    Keeps s0 (State.enableLink s a1 a2).1 := by
  unfold State.enableLink
  try dsimp only
  repeat' first
    | with_reducible assumption
    | with_reducible refine State.noteLink_keeps ?_ _ _
    | with_reducible refine State.turnLink_keeps ?_ _ _
    | with_reducible refine Keeps.iteFst (fun _ => ?_) (fun _ => ?_)

theorem State.setPmd_keeps {s0 s : State} (h : Keeps s0 s) (a1 a2) :
    Keeps s0 (State.setPmd s a1 a2).1 := by
  unfold State.setPmd
  try dsimp only
  repeat' first
    | with_reducible assumption
    | with_reducible refine State.noteLink_keeps ?_ _ _
    | with_reducible refine State.setObj_keeps ?_ _ _
    | with_reducible refine Keeps.iteFst (fun _ => ?_) (fun _ => ?_)

theorem execLinkEnable_keeps {s0 s t : State} (h : Keeps s0 s) {a0 a1} (e : (execLinkEnable a0 a1 s) = .next t) :
    Keeps s0 t := by
  revert e
  unfold execLinkEnable
  try dsimp only
  repeat' first
    | with_reducible refine Keeps.of_next ?_
    | with_reducible assumption
    | with_reducible refine written_keeps ?_
    | with_reducible refine State.enableLink_keeps ?_ _ _

theorem State.forceLink_keeps {s0 s : State} (h : Keeps s0 s) (a1 a2) :
    Keeps s0 (State.forceLink s a1 a2).1 := by
  unfold State.forceLink
  try dsimp only
  repeat' first
    | with_reducible assumption
    | with_reducible refine State.linkDrop_keeps ?_ _
    | with_reducible refine Keeps.iteFst (fun _ => ?_) (fun _ => ?_)

theorem execLinkForce_keeps {s0 s t : State} (h : Keeps s0 s) {a0 a1} (e : (execLinkForce a0 a1 s) = .next t) :
    Keeps s0 t := by
  revert e
  unfold execLinkForce
  try dsimp only
  repeat' first
    | with_reducible refine Keeps.of_next ?_
    | with_reducible assumption
    | with_reducible refine written_keeps ?_
    | with_reducible refine State.forceLink_keeps ?_ _ _

theorem State.endLink_keeps {s0 s : State} (h : Keeps s0 s) (a1) :
    Keeps s0 (State.endLink s a1) := by
  unfold State.endLink
  try dsimp only
  repeat' first
    | with_reducible assumption
    | with_reducible refine State.setLink_keeps ?_ _ _ _
    | with_reducible refine Keeps.ite (fun _ => ?_) (fun _ => ?_)

theorem State.linkDownTimeout_keeps {s0 s : State} (h : Keeps s0 s) (a1) :
    Keeps s0 (State.linkDownTimeout s a1) := by
  unfold State.linkDownTimeout
  try dsimp only
  repeat' first
    | with_reducible assumption
    | with_reducible refine State.modLink_keeps ?_ _ _
    | with_reducible refine State.event_keeps ?_ _ _ _ _ _
    | simp only [Keeps.upd_iff]
    | with_reducible refine Keeps.ite (fun _ => ?_) (fun _ => ?_)
    | split

theorem execLinkDownTimeout_keeps {s0 s t : State} (h : Keeps s0 s) {a0} (e : (execLinkDownTimeout a0 s) = .next t) :
    Keeps s0 t := by
  revert e
  unfold execLinkDownTimeout
  try dsimp only
  repeat' first
    | with_reducible refine Keeps.of_next ?_
    | with_reducible assumption
    | with_reducible refine State.linkDownTimeout_keeps ?_ _

theorem State.setModuleId_keeps {s0 s : State} (h : Keeps s0 s) (a1) :
    Keeps s0 (State.setModuleId s a1).1 := by
  unfold State.setModuleId
  try dsimp only
  repeat' first
    | with_reducible assumption
    | with_reducible refine State.setObj_keeps ?_ _ _
    | with_reducible refine Keeps.iteFst (fun _ => ?_) (fun _ => ?_)

theorem execModuleId_keeps {s0 s t : State} (h : Keeps s0 s) {a0} (e : (execModuleId a0 s) = .next t) :
    Keeps s0 t := by
  revert e
  unfold execModuleId
  try dsimp only
  repeat' first
    | with_reducible refine Keeps.of_next ?_
    | with_reducible assumption
    | with_reducible refine written_keeps ?_
    | with_reducible refine State.setModuleId_keeps ?_ _

theorem State.takeRx_keeps {s0 s t : State} {p : Packet} (h : Keeps s0 s) {ty} (e : s.takeRx ty = some (p, t)) :
    Keeps s0 t := by
  unfold State.takeRx at e
  cases hx : takeFirst (fun p => decide (pkType p.hdr = ty)) s.fab.rx with
  | none => rw [hx] at e; cases e
  | some r =>
    rw [hx] at e
    cases e
    refine State.freeInput_keeps ?_ _
    simp only [Keeps.upd_iff]
    exact h

theorem State.reply_keeps {s0 s : State} (h : Keeps s0 s) (a1 a2 a3 a4 a5 a6) :
    Keeps s0 (State.reply s a1 a2 a3 a4 a5 a6) := by
  unfold State.reply
  try dsimp only
  repeat' first
    | with_reducible assumption
    | with_reducible refine State.injectOr_keeps ?_ _ _

theorem State.setLanded_keeps {s0 s : State} (h : Keeps s0 s) (a1 a2) :
    Keeps s0 (State.setLanded s a1 a2) := by
  unfold State.setLanded
  try dsimp only
  repeat' first
    | with_reducible assumption
    | simp only [Keeps.upd_iff]
    | with_reducible refine Keeps.ite (fun _ => ?_) (fun _ => ?_)
    | with_reducible refine Keeps.foldl _ (fun _ _ _ => ?_) ?_
    | split

theorem State.writeRemote_keeps {s0 s : State} (h : Keeps s0 s) (a1 a2) :
    Keeps s0 (State.writeRemote s a1 a2) := by
  unfold State.writeRemote
  try dsimp only
  repeat' first
    | with_reducible assumption
    | with_reducible refine writePieces_keeps ?_ _ _
    | simp only [Keeps.upd_iff]

theorem State.applyWrite_keeps {s0 s : State} (h : Keeps s0 s) (a1 a2 a3) :
    Keeps s0 (State.applyWrite s a1 a2 a3).1 := by
  unfold State.applyWrite
  try dsimp only
  repeat' first
    | with_reducible assumption
    | with_reducible refine State.cnt16_keeps ?_ _ _
    | with_reducible refine State.tick_keeps ?_
    | with_reducible refine State.seal_keeps ?_ _ _ _ _ _ _
    | with_reducible refine State.countWr_keeps ?_ _ _
    | with_reducible refine State.put_keeps ?_ _ _
    | with_reducible refine State.writeRemote_keeps ?_ _ _
    | with_reducible refine State.setLanded_keeps ?_ _ _
    | with_reducible refine State.cnt48_keeps ?_ _ _
    | with_reducible refine Keeps.ite (fun _ => ?_) (fun _ => ?_)
    | with_reducible refine Keeps.iteFst (fun _ => ?_) (fun _ => ?_)
    | with_reducible refine Keeps.foldl _ (fun _ _ _ => ?_) ?_
    | split

theorem State.writesDone_keeps {s0 s : State} (h : Keeps s0 s) (a1 a2) :
    Keeps s0 (State.writesDone s a1 a2) := by
  unfold State.writesDone
  try dsimp only
  repeat' first
    | with_reducible assumption
    | with_reducible refine State.tagAdd_keeps ?_ _ _ _
    | with_reducible refine State.reply_keeps ?_ _ _ _ _ _ _
    | with_reducible refine Keeps.ite (fun _ => ?_) (fun _ => ?_)

theorem State.countArrival_keeps {s0 s : State} (h : Keeps s0 s) (a1 a2) :
    Keeps s0 (State.countArrival s a1 a2) := by
  unfold State.countArrival
  try dsimp only
  repeat' first
    | with_reducible assumption
    | with_reducible refine State.writesDone_keeps ?_ _ _
    | simp only [Keeps.upd_iff]
    | with_reducible refine Keeps.ite (fun _ => ?_) (fun _ => ?_)

theorem State.remoteWrite_keeps {s0 s : State} (h : Keeps s0 s) :
    Keeps s0 (State.remoteWrite s) := by
  unfold State.remoteWrite
  try dsimp only
  repeat' first
    | with_reducible assumption
    | with_reducible refine State.freeInput_keeps ?_ _
    | with_reducible refine State.applyWrite_keeps ?_ _ _ _
    | with_reducible refine State.countArrival_keeps ?_ _ _
    | with_reducible refine State.unrefTable_keeps ?_ _
    | simp only [Keeps.upd_iff]
    | split

theorem execRemoteWrite_keeps {s0 s t : State} (h : Keeps s0 s)  (e : (execRemoteWrite s) = .next t) :
    Keeps s0 t := by
  revert e
  unfold execRemoteWrite
  try dsimp only
  repeat' first
    | with_reducible refine Keeps.of_next ?_
    | with_reducible assumption
    | with_reducible refine State.remoteWrite_keeps ?_

theorem State.remoteOver_keeps {s0 s : State} (h : Keeps s0 s) (a1 a2) :
    Keeps s0 (State.remoteOver s a1 a2) := by
  unfold State.remoteOver
  try dsimp only
  repeat' first
    | with_reducible assumption
    | with_reducible refine State.sendDones_keeps ?_ _
    | with_reducible refine State.commitMoveDone_keeps ?_ _ _ _
    | with_reducible refine State.commitMoveFail_keeps ?_ _ _ _
    | simp only [Keeps.upd_iff]
    | with_reducible refine Keeps.ite (fun _ => ?_) (fun _ => ?_)
    | split

theorem State.discardReply_keeps {s0 s : State} (h : Keeps s0 s) :
    Keeps s0 (State.discardReply s) := by
  unfold State.discardReply
  try dsimp only
  repeat' first
    | with_reducible assumption
    | with_reducible refine State.cnt16_keeps ?_ _ _

theorem State.writeDone_keeps {s0 s : State} (h : Keeps s0 s) :
    Keeps s0 (State.writeDone s) := by
  unfold State.writeDone
  try dsimp only
  repeat' first
    | with_reducible assumption
    | refine State.takeRx_keeps ?_ (by assumption)
    | with_reducible refine State.discardReply_keeps ?_
    | with_reducible refine State.remoteOver_keeps ?_ _ _
    | simp only [Keeps.upd_iff]
    | with_reducible refine Keeps.ite (fun _ => ?_) (fun _ => ?_)
    | split

theorem execWriteDone_keeps {s0 s t : State} (h : Keeps s0 s)  (e : (execWriteDone s) = .next t) :
    Keeps s0 t := by
  revert e
  unfold execWriteDone
  try dsimp only
  repeat' first
    | with_reducible refine Keeps.of_next ?_
    | with_reducible assumption
    | with_reducible refine State.writeDone_keeps ?_

theorem State.writeDoneTimeout_keeps {s0 s : State} (h : Keeps s0 s) (a1) :
    Keeps s0 (State.writeDoneTimeout s a1) := by
  unfold State.writeDoneTimeout
  try dsimp only
  repeat' first
    | with_reducible assumption
    | with_reducible refine State.remoteOver_keeps ?_ _ _
    | with_reducible refine Keeps.ite (fun _ => ?_) (fun _ => ?_)
    | split

theorem execWriteDoneTimeout_keeps {s0 s t : State} (h : Keeps s0 s) {a0} (e : (execWriteDoneTimeout a0 s) = .next t) :
    Keeps s0 t := by
  revert e
  unfold execWriteDoneTimeout
  try dsimp only
  repeat' first
    | with_reducible refine Keeps.of_next ?_
    | with_reducible assumption
    | with_reducible refine State.writeDoneTimeout_keeps ?_ _

theorem State.sendAck_keeps {s0 s : State} (h : Keeps s0 s) (a1 a2 a3) :
    Keeps s0 (State.sendAck s a1 a2 a3) := by
  unfold State.sendAck
  try dsimp only
  repeat' first
    | with_reducible assumption
    | with_reducible refine State.reply_keeps ?_ _ _ _ _ _ _

theorem State.contribWhole_keeps {s0 s : State} (h : Keeps s0 s) (a1 a2 a3) :
    Keeps s0 (State.contribWhole s a1 a2 a3) := by
  unfold State.contribWhole
  try dsimp only
  repeat' first
    | with_reducible assumption
    | with_reducible refine State.contribute_keeps ?_ _ _ _
    | with_reducible refine State.sendAck_keeps ?_ _ _ _

theorem State.spillPart_keeps {s0 s : State} (h : Keeps s0 s) (a1 a2 a3) :
    Keeps s0 (State.spillPart s a1 a2 a3) := by
  unfold State.spillPart
  try dsimp only
  repeat' first
    | with_reducible assumption
    | with_reducible refine State.tryWriteVa_keeps ?_ _ _ _
    | split

theorem State.contribPacket_keeps {s0 s : State} (h : Keeps s0 s) :
    Keeps s0 (State.contribPacket s) := by
  unfold State.contribPacket
  try dsimp only
  repeat' first
    | with_reducible assumption
    | refine State.takeRx_keeps ?_ (by assumption)
    | with_reducible refine State.spillPart_keeps ?_ _ _ _
    | with_reducible refine State.contribWhole_keeps ?_ _ _ _
    | simp only [Keeps.upd_iff]
    | with_reducible refine Keeps.ite (fun _ => ?_) (fun _ => ?_)
    | split

theorem execContrib_keeps {s0 s t : State} (h : Keeps s0 s)  (e : (execContrib s) = .next t) :
    Keeps s0 t := by
  revert e
  unfold execContrib
  try dsimp only
  repeat' first
    | with_reducible refine Keeps.of_next ?_
    | with_reducible assumption
    | with_reducible refine State.contribPacket_keeps ?_

theorem State.leafDonePacket_keeps {s0 s : State} (h : Keeps s0 s) :
    Keeps s0 (State.leafDonePacket s) := by
  unfold State.leafDonePacket
  try dsimp only
  repeat' first
    | with_reducible assumption
    | refine State.takeRx_keeps ?_ (by assumption)
    | with_reducible refine State.leafMarker_keeps ?_ _ _
    | with_reducible refine State.sendAck_keeps ?_ _ _ _
    | with_reducible refine Keeps.foldl1 _ (fun _ _ _ => ?_) ?_
    | split

theorem execLeafDone_keeps {s0 s t : State} (h : Keeps s0 s)  (e : (execLeafDone s) = .next t) :
    Keeps s0 t := by
  revert e
  unfold execLeafDone
  try dsimp only
  repeat' first
    | with_reducible refine Keeps.of_next ?_
    | with_reducible assumption
    | with_reducible refine State.leafDonePacket_keeps ?_

theorem State.contribAck_keeps {s0 s : State} (h : Keeps s0 s) :
    Keeps s0 (State.contribAck s) := by
  unfold State.contribAck
  try dsimp only
  repeat' first
    | with_reducible assumption
    | refine State.takeRx_keeps ?_ (by assumption)
    | with_reducible refine State.discardReply_keeps ?_
    | with_reducible refine State.sendDones_keeps ?_ _
    | with_reducible refine State.noteOutcome_keeps ?_ _ _
    | simp only [Keeps.upd_iff]
    | with_reducible refine Keeps.ite (fun _ => ?_) (fun _ => ?_)
    | split

theorem execContribAck_keeps {s0 s t : State} (h : Keeps s0 s)  (e : (execContribAck s) = .next t) :
    Keeps s0 t := by
  revert e
  unfold execContribAck
  try dsimp only
  repeat' first
    | with_reducible refine Keeps.of_next ?_
    | with_reducible assumption
    | with_reducible refine State.contribAck_keeps ?_

theorem State.bcastPacket_keeps {s0 s : State} (h : Keeps s0 s) (a1) :
    Keeps s0 (State.bcastPacket s a1) := by
  unfold State.bcastPacket
  try dsimp only
  repeat' first
    | with_reducible assumption
    | refine State.takeRx_keeps ?_ (by assumption)
    | with_reducible refine State.cnt16_keeps ?_ _ _
    | with_reducible refine State.modTransfer_keeps ?_ _ _
    | with_reducible refine State.takeBlock_keeps ?_ _ _ _
    | with_reducible refine State.bcastForward_keeps ?_ _ _ _
    | with_reducible refine Keeps.ite (fun _ => ?_) (fun _ => ?_)
    | split

theorem execBcastBlock_keeps {s0 s t : State} (h : Keeps s0 s)  (e : (execBcastBlock s) = .next t) :
    Keeps s0 t := by
  revert e
  unfold execBcastBlock
  try dsimp only
  repeat' first
    | with_reducible refine Keeps.of_next ?_
    | with_reducible assumption
    | with_reducible refine State.bcastPacket_keeps ?_ _

theorem execBcastManifest_keeps {s0 s t : State} (h : Keeps s0 s)  (e : (execBcastManifest s) = .next t) :
    Keeps s0 t := by
  revert e
  unfold execBcastManifest
  try dsimp only
  repeat' first
    | with_reducible refine Keeps.of_next ?_
    | with_reducible assumption
    | with_reducible refine State.bcastPacket_keeps ?_ _

theorem State.resendPacket_keeps {s0 s : State} (h : Keeps s0 s) :
    Keeps s0 (State.resendPacket s) := by
  unfold State.resendPacket
  try dsimp only
  repeat' first
    | with_reducible assumption
    | refine State.takeRx_keeps ?_ (by assumption)
    | with_reducible refine State.reply_keeps ?_ _ _ _ _ _ _
    | with_reducible refine Keeps.ite (fun _ => ?_) (fun _ => ?_)
    | split

theorem execResend_keeps {s0 s t : State} (h : Keeps s0 s)  (e : (execResend s) = .next t) :
    Keeps s0 t := by
  revert e
  unfold execResend
  try dsimp only
  repeat' first
    | with_reducible refine Keeps.of_next ?_
    | with_reducible assumption
    | with_reducible refine State.resendPacket_keeps ?_

theorem State.resendTimeout_keeps {s0 s : State} (h : Keeps s0 s) (a1) :
    Keeps s0 (State.resendTimeout s a1) := by
  unfold State.resendTimeout
  try dsimp only
  repeat' first
    | with_reducible assumption
    | with_reducible refine State.failTransfer_keeps ?_ _ _
    | with_reducible refine State.sendResend_keeps ?_ _ _
    | with_reducible refine Keeps.ite (fun _ => ?_) (fun _ => ?_)
    | with_reducible refine Keeps.foldl _ (fun _ _ _ => ?_) ?_
    | split

theorem execResendTimeout_keeps {s0 s t : State} (h : Keeps s0 s) {a0} (e : (execResendTimeout a0 s) = .next t) :
    Keeps s0 t := by
  revert e
  unfold execResendTimeout
  try dsimp only
  repeat' first
    | with_reducible refine Keeps.of_next ?_
    | with_reducible assumption
    | with_reducible refine State.resendTimeout_keeps ?_ _

theorem State.heartbeatSend_keeps {s0 s : State} (h : Keeps s0 s) :
    Keeps s0 (State.heartbeatSend s) := by
  unfold State.heartbeatSend
  try dsimp only
  repeat' first
    | with_reducible assumption
    | with_reducible refine State.reply_keeps ?_ _ _ _ _ _ _
    | with_reducible refine State.queueOn_keeps ?_ _ _
    | with_reducible refine Keeps.ite (fun _ => ?_) (fun _ => ?_)
    | with_reducible refine Keeps.foldl _ (fun _ _ _ => ?_) ?_

theorem execHeartbeatSend_keeps {s0 s t : State} (h : Keeps s0 s)  (e : (execHeartbeatSend s) = .next t) :
    Keeps s0 t := by
  revert e
  unfold execHeartbeatSend
  try dsimp only
  repeat' first
    | with_reducible refine Keeps.of_next ?_
    | with_reducible assumption
    | with_reducible refine State.heartbeatSend_keeps ?_

theorem State.heard_keeps {s0 s : State} (h : Keeps s0 s) (a1) :
    Keeps s0 (State.heard s a1) := by
  unfold State.heard
  try dsimp only
  repeat' first
    | with_reducible assumption
    | simp only [Keeps.upd_iff]

theorem execHeartbeat_keeps {s0 s t : State} (h : Keeps s0 s)  (e : (execHeartbeat s) = .next t) :
    Keeps s0 t := by
  revert e
  unfold execHeartbeat
  try dsimp only
  repeat' first
    | with_reducible refine Keeps.of_next ?_
    | with_reducible assumption
    | refine State.takeRx_keeps ?_ (by assumption)
    | with_reducible refine State.heard_keeps ?_ _
    | split

theorem State.heartbeatTimeout_keeps {s0 s : State} (h : Keeps s0 s) (a1) :
    Keeps s0 (State.heartbeatTimeout s a1) := by
  unfold State.heartbeatTimeout
  try dsimp only
  repeat' first
    | with_reducible assumption
    | with_reducible refine State.event_keeps ?_ _ _ _ _ _
    | simp only [Keeps.upd_iff]
    | with_reducible refine Keeps.ite (fun _ => ?_) (fun _ => ?_)

theorem execHeartbeatTimeout_keeps {s0 s t : State} (h : Keeps s0 s) {a0} (e : (execHeartbeatTimeout a0 s) = .next t) :
    Keeps s0 t := by
  revert e
  unfold execHeartbeatTimeout
  try dsimp only
  repeat' first
    | with_reducible refine Keeps.of_next ?_
    | with_reducible assumption
    | with_reducible refine State.heartbeatTimeout_keeps ?_ _

theorem State.neighbourPacket_keeps {s0 s : State} (h : Keeps s0 s) :
    Keeps s0 (State.neighbourPacket s) := by
  unfold State.neighbourPacket
  try dsimp only
  repeat' first
    | with_reducible assumption
    | refine State.takeRx_keeps ?_ (by assumption)
    | with_reducible refine State.heard_keeps ?_ _
    | with_reducible refine State.setObj_keeps ?_ _ _
    | with_reducible refine State.event_keeps ?_ _ _ _ _ _
    | with_reducible refine Keeps.ite (fun _ => ?_) (fun _ => ?_)
    | split

theorem execNeighbour_keeps {s0 s t : State} (h : Keeps s0 s)  (e : (execNeighbour s) = .next t) :
    Keeps s0 t := by
  revert e
  unfold execNeighbour
  try dsimp only
  repeat' first
    | with_reducible refine Keeps.of_next ?_
    | with_reducible assumption
    | with_reducible refine State.neighbourPacket_keeps ?_

theorem State.linkDownPacket_keeps {s0 s : State} (h : Keeps s0 s) :
    Keeps s0 (State.linkDownPacket s) := by
  unfold State.linkDownPacket
  try dsimp only
  repeat' first
    | with_reducible assumption
    | refine State.takeRx_keeps ?_ (by assumption)
    | with_reducible refine State.linkDrop_keeps ?_ _
    | with_reducible refine State.modLink_keeps ?_ _ _
    | with_reducible refine State.reroute_keeps ?_ _
    | with_reducible refine Keeps.ite (fun _ => ?_) (fun _ => ?_)
    | with_reducible refine Keeps.foldl _ (fun _ _ _ => ?_) ?_
    | split

theorem execLinkDown_keeps {s0 s t : State} (h : Keeps s0 s)  (e : (execLinkDown s) = .next t) :
    Keeps s0 t := by
  revert e
  unfold execLinkDown
  try dsimp only
  repeat' first
    | with_reducible refine Keeps.of_next ?_
    | with_reducible assumption
    | with_reducible refine State.linkDownPacket_keeps ?_

end Sys2Proof.Machine
end

