-- ==== Sys2Proof/Laws/KeepsUnits.lean ====
section
/-! SUPPORT. `Keeps` for the video engines, the memory controllers, faults and drains. -/

namespace Sys2Proof.Machine

theorem State.setVjob_keeps {s0 s : State} (h : Keeps s0 s) (a1 a2) :
    Keeps s0 (State.setVjob s a1 a2) := by
  unfold State.setVjob
  try dsimp only
  repeat' first
    | with_reducible assumption
    | simp only [Keeps.upd_iff]

theorem State.applyOut_keeps {s0 s : State} (h : Keeps s0 s) (a1) :
    Keeps s0 (State.applyOut s a1) := by
  unfold State.applyOut
  try dsimp only
  repeat' first
    | with_reducible assumption
    | with_reducible refine State.badBlockEvent_keeps ?_ _
    | with_reducible refine State.tryWriteVa_keeps ?_ _ _ _
    | with_reducible refine State.tick_keeps ?_
    | with_reducible refine State.seal_keeps ?_ _ _ _ _ _ _
    | with_reducible refine State.writeFree_keeps ?_ _ _
    | with_reducible refine Keeps.ite (fun _ => ?_) (fun _ => ?_)
    | with_reducible refine Keeps.foldl _ (fun _ _ _ => ?_) ?_
    | split

theorem State.setVideoLimit_keeps {s0 s : State} (h : Keeps s0 s) (a1 a2) :
    Keeps s0 (State.setVideoLimit s a1 a2).1 := by
  unfold State.setVideoLimit
  try dsimp only
  repeat' first
    | with_reducible assumption
    | with_reducible refine State.setObj_keeps ?_ _ _
    | with_reducible refine Keeps.iteFst (fun _ => ?_) (fun _ => ?_)

theorem State.doorbellVideo_keeps {s0 s : State} (h : Keeps s0 s) (a1 a2 a3) :
    Keeps s0 (State.doorbellVideo s a1 a2 a3) := by
  unfold State.doorbellVideo
  try dsimp only
  repeat' first
    | with_reducible assumption
    | with_reducible refine State.setVideoLimit_keeps ?_ _ _
    | with_reducible refine State.cnt16_keeps ?_ _ _
    | with_reducible refine Keeps.ite (fun _ => ?_) (fun _ => ?_)

theorem execVideoRingLimit_keeps {s0 s t : State} (h : Keeps s0 s) {a0 a1 a2} (e : (execVideoRingLimit a0 a1 a2 s) = .next t) :
    Keeps s0 t := by
  revert e
  unfold execVideoRingLimit
  try dsimp only
  repeat' first
    | with_reducible refine Keeps.of_next ?_
    | with_reducible assumption
    | with_reducible refine State.through_keeps ?_ _ _ _ _ ?_
    | with_reducible refine State.doorbellVideo_keeps ?_ _ _ _

theorem State.setVideoRing_keeps {s0 s : State} (h : Keeps s0 s) (a1 a2 a3) :
    Keeps s0 (State.setVideoRing s a1 a2 a3).1 := by
  unfold State.setVideoRing
  try dsimp only
  repeat' first
    | with_reducible assumption
    | with_reducible refine State.setObj_keeps ?_ _ _
    | simp only [Keeps.upd_iff]
    | with_reducible refine Keeps.ite (fun _ => ?_) (fun _ => ?_)
    | with_reducible refine Keeps.iteFst (fun _ => ?_) (fun _ => ?_)

theorem State.setStatePa_keeps {s0 s : State} (h : Keeps s0 s) (a1) :
    Keeps s0 (State.setStatePa s a1).1 := by
  unfold State.setStatePa
  try dsimp only
  repeat' first
    | with_reducible assumption
    | with_reducible refine State.setObj_keeps ?_ _ _
    | with_reducible refine Keeps.iteFst (fun _ => ?_) (fun _ => ?_)

theorem State.placeJob_keeps {s0 s : State} (h : Keeps s0 s) (a1 a2) :
    Keeps s0 (State.placeJob s a1 a2) := by
  unfold State.placeJob
  try dsimp only
  repeat' first
    | with_reducible assumption
    | with_reducible refine State.cnt48_keeps ?_ _ _
    | with_reducible refine State.setVjob_keeps ?_ _ _
    | simp only [Keeps.upd_iff]
    | with_reducible refine Keeps.ite (fun _ => ?_) (fun _ => ?_)

theorem State.videoRecord_keeps {s0 s : State} (h : Keeps s0 s) (a1 a2) :
    Keeps s0 (State.videoRecord s a1 a2) := by
  unfold State.videoRecord
  try dsimp only
  repeat' first
    | with_reducible assumption
    | with_reducible refine State.mirror_keeps ?_ _ _
    | with_reducible refine State.tryWriteVa_keeps ?_ _ _ _

theorem State.videoTag_keeps {s0 s : State} (h : Keeps s0 s) (a1) :
    Keeps s0 (State.videoTag s a1).1 := by
  unfold State.videoTag
  try dsimp only
  repeat' first
    | with_reducible assumption
    | with_reducible refine State.tagAdd_keeps ?_ _ _ _
    | with_reducible refine Keeps.iteFst (fun _ => ?_) (fun _ => ?_)

theorem State.videoRefuse_keeps {s0 s : State} (h : Keeps s0 s) (a1 a2 a3) :
    Keeps s0 (State.videoRefuse s a1 a2 a3) := by
  unfold State.videoRefuse
  try dsimp only
  repeat' first
    | with_reducible assumption
    | with_reducible refine State.videoTag_keeps ?_ _
    | with_reducible refine State.videoRecord_keeps ?_ _ _

theorem State.videoStart_keeps {s0 s : State} (h : Keeps s0 s) (a1) :
    Keeps s0 (State.videoStart s a1) := by
  unfold State.videoStart
  try dsimp only
  repeat' first
    | with_reducible assumption
    | with_reducible refine State.videoTag_keeps ?_ _
    | with_reducible refine State.videoRecord_keeps ?_ _ _
    | with_reducible refine State.placeJob_keeps ?_ _ _
    | with_reducible refine State.setObj_keeps ?_ _ _
    | with_reducible refine State.videoRefuse_keeps ?_ _ _ _
    | with_reducible refine State.tick_keeps ?_
    | simp only [Keeps.upd_iff]
    | with_reducible refine Keeps.ite (fun _ => ?_) (fun _ => ?_)
    | split

theorem execVideoJobStart_keeps {s0 s t : State} (h : Keeps s0 s) {a0} (e : (execVideoJobStart a0 s) = .next t) :
    Keeps s0 t := by
  revert e
  unfold execVideoJobStart
  try dsimp only
  repeat' first
    | with_reducible refine Keeps.of_next ?_
    | with_reducible assumption
    | with_reducible refine State.videoStart_keeps ?_ _

theorem State.videoRun_keeps {s0 s : State} (h : Keeps s0 s) (a1 a2 f) (hf : ∀ j, Keeps s0 (f j)) :
    Keeps s0 (State.videoRun s a1 a2 f) := by
  unfold State.videoRun
  dsimp only
  repeat' split
  · exact h
  · exact h
  · exact hf _

theorem execOpenStream_keeps {s0 s t : State} (h : Keeps s0 s) {a0} (e : (execOpenStream a0 s) = .next t) :
    Keeps s0 t := by
  revert e
  unfold execOpenStream
  try dsimp only
  repeat' first
    | with_reducible refine Keeps.of_next ?_
    | with_reducible assumption
    | with_reducible refine State.videoRun_keeps ?_ _ _ _ (fun _ => ?_)
    | with_reducible refine State.setVjob_keeps ?_ _ _

theorem execCloseStream_keeps {s0 s t : State} (h : Keeps s0 s) {a0} (e : (execCloseStream a0 s) = .next t) :
    Keeps s0 t := by
  revert e
  unfold execCloseStream
  try dsimp only
  repeat' first
    | with_reducible refine Keeps.of_next ?_
    | with_reducible assumption
    | with_reducible refine State.videoRun_keeps ?_ _ _ _ (fun _ => ?_)
    | with_reducible refine State.setVjob_keeps ?_ _ _

theorem execResetStream_keeps {s0 s t : State} (h : Keeps s0 s) {a0} (e : (execResetStream a0 s) = .next t) :
    Keeps s0 t := by
  revert e
  unfold execResetStream
  try dsimp only
  repeat' first
    | with_reducible refine Keeps.of_next ?_
    | with_reducible assumption
    | with_reducible refine State.videoRun_keeps ?_ _ _ _ (fun _ => ?_)
    | with_reducible refine State.setVjob_keeps ?_ _ _

theorem State.videoRan_keeps {s0 s : State} (h : Keeps s0 s) (a1 a2) :
    Keeps s0 (State.videoRan s a1 a2) := by
  unfold State.videoRan
  try dsimp only
  repeat' first
    | with_reducible assumption
    | with_reducible refine State.setVjob_keeps ?_ _ _
    | with_reducible refine State.applyOut_keeps ?_ _

theorem execDecode_keeps {s0 s t : State} (h : Keeps s0 s) {a0} (e : (execDecode a0 s) = .next t) :
    Keeps s0 t := by
  revert e
  unfold execDecode
  try dsimp only
  repeat' first
    | with_reducible refine Keeps.of_next ?_
    | with_reducible assumption
    | with_reducible refine State.videoRun_keeps ?_ _ _ _ (fun _ => ?_)
    | with_reducible refine State.videoRan_keeps ?_ _ _

theorem execEncode_keeps {s0 s t : State} (h : Keeps s0 s) {a0} (e : (execEncode a0 s) = .next t) :
    Keeps s0 t := by
  revert e
  unfold execEncode
  try dsimp only
  repeat' first
    | with_reducible refine Keeps.of_next ?_
    | with_reducible assumption
    | with_reducible refine State.videoRun_keeps ?_ _ _ _ (fun _ => ?_)
    | with_reducible refine State.videoRan_keeps ?_ _ _

theorem State.unpublish_keeps {s0 s : State} (h : Keeps s0 s) (a1) :
    Keeps s0 (State.unpublish s a1) := by
  unfold State.unpublish
  try dsimp only
  repeat' first
    | with_reducible assumption
    | with_reducible refine State.writeFree_keeps ?_ _ _
    | with_reducible refine Keeps.foldl _ (fun _ _ _ => ?_) ?_

theorem State.setStream_keeps {s0 s : State} (h : Keeps s0 s) (a1 a2) :
    Keeps s0 (State.setStream s a1 a2) := by
  unfold State.setStream
  try dsimp only
  repeat' first
    | with_reducible assumption
    | with_reducible refine State.setObj_keeps ?_ _ _
    | simp only [Keeps.upd_iff]

theorem State.finishJob_keeps {s0 s : State} (h : Keeps s0 s) (a1 a2) :
    Keeps s0 (State.finishJob s a1 a2) := by
  unfold State.finishJob
  try dsimp only
  repeat' first
    | with_reducible assumption
    | with_reducible refine State.cnt48_keeps ?_ _ _
    | with_reducible refine State.setStream_keeps ?_ _ _
    | with_reducible refine State.write_keeps ?_ _ _
    | with_reducible refine State.cnt16_keeps ?_ _ _
    | with_reducible refine Keeps.ite (fun _ => ?_) (fun _ => ?_)
    | split

theorem State.videoComplete_keeps {s0 s : State} (h : Keeps s0 s) (a1) :
    Keeps s0 (State.videoComplete s a1) := by
  unfold State.videoComplete
  try dsimp only
  repeat' first
    | with_reducible assumption
    | with_reducible refine State.videoTag_keeps ?_ _
    | with_reducible refine State.unpublish_keeps ?_ _
    | with_reducible refine State.setVjob_keeps ?_ _ _
    | with_reducible refine State.videoRecord_keeps ?_ _ _
    | with_reducible refine State.finishJob_keeps ?_ _ _
    | with_reducible refine Keeps.ite (fun _ => ?_) (fun _ => ?_)
    | split

theorem execVideoJobComplete_keeps {s0 s t : State} (h : Keeps s0 s) {a0} (e : (execVideoJobComplete a0 s) = .next t) :
    Keeps s0 t := by
  revert e
  unfold execVideoJobComplete
  try dsimp only
  repeat' first
    | with_reducible refine Keeps.of_next ?_
    | with_reducible assumption
    | with_reducible refine State.videoComplete_keeps ?_ _

theorem State.engineFault_keeps {s0 s : State} (h : Keeps s0 s) (a1) :
    Keeps s0 (State.engineFault s a1) := by
  unfold State.engineFault
  try dsimp only
  repeat' first
    | with_reducible assumption
    | with_reducible refine State.event_keeps ?_ _ _ _ _ _
    | with_reducible refine State.setObj_keeps ?_ _ _
    | with_reducible refine State.setVjob_keeps ?_ _ _
    | with_reducible refine State.unpublish_keeps ?_ _
    | simp only [Keeps.upd_iff]
    | with_reducible refine Keeps.ite (fun _ => ?_) (fun _ => ?_)
    | split

theorem execVideoEngineFault_keeps {s0 s t : State} (h : Keeps s0 s) {a0} (e : (execVideoEngineFault a0 s) = .next t) :
    Keeps s0 t := by
  revert e
  unfold execVideoEngineFault
  try dsimp only
  repeat' first
    | with_reducible refine Keeps.of_next ?_
    | with_reducible assumption
    | with_reducible refine State.engineFault_keeps ?_ _

theorem State.enableEngine_keeps {s0 s : State} (h : Keeps s0 s) (a1 a2) :
    Keeps s0 (State.enableEngine s a1 a2).1 := by
  unfold State.enableEngine
  try dsimp only
  repeat' first
    | with_reducible assumption
    | with_reducible refine State.setObj_keeps ?_ _ _
    | simp only [Keeps.upd_iff]
    | with_reducible refine Keeps.ite (fun _ => ?_) (fun _ => ?_)
    | with_reducible refine Keeps.iteFst (fun _ => ?_) (fun _ => ?_)

theorem execVideoEngineEnable_keeps {s0 s t : State} (h : Keeps s0 s) {a0 a1} (e : (execVideoEngineEnable a0 a1 s) = .next t) :
    Keeps s0 t := by
  revert e
  unfold execVideoEngineEnable
  try dsimp only
  repeat' first
    | with_reducible refine Keeps.of_next ?_
    | with_reducible assumption
    | with_reducible refine written_keeps ?_
    | with_reducible refine State.enableEngine_keeps ?_ _ _

theorem State.forceEngine_keeps {s0 s : State} (h : Keeps s0 s) (a1 a2) :
    Keeps s0 (State.forceEngine s a1 a2).1 := by
  unfold State.forceEngine
  try dsimp only
  repeat' first
    | with_reducible assumption
    | with_reducible refine State.setVjob_keeps ?_ _ _
    | with_reducible refine State.unpublish_keeps ?_ _
    | with_reducible refine Keeps.iteFst (fun _ => ?_) (fun _ => ?_)
    | split

theorem execVideoEngineForce_keeps {s0 s t : State} (h : Keeps s0 s) {a0 a1} (e : (execVideoEngineForce a0 a1 s) = .next t) :
    Keeps s0 t := by
  revert e
  unfold execVideoEngineForce
  try dsimp only
  repeat' first
    | with_reducible refine Keeps.of_next ?_
    | with_reducible assumption
    | with_reducible refine written_keeps ?_
    | with_reducible refine State.forceEngine_keeps ?_ _ _

theorem State.endEngine_keeps {s0 s : State} (h : Keeps s0 s) (a1) :
    Keeps s0 (State.endEngine s a1) := by
  unfold State.endEngine
  try dsimp only
  repeat' first
    | with_reducible assumption
    | with_reducible refine State.setObj_keeps ?_ _ _
    | with_reducible refine Keeps.ite (fun _ => ?_) (fun _ => ?_)

theorem State.resetEngine_keeps {s0 s : State} (h : Keeps s0 s) (a1 a2) :
    Keeps s0 (State.resetEngine s a1 a2).1 := by
  unfold State.resetEngine
  try dsimp only
  repeat' first
    | with_reducible assumption
    | with_reducible refine State.setObj_keeps ?_ _ _
    | with_reducible refine Keeps.iteFst (fun _ => ?_) (fun _ => ?_)

theorem execVideoEngineReset_keeps {s0 s t : State} (h : Keeps s0 s) {a0 a1} (e : (execVideoEngineReset a0 a1 s) = .next t) :
    Keeps s0 t := by
  revert e
  unfold execVideoEngineReset
  try dsimp only
  repeat' first
    | with_reducible refine Keeps.of_next ?_
    | with_reducible assumption
    | with_reducible refine written_keeps ?_
    | with_reducible refine State.resetEngine_keeps ?_ _ _

theorem State.engineTested_keeps {s0 s : State} (h : Keeps s0 s) (a1 a2) :
    Keeps s0 (State.engineTested s a1 a2) := by
  unfold State.engineTested
  try dsimp only
  repeat' first
    | with_reducible assumption
    | with_reducible refine State.setObj_keeps ?_ _ _
    | with_reducible refine Keeps.ite (fun _ => ?_) (fun _ => ?_)

theorem execVideoEngineTestDone_keeps {s0 s t : State} (h : Keeps s0 s) {a0 a1} (e : (execVideoEngineTestDone a0 a1 s) = .next t) :
    Keeps s0 t := by
  revert e
  unfold execVideoEngineTestDone
  try dsimp only
  repeat' first
    | with_reducible refine Keeps.of_next ?_
    | with_reducible assumption
    | with_reducible refine State.engineTested_keeps ?_ _ _

theorem State.exhausted_keeps {s0 s : State} (h : Keeps s0 s) (a1) :
    Keeps s0 (State.exhausted s a1) := by
  unfold State.exhausted
  try dsimp only
  repeat' first
    | with_reducible assumption
    | with_reducible refine State.event_keeps ?_ _ _ _ _ _
    | with_reducible refine State.setObj_keeps ?_ _ _

theorem State.retire_keeps {s0 s : State} (h : Keeps s0 s) (a1 a2 a3) :
    Keeps s0 (State.retire s a1 a2 a3) := by
  unfold State.retire
  try dsimp only
  repeat' first
    | with_reducible assumption
    | with_reducible refine State.poison_keeps ?_ _
    | with_reducible refine State.exhausted_keeps ?_ _
    | with_reducible refine State.put_keeps ?_ _ _
    | with_reducible refine State.cnt16_keeps ?_ _ _
    | with_reducible refine State.setObj_keeps ?_ _ _
    | simp only [Keeps.upd_iff]
    | with_reducible refine Keeps.ite (fun _ => ?_) (fun _ => ?_)

theorem State.correctedAt_keeps {s0 s : State} (h : Keeps s0 s) (a1 a2) :
    Keeps s0 (State.correctedAt s a1 a2) := by
  unfold State.correctedAt
  try dsimp only
  repeat' first
    | with_reducible assumption
    | with_reducible refine State.retire_keeps ?_ _ _ _
    | simp only [Keeps.upd_iff]
    | with_reducible refine Keeps.ite (fun _ => ?_) (fun _ => ?_)

theorem State.poisonUnread_keeps {s0 s : State} (h : Keeps s0 s) (a1) :
    Keeps s0 (State.poisonUnread s a1) := by
  unfold State.poisonUnread
  try dsimp only
  repeat' first
    | with_reducible assumption
    | with_reducible refine State.setSide_keeps ?_ _ _

theorem State.uncorrectableAt_keeps {s0 s : State} (h : Keeps s0 s) (a1 a2) :
    Keeps s0 (State.uncorrectableAt s a1 a2) := by
  unfold State.uncorrectableAt
  try dsimp only
  repeat' first
    | with_reducible assumption
    | with_reducible refine State.retire_keeps ?_ _ _ _
    | with_reducible refine State.event_keeps ?_ _ _ _ _ _
    | with_reducible refine State.poisonUnread_keeps ?_ _
    | with_reducible refine State.cancelRed_keeps ?_ _ _
    | with_reducible refine Keeps.foldl _ (fun _ _ _ => ?_) ?_
    | split

theorem State.passEnd_keeps {s0 s : State} (h : Keeps s0 s) (a1 a2) :
    Keeps s0 (State.passEnd s a1 a2) := by
  unfold State.passEnd
  try dsimp only
  repeat' first
    | with_reducible assumption
    | with_reducible refine State.setObj_keeps ?_ _ _
    | with_reducible refine State.cnt48_keeps ?_ _ _
    | simp only [Keeps.upd_iff]
    | with_reducible refine Keeps.ite (fun _ => ?_) (fun _ => ?_)

theorem State.eccAt_keeps {s0 s : State} (h : Keeps s0 s) (a1 a2 a3) :
    Keeps s0 (State.eccAt s a1 a2 a3) := by
  unfold State.eccAt
  try dsimp only
  repeat' first
    | with_reducible assumption
    | with_reducible refine State.cnt16_keeps ?_ _ _
    | with_reducible refine State.correctedAt_keeps ?_ _ _
    | with_reducible refine State.uncorrectableAt_keeps ?_ _ _
    | with_reducible refine Keeps.getD (fun _ => ?_) ?_
    | with_reducible refine Keeps.of_map (fun _ => ?_)
    | split

theorem State.scrub_keeps {s0 s : State} (h : Keeps s0 s) (a1 a2 a3) :
    Keeps s0 (State.scrub s a1 a2 a3) := by
  unfold State.scrub
  try dsimp only
  repeat' first
    | with_reducible assumption
    | with_reducible refine State.passEnd_keeps ?_ _ _
    | with_reducible refine State.eccAt_keeps ?_ _ _ _
    | with_reducible refine Keeps.ite (fun _ => ?_) (fun _ => ?_)

theorem execGroomerScrub_keeps {s0 s t : State} (h : Keeps s0 s) {a0 a1 a2} (e : (execGroomerScrub a0 a1 a2 s) = .next t) :
    Keeps s0 t := by
  revert e
  unfold execGroomerScrub
  try dsimp only
  repeat' first
    | with_reducible refine Keeps.of_next ?_
    | with_reducible assumption
    | with_reducible refine State.scrub_keeps ?_ _ _ _

theorem State.retirePa_keeps {s0 s : State} (h : Keeps s0 s) (a1) :
    Keeps s0 (State.retirePa s a1).1 := by
  unfold State.retirePa
  try dsimp only
  repeat' first
    | with_reducible assumption
    | with_reducible refine State.retire_keeps ?_ _ _ _
    | with_reducible refine Keeps.iteFst (fun _ => ?_) (fun _ => ?_)

theorem execRetirePa_keeps {s0 s t : State} (h : Keeps s0 s) {a0} (e : (execRetirePa a0 s) = .next t) :
    Keeps s0 t := by
  revert e
  unfold execRetirePa
  try dsimp only
  repeat' first
    | with_reducible refine Keeps.of_next ?_
    | with_reducible assumption
    | with_reducible refine written_keeps ?_
    | with_reducible refine State.retirePa_keeps ?_ _

theorem State.watchdogFault_keeps {s0 s : State} (h : Keeps s0 s) (a1 a2) :
    Keeps s0 (State.watchdogFault s a1 a2) := by
  unfold State.watchdogFault
  try dsimp only
  repeat' first
    | with_reducible assumption
    | with_reducible refine State.fenceCore_keeps ?_ _ _ _
    | with_reducible refine Keeps.ite (fun _ => ?_) (fun _ => ?_)
    | split

theorem execWatchdogFault_keeps {s0 s t : State} (h : Keeps s0 s) {a0} (e : (execWatchdogFault a0 s) = .next t) :
    Keeps s0 t := by
  revert e
  unfold execWatchdogFault
  try dsimp only
  repeat' first
    | with_reducible refine Keeps.of_next ?_
    | with_reducible assumption
    | with_reducible refine State.watchdogFault_keeps ?_ _ _

theorem State.coreFault_keeps {s0 s : State} (h : Keeps s0 s) (a1 a2 a3) :
    Keeps s0 (State.coreFault s a1 a2 a3) := by
  unfold State.coreFault
  try dsimp only
  repeat' first
    | with_reducible assumption
    | with_reducible refine State.fenceCore_keeps ?_ _ _ _
    | with_reducible refine Keeps.ite (fun _ => ?_) (fun _ => ?_)

theorem execCoreFault_keeps {s0 s t : State} (h : Keeps s0 s) {a0 a1} (e : (execCoreFault a0 a1 s) = .next t) :
    Keeps s0 t := by
  revert e
  unfold execCoreFault
  try dsimp only
  repeat' first
    | with_reducible refine Keeps.of_next ?_
    | with_reducible assumption
    | with_reducible refine State.coreFault_keeps ?_ _ _ _

theorem State.fenceWrite_keeps {s0 s : State} (h : Keeps s0 s) (a1 a2 a3) :
    Keeps s0 (State.fenceWrite s a1 a2 a3).1 := by
  unfold State.fenceWrite
  try dsimp only
  repeat' first
    | with_reducible assumption
    | with_reducible refine State.fenceCore_keeps ?_ _ _ _
    | with_reducible refine Keeps.iteFst (fun _ => ?_) (fun _ => ?_)

theorem execFence_keeps {s0 s t : State} (h : Keeps s0 s) {a0 a1} (e : (execFence a0 a1 s) = .next t) :
    Keeps s0 t := by
  revert e
  unfold execFence
  try dsimp only
  repeat' first
    | with_reducible refine Keeps.of_next ?_
    | with_reducible assumption
    | with_reducible refine written_keeps ?_
    | with_reducible refine State.fenceWrite_keeps ?_ _ _ _

theorem State.unfence_keeps {s0 s : State} (h : Keeps s0 s) (a1 a2 a3) :
    Keeps s0 (State.unfence s a1 a2 a3).1 := by
  unfold State.unfence
  try dsimp only
  repeat' first
    | with_reducible assumption
    | with_reducible refine State.modCore_keeps ?_ _ _ _
    | with_reducible refine Keeps.iteFst (fun _ => ?_) (fun _ => ?_)

theorem execUnfence_keeps {s0 s t : State} (h : Keeps s0 s) {a0 a1} (e : (execUnfence a0 a1 s) = .next t) :
    Keeps s0 t := by
  revert e
  unfold execUnfence
  try dsimp only
  repeat' first
    | with_reducible refine Keeps.of_next ?_
    | with_reducible assumption
    | with_reducible refine written_keeps ?_
    | with_reducible refine State.unfence_keeps ?_ _ _ _

theorem State.unfenceDone_keeps {s0 s : State} (h : Keeps s0 s) (a1 a2 a3) :
    Keeps s0 (State.unfenceDone s a1 a2 a3) := by
  unfold State.unfenceDone
  try dsimp only
  repeat' first
    | with_reducible assumption
    | with_reducible refine State.setCore_keeps ?_ _ _ _
    | with_reducible refine State.renumber_keeps ?_
    | with_reducible refine State.setObj_keeps ?_ _ _
    | with_reducible refine Keeps.ite (fun _ => ?_) (fun _ => ?_)

theorem execUnfenceTestDone_keeps {s0 s t : State} (h : Keeps s0 s) {a0 a1} (e : (execUnfenceTestDone a0 a1 s) = .next t) :
    Keeps s0 t := by
  revert e
  unfold execUnfenceTestDone
  try dsimp only
  repeat' first
    | with_reducible refine Keeps.of_next ?_
    | with_reducible assumption
    | with_reducible refine State.unfenceDone_keeps ?_ _ _ _

theorem State.wdTick_keeps {s0 s : State} (h : Keeps s0 s) :
    Keeps s0 (State.wdTick s) := by
  unfold State.wdTick
  try dsimp only
  repeat' first
    | with_reducible assumption
    | simp only [Keeps.upd_iff]
    | with_reducible refine Keeps.ite (fun _ => ?_) (fun _ => ?_)

theorem State.setCl_keeps {s0 s : State} (h : Keeps s0 s) (a1 a2) :
    Keeps s0 (State.setCl s a1 a2) := by
  unfold State.setCl
  try dsimp only
  repeat' first
    | with_reducible assumption
    | with_reducible refine State.setObj_keeps ?_ _ _

theorem State.stopCores_keeps {s0 s : State} (h : Keeps s0 s) (a1) :
    Keeps s0 (State.stopCores s a1) := by
  unfold State.stopCores
  try dsimp only
  repeat' first
    | with_reducible assumption
    | with_reducible refine State.discardCore_keeps ?_ _ _
    | with_reducible refine State.setObj_keeps ?_ _ _
    | with_reducible refine Keeps.ite (fun _ => ?_) (fun _ => ?_)
    | with_reducible refine Keeps.foldl _ (fun _ _ _ => ?_) ?_

theorem State.quiesceCl_keeps {s0 s : State} (h : Keeps s0 s) (a1) :
    Keeps s0 (State.quiesceCl s a1) := by
  unfold State.quiesceCl
  try dsimp only
  repeat' first
    | with_reducible assumption
    | with_reducible refine State.setCl_keeps ?_ _ _
    | with_reducible refine State.stopCores_keeps ?_ _
    | with_reducible refine State.expireLease_keeps ?_ _ _
    | with_reducible refine Keeps.foldl _ (fun _ _ _ => ?_) ?_

theorem State.enableCl_keeps {s0 s : State} (h : Keeps s0 s) (a1 a2) :
    Keeps s0 (State.enableCl s a1 a2).1 := by
  unfold State.enableCl
  try dsimp only
  repeat' first
    | with_reducible assumption
    | with_reducible refine State.setObj_keeps ?_ _ _
    | with_reducible refine State.setCl_keeps ?_ _ _
    | with_reducible refine State.drainCluster_keeps ?_ _
    | with_reducible refine Keeps.iteFst (fun _ => ?_) (fun _ => ?_)

theorem execClusterEnable_keeps {s0 s t : State} (h : Keeps s0 s) {a0 a1} (e : (execClusterEnable a0 a1 s) = .next t) :
    Keeps s0 t := by
  revert e
  unfold execClusterEnable
  try dsimp only
  repeat' first
    | with_reducible refine Keeps.of_next ?_
    | with_reducible assumption
    | with_reducible refine written_keeps ?_
    | with_reducible refine State.enableCl_keeps ?_ _ _

theorem State.forceCl_keeps {s0 s : State} (h : Keeps s0 s) (a1 a2) :
    Keeps s0 (State.forceCl s a1 a2).1 := by
  unfold State.forceCl
  try dsimp only
  repeat' first
    | with_reducible assumption
    | with_reducible refine State.setCl_keeps ?_ _ _
    | with_reducible refine State.fenceCore_keeps ?_ _ _ _
    | with_reducible refine Keeps.iteFst (fun _ => ?_) (fun _ => ?_)
    | with_reducible refine Keeps.foldl _ (fun _ _ _ => ?_) ?_

theorem execClusterForce_keeps {s0 s t : State} (h : Keeps s0 s) {a0 a1} (e : (execClusterForce a0 a1 s) = .next t) :
    Keeps s0 t := by
  revert e
  unfold execClusterForce
  try dsimp only
  repeat' first
    | with_reducible refine Keeps.of_next ?_
    | with_reducible assumption
    | with_reducible refine written_keeps ?_
    | with_reducible refine State.forceCl_keeps ?_ _ _

theorem State.quiesce_keeps {s0 s : State} (h : Keeps s0 s) (a1 a2) :
    Keeps s0 (State.quiesce s a1 a2).1 := by
  unfold State.quiesce
  try dsimp only
  repeat' first
    | with_reducible assumption
    | with_reducible refine State.quiesceCl_keeps ?_ _
    | with_reducible refine Keeps.iteFst (fun _ => ?_) (fun _ => ?_)

theorem execQuiesce_keeps {s0 s t : State} (h : Keeps s0 s) {a0 a1} (e : (execQuiesce a0 a1 s) = .next t) :
    Keeps s0 t := by
  revert e
  unfold execQuiesce
  try dsimp only
  repeat' first
    | with_reducible refine Keeps.of_next ?_
    | with_reducible assumption
    | with_reducible refine written_keeps ?_
    | with_reducible refine State.quiesce_keeps ?_ _ _

theorem State.clearLeases_keeps {s0 s : State} (h : Keeps s0 s) (a1) :
    Keeps s0 (State.clearLeases s a1) := by
  unfold State.clearLeases
  try dsimp only
  repeat' first
    | with_reducible assumption
    | with_reducible refine State.unbindVersion_keeps ?_ _
    | with_reducible refine State.modLeases_keeps ?_ _ _
    | with_reducible refine State.planFail_keeps ?_ _ _
    | simp only [Keeps.upd_iff]
    | with_reducible refine Keeps.foldl _ (fun _ _ _ => ?_) ?_

theorem State.releaseCl_keeps {s0 s : State} (h : Keeps s0 s) (a1 a2) :
    Keeps s0 (State.releaseCl s a1 a2).1 := by
  unfold State.releaseCl
  try dsimp only
  repeat' first
    | with_reducible assumption
    | with_reducible refine State.clearLeases_keeps ?_ _
    | with_reducible refine State.modQueue_keeps ?_ _ _ _
    | simp only [Keeps.upd_iff]
    | with_reducible refine Keeps.iteFst (fun _ => ?_) (fun _ => ?_)
    | with_reducible refine Keeps.foldl _ (fun _ _ _ => ?_) ?_

theorem execRelease_keeps {s0 s t : State} (h : Keeps s0 s) {a0 a1} (e : (execRelease a0 a1 s) = .next t) :
    Keeps s0 t := by
  revert e
  unfold execRelease
  try dsimp only
  repeat' first
    | with_reducible refine Keeps.of_next ?_
    | with_reducible assumption
    | with_reducible refine written_keeps ?_
    | with_reducible refine State.releaseCl_keeps ?_ _ _

theorem State.zeroScratch_keeps {s0 s : State} (h : Keeps s0 s) (cl) : Keeps s0 (State.zeroScratch s cl) :=
  ⟨h.1, fun m => by unfold State.zeroScratch; dsimp only; exact nwf_nfilterOut _ _ _ (h.2 m), h.3, h.4⟩

theorem State.wipeCl_keeps {s0 s : State} (h : Keeps s0 s) (a1) :
    Keeps s0 (State.wipeCl s a1) := by
  unfold State.wipeCl
  try dsimp only
  repeat' first
    | with_reducible assumption
    | with_reducible refine State.zeroScratch_keeps ?_ _
    | with_reducible refine State.clearLeases_keeps ?_ _
    | with_reducible refine State.modQueue_keeps ?_ _ _ _
    | with_reducible refine State.setCore_keeps ?_ _ _ _
    | with_reducible refine Keeps.foldl _ (fun _ _ _ => ?_) ?_

theorem State.resetCl_keeps {s0 s : State} (h : Keeps s0 s) (a1 a2) :
    Keeps s0 (State.resetCl s a1 a2).1 := by
  unfold State.resetCl
  try dsimp only
  repeat' first
    | with_reducible assumption
    | with_reducible refine State.setCl_keeps ?_ _ _
    | with_reducible refine State.wipeCl_keeps ?_ _
    | with_reducible refine Keeps.iteFst (fun _ => ?_) (fun _ => ?_)

theorem execClusterReset_keeps {s0 s t : State} (h : Keeps s0 s) {a0 a1} (e : (execClusterReset a0 a1 s) = .next t) :
    Keeps s0 t := by
  revert e
  unfold execClusterReset
  try dsimp only
  repeat' first
    | with_reducible refine Keeps.of_next ?_
    | with_reducible assumption
    | with_reducible refine written_keeps ?_
    | with_reducible refine State.resetCl_keeps ?_ _ _

theorem State.resetClDone_keeps {s0 s : State} (h : Keeps s0 s) (a1 a2) :
    Keeps s0 (State.resetClDone s a1 a2) := by
  unfold State.resetClDone
  try dsimp only
  repeat' first
    | with_reducible assumption
    | with_reducible refine State.setCl_keeps ?_ _ _
    | with_reducible refine Keeps.ite (fun _ => ?_) (fun _ => ?_)

theorem execClusterResetDone_keeps {s0 s t : State} (h : Keeps s0 s) {a0 a1} (e : (execClusterResetDone a0 a1 s) = .next t) :
    Keeps s0 t := by
  revert e
  unfold execClusterResetDone
  try dsimp only
  repeat' first
    | with_reducible refine Keeps.of_next ?_
    | with_reducible assumption
    | with_reducible refine State.resetClDone_keeps ?_ _ _

theorem State.powerCl_keeps {s0 s : State} (h : Keeps s0 s) (a1 a2) :
    Keeps s0 (State.powerCl s a1 a2).1 := by
  unfold State.powerCl
  try dsimp only
  repeat' first
    | with_reducible assumption
    | with_reducible refine State.setCl_keeps ?_ _ _
    | with_reducible refine State.setObj_keeps ?_ _ _
    | with_reducible refine State.wipeCl_keeps ?_ _
    | with_reducible refine Keeps.iteFst (fun _ => ?_) (fun _ => ?_)

theorem execClusterPower_keeps {s0 s t : State} (h : Keeps s0 s) {a0 a1} (e : (execClusterPower a0 a1 s) = .next t) :
    Keeps s0 t := by
  revert e
  unfold execClusterPower
  try dsimp only
  repeat' first
    | with_reducible refine Keeps.of_next ?_
    | with_reducible assumption
    | with_reducible refine written_keeps ?_
    | with_reducible refine State.powerCl_keeps ?_ _ _

theorem State.clusterFault_keeps {s0 s : State} (h : Keeps s0 s) (a1 a2) :
    Keeps s0 (State.clusterFault s a1 a2) := by
  unfold State.clusterFault
  try dsimp only
  repeat' first
    | with_reducible assumption
    | with_reducible refine State.event_keeps ?_ _ _ _ _ _
    | with_reducible refine State.quiesceCl_keeps ?_ _
    | with_reducible refine State.beginPreempt_keeps ?_ _
    | with_reducible refine State.modCtx_keeps ?_ _ _
    | with_reducible refine Keeps.ite (fun _ => ?_) (fun _ => ?_)
    | with_reducible refine Keeps.foldl _ (fun _ _ _ => ?_) ?_

theorem execClusterControlFault_keeps {s0 s t : State} (h : Keeps s0 s) {a0 a1} (e : (execClusterControlFault a0 a1 s) = .next t) :
    Keeps s0 t := by
  revert e
  unfold execClusterControlFault
  try dsimp only
  repeat' first
    | with_reducible refine Keeps.of_next ?_
    | with_reducible assumption
    | with_reducible refine State.clusterFault_keeps ?_ _ _

theorem State.controlFault_keeps {s0 s : State} (h : Keeps s0 s) (a1) :
    Keeps s0 (State.controlFault s a1) := by
  unfold State.controlFault
  try dsimp only
  repeat' first
    | with_reducible assumption
    | with_reducible refine State.tick_keeps ?_
    | with_reducible refine State.clusterFault_keeps ?_ _ _

theorem State.lockstep_keeps {s0 s : State} (h : Keeps s0 s) (a1) :
    Keeps s0 (State.lockstep s a1) := by
  unfold State.lockstep
  try dsimp only
  repeat' first
    | with_reducible assumption
    | with_reducible refine State.controlFault_keeps ?_ _
    | simp only [Keeps.upd_iff]
    | with_reducible refine Keeps.ite (fun _ => ?_) (fun _ => ?_)
    | split

theorem execLockstepMismatch_keeps {s0 s t : State} (h : Keeps s0 s) {a0} (e : (execLockstepMismatch a0 s) = .next t) :
    Keeps s0 t := by
  revert e
  unfold execLockstepMismatch
  try dsimp only
  repeat' first
    | with_reducible refine Keeps.of_next ?_
    | with_reducible assumption
    | with_reducible refine State.lockstep_keeps ?_ _

theorem State.setCache_keeps {s0 s : State} (h : Keeps s0 s) (a1 a2) :
    Keeps s0 (State.setCache s a1 a2).1 := by
  unfold State.setCache
  try dsimp only
  repeat' first
    | with_reducible assumption
    | with_reducible refine State.setObj_keeps ?_ _ _
    | with_reducible refine Keeps.iteFst (fun _ => ?_) (fun _ => ?_)

theorem execCacheMib_keeps {s0 s t : State} (h : Keeps s0 s) {a0 a1} (e : (execCacheMib a0 a1 s) = .next t) :
    Keeps s0 t := by
  revert e
  unfold execCacheMib
  try dsimp only
  repeat' first
    | with_reducible refine Keeps.of_next ?_
    | with_reducible assumption
    | with_reducible refine written_keeps ?_
    | with_reducible refine State.setCache_keeps ?_ _ _

theorem State.abortWaiting_keeps {s0 s : State} (h : Keeps s0 s) (a1) :
    Keeps s0 (State.abortWaiting s a1) := by
  unfold State.abortWaiting
  try dsimp only
  repeat' first
    | with_reducible assumption
    | with_reducible refine State.modQueue_keeps ?_ _ _ _
    | with_reducible refine State.dropLease_keeps ?_ _ _ _ _
    | with_reducible refine State.unbindVersion_keeps ?_ _
    | with_reducible refine State.complete_keeps ?_ _ _ _ _
    | with_reducible refine Keeps.foldl _ (fun _ _ _ => ?_) ?_

theorem State.abortCores_keeps {s0 s : State} (h : Keeps s0 s) (a1) :
    Keeps s0 (State.abortCores s a1) := by
  unfold State.abortCores
  try dsimp only
  repeat' first
    | with_reducible assumption
    | with_reducible refine State.taskFail_keeps ?_ _ _ _
    | with_reducible refine Keeps.ite (fun _ => ?_) (fun _ => ?_)
    | with_reducible refine Keeps.foldl _ (fun _ _ _ => ?_) ?_
    | split

theorem State.abortPlans_keeps {s0 s : State} (h : Keeps s0 s) (a1) :
    Keeps s0 (State.abortPlans s a1) := by
  unfold State.abortPlans
  try dsimp only
  repeat' first
    | with_reducible assumption
    | with_reducible refine State.modLeases_keeps ?_ _ _
    | with_reducible refine State.planFail_keeps ?_ _ _
    | simp only [Keeps.upd_iff]
    | with_reducible refine Keeps.foldl _ (fun _ _ _ => ?_) ?_

theorem State.abortAll_keeps {s0 s : State} (h : Keeps s0 s) :
    Keeps s0 (State.abortAll s) := by
  unfold State.abortAll
  try dsimp only
  repeat' first
    | with_reducible assumption
    | with_reducible refine State.abortPlans_keeps ?_ _
    | with_reducible refine State.abortWaiting_keeps ?_ _
    | with_reducible refine State.abortCores_keeps ?_ _
    | with_reducible refine State.cancelRed_keeps ?_ _ _
    | with_reducible refine Keeps.foldl _ (fun _ _ _ => ?_) ?_

theorem State.setMode_keeps {s0 s : State} (h : Keeps s0 s) (a1 a2) :
    Keeps s0 (State.setMode s a1 a2).1 := by
  unfold State.setMode
  try dsimp only
  repeat' first
    | with_reducible assumption
    | with_reducible refine State.setObj_keeps ?_ _ _
    | simp only [Keeps.upd_iff]
    | with_reducible refine Keeps.iteFst (fun _ => ?_) (fun _ => ?_)

theorem execTm1FunctionMode_keeps {s0 s t : State} (h : Keeps s0 s) {a0} (e : (execTm1FunctionMode a0 s) = .next t) :
    Keeps s0 t := by
  revert e
  unfold execTm1FunctionMode
  try dsimp only
  repeat' first
    | with_reducible refine Keeps.of_next ?_
    | with_reducible assumption
    | with_reducible refine written_keeps ?_
    | with_reducible refine State.setMode_keeps ?_ _ _

theorem execTm1ContainmentMode_keeps {s0 s t : State} (h : Keeps s0 s) {a0} (e : (execTm1ContainmentMode a0 s) = .next t) :
    Keeps s0 t := by
  revert e
  unfold execTm1ContainmentMode
  try dsimp only
  repeat' first
    | with_reducible refine Keeps.of_next ?_
    | with_reducible assumption
    | with_reducible refine written_keeps ?_
    | with_reducible refine State.setMode_keeps ?_ _ _

theorem State.forceMode_keeps {s0 s : State} (h : Keeps s0 s) (a1 a2) :
    Keeps s0 (State.forceMode s a1 a2).1 := by
  unfold State.forceMode
  try dsimp only
  repeat' first
    | with_reducible assumption
    | with_reducible refine State.abortAll_keeps ?_
    | with_reducible refine Keeps.iteFst (fun _ => ?_) (fun _ => ?_)

theorem execTm1FunctionModeForce_keeps {s0 s t : State} (h : Keeps s0 s) {a0} (e : (execTm1FunctionModeForce a0 s) = .next t) :
    Keeps s0 t := by
  revert e
  unfold execTm1FunctionModeForce
  try dsimp only
  repeat' first
    | with_reducible refine Keeps.of_next ?_
    | with_reducible assumption
    | with_reducible refine written_keeps ?_
    | with_reducible refine State.forceMode_keeps ?_ _ _

theorem execTm1ContainmentForce_keeps {s0 s t : State} (h : Keeps s0 s) {a0} (e : (execTm1ContainmentForce a0 s) = .next t) :
    Keeps s0 t := by
  revert e
  unfold execTm1ContainmentForce
  try dsimp only
  repeat' first
    | with_reducible refine Keeps.of_next ?_
    | with_reducible assumption
    | with_reducible refine written_keeps ?_
    | with_reducible refine State.forceMode_keeps ?_ _ _

theorem State.enableGlide_keeps {s0 s : State} (h : Keeps s0 s) (a1) :
    Keeps s0 (State.enableGlide s a1) := by
  unfold State.enableGlide
  try dsimp only
  repeat' first
    | with_reducible assumption
    | with_reducible refine State.setObj_keeps ?_ _ _
    | with_reducible refine Keeps.ite (fun _ => ?_) (fun _ => ?_)

theorem execGlideEnable_keeps {s0 s t : State} (h : Keeps s0 s) {a0} (e : (execGlideEnable a0 s) = .next t) :
    Keeps s0 t := by
  revert e
  unfold execGlideEnable
  try dsimp only
  repeat' first
    | with_reducible refine Keeps.of_next ?_
    | with_reducible assumption
    | with_reducible refine State.enableGlide_keeps ?_ _

theorem State.forceGlide_keeps {s0 s : State} (h : Keeps s0 s) (a1) :
    Keeps s0 (State.forceGlide s a1).1 := by
  unfold State.forceGlide
  try dsimp only
  repeat' first
    | with_reducible assumption
    | with_reducible refine State.abortPlans_keeps ?_ _
    | with_reducible refine State.abortWaiting_keeps ?_ _
    | with_reducible refine State.abortCores_keeps ?_ _
    | with_reducible refine Keeps.iteFst (fun _ => ?_) (fun _ => ?_)

theorem execGlideForce_keeps {s0 s t : State} (h : Keeps s0 s) {a0} (e : (execGlideForce a0 s) = .next t) :
    Keeps s0 t := by
  revert e
  unfold execGlideForce
  try dsimp only
  repeat' first
    | with_reducible refine Keeps.of_next ?_
    | with_reducible assumption
    | with_reducible refine written_keeps ?_
    | with_reducible refine State.forceGlide_keeps ?_ _

theorem State.applyMode_keeps {s0 s : State} (h : Keeps s0 s) (a1 a2) :
    Keeps s0 (State.applyMode s a1 a2) := by
  unfold State.applyMode
  try dsimp only
  repeat' first
    | with_reducible assumption
    | with_reducible refine State.event_keeps ?_ _ _ _ _ _
    | with_reducible refine State.setObj_keeps ?_ _ _
    | split

theorem State.endFunction_keeps {s0 s : State} (h : Keeps s0 s) :
    Keeps s0 (State.endFunction s) := by
  unfold State.endFunction
  try dsimp only
  repeat' first
    | with_reducible assumption
    | with_reducible refine State.applyMode_keeps ?_ _ _
    | simp only [Keeps.upd_iff]
    | with_reducible refine Keeps.ite (fun _ => ?_) (fun _ => ?_)

theorem State.endContainment_keeps {s0 s : State} (h : Keeps s0 s) :
    Keeps s0 (State.endContainment s) := by
  unfold State.endContainment
  try dsimp only
  repeat' first
    | with_reducible assumption
    | with_reducible refine State.applyMode_keeps ?_ _ _
    | simp only [Keeps.upd_iff]
    | with_reducible refine Keeps.ite (fun _ => ?_) (fun _ => ?_)

theorem State.endGlide_keeps {s0 s : State} (h : Keeps s0 s) :
    Keeps s0 (State.endGlide s) := by
  unfold State.endGlide
  try dsimp only
  repeat' first
    | with_reducible assumption
    | with_reducible refine State.setObj_keeps ?_ _ _
    | with_reducible refine Keeps.ite (fun _ => ?_) (fun _ => ?_)

theorem State.drainEnd_keeps {s0 s : State} (h : Keeps s0 s) (a1) :
    Keeps s0 (State.drainEnd s a1) := by
  unfold State.drainEnd
  try dsimp only
  repeat' first
    | with_reducible assumption
    | with_reducible refine State.endFunction_keeps ?_
    | with_reducible refine State.endContainment_keeps ?_
    | with_reducible refine State.endGlide_keeps ?_
    | with_reducible refine State.endChair_keeps ?_
    | with_reducible refine State.drainCluster_keeps ?_ _
    | with_reducible refine State.endLink_keeps ?_ _
    | with_reducible refine State.endEngine_keeps ?_ _
    | split

theorem execDrainEnd_keeps {s0 s t : State} (h : Keeps s0 s) {a0} (e : (execDrainEnd a0 s) = .next t) :
    Keeps s0 t := by
  revert e
  unfold execDrainEnd
  try dsimp only
  repeat' first
    | with_reducible refine Keeps.of_next ?_
    | with_reducible assumption
    | with_reducible refine State.drainEnd_keeps ?_ _

end Sys2Proof.Machine
end

