-- ==== Sys2Proof/Laws/KeepsModule.lean ====
section
/-! SUPPORT. `Keeps` for power, the object dictionary, the Patrol, the host port and idling. -/

namespace Sys2Proof.Machine

theorem State.strapDefaults_keeps {s0 s : State} (h : Keeps s0 s) :
    Keeps s0 (State.strapDefaults s) := by
  unfold State.strapDefaults
  try dsimp only
  repeat' first
    | with_reducible assumption
    | with_reducible refine State.setObj_keeps ?_ _ _
    | with_reducible refine Keeps.ite (fun _ => ?_) (fun _ => ?_)
    | with_reducible refine Keeps.foldl _ (fun _ _ _ => ?_) ?_

theorem State.markDegraded_keeps {s0 s : State} (h : Keeps s0 s) :
    Keeps s0 (State.markDegraded s) := by
  unfold State.markDegraded
  try dsimp only
  repeat' first
    | with_reducible assumption
    | with_reducible refine State.setObj_keeps ?_ _ _
    | with_reducible refine Keeps.ite (fun _ => ?_) (fun _ => ?_)
    | with_reducible refine Keeps.foldl _ (fun _ _ _ => ?_) ?_

theorem State.mainReset_keeps {s0 s : State} (h : Keeps s0 s) : Keeps s0 (State.mainReset s) := by
  unfold State.mainReset
  dsimp only
  refine State.markDegraded_keeps (State.strapDefaults_keeps ?_)
  exact ⟨h.1, fun _ => rfl, fun _ => rfl, h.4⟩

theorem State.setModule_keeps {s0 s : State} (h : Keeps s0 s) (a1) :
    Keeps s0 (State.setModule s a1) := by
  unfold State.setModule
  try dsimp only
  repeat' first
    | with_reducible assumption
    | with_reducible refine State.setObj_keeps ?_ _ _

theorem State.toStandby_keeps {s0 s : State} (h : Keeps s0 s) :
    Keeps s0 (State.toStandby s) := by
  unfold State.toStandby
  try dsimp only
  repeat' first
    | with_reducible assumption
    | with_reducible refine State.setModule_keeps ?_ _
    | with_reducible refine State.mainReset_keeps ?_
    | simp only [Keeps.upd_iff]

theorem State.standbyLoss_keeps {s0 s : State} (h : Keeps s0 s) :
    Keeps s0 (State.standbyLoss s) := by
  unfold State.standbyLoss
  try dsimp only
  repeat' first
    | with_reducible assumption
    | with_reducible refine State.toStandby_keeps ?_
    | with_reducible refine State.setObj_keeps ?_ _ _
    | simp only [Keeps.upd_iff]
    | with_reducible refine Keeps.ite (fun _ => ?_) (fun _ => ?_)

theorem execStandbyPowerLoss_keeps {s0 s t : State} (h : Keeps s0 s)  (e : (execStandbyPowerLoss s) = .next t) :
    Keeps s0 t := by
  revert e
  unfold execStandbyPowerLoss
  try dsimp only
  repeat' first
    | with_reducible refine Keeps.of_next ?_
    | with_reducible assumption
    | with_reducible refine State.standbyLoss_keeps ?_

theorem State.plcaJoin_keeps {s0 s : State} (h : Keeps s0 s) :
    Keeps s0 (State.plcaJoin s) := by
  unfold State.plcaJoin
  try dsimp only
  repeat' first
    | with_reducible assumption
    | with_reducible refine State.setObj_keeps ?_ _ _

theorem State.sampleStraps_keeps {s0 s : State} (h : Keeps s0 s) (a1) :
    Keeps s0 (State.sampleStraps s a1) := by
  unfold State.sampleStraps
  try dsimp only
  repeat' first
    | with_reducible assumption
    | with_reducible refine State.setObj_keeps ?_ _ _
    | with_reducible refine Keeps.ite (fun _ => ?_) (fun _ => ?_)

theorem State.runImage_keeps {s0 s : State} (h : Keeps s0 s) (a1) :
    Keeps s0 (State.runImage s a1) := by
  unfold State.runImage
  try dsimp only
  repeat' first
    | with_reducible assumption
    | with_reducible refine State.setObj_keeps ?_ _ _

theorem State.bootFrom_keeps {s0 s : State} (h : Keeps s0 s) (a1 a2) :
    Keeps s0 (State.bootFrom s a1 a2) := by
  unfold State.bootFrom
  try dsimp only
  repeat' first
    | with_reducible assumption
    | with_reducible refine State.event_keeps ?_ _ _ _ _ _
    | with_reducible refine State.setObj_keeps ?_ _ _
    | with_reducible refine State.runImage_keeps ?_ _
    | with_reducible refine Keeps.ite (fun _ => ?_) (fun _ => ?_)

theorem State.boot_keeps {s0 s : State} (h : Keeps s0 s) (a1 a2) :
    Keeps s0 (State.boot s a1 a2) := by
  unfold State.boot
  try dsimp only
  repeat' first
    | with_reducible assumption
    | with_reducible refine State.setObj_keeps ?_ _ _
    | with_reducible refine State.runImage_keeps ?_ _
    | with_reducible refine State.event_keeps ?_ _ _ _ _ _
    | with_reducible refine State.bootFrom_keeps ?_ _ _
    | simp only [Keeps.upd_iff]
    | with_reducible refine Keeps.ite (fun _ => ?_) (fun _ => ?_)

theorem State.standbyUp_keeps {s0 s : State} (h : Keeps s0 s) (a1 a2 a3) :
    Keeps s0 (State.standbyUp s a1 a2 a3) := by
  unfold State.standbyUp
  try dsimp only
  repeat' first
    | with_reducible assumption
    | with_reducible refine State.standbyLoss_keeps ?_
    | with_reducible refine State.plcaJoin_keeps ?_
    | with_reducible refine State.boot_keeps ?_ _ _
    | with_reducible refine State.mainReset_keeps ?_
    | with_reducible refine State.sampleStraps_keeps ?_ _
    | with_reducible refine State.event_keeps ?_ _ _ _ _ _
    | simp only [Keeps.upd_iff]
    | with_reducible refine Keeps.ite (fun _ => ?_) (fun _ => ?_)

theorem execStandbyPowerUp_keeps {s0 s t : State} (h : Keeps s0 s) {a0 a1 a2} (e : (execStandbyPowerUp a0 a1 a2 s) = .next t) :
    Keeps s0 t := by
  revert e
  unfold execStandbyPowerUp
  try dsimp only
  repeat' first
    | with_reducible refine Keeps.of_next ?_
    | with_reducible assumption
    | with_reducible refine State.standbyUp_keeps ?_ _ _ _

theorem State.clearResults_keeps {s0 s : State} (h : Keeps s0 s) :
    Keeps s0 (State.clearResults s) := by
  unfold State.clearResults
  try dsimp only
  repeat' first
    | with_reducible assumption
    | simp only [Keeps.upd_iff]

theorem State.powerUp_keeps {s0 s : State} (h : Keeps s0 s) :
    Keeps s0 (State.powerUp s) := by
  unfold State.powerUp
  try dsimp only
  repeat' first
    | with_reducible assumption
    | with_reducible refine State.setModule_keeps ?_ _
    | with_reducible refine State.clearResults_keeps ?_
    | with_reducible refine State.mainReset_keeps ?_
    | with_reducible refine Keeps.ite (fun _ => ?_) (fun _ => ?_)

theorem execPowerUp_keeps {s0 s t : State} (h : Keeps s0 s)  (e : (execPowerUp s) = .next t) :
    Keeps s0 t := by
  revert e
  unfold execPowerUp
  try dsimp only
  repeat' first
    | with_reducible refine Keeps.of_next ?_
    | with_reducible assumption
    | with_reducible refine State.powerUp_keeps ?_

theorem State.toLodge_keeps {s0 s : State} (h : Keeps s0 s) (a1) :
    Keeps s0 (State.toLodge s a1) := by
  unfold State.toLodge
  try dsimp only
  repeat' first
    | with_reducible assumption
    | with_reducible refine State.event_keeps ?_ _ _ _ _ _
    | with_reducible refine State.setModule_keeps ?_ _
    | with_reducible refine State.setObj_keeps ?_ _ _

theorem State.railFault_keeps {s0 s : State} (h : Keeps s0 s) (a1) :
    Keeps s0 (State.railFault s a1) := by
  unfold State.railFault
  try dsimp only
  repeat' first
    | with_reducible assumption
    | with_reducible refine State.event_keeps ?_ _ _ _ _ _
    | with_reducible refine State.toStandby_keeps ?_
    | with_reducible refine State.toLodge_keeps ?_ _
    | simp only [Keeps.upd_iff]
    | with_reducible refine Keeps.ite (fun _ => ?_) (fun _ => ?_)

theorem execRailFault_keeps {s0 s t : State} (h : Keeps s0 s) {a0} (e : (execRailFault a0 s) = .next t) :
    Keeps s0 t := by
  revert e
  unfold execRailFault
  try dsimp only
  repeat' first
    | with_reducible refine Keeps.of_next ?_
    | with_reducible assumption
    | with_reducible refine State.railFault_keeps ?_ _

theorem State.startGate_keeps {s0 s : State} (h : Keeps s0 s) :
    Keeps s0 (State.startGate s) := by
  unfold State.startGate
  try dsimp only
  repeat' first
    | with_reducible assumption
    | with_reducible refine State.setObj_keeps ?_ _ _
    | with_reducible refine State.setModule_keeps ?_ _
    | with_reducible refine Keeps.ite (fun _ => ?_) (fun _ => ?_)

theorem execStartGate_keeps {s0 s t : State} (h : Keeps s0 s)  (e : (execStartGate s) = .next t) :
    Keeps s0 t := by
  revert e
  unfold execStartGate
  try dsimp only
  repeat' first
    | with_reducible refine Keeps.of_next ?_
    | with_reducible assumption
    | with_reducible refine State.startGate_keeps ?_

theorem State.report_keeps {s0 s : State} (h : Keeps s0 s) (a1) :
    Keeps s0 (State.report s a1) := by
  unfold State.report
  try dsimp only
  repeat' first
    | with_reducible assumption
    | with_reducible refine State.setObj_keeps ?_ _ _
    | with_reducible refine Keeps.foldl _ (fun _ _ _ => ?_) ?_

theorem State.markFailed_keeps {s0 s : State} (h : Keeps s0 s) (a1) :
    Keeps s0 (State.markFailed s a1) := by
  unfold State.markFailed
  try dsimp only
  repeat' first
    | with_reducible assumption
    | with_reducible refine State.setObj_keeps ?_ _ _
    | simp only [Keeps.upd_iff]
    | with_reducible refine Keeps.ite (fun _ => ?_) (fun _ => ?_)
    | with_reducible refine Keeps.foldl _ (fun _ _ _ => ?_) ?_

theorem State.zeroMemory_keeps {s0 s : State} (h : Keeps s0 s) : Keeps s0 (State.zeroMemory s) :=
  ⟨h.1, fun _ => rfl, fun _ => rfl, h.4⟩

theorem State.placeCores_keeps {s0 s : State} (h : Keeps s0 s) :
    Keeps s0 (State.placeCores s) := by
  unfold State.placeCores
  try dsimp only
  repeat' first
    | with_reducible assumption
    | with_reducible refine State.renumber_keeps ?_
    | with_reducible refine State.setObj_keeps ?_ _ _
    | with_reducible refine Keeps.ite (fun _ => ?_) (fun _ => ?_)
    | with_reducible refine Keeps.foldl _ (fun _ _ _ => ?_) ?_

theorem State.toReady_keeps {s0 s : State} (h : Keeps s0 s) :
    Keeps s0 (State.toReady s) := by
  unfold State.toReady
  try dsimp only
  repeat' first
    | with_reducible assumption
    | with_reducible refine State.setModule_keeps ?_ _
    | with_reducible refine State.placeCores_keeps ?_
    | with_reducible refine State.setObj_keeps ?_ _ _
    | with_reducible refine State.turnLink_keeps ?_ _ _
    | with_reducible refine State.event_keeps ?_ _ _ _ _ _
    | with_reducible refine Keeps.ite (fun _ => ?_) (fun _ => ?_)
    | with_reducible refine Keeps.foldl _ (fun _ _ _ => ?_) ?_

theorem State.selftestDone_keeps {s0 s : State} (h : Keeps s0 s) (a1) :
    Keeps s0 (State.selftestDone s a1) := by
  unfold State.selftestDone
  try dsimp only
  repeat' first
    | with_reducible assumption
    | with_reducible refine State.markFailed_keeps ?_ _
    | with_reducible refine State.zeroMemory_keeps ?_
    | with_reducible refine State.report_keeps ?_ _
    | with_reducible refine State.toLodge_keeps ?_ _
    | with_reducible refine State.toReady_keeps ?_
    | with_reducible refine State.setObj_keeps ?_ _ _
    | simp only [Keeps.upd_iff]
    | with_reducible refine Keeps.ite (fun _ => ?_) (fun _ => ?_)

theorem execSelftestDone_keeps {s0 s t : State} (h : Keeps s0 s) {a0} (e : (execSelftestDone a0 s) = .next t) :
    Keeps s0 t := by
  revert e
  unfold execSelftestDone
  try dsimp only
  repeat' first
    | with_reducible refine Keeps.of_next ?_
    | with_reducible assumption
    | with_reducible refine State.selftestDone_keeps ?_ _

theorem State.acceptReduced_keeps {s0 s : State} (h : Keeps s0 s) (a1) :
    Keeps s0 (State.acceptReduced s a1).1 := by
  unfold State.acceptReduced
  try dsimp only
  repeat' first
    | with_reducible assumption
    | with_reducible refine State.toReady_keeps ?_
    | with_reducible refine State.setObj_keeps ?_ _ _
    | with_reducible refine Keeps.iteFst (fun _ => ?_) (fun _ => ?_)

theorem execAcceptReduced_keeps {s0 s t : State} (h : Keeps s0 s) {a0} (e : (execAcceptReduced a0 s) = .next t) :
    Keeps s0 t := by
  revert e
  unfold execAcceptReduced
  try dsimp only
  repeat' first
    | with_reducible refine Keeps.of_next ?_
    | with_reducible assumption
    | with_reducible refine written_keeps ?_
    | with_reducible refine State.acceptReduced_keeps ?_ _

theorem State.retest_keeps {s0 s : State} (h : Keeps s0 s) (a1) :
    Keeps s0 (State.retest s a1).1 := by
  unfold State.retest
  try dsimp only
  repeat' first
    | with_reducible assumption
    | with_reducible refine State.setModule_keeps ?_ _
    | with_reducible refine State.clearResults_keeps ?_
    | with_reducible refine State.mainReset_keeps ?_
    | with_reducible refine Keeps.iteFst (fun _ => ?_) (fun _ => ?_)

theorem execRetest_keeps {s0 s t : State} (h : Keeps s0 s) {a0} (e : (execRetest a0 s) = .next t) :
    Keeps s0 t := by
  revert e
  unfold execRetest
  try dsimp only
  repeat' first
    | with_reducible refine Keeps.of_next ?_
    | with_reducible assumption
    | with_reducible refine written_keeps ?_
    | with_reducible refine State.retest_keeps ?_ _

theorem State.setCap_keeps {s0 s : State} (h : Keeps s0 s) (a1 a2) :
    Keeps s0 (State.setCap s a1 a2) := by
  unfold State.setCap
  try dsimp only
  repeat' first
    | with_reducible assumption
    | with_reducible refine State.setObj_keeps ?_ _ _
    | with_reducible refine State.cnt48_keeps ?_ _ _
    | with_reducible refine Keeps.ite (fun _ => ?_) (fun _ => ?_)

theorem State.governor_keeps {s0 s : State} (h : Keeps s0 s) (a1) :
    Keeps s0 (State.governor s a1) := by
  unfold State.governor
  try dsimp only
  repeat' first
    | with_reducible assumption
    | with_reducible refine State.setObj_keeps ?_ _ _
    | with_reducible refine State.event_keeps ?_ _ _ _ _ _
    | with_reducible refine State.setCap_keeps ?_ _ _
    | simp only [Keeps.upd_iff]
    | with_reducible refine Keeps.ite (fun _ => ?_) (fun _ => ?_)

theorem execGovernorLoop_keeps {s0 s t : State} (h : Keeps s0 s) {a0} (e : (execGovernorLoop a0 s) = .next t) :
    Keeps s0 t := by
  revert e
  unfold execGovernorLoop
  try dsimp only
  repeat' first
    | with_reducible refine Keeps.of_next ?_
    | with_reducible assumption
    | with_reducible refine State.governor_keeps ?_ _

theorem State.clamp_keeps {s0 s : State} (h : Keeps s0 s) (a1) :
    Keeps s0 (State.clamp s a1) := by
  unfold State.clamp
  try dsimp only
  repeat' first
    | with_reducible assumption
    | with_reducible refine State.cnt16_keeps ?_ _ _
    | with_reducible refine State.setObj_keeps ?_ _ _
    | with_reducible refine Keeps.ite (fun _ => ?_) (fun _ => ?_)

theorem execPowerClamp_keeps {s0 s t : State} (h : Keeps s0 s) {a0} (e : (execPowerClamp a0 s) = .next t) :
    Keeps s0 t := by
  revert e
  unfold execPowerClamp
  try dsimp only
  repeat' first
    | with_reducible refine Keeps.of_next ?_
    | with_reducible assumption
    | with_reducible refine State.clamp_keeps ?_ _

theorem State.thermal_keeps {s0 s : State} (h : Keeps s0 s) (a1 a2) :
    Keeps s0 (State.thermal s a1 a2) := by
  unfold State.thermal
  try dsimp only
  repeat' first
    | with_reducible assumption
    | with_reducible refine State.setObj_keeps ?_ _ _
    | with_reducible refine State.event_keeps ?_ _ _ _ _ _
    | with_reducible refine State.setCap_keeps ?_ _ _
    | simp only [Keeps.upd_iff]
    | with_reducible refine Keeps.ite (fun _ => ?_) (fun _ => ?_)
    | with_reducible refine Keeps.foldl _ (fun _ _ _ => ?_) ?_
    | split

theorem execThermalLoop_keeps {s0 s t : State} (h : Keeps s0 s) {a0 a1} (e : (execThermalLoop a0 a1 s) = .next t) :
    Keeps s0 t := by
  revert e
  unfold execThermalLoop
  try dsimp only
  repeat' first
    | with_reducible refine Keeps.of_next ?_
    | with_reducible assumption
    | with_reducible refine State.thermal_keeps ?_ _ _

theorem State.beginSnapshot_keeps {s0 s : State} (h : Keeps s0 s) :
    Keeps s0 (State.beginSnapshot s) := by
  unfold State.beginSnapshot
  try dsimp only
  repeat' first
    | with_reducible assumption
    | with_reducible refine State.setObj_keeps ?_ _ _
    | simp only [Keeps.upd_iff]

theorem State.hold_keeps {s0 s : State} (h : Keeps s0 s) (a1 a2 a3 a4) :
    Keeps s0 (State.hold s a1 a2 a3 a4) := by
  unfold State.hold
  try dsimp only
  repeat' first
    | with_reducible assumption
    | with_reducible refine State.commitFail_keeps ?_ _
    | with_reducible refine State.setModule_keeps ?_ _
    | with_reducible refine State.event_keeps ?_ _ _ _ _ _
    | with_reducible refine State.raise_keeps ?_ _ _
    | with_reducible refine State.setObj_keeps ?_ _ _
    | with_reducible refine State.beginSnapshot_keeps ?_
    | simp only [Keeps.upd_iff]
    | with_reducible refine Keeps.ite (fun _ => ?_) (fun _ => ?_)
    | with_reducible refine Keeps.foldl _ (fun _ _ _ => ?_) ?_

theorem State.warn_keeps {s0 s : State} (h : Keeps s0 s) (a1 a2 a3 a4) :
    Keeps s0 (State.warn s a1 a2 a3 a4) := by
  unfold State.warn
  try dsimp only
  repeat' first
    | with_reducible assumption
    | with_reducible refine State.hold_keeps ?_ _ _ _ _
    | with_reducible refine State.event_keeps ?_ _ _ _ _ _
    | with_reducible refine State.toStandby_keeps ?_
    | with_reducible refine Keeps.ite (fun _ => ?_) (fun _ => ?_)

theorem State.sagWarning_keeps {s0 s : State} (h : Keeps s0 s) (a1) :
    Keeps s0 (State.sagWarning s a1) := by
  unfold State.sagWarning
  try dsimp only
  repeat' first
    | with_reducible assumption
    | with_reducible refine State.cnt16_keeps ?_ _ _
    | with_reducible refine State.setObj_keeps ?_ _ _
    | with_reducible refine State.warn_keeps ?_ _ _ _ _
    | simp only [Keeps.upd_iff]
    | with_reducible refine Keeps.ite (fun _ => ?_) (fun _ => ?_)

theorem execSagWarning_keeps {s0 s t : State} (h : Keeps s0 s) {a0} (e : (execSagWarning a0 s) = .next t) :
    Keeps s0 t := by
  revert e
  unfold execSagWarning
  try dsimp only
  repeat' first
    | with_reducible refine Keeps.of_next ?_
    | with_reducible assumption
    | with_reducible refine State.sagWarning_keeps ?_ _

theorem State.snapshotWritten_keeps {s0 s : State} (h : Keeps s0 s) :
    Keeps s0 (State.snapshotWritten s) := by
  unfold State.snapshotWritten
  try dsimp only
  repeat' first
    | with_reducible assumption
    | with_reducible refine State.setObj_keeps ?_ _ _
    | with_reducible refine State.event_keeps ?_ _ _ _ _ _
    | simp only [Keeps.upd_iff]
    | with_reducible refine Keeps.ite (fun _ => ?_) (fun _ => ?_)

theorem execSnapshotWritten_keeps {s0 s t : State} (h : Keeps s0 s)  (e : (execSnapshotWritten s) = .next t) :
    Keeps s0 t := by
  revert e
  unfold execSnapshotWritten
  try dsimp only
  repeat' first
    | with_reducible refine Keeps.of_next ?_
    | with_reducible assumption
    | with_reducible refine State.snapshotWritten_keeps ?_

theorem State.advanceLeases_keeps {s0 s : State} (h : Keeps s0 s) (a1) :
    Keeps s0 (State.advanceLeases s a1) := by
  unfold State.advanceLeases
  try dsimp only
  repeat' first
    | with_reducible assumption
    | simp only [Keeps.upd_iff]

theorem State.sagRecovered_keeps {s0 s : State} (h : Keeps s0 s) :
    Keeps s0 (State.sagRecovered s) := by
  unfold State.sagRecovered
  try dsimp only
  repeat' first
    | with_reducible assumption
    | with_reducible refine State.event_keeps ?_ _ _ _ _ _
    | with_reducible refine State.setModule_keeps ?_ _
    | with_reducible refine State.advanceLeases_keeps ?_ _
    | simp only [Keeps.upd_iff]
    | with_reducible refine Keeps.ite (fun _ => ?_) (fun _ => ?_)

theorem execSagRecovered_keeps {s0 s t : State} (h : Keeps s0 s)  (e : (execSagRecovered s) = .next t) :
    Keeps s0 t := by
  revert e
  unfold execSagRecovered
  try dsimp only
  repeat' first
    | with_reducible refine Keeps.of_next ?_
    | with_reducible assumption
    | with_reducible refine State.sagRecovered_keeps ?_

theorem State.sagReset_keeps {s0 s : State} (h : Keeps s0 s) :
    Keeps s0 (State.sagReset s) := by
  unfold State.sagReset
  try dsimp only
  repeat' first
    | with_reducible assumption
    | with_reducible refine State.cnt16_keeps ?_ _ _
    | with_reducible refine State.toStandby_keeps ?_
    | with_reducible refine State.event_keeps ?_ _ _ _ _ _
    | simp only [Keeps.upd_iff]

theorem execSagReset_keeps {s0 s t : State} (h : Keeps s0 s)  (e : (execSagReset s) = .next t) :
    Keeps s0 t := by
  revert e
  unfold execSagReset
  try dsimp only
  repeat' first
    | with_reducible refine Keeps.of_next ?_
    | with_reducible assumption
    | with_reducible refine State.sagReset_keeps ?_

theorem State.thermalTrip_keeps {s0 s : State} (h : Keeps s0 s) (a1 a2) :
    Keeps s0 (State.thermalTrip s a1 a2) := by
  unfold State.thermalTrip
  try dsimp only
  repeat' first
    | with_reducible assumption
    | with_reducible refine State.warn_keeps ?_ _ _ _ _
    | with_reducible refine State.setObj_keeps ?_ _ _
    | simp only [Keeps.upd_iff]
    | with_reducible refine Keeps.ite (fun _ => ?_) (fun _ => ?_)

theorem execThermalTrip_keeps {s0 s t : State} (h : Keeps s0 s) {a0 a1} (e : (execThermalTrip a0 a1 s) = .next t) :
    Keeps s0 t := by
  revert e
  unfold execThermalTrip
  try dsimp only
  repeat' first
    | with_reducible refine Keeps.of_next ?_
    | with_reducible assumption
    | with_reducible refine State.thermalTrip_keeps ?_ _ _

theorem State.tripReset_keeps {s0 s : State} (h : Keeps s0 s) :
    Keeps s0 (State.tripReset s) := by
  unfold State.tripReset
  try dsimp only
  repeat' first
    | with_reducible assumption
    | with_reducible refine State.toStandby_keeps ?_
    | with_reducible refine Keeps.ite (fun _ => ?_) (fun _ => ?_)
    | split

theorem execThermalTripReset_keeps {s0 s t : State} (h : Keeps s0 s)  (e : (execThermalTripReset s) = .next t) :
    Keeps s0 t := by
  revert e
  unfold execThermalTripReset
  try dsimp only
  repeat' first
    | with_reducible refine Keeps.of_next ?_
    | with_reducible assumption
    | with_reducible refine State.tripReset_keeps ?_

theorem State.powerCtrl_keeps {s0 s : State} (h : Keeps s0 s) (a1) :
    Keeps s0 (State.powerCtrl s a1).1 := by
  unfold State.powerCtrl
  try dsimp only
  repeat' first
    | with_reducible assumption
    | with_reducible refine State.setObj_keeps ?_ _ _
    | with_reducible refine State.toStandby_keeps ?_
    | simp only [Keeps.upd_iff]
    | with_reducible refine Keeps.iteFst (fun _ => ?_) (fun _ => ?_)

theorem execPowerCtrl_keeps {s0 s t : State} (h : Keeps s0 s) {a0} (e : (execPowerCtrl a0 s) = .next t) :
    Keeps s0 t := by
  revert e
  unfold execPowerCtrl
  try dsimp only
  repeat' first
    | with_reducible refine Keeps.of_next ?_
    | with_reducible assumption
    | with_reducible refine written_keeps ?_
    | with_reducible refine State.powerCtrl_keeps ?_ _

theorem State.setTime_keeps {s0 s : State} (h : Keeps s0 s) (a1) :
    Keeps s0 (State.setTime s a1).1 := by
  unfold State.setTime
  try dsimp only
  repeat' first
    | with_reducible assumption
    | simp only [Keeps.upd_iff]
    | with_reducible refine Keeps.iteFst (fun _ => ?_) (fun _ => ?_)

theorem execTimeNs_keeps {s0 s t : State} (h : Keeps s0 s) {a0} (e : (execTimeNs a0 s) = .next t) :
    Keeps s0 t := by
  revert e
  unfold execTimeNs
  try dsimp only
  repeat' first
    | with_reducible refine Keeps.of_next ?_
    | with_reducible assumption
    | with_reducible refine written_keeps ?_
    | with_reducible refine State.setTime_keeps ?_ _

theorem State.setWarnV_keeps {s0 s : State} (h : Keeps s0 s) (a1) :
    Keeps s0 (State.setWarnV s a1).1 := by
  unfold State.setWarnV
  try dsimp only
  repeat' first
    | with_reducible assumption
    | with_reducible refine State.setObj_keeps ?_ _ _
    | with_reducible refine Keeps.iteFst (fun _ => ?_) (fun _ => ?_)

theorem execSagWarnV_keeps {s0 s t : State} (h : Keeps s0 s) {a0} (e : (execSagWarnV a0 s) = .next t) :
    Keeps s0 t := by
  revert e
  unfold execSagWarnV
  try dsimp only
  repeat' first
    | with_reducible refine Keeps.of_next ?_
    | with_reducible assumption
    | with_reducible refine written_keeps ?_
    | with_reducible refine State.setWarnV_keeps ?_ _

theorem State.setResetV_keeps {s0 s : State} (h : Keeps s0 s) (a1) :
    Keeps s0 (State.setResetV s a1).1 := by
  unfold State.setResetV
  try dsimp only
  repeat' first
    | with_reducible assumption
    | with_reducible refine State.setObj_keeps ?_ _ _
    | with_reducible refine Keeps.iteFst (fun _ => ?_) (fun _ => ?_)

theorem execSagResetV_keeps {s0 s t : State} (h : Keeps s0 s) {a0} (e : (execSagResetV a0 s) = .next t) :
    Keeps s0 t := by
  revert e
  unfold execSagResetV
  try dsimp only
  repeat' first
    | with_reducible refine Keeps.of_next ?_
    | with_reducible assumption
    | with_reducible refine written_keeps ?_
    | with_reducible refine State.setResetV_keeps ?_ _

theorem State.snapClear_keeps {s0 s : State} (h : Keeps s0 s) (a1) :
    Keeps s0 (State.snapClear s a1) := by
  unfold State.snapClear
  try dsimp only
  repeat' first
    | with_reducible assumption
    | with_reducible refine State.setObj_keeps ?_ _ _
    | simp only [Keeps.upd_iff]
    | with_reducible refine Keeps.ite (fun _ => ?_) (fun _ => ?_)

theorem execSnapClear_keeps {s0 s t : State} (h : Keeps s0 s) {a0} (e : (execSnapClear a0 s) = .next t) :
    Keeps s0 t := by
  revert e
  unfold execSnapClear
  try dsimp only
  repeat' first
    | with_reducible refine Keeps.of_next ?_
    | with_reducible assumption
    | with_reducible refine State.snapClear_keeps ?_ _

theorem State.clearLog_keeps {s0 s : State} (h : Keeps s0 s) :
    Keeps s0 (State.clearLog s) := by
  unfold State.clearLog
  try dsimp only
  repeat' first
    | with_reducible assumption
    | with_reducible refine State.setObj_keeps ?_ _ _
    | simp only [Keeps.upd_iff]

theorem State.clearAt_keeps {s0 s : State} (h : Keeps s0 s) (a1 a2) :
    Keeps s0 (State.clearAt s a1 a2) := by
  unfold State.clearAt
  try dsimp only
  repeat' first
    | with_reducible assumption
    | with_reducible refine State.clearLog_keeps ?_
    | with_reducible refine State.clearSubs_keeps ?_ _ _ _
    | with_reducible refine Keeps.ite (fun _ => ?_) (fun _ => ?_)
    | split

theorem execClear_keeps {s0 s t : State} (h : Keeps s0 s) {a0 a1} (e : (execClear a0 a1 s) = .next t) :
    Keeps s0 t := by
  revert e
  unfold execClear
  try dsimp only
  repeat' first
    | with_reducible refine Keeps.of_next ?_
    | with_reducible assumption
    | with_reducible refine State.clearAt_keeps ?_ _ _

theorem State.setKey_keeps {s0 s : State} (h : Keeps s0 s) (a1 a2) :
    Keeps s0 (State.setKey s a1 a2) := by
  unfold State.setKey
  try dsimp only
  repeat' first
    | with_reducible assumption
    | with_reducible refine State.setObj_keeps ?_ _ _
    | simp only [Keeps.upd_iff]

theorem State.setImage_keeps {s0 s : State} (h : Keeps s0 s) (a1 a2) :
    Keeps s0 (State.setImage s a1 a2) := by
  unfold State.setImage
  try dsimp only
  repeat' first
    | with_reducible assumption
    | simp only [Keeps.upd_iff]

theorem State.imageSeg_keeps {s0 s : State} (h : Keeps s0 s) (a1 a2) :
    Keeps s0 (State.imageSeg s a1 a2).1 := by
  unfold State.imageSeg
  try dsimp only
  repeat' first
    | with_reducible assumption
    | with_reducible refine State.setObj_keeps ?_ _ _
    | with_reducible refine State.setImage_keeps ?_ _ _
    | simp only [Keeps.upd_iff]
    | with_reducible refine Keeps.iteFst (fun _ => ?_) (fun _ => ?_)

theorem State.imageVerified_keeps {s0 s : State} (h : Keeps s0 s) :
    Keeps s0 (State.imageVerified s) := by
  unfold State.imageVerified
  try dsimp only
  repeat' first
    | with_reducible assumption
    | with_reducible refine State.setObj_keeps ?_ _ _
    | with_reducible refine State.event_keeps ?_ _ _ _ _ _
    | with_reducible refine Keeps.ite (fun _ => ?_) (fun _ => ?_)

theorem execImageVerified_keeps {s0 s t : State} (h : Keeps s0 s)  (e : (execImageVerified s) = .next t) :
    Keeps s0 t := by
  revert e
  unfold execImageVerified
  try dsimp only
  repeat' first
    | with_reducible refine Keeps.of_next ?_
    | with_reducible assumption
    | with_reducible refine State.imageVerified_keeps ?_

theorem State.activate_keeps {s0 s : State} (h : Keeps s0 s) (a1) :
    Keeps s0 (State.activate s a1).1 := by
  unfold State.activate
  try dsimp only
  repeat' first
    | with_reducible assumption
    | simp only [Keeps.upd_iff]
    | with_reducible refine Keeps.iteFst (fun _ => ?_) (fun _ => ?_)

theorem execActivate_keeps {s0 s t : State} (h : Keeps s0 s) {a0} (e : (execActivate a0 s) = .next t) :
    Keeps s0 t := by
  revert e
  unfold execActivate
  try dsimp only
  repeat' first
    | with_reducible refine Keeps.of_next ?_
    | with_reducible assumption
    | with_reducible refine written_keeps ?_
    | with_reducible refine State.activate_keeps ?_ _

theorem State.writeSimple_keeps {s0 s : State} (h : Keeps s0 s) (a1 a2 a3) :
    Keeps s0 (State.writeSimple s a1 a2 a3).1 := by
  unfold State.writeSimple
  try dsimp only
  repeat' first
    | with_reducible assumption
    | with_reducible refine State.setObj_keeps ?_ _ _
    | with_reducible refine Keeps.iteFst (fun _ => ?_) (fun _ => ?_)
    | split

theorem State.writeIf_keeps {s0 s : State} (h : Keeps s0 s) (a1 a2 a3) :
    Keeps s0 (State.writeIf s a1 a2 a3).1 := by
  unfold State.writeIf
  try dsimp only
  repeat' first
    | with_reducible assumption
    | with_reducible refine State.setObj_keeps ?_ _ _
    | with_reducible refine Keeps.iteFst (fun _ => ?_) (fun _ => ?_)

theorem State.writeCoreObj_keeps {s0 s : State} (h : Keeps s0 s) (a1 a2 a3 a4 a5) :
    Keeps s0 (State.writeCoreObj s a1 a2 a3 a4 a5).1 := by
  unfold State.writeCoreObj
  try dsimp only
  repeat' first
    | with_reducible assumption
    | with_reducible refine State.fenceWrite_keeps ?_ _ _ _
    | with_reducible refine State.unfence_keeps ?_ _ _ _
    | with_reducible refine State.setObj_keeps ?_ _ _
    | with_reducible refine Keeps.iteFst (fun _ => ?_) (fun _ => ?_)

theorem State.writeQueueObj_keeps {s0 s : State} (h : Keeps s0 s) (a1 a2 a3 a4) :
    Keeps s0 (State.writeQueueObj s a1 a2 a3 a4).1 := by
  unfold State.writeQueueObj
  try dsimp only
  repeat' first
    | with_reducible assumption
    | with_reducible refine State.bindQueue_keeps ?_ _ _ _
    | with_reducible refine State.setObj_keeps ?_ _ _
    | with_reducible refine State.setLimit_keeps ?_ _ _ _
    | with_reducible refine State.writeIf_keeps ?_ _ _ _
    | with_reducible refine Keeps.iteFst (fun _ => ?_) (fun _ => ?_)

theorem State.writeClusterObj_keeps {s0 s : State} (h : Keeps s0 s) (a1 a2 a3 a4) :
    Keeps s0 (State.writeClusterObj s a1 a2 a3 a4).1 := by
  unfold State.writeClusterObj
  try dsimp only
  repeat' first
    | with_reducible assumption
    | with_reducible refine State.setCache_keeps ?_ _ _
    | with_reducible refine State.writeIf_keeps ?_ _ _ _
    | with_reducible refine State.writeQueueObj_keeps ?_ _ _ _ _
    | with_reducible refine State.enableCl_keeps ?_ _ _
    | with_reducible refine State.forceCl_keeps ?_ _ _
    | with_reducible refine State.quiesce_keeps ?_ _ _
    | with_reducible refine State.releaseCl_keeps ?_ _ _
    | with_reducible refine State.resetCl_keeps ?_ _ _
    | with_reducible refine State.powerCl_keeps ?_ _ _
    | with_reducible refine Keeps.iteFst (fun _ => ?_) (fun _ => ?_)

theorem State.writeSeedObj_keeps {s0 s : State} (h : Keeps s0 s) (a1 a2 a3) :
    Keeps s0 (State.writeSeedObj s a1 a2 a3).1 := by
  unfold State.writeSeedObj
  try dsimp only
  repeat' first
    | with_reducible assumption
    | with_reducible refine State.setStep_keeps ?_ _ _
    | with_reducible refine State.advanceStep_keeps ?_ _
    | with_reducible refine State.writeKey_keeps ?_ _ _ _
    | with_reducible refine State.writeIf_keeps ?_ _ _ _
    | with_reducible refine State.writeSimple_keeps ?_ _ _ _
    | simp only [Keeps.upd_iff]
    | with_reducible refine Keeps.ite (fun _ => ?_) (fun _ => ?_)
    | with_reducible refine Keeps.iteFst (fun _ => ?_) (fun _ => ?_)

theorem State.writeCtxObj_keeps {s0 s : State} (h : Keeps s0 s) (a1 a2 a3) :
    Keeps s0 (State.writeCtxObj s a1 a2 a3).1 := by
  unfold State.writeCtxObj
  try dsimp only
  repeat' first
    | with_reducible assumption
    | with_reducible refine State.preempt_keeps ?_ _ _
    | with_reducible refine State.restore_keeps ?_ _ _
    | with_reducible refine State.writeIf_keeps ?_ _ _ _
    | with_reducible refine State.setObj_keeps ?_ _ _
    | with_reducible refine State.setConsumed_keeps ?_ _ _
    | with_reducible refine State.forceSwitch_keeps ?_ _ _
    | with_reducible refine Keeps.iteFst (fun _ => ?_) (fun _ => ?_)

theorem State.writeCommitObj_keeps {s0 s : State} (h : Keeps s0 s) (a1 a2 a3) :
    Keeps s0 (State.writeCommitObj s a1 a2 a3).1 := by
  unfold State.writeCommitObj
  try dsimp only
  repeat' first
    | with_reducible assumption
    | with_reducible refine State.beginCommit_keeps ?_ _ _
    | with_reducible refine State.restoreCommit_keeps ?_ _ _
    | with_reducible refine State.setObj_keeps ?_ _ _
    | with_reducible refine Keeps.iteFst (fun _ => ?_) (fun _ => ?_)

theorem State.writeSlotObj_keeps {s0 s : State} (h : Keeps s0 s) (a1 a2 a3) :
    Keeps s0 (State.writeSlotObj s a1 a2 a3).1 := by
  unfold State.writeSlotObj
  try dsimp only
  repeat' first
    | with_reducible assumption
    | with_reducible refine State.setWindow_keeps ?_ _ _
    | with_reducible refine State.setEntryPa_keeps ?_ _ _ _
    | with_reducible refine State.setArchive_keeps ?_ _ _ _
    | with_reducible refine Keeps.iteFst (fun _ => ?_) (fun _ => ?_)

theorem State.writeChairObj_keeps {s0 s : State} (h : Keeps s0 s) (a1 a2) :
    Keeps s0 (State.writeChairObj s a1 a2).1 := by
  unfold State.writeChairObj
  try dsimp only
  repeat' first
    | with_reducible assumption
    | with_reducible refine State.enableChair_keeps ?_ _
    | with_reducible refine State.forceChair_keeps ?_ _
    | with_reducible refine State.ringLimit_keeps ?_ _
    | with_reducible refine State.setChairObj_keeps ?_ _ _
    | with_reducible refine Keeps.iteFst (fun _ => ?_) (fun _ => ?_)

theorem State.writeLinkObj_keeps {s0 s : State} (h : Keeps s0 s) (a1 a2 a3) :
    Keeps s0 (State.writeLinkObj s a1 a2 a3).1 := by
  unfold State.writeLinkObj
  try dsimp only
  repeat' first
    | with_reducible assumption
    | with_reducible refine State.enableLink_keeps ?_ _ _
    | with_reducible refine State.forceLink_keeps ?_ _ _
    | with_reducible refine State.setPmd_keeps ?_ _ _
    | with_reducible refine Keeps.iteFst (fun _ => ?_) (fun _ => ?_)

theorem State.writeEngineObj_keeps {s0 s : State} (h : Keeps s0 s) (a1 a2 a3) :
    Keeps s0 (State.writeEngineObj s a1 a2 a3).1 := by
  unfold State.writeEngineObj
  try dsimp only
  repeat' first
    | with_reducible assumption
    | with_reducible refine State.enableEngine_keeps ?_ _ _
    | with_reducible refine State.forceEngine_keeps ?_ _ _
    | with_reducible refine State.resetEngine_keeps ?_ _ _
    | with_reducible refine Keeps.iteFst (fun _ => ?_) (fun _ => ?_)

theorem State.writeCommObj_keeps {s0 s : State} (h : Keeps s0 s) (a1 a2 a3) :
    Keeps s0 (State.writeCommObj s a1 a2 a3).1 := by
  unfold State.writeCommObj
  try dsimp only
  repeat' first
    | with_reducible assumption
    | with_reducible refine State.plcaJoin_keeps ?_
    | with_reducible refine State.setObj_keeps ?_ _ _
    | with_reducible refine State.writeIf_keeps ?_ _ _ _
    | with_reducible refine State.activate_keeps ?_ _
    | with_reducible refine State.setKey_keeps ?_ _ _
    | with_reducible refine State.writeSimple_keeps ?_ _ _ _
    | simp only [Keeps.upd_iff]
    | with_reducible refine Keeps.iteFst (fun _ => ?_) (fun _ => ?_)

theorem State.writePowerObj_keeps {s0 s : State} (h : Keeps s0 s) (a1 a2 a3) :
    Keeps s0 (State.writePowerObj s a1 a2 a3).1 := by
  unfold State.writePowerObj
  try dsimp only
  repeat' first
    | with_reducible assumption
    | with_reducible refine State.powerCtrl_keeps ?_ _
    | with_reducible refine State.setWarnV_keeps ?_ _
    | with_reducible refine State.setResetV_keeps ?_ _
    | with_reducible refine State.setObj_keeps ?_ _ _
    | with_reducible refine State.setTime_keeps ?_ _
    | with_reducible refine State.snapClear_keeps ?_ _
    | with_reducible refine State.retirePa_keeps ?_ _
    | with_reducible refine State.acceptReduced_keeps ?_ _
    | with_reducible refine State.retest_keeps ?_ _
    | with_reducible refine State.writeSimple_keeps ?_ _ _ _
    | with_reducible refine Keeps.iteFst (fun _ => ?_) (fun _ => ?_)

theorem State.writeModeObj_keeps {s0 s : State} (h : Keeps s0 s) (a1 a2 a3) :
    Keeps s0 (State.writeModeObj s a1 a2 a3).1 := by
  unfold State.writeModeObj
  try dsimp only
  repeat' first
    | with_reducible assumption
    | with_reducible refine State.enableGlide_keeps ?_ _
    | with_reducible refine State.forceGlide_keeps ?_ _
    | with_reducible refine State.writeSimple_keeps ?_ _ _ _
    | with_reducible refine State.setMode_keeps ?_ _ _
    | with_reducible refine State.forceMode_keeps ?_ _ _
    | with_reducible refine Keeps.iteFst (fun _ => ?_) (fun _ => ?_)

theorem State.writeObj_keeps {s0 s : State} (h : Keeps s0 s) (a1 a2 a3) :
    Keeps s0 (State.writeObj s a1 a2 a3).1 := by
  unfold State.writeObj
  try dsimp only
  repeat' first
    | with_reducible assumption
    | with_reducible refine State.clearAt_keeps ?_ _ _
    | with_reducible refine State.writeCoreObj_keeps ?_ _ _ _ _ _
    | with_reducible refine State.writeClusterObj_keeps ?_ _ _ _ _
    | with_reducible refine State.writeCommObj_keeps ?_ _ _ _
    | with_reducible refine State.writeModeObj_keeps ?_ _ _ _
    | with_reducible refine State.writeSeedObj_keeps ?_ _ _ _
    | with_reducible refine State.writePowerObj_keeps ?_ _ _ _
    | with_reducible refine State.setModuleId_keeps ?_ _
    | with_reducible refine State.heard_keeps ?_ _
    | with_reducible refine State.setObj_keeps ?_ _ _
    | with_reducible refine State.writeLinkObj_keeps ?_ _ _ _
    | with_reducible refine State.setStatePa_keeps ?_ _
    | with_reducible refine State.writeEngineObj_keeps ?_ _ _ _
    | with_reducible refine State.setVideoLimit_keeps ?_ _ _
    | with_reducible refine State.setVideoRing_keeps ?_ _ _ _
    | with_reducible refine State.writeCtxObj_keeps ?_ _ _ _
    | with_reducible refine State.writeCommitObj_keeps ?_ _ _ _
    | with_reducible refine State.writeChairObj_keeps ?_ _ _
    | with_reducible refine State.writeSlotObj_keeps ?_ _ _ _
    | with_reducible refine State.writeSimple_keeps ?_ _ _ _
    | with_reducible refine Keeps.iteFst (fun _ => ?_) (fun _ => ?_)

theorem State.writeBytes_keeps {s0 s : State} (h : Keeps s0 s) (a1 a2 a3) :
    Keeps s0 (State.writeBytes s a1 a2 a3).1 := by
  unfold State.writeBytes
  try dsimp only
  repeat' first
    | with_reducible assumption
    | with_reducible refine State.writeObj_keeps ?_ _ _ _
    | simp only [Keeps.upd_iff]
    | with_reducible refine Keeps.iteFst (fun _ => ?_) (fun _ => ?_)
    | split

theorem State.respond_keeps {s0 s : State} (h : Keeps s0 s) (a1 a2) :
    Keeps s0 (State.respond s a1 a2) := by
  unfold State.respond
  try dsimp only
  repeat' first
    | with_reducible assumption
    | with_reducible refine State.cnt48_keeps ?_ _ _
    | with_reducible refine State.emit_keeps ?_ _
    | with_reducible refine State.modFn_keeps ?_ _ _
    | split

theorem State.writeSeg_keeps {s0 s : State} (h : Keeps s0 s) (a1 a2 a3) :
    Keeps s0 (State.writeSeg s a1 a2 a3).1 := by
  unfold State.writeSeg
  try dsimp only
  repeat' first
    | with_reducible assumption
    | with_reducible refine State.imageSeg_keeps ?_ _ _
    | with_reducible refine State.writeBytes_keeps ?_ _ _ _
    | with_reducible refine Keeps.iteFst (fun _ => ?_) (fun _ => ?_)

theorem State.execute_keeps {s0 s : State} (h : Keeps s0 s) (a1 a2 a3 a4 a5) :
    Keeps s0 (State.execute s a1 a2 a3 a4 a5).1 := by
  unfold State.execute
  try dsimp only
  repeat' first
    | with_reducible assumption
    | with_reducible refine State.tick_keeps ?_
    | with_reducible refine State.writeBytes_keeps ?_ _ _ _
    | with_reducible refine State.writeSeg_keeps ?_ _ _ _
    | with_reducible refine Keeps.iteFst (fun _ => ?_) (fun _ => ?_)

theorem State.answer_keeps {s0 s : State} (h : Keeps s0 s) (a1) :
    Keeps s0 (State.answer s a1).1 := by
  unfold State.answer
  try dsimp only
  repeat' first
    | with_reducible assumption
    | with_reducible refine State.event_keeps ?_ _ _ _ _ _
    | with_reducible refine State.cnt16_keeps ?_ _ _
    | with_reducible refine State.setObj_keeps ?_ _ _
    | with_reducible refine State.execute_keeps ?_ _ _ _ _ _
    | simp only [Keeps.upd_iff]
    | with_reducible refine Keeps.ite (fun _ => ?_) (fun _ => ?_)
    | with_reducible refine Keeps.iteFst (fun _ => ?_) (fun _ => ?_)

theorem State.keepAnswer_keeps {s0 s : State} (h : Keeps s0 s) (a1) :
    Keeps s0 (State.keepAnswer s a1) := by
  unfold State.keepAnswer
  try dsimp only
  repeat' first
    | with_reducible assumption
    | simp only [Keeps.upd_iff]

theorem State.serve_keeps {s0 s : State} (h : Keeps s0 s) (a1) :
    Keeps s0 (State.serve s a1) := by
  unfold State.serve
  try dsimp only
  repeat' first
    | with_reducible assumption
    | with_reducible refine State.respond_keeps ?_ _ _
    | with_reducible refine State.keepAnswer_keeps ?_ _
    | with_reducible refine State.answer_keeps ?_ _
    | split

theorem State.arriveMsg_keeps {s0 s : State} (h : Keeps s0 s) (a1) :
    Keeps s0 (State.arriveMsg s a1) := by
  unfold State.arriveMsg
  try dsimp only
  repeat' first
    | with_reducible assumption
    | with_reducible refine State.cnt48_keeps ?_ _ _
    | with_reducible refine State.serve_keeps ?_ _
    | with_reducible refine State.respond_keeps ?_ _ _
    | with_reducible refine State.cnt16_keeps ?_ _ _
    | simp only [Keeps.upd_iff]
    | with_reducible refine Keeps.ite (fun _ => ?_) (fun _ => ?_)

theorem State.patrolBusy_keeps {s0 s : State} (h : Keeps s0 s) :
    Keeps s0 (State.patrolBusy s) := by
  unfold State.patrolBusy
  try dsimp only
  repeat' first
    | with_reducible assumption
    | simp only [Keeps.upd_iff]
    | with_reducible refine Keeps.ite (fun _ => ?_) (fun _ => ?_)

theorem State.patrolDone_keeps {s0 s : State} (h : Keeps s0 s) :
    Keeps s0 (State.patrolDone s) := by
  unfold State.patrolDone
  try dsimp only
  repeat' first
    | with_reducible assumption
    | with_reducible refine State.serve_keeps ?_ _
    | simp only [Keeps.upd_iff]
    | with_reducible refine Keeps.ite (fun _ => ?_) (fun _ => ?_)
    | split

theorem State.serveAll_keeps {s0 s : State} (h : Keeps s0 s) (l) : Keeps s0 (s.serveAll l) := by
  induction l generalizing s with
  | nil => exact h
  | cons m r ih =>
    unfold State.serveAll
    refine Keeps.ite (fun _ => ?_) (fun _ => ih (State.serve_keeps h _))
    simp only [Keeps.upd_iff]
    exact h

theorem State.ring_keeps {s0 s : State} (h : Keeps s0 s) (a1 a2) :
    Keeps s0 (State.ring s a1 a2) := by
  unfold State.ring
  try dsimp only
  repeat' first
    | with_reducible assumption
    | with_reducible refine State.cnt16_keeps ?_ _ _
    | with_reducible refine State.arriveMsg_keeps ?_ _
    | with_reducible refine State.modFn_keeps ?_ _ _
    | with_reducible refine Keeps.ite (fun _ => ?_) (fun _ => ?_)

theorem execDoorbell_keeps {s0 s t : State} (h : Keeps s0 s) {a0 a1} (e : (execDoorbell a0 a1 s) = .next t) :
    Keeps s0 t := by
  revert e
  unfold execDoorbell
  try dsimp only
  repeat' first
    | with_reducible refine Keeps.of_next ?_
    | with_reducible assumption
    | with_reducible refine State.through_keeps ?_ _ _ _ _ ?_
    | with_reducible refine State.ring_keeps ?_ _ _

theorem State.clearLen_keeps {s0 s : State} (h : Keeps s0 s) (a1) :
    Keeps s0 (State.clearLen s a1) := by
  unfold State.clearLen
  try dsimp only
  repeat' first
    | with_reducible assumption
    | with_reducible refine State.modFn_keeps ?_ _ _
    | with_reducible refine Keeps.ite (fun _ => ?_) (fun _ => ?_)

theorem State.readLen_keeps {s0 s : State} (h : Keeps s0 s) (a1) :
    Keeps s0 (State.readLen s a1) := by
  unfold State.readLen
  try dsimp only
  repeat' first
    | with_reducible assumption
    | with_reducible refine State.clearLen_keeps ?_ _
    | with_reducible refine State.emit_keeps ?_ _

theorem execRespLen_keeps {s0 s t : State} (h : Keeps s0 s) {a0} (e : (execRespLen a0 s) = .next t) :
    Keeps s0 t := by
  revert e
  unfold execRespLen
  try dsimp only
  repeat' first
    | with_reducible refine Keeps.of_next ?_
    | with_reducible assumption
    | with_reducible refine State.through_keeps ?_ _ _ _ _ ?_
    | with_reducible refine State.readLen_keeps ?_ _

theorem State.request_keeps {s0 s : State} (h : Keeps s0 s) (a1) :
    Keeps s0 (State.request s a1) := by
  unfold State.request
  try dsimp only
  repeat' first
    | with_reducible assumption
    | with_reducible refine State.arriveMsg_keeps ?_ _
    | with_reducible refine State.through_keeps ?_ _ _ _ _ ?_
    | with_reducible refine State.cnt16_keeps ?_ _ _
    | with_reducible refine State.modFn_keeps ?_ _ _
    | with_reducible refine Keeps.ite (fun _ => ?_) (fun _ => ?_)
    | split

theorem State.keyWrite_keeps {s0 s : State} (h : Keeps s0 s) (a1 a2 a3) :
    Keeps s0 (State.keyWrite s a1 a2 a3) := by
  unfold State.keyWrite
  try dsimp only
  repeat' first
    | with_reducible assumption
    | with_reducible refine State.setKey_keeps ?_ _ _
    | with_reducible refine State.request_keeps ?_ _
    | with_reducible refine Keeps.ite (fun _ => ?_) (fun _ => ?_)

theorem execOperatorKey_keeps {s0 s t : State} (h : Keeps s0 s) {a0} (e : (execOperatorKey a0 s) = .next t) :
    Keeps s0 t := by
  revert e
  unfold execOperatorKey
  try dsimp only
  repeat' first
    | with_reducible refine Keeps.of_next ?_
    | with_reducible assumption
    | with_reducible refine State.keyWrite_keeps ?_ _ _ _

theorem execServiceKey_keeps {s0 s t : State} (h : Keeps s0 s) {a0} (e : (execServiceKey a0 s) = .next t) :
    Keeps s0 t := by
  revert e
  unfold execServiceKey
  try dsimp only
  repeat' first
    | with_reducible refine Keeps.of_next ?_
    | with_reducible assumption
    | with_reducible refine State.keyWrite_keeps ?_ _ _ _

theorem execRead_keeps {s0 s t : State} (h : Keeps s0 s) {a0} (e : (execRead a0 s) = .next t) :
    Keeps s0 t := by
  revert e
  unfold execRead
  try dsimp only
  repeat' first
    | with_reducible refine Keeps.of_next ?_
    | with_reducible assumption
    | with_reducible refine State.request_keeps ?_ _

theorem execWrite_keeps {s0 s t : State} (h : Keeps s0 s) {a0} (e : (execWrite a0 s) = .next t) :
    Keeps s0 t := by
  revert e
  unfold execWrite
  try dsimp only
  repeat' first
    | with_reducible refine Keeps.of_next ?_
    | with_reducible assumption
    | with_reducible refine State.request_keeps ?_ _

theorem execReadSeg_keeps {s0 s t : State} (h : Keeps s0 s) {a0} (e : (execReadSeg a0 s) = .next t) :
    Keeps s0 t := by
  revert e
  unfold execReadSeg
  try dsimp only
  repeat' first
    | with_reducible refine Keeps.of_next ?_
    | with_reducible assumption
    | with_reducible refine State.request_keeps ?_ _

theorem execWriteSeg_keeps {s0 s t : State} (h : Keeps s0 s) {a0} (e : (execWriteSeg a0 s) = .next t) :
    Keeps s0 t := by
  revert e
  unfold execWriteSeg
  try dsimp only
  repeat' first
    | with_reducible refine Keeps.of_next ?_
    | with_reducible assumption
    | with_reducible refine State.request_keeps ?_ _

theorem execDiscover_keeps {s0 s t : State} (h : Keeps s0 s) {a0} (e : (execDiscover a0 s) = .next t) :
    Keeps s0 t := by
  revert e
  unfold execDiscover
  try dsimp only
  repeat' first
    | with_reducible refine Keeps.of_next ?_
    | with_reducible assumption
    | with_reducible refine State.request_keeps ?_ _

theorem execList_keeps {s0 s t : State} (h : Keeps s0 s) {a0} (e : (execList a0 s) = .next t) :
    Keeps s0 t := by
  revert e
  unfold execList
  try dsimp only
  repeat' first
    | with_reducible refine Keeps.of_next ?_
    | with_reducible assumption
    | with_reducible refine State.request_keeps ?_ _

theorem State.logHeld'_keeps {s0 s : State} (h : Keeps s0 s) :
    Keeps s0 (State.logHeld' s) := by
  unfold State.logHeld'
  try dsimp only
  repeat' first
    | with_reducible assumption
    | with_reducible refine State.addEvent_keeps ?_ _ _ _ _ _ _
    | with_reducible refine State.event_keeps ?_ _ _ _ _ _
    | simp only [Keeps.upd_iff]
    | with_reducible refine Keeps.ite (fun _ => ?_) (fun _ => ?_)
    | with_reducible refine Keeps.foldl _ (fun _ _ _ => ?_) ?_

theorem State.restartDone_keeps {s0 s : State} (h : Keeps s0 s) :
    Keeps s0 (State.restartDone s) := by
  unfold State.restartDone
  try dsimp only
  repeat' first
    | with_reducible assumption
    | with_reducible refine State.logHeld'_keeps ?_
    | with_reducible refine State.bootFrom_keeps ?_ _ _
    | with_reducible refine State.event_keeps ?_ _ _ _ _ _
    | with_reducible refine State.serveAll_keeps ?_ _
    | simp only [Keeps.upd_iff]
    | with_reducible refine Keeps.ite (fun _ => ?_) (fun _ => ?_)

theorem execPatrolRestartDone_keeps {s0 s t : State} (h : Keeps s0 s)  (e : (execPatrolRestartDone s) = .next t) :
    Keeps s0 t := by
  revert e
  unfold execPatrolRestartDone
  try dsimp only
  repeat' first
    | with_reducible refine Keeps.of_next ?_
    | with_reducible assumption
    | with_reducible refine State.restartDone_keeps ?_

theorem State.noBeacon_keeps {s0 s : State} (h : Keeps s0 s) :
    Keeps s0 (State.noBeacon s) := by
  unfold State.noBeacon
  try dsimp only
  repeat' first
    | with_reducible assumption
    | with_reducible refine State.event_keeps ?_ _ _ _ _ _
    | with_reducible refine State.setObj_keeps ?_ _ _
    | with_reducible refine Keeps.ite (fun _ => ?_) (fun _ => ?_)

theorem execPlcaNoBeacon_keeps {s0 s t : State} (h : Keeps s0 s)  (e : (execPlcaNoBeacon s) = .next t) :
    Keeps s0 t := by
  revert e
  unfold execPlcaNoBeacon
  try dsimp only
  repeat' first
    | with_reducible refine Keeps.of_next ?_
    | with_reducible assumption
    | with_reducible refine State.noBeacon_keeps ?_

theorem State.beacon_keeps {s0 s : State} (h : Keeps s0 s) :
    Keeps s0 (State.beacon s) := by
  unfold State.beacon
  try dsimp only
  repeat' first
    | with_reducible assumption
    | with_reducible refine State.setObj_keeps ?_ _ _
    | with_reducible refine Keeps.ite (fun _ => ?_) (fun _ => ?_)

theorem execPlcaBeacon_keeps {s0 s t : State} (h : Keeps s0 s)  (e : (execPlcaBeacon s) = .next t) :
    Keeps s0 t := by
  revert e
  unfold execPlcaBeacon
  try dsimp only
  repeat' first
    | with_reducible refine Keeps.of_next ?_
    | with_reducible assumption
    | with_reducible refine State.beacon_keeps ?_

theorem State.sendBeacon_keeps {s0 s : State} (h : Keeps s0 s) :
    Keeps s0 (State.sendBeacon s) := by
  unfold State.sendBeacon
  try dsimp only
  repeat' first
    | with_reducible assumption
    | with_reducible refine State.emit_keeps ?_ _
    | with_reducible refine Keeps.ite (fun _ => ?_) (fun _ => ?_)

theorem State.portFrame_keeps {s0 s : State} (h : Keeps s0 s) (a1) :
    Keeps s0 (State.portFrame s a1) := by
  unfold State.portFrame
  try dsimp only
  repeat' first
    | with_reducible assumption
    | with_reducible refine State.emit_keeps ?_ _
    | with_reducible refine State.arriveMsg_keeps ?_ _
    | with_reducible refine Keeps.ite (fun _ => ?_) (fun _ => ?_)
    | split

theorem State.refuseHost_keeps {s0 s : State} (h : Keeps s0 s) (a1) :
    Keeps s0 (State.refuseHost s a1) := by
  unfold State.refuseHost
  try dsimp only
  repeat' first
    | with_reducible assumption
    | with_reducible refine State.emit_keeps ?_ _
    | with_reducible refine State.cnt16_keeps ?_ _ _

theorem State.readWindow_keeps {s0 s : State} (h : Keeps s0 s) (a1 a2 a3) :
    Keeps s0 (State.readWindow s a1 a2 a3) := by
  unfold State.readWindow
  try dsimp only
  repeat' first
    | with_reducible assumption
    | with_reducible refine State.tick_keeps ?_
    | with_reducible refine State.emit_keeps ?_ _
    | with_reducible refine State.clearLen_keeps ?_ _
    | with_reducible refine Keeps.ite (fun _ => ?_) (fun _ => ?_)

theorem State.writeWindow_keeps {s0 s : State} (h : Keeps s0 s) (a1 a2 a3) :
    Keeps s0 (State.writeWindow s a1 a2 a3) := by
  unfold State.writeWindow
  try dsimp only
  repeat' first
    | with_reducible assumption
    | with_reducible refine State.modFn_keeps ?_ _ _

theorem State.sendPending_keeps {s0 s : State} (h : Keeps s0 s) (a1) :
    Keeps s0 (State.sendPending s a1) := by
  unfold State.sendPending
  try dsimp only
  repeat' first
    | with_reducible assumption
    | with_reducible refine State.modFn_keeps ?_ _ _
    | with_reducible refine State.emit_keeps ?_ _
    | with_reducible refine Keeps.ite (fun _ => ?_) (fun _ => ?_)
    | with_reducible refine Keeps.foldl _ (fun _ _ _ => ?_) ?_

theorem State.maskVector_keeps {s0 s : State} (h : Keeps s0 s) (a1 a2 a3) :
    Keeps s0 (State.maskVector s a1 a2 a3) := by
  unfold State.maskVector
  try dsimp only
  repeat' first
    | with_reducible assumption
    | with_reducible refine State.sendPending_keeps ?_ _
    | with_reducible refine State.modFn_keeps ?_ _ _

theorem State.bar0_keeps {s0 s : State} (h : Keeps s0 s) (a1 a2) :
    Keeps s0 (State.bar0 s a1 a2) := by
  unfold State.bar0
  try dsimp only
  repeat' first
    | with_reducible assumption
    | with_reducible refine State.emit_keeps ?_ _
    | with_reducible refine State.cnt16_keeps ?_ _ _
    | with_reducible refine State.tick_keeps ?_
    | with_reducible refine State.readWindow_keeps ?_ _ _ _
    | with_reducible refine State.writeWindow_keeps ?_ _ _ _
    | with_reducible refine State.maskVector_keeps ?_ _ _ _
    | with_reducible refine State.modFn_keeps ?_ _ _
    | simp only [Keeps.upd_iff]
    | with_reducible refine Keeps.ite (fun _ => ?_) (fun _ => ?_)
    | with_reducible refine Keeps.getD (fun _ => ?_) ?_
    | with_reducible refine Keeps.of_map (fun _ => ?_)
    | split

theorem State.bar2_keeps {s0 s : State} (h : Keeps s0 s) (a1 a2 a3) :
    Keeps s0 (State.bar2 s a1 a2 a3) := by
  unfold State.bar2
  try dsimp only
  repeat' first
    | with_reducible assumption
    | with_reducible refine State.bar0_keeps ?_ _ _
    | with_reducible refine State.refuseHost_keeps ?_ _
    | with_reducible refine State.emit_keeps ?_ _
    | with_reducible refine State.countRd_keeps ?_ _ _
    | with_reducible refine State.cnt16_keeps ?_ _ _
    | with_reducible refine writePieces_keeps ?_ _ _
    | with_reducible refine Keeps.foldl _ (fun _ _ _ => ?_) ?_
    | split

theorem execBar2Access_keeps {s0 s t : State} (h : Keeps s0 s) {a0 a1 a2} (e : (execBar2Access a0 a1 a2 s) = .next t) :
    Keeps s0 t := by
  revert e
  unfold execBar2Access
  try dsimp only
  repeat' first
    | with_reducible refine Keeps.of_next ?_
    | with_reducible assumption
    | with_reducible refine State.through_keeps ?_ _ _ _ _ ?_
    | with_reducible refine State.bar2_keeps ?_ _ _ _

theorem State.hostAtomic_keeps {s0 s : State} (h : Keeps s0 s) (a1 a2 a3 a4 a5 a6) :
    Keeps s0 (State.hostAtomic s a1 a2 a3 a4 a5 a6) := by
  unfold State.hostAtomic
  try dsimp only
  repeat' first
    | with_reducible assumption
    | with_reducible refine State.emit_keeps ?_ _
    | with_reducible refine State.cnt16_keeps ?_ _ _
    | with_reducible refine State.refuseHost_keeps ?_ _
    | with_reducible refine State.atomic_keeps ?_ _ _ _
    | with_reducible refine Keeps.ite (fun _ => ?_) (fun _ => ?_)
    | split

theorem execAtomicOp_keeps {s0 s t : State} (h : Keeps s0 s) {a0 a1 a2 a3 a4} (e : (execAtomicOp a0 a1 a2 a3 a4 s) = .next t) :
    Keeps s0 t := by
  revert e
  unfold execAtomicOp
  try dsimp only
  repeat' first
    | with_reducible refine Keeps.of_next ?_
    | with_reducible assumption
    | with_reducible refine State.through_keeps ?_ _ _ _ _ ?_
    | with_reducible refine State.hostAtomic_keeps ?_ _ _ _ _ _ _

theorem State.hostSlot_keeps {s0 s : State} (h : Keeps s0 s) (a1) :
    Keeps s0 (State.hostSlot s a1) := by
  unfold State.hostSlot
  try dsimp only
  repeat' first
    | with_reducible assumption
    | with_reducible refine State.takeBlock_keeps ?_ _ _ _
    | split

theorem State.hostWrite_keeps {s0 s : State} (h : Keeps s0 s) (a1 a2) :
    Keeps s0 (State.hostWrite s a1 a2) := by
  unfold State.hostWrite
  try dsimp only
  repeat' first
    | with_reducible assumption
    | with_reducible refine State.cnt16_keeps ?_ _ _
    | with_reducible refine State.hostSlot_keeps ?_ _
    | simp only [Keeps.upd_iff]
    | with_reducible refine Keeps.ite (fun _ => ?_) (fun _ => ?_)
    | with_reducible refine Keeps.foldl _ (fun _ _ _ => ?_) ?_

theorem execHostWindowWrite_keeps {s0 s t : State} (h : Keeps s0 s) {a0 a1} (e : (execHostWindowWrite a0 a1 s) = .next t) :
    Keeps s0 t := by
  revert e
  unfold execHostWindowWrite
  try dsimp only
  repeat' first
    | with_reducible refine Keeps.of_next ?_
    | with_reducible assumption
    | with_reducible refine State.through_keeps ?_ _ _ _ _ ?_
    | with_reducible refine State.hostWrite_keeps ?_ _ _

theorem State.setHostTarget_keeps {s0 s : State} (h : Keeps s0 s) (a1 a2) :
    Keeps s0 (State.setHostTarget s a1 a2) := by
  unfold State.setHostTarget
  try dsimp only
  repeat' first
    | with_reducible assumption
    | simp only [Keeps.upd_iff]

theorem execHostTarget_keeps {s0 s t : State} (h : Keeps s0 s) {a0 a1} (e : (execHostTarget a0 a1 s) = .next t) :
    Keeps s0 t := by
  revert e
  unfold execHostTarget
  try dsimp only
  repeat' first
    | with_reducible refine Keeps.of_next ?_
    | with_reducible assumption
    | with_reducible refine State.through_keeps ?_ _ _ _ _ ?_
    | with_reducible refine State.setHostTarget_keeps ?_ _ _

theorem State.clearCause_keeps {s0 s : State} (h : Keeps s0 s) (a1 a2 a3) :
    Keeps s0 (State.clearCause s a1 a2 a3) := by
  unfold State.clearCause
  try dsimp only
  repeat' first
    | with_reducible assumption
    | with_reducible refine State.modFn_keeps ?_ _ _

theorem execIntCause_keeps {s0 s t : State} (h : Keeps s0 s) {a0 a1 a2} (e : (execIntCause a0 a1 a2 s) = .next t) :
    Keeps s0 t := by
  revert e
  unfold execIntCause
  try dsimp only
  repeat' first
    | with_reducible refine Keeps.of_next ?_
    | with_reducible assumption
    | with_reducible refine State.through_keeps ?_ _ _ _ _ ?_
    | with_reducible refine State.clearCause_keeps ?_ _ _ _

theorem State.configure_keeps {s0 s : State} (h : Keeps s0 s) (a1 a2) :
    Keeps s0 (State.configure s a1 a2) := by
  unfold State.configure
  try dsimp only
  repeat' first
    | with_reducible assumption
    | with_reducible refine State.setObj_keeps ?_ _ _
    | with_reducible refine State.modFn_keeps ?_ _ _
    | with_reducible refine State.tick_keeps ?_
    | with_reducible refine State.emit_keeps ?_ _
    | with_reducible refine State.sendPending_keeps ?_ _
    | with_reducible refine State.through_keeps ?_ _ _ _ _ ?_
    | with_reducible refine State.maskVector_keeps ?_ _ _ _
    | with_reducible refine Keeps.ite (fun _ => ?_) (fun _ => ?_)
    | with_reducible refine Keeps.foldl _ (fun _ _ _ => ?_) ?_
    | split

theorem execConfigurationRequest_keeps {s0 s t : State} (h : Keeps s0 s) {a0 a1} (e : (execConfigurationRequest a0 a1 s) = .next t) :
    Keeps s0 t := by
  revert e
  unfold execConfigurationRequest
  try dsimp only
  repeat' first
    | with_reducible refine Keeps.of_next ?_
    | with_reducible assumption
    | with_reducible refine State.configure_keeps ?_ _ _

theorem State.pcieTrained_keeps {s0 s : State} (h : Keeps s0 s) (a1 a2 a3) :
    Keeps s0 (State.pcieTrained s a1 a2 a3) := by
  unfold State.pcieTrained
  try dsimp only
  repeat' first
    | with_reducible assumption
    | with_reducible refine State.setObj_keeps ?_ _ _
    | with_reducible refine State.hostOut_keeps ?_ _ _ _
    | with_reducible refine State.sendPending_keeps ?_ _
    | simp only [Keeps.upd_iff]
    | with_reducible refine Keeps.ite (fun _ => ?_) (fun _ => ?_)
    | with_reducible refine Keeps.foldl _ (fun _ _ _ => ?_) ?_

theorem execPcieLinkTrainingDone_keeps {s0 s t : State} (h : Keeps s0 s) {a0 a1 a2} (e : (execPcieLinkTrainingDone a0 a1 a2 s) = .next t) :
    Keeps s0 t := by
  revert e
  unfold execPcieLinkTrainingDone
  try dsimp only
  repeat' first
    | with_reducible refine Keeps.of_next ?_
    | with_reducible assumption
    | with_reducible refine State.pcieTrained_keeps ?_ _ _ _

theorem State.dropMirror_keeps {s0 s : State} (h : Keeps s0 s) :
    Keeps s0 (State.dropMirror s) := by
  unfold State.dropMirror
  try dsimp only
  repeat' first
    | with_reducible assumption
    | with_reducible refine State.setObj_keeps ?_ _ _
    | with_reducible refine State.cnt16_keeps ?_ _ _
    | simp only [Keeps.upd_iff]
    | with_reducible refine Keeps.ite (fun _ => ?_) (fun _ => ?_)
    | with_reducible refine Keeps.foldl _ (fun _ _ _ => ?_) ?_

theorem State.resetFn_keeps {s0 s : State} (h : Keeps s0 s) (a1) :
    Keeps s0 (State.resetFn s a1) := by
  unfold State.resetFn
  try dsimp only
  repeat' first
    | with_reducible assumption
    | with_reducible refine State.modFn_keeps ?_ _ _
    | simp only [Keeps.upd_iff]

theorem State.resetFns_keeps {s0 s : State} (h : Keeps s0 s) :
    Keeps s0 (State.resetFns s) := by
  unfold State.resetFns
  try dsimp only
  repeat' first
    | with_reducible assumption
    | with_reducible refine State.dropMirror_keeps ?_
    | with_reducible refine State.resetFn_keeps ?_ _
    | with_reducible refine State.setObj_keeps ?_ _ _
    | simp only [Keeps.upd_iff]
    | with_reducible refine Keeps.foldl _ (fun _ _ _ => ?_) ?_

theorem State.perst_keeps {s0 s : State} (h : Keeps s0 s) :
    Keeps s0 (State.perst s) := by
  unfold State.perst
  try dsimp only
  repeat' first
    | with_reducible assumption
    | with_reducible refine State.resetFns_keeps ?_
    | with_reducible refine State.setObj_keeps ?_ _ _

theorem execPerst_keeps {s0 s t : State} (h : Keeps s0 s)  (e : (execPerst s) = .next t) :
    Keeps s0 t := by
  revert e
  unfold execPerst
  try dsimp only
  repeat' first
    | with_reducible refine Keeps.of_next ?_
    | with_reducible assumption
    | with_reducible refine State.perst_keeps ?_

theorem execFlrPf_keeps {s0 s t : State} (h : Keeps s0 s)  (e : (execFlrPf s) = .next t) :
    Keeps s0 t := by
  revert e
  unfold execFlrPf
  try dsimp only
  repeat' first
    | with_reducible refine Keeps.of_next ?_
    | with_reducible assumption
    | with_reducible refine State.resetFns_keeps ?_

theorem execFlrVf_keeps {s0 s t : State} (h : Keeps s0 s) {a0} (e : (execFlrVf a0 s) = .next t) :
    Keeps s0 t := by
  revert e
  unfold execFlrVf
  try dsimp only
  repeat' first
    | with_reducible refine Keeps.of_next ?_
    | with_reducible assumption
    | with_reducible refine State.resetFn_keeps ?_ _

theorem State.modPrs_keeps {s0 s : State} (h : Keeps s0 s) (a1 a2) :
    Keeps s0 (State.modPrs s a1 a2) := by
  unfold State.modPrs
  try dsimp only
  repeat' first
    | with_reducible assumption
    | with_reducible refine State.setObj_keeps ?_ _ _

theorem execModprs_keeps {s0 s t : State} (h : Keeps s0 s) {a0 a1} (e : (execModprs a0 a1 s) = .next t) :
    Keeps s0 t := by
  revert e
  unfold execModprs
  try dsimp only
  repeat' first
    | with_reducible refine Keeps.of_next ?_
    | with_reducible assumption
    | with_reducible refine State.modPrs_keeps ?_ _ _

theorem execNop_keeps {s0 s t : State} (h : Keeps s0 s) {a0 a1} (e : (execNop a0 a1 s) = .next t) :
    Keeps s0 t := by
  revert e
  unfold execNop
  try dsimp only
  repeat' first
    | with_reducible refine Keeps.of_next ?_
    | with_reducible assumption
    | with_reducible refine State.vecRow_keeps ?_ _ _ _ _

theorem execFadd_keeps {s0 s t : State} (h : Keeps s0 s) {a0 a1} (e : (execFadd a0 a1 s) = .next t) :
    Keeps s0 t := by
  revert e
  unfold execFadd
  try dsimp only
  repeat' first
    | with_reducible refine Keeps.of_next ?_
    | with_reducible assumption
    | with_reducible refine State.vecRow_keeps ?_ _ _ _ _

theorem execFsub_keeps {s0 s t : State} (h : Keeps s0 s) {a0 a1} (e : (execFsub a0 a1 s) = .next t) :
    Keeps s0 t := by
  revert e
  unfold execFsub
  try dsimp only
  repeat' first
    | with_reducible refine Keeps.of_next ?_
    | with_reducible assumption
    | with_reducible refine State.vecRow_keeps ?_ _ _ _ _

theorem execFmul_keeps {s0 s t : State} (h : Keeps s0 s) {a0 a1} (e : (execFmul a0 a1 s) = .next t) :
    Keeps s0 t := by
  revert e
  unfold execFmul
  try dsimp only
  repeat' first
    | with_reducible refine Keeps.of_next ?_
    | with_reducible assumption
    | with_reducible refine State.vecRow_keeps ?_ _ _ _ _

theorem execFma_keeps {s0 s t : State} (h : Keeps s0 s) {a0 a1} (e : (execFma a0 a1 s) = .next t) :
    Keeps s0 t := by
  revert e
  unfold execFma
  try dsimp only
  repeat' first
    | with_reducible refine Keeps.of_next ?_
    | with_reducible assumption
    | with_reducible refine State.vecRow_keeps ?_ _ _ _ _

theorem execFnma_keeps {s0 s t : State} (h : Keeps s0 s) {a0 a1} (e : (execFnma a0 a1 s) = .next t) :
    Keeps s0 t := by
  revert e
  unfold execFnma
  try dsimp only
  repeat' first
    | with_reducible refine Keeps.of_next ?_
    | with_reducible assumption
    | with_reducible refine State.vecRow_keeps ?_ _ _ _ _

theorem execFmax_keeps {s0 s t : State} (h : Keeps s0 s) {a0 a1} (e : (execFmax a0 a1 s) = .next t) :
    Keeps s0 t := by
  revert e
  unfold execFmax
  try dsimp only
  repeat' first
    | with_reducible refine Keeps.of_next ?_
    | with_reducible assumption
    | with_reducible refine State.vecRow_keeps ?_ _ _ _ _

theorem execFmin_keeps {s0 s t : State} (h : Keeps s0 s) {a0 a1} (e : (execFmin a0 a1 s) = .next t) :
    Keeps s0 t := by
  revert e
  unfold execFmin
  try dsimp only
  repeat' first
    | with_reducible refine Keeps.of_next ?_
    | with_reducible assumption
    | with_reducible refine State.vecRow_keeps ?_ _ _ _ _

theorem execFmaxn_keeps {s0 s t : State} (h : Keeps s0 s) {a0 a1} (e : (execFmaxn a0 a1 s) = .next t) :
    Keeps s0 t := by
  revert e
  unfold execFmaxn
  try dsimp only
  repeat' first
    | with_reducible refine Keeps.of_next ?_
    | with_reducible assumption
    | with_reducible refine State.vecRow_keeps ?_ _ _ _ _

theorem execFminn_keeps {s0 s t : State} (h : Keeps s0 s) {a0 a1} (e : (execFminn a0 a1 s) = .next t) :
    Keeps s0 t := by
  revert e
  unfold execFminn
  try dsimp only
  repeat' first
    | with_reducible refine Keeps.of_next ?_
    | with_reducible assumption
    | with_reducible refine State.vecRow_keeps ?_ _ _ _ _

theorem execFabs_keeps {s0 s t : State} (h : Keeps s0 s) {a0 a1} (e : (execFabs a0 a1 s) = .next t) :
    Keeps s0 t := by
  revert e
  unfold execFabs
  try dsimp only
  repeat' first
    | with_reducible refine Keeps.of_next ?_
    | with_reducible assumption
    | with_reducible refine State.vecRow_keeps ?_ _ _ _ _

theorem execFneg_keeps {s0 s t : State} (h : Keeps s0 s) {a0 a1} (e : (execFneg a0 a1 s) = .next t) :
    Keeps s0 t := by
  revert e
  unfold execFneg
  try dsimp only
  repeat' first
    | with_reducible refine Keeps.of_next ?_
    | with_reducible assumption
    | with_reducible refine State.vecRow_keeps ?_ _ _ _ _

theorem execFrint_keeps {s0 s t : State} (h : Keeps s0 s) {a0 a1} (e : (execFrint a0 a1 s) = .next t) :
    Keeps s0 t := by
  revert e
  unfold execFrint
  try dsimp only
  repeat' first
    | with_reducible refine Keeps.of_next ?_
    | with_reducible assumption
    | with_reducible refine State.vecRow_keeps ?_ _ _ _ _

theorem execFfloor_keeps {s0 s t : State} (h : Keeps s0 s) {a0 a1} (e : (execFfloor a0 a1 s) = .next t) :
    Keeps s0 t := by
  revert e
  unfold execFfloor
  try dsimp only
  repeat' first
    | with_reducible refine Keeps.of_next ?_
    | with_reducible assumption
    | with_reducible refine State.vecRow_keeps ?_ _ _ _ _

theorem execFclamp_keeps {s0 s t : State} (h : Keeps s0 s) {a0 a1} (e : (execFclamp a0 a1 s) = .next t) :
    Keeps s0 t := by
  revert e
  unfold execFclamp
  try dsimp only
  repeat' first
    | with_reducible refine Keeps.of_next ?_
    | with_reducible assumption
    | with_reducible refine State.vecRow_keeps ?_ _ _ _ _

theorem execFquant_keeps {s0 s t : State} (h : Keeps s0 s) {a0 a1} (e : (execFquant a0 a1 s) = .next t) :
    Keeps s0 t := by
  revert e
  unfold execFquant
  try dsimp only
  repeat' first
    | with_reducible refine Keeps.of_next ?_
    | with_reducible assumption
    | with_reducible refine State.vecRow_keeps ?_ _ _ _ _

theorem execHadd_keeps {s0 s t : State} (h : Keeps s0 s) {a0 a1} (e : (execHadd a0 a1 s) = .next t) :
    Keeps s0 t := by
  revert e
  unfold execHadd
  try dsimp only
  repeat' first
    | with_reducible refine Keeps.of_next ?_
    | with_reducible assumption
    | with_reducible refine State.vecRow_keeps ?_ _ _ _ _

theorem execHsub_keeps {s0 s t : State} (h : Keeps s0 s) {a0 a1} (e : (execHsub a0 a1 s) = .next t) :
    Keeps s0 t := by
  revert e
  unfold execHsub
  try dsimp only
  repeat' first
    | with_reducible refine Keeps.of_next ?_
    | with_reducible assumption
    | with_reducible refine State.vecRow_keeps ?_ _ _ _ _

theorem execHmul_keeps {s0 s t : State} (h : Keeps s0 s) {a0 a1} (e : (execHmul a0 a1 s) = .next t) :
    Keeps s0 t := by
  revert e
  unfold execHmul
  try dsimp only
  repeat' first
    | with_reducible refine Keeps.of_next ?_
    | with_reducible assumption
    | with_reducible refine State.vecRow_keeps ?_ _ _ _ _

theorem execHfma_keeps {s0 s t : State} (h : Keeps s0 s) {a0 a1} (e : (execHfma a0 a1 s) = .next t) :
    Keeps s0 t := by
  revert e
  unfold execHfma
  try dsimp only
  repeat' first
    | with_reducible refine Keeps.of_next ?_
    | with_reducible assumption
    | with_reducible refine State.vecRow_keeps ?_ _ _ _ _

theorem execHfnma_keeps {s0 s t : State} (h : Keeps s0 s) {a0 a1} (e : (execHfnma a0 a1 s) = .next t) :
    Keeps s0 t := by
  revert e
  unfold execHfnma
  try dsimp only
  repeat' first
    | with_reducible refine Keeps.of_next ?_
    | with_reducible assumption
    | with_reducible refine State.vecRow_keeps ?_ _ _ _ _

theorem execHmax_keeps {s0 s t : State} (h : Keeps s0 s) {a0 a1} (e : (execHmax a0 a1 s) = .next t) :
    Keeps s0 t := by
  revert e
  unfold execHmax
  try dsimp only
  repeat' first
    | with_reducible refine Keeps.of_next ?_
    | with_reducible assumption
    | with_reducible refine State.vecRow_keeps ?_ _ _ _ _

theorem execHmin_keeps {s0 s t : State} (h : Keeps s0 s) {a0 a1} (e : (execHmin a0 a1 s) = .next t) :
    Keeps s0 t := by
  revert e
  unfold execHmin
  try dsimp only
  repeat' first
    | with_reducible refine Keeps.of_next ?_
    | with_reducible assumption
    | with_reducible refine State.vecRow_keeps ?_ _ _ _ _

theorem execCvtif_keeps {s0 s t : State} (h : Keeps s0 s) {a0 a1} (e : (execCvtif a0 a1 s) = .next t) :
    Keeps s0 t := by
  revert e
  unfold execCvtif
  try dsimp only
  repeat' first
    | with_reducible refine Keeps.of_next ?_
    | with_reducible assumption
    | with_reducible refine State.vecRow_keeps ?_ _ _ _ _

theorem execCvtfi_keeps {s0 s t : State} (h : Keeps s0 s) {a0 a1} (e : (execCvtfi a0 a1 s) = .next t) :
    Keeps s0 t := by
  revert e
  unfold execCvtfi
  try dsimp only
  repeat' first
    | with_reducible refine Keeps.of_next ?_
    | with_reducible assumption
    | with_reducible refine State.vecRow_keeps ?_ _ _ _ _

theorem execIadd_keeps {s0 s t : State} (h : Keeps s0 s) {a0 a1} (e : (execIadd a0 a1 s) = .next t) :
    Keeps s0 t := by
  revert e
  unfold execIadd
  try dsimp only
  repeat' first
    | with_reducible refine Keeps.of_next ?_
    | with_reducible assumption
    | with_reducible refine State.vecRow_keeps ?_ _ _ _ _

theorem execIsub_keeps {s0 s t : State} (h : Keeps s0 s) {a0 a1} (e : (execIsub a0 a1 s) = .next t) :
    Keeps s0 t := by
  revert e
  unfold execIsub
  try dsimp only
  repeat' first
    | with_reducible refine Keeps.of_next ?_
    | with_reducible assumption
    | with_reducible refine State.vecRow_keeps ?_ _ _ _ _

theorem execImul_keeps {s0 s t : State} (h : Keeps s0 s) {a0 a1} (e : (execImul a0 a1 s) = .next t) :
    Keeps s0 t := by
  revert e
  unfold execImul
  try dsimp only
  repeat' first
    | with_reducible refine Keeps.of_next ?_
    | with_reducible assumption
    | with_reducible refine State.vecRow_keeps ?_ _ _ _ _

theorem execImax_keeps {s0 s t : State} (h : Keeps s0 s) {a0 a1} (e : (execImax a0 a1 s) = .next t) :
    Keeps s0 t := by
  revert e
  unfold execImax
  try dsimp only
  repeat' first
    | with_reducible refine Keeps.of_next ?_
    | with_reducible assumption
    | with_reducible refine State.vecRow_keeps ?_ _ _ _ _

theorem execImin_keeps {s0 s t : State} (h : Keeps s0 s) {a0 a1} (e : (execImin a0 a1 s) = .next t) :
    Keeps s0 t := by
  revert e
  unfold execImin
  try dsimp only
  repeat' first
    | with_reducible refine Keeps.of_next ?_
    | with_reducible assumption
    | with_reducible refine State.vecRow_keeps ?_ _ _ _ _

theorem execAnd_keeps {s0 s t : State} (h : Keeps s0 s) {a0 a1} (e : (execAnd a0 a1 s) = .next t) :
    Keeps s0 t := by
  revert e
  unfold execAnd
  try dsimp only
  repeat' first
    | with_reducible refine Keeps.of_next ?_
    | with_reducible assumption
    | with_reducible refine State.vecRow_keeps ?_ _ _ _ _

theorem execOr_keeps {s0 s t : State} (h : Keeps s0 s) {a0 a1} (e : (execOr a0 a1 s) = .next t) :
    Keeps s0 t := by
  revert e
  unfold execOr
  try dsimp only
  repeat' first
    | with_reducible refine Keeps.of_next ?_
    | with_reducible assumption
    | with_reducible refine State.vecRow_keeps ?_ _ _ _ _

theorem execXor_keeps {s0 s t : State} (h : Keeps s0 s) {a0 a1} (e : (execXor a0 a1 s) = .next t) :
    Keeps s0 t := by
  revert e
  unfold execXor
  try dsimp only
  repeat' first
    | with_reducible refine Keeps.of_next ?_
    | with_reducible assumption
    | with_reducible refine State.vecRow_keeps ?_ _ _ _ _

theorem execShl_keeps {s0 s t : State} (h : Keeps s0 s) {a0 a1} (e : (execShl a0 a1 s) = .next t) :
    Keeps s0 t := by
  revert e
  unfold execShl
  try dsimp only
  repeat' first
    | with_reducible refine Keeps.of_next ?_
    | with_reducible assumption
    | with_reducible refine State.vecRow_keeps ?_ _ _ _ _

theorem execShr_keeps {s0 s t : State} (h : Keeps s0 s) {a0 a1} (e : (execShr a0 a1 s) = .next t) :
    Keeps s0 t := by
  revert e
  unfold execShr
  try dsimp only
  repeat' first
    | with_reducible refine Keeps.of_next ?_
    | with_reducible assumption
    | with_reducible refine State.vecRow_keeps ?_ _ _ _ _

theorem execSar_keeps {s0 s t : State} (h : Keeps s0 s) {a0 a1} (e : (execSar a0 a1 s) = .next t) :
    Keeps s0 t := by
  revert e
  unfold execSar
  try dsimp only
  repeat' first
    | with_reducible refine Keeps.of_next ?_
    | with_reducible assumption
    | with_reducible refine State.vecRow_keeps ?_ _ _ _ _

theorem execFcmpeq_keeps {s0 s t : State} (h : Keeps s0 s) {a0 a1} (e : (execFcmpeq a0 a1 s) = .next t) :
    Keeps s0 t := by
  revert e
  unfold execFcmpeq
  try dsimp only
  repeat' first
    | with_reducible refine Keeps.of_next ?_
    | with_reducible assumption
    | with_reducible refine State.vecRow_keeps ?_ _ _ _ _

theorem execFcmplt_keeps {s0 s t : State} (h : Keeps s0 s) {a0 a1} (e : (execFcmplt a0 a1 s) = .next t) :
    Keeps s0 t := by
  revert e
  unfold execFcmplt
  try dsimp only
  repeat' first
    | with_reducible refine Keeps.of_next ?_
    | with_reducible assumption
    | with_reducible refine State.vecRow_keeps ?_ _ _ _ _

theorem execFcmple_keeps {s0 s t : State} (h : Keeps s0 s) {a0 a1} (e : (execFcmple a0 a1 s) = .next t) :
    Keeps s0 t := by
  revert e
  unfold execFcmple
  try dsimp only
  repeat' first
    | with_reducible refine Keeps.of_next ?_
    | with_reducible assumption
    | with_reducible refine State.vecRow_keeps ?_ _ _ _ _

theorem execFcmpun_keeps {s0 s t : State} (h : Keeps s0 s) {a0 a1} (e : (execFcmpun a0 a1 s) = .next t) :
    Keeps s0 t := by
  revert e
  unfold execFcmpun
  try dsimp only
  repeat' first
    | with_reducible refine Keeps.of_next ?_
    | with_reducible assumption
    | with_reducible refine State.vecRow_keeps ?_ _ _ _ _

theorem execIcmpeq_keeps {s0 s t : State} (h : Keeps s0 s) {a0 a1} (e : (execIcmpeq a0 a1 s) = .next t) :
    Keeps s0 t := by
  revert e
  unfold execIcmpeq
  try dsimp only
  repeat' first
    | with_reducible refine Keeps.of_next ?_
    | with_reducible assumption
    | with_reducible refine State.vecRow_keeps ?_ _ _ _ _

theorem execIcmplt_keeps {s0 s t : State} (h : Keeps s0 s) {a0 a1} (e : (execIcmplt a0 a1 s) = .next t) :
    Keeps s0 t := by
  revert e
  unfold execIcmplt
  try dsimp only
  repeat' first
    | with_reducible refine Keeps.of_next ?_
    | with_reducible assumption
    | with_reducible refine State.vecRow_keeps ?_ _ _ _ _

theorem execMand_keeps {s0 s t : State} (h : Keeps s0 s) {a0 a1} (e : (execMand a0 a1 s) = .next t) :
    Keeps s0 t := by
  revert e
  unfold execMand
  try dsimp only
  repeat' first
    | with_reducible refine Keeps.of_next ?_
    | with_reducible assumption
    | with_reducible refine State.vecRow_keeps ?_ _ _ _ _

theorem execMor_keeps {s0 s t : State} (h : Keeps s0 s) {a0 a1} (e : (execMor a0 a1 s) = .next t) :
    Keeps s0 t := by
  revert e
  unfold execMor
  try dsimp only
  repeat' first
    | with_reducible refine Keeps.of_next ?_
    | with_reducible assumption
    | with_reducible refine State.vecRow_keeps ?_ _ _ _ _

theorem execMxor_keeps {s0 s t : State} (h : Keeps s0 s) {a0 a1} (e : (execMxor a0 a1 s) = .next t) :
    Keeps s0 t := by
  revert e
  unfold execMxor
  try dsimp only
  repeat' first
    | with_reducible refine Keeps.of_next ?_
    | with_reducible assumption
    | with_reducible refine State.vecRow_keeps ?_ _ _ _ _

theorem execMandn_keeps {s0 s t : State} (h : Keeps s0 s) {a0 a1} (e : (execMandn a0 a1 s) = .next t) :
    Keeps s0 t := by
  revert e
  unfold execMandn
  try dsimp only
  repeat' first
    | with_reducible refine Keeps.of_next ?_
    | with_reducible assumption
    | with_reducible refine State.vecRow_keeps ?_ _ _ _ _

theorem execMnot_keeps {s0 s t : State} (h : Keeps s0 s) {a0 a1} (e : (execMnot a0 a1 s) = .next t) :
    Keeps s0 t := by
  revert e
  unfold execMnot
  try dsimp only
  repeat' first
    | with_reducible refine Keeps.of_next ?_
    | with_reducible assumption
    | with_reducible refine State.vecRow_keeps ?_ _ _ _ _

theorem execMpop_keeps {s0 s t : State} (h : Keeps s0 s) {a0 a1} (e : (execMpop a0 a1 s) = .next t) :
    Keeps s0 t := by
  revert e
  unfold execMpop
  try dsimp only
  repeat' first
    | with_reducible refine Keeps.of_next ?_
    | with_reducible assumption
    | with_reducible refine State.vecRow_keeps ?_ _ _ _ _

theorem execSel_keeps {s0 s t : State} (h : Keeps s0 s) {a0 a1} (e : (execSel a0 a1 s) = .next t) :
    Keeps s0 t := by
  revert e
  unfold execSel
  try dsimp only
  repeat' first
    | with_reducible refine Keeps.of_next ?_
    | with_reducible assumption
    | with_reducible refine State.vecRow_keeps ?_ _ _ _ _

theorem execExp_keeps {s0 s t : State} (h : Keeps s0 s) {a0 a1} (e : (execExp a0 a1 s) = .next t) :
    Keeps s0 t := by
  revert e
  unfold execExp
  try dsimp only
  repeat' first
    | with_reducible refine Keeps.of_next ?_
    | with_reducible assumption
    | with_reducible refine State.vecRow_keeps ?_ _ _ _ _

theorem execLog_keeps {s0 s t : State} (h : Keeps s0 s) {a0 a1} (e : (execLog a0 a1 s) = .next t) :
    Keeps s0 t := by
  revert e
  unfold execLog
  try dsimp only
  repeat' first
    | with_reducible refine Keeps.of_next ?_
    | with_reducible assumption
    | with_reducible refine State.vecRow_keeps ?_ _ _ _ _

theorem execRcp_keeps {s0 s t : State} (h : Keeps s0 s) {a0 a1} (e : (execRcp a0 a1 s) = .next t) :
    Keeps s0 t := by
  revert e
  unfold execRcp
  try dsimp only
  repeat' first
    | with_reducible refine Keeps.of_next ?_
    | with_reducible assumption
    | with_reducible refine State.vecRow_keeps ?_ _ _ _ _

theorem execRsqrt_keeps {s0 s t : State} (h : Keeps s0 s) {a0 a1} (e : (execRsqrt a0 a1 s) = .next t) :
    Keeps s0 t := by
  revert e
  unfold execRsqrt
  try dsimp only
  repeat' first
    | with_reducible refine Keeps.of_next ?_
    | with_reducible assumption
    | with_reducible refine State.vecRow_keeps ?_ _ _ _ _

theorem execSinr_keeps {s0 s t : State} (h : Keeps s0 s) {a0 a1} (e : (execSinr a0 a1 s) = .next t) :
    Keeps s0 t := by
  revert e
  unfold execSinr
  try dsimp only
  repeat' first
    | with_reducible refine Keeps.of_next ?_
    | with_reducible assumption
    | with_reducible refine State.vecRow_keeps ?_ _ _ _ _

theorem execCosr_keeps {s0 s t : State} (h : Keeps s0 s) {a0 a1} (e : (execCosr a0 a1 s) = .next t) :
    Keeps s0 t := by
  revert e
  unfold execCosr
  try dsimp only
  repeat' first
    | with_reducible refine Keeps.of_next ?_
    | with_reducible assumption
    | with_reducible refine State.vecRow_keeps ?_ _ _ _ _

theorem execRand_keeps {s0 s t : State} (h : Keeps s0 s) {a0 a1} (e : (execRand a0 a1 s) = .next t) :
    Keeps s0 t := by
  revert e
  unfold execRand
  try dsimp only
  repeat' first
    | with_reducible refine Keeps.of_next ?_
    | with_reducible assumption
    | with_reducible refine State.vecRow_keeps ?_ _ _ _ _

theorem execLd_keeps {s0 s t : State} (h : Keeps s0 s) {a0 a1} (e : (execLd a0 a1 s) = .next t) :
    Keeps s0 t := by
  revert e
  unfold execLd
  try dsimp only
  repeat' first
    | with_reducible refine Keeps.of_next ?_
    | with_reducible assumption
    | with_reducible refine State.vecRow_keeps ?_ _ _ _ _

theorem execSt_keeps {s0 s t : State} (h : Keeps s0 s) {a0 a1} (e : (execSt a0 a1 s) = .next t) :
    Keeps s0 t := by
  revert e
  unfold execSt
  try dsimp only
  repeat' first
    | with_reducible refine Keeps.of_next ?_
    | with_reducible assumption
    | with_reducible refine State.vecRow_keeps ?_ _ _ _ _

theorem execStq_keeps {s0 s t : State} (h : Keeps s0 s) {a0 a1} (e : (execStq a0 a1 s) = .next t) :
    Keeps s0 t := by
  revert e
  unfold execStq
  try dsimp only
  repeat' first
    | with_reducible refine Keeps.of_next ?_
    | with_reducible assumption
    | with_reducible refine State.vecRow_keeps ?_ _ _ _ _

theorem execLdx_keeps {s0 s t : State} (h : Keeps s0 s) {a0 a1} (e : (execLdx a0 a1 s) = .next t) :
    Keeps s0 t := by
  revert e
  unfold execLdx
  try dsimp only
  repeat' first
    | with_reducible refine Keeps.of_next ?_
    | with_reducible assumption
    | with_reducible refine State.vecRow_keeps ?_ _ _ _ _

theorem execStx_keeps {s0 s t : State} (h : Keeps s0 s) {a0 a1} (e : (execStx a0 a1 s) = .next t) :
    Keeps s0 t := by
  revert e
  unfold execStx
  try dsimp only
  repeat' first
    | with_reducible refine Keeps.of_next ?_
    | with_reducible assumption
    | with_reducible refine State.vecRow_keeps ?_ _ _ _ _

theorem execPerm_keeps {s0 s t : State} (h : Keeps s0 s) {a0 a1} (e : (execPerm a0 a1 s) = .next t) :
    Keeps s0 t := by
  revert e
  unfold execPerm
  try dsimp only
  repeat' first
    | with_reducible refine Keeps.of_next ?_
    | with_reducible assumption
    | with_reducible refine State.vecRow_keeps ?_ _ _ _ _

theorem execShuf_keeps {s0 s t : State} (h : Keeps s0 s) {a0 a1} (e : (execShuf a0 a1 s) = .next t) :
    Keeps s0 t := by
  revert e
  unfold execShuf
  try dsimp only
  repeat' first
    | with_reducible refine Keeps.of_next ?_
    | with_reducible assumption
    | with_reducible refine State.vecRow_keeps ?_ _ _ _ _

theorem execPack_keeps {s0 s t : State} (h : Keeps s0 s) {a0 a1} (e : (execPack a0 a1 s) = .next t) :
    Keeps s0 t := by
  revert e
  unfold execPack
  try dsimp only
  repeat' first
    | with_reducible refine Keeps.of_next ?_
    | with_reducible assumption
    | with_reducible refine State.vecRow_keeps ?_ _ _ _ _

theorem execUnpack_keeps {s0 s t : State} (h : Keeps s0 s) {a0 a1} (e : (execUnpack a0 a1 s) = .next t) :
    Keeps s0 t := by
  revert e
  unfold execUnpack
  try dsimp only
  repeat' first
    | with_reducible refine Keeps.of_next ?_
    | with_reducible assumption
    | with_reducible refine State.vecRow_keeps ?_ _ _ _ _

theorem execLsum_keeps {s0 s t : State} (h : Keeps s0 s) {a0 a1} (e : (execLsum a0 a1 s) = .next t) :
    Keeps s0 t := by
  revert e
  unfold execLsum
  try dsimp only
  repeat' first
    | with_reducible refine Keeps.of_next ?_
    | with_reducible assumption
    | with_reducible refine State.vecRow_keeps ?_ _ _ _ _

theorem execLmax_keeps {s0 s t : State} (h : Keeps s0 s) {a0 a1} (e : (execLmax a0 a1 s) = .next t) :
    Keeps s0 t := by
  revert e
  unfold execLmax
  try dsimp only
  repeat' first
    | with_reducible refine Keeps.of_next ?_
    | with_reducible assumption
    | with_reducible refine State.vecRow_keeps ?_ _ _ _ _

theorem execLmin_keeps {s0 s t : State} (h : Keeps s0 s) {a0 a1} (e : (execLmin a0 a1 s) = .next t) :
    Keeps s0 t := by
  revert e
  unfold execLmin
  try dsimp only
  repeat' first
    | with_reducible refine Keeps.of_next ?_
    | with_reducible assumption
    | with_reducible refine State.vecRow_keeps ?_ _ _ _ _

theorem execLmaxi_keeps {s0 s t : State} (h : Keeps s0 s) {a0 a1} (e : (execLmaxi a0 a1 s) = .next t) :
    Keeps s0 t := by
  revert e
  unfold execLmaxi
  try dsimp only
  repeat' first
    | with_reducible refine Keeps.of_next ?_
    | with_reducible assumption
    | with_reducible refine State.vecRow_keeps ?_ _ _ _ _

theorem execSample_keeps {s0 s t : State} (h : Keeps s0 s) {a0 a1} (e : (execSample a0 a1 s) = .next t) :
    Keeps s0 t := by
  revert e
  unfold execSample
  try dsimp only
  repeat' first
    | with_reducible refine Keeps.of_next ?_
    | with_reducible assumption
    | with_reducible refine State.vecRow_keeps ?_ _ _ _ _

theorem execStatLeaf_keeps {s0 s t : State} (h : Keeps s0 s) {a0 a1} (e : (execStatLeaf a0 a1 s) = .next t) :
    Keeps s0 t := by
  revert e
  unfold execStatLeaf
  try dsimp only
  repeat' first
    | with_reducible refine Keeps.of_next ?_
    | with_reducible assumption
    | with_reducible refine State.vecRow_keeps ?_ _ _ _ _

theorem execStatGet_keeps {s0 s t : State} (h : Keeps s0 s) {a0 a1} (e : (execStatGet a0 a1 s) = .next t) :
    Keeps s0 t := by
  revert e
  unfold execStatGet
  try dsimp only
  repeat' first
    | with_reducible refine Keeps.of_next ?_
    | with_reducible assumption
    | with_reducible refine State.vecRow_keeps ?_ _ _ _ _

theorem execIndex_keeps {s0 s t : State} (h : Keeps s0 s) {a0 a1} (e : (execIndex a0 a1 s) = .next t) :
    Keeps s0 t := by
  revert e
  unfold execIndex
  try dsimp only
  repeat' first
    | with_reducible refine Keeps.of_next ?_
    | with_reducible assumption
    | with_reducible refine State.vecRow_keeps ?_ _ _ _ _

theorem State.readerFails_keeps {s0 s : State} (h : Keeps s0 s) (a1) :
    Keeps s0 (State.readerFails s a1) := by
  unfold State.readerFails
  try dsimp only
  repeat' first
    | with_reducible assumption
    | with_reducible refine State.taskFail_keeps ?_ _ _ _
    | with_reducible refine Keeps.ite (fun _ => ?_) (fun _ => ?_)
    | split

theorem State.memoryError_keeps {s0 s : State} (h : Keeps s0 s) (a1 a2 a3 a4) :
    Keeps s0 (State.memoryError s a1 a2 a3 a4) := by
  unfold State.memoryError
  try dsimp only
  repeat' first
    | with_reducible assumption
    | with_reducible refine State.eccAt_keeps ?_ _ _ _
    | with_reducible refine State.readerFails_keeps ?_ _
    | with_reducible refine Keeps.ite (fun _ => ?_) (fun _ => ?_)

theorem State.scratchError_keeps {s0 s : State} (h : Keeps s0 s) (a1 a2 a3 a4) :
    Keeps s0 (State.scratchError s a1 a2 a3 a4) := by
  unfold State.scratchError
  try dsimp only
  repeat' first
    | with_reducible assumption
    | with_reducible refine State.cnt16_keeps ?_ _ _
    | with_reducible refine State.controlFault_keeps ?_ _
    | with_reducible refine State.readerFails_keeps ?_ _
    | with_reducible refine Keeps.ite (fun _ => ?_) (fun _ => ?_)

theorem State.fecCounts_keeps {s0 s : State} (h : Keeps s0 s) (a1 a2 a3) :
    Keeps s0 (State.fecCounts s a1 a2 a3) := by
  unfold State.fecCounts
  try dsimp only
  repeat' first
    | with_reducible assumption
    | with_reducible refine State.cnt16_keeps ?_ _ _
    | with_reducible refine State.cnt48_keeps ?_ _ _
    | with_reducible refine Keeps.ite (fun _ => ?_) (fun _ => ?_)

theorem State.happen_keeps {s0 s : State} (h : Keeps s0 s) (a1) :
    Keeps s0 (State.happen s a1) := by
  unfold State.happen
  try dsimp only
  repeat' first
    | with_reducible assumption
    | with_reducible refine State.memoryError_keeps ?_ _ _ _ _
    | with_reducible refine State.scratchError_keeps ?_ _ _ _ _
    | with_reducible refine State.cnt16_keeps ?_ _ _
    | with_reducible refine State.cnt48_keeps ?_ _ _
    | with_reducible refine State.fecCounts_keeps ?_ _ _ _
    | with_reducible refine State.patrolBusy_keeps ?_
    | with_reducible refine State.patrolDone_keeps ?_
    | with_reducible refine State.sendBeacon_keeps ?_
    | with_reducible refine State.portFrame_keeps ?_ _
    | simp only [Keeps.upd_iff]
    | with_reducible refine Keeps.ite (fun _ => ?_) (fun _ => ?_)
    | split

theorem State.nextHappening_keeps {s0 s : State} (h : Keeps s0 s) :
    Keeps s0 (State.nextHappening s) := by
  unfold State.nextHappening
  try dsimp only
  repeat' first
    | with_reducible assumption
    | with_reducible refine State.happen_keeps ?_ _
    | simp only [Keeps.upd_iff]
    | split

theorem State.idle_keeps {s0 s : State} (h : Keeps s0 s) :
    Keeps s0 (State.idle s) := by
  unfold State.idle
  try dsimp only
  repeat' first
    | with_reducible assumption
    | with_reducible refine State.wdTick_keeps ?_
    | with_reducible refine State.nextHappening_keeps ?_
    | simp only [Keeps.upd_iff]

end Sys2Proof.Machine
end

