-- ==== Sys2Proof/Laws/State.lean ====
section
/-! SUPPORT. What each named operation leaves alone, field by field, and what is read after it. -/

namespace Sys2Proof.Machine

/-! ### emit -/

@[simp] theorem State.emit_pending (s : State) (o : Out) : (s.emit o).pending = s.pending := rfl
@[simp] theorem State.emit_env (s : State) (o : Out) : (s.emit o).env = s.env := rfl
@[simp] theorem State.emit_timeNs (s : State) (o : Out) : (s.emit o).timeNs = s.timeNs := rfl
@[simp] theorem State.emit_free (s : State) (o : Out) : (s.emit o).free = s.free := rfl
@[simp] theorem State.emit_mem (s : State) (o : Out) : (s.emit o).mem = s.mem := rfl
@[simp] theorem State.emit_side (s : State) (o : Out) : (s.emit o).side = s.side := rfl
@[simp] theorem State.emit_objs (s : State) (o : Out) : (s.emit o).objs = s.objs := rfl
@[simp] theorem State.emit_cores (s : State) (o : Out) : (s.emit o).cores = s.cores := rfl
@[simp] theorem State.emit_disp (s : State) (o : Out) : (s.emit o).disp = s.disp := rfl
@[simp] theorem State.emit_reds (s : State) (o : Out) : (s.emit o).reds = s.reds := rfl
@[simp] theorem State.emit_chair (s : State) (o : Out) : (s.emit o).chair = s.chair := rfl
@[simp] theorem State.emit_fab (s : State) (o : Out) : (s.emit o).fab = s.fab := rfl
@[simp] theorem State.emit_video (s : State) (o : Out) : (s.emit o).video = s.video := rfl
@[simp] theorem State.emit_mctl (s : State) (o : Out) : (s.emit o).mctl = s.mctl := rfl
@[simp] theorem State.emit_power (s : State) (o : Out) : (s.emit o).power = s.power := rfl
@[simp] theorem State.emit_patrol (s : State) (o : Out) : (s.emit o).patrol = s.patrol := rfl
@[simp] theorem State.emit_host (s : State) (o : Out) : (s.emit o).host = s.host := rfl
@[simp] theorem State.emit_modes (s : State) (o : Out) : (s.emit o).modes = s.modes := rfl

/-! ### tick -/

@[simp] theorem State.tick_pending (s : State) : (s.tick).pending = s.pending := rfl
@[simp] theorem State.tick_env (s : State) : (s.tick).env = s.env := rfl
@[simp] theorem State.tick_timeNs (s : State) : (s.tick).timeNs = s.timeNs := rfl
@[simp] theorem State.tick_out (s : State) : (s.tick).out = s.out := rfl
@[simp] theorem State.tick_mem (s : State) : (s.tick).mem = s.mem := rfl
@[simp] theorem State.tick_side (s : State) : (s.tick).side = s.side := rfl
@[simp] theorem State.tick_objs (s : State) : (s.tick).objs = s.objs := rfl
@[simp] theorem State.tick_cores (s : State) : (s.tick).cores = s.cores := rfl
@[simp] theorem State.tick_disp (s : State) : (s.tick).disp = s.disp := rfl
@[simp] theorem State.tick_reds (s : State) : (s.tick).reds = s.reds := rfl
@[simp] theorem State.tick_chair (s : State) : (s.tick).chair = s.chair := rfl
@[simp] theorem State.tick_fab (s : State) : (s.tick).fab = s.fab := rfl
@[simp] theorem State.tick_video (s : State) : (s.tick).video = s.video := rfl
@[simp] theorem State.tick_mctl (s : State) : (s.tick).mctl = s.mctl := rfl
@[simp] theorem State.tick_power (s : State) : (s.tick).power = s.power := rfl
@[simp] theorem State.tick_patrol (s : State) : (s.tick).patrol = s.patrol := rfl
@[simp] theorem State.tick_host (s : State) : (s.tick).host = s.host := rfl
@[simp] theorem State.tick_modes (s : State) : (s.tick).modes = s.modes := rfl

/-! ### setObj -/

@[simp] theorem State.setObj_pending (s : State) (k v : Nat) : (s.setObj k v).pending = s.pending := rfl
@[simp] theorem State.setObj_env (s : State) (k v : Nat) : (s.setObj k v).env = s.env := rfl
@[simp] theorem State.setObj_timeNs (s : State) (k v : Nat) : (s.setObj k v).timeNs = s.timeNs := rfl
@[simp] theorem State.setObj_free (s : State) (k v : Nat) : (s.setObj k v).free = s.free := rfl
@[simp] theorem State.setObj_out (s : State) (k v : Nat) : (s.setObj k v).out = s.out := rfl
@[simp] theorem State.setObj_mem (s : State) (k v : Nat) : (s.setObj k v).mem = s.mem := rfl
@[simp] theorem State.setObj_side (s : State) (k v : Nat) : (s.setObj k v).side = s.side := rfl
@[simp] theorem State.setObj_cores (s : State) (k v : Nat) : (s.setObj k v).cores = s.cores := rfl
@[simp] theorem State.setObj_disp (s : State) (k v : Nat) : (s.setObj k v).disp = s.disp := rfl
@[simp] theorem State.setObj_reds (s : State) (k v : Nat) : (s.setObj k v).reds = s.reds := rfl
@[simp] theorem State.setObj_chair (s : State) (k v : Nat) : (s.setObj k v).chair = s.chair := rfl
@[simp] theorem State.setObj_fab (s : State) (k v : Nat) : (s.setObj k v).fab = s.fab := rfl
@[simp] theorem State.setObj_video (s : State) (k v : Nat) : (s.setObj k v).video = s.video := rfl
@[simp] theorem State.setObj_mctl (s : State) (k v : Nat) : (s.setObj k v).mctl = s.mctl := rfl
@[simp] theorem State.setObj_power (s : State) (k v : Nat) : (s.setObj k v).power = s.power := rfl
@[simp] theorem State.setObj_patrol (s : State) (k v : Nat) : (s.setObj k v).patrol = s.patrol := rfl
@[simp] theorem State.setObj_host (s : State) (k v : Nat) : (s.setObj k v).host = s.host := rfl
@[simp] theorem State.setObj_modes (s : State) (k v : Nat) : (s.setObj k v).modes = s.modes := rfl

/-! ### setCore -/

@[simp] theorem State.setCore_pending (s : State) (cl site : Nat) (c : CoreSt) : (s.setCore cl site c).pending = s.pending := rfl
@[simp] theorem State.setCore_env (s : State) (cl site : Nat) (c : CoreSt) : (s.setCore cl site c).env = s.env := rfl
@[simp] theorem State.setCore_timeNs (s : State) (cl site : Nat) (c : CoreSt) : (s.setCore cl site c).timeNs = s.timeNs := rfl
@[simp] theorem State.setCore_free (s : State) (cl site : Nat) (c : CoreSt) : (s.setCore cl site c).free = s.free := rfl
@[simp] theorem State.setCore_out (s : State) (cl site : Nat) (c : CoreSt) : (s.setCore cl site c).out = s.out := rfl
@[simp] theorem State.setCore_mem (s : State) (cl site : Nat) (c : CoreSt) : (s.setCore cl site c).mem = s.mem := rfl
@[simp] theorem State.setCore_side (s : State) (cl site : Nat) (c : CoreSt) : (s.setCore cl site c).side = s.side := rfl
@[simp] theorem State.setCore_objs (s : State) (cl site : Nat) (c : CoreSt) : (s.setCore cl site c).objs = s.objs := rfl
@[simp] theorem State.setCore_disp (s : State) (cl site : Nat) (c : CoreSt) : (s.setCore cl site c).disp = s.disp := rfl
@[simp] theorem State.setCore_reds (s : State) (cl site : Nat) (c : CoreSt) : (s.setCore cl site c).reds = s.reds := rfl
@[simp] theorem State.setCore_chair (s : State) (cl site : Nat) (c : CoreSt) : (s.setCore cl site c).chair = s.chair := rfl
@[simp] theorem State.setCore_fab (s : State) (cl site : Nat) (c : CoreSt) : (s.setCore cl site c).fab = s.fab := rfl
@[simp] theorem State.setCore_video (s : State) (cl site : Nat) (c : CoreSt) : (s.setCore cl site c).video = s.video := rfl
@[simp] theorem State.setCore_mctl (s : State) (cl site : Nat) (c : CoreSt) : (s.setCore cl site c).mctl = s.mctl := rfl
@[simp] theorem State.setCore_power (s : State) (cl site : Nat) (c : CoreSt) : (s.setCore cl site c).power = s.power := rfl
@[simp] theorem State.setCore_patrol (s : State) (cl site : Nat) (c : CoreSt) : (s.setCore cl site c).patrol = s.patrol := rfl
@[simp] theorem State.setCore_host (s : State) (cl site : Nat) (c : CoreSt) : (s.setCore cl site c).host = s.host := rfl
@[simp] theorem State.setCore_modes (s : State) (cl site : Nat) (c : CoreSt) : (s.setCore cl site c).modes = s.modes := rfl

/-! ### modCore -/

@[simp] theorem State.modCore_pending (s : State) (cl site : Nat) (f : CoreSt → CoreSt) : (s.modCore cl site f).pending = s.pending := rfl
@[simp] theorem State.modCore_env (s : State) (cl site : Nat) (f : CoreSt → CoreSt) : (s.modCore cl site f).env = s.env := rfl
@[simp] theorem State.modCore_timeNs (s : State) (cl site : Nat) (f : CoreSt → CoreSt) : (s.modCore cl site f).timeNs = s.timeNs := rfl
@[simp] theorem State.modCore_free (s : State) (cl site : Nat) (f : CoreSt → CoreSt) : (s.modCore cl site f).free = s.free := rfl
@[simp] theorem State.modCore_out (s : State) (cl site : Nat) (f : CoreSt → CoreSt) : (s.modCore cl site f).out = s.out := rfl
@[simp] theorem State.modCore_mem (s : State) (cl site : Nat) (f : CoreSt → CoreSt) : (s.modCore cl site f).mem = s.mem := rfl
@[simp] theorem State.modCore_side (s : State) (cl site : Nat) (f : CoreSt → CoreSt) : (s.modCore cl site f).side = s.side := rfl
@[simp] theorem State.modCore_objs (s : State) (cl site : Nat) (f : CoreSt → CoreSt) : (s.modCore cl site f).objs = s.objs := rfl
@[simp] theorem State.modCore_disp (s : State) (cl site : Nat) (f : CoreSt → CoreSt) : (s.modCore cl site f).disp = s.disp := rfl
@[simp] theorem State.modCore_reds (s : State) (cl site : Nat) (f : CoreSt → CoreSt) : (s.modCore cl site f).reds = s.reds := rfl
@[simp] theorem State.modCore_chair (s : State) (cl site : Nat) (f : CoreSt → CoreSt) : (s.modCore cl site f).chair = s.chair := rfl
@[simp] theorem State.modCore_fab (s : State) (cl site : Nat) (f : CoreSt → CoreSt) : (s.modCore cl site f).fab = s.fab := rfl
@[simp] theorem State.modCore_video (s : State) (cl site : Nat) (f : CoreSt → CoreSt) : (s.modCore cl site f).video = s.video := rfl
@[simp] theorem State.modCore_mctl (s : State) (cl site : Nat) (f : CoreSt → CoreSt) : (s.modCore cl site f).mctl = s.mctl := rfl
@[simp] theorem State.modCore_power (s : State) (cl site : Nat) (f : CoreSt → CoreSt) : (s.modCore cl site f).power = s.power := rfl
@[simp] theorem State.modCore_patrol (s : State) (cl site : Nat) (f : CoreSt → CoreSt) : (s.modCore cl site f).patrol = s.patrol := rfl
@[simp] theorem State.modCore_host (s : State) (cl site : Nat) (f : CoreSt → CoreSt) : (s.modCore cl site f).host = s.host := rfl
@[simp] theorem State.modCore_modes (s : State) (cl site : Nat) (f : CoreSt → CoreSt) : (s.modCore cl site f).modes = s.modes := rfl

/-! ### modTask -/

@[simp] theorem State.modTask_pending (s : State) (cl site : Nat) (f : Task → Task) : (s.modTask cl site f).pending = s.pending := rfl
@[simp] theorem State.modTask_env (s : State) (cl site : Nat) (f : Task → Task) : (s.modTask cl site f).env = s.env := rfl
@[simp] theorem State.modTask_timeNs (s : State) (cl site : Nat) (f : Task → Task) : (s.modTask cl site f).timeNs = s.timeNs := rfl
@[simp] theorem State.modTask_free (s : State) (cl site : Nat) (f : Task → Task) : (s.modTask cl site f).free = s.free := rfl
@[simp] theorem State.modTask_out (s : State) (cl site : Nat) (f : Task → Task) : (s.modTask cl site f).out = s.out := rfl
@[simp] theorem State.modTask_mem (s : State) (cl site : Nat) (f : Task → Task) : (s.modTask cl site f).mem = s.mem := rfl
@[simp] theorem State.modTask_side (s : State) (cl site : Nat) (f : Task → Task) : (s.modTask cl site f).side = s.side := rfl
@[simp] theorem State.modTask_objs (s : State) (cl site : Nat) (f : Task → Task) : (s.modTask cl site f).objs = s.objs := rfl
@[simp] theorem State.modTask_disp (s : State) (cl site : Nat) (f : Task → Task) : (s.modTask cl site f).disp = s.disp := rfl
@[simp] theorem State.modTask_reds (s : State) (cl site : Nat) (f : Task → Task) : (s.modTask cl site f).reds = s.reds := rfl
@[simp] theorem State.modTask_chair (s : State) (cl site : Nat) (f : Task → Task) : (s.modTask cl site f).chair = s.chair := rfl
@[simp] theorem State.modTask_fab (s : State) (cl site : Nat) (f : Task → Task) : (s.modTask cl site f).fab = s.fab := rfl
@[simp] theorem State.modTask_video (s : State) (cl site : Nat) (f : Task → Task) : (s.modTask cl site f).video = s.video := rfl
@[simp] theorem State.modTask_mctl (s : State) (cl site : Nat) (f : Task → Task) : (s.modTask cl site f).mctl = s.mctl := rfl
@[simp] theorem State.modTask_power (s : State) (cl site : Nat) (f : Task → Task) : (s.modTask cl site f).power = s.power := rfl
@[simp] theorem State.modTask_patrol (s : State) (cl site : Nat) (f : Task → Task) : (s.modTask cl site f).patrol = s.patrol := rfl
@[simp] theorem State.modTask_host (s : State) (cl site : Nat) (f : Task → Task) : (s.modTask cl site f).host = s.host := rfl
@[simp] theorem State.modTask_modes (s : State) (cl site : Nat) (f : Task → Task) : (s.modTask cl site f).modes = s.modes := rfl

/-! ### taskFail -/

@[simp] theorem State.taskFail_pending (s : State) (cl site code : Nat) : (s.taskFail cl site code).pending = s.pending := rfl
@[simp] theorem State.taskFail_env (s : State) (cl site code : Nat) : (s.taskFail cl site code).env = s.env := rfl
@[simp] theorem State.taskFail_timeNs (s : State) (cl site code : Nat) : (s.taskFail cl site code).timeNs = s.timeNs := rfl
@[simp] theorem State.taskFail_free (s : State) (cl site code : Nat) : (s.taskFail cl site code).free = s.free := rfl
@[simp] theorem State.taskFail_out (s : State) (cl site code : Nat) : (s.taskFail cl site code).out = s.out := rfl
@[simp] theorem State.taskFail_mem (s : State) (cl site code : Nat) : (s.taskFail cl site code).mem = s.mem := rfl
@[simp] theorem State.taskFail_side (s : State) (cl site code : Nat) : (s.taskFail cl site code).side = s.side := rfl
@[simp] theorem State.taskFail_objs (s : State) (cl site code : Nat) : (s.taskFail cl site code).objs = s.objs := rfl
@[simp] theorem State.taskFail_disp (s : State) (cl site code : Nat) : (s.taskFail cl site code).disp = s.disp := rfl
@[simp] theorem State.taskFail_reds (s : State) (cl site code : Nat) : (s.taskFail cl site code).reds = s.reds := rfl
@[simp] theorem State.taskFail_chair (s : State) (cl site code : Nat) : (s.taskFail cl site code).chair = s.chair := rfl
@[simp] theorem State.taskFail_fab (s : State) (cl site code : Nat) : (s.taskFail cl site code).fab = s.fab := rfl
@[simp] theorem State.taskFail_video (s : State) (cl site code : Nat) : (s.taskFail cl site code).video = s.video := rfl
@[simp] theorem State.taskFail_mctl (s : State) (cl site code : Nat) : (s.taskFail cl site code).mctl = s.mctl := rfl
@[simp] theorem State.taskFail_power (s : State) (cl site code : Nat) : (s.taskFail cl site code).power = s.power := rfl
@[simp] theorem State.taskFail_patrol (s : State) (cl site code : Nat) : (s.taskFail cl site code).patrol = s.patrol := rfl
@[simp] theorem State.taskFail_host (s : State) (cl site code : Nat) : (s.taskFail cl site code).host = s.host := rfl
@[simp] theorem State.taskFail_modes (s : State) (cl site code : Nat) : (s.taskFail cl site code).modes = s.modes := rfl

/-! ### taskEv -/

@[simp] theorem State.taskEv_pending (s : State) (cl site : Nat) (e : Ev) : (s.taskEv cl site e).pending = s.pending := rfl
@[simp] theorem State.taskEv_env (s : State) (cl site : Nat) (e : Ev) : (s.taskEv cl site e).env = s.env := rfl
@[simp] theorem State.taskEv_timeNs (s : State) (cl site : Nat) (e : Ev) : (s.taskEv cl site e).timeNs = s.timeNs := rfl
@[simp] theorem State.taskEv_free (s : State) (cl site : Nat) (e : Ev) : (s.taskEv cl site e).free = s.free := rfl
@[simp] theorem State.taskEv_out (s : State) (cl site : Nat) (e : Ev) : (s.taskEv cl site e).out = s.out := rfl
@[simp] theorem State.taskEv_mem (s : State) (cl site : Nat) (e : Ev) : (s.taskEv cl site e).mem = s.mem := rfl
@[simp] theorem State.taskEv_side (s : State) (cl site : Nat) (e : Ev) : (s.taskEv cl site e).side = s.side := rfl
@[simp] theorem State.taskEv_objs (s : State) (cl site : Nat) (e : Ev) : (s.taskEv cl site e).objs = s.objs := rfl
@[simp] theorem State.taskEv_disp (s : State) (cl site : Nat) (e : Ev) : (s.taskEv cl site e).disp = s.disp := rfl
@[simp] theorem State.taskEv_reds (s : State) (cl site : Nat) (e : Ev) : (s.taskEv cl site e).reds = s.reds := rfl
@[simp] theorem State.taskEv_chair (s : State) (cl site : Nat) (e : Ev) : (s.taskEv cl site e).chair = s.chair := rfl
@[simp] theorem State.taskEv_fab (s : State) (cl site : Nat) (e : Ev) : (s.taskEv cl site e).fab = s.fab := rfl
@[simp] theorem State.taskEv_video (s : State) (cl site : Nat) (e : Ev) : (s.taskEv cl site e).video = s.video := rfl
@[simp] theorem State.taskEv_mctl (s : State) (cl site : Nat) (e : Ev) : (s.taskEv cl site e).mctl = s.mctl := rfl
@[simp] theorem State.taskEv_power (s : State) (cl site : Nat) (e : Ev) : (s.taskEv cl site e).power = s.power := rfl
@[simp] theorem State.taskEv_patrol (s : State) (cl site : Nat) (e : Ev) : (s.taskEv cl site e).patrol = s.patrol := rfl
@[simp] theorem State.taskEv_host (s : State) (cl site : Nat) (e : Ev) : (s.taskEv cl site e).host = s.host := rfl
@[simp] theorem State.taskEv_modes (s : State) (cl site : Nat) (e : Ev) : (s.taskEv cl site e).modes = s.modes := rfl

/-! ### modCtx -/

@[simp] theorem State.modCtx_pending (s : State) (c : Nat) (f : Ctx → Ctx) : (s.modCtx c f).pending = s.pending := rfl
@[simp] theorem State.modCtx_env (s : State) (c : Nat) (f : Ctx → Ctx) : (s.modCtx c f).env = s.env := rfl
@[simp] theorem State.modCtx_timeNs (s : State) (c : Nat) (f : Ctx → Ctx) : (s.modCtx c f).timeNs = s.timeNs := rfl
@[simp] theorem State.modCtx_free (s : State) (c : Nat) (f : Ctx → Ctx) : (s.modCtx c f).free = s.free := rfl
@[simp] theorem State.modCtx_out (s : State) (c : Nat) (f : Ctx → Ctx) : (s.modCtx c f).out = s.out := rfl
@[simp] theorem State.modCtx_mem (s : State) (c : Nat) (f : Ctx → Ctx) : (s.modCtx c f).mem = s.mem := rfl
@[simp] theorem State.modCtx_side (s : State) (c : Nat) (f : Ctx → Ctx) : (s.modCtx c f).side = s.side := rfl
@[simp] theorem State.modCtx_objs (s : State) (c : Nat) (f : Ctx → Ctx) : (s.modCtx c f).objs = s.objs := rfl
@[simp] theorem State.modCtx_cores (s : State) (c : Nat) (f : Ctx → Ctx) : (s.modCtx c f).cores = s.cores := rfl
@[simp] theorem State.modCtx_reds (s : State) (c : Nat) (f : Ctx → Ctx) : (s.modCtx c f).reds = s.reds := rfl
@[simp] theorem State.modCtx_chair (s : State) (c : Nat) (f : Ctx → Ctx) : (s.modCtx c f).chair = s.chair := rfl
@[simp] theorem State.modCtx_fab (s : State) (c : Nat) (f : Ctx → Ctx) : (s.modCtx c f).fab = s.fab := rfl
@[simp] theorem State.modCtx_video (s : State) (c : Nat) (f : Ctx → Ctx) : (s.modCtx c f).video = s.video := rfl
@[simp] theorem State.modCtx_mctl (s : State) (c : Nat) (f : Ctx → Ctx) : (s.modCtx c f).mctl = s.mctl := rfl
@[simp] theorem State.modCtx_power (s : State) (c : Nat) (f : Ctx → Ctx) : (s.modCtx c f).power = s.power := rfl
@[simp] theorem State.modCtx_patrol (s : State) (c : Nat) (f : Ctx → Ctx) : (s.modCtx c f).patrol = s.patrol := rfl
@[simp] theorem State.modCtx_host (s : State) (c : Nat) (f : Ctx → Ctx) : (s.modCtx c f).host = s.host := rfl
@[simp] theorem State.modCtx_modes (s : State) (c : Nat) (f : Ctx → Ctx) : (s.modCtx c f).modes = s.modes := rfl

/-! ### modQueue -/

@[simp] theorem State.modQueue_pending (s : State) (cl q : Nat) (f : Queue → Queue) : (s.modQueue cl q f).pending = s.pending := rfl
@[simp] theorem State.modQueue_env (s : State) (cl q : Nat) (f : Queue → Queue) : (s.modQueue cl q f).env = s.env := rfl
@[simp] theorem State.modQueue_timeNs (s : State) (cl q : Nat) (f : Queue → Queue) : (s.modQueue cl q f).timeNs = s.timeNs := rfl
@[simp] theorem State.modQueue_free (s : State) (cl q : Nat) (f : Queue → Queue) : (s.modQueue cl q f).free = s.free := rfl
@[simp] theorem State.modQueue_out (s : State) (cl q : Nat) (f : Queue → Queue) : (s.modQueue cl q f).out = s.out := rfl
@[simp] theorem State.modQueue_mem (s : State) (cl q : Nat) (f : Queue → Queue) : (s.modQueue cl q f).mem = s.mem := rfl
@[simp] theorem State.modQueue_side (s : State) (cl q : Nat) (f : Queue → Queue) : (s.modQueue cl q f).side = s.side := rfl
@[simp] theorem State.modQueue_objs (s : State) (cl q : Nat) (f : Queue → Queue) : (s.modQueue cl q f).objs = s.objs := rfl
@[simp] theorem State.modQueue_cores (s : State) (cl q : Nat) (f : Queue → Queue) : (s.modQueue cl q f).cores = s.cores := rfl
@[simp] theorem State.modQueue_reds (s : State) (cl q : Nat) (f : Queue → Queue) : (s.modQueue cl q f).reds = s.reds := rfl
@[simp] theorem State.modQueue_chair (s : State) (cl q : Nat) (f : Queue → Queue) : (s.modQueue cl q f).chair = s.chair := rfl
@[simp] theorem State.modQueue_fab (s : State) (cl q : Nat) (f : Queue → Queue) : (s.modQueue cl q f).fab = s.fab := rfl
@[simp] theorem State.modQueue_video (s : State) (cl q : Nat) (f : Queue → Queue) : (s.modQueue cl q f).video = s.video := rfl
@[simp] theorem State.modQueue_mctl (s : State) (cl q : Nat) (f : Queue → Queue) : (s.modQueue cl q f).mctl = s.mctl := rfl
@[simp] theorem State.modQueue_power (s : State) (cl q : Nat) (f : Queue → Queue) : (s.modQueue cl q f).power = s.power := rfl
@[simp] theorem State.modQueue_patrol (s : State) (cl q : Nat) (f : Queue → Queue) : (s.modQueue cl q f).patrol = s.patrol := rfl
@[simp] theorem State.modQueue_host (s : State) (cl q : Nat) (f : Queue → Queue) : (s.modQueue cl q f).host = s.host := rfl
@[simp] theorem State.modQueue_modes (s : State) (cl q : Nat) (f : Queue → Queue) : (s.modQueue cl q f).modes = s.modes := rfl

/-! ### modLeases -/

@[simp] theorem State.modLeases_pending (s : State) (cl : Nat) (f : List Lease → List Lease) : (s.modLeases cl f).pending = s.pending := rfl
@[simp] theorem State.modLeases_env (s : State) (cl : Nat) (f : List Lease → List Lease) : (s.modLeases cl f).env = s.env := rfl
@[simp] theorem State.modLeases_timeNs (s : State) (cl : Nat) (f : List Lease → List Lease) : (s.modLeases cl f).timeNs = s.timeNs := rfl
@[simp] theorem State.modLeases_free (s : State) (cl : Nat) (f : List Lease → List Lease) : (s.modLeases cl f).free = s.free := rfl
@[simp] theorem State.modLeases_out (s : State) (cl : Nat) (f : List Lease → List Lease) : (s.modLeases cl f).out = s.out := rfl
@[simp] theorem State.modLeases_mem (s : State) (cl : Nat) (f : List Lease → List Lease) : (s.modLeases cl f).mem = s.mem := rfl
@[simp] theorem State.modLeases_side (s : State) (cl : Nat) (f : List Lease → List Lease) : (s.modLeases cl f).side = s.side := rfl
@[simp] theorem State.modLeases_objs (s : State) (cl : Nat) (f : List Lease → List Lease) : (s.modLeases cl f).objs = s.objs := rfl
@[simp] theorem State.modLeases_cores (s : State) (cl : Nat) (f : List Lease → List Lease) : (s.modLeases cl f).cores = s.cores := rfl
@[simp] theorem State.modLeases_reds (s : State) (cl : Nat) (f : List Lease → List Lease) : (s.modLeases cl f).reds = s.reds := rfl
@[simp] theorem State.modLeases_chair (s : State) (cl : Nat) (f : List Lease → List Lease) : (s.modLeases cl f).chair = s.chair := rfl
@[simp] theorem State.modLeases_fab (s : State) (cl : Nat) (f : List Lease → List Lease) : (s.modLeases cl f).fab = s.fab := rfl
@[simp] theorem State.modLeases_video (s : State) (cl : Nat) (f : List Lease → List Lease) : (s.modLeases cl f).video = s.video := rfl
@[simp] theorem State.modLeases_mctl (s : State) (cl : Nat) (f : List Lease → List Lease) : (s.modLeases cl f).mctl = s.mctl := rfl
@[simp] theorem State.modLeases_power (s : State) (cl : Nat) (f : List Lease → List Lease) : (s.modLeases cl f).power = s.power := rfl
@[simp] theorem State.modLeases_patrol (s : State) (cl : Nat) (f : List Lease → List Lease) : (s.modLeases cl f).patrol = s.patrol := rfl
@[simp] theorem State.modLeases_host (s : State) (cl : Nat) (f : List Lease → List Lease) : (s.modLeases cl f).host = s.host := rfl
@[simp] theorem State.modLeases_modes (s : State) (cl : Nat) (f : List Lease → List Lease) : (s.modLeases cl f).modes = s.modes := rfl

/-! ### modLink -/

@[simp] theorem State.modLink_pending (s : State) (n : Nat) (f : Link → Link) : (s.modLink n f).pending = s.pending := rfl
@[simp] theorem State.modLink_env (s : State) (n : Nat) (f : Link → Link) : (s.modLink n f).env = s.env := rfl
@[simp] theorem State.modLink_timeNs (s : State) (n : Nat) (f : Link → Link) : (s.modLink n f).timeNs = s.timeNs := rfl
@[simp] theorem State.modLink_free (s : State) (n : Nat) (f : Link → Link) : (s.modLink n f).free = s.free := rfl
@[simp] theorem State.modLink_out (s : State) (n : Nat) (f : Link → Link) : (s.modLink n f).out = s.out := rfl
@[simp] theorem State.modLink_mem (s : State) (n : Nat) (f : Link → Link) : (s.modLink n f).mem = s.mem := rfl
@[simp] theorem State.modLink_side (s : State) (n : Nat) (f : Link → Link) : (s.modLink n f).side = s.side := rfl
@[simp] theorem State.modLink_objs (s : State) (n : Nat) (f : Link → Link) : (s.modLink n f).objs = s.objs := rfl
@[simp] theorem State.modLink_cores (s : State) (n : Nat) (f : Link → Link) : (s.modLink n f).cores = s.cores := rfl
@[simp] theorem State.modLink_disp (s : State) (n : Nat) (f : Link → Link) : (s.modLink n f).disp = s.disp := rfl
@[simp] theorem State.modLink_reds (s : State) (n : Nat) (f : Link → Link) : (s.modLink n f).reds = s.reds := rfl
@[simp] theorem State.modLink_chair (s : State) (n : Nat) (f : Link → Link) : (s.modLink n f).chair = s.chair := rfl
@[simp] theorem State.modLink_video (s : State) (n : Nat) (f : Link → Link) : (s.modLink n f).video = s.video := rfl
@[simp] theorem State.modLink_mctl (s : State) (n : Nat) (f : Link → Link) : (s.modLink n f).mctl = s.mctl := rfl
@[simp] theorem State.modLink_power (s : State) (n : Nat) (f : Link → Link) : (s.modLink n f).power = s.power := rfl
@[simp] theorem State.modLink_patrol (s : State) (n : Nat) (f : Link → Link) : (s.modLink n f).patrol = s.patrol := rfl
@[simp] theorem State.modLink_host (s : State) (n : Nat) (f : Link → Link) : (s.modLink n f).host = s.host := rfl
@[simp] theorem State.modLink_modes (s : State) (n : Nat) (f : Link → Link) : (s.modLink n f).modes = s.modes := rfl

/-! ### modFn -/

@[simp] theorem State.modFn_pending (s : State) (f : Nat) (g : HostFnSt → HostFnSt) : (s.modFn f g).pending = s.pending := rfl
@[simp] theorem State.modFn_env (s : State) (f : Nat) (g : HostFnSt → HostFnSt) : (s.modFn f g).env = s.env := rfl
@[simp] theorem State.modFn_timeNs (s : State) (f : Nat) (g : HostFnSt → HostFnSt) : (s.modFn f g).timeNs = s.timeNs := rfl
@[simp] theorem State.modFn_free (s : State) (f : Nat) (g : HostFnSt → HostFnSt) : (s.modFn f g).free = s.free := rfl
@[simp] theorem State.modFn_out (s : State) (f : Nat) (g : HostFnSt → HostFnSt) : (s.modFn f g).out = s.out := rfl
@[simp] theorem State.modFn_mem (s : State) (f : Nat) (g : HostFnSt → HostFnSt) : (s.modFn f g).mem = s.mem := rfl
@[simp] theorem State.modFn_side (s : State) (f : Nat) (g : HostFnSt → HostFnSt) : (s.modFn f g).side = s.side := rfl
@[simp] theorem State.modFn_objs (s : State) (f : Nat) (g : HostFnSt → HostFnSt) : (s.modFn f g).objs = s.objs := rfl
@[simp] theorem State.modFn_cores (s : State) (f : Nat) (g : HostFnSt → HostFnSt) : (s.modFn f g).cores = s.cores := rfl
@[simp] theorem State.modFn_disp (s : State) (f : Nat) (g : HostFnSt → HostFnSt) : (s.modFn f g).disp = s.disp := rfl
@[simp] theorem State.modFn_reds (s : State) (f : Nat) (g : HostFnSt → HostFnSt) : (s.modFn f g).reds = s.reds := rfl
@[simp] theorem State.modFn_chair (s : State) (f : Nat) (g : HostFnSt → HostFnSt) : (s.modFn f g).chair = s.chair := rfl
@[simp] theorem State.modFn_fab (s : State) (f : Nat) (g : HostFnSt → HostFnSt) : (s.modFn f g).fab = s.fab := rfl
@[simp] theorem State.modFn_video (s : State) (f : Nat) (g : HostFnSt → HostFnSt) : (s.modFn f g).video = s.video := rfl
@[simp] theorem State.modFn_mctl (s : State) (f : Nat) (g : HostFnSt → HostFnSt) : (s.modFn f g).mctl = s.mctl := rfl
@[simp] theorem State.modFn_power (s : State) (f : Nat) (g : HostFnSt → HostFnSt) : (s.modFn f g).power = s.power := rfl
@[simp] theorem State.modFn_patrol (s : State) (f : Nat) (g : HostFnSt → HostFnSt) : (s.modFn f g).patrol = s.patrol := rfl
@[simp] theorem State.modFn_modes (s : State) (f : Nat) (g : HostFnSt → HostFnSt) : (s.modFn f g).modes = s.modes := rfl

/-! ### put -/

@[simp] theorem State.put_pending (s : State) (pa : Nat) (bs : List Byte) : (s.put pa bs).pending = s.pending := rfl
@[simp] theorem State.put_env (s : State) (pa : Nat) (bs : List Byte) : (s.put pa bs).env = s.env := rfl
@[simp] theorem State.put_timeNs (s : State) (pa : Nat) (bs : List Byte) : (s.put pa bs).timeNs = s.timeNs := rfl
@[simp] theorem State.put_free (s : State) (pa : Nat) (bs : List Byte) : (s.put pa bs).free = s.free := rfl
@[simp] theorem State.put_out (s : State) (pa : Nat) (bs : List Byte) : (s.put pa bs).out = s.out := rfl
@[simp] theorem State.put_side (s : State) (pa : Nat) (bs : List Byte) : (s.put pa bs).side = s.side := rfl
@[simp] theorem State.put_objs (s : State) (pa : Nat) (bs : List Byte) : (s.put pa bs).objs = s.objs := rfl
@[simp] theorem State.put_cores (s : State) (pa : Nat) (bs : List Byte) : (s.put pa bs).cores = s.cores := rfl
@[simp] theorem State.put_disp (s : State) (pa : Nat) (bs : List Byte) : (s.put pa bs).disp = s.disp := rfl
@[simp] theorem State.put_reds (s : State) (pa : Nat) (bs : List Byte) : (s.put pa bs).reds = s.reds := rfl
@[simp] theorem State.put_chair (s : State) (pa : Nat) (bs : List Byte) : (s.put pa bs).chair = s.chair := rfl
@[simp] theorem State.put_fab (s : State) (pa : Nat) (bs : List Byte) : (s.put pa bs).fab = s.fab := rfl
@[simp] theorem State.put_video (s : State) (pa : Nat) (bs : List Byte) : (s.put pa bs).video = s.video := rfl
@[simp] theorem State.put_mctl (s : State) (pa : Nat) (bs : List Byte) : (s.put pa bs).mctl = s.mctl := rfl
@[simp] theorem State.put_power (s : State) (pa : Nat) (bs : List Byte) : (s.put pa bs).power = s.power := rfl
@[simp] theorem State.put_patrol (s : State) (pa : Nat) (bs : List Byte) : (s.put pa bs).patrol = s.patrol := rfl
@[simp] theorem State.put_host (s : State) (pa : Nat) (bs : List Byte) : (s.put pa bs).host = s.host := rfl
@[simp] theorem State.put_modes (s : State) (pa : Nat) (bs : List Byte) : (s.put pa bs).modes = s.modes := rfl

/-! ### putWord -/

@[simp] theorem State.putWord_pending (s : State) (pa n v : Nat) : (s.putWord pa n v).pending = s.pending := rfl
@[simp] theorem State.putWord_env (s : State) (pa n v : Nat) : (s.putWord pa n v).env = s.env := rfl
@[simp] theorem State.putWord_timeNs (s : State) (pa n v : Nat) : (s.putWord pa n v).timeNs = s.timeNs := rfl
@[simp] theorem State.putWord_free (s : State) (pa n v : Nat) : (s.putWord pa n v).free = s.free := rfl
@[simp] theorem State.putWord_out (s : State) (pa n v : Nat) : (s.putWord pa n v).out = s.out := rfl
@[simp] theorem State.putWord_side (s : State) (pa n v : Nat) : (s.putWord pa n v).side = s.side := rfl
@[simp] theorem State.putWord_objs (s : State) (pa n v : Nat) : (s.putWord pa n v).objs = s.objs := rfl
@[simp] theorem State.putWord_cores (s : State) (pa n v : Nat) : (s.putWord pa n v).cores = s.cores := rfl
@[simp] theorem State.putWord_disp (s : State) (pa n v : Nat) : (s.putWord pa n v).disp = s.disp := rfl
@[simp] theorem State.putWord_reds (s : State) (pa n v : Nat) : (s.putWord pa n v).reds = s.reds := rfl
@[simp] theorem State.putWord_chair (s : State) (pa n v : Nat) : (s.putWord pa n v).chair = s.chair := rfl
@[simp] theorem State.putWord_fab (s : State) (pa n v : Nat) : (s.putWord pa n v).fab = s.fab := rfl
@[simp] theorem State.putWord_video (s : State) (pa n v : Nat) : (s.putWord pa n v).video = s.video := rfl
@[simp] theorem State.putWord_mctl (s : State) (pa n v : Nat) : (s.putWord pa n v).mctl = s.mctl := rfl
@[simp] theorem State.putWord_power (s : State) (pa n v : Nat) : (s.putWord pa n v).power = s.power := rfl
@[simp] theorem State.putWord_patrol (s : State) (pa n v : Nat) : (s.putWord pa n v).patrol = s.patrol := rfl
@[simp] theorem State.putWord_host (s : State) (pa n v : Nat) : (s.putWord pa n v).host = s.host := rfl
@[simp] theorem State.putWord_modes (s : State) (pa n v : Nat) : (s.putWord pa n v).modes = s.modes := rfl

/-! ### setSide -/

@[simp] theorem State.setSide_pending (s : State) (blk e : Nat) : (s.setSide blk e).pending = s.pending := rfl
@[simp] theorem State.setSide_env (s : State) (blk e : Nat) : (s.setSide blk e).env = s.env := rfl
@[simp] theorem State.setSide_timeNs (s : State) (blk e : Nat) : (s.setSide blk e).timeNs = s.timeNs := rfl
@[simp] theorem State.setSide_free (s : State) (blk e : Nat) : (s.setSide blk e).free = s.free := rfl
@[simp] theorem State.setSide_out (s : State) (blk e : Nat) : (s.setSide blk e).out = s.out := rfl
@[simp] theorem State.setSide_mem (s : State) (blk e : Nat) : (s.setSide blk e).mem = s.mem := rfl
@[simp] theorem State.setSide_objs (s : State) (blk e : Nat) : (s.setSide blk e).objs = s.objs := rfl
@[simp] theorem State.setSide_cores (s : State) (blk e : Nat) : (s.setSide blk e).cores = s.cores := rfl
@[simp] theorem State.setSide_disp (s : State) (blk e : Nat) : (s.setSide blk e).disp = s.disp := rfl
@[simp] theorem State.setSide_reds (s : State) (blk e : Nat) : (s.setSide blk e).reds = s.reds := rfl
@[simp] theorem State.setSide_chair (s : State) (blk e : Nat) : (s.setSide blk e).chair = s.chair := rfl
@[simp] theorem State.setSide_fab (s : State) (blk e : Nat) : (s.setSide blk e).fab = s.fab := rfl
@[simp] theorem State.setSide_video (s : State) (blk e : Nat) : (s.setSide blk e).video = s.video := rfl
@[simp] theorem State.setSide_mctl (s : State) (blk e : Nat) : (s.setSide blk e).mctl = s.mctl := rfl
@[simp] theorem State.setSide_power (s : State) (blk e : Nat) : (s.setSide blk e).power = s.power := rfl
@[simp] theorem State.setSide_patrol (s : State) (blk e : Nat) : (s.setSide blk e).patrol = s.patrol := rfl
@[simp] theorem State.setSide_host (s : State) (blk e : Nat) : (s.setSide blk e).host = s.host := rfl
@[simp] theorem State.setSide_modes (s : State) (blk e : Nat) : (s.setSide blk e).modes = s.modes := rfl

/-! ### cnt48 -/

@[simp] theorem State.cnt48_pending (s : State) (k n : Nat) : (s.cnt48 k n).pending = s.pending := rfl
@[simp] theorem State.cnt48_env (s : State) (k n : Nat) : (s.cnt48 k n).env = s.env := rfl
@[simp] theorem State.cnt48_timeNs (s : State) (k n : Nat) : (s.cnt48 k n).timeNs = s.timeNs := rfl
@[simp] theorem State.cnt48_free (s : State) (k n : Nat) : (s.cnt48 k n).free = s.free := rfl
@[simp] theorem State.cnt48_out (s : State) (k n : Nat) : (s.cnt48 k n).out = s.out := rfl
@[simp] theorem State.cnt48_mem (s : State) (k n : Nat) : (s.cnt48 k n).mem = s.mem := rfl
@[simp] theorem State.cnt48_side (s : State) (k n : Nat) : (s.cnt48 k n).side = s.side := rfl
@[simp] theorem State.cnt48_cores (s : State) (k n : Nat) : (s.cnt48 k n).cores = s.cores := rfl
@[simp] theorem State.cnt48_disp (s : State) (k n : Nat) : (s.cnt48 k n).disp = s.disp := rfl
@[simp] theorem State.cnt48_reds (s : State) (k n : Nat) : (s.cnt48 k n).reds = s.reds := rfl
@[simp] theorem State.cnt48_chair (s : State) (k n : Nat) : (s.cnt48 k n).chair = s.chair := rfl
@[simp] theorem State.cnt48_fab (s : State) (k n : Nat) : (s.cnt48 k n).fab = s.fab := rfl
@[simp] theorem State.cnt48_video (s : State) (k n : Nat) : (s.cnt48 k n).video = s.video := rfl
@[simp] theorem State.cnt48_mctl (s : State) (k n : Nat) : (s.cnt48 k n).mctl = s.mctl := rfl
@[simp] theorem State.cnt48_power (s : State) (k n : Nat) : (s.cnt48 k n).power = s.power := rfl
@[simp] theorem State.cnt48_patrol (s : State) (k n : Nat) : (s.cnt48 k n).patrol = s.patrol := rfl
@[simp] theorem State.cnt48_host (s : State) (k n : Nat) : (s.cnt48 k n).host = s.host := rfl
@[simp] theorem State.cnt48_modes (s : State) (k n : Nat) : (s.cnt48 k n).modes = s.modes := rfl

/-! ### cnt16 -/

@[simp] theorem State.cnt16_pending (s : State) (k n : Nat) : (s.cnt16 k n).pending = s.pending := rfl
@[simp] theorem State.cnt16_env (s : State) (k n : Nat) : (s.cnt16 k n).env = s.env := rfl
@[simp] theorem State.cnt16_timeNs (s : State) (k n : Nat) : (s.cnt16 k n).timeNs = s.timeNs := rfl
@[simp] theorem State.cnt16_free (s : State) (k n : Nat) : (s.cnt16 k n).free = s.free := rfl
@[simp] theorem State.cnt16_out (s : State) (k n : Nat) : (s.cnt16 k n).out = s.out := rfl
@[simp] theorem State.cnt16_mem (s : State) (k n : Nat) : (s.cnt16 k n).mem = s.mem := rfl
@[simp] theorem State.cnt16_side (s : State) (k n : Nat) : (s.cnt16 k n).side = s.side := rfl
@[simp] theorem State.cnt16_cores (s : State) (k n : Nat) : (s.cnt16 k n).cores = s.cores := rfl
@[simp] theorem State.cnt16_disp (s : State) (k n : Nat) : (s.cnt16 k n).disp = s.disp := rfl
@[simp] theorem State.cnt16_reds (s : State) (k n : Nat) : (s.cnt16 k n).reds = s.reds := rfl
@[simp] theorem State.cnt16_chair (s : State) (k n : Nat) : (s.cnt16 k n).chair = s.chair := rfl
@[simp] theorem State.cnt16_fab (s : State) (k n : Nat) : (s.cnt16 k n).fab = s.fab := rfl
@[simp] theorem State.cnt16_video (s : State) (k n : Nat) : (s.cnt16 k n).video = s.video := rfl
@[simp] theorem State.cnt16_mctl (s : State) (k n : Nat) : (s.cnt16 k n).mctl = s.mctl := rfl
@[simp] theorem State.cnt16_power (s : State) (k n : Nat) : (s.cnt16 k n).power = s.power := rfl
@[simp] theorem State.cnt16_patrol (s : State) (k n : Nat) : (s.cnt16 k n).patrol = s.patrol := rfl
@[simp] theorem State.cnt16_host (s : State) (k n : Nat) : (s.cnt16 k n).host = s.host := rfl
@[simp] theorem State.cnt16_modes (s : State) (k n : Nat) : (s.cnt16 k n).modes = s.modes := rfl

/-! ### Reads after writes -/

@[simp] theorem State.obj_emit (s : State) (o : Out) (j : Nat) : (s.emit o).obj j = s.obj j := rfl
@[simp] theorem State.obj_tick (s : State) (j : Nat) : s.tick.obj j = s.obj j := rfl
@[simp] theorem State.obj_setCore (s : State) (cl site : Nat) (c : CoreSt) (j : Nat) :
    (s.setCore cl site c).obj j = s.obj j := rfl
@[simp] theorem State.obj_modCore (s : State) (cl site : Nat) (f : CoreSt → CoreSt) (j : Nat) :
    (s.modCore cl site f).obj j = s.obj j := rfl
@[simp] theorem State.obj_modTask (s : State) (cl site : Nat) (f : Task → Task) (j : Nat) :
    (s.modTask cl site f).obj j = s.obj j := rfl
@[simp] theorem State.obj_put (s : State) (pa : Nat) (bs : List Byte) (j : Nat) : (s.put pa bs).obj j = s.obj j := rfl

/-- An object read after a write of an object: the value written at its key, the old value at every other key. -/
theorem State.obj_setObj (s : State) (j k v : Nat) : (s.setObj k v).obj j = if j = k then v else s.obj j := by
  unfold State.setObj State.obj
  by_cases h : j = k
  · subst h
    simp
  · simp only [h, if_false]
    unfold nset
    split
    · exact nget_ndel_ne _ _ h
    · exact nget_nput_ne _ _ h _

@[simp] theorem State.obj_setObj_same (s : State) (k v : Nat) : (s.setObj k v).obj k = v := by simp [State.obj_setObj]

theorem State.obj_setObj_ne (s : State) {j k : Nat} (h : j ≠ k) (v : Nat) : (s.setObj k v).obj j = s.obj j := by
  simp [State.obj_setObj, h]

/-- A core read after a write of a core. -/
theorem State.core_setCore (s : State) (cl site cl' site' : Nat) (c : CoreSt) :
    (s.setCore cl site c).core cl' site' = if cl' * 8 + site' = cl * 8 + site then c else s.core cl' site' := by
  simp [State.setCore, State.core, nget_nset]

@[simp] theorem State.core_setCore_same (s : State) (cl site : Nat) (c : CoreSt) :
    (s.setCore cl site c).core cl site = c := by simp [State.core_setCore]

@[simp] theorem State.core_modCore_same (s : State) (cl site : Nat) (f : CoreSt → CoreSt) :
    (s.modCore cl site f).core cl site = f (s.core cl site) := by simp [State.modCore]

@[simp] theorem State.core_modTask_same (s : State) (cl site : Nat) (f : Task → Task) :
    (s.modTask cl site f).core cl site = { s.core cl site with task := (s.core cl site).task.map f } := by
  simp [State.modTask]

@[simp] theorem State.core_setObj (s : State) (k v cl site : Nat) : (s.setObj k v).core cl site = s.core cl site := rfl
@[simp] theorem State.core_emit (s : State) (o : Out) (cl site : Nat) : (s.emit o).core cl site = s.core cl site := rfl
@[simp] theorem State.core_tick (s : State) (cl site : Nat) : s.tick.core cl site = s.core cl site := rfl
@[simp] theorem State.core_cnt48 (s : State) (k n cl site : Nat) : (s.cnt48 k n).core cl site = s.core cl site := rfl
@[simp] theorem State.core_cnt16 (s : State) (k n cl site : Nat) : (s.cnt16 k n).core cl site = s.core cl site := rfl
@[simp] theorem State.core_put (s : State) (pa : Nat) (bs : List Byte) (cl site : Nat) :
    (s.put pa bs).core cl site = s.core cl site := rfl

/-- A byte of memory read after a store. -/
theorem State.byte_put (s : State) (pa a : Nat) (bs : List Byte) :
    (s.put pa bs).byte a = if pa ≤ a ∧ a < pa + bs.length then bs.getD (a - pa) 0 else s.byte a :=
  nget_nsetRun 0 bs s.mem pa a

theorem State.byte_put_outside (s : State) (pa a : Nat) (bs : List Byte) (h : ¬(pa ≤ a ∧ a < pa + bs.length)) :
    (s.put pa bs).byte a = s.byte a := by simp [State.byte_put, h]

@[simp] theorem State.byte_setObj (s : State) (k v a : Nat) : (s.setObj k v).byte a = s.byte a := rfl
@[simp] theorem State.byte_emit (s : State) (o : Out) (a : Nat) : (s.emit o).byte a = s.byte a := rfl
@[simp] theorem State.byte_setCore (s : State) (cl site : Nat) (c : CoreSt) (a : Nat) :
    (s.setCore cl site c).byte a = s.byte a := rfl

/-- A sidecar entry read after a write of one. -/
theorem State.sideOf_setSide (s : State) (b b' e : Nat) :
    (s.setSide b e).sideOf b' = if b' = b then e else s.sideOf b' := by
  simp [State.setSide, State.sideOf, nget_nset]

/-- Two states are equal when their fields are. -/
theorem State.eq_of_fields {s t : State} (h0 : s.pending = t.pending) (he : s.env = t.env) (h1 : s.timeNs = t.timeNs) (h2 : s.free = t.free)
    (h3 : s.out = t.out) (h4 : s.mem = t.mem) (h5 : s.side = t.side)
    (h6 : s.objs = t.objs) (h7 : s.cores = t.cores) (h8 : s.disp = t.disp)
    (h9 : s.reds = t.reds) (h10 : s.chair = t.chair) (h11 : s.fab = t.fab)
    (h12 : s.video = t.video) (h13 : s.mctl = t.mctl) (h14 : s.power = t.power)
    (h15 : s.patrol = t.patrol) (h16 : s.host = t.host) (h17 : s.modes = t.modes) : s = t := by
  cases s
  cases t
  simp_all

end Sys2Proof.Machine
end

