-- ==== Sys2Proof/Laws/Vector.lean ====
section
/-! SUPPORT. What one word of the vector engine does to the state, said once: `State.vecRow_ran` for a word that runs and
`State.vecRow_stop` for one that waits or fails; and what is read of a register or a mask after it is written. -/

namespace Sys2Proof.Machine

theorem State.applyVec_ran (s : State) (cl site : Nat) (r : VRes) (h : r.stop = none) :
    s.applyVec cl site r = some (s.vecDone cl site r) := by
  unfold State.applyVec
  rw [h]

@[simp] theorem VRes.counted_stop (z : VRes) (op : Bool) : (z.counted op).stop = z.stop := rfl

/-- A word that did not wait and did not fail counts once where it is an operation. -/
theorem VRes.issued_ran {z : VRes} (h : z.stop = none) (op : Bool) : z.issued op = b2n op := by
  simp [VRes.issued, h]

theorem State.vecRow_ran {s : State} {cl site code w : Nat} {t : Task} {x : Section} (ht : s.liveTask cl site = some t)
    (hx : (s.core cl site).sect = some x) (hw : wordOk code w = true)
    (hr : (s.vop code ((s.core cl site).venv t x (s.free * 4096)) (s.core cl site) w).stop = none) :
    s.vecRow cl site code w = s.vecDone cl site
      ((s.vop code ((s.core cl site).venv t x (s.free * 4096)) (s.core cl site) w).counted (code < 0x100)) := by
  unfold State.vecRow
  simp only [ht, hx, hw, Bool.not_true, Bool.false_eq_true, if_false]
  rw [State.applyVec_ran _ _ _ _ (by rw [VRes.counted_stop]; exact hr)]
  rfl

theorem State.vecRow_stop {s : State} {cl site code w : Nat} {t : Task} {x : Section} (ht : s.liveTask cl site = some t)
    (hx : (s.core cl site).sect = some x) (hw : wordOk code w = true) {o : Option Nat}
    (hr : (s.vop code ((s.core cl site).venv t x (s.free * 4096)) (s.core cl site) w).stop = some o) :
    s.vecRow cl site code w = match o with
      | none => s
      | some e => (s.vecDone cl site
          ((s.vop code ((s.core cl site).venv t x (s.free * 4096)) (s.core cl site) w).counted (code < 0x100))).taskFail cl site e := by
  unfold State.vecRow State.applyVec
  simp only [ht, hx, hw, Bool.not_true, Bool.false_eq_true, if_false, VRes.counted_stop, hr]
  cases o <;> rfl

theorem State.liveTask_task {s : State} {cl site : Nat} {t : Task} (h : s.liveTask cl site = some t) :
    (s.core cl site).task = some t := by
  unfold State.liveTask at h
  split at h
  · cases h
  · split at h
    · next u hu =>
      split at h
      · cases h
        exact hu
      · cases h
    · cases h

/-- What a word that ran leaves of the core. -/
theorem State.vecDone_core (s : State) (cl site : Nat) (r : VRes) :
    (s.vecDone cl site r).core cl site =
      { r.c with wdCount := 0, task := r.c.task.map (fun t => { t with ev := t.ev.count r.ev }) } := by
  simp [State.vecDone, State.core, State.taskEv, State.modTask, State.modCore, State.setCore, State.cnt48, State.cnt16,
    State.setObj, State.tick]

theorem State.vecDone_others (s : State) (cl site : Nat) (r : VRes) {n : Nat} (h : n ≠ cl * 8 + site) :
    nget CoreSt.empty (s.vecDone cl site r).cores n = nget CoreSt.empty s.cores n := by
  simp [State.vecDone, State.taskEv, State.modTask, State.modCore, State.setCore, State.cnt48, State.cnt16,
    State.setObj, State.tick, nget_nset_ne _ _ h]

theorem State.vecDone_rest (s : State) (cl site : Nat) (r : VRes) :
    s.vecDone cl site r = { s with cores := (s.vecDone cl site r).cores, objs := (s.vecDone cl site r).objs,
                                       free := s.free + 1 } := by
  apply State.eq_of_fields <;> simp [State.vecDone, State.tick]

theorem kCore_ne {cl site i j : Nat} (h : i ≠ j) : kCore cl site 2 i ≠ kCore cl site 2 j := by
  unfold kCore objKey
  omega

theorem State.vecDone_obj (s : State) (cl site : Nat) (r : VRes) (k : Nat) :
    (s.vecDone cl site r).obj k =
      if k = kCore cl site 2 1 then wrapAdd48 (s.obj k) r.ops
      else if k = kCore cl site 2 2 then wrapAdd48 (s.obj k) r.sfu
      else if k = kCore cl site 2 3 then wrapAdd48 (s.obj k) r.rows
      else if k = kCore cl site 2 4 then satAdd16 (s.obj k) r.bad
      else s.obj k := by
  have h12 := kCore_ne (cl := cl) (site := site) (i := 1) (j := 2) (by decide)
  have h13 := kCore_ne (cl := cl) (site := site) (i := 1) (j := 3) (by decide)
  have h14 := kCore_ne (cl := cl) (site := site) (i := 1) (j := 4) (by decide)
  have h23 := kCore_ne (cl := cl) (site := site) (i := 2) (j := 3) (by decide)
  have h24 := kCore_ne (cl := cl) (site := site) (i := 2) (j := 4) (by decide)
  have h34 := kCore_ne (cl := cl) (site := site) (i := 3) (j := 4) (by decide)
  have hs : ∀ k, ((s.setCore cl site { r.c with wdCount := 0 }).taskEv cl site r.ev).obj k = s.obj k := fun _ => rfl
  unfold State.vecDone
  dsimp only
  generalize (s.setCore cl site { r.c with wdCount := 0 }).taskEv cl site r.ev = u at hs ⊢
  have ht : ∀ (v : State) k, v.tick.obj k = v.obj k := fun _ _ => rfl
  rw [ht]
  unfold State.cnt48 State.cnt16
  simp only [State.obj_setObj, hs]
  generalize kCore cl site 2 1 = k1 at *
  generalize kCore cl site 2 2 = k2 at *
  generalize kCore cl site 2 3 = k3 at *
  generalize kCore cl site 2 4 = k4 at *
  split_ifs <;> simp_all

/-! ### Registers and masks read after a write -/

theorem CoreSt.vreg_setVreg_same (c : CoreSt) (n : Nat) (l : List Nat) (h : l ≠ []) :
    (c.setVreg n l).vreg n = l.map (· % 2 ^ 32) := by
  unfold CoreSt.setVreg CoreSt.vreg
  simp only [nget_nset_same]
  cases l with
  | nil => exact absurd rfl h
  | cons x r => simp

theorem CoreSt.vreg_setVreg_ne (c : CoreSt) {n m : Nat} (h : m ≠ n) (l : List Nat) : (c.setVreg n l).vreg m = c.vreg m := by
  unfold CoreSt.setVreg CoreSt.vreg
  simp only [nget_nset_ne _ _ h]

theorem nth_map_range {α : Type} (d : α) (f : Nat → α) {n i : Nat} (h : i < n) : nth d ((List.range n).map f) i = f i := by
  simp [nth, h]

theorem CoreSt.vreg_lt (c : CoreSt) (n i : Nat) : nth 0 (c.vreg n) i < 2 ^ 32 := by
  have key : ∀ l : List Nat, (∀ x ∈ l, x < 2 ^ 32) → nth 0 l i < 2 ^ 32 := by
    intro l hl
    unfold nth
    rw [List.getD_eq_getElem?_getD]
    cases hx : l[i]? with
    | none => exact Nat.two_pow_pos 32
    | some v => exact hl v (List.mem_of_getElem? hx)
  refine key _ ?_
  unfold CoreSt.vreg
  split
  · intro x hx
    obtain ⟨i, -, rfl⟩ := List.mem_map.1 hx
    split
    · exact Nat.two_pow_pos 32
    · exact BitVec.isLt _
  · intro x hx
    obtain ⟨y, -, rfl⟩ := List.mem_map.1 hx
    exact BitVec.isLt _

theorem CoreSt.vreg_setVreg_range (c : CoreSt) (n : Nat) (f : Nat → Nat) {i : Nat} (h : i < 256) :
    nth 0 ((c.setVreg n ((List.range 256).map f)).vreg n) i = f i % 2 ^ 32 := by
  rw [CoreSt.vreg_setVreg_same _ _ _ (fun e => by simpa using congrArg List.length e), List.map_map, nth_map_range _ _ h]
  rfl

theorem CoreSt.vreg_putLanes (c : CoreSt) (k d : Nat) (f : Nat → Nat) {i : Nat} (h : i < 256) :
    nth 0 ((c.putLanes k d ((List.range 256).map f)).vreg d) i =
      if c.active k i then f i % 2 ^ 32 else nth 0 (c.vreg d) i := by
  unfold CoreSt.putLanes
  dsimp only
  rw [CoreSt.vreg_setVreg_range _ _ _ h, nth_map_range _ _ h]
  split
  · rfl
  · exact Nat.mod_eq_of_lt (c.vreg_lt d i)

theorem getLsbD_maskOf (f : Nat → Bool) {j : Nat} (h : j < 512) : (maskOf ((List.range 512).map f)).getLsbD j = f j := by
  have key : ∀ (l : List Bool) (j : Nat), Nat.testBit (l.foldr (fun b a => 2 * a + b2n b) 0) j = l.getD j false := by
    intro l
    induction l with
    | nil => intro j; simp
    | cons b l ih =>
      intro j
      rw [List.foldr_cons]
      cases j with
      | zero => cases b <;> simp [b2n, Nat.testBit_zero]
      | succ j =>
        rw [Nat.testBit_succ]
        have : (2 * (l.foldr (fun b a => 2 * a + b2n b) 0) + b2n b) / 2 = l.foldr (fun b a => 2 * a + b2n b) 0 := by
          cases b <;> (simp [b2n]; try omega)
        rw [this, ih]
        simp
  unfold maskOf
  rw [BitVec.getLsbD_ofNat, key]
  simp [h]

theorem CoreSt.mask_setMask_ne (c : CoreSt) {k n : Nat} (h : n ≠ k) (m : BitVec 512) : (c.setMask k m).mask n = c.mask n := by
  unfold CoreSt.setMask CoreSt.mask
  simp only [nget_nset_ne _ _ h]

theorem CoreSt.mask_setMask_same (c : CoreSt) {k : Nat} (h : k ≠ 0) (m : BitVec 512) : (c.setMask k m).mask k = m := by
  unfold CoreSt.setMask CoreSt.mask
  simp [h]

end Sys2Proof.Machine
end

