-- ==== Sys2Proof/Tests/Slice0.lean ====
section
/-! SUPPORT. Tests: ill-formed commands are refused by the well-formedness check; one step of a command has the effect that the
spec's tables give; and for every statement with hypotheses a state and operands that meet them (`test_meets_…`). -/

namespace Sys2Proof.Tests
set_option Elab.async false

open Sys2Proof.Machine Sys2Proof.Claims

/-! ### Small states -/

/-- The state after reset with some objects set. -/
def objs (l : List (Nat × Nat)) : State := l.foldl (fun s p => s.setObj p.1 p.2) State.reset

/-- A READY module. -/
def ready (l : List (Nat × Nat)) : State := objs ((kDev 0x3001 1, 3) :: l)

/-- A module whose endpoint is UP with the virtual functions, in a state. -/
def endpoint (st : Nat) (l : List (Nat × Nat)) (f : State → State) : State :=
  f (objs ((kDev 0x3001 1, st) :: (kDev 0x1050 1, 2) :: (kDev 0x1050 5, 8) :: l))

/-- Core CL0/0. -/
def at00 : CoreId := ⟨0, 0⟩

/-- A task of context 0 with a list of commands and a descriptor. -/
def task (d : Nat) (cmds : List Nat) : Task :=
  { uid := 1, desc := d, ctx := 0, qcl := 0, q := 0, plan := none, pos := 0, leaseSeq := 0, step := 0, key := some 0, cmdIndex := 0,
    cmds := cmds, cmdNum := 0, imageDone := true, hold := none, yieldReported := false, ended := false, committed := false,
    current := false, commitTime := 0, codes := [], ev := Ev.none, dups := 0, signals := [], moves := [], commitMoves := [],
    staged := [], dones := [], sigBytes := [], liveKib := 0, badContrib := false, glide := none, gFull := false, gDone := false,
    gOut := [], gTabs := [], gStamps := [], gCounts := [], saveAddr := 0, regions := [], group := 0 }

/-- CL0/0 runs, in a READY module, with this core state. -/
def running (c : CoreSt) : State := (ready [(kCore 0 0 0 1, 2)]).setCore 0 0 c

/-- A core that runs a task, its vector engine a section. -/
def vecCore (t : Task) (x : Section) : CoreSt :=
  { CoreSt.empty with task := some t, sect := some x, masks := [(14, some (BitVec.allOnes 512)), (15, some (BitVec.allOnes 512))] }

/-- A binding block with one absolute generator at address 0, all columns present. -/
def bind0 : Nat := 2 ^ 63 + 2 ^ 62 + 511 * 2 ^ 1181 + 511 * 2 ^ 1112

/-- A standalone section over it. -/
def sect0 : Section := Section.fresh .standalone 0 0 bind0 0 false

/-- CL0/0 in that section. -/
def inVec : State := running (vecCore (task 0 [0]) sect0)

/-- A word of a code: destination 1, sources 2, 3 and 4, mask m0, and an immediate. -/
def word (code imm : Nat) : BitVec 64 :=
  BitVec.ofNat 64 (code / 256 * 2 ^ 62 + code % 256 * 2 ^ 54 + 2 ^ 47 + 2 * 2 ^ 40 + 3 * 2 ^ 33 + 4 * 2 ^ 26 + imm)

theorem ok_of_isOk {ε α : Type} {e : Except ε α} (h : e.isOk = true) : ∃ x, e = .ok x := by
  cases e with
  | ok x => exact ⟨x, rfl⟩
  | error e => cases h

theorem some_of_isSome {α : Type} {e : Option α} (h : e.isSome = true) : ∃ x, e = some x := Option.isSome_iff_exists.1 h

/-! ### Vector operations -/

theorem test_inVec : InSection inVec at00 (task 0 [0]) sect0 := ⟨by decide +kernel, by decide +kernel⟩

/-- The sources of any word of `word` can be read there. -/
def readable (code imm n : Nat) : Bool :=
  wordOk code (word code imm).toNat && ((inVec.core 0 0).operands (env inVec at00 (task 0 [0]) sect0) (word code imm).toNat n).isOk

theorem test_meets_LaneOperationsWriteActiveLanes :
    laneOps.all (fun p => readable p.2.1 0 p.2.2.1) = true ∧ sfuOps.all (fun p => readable p.2.1 0 1) = true := by decide +kernel

theorem test_meets_PackedOperationsWriteActiveHalfLanes : packedOps.all (fun p => readable p.2.1 0 p.2.2.1) = true := by
  decide +kernel

theorem test_meets_MaskOperationsWriteMasks :
    compareOps.all (fun p => readable p.2.1 0 2) = true ∧ maskOps.all (fun p => wordOk p.2.1 (word p.2.1 0).toNat) = true := by
  decide +kernel

theorem test_meets_WholeRegisterResults :
    wholeOps.all (fun p => readable p.2.1 0 p.2.2.1) = true ∧ readable 0x59 0 2 = true ∧ readable 0x5C 0 1 = true := by
  decide +kernel

theorem test_meets_LaneMovesSelectLanes :
    readable 0x55 0 3 = true ∧ readable 0x56 0xFF 1 = true ∧ readable 0x58 (2 ^ 14) 1 = true := by decide +kernel

theorem test_meets_RoundingAndRandomLanes :
    readable 0x0F (2 ^ 18) 1 = true ∧ (env inVec at00 (task 0 [0]) sect0).needsKey 16 = false ∧
    readable 0x57 (2 ^ 18) 2 = true ∧ readable 0x57 (3 * 2 ^ 18) 2 = true ∧ wordOk 0x48 (word 0x48 0).toNat = true ∧
    purposeBits (bParam (bind0 + 5 * 2 ^ 512) 0 % 256) ≠ 0 := by decide +kernel

/-- The address of the lanes of `word` with generator 0 is 0, and its runs fit. -/
theorem test_meets_LoadsFillActiveLanes :
    let c := inVec.core 0 0
    let v := env inVec at00 (task 0 [0]) sect0
    wordOk 0x50 (word 0x50 0).toNat = true ∧ c.genAddr v 0 0 0 = 0 ∧
    c.readStop v 0 ((List.range 256).map (fun i => (4 * i, 4))) = none ∧
    readable 0x53 0 1 = true ∧ wordOk 0x101 (word 0x101 0).toNat = true ∧ v.statFrom ≤ 1 ∧
    (let s := running (vecCore (task 0 [0]) { sect0 with fin := true })
     let v := env s at00 (task 0 [0]) { sect0 with fin := true }
     v.statFrom = 2 ∧ (List.range 256).any ((s.core 0 0).active 0) = true ∧
     (s.core 0 0).readStop v 0 [(statRecord.statAddr (s.core 0 0) v (word 0x101 0).toNat, 12)] = none) := by decide +kernel

theorem test_meets_StoresWriteOperandSram :
    let c := inVec.core 0 0
    let v := env inVec at00 (task 0 [0]) sect0
    let w := (word 0x52 (2 ^ 18)).toNat
    let r := roundLanes 16 (v.storeRand 16 0 0) (c.stored v w) (fun _ => 0)
    readable 0x51 0 1 = true ∧ ((List.range 256).filter (c.stored v (word 0x51 0).toNat)).length = 256 ∧
    c.writeStop v 0 ((List.range 256).map (fun i => (4 * i, 4))) = none ∧
    readable 0x52 (2 ^ 18) 1 = true ∧ v.needsKey 16 = false ∧
    c.writeStop v 0 ((stqRuns 1 0 (c.stored v w) (packElems 1 r.1) r.2.1).map (fun p => (p.1, p.2.length))) = none ∧
    readable 0x54 0 2 = true := by decide +kernel

/-- A sampler descriptor: 4 tokens in binary32 at 0x10000, temperature 1, P 1, one row, the record at 0x20000. -/
def sampler : Nat :=
  4 * 2 ^ 237 + 2 ^ 226 + 0x3F800000 * 2 ^ 176 + 0x3F800000 * 2 ^ 144 + 0x100 * 2 ^ 32 + 0x200 * 2 ^ 16

/-- CL0/0 in a section with that descriptor at address 0. -/
def inSample : State := running { vecCore (task 0 [0]) sect0 with sram := nsetRun 0 [] 0 (toLE 32 sampler) }

theorem test_meets_SampleWritesOneRecordPerRow :
    InSection inSample at00 (task 0 [0]) sect0 ∧ wordOk 0x5D (word 0x5D 0).toNat = true ∧
    (inSample.core 0 0).rdNat 0 32 = sampler ∧ sampleBad sampler = false ∧ bitAt sampler 221 = false ∧
    (env inSample at00 (task 0 [0]) sect0).key = some 0 :=
  ⟨⟨by decide +kernel, by decide +kernel⟩, by decide +kernel, by decide +kernel, by decide +kernel, by decide +kernel, by decide +kernel⟩

/-- An MMA_TILE command of one tile and leaf. -/
def tile0 : Tile :=
  { num := 0, schuss := false, cmd := 0, binding := bind0, aBase := 0, wBase := 0, oBase := 0, pBase := 0, rtM := 128, rtN := 512,
    rtL := 1, issued := 0, reserved := false, yielded := 0, subs := [], drained := [], proDone := 0, stats := [], skips := [], epiRegs := none, proRegs := none, epiGens := [], proGens := [] }

/-- Statistics of an epilogue go to the group, or to the command, by the DEFER field of its entry (R230). -/
def inEpilogue (defer : Nat) : State :=
  running { vecCore (task 0 [0]) { sect0 with kind := .epilogue } with
    rmem := nsetRun 0 [] 16 (toLE 8 (2 ^ 63 + defer * 2 ^ 59)), tiles := [tile0],
    group := some { first := 0, entry := 0, row0 := 0, ntot := 512, nextCol := 512, held := [], stats := [], closing := false, broken := false, finRegs := none } }

theorem test_meets_NopAndStatLeaf :
    wordOk 0 (word 0 0).toNat = true ∧ readable 0x100 0 2 = true ∧ (env inVec at00 (task 0 [0]) sect0).rows = 1 ∧
    (env inVec at00 (task 0 [0]) sect0).statTo = 0 ∧
    (let v := env (inEpilogue 1) at00 (task 0 [0]) { sect0 with kind := .epilogue }
     v.statTo = 1 ∧ 1 ≤ v.rows ∧ (((inEpilogue 1).core 0 0).groupOf v.tile).isSome = true) ∧
    (let v := env (inEpilogue 2) at00 (task 0 [0]) { sect0 with kind := .epilogue }
     v.statTo = 2 ∧ 1 ≤ v.rows ∧ ((inEpilogue 2).core 0 0).tiles.any (fun y => y.num = v.tile) = true) := by decide +kernel

/-- A word no image may hold; no live task; a generator whose slab has not arrived; a generator that is not valid. -/
theorem test_meets_VectorWordsWaitOrFail :
    wordOk 0x50 (word 0x50 1).toNat = true ∧ wordOk 0x50 (word 0x50 (2 ^ 20)).toNat = false ∧
    State.reset.liveTask 0 0 = none ∧
    (let b := 2 ^ 63 + 511 * 2 ^ 1181 + 511 * 2 ^ 1112
     let x := Section.fresh .standalone 0 0 b 0 false
     let s := running (vecCore (task 0 [0]) x)
     InSection s at00 (task 0 [0]) x ∧
       (s.vop 0x50 (env s at00 (task 0 [0]) x) (s.core 0 0) (word 0x50 0).toNat).stop = some none) ∧
    (let x := Section.fresh .standalone 0 0 0 0 false
     let s := running (vecCore (task 0 [0]) x)
     InSection s at00 (task 0 [0]) x ∧
       (s.vop 0x50 (env s at00 (task 0 [0]) x) (s.core 0 0) (word 0x50 0).toNat).stop = some (some cDescriptor)) :=
  ⟨by decide +kernel, by decide +kernel, by decide +kernel, ⟨⟨by decide +kernel, by decide +kernel⟩, by decide +kernel⟩,
    ⟨⟨by decide +kernel, by decide +kernel⟩, by decide +kernel⟩⟩

/-! ### The sequencer, the arrays and routines -/

/-- CL0/0 before a command of its list. -/
def before (w : Nat) : State := running { CoreSt.empty with task := some (task 0 [w]) }

/-- That the sequencer stands before it. -/
def stands (s : State) (op : Nat) (t : Task) (w : Nat) : Bool :=
  s.liveTask 0 0 = some t && !t.ended && t.imageDone && t.hold.isNone && (match s.fetchCmd t t.cmdIndex with
    | .ok x => x = w
    | .error _ => false) && fld w 255 248 = op && !t.glideOpBad op

theorem stands_at {s : State} {op : Nat} {t : Task} {w : Nat} (h : stands s op t w = true) : AtCommand s at00 op t w := by
  unfold stands at h
  simp only [Bool.and_eq_true, decide_eq_true_eq, Bool.not_eq_true', Option.isNone_iff_eq_none] at h
  obtain ⟨⟨⟨⟨⟨⟨h1, h2⟩, h3⟩, h4⟩, h5⟩, h6⟩, h7⟩ := h
  refine ⟨h1, h2, h3, h4, ?_, h6, h7⟩
  cases e : s.fetchCmd t t.cmdIndex with
  | ok x => rw [e] at h5; simpa using h5
  | error x => rw [e] at h5; cases h5

/-- The task's core with a hold, a list that has ended, or an image that is not loaded. -/
def withTask (f : Task → Task) : State := running { CoreSt.empty with task := some (f (task 0 [0])) }

/-- END, RING with a ring of 4 slabs, WAIT, WAIT_RELEASE below and at VALUE, SIGNAL, YIELD; and the cases in which a command
cannot run. -/
theorem test_meets_SequencerRunsItsList :
    (stands (before (2 ^ 248)) 1 (task 0 [2 ^ 248]) (2 ^ 248) = true ∧ (before 0).containment = false ∧
      ((before 0).core 0 0).group = none) ∧
    (let e := 2 ^ 63 + 4 * 2 ^ 37 + 4 * 2 ^ 26
     let w := 2 * 2 ^ 248 + 3 * 2 ^ 244 + e * 2 ^ 64
     stands (before w) 2 (task 0 [w]) w = true ∧ fld w 243 128 = 0 ∧ fld w 63 0 = 0 ∧
       ((before w).core 0 0).ringBusy (task 0 [w]) 3 = false ∧
       ((before w).core 0 0).ringBad 3 ⟨e, 0, 0, [], 0, 0, []⟩ = false) ∧
    stands (before (3 * 2 ^ 248)) 3 (task 0 [3 * 2 ^ 248]) (3 * 2 ^ 248) = true ∧
    (let t := { task 0 [3 * 2 ^ 248 + 2 ^ 192] with hold := some 3, yieldReported := true }
     (running { CoreSt.empty with task := some t }).liveTask 0 0 = some t ∧ State.reset.clServes (tagCl 0) = true ∧
       serialGe ((running { CoreSt.empty with task := some t }).tag 0 0) 1 = false ∧
       serialGe ((running { CoreSt.empty with task := some t }).tag 0 0) 0 = true) ∧
    stands (before (4 * 2 ^ 248)) 4 (task 0 [4 * 2 ^ 248]) (4 * 2 ^ 248) = true ∧
    stands (before (6 * 2 ^ 248)) 6 (task 0 [6 * 2 ^ 248]) (6 * 2 ^ 248) = true ∧
    State.reset.liveTask 0 0 = none ∧ (withTask (fun t => { t with ended := true })).liveTask 0 0 ≠ none ∧
    (withTask (fun t => { t with imageDone := false })).liveTask 0 0 ≠ none ∧
    (withTask (fun t => { t with hold := some 6 })).liveTask 0 0 ≠ none ∧
    ((withTask (fun t => { t with cmds := [] })).fetchCmd (task 0 []) 0).isOk = false ∧
    opcodeDefined (fld 0 255 248) = false ∧
    ({ task 0 [0] with glide := some (2 ^ 510) }).glideOpBad 2 = true := by decide +kernel

/-- A translation table that maps virtual addresses below 2 MiB to the same physical ones. -/
def mapped (s : State) : State :=
  ((((s.put 0x1000000 (toLE 2 1)).put 0x1001000 (toLE 8 (2 ^ 63 + 0x1002000))).put 0x1002000
    (toLE 8 (2 ^ 63 + 2 ^ 62 + 2 ^ 61 + 2 ^ 60))).setTable 1 (some ⟨1, 0x40, 16, 0, ⟨0x1000000, .current, 0, 16⟩,
      ⟨0, .free, 0, 0⟩⟩)).setObj (kDev 0x2400 3) 1 |>.setObj (kDev 0x8000 1) 0x20000000

/-- An MMA_TILE or SCHUSS command of one bfloat16 tile of one leaf. -/
def mma (op : Nat) : Nat :=
  op * 2 ^ 248 + 2 ^ 236 + 2 ^ 232 + 0x10 * 2 ^ 224 + 2 ^ 184 + 2 ^ 176 + 2 * 2 ^ 172 + 0xFF * 2 ^ 160 + 0xFF * 2 ^ 152

/-- The extents of that tile: 128 rows, 512 columns, one leaf. -/
def extents : Nat := 128 * 2 ^ 44 + 512 * 2 ^ 20 + 1

/-- A ring of 100 slabs. -/
def ring100 (filled : Nat) : Ring := { Ring.empty with entry := 2 ^ 63 + 2047 * 2 ^ 37 + 100 * 2 ^ 26, filled := filled }

/-- CL0/0 before that command, its three rings written. -/
def productCore (op : Nat) : CoreSt :=
  { CoreSt.empty with task := some (task extents [mma op]), rings := [(0, ring100 50), (1, ring100 50), (2, ring100 0)] }

theorem test_meets_ProductsStart :
    (let c := productCore 0x10
     stands (running c) 0x10 (task extents [mma 0x10]) (mma 0x10) = true ∧ c.canStartTile = true ∧
       tileCodes c (task extents [mma 0x10]) false (mma 0x10) (.ok none) none = [] ∧ (task extents [mma 0x10]).isProduct = false) ∧
    (let c := productCore 0x11
     stands (running c) 0x11 (task extents [mma 0x11]) (mma 0x11) = true ∧ c.canStartTile = true ∧
       tileCodes c (task (2 ^ 44 + 512 * 2 ^ 20 + 1) [mma 0x11]) true (mma 0x11) (.ok none) none = [] ∧ c.tiles = []) := by
  decide +kernel

/-- CL0/0 with a started SCHUSS command, its rings filled as given. -/
def schussCore (filled : Nat) : CoreSt :=
  { productCore 0x11 with rings := [(0, ring100 filled), (1, ring100 filled), (2, ring100 0)] }.addTile
    (task (2 ^ 44 + 512 * 2 ^ 20 + 1) [mma 0x11]) true (mma 0x11) 0 []

/-- A SCHUSS command that runs, and one whose slabs have not arrived. -/
theorem test_meets_ProductsStart_schuss :
    (schussCore 50).schussNext.isSome = true ∧ (schussCore 0).schussNext = none ∧
    [50, 0].all (fun n => ((running (schussCore n)).liveTask 0 0).isSome &&
      ((schussCore n).tiles.find? (fun x => x.schuss && !x.allIssued)).isSome) = true := by decide +kernel

/-- The command in progress. -/
def tile1 : Tile := { tile0 with cmd := mma 0x10 }

/-- CL0/0 with that command, its first bank as given, and A_RING filled as given. -/
def issueCore (b : Option Bank) (filled : Nat) (other : List Tile) : CoreSt :=
  { productCore 0x10 with tiles := tile1 :: other, bank0 := b, rings := [(0, ring100 filled), (1, ring100 50), (2, ring100 0)] }

/-- The bank that the first MMA needs. -/
def bank1 : Bank := ⟨0, 0, 0, []⟩

/-- A SCHUSS command that holds frames. -/
def held (r : Bool) : Tile := { tile1 with num := 1, schuss := true, reserved := r, cmd := mma 0x11 + 127 * 2 ^ 184 + 3 * 2 ^ 243 }

def canIssue (c : CoreSt) : Bool :=
  (running c).liveTask 0 0 = some (task extents [mma 0x10]) && c.issuing = some tile1 && !tile1.atYield &&
    tile1.live (mmaAt false tile1.cmd tile1.issued)

theorem test_meets_StallCyclesCountTheFirstCause :
    (canIssue (issueCore none 50 []) = true ∧ bankReady (issueCore none 50 []) tile1 = false) ∧
    (canIssue (issueCore (some bank1) 0 []) = true ∧ bankReady (issueCore (some bank1) 0 []) tile1 = true ∧
      actReady (issueCore (some bank1) 0 []) tile1 = false) ∧
    (canIssue (issueCore (some bank1) 50 [held true]) = true ∧ actReady (issueCore (some bank1) 50 [held true]) tile1 = true ∧
      accReady (issueCore (some bank1) 50 [held true]) tile1 = false) := by decide +kernel

theorem test_meets_MmaIssueFoldsOneSlice :
    (canIssue (issueCore (some bank1) 50 []) = true ∧ bankReady (issueCore (some bank1) 50 []) tile1 = true ∧
      actReady (issueCore (some bank1) 50 []) tile1 = true ∧ accReady (issueCore (some bank1) 50 []) tile1 = true) ∧
    (canIssue (issueCore none 50 []) = true ∧
      tile1.nextNeeds.find? (fun p => !bankHolds none tile1 p && !bankHolds none tile1 p) = some ⟨0, 0, 0, 0⟩ ∧
      ((issueCore none 50 []).ring (cWRing tile1.cmd)).resident (tile1.wSlab ⟨0, 0, 0, 0⟩) = true) := by decide +kernel

/-- A descriptor of four binary32 elements in a space: 0 memory, 1 a ring. -/
def mv (op space src dst : Nat) : Nat :=
  op * 2 ^ 1016 + space * 2 ^ 1000 + 0x4688 * 2 ^ 985 + (4 + 2 ^ 20 + 2 ^ 40 + 2 ^ 60 + 2 ^ 80) * 2 ^ 844 + src * 2 ^ 780 + dst * 2 ^ 716

/-- A MOVE command of a plan tile that carries its descriptor. -/
def moveCmd (d : Nat) : Nat := 5 * 2 ^ 248 + (d * 4 + 1) * 2 ^ 256

/-- CL0/0 before that command, with a ring of 100 slabs. -/
def beforeMove (d : Nat) : State := running { CoreSt.empty with task := some (task 0 [moveCmd d]), rings := [(0, ring100 0)] }

/-- A FILL of memory, kept for the commit, and one of a ring. -/
theorem test_meets_MoveIsIssuedOrKept : [mv 2 0 0 0x10000, mv 2 1 0 0].all (fun d =>
    stands (beforeMove d) 5 (task 0 [moveCmd d]) (moveCmd d) &&
    (match (beforeMove d).mvDesc 0 0 (task 0 [moveCmd d]) (moveCmd d) with
      | .ok x => x.1 = d
      | .error _ => false) &&
    mvCodes ((beforeMove d).core 0 0) (task 0 [moveCmd d]) ((beforeMove d).obj (kDev 0x6000 1)) d = []) = true ∧
    mvAtCommit (mv 2 0 0 0x10000) = true ∧ mvAtCommit (mv 2 1 0 0) = false ∧
    ((beforeMove (mv 2 1 0 0)).issueMv (task 0 [moveCmd (mv 2 1 0 0)]) (mv 2 1 0 0)).isOk = true ∧
    (match (beforeMove (mv 2 1 0 0)).issueMv (task 0 [moveCmd (mv 2 1 0 0)]) (mv 2 1 0 0) with
      | .ok x => (beforeMove (mv 2 1 0 0)).tableBad x.2
      | .error _ => true) = false ∧
    stands (beforeMove 0) 5 (task 0 [moveCmd 0]) (moveCmd 0) = true ∧
    ((beforeMove 0).mvDesc 0 0 (task 0 [moveCmd 0]) (moveCmd 0)).isOk = true ∧
    ((beforeMove 0).checkedMv 0 0 (task 0 [moveCmd 0]) 0).isOk = false := by decide +kernel

/-- The first sub-tile of `tile1`, done, its root in binary32. -/
def sub0 : SubTile := { SubTile.fresh 0 0 0 with done := true }

/-- CL0/0 before the drain of a sub-tile (`m` 0: the command of 128 rows; `m` 1: one whose extents leave the sub-tile out). -/
def drainCore (ti : Tile) : CoreSt := { productCore 0x10 with tiles := [ti] }

/-- A sub-tile of a ROOT product, of a NODE product, and one beyond the extents; a delivery that may come, and one that may
not. -/
theorem test_meets_DrainsAndDeliveriesFillTheRings :
    [{ tile1 with subs := [sub0] }, { tile1 with cmd := mma 0x10 + 2 ^ 170, subs := [sub0] }, { tile1 with rtM := 0 }].all (fun ti =>
      (running (drainCore ti)).liveTask 0 0 = some (task extents [mma 0x10]) && (drainCore ti).readyTile 0 0 = some ti &&
      cEpi ti.cmd = 0xFF && ((drainCore ti).ring (cORing ti.cmd)).room (ti.oSlab 0 0) && (drainCore ti).yReady ti 0 0) = true ∧
    cNode (mma 0x10) = false ∧ cNode (mma 0x10 + 2 ^ 170) = true ∧
    (let y := ((drainCore { tile1 with subs := [sub0] }).formY { tile1 with subs := [sub0] } 0 0).1
     (y.tiles.find? (fun x => x.num = 0)).map (fun t => t.sub 0 0) = some (some sub0)) ∧
    (let y := ((drainCore { tile1 with rtM := 0 }).formY { tile1 with rtM := 0 } 0 0).1
     (y.tiles.find? (fun x => x.num = 0)).map (fun t => t.sub 0 0) = some none) ∧
    { productCore 0x10 with deliveries := [⟨2, 0, [], none, false⟩] }.canDeliver ⟨2, 0, [], none, false⟩ = true ∧
    { productCore 0x10 with deliveries := [⟨2, 0, [], some 1, false⟩] }.canDeliver ⟨2, 0, [], some 1, false⟩ = true ∧
    { productCore 0x10 with deliveries := [⟨2, 1, [], none, false⟩] }.canDeliver ⟨2, 1, [], none, false⟩ = false := by decide +kernel

/-- A task that names an image at 0x10000 of this identifier. -/
def imageTask (id : Nat) : Task := { task (0x10000 * 2 ^ 752 + id * 2 ^ 800) [0] with imageDone := false }

/-- An entry of one word (at word 66): standalone (kind 2) or another kind. -/
def entry1 (kind : Nat) : Nat := 2 ^ 63 + kind * 2 ^ 61 + 66 * 2 ^ 47 + 2 ^ 31

/-- A core before the load of an image that names `id`. -/
def beforeImage (id : Nat) : State := mapped (running { CoreSt.empty with task := some (imageTask id) })

theorem nget_below {α : Type} (d : α) (m : NMap α) (b k : Nat) (h : m.all (fun p => decide (b ≤ p.1)) = true) (hk : k < b) :
    nget d m k = d := by
  induction m with
  | nil => rfl
  | cons p r ih =>
    simp only [List.all_cons, Bool.and_eq_true, decide_eq_true_eq] at h
    simp [nget, show p.1 ≠ k by omega, ih h.2]

theorem nsetRun_zeros (k n : Nat) : nsetRun (0 : Byte) [] k (List.replicate n 0) = [] := by
  induction n generalizing k with
  | zero => rfl
  | succ n ih => simpa [List.replicate_succ, nsetRun, nset, ndel] using ih (k + 1)

theorem view_zeros (s : State) (b pa n : Nat) (hs : s.scratchOf pa = none)
    (hm : s.mem.all (fun p => decide (b ≤ p.1)) = true) (h : pa + n ≤ b) : s.view pa n = List.replicate n 0 := by
  simp only [State.view, hs, State.bytes, ngetRun]
  refine List.eq_replicate_iff.2 ⟨by simp, fun x hx => ?_⟩
  obtain ⟨i, hi, rfl⟩ := List.mem_map.1 hx
  exact nget_below 0 _ b _ hm (by have := List.mem_range.1 hi; omega)

/-- The image that is read there is all zeros: it has identifier 0 and no entries. -/
theorem test_image_of_zeros (id : Nat) (h : id = 0 ∨ id = 1) :
    (beforeImage id).readVa ((beforeImage id).accNow (imageTask id)) 0x10000 16384 = .ok (List.replicate 16384 0) := by
  have ht : (beforeImage id).trans ((beforeImage id).accNow (imageTask id)) 0x10000 16384 false =
      .ok [(0x10000, 4096), (0x11000, 4096), (0x12000, 4096), (0x13000, 4096)] := by
    obtain rfl | rfl := h <;> decide +kernel
  have hp : [(0x10000, 4096), (0x11000, 4096), (0x12000, 4096), (0x13000, 4096)].any
      (fun p => (beforeImage id).touchesPoison p.1 p.2) = false := by
    obtain rfl | rfl := h <;> decide +kernel
  have hm : (beforeImage id).mem.all (fun p => decide (0x1000000 ≤ p.1)) = true := by obtain rfl | rfl := h <;> decide +kernel
  have hs : ∀ pa, pa < 0x14000 → (beforeImage id).scratchOf pa = none := fun pa h => by
    have hb : 0x14000 ≤ scratchBase := by decide +kernel
    simp [State.scratchOf, show pa < scratchBase by omega]
  unfold State.readVa
  rw [ht]
  simp only [hp, List.flatMap_cons, List.flatMap_nil, List.append_nil, Bool.false_eq_true, if_false]
  rw [view_zeros _ _ _ _ (hs _ (by omega)) hm (by omega), view_zeros _ _ _ _ (hs _ (by omega)) hm (by omega),
    view_zeros _ _ _ _ (hs _ (by omega)) hm (by omega), view_zeros _ _ _ _ (hs _ (by omega)) hm (by omega)]
  simp only [List.replicate_append_replicate]

theorem test_meets_RoutineImagesAndCommands :
    nsetRun (0 : Byte) [] 0 (List.replicate 16384 0) = [] ∧
    (∀ id, id = 0 ∨ id = 1 → (beforeImage id).readVa ((beforeImage id).accNow (imageTask id)) 0x10000 16384 =
      .ok (List.replicate 16384 0)) ∧ imgNat [] 0 8 = 0 ∧
    ((beforeImage 1).core 0 0).imageReady (imageTask 1).desc = false ∧
    (let t := { task 0 [0] with imageDone := false }
     (running { CoreSt.empty with task := some t }).liveTask 0 0 = some t ∧ CoreSt.empty.imageReady t.desc = true) ∧
    (let s := mapped (running { CoreSt.empty with task := some (imageTask 0) })
     s.liveTask 0 0 = some (imageTask 0) ∧ (s.core 0 0).imageReady (imageTask 0).desc = false ∧ imageBad [] = false) ∧
    (let t := task 0 [0x20 * 2 ^ 248 + 0x10000]
     let w := 0x20 * 2 ^ 248 + 0x10000
     let s := mapped (running { CoreSt.empty with task := some t })
     stands s 0x20 t w = true ∧ s.readVaNat (s.accNow t) (fld w 63 0) 256 = .ok 0 ∧
     routineBad CoreSt.empty 0 = true ∧
     (let c := { CoreSt.empty with task := some t, resident := true, rmem := nsetRun 0 [] 16 (toLE 8 (entry1 2)) }
      stands (mapped (running c)) 0x20 t w = true ∧ routineBad c 0 = false)) :=
  ⟨nsetRun_zeros 0 16384, test_image_of_zeros, by decide +kernel, by decide +kernel, by decide +kernel, by decide +kernel,
    by decide +kernel⟩

/-- CL0/0 runs a standalone section of one NOP, two rows of it. -/
def stepCore (b : Nat) (x : Section) : CoreSt :=
  { vecCore (task 0 [0]) x with rmem := nsetRun 0 [] 16 (toLE 8 (entry1 2) ++ List.replicate 504 0 ++ toLE 8 b) }

/-- A held sub-tile of one row. -/
def heldTile : Held :=
  { tile := 0, cmd := mma 0x10, binding := bind0, rtM := 1, rtN := 512, ni := 0, oSlab := 0, gens := [], slabs := [0], vals := [] }

/-- A complete group. -/
def group0 (h : List Held) : Group :=
  { first := 0, entry := 0, row0 := 0, ntot := 512, nextCol := 512, held := h, stats := [], closing := false, broken := false, finRegs := none }

/-- A binding block whose generator 0 is not absolute: it takes slabs of ring 0. -/
def bindR : Nat := 2 ^ 63 + 511 * 2 ^ 1181 + 511 * 2 ^ 1112

/-- CL0/0 in a section of two rows over a binding block, its one word given. -/
def stepSect (b : Nat) : Section := Section.fresh .standalone 0 0 (b + 2 ^ 1168) 0 false
/-- How the next step of it ends. -/
def stepRes (w : Nat) (x : Section) : VRes := (running (stepCore w x)).stepRows (stepCore w x) (task 0 [0]) x 0

/-- CL0/0 with a group that holds sub-tiles, its entry epilogue 0 with DEFER 1 and a finishing section of one word. -/
def finCore (w : Nat) (h : List Held) : CoreSt :=
  { productCore 0x10 with
    group := some (group0 h),
    rmem := nsetRun 0 [] 16 (toLE 8 (2 ^ 63 + 2 ^ 61 + 2 ^ 59 + 66 * 2 ^ 47 + 2 ^ 21) ++ List.replicate 504 0 ++ toLE 8 w) }
/-- The finishing section of the held sub-tile, and how it ends. -/
def finSect : Section := { Section.fresh .finishing 0 0 bind0 0 false with slabs := [0] }
def finRes (w : Nat) : VRes :=
  let z := (group0 [heldTile]).collapse (State.tm1 State.reset)
  let y := ({ finCore w [heldTile] with group := some z.1 } : CoreSt).enter none finSect
  (running (finCore w [heldTile])).finSteps (task extents [mma 0x10]) 129 (VRes.ok { y.1 with sect := some y.2 } z.2)

/-- A step that waits for a slab, one that fails, one with rows left, the last one; a group that is not ready, an ended one, a
word of the finishing section that fails, and one that ends. -/
theorem test_meets_RoutineStepsRunSections :
    (let x := stepSect bindR
     (stepCore (word 0x50 0).toNat x).sectRows x = 2 ∧ (stepRes (word 0x50 0).toNat x).stop = some none) ∧
    ((running (stepCore 0 (stepSect bind0))).liveTask 0 0).isSome = true ∧
    (stepCore 0 (stepSect bind0)).turn = some (stepCore 0 (stepSect bind0), stepSect bind0, Ev.none) ∧
    (stepRes (word 0x50 (2 ^ 11)).toNat (stepSect bind0)).stop = some (some cDescriptor) ∧
    ((stepRes 0 (stepSect bind0)).stop = none ∧ (stepRes 0 (stepSect bind0)).c.sect.isSome = true ∧
      (stepSect bind0).row + eRps (imgEntry (stepCore 0 (stepSect bind0)).rmem 0) = 1 ∧ unitTurn (stepSect bind0) 1 = false) ∧
    (let x := { stepSect bind0 with row := 1, head := true }
     (stepRes 0 x).stop = none ∧ (stepRes 0 x).c.sect.isSome = true ∧ (stepCore 0 x).sectRows x = 2 ∧
       (stepRes 0 x).c.unitReady { x with row := 2 } = true) ∧
    { finCore 0 [] with sect := some finSect }.groupReady (group0 []) = false ∧ (finCore 0 []).groupReady (group0 []) = true ∧
    (finCore 0 [heldTile]).groupReady (group0 [heldTile]) = true ∧
    (finRes (word 0x50 (2 ^ 11)).toNat).stop = some (some cDescriptor) ∧
    (finRes 0).stop = none ∧ (finRes 0).c.unitReady finSect = true := by decide +kernel

/-- A standalone section of 200 rows at the last row of its first slab, which has arrived. -/
def longSect : Section :=
  { Section.fresh .standalone 0 0 (bindR + 199 * 2 ^ 1168) 0 false with row := 127, head := true, slabs := [0] }

/-- It goes on with its next slab. -/
theorem test_meets_RoutineStepRunsTheSection_units :
    let c := { stepCore 0 longSect with rings := [(0, ring100 1)] }
    let r := (running c).stepRows c (task 0 [0]) longSect 0
    r.stop = none ∧ r.c.sect.isSome = true ∧ c.sectRows longSect = 200 ∧ unitTurn longSect 128 = true ∧
      r.c.unitReady { longSect with row := 128 } = true ∧
    (running c).liveTask 0 0 = some (task 0 [0]) ∧ c.turn = some (c, longSect, Ev.none) := by decide +kernel

/-- Its generators: the rows', and one that no word of it reads, whose slab has not arrived. -/
def waitSect : Section :=
  { longSect with binding := longSect.binding + 2 ^ 127, gens := [⟨0, 0, false⟩, ⟨1, 5, false⟩], slabs := [0, 5] }

/-- The end of a unit, and that of a finishing section, that wait for a slab; a core where no section has its turn. -/
theorem test_meets_RoutineStepsRunSections_waits :
    (let c := { stepCore 0 waitSect with rings := [(0, ring100 1)] }
     let r := (running c).stepRows c (task 0 [0]) waitSect 0
     c.turn = some (c, waitSect, Ev.none) ∧ r.stop = none ∧ unitTurn waitSect 128 = true ∧
       r.c.unitReady { waitSect with row := 128 } = false) ∧
    (let h := { heldTile with gens := [⟨0, 0, false⟩], binding := bindR }
     let x := { Section.fresh .finishing 0 0 bindR 0 false with gens := h.gens, slabs := h.slabs }
     let z := (group0 [h]).collapse (State.tm1 State.reset)
     let c := { finCore 0 [h] with rings := [(0, ring100 0)] }
     let y := (c.setGroup z.1).enter none x
     let r := (running c).finSteps (task extents [mma 0x10]) 129 (VRes.ok { y.1 with sect := some y.2 } z.2)
     c.groupReady (group0 [h]) = true ∧ r.stop = none ∧ r.c.unitReady x = false) ∧
    State.reset.liveTask 0 0 = none ∧ ({ CoreSt.empty with task := some (task 0 [0]) } : CoreSt).turn = none := by decide +kernel

/-! ### Tasks, queues, plans and reductions -/

/-- Queue 0 of cluster 0, of context 0 which runs, with one position whose descriptor at 0x10000 is `d`, in a READY module with
core CL0/0 idle. -/
def queued (d : Nat) : State :=
  ((mapped (ready [(kCtx 0 1, 1), (kQ 0 0 1, 0), (kQ 0 0 3, 0x10000), (kQ 0 0 4, 0), (kQ 0 0 5, 0x20000), (kCore 0 0 0 1, 1)])).setRelay
    0 0 0 1 false).put 0x10000 (toLE 128 d)

/-- A lease of queue 0, position 0. -/
def lease0 (st : LeaseState) : Lease :=
  { valid := true, state := st, queue := 0, site := 0, plan := none, pos := 0, seq := 0, expires := 0, ctx := 0, bound := none,
    desc := 0, cmds := [], step := 0, key := none, group := 0 }

/-- CL0/0 runs `t` with these objects, and holds its lease. -/
def leased (l : List (Nat × Nat)) (c : CoreSt) : State :=
  ((mapped (ready ((kCore 0 0 0 1, 2) :: (kQ 0 0 5, 0x20000) :: l))).setLease 0 (lease0 .running)).setCore 0 0 c

/-- A core with only a task. -/
def only (t : Task) : CoreSt := { CoreSt.empty with task := some t }

/-- A YIELD or WAIT that holds. -/
def heldBy (h : Nat) : Task := { task 0 [0] with hold := some h }

/-- A task at a YIELD whose context runs, and one whose context is pre-empted with the next record at 0x30000. -/
def yieldAt (ctx : Nat) : State :=
  (leased [(kCtx 0 1, ctx)] (only (heldBy 6))).modCtx 0 (fun k => { k with saveNext := 0x30000 })

theorem test_meets_YieldPointsPassOrSave :
    (yieldAt 1).liveTask 0 0 = some (heldBy 6) ∧ (yieldAt 2).liveTask 0 0 = some (heldBy 6) ∧
    (yieldAt 1).ctxState 0 = 1 ∧ (yieldAt 2).ctxState 0 = 2 ∧ ((yieldAt 2).ctx 0).saveFailed = false ∧
    (let v := ((yieldAt 2).renew 0 (heldBy 6)).project (heldBy 6)
     v.canSave 0 0 (heldBy 6) = true ∧
       (v.writeVa (v.accOf 0) (v.ctx 0).saveNext (v.taskRecord 0 0 (heldBy 6))).isOk = true) ∧
    (leased [] (only (heldBy 7))).liveTask 0 0 = some (heldBy 7) ∧ (leased [] (only (heldBy 7))).holds 0 (heldBy 7) = true ∧
    (leased [] (only { heldBy 7 with leaseSeq := 1 })).holds 0 { heldBy 7 with leaseSeq := 1 } = false := by decide +kernel

/-- A command of two products, the first of which has been issued, with a yield point after it. -/
def twoProducts : Nat := mma 0x10 + 2 ^ 243 + 2 ^ 20
def yieldTile0 : Tile := { tile0 with cmd := twoProducts, issued := cK twoProducts }

/-- A core at the yield point of a command; a task in a WAIT; a core that cannot save yet; a record that cannot be written. -/
theorem test_meets_YieldPointsPassOrSave_cases :
    ({ only (task 0 [0]) with tiles := [yieldTile0] } : CoreSt).yieldTile = some yieldTile0 ∧
    (leased [(kCtx 0 1, 1)] (only (heldBy 3))).liveTask 0 0 = some (heldBy 3) ∧ (only (heldBy 3)).yieldTile = none ∧
    (let s := leased [(kCtx 0 1, 2)] { only (heldBy 6) with sect := some sect0 }
     s.liveTask 0 0 = some (heldBy 6) ∧ ((s.renew 0 (heldBy 6)).project (heldBy 6)).canSave 0 0 (heldBy 6) = false) ∧
    (let s := (yieldAt 2).modCtx 0 (fun k => { k with saveNext := 0x40000000 })
     let v := (s.renew 0 (heldBy 6)).project (heldBy 6)
     v.canSave 0 0 (heldBy 6) = true ∧
       (v.writeVa (v.accOf 0) (v.ctx 0).saveNext (v.taskRecord 0 0 (heldBy 6))).isOk = false) := by decide +kernel

theorem test_meets_FaultsFenceTheCore :
    (before 0).siteState 0 0 = 2 ∧ (State.reset.setObj (kCore 0 0 0 1) 0).siteState 0 0 = 0 ∧
    (State.reset.setObj (kCore 0 0 0 1) 3).siteState 0 0 = 3 ∧
    (before 0).liveTask 0 0 = some (task 0 [0]) ∧ ((before 0).core 0 0).wdCount < (before 0).wdLimit 0 0 ∧
    (running { only (task 0 [0]) with wdCount := 1600000 }).liveTask 0 0 = some (task 0 [0]) ∧
    (running (only (task 0 [0]))).wdLimit 0 0 = 1600000 := by decide +kernel

/-- A task whose commands have finished, or which has failed, of this lease sequence. -/
def doneTask (codes : List Nat) (seq : Nat) : Task := { task 0 [0] with ended := true, codes := codes, leaseSeq := seq }

/-- A glided task whose stamp is a page that is not mapped. -/
def gliding : Task := { doneTask [] 0 with glide := some 0, gStamps := [0x40000000] }

/-- CL0/0 with that task as the commit finds it. -/
def atCommit (t : Task) : State :=
  let l := ((leased [] (only t)).modCore 0 0 CoreSt.endWork).modTask 0 0 (fun t => { t with moves := [], hold := none, ended := true })
    |>.modLease 0 0 none 0 (fun l => { l with state := .committed })
  l.modTask 0 0 (fun u => { u with regions := l.outRegions 0 0 t })

theorem test_meets_TaskCommitPublishesOnce :
    [task 0 [0], doneTask [] 0, doneTask [] 1, doneTask [11] 0, gliding].all (fun t =>
      (leased [] (only t)).siteState 0 0 = 2 && (leased [] (only t)).moduleState = 3 && !t.committed &&
      !(leased [] (only t)).stampsBusy t) = true ∧
    (only (task 0 [0])).finished (task 0 [0]) = false ∧ (only (doneTask [] 0)).finished (doneTask [] 0) = true ∧
    (leased [] (only (doneTask [] 0))).holds 0 (doneTask [] 0) = true ∧
    (atCommit (doneTask [] 0)).glideStop (doneTask [] 0) = [] ∧
    (only gliding).finished gliding = true ∧ (leased [] (only gliding)).holds 0 gliding = true ∧
    ((atCommit gliding).glideStop gliding).isEmpty = false ∧
    (leased [] (only (doneTask [] 1))).holds 0 (doneTask [] 1) = false ∧ (leased [] (only (doneTask [11] 0))).holds 0 (doneTask [11] 0) = true ∧
    (leased [] (only (doneTask [] 0))).siteOfUid (doneTask [] 0).uid = some (0, 0) ∧ (doneTask [] 0).dones = [] ∧
    (doneTask [] 0).staged = [] := by decide +kernel

theorem test_meets_CompletionRecordsFreeTheCore :
    [{ doneTask [] 0 with committed := true }, { doneTask [] 0 with committed := true, current := true },
     { doneTask [11] 0 with committed := true, current := true }].all (fun t => !(running (only t)).commitOpen t) = true ∧
    (doneTask [] 0).failing = false ∧ (doneTask [11] 0).failing = true ∧
    (let t := { doneTask [] 0 with signals := [(0, 1)] }
     (running (only t)).signalCodes t = [] ∧ ((running (only t)).setObj (kCl 0 0xB0 2) 3).signalCodes t = [cFenced]) := by decide +kernel

/-- The current holder's record can be written; a core tile of a plan. -/
theorem test_meets_CompletionRecordsFreeTheCore_record :
    let t := { doneTask [] 0 with committed := true, current := true }
    let w := ((leased [] (only t)).leaveCore 0 0).dropLease 0 0 none 0
    (leased [] (only t)).commitOpen t = false ∧
      (w.writeVa (w.accOf 0) (w.qCompl 0 0 + 0 % w.qSize 0 0 * 32) (List.replicate 32 1)).isOk = true ∧
      (running (only { t with plan := some 0 })).commitOpen { t with plan := some 0 } = false := by decide +kernel

theorem test_meets_LeasesAreRenewedAndExpire :
    (leased [] (only (heldBy 3))).liveTask 0 0 = some (heldBy 3) ∧ (leased [] (only (heldBy 3))).holds 0 (heldBy 3) = true ∧
    (leased [] (only (task 0 [0]))).liveTask 0 0 = some (task 0 [0]) ∧
    (objs [(kDev 0x3001 1, 4)]).moduleState = 4 ∧
    (let s := { leased [] CoreSt.empty with timeNs := 1 }
     s.moduleState ≠ 4 ∧ (s.leases 0).filter (fun l => l.valid && l.state = .running && l.expires < s.timeNs) = [lease0 .running]) := by
  decide +kernel

/-- A saved task of queue 0 whose record stands at 0x30000. -/
def st0 : SavedTask := ⟨0x30000, 0, 0, 0, 0, 0, none, Ev.none, 0, 0, [], []⟩
def saved0 : State := (queued 0).modQueue 0 0 (fun x => { x with saved := [st0] })

/-- A task, one of another context, which fails, and a saved task; a core that is not free, and a full lease table. -/
theorem test_meets_WorkRequestStartsATask :
    State.reset.coreFree 0 0 = false ∧
    leaseMax ≤ ((((queued 0).modLeases 0 (fun _ => List.replicate leaseMax (lease0 .running))).leases 0).filter (·.valid)).length ∧
    [queued 0, queued (2 ^ 986)].all (fun s => s.coreFree 0 0 && ((s.leases 0).filter (·.valid)).length < leaseMax &&
      s.chooseWork 0 matches some (0, .head)) = true ∧
    ((queued 0).noteServed 0 0).headDesc 0 0 = .ok 0 ∧ ((queued 0).noteServed 0 0).admission 0 0 (fun _ => []) = .go 0 ∧
    ((queued (2 ^ 986)).noteServed 0 0).headDesc 0 0 = .ok (2 ^ 986) ∧
    ((queued (2 ^ 986)).noteServed 0 0).admission 0 (2 ^ 986) (fun _ => []) = .fail cDescriptor ∧
    (saved0.coreFree 0 0 && saved0.chooseWork 0 matches some (0, .saved none)) = true ∧
    (let v := (saved0.noteServed 0 0).dropSaved 0 0 none
     (v.readVa (v.accOf 0) 0x30000 512).isOk = true ∧ (v.savedCmds 0 st0).isOk = true ∧
       (v.readLive (v.accOf 0) 0x30000 0).isOk = true) := by decide +kernel

/-- That position with a lease, and with a record whose descriptor names a version that no entry holds. -/
theorem test_meets_WorkRequestStartsATask_saved :
    ((saved0.setLease 0 (lease0 .saved)).noteServed 0 0 |>.dropSaved 0 0 none |>.leaseOf 0 0 none 0).isSome = true ∧
    ((saved0.setLease 0 (lease0 .saved)).chooseWork 0 matches some (0, .saved none)) = true ∧
    (let s := saved0.put (0x30000 + 108) [1]
     let v := (s.noteServed 0 0).dropSaved 0 0 none
     (s.chooseWork 0 matches some (0, .saved none)) = true ∧ v.leaseOf 0 0 none 0 = none ∧
       (match v.readVa (v.accOf 0) 0x30000 512 with
         | .ok head => (v.boundCodes (v.resumeLease 0 0 st0 head []).desc).isEmpty
         | .error _ => true) = false) := by decide +kernel

/-- A word at the base of a cluster's scratch; one that is not aligned; one of a cluster that serves nothing; NEXT below LIMIT
and at it. -/
theorem test_meets_QueueObjectsAreWritten :
    (let s := ((queued 0).setObj (kDev 0x1050 1) 2).setObj (kDev 0x1050 5) 8
     s.gate 0 false = .served ∧ s.gate 8 false = .served ∧ s.qLimit 0 0 = 1 ∧ s.ownsCtx 0 (s.qCtx 0 0) = true ∧
     s.ownsCtx 8 (s.qCtx 0 0) = false) ∧
    State.reset.queueIdle 0 0 = true ∧ (queued 0).queueIdle 0 0 = false := by decide +kernel

/-- A plan record of one core tile, and a PLAN descriptor that names it. -/
def planRecord : Nat :=
  2 ^ 1020 + 2 ^ 1016 + 2 ^ 985 + 2 ^ 977 + 2 ^ 969 + 2 ^ 942 + 2 ^ 918 + 32 * 2 ^ 894 + 2 ^ 882 + 4096 * 2 ^ 858 + 0x100000 * 2 ^ 832 +
    0x40000 * 2 ^ 768 + 0x80000 * 2 ^ 704 + 0x11000 * 2 ^ 640
def planDesc : Nat := 2 ^ 984 + 0x12000 * 2 ^ 704 + 2 ^ 44 + 2 ^ 20 + 1

/-- That position at the head of queue 0, its record and its template in memory. -/
def planned : State :=
  (((queued planDesc).setObj (kSeed 0 1) 1).put 0x12000 (toLE 128 planRecord)).put 0x11000 (toLE 32 (mma 0x10) ++ toLE 32 (2 ^ 248))

/-- The plan that is read. -/
def plan0 : Plan :=
  { id := 0, cl := 0, q := 0, pos := 0, ctx := 0, desc := planDesc, record := planRecord, tmpl := [mma 0x10, 2 ^ 248],
    nextChunk := 0, parts := [], codes := [], dups := 0, ev := .none, xlat := some (1, 0), bound := none, step := 0, key := none }

/-- That plan being walked, its first chunk taken or not. -/
def walking (parts : NMap PlanCl) : State :=
  let s := planned
  { s with disp := { s.disp with plans := [{ plan0 with parts := parts }], nextPlan := 1 } }

/-- The place an atomic may touch, where there is one. -/
def atomicPlace (s : State) (pa : Nat) (wide : Bool) : Option (Nat × Nat) := (s.atomicAt pa wide).toOption
/-- What answers one that may not run. -/
def atomicAnswer (s : State) (pa : Nat) (wide : Bool) : Option Out :=
  match s.atomicAt pa wide with
  | .error o => some o
  | .ok _ => none

/-- A plan of one chunk whose tile counter is 16, walked in CL0. -/
def counted : State := walking [(0, ⟨some 0, 0, 1, [], [], []⟩)]

theorem test_meets_AtomicsReturnThePriorValue :
    atomicPlace State.reset (scratchBase + 0x100000) false = some (0, 0x100000) ∧ inLeases 0x100000 = false ∧
    atomicPlace State.reset (scratchBase + 8) true = some (0, 8) ∧
    atomicAnswer State.reset (scratchBase + 4) true = some (.refused stState) ∧ atomicAnswer State.reset 0 false = some (.refused stState) ∧
    atomicAnswer (State.reset.setObj (kCl 0 0xB0 2) 3) scratchBase false = some .fenced ∧
    (State.reset.setObj (kCl 0 0xB0 2) 3).clServes 0 = false ∧ State.reset.clServes 0 = true ∧
    atomicPlace State.reset (scratchBase + 0x80000) false = some (0, 0x80000) ∧ inLeases 0x80000 = true ∧
    State.reset.disp.plans = [] ∧
    counted.disp.plans.length = 1 ∧ (0x40000 + 8 * plan0.tileCtr ≥ 0x40080 ∧ 0x40000 + 8 * plan0.tileCtr < 0x44000 ∧
      bitAt (plClusters plan0.record) 0 = true ∧
      atomicPlace counted (relayPa 0 plan0.tileCtr) false = some (0, 0x40000 + 8 * plan0.tileCtr)) ∧
    State.reset.scratchOf (relayPa 0 0) = some (0, 0x40000) ∧ inControl 0x40000 = true ∧ inHidden 0x40000 = false ∧
    atomicPlace State.reset (relayPa 0 0) false = some (0, 0x40000) ∧
    (queued 0).word (relayPa 0 0) 4 < (queued 0).word (relayPa 0 0 + 4) 4 % 2 ^ 31 ∧
    State.reset.word (relayPa 0 0 + 4) 4 % 2 ^ 31 ≤ State.reset.word (relayPa 0 0) 4 := by decide +kernel

theorem test_meets_PlansAreWalked :
    HeadIs planned 0 0 planDesc ∧ dKind planDesc = 1 ∧
    planned.disp.plans.any (fun p => p.cl = 0 && p.q = 0) = false ∧ planned.admission 0 planDesc (planned.planCodes 0 0 0) = .go planDesc ∧
    (match planned.readPlan 0 0 0 planDesc with
      | .ok p => decide (0 < p.chunks)
      | .error _ => false) = true ∧ planned.plan planned.disp.nextPlan = none ∧
    (planned.setObj (kSeed 0 1) 0).admission 0 planDesc ((planned.setObj (kSeed 0 1) 0).planCodes 0 0 0) = .fail cDescriptor ∧
    ((walking []).disp.plans.find? (fun p => (walking []).planServed p 0 && p.nextChunk < p.chunks && !p.hasNext 0)).isSome = true ∧
    (match (walking [(0, ⟨some 0, 0, 1, [], [], []⟩)]).nextFillOf 0 with
      | some (p, k, c, i) => ((walking [(0, ⟨some 0, 0, 1, [], [], []⟩)]).fillBlock p 0 k c i).isOk
      | none => false) = true :=
  ⟨⟨by decide +kernel, by decide +kernel, by decide +kernel, by decide +kernel⟩, by decide +kernel, by decide +kernel,
    by decide +kernel, by decide +kernel, by decide +kernel, by decide +kernel⟩

/-- The plan with the blocks of its core tile in its buffers; positions that wait for re-issue. -/
def filled (again : List Nat) (tmpl : List Nat) : State :=
  let p := { plan0 with tmpl := tmpl, parts := [(0, ⟨some 0, 0, 1, [⟨0, 0, plan0.blkOf 0 0⟩, ⟨1, 0, plan0.blkOf 1 0⟩], again, []⟩)] }
  { planned with disp := { planned.disp with plans := [p], nextPlan := 1 } }
def reissued : State := ((queued 0).modQueue 0 0 (fun x => { x with reissue := [0] })).setLease 0 (lease0 .expired)

/-- A position that waits for re-issue; a core tile of a plan, and one that waits for re-issue, whose commands can be generated, and
where the template names a descriptor that is not mapped. -/
theorem test_meets_WorkRequestStartsATask_again :
    (reissued.coreFree 0 0 && ((reissued.leases 0).filter (·.valid)).length < leaseMax &&
      reissued.chooseWork 0 matches some (0, .again none 0)) = true ∧ reissued.leaseOf 0 0 none 0 = some (lease0 .expired) ∧
    [([], [mma 0x10, 2 ^ 248], true), ([0], [mma 0x10, 2 ^ 248], true), ([], [5 * 2 ^ 248 + 0x40000000, 2 ^ 248], false),
        ([0], [5 * 2 ^ 248 + 0x40000000, 2 ^ 248], false)].all (fun x =>
      let s := filled x.1 x.2.1
      s.coreFree 0 0 && ((s.leases 0).filter (·.valid)).length < leaseMax &&
      (if x.1 = [] then s.chooseWork 0 matches some (0, .tile 0 0) else s.chooseWork 0 matches some (0, .again (some 0) 0)) &&
      (s.plan 0).any (fun p => (p.bufFor 0 0 (0 / max 1 p.per)).isSome && (p.bufFor 0 1 (0 / max 1 p.per)).isSome &&
        decide (p.q = 0) && ((s.noteServed 0 0).tileCmds p 0 0 0 0).isOk = x.2.2)) = true := by decide +kernel

/-- Leases of a position and of a core tile that a scan finds expired. -/
theorem test_meets_LeasesAreRenewedAndExpire_plans :
    let l := { lease0 .running with plan := some 0 }
    let s := { (walking [(0, ⟨some 0, 0, 1, [], [], []⟩)]).setLease 0 l with timeNs := 1 }
    s.moduleState ≠ 4 ∧ (s.leases 0).filter (fun l => l.valid && l.state = .running && l.expires < s.timeNs) = [l] ∧
      l.plan = some 0 ∧ (s.plan 0).isSome = true := by decide +kernel

/-- A reduction of context 0: two leaves, one element, one block that adder 0 holds, with nodes that it has. -/
def red0 (occ : List (Nat × Nat)) (handled : Bool) : Reduction :=
  { ctx := 0, id := 0, gen := 0, desc := 2 * 2 ^ 260 + 2 ^ 216 + 2 ^ 200, status := .open_, step := 0, key := none, rights := 0xFFFF, xlat := none,
    blocks := [⟨0, occ, [], [], handled⟩], dups := 0, stale := 0, ev := .none, unwritten := false, home := 0 }

/-- The module with it registered. -/
def reduced (r : Reduction) : State := { State.reset with reds := [r] }

/-- A REDUCE descriptor of two leaves and one element, at a destination. -/
def redDesc (dest : Nat) : Nat :=
  2 ^ 985 + 2 * 2 ^ 260 + 2 ^ 216 + 2 ^ 200 + 0x10 * 2 ^ 192 + dest * 2 ^ 64 + 0x50000

/-- What the dispatcher makes of a REDUCE position. -/
def redAdmit (s : State) (d : Nat) : Admit := s.admission 0 d (fun d => s.registerCodes 0 (d % 2 ^ 320))

/-- A module with an identifier of its own. -/
def numbered (s : State) : State := s.setObj (kDev 0x6000 1) 2

/-- A full table of reductions, and a GROUP record of one sample. -/
def groupRec : Nat := 3 * 2 ^ 984 + 2 ^ 288

theorem test_meets_ReduceAndGroupPositions :
    HeadIs (queued (redDesc 0x40000)) 0 0 (redDesc 0x40000) ∧ dKind (redDesc 0x40000) = 2 ∧
    (queued (redDesc 0x40000)).openReds = 0 ∧ redAdmit (queued (redDesc 0x40000)) (redDesc 0x40000) = .go (redDesc 0x40000) ∧
    ({ queued (redDesc 0x40000) with reds := List.replicate 1024 (red0 [] false) } : State).openReds = 1024 ∧
    HeadIs (queued groupRec) 0 0 groupRec ∧ dKind groupRec = 3 ∧ (queued groupRec).headBad 0 groupRec = false ∧
    groupBad (groupRec % 2 ^ 512) = false ∧ (queued groupRec).disp.groups = [] ∧
    (queued groupRec).admission 0 groupRec (fun _ => []) = .go groupRec ∧
    gId (groupRec % 2 ^ 512) ≠ 0xFFF ∧ fld (groupRec % 2 ^ 512) 227 0 = 0 ∧ gSamples (groupRec % 2 ^ 512) ≠ 0 ∧
    SplitGroup.live ⟨0, gId (groupRec % 2 ^ 512), 0, .open_, 0, none, 1, 0, false, 0, 0, 0⟩ = true :=
  ⟨⟨by decide +kernel, by decide +kernel, by decide +kernel, by decide +kernel⟩, by decide +kernel, by decide +kernel,
    by decide +kernel, by decide +kernel, ⟨by decide +kernel, by decide +kernel, by decide +kernel, by decide +kernel⟩,
    by decide +kernel, by decide +kernel, by decide +kernel, by decide +kernel, by decide +kernel, by decide +kernel,
    by decide +kernel, by decide +kernel, by decide +kernel⟩

/-- A head that waits for a mode drain, one that is refused, a table of plans with nothing to take or to fill, and a block
that cannot be read. -/
theorem test_meets_PlansAreWalked_cases :
    State.reset.nextFillOf 0 = none ∧ (planned.disp.plans.find? (fun p => planned.planServed p 0)).isNone = true ∧
    ((walking []).disp.plans.find? (fun p => (walking []).planServed p 0)).any (fun p =>
      (p.firstIn (p.nextChunk * plChunk p.record * p.per) (min ((p.nextChunk + 1) * plChunk p.record) p.tiles * p.per)).isSome) = true ∧
    ((walking []).plan 0).isSome = true ∧
    (let s := (walking [(0, ⟨some 0, 0, 1, [], [], []⟩)]).setTable 1 none
     (match s.nextFillOf 0 with
      | some (p, k, c, i) => !(s.fillBlock p 0 k c i).isOk
      | none => false) = true) := by decide +kernel

/-- A module with an open group 0 of context 0. -/
def waitingGroup (s : State) : State :=
  { s with disp := { s.disp with groups := [⟨0, 0, 0, .open_, 0, none, 1, 0, false, 0, 0, 0⟩] } }

/-- A fallback task of an open group waits; a GROUP position of its identifier does too. -/
theorem test_meets_heads_that_wait :
    (let d := planDesc + 2 * 2 ^ 963
     HeadIs (waitingGroup (queued d)) 0 0 d ∧ dKind d = 1 ∧
       (waitingGroup (queued d)).admission 0 d ((waitingGroup (queued d)).planCodes 0 0 0) = .wait) ∧
    (HeadIs (waitingGroup (queued groupRec)) 0 0 groupRec ∧ (waitingGroup (queued groupRec)).headBad 0 groupRec = false ∧
      (waitingGroup (queued groupRec)).disp.groups.any (fun x => x.id = gId (groupRec % 2 ^ 512) && x.live) = true) :=
  ⟨⟨⟨by decide +kernel, by decide +kernel, by decide +kernel, by decide +kernel⟩, by decide +kernel, by decide +kernel⟩,
    ⟨by decide +kernel, by decide +kernel, by decide +kernel, by decide +kernel⟩, by decide +kernel, by decide +kernel⟩

/-- A reduction of this module, one whose home is module 1, and one that is refused; a GROUP record that is refused, and one
whose identifier is in use. -/
theorem test_meets_ReduceAndGroupPositions_cases :
    (queued (redDesc 0x40000)).homeOf (rdDest (redDesc 0x40000 % 2 ^ 320)) = none ∧ rdLeaves (redDesc 0x40000 % 2 ^ 320) ≠ 0 ∧
    ((queued (redDesc 0x40000)).takeHead 0 0).1.registerCodes 0 (redDesc 0x40000 % 2 ^ 320) = [] ∧
    (let d := redDesc (2 ^ 47)
     redAdmit (numbered (queued d)) d = .go d ∧ (numbered (queued d)).homeOf (rdDest (d % 2 ^ 320)) = some 1) ∧
    redAdmit (queued (2 ^ 985)) (2 ^ 985) = .fail cDescriptor ∧ (queued (2 ^ 985)).headBad 0 (2 ^ 985) = false ∧
    groupBad 0 = true ∧ (queued 0).admission 0 (3 * 2 ^ 984) (fun _ => [cDescriptor]) = .fail cDescriptor ∧
    (reduced (red0 [] false)).redOf 0 0 = some (red0 [] false) ∧ (red0 [] false).status = .open_ ∧
    (let s := { numbered (queued (redDesc (2 ^ 47))) with reds := List.replicate 1024 (red0 [] false) }
     1024 ≤ s.openReds ∧ s.homeOf (rdDest (redDesc (2 ^ 47) % 2 ^ 320)) ≠ none) := by decide +kernel

/-- The header 1 is of context 0, reduction 0, generation 0, block 0, kind 0, and leaf 0 alone. -/
theorem test_meets_AddersPairContributions :
    ReachesOpen (reduced (red0 [] false)) 1 (red0 [] false) ∧ ReachesOpen (reduced (red0 [(0, 1)] false)) 1 (red0 [(0, 1)] false) ∧
    ReachesOpen (reduced (red0 [] true)) 1 (red0 [] true) ∧
    hBlock 1 = 0 ∧ hKind 1 = rdKind (red0 [] false).desc ∧ isCanonical (rdLeaves (red0 [] false).desc) (hA 1) (hB 1) = true ∧
    (recsOf (red0 [] false).desc [0, 0, 0, 0]).length = rdElems (red0 [] false).desc ∧
    OutBlock.resolved ⟨0, [], [], [], false⟩ (hA 1) (hB 1) = false ∧
    (OutBlock.mk 0 [(0, 1)] [] [] false).occ.any (fun o => o.1 ≤ hA 1 && hB 1 ≤ o.2) = true ∧
    State.reset.redOf (hCtx 1) (hRed 1) = none ∧ State.reset.disp.inflight = [] ∧
    (reduced (red0 [] false)).redOf 0 0 = some (red0 [] false) :=
  ⟨⟨by decide +kernel, by decide +kernel, by decide +kernel⟩, ⟨by decide +kernel, by decide +kernel, by decide +kernel⟩,
    ⟨by decide +kernel, by decide +kernel, by decide +kernel⟩, by decide +kernel, by decide +kernel, by decide +kernel,
    by decide +kernel, by decide +kernel, by decide +kernel, by decide +kernel, by decide +kernel, by decide +kernel⟩

/-- A reduction that has closed; one of another GEN, one that is cancelled; a block that it has not, another kind, a node that is
not canonical, records that are too short, and a node whose descendant is there. -/
theorem test_meets_AddersPairContributions_rules :
    (let r := { red0 [] false with status := .closed }
     (reduced r).redOf 0 0 = some r ∧ r.gen = hGen 1 ∧ r.status = .closed ∧ (reduced r).disp.inflight = []) ∧
    (let r := { red0 [] false with gen := 1 }
     (reduced r).redOf 0 0 = some r ∧ r.gen ≠ hGen 1 ∧ r.blocks.any (fun b => b.adder = 0) = true) ∧
    (let r := { red0 [] false with status := .cancelled }
     (reduced r).redOf 0 0 = some r ∧ r.status ≠ .open_ ∧ r.status ≠ .closed) ∧
    (red0 [] false).blocks[1]? = none ∧ rdKind (red0 [] false).desc ≠ 1 ∧ isCanonical (rdLeaves (red0 [] false).desc) 1 3 = false ∧
    (recsOf (red0 [] false).desc []).length ≠ rdElems (red0 [] false).desc ∧
    (let k := OutBlock.mk 0 [(0, 1)] [] [] false
     (k.handled || k.resolved 0 2 || k.occ.any (fun o => o.1 ≤ 0 && 2 ≤ o.2)) = false ∧ k.occ.any (fun o => 0 ≤ o.1 && o.2 ≤ 2) = true) ∧
    (red0 [] true).blocks.all (fun k => k.handled) = true := by decide +kernel

/-! ### Contexts and commits -/

theorem test_meets_SeedKeysAndStepCounters :
    State.reset.slotInUse 0 0 = false ∧ (leased [] CoreSt.empty).slotInUse 0 0 = true ∧ State.reset.stepNow 0 ≠ 2 ^ 64 - 1 ∧
    (objs [(kSeed 0 4, 2 ^ 64 - 1)]).stepNow 0 = 2 ^ 64 - 1 := by decide +kernel

/-- A program for the module's modes after reset. -/
def prog0 : Program := ⟨0, false, false, none, 0, 0⟩

/-- That table, its virtual addresses in the scratch of cluster 0 past its control region. -/
def scratched (s : State) : State :=
  (mapped s).put 0x1002000 (toLE 8 (2 ^ 63 + 2 ^ 62 + 2 ^ 61 + 2 ^ 60 + (scratchBase + 0x200000)))

/-- Context 0 pre-empted, its save area at 0x40000, no task on a core. -/
def preempted : State := scratched (ready [(kCtx 0 1, 2), (kCtx 0 4, 0x40000)])

theorem length_toLE (n v : Nat) : (toLE n v).length = n := by
  induction n generalizing v with
  | zero => rfl
  | succ n ih => simp [toLE, ih]

theorem length_flatMap_toLE (n : Nat) (l : List Nat) : (l.flatMap (toLE n)).length = n * l.length := by
  induction l with
  | nil => rfl
  | cons a l ih => simp [ih, length_toLE, Nat.mul_succ]; omega

/-- The save area of that context has its header, 6,144 words of tags and an empty list of plans. -/
theorem test_area : ∃ l, preempted.areaBytes 0 = ⟨preempted.saveHeader 0 0 0 0 49416 49160 256 false, l, 256, 49416⟩ ∧
    l.length = 49160 := by
  have hq : preempted.boundQueues 0 = [] := by decide +kernel
  have hp : preempted.disp.plans = [] := by decide +kernel
  have hg : preempted.openGroups 0 = [] := by decide +kernel
  have hs : (preempted.ctx 0).saveTasks = [] := by decide +kernel
  have ht : ((preempted.ctx 0).tagsLost || (List.range 12).any (fun cl => !preempted.clServes cl)) = false := by decide +kernel
  obtain ⟨l, hl⟩ : ∃ l, (preempted.tagWords 0 ++ [0]).flatMap (toLE 8) = l := ⟨_, rfl⟩
  have hb : l.length = 49160 := by
    rw [← hl]
    simp only [List.length_append, length_flatMap_toLE, State.tagWords, List.length_map, List.length_range,
      List.length_nil, List.length_cons]
  refine ⟨l, ?_, hb⟩
  simp only [State.areaBytes, hq, hp, hg, hs, ht, List.filter_nil, List.flatMap_nil, List.nil_append, List.append_nil,
    List.length_nil, hl, hb, List.isEmpty_nil, if_true, if_pos (show 256 + 49160 ≤ saveTasksOff by decide +kernel), Nat.max_zero]


/-- Its header can be written, and its body after it. -/
theorem test_area_is_written : ∃ v w, preempted.writeVa (preempted.accOf 0) (preempted.obj (kCtx 0 4)) (preempted.areaBytes 0).hdr = .ok v ∧
    v.writeVa (v.accOf 0) (preempted.obj (kCtx 0 4) + (preempted.areaBytes 0).off) (preempted.areaBytes 0).body = .ok w := by
  obtain ⟨l, hl, hn⟩ := test_area
  have h : (match preempted.writeVa (preempted.accOf 0) (preempted.obj (kCtx 0 4))
      (preempted.saveHeader 0 0 0 0 49416 49160 256 false) with
    | .ok v => (v.trans (v.accOf 0) (preempted.obj (kCtx 0 4) + 256) 49160 true).isOk
    | .error _ => false) = true := by decide +kernel
  rw [hl]
  cases hv : preempted.writeVa (preempted.accOf 0) (preempted.obj (kCtx 0 4))
      (preempted.saveHeader 0 0 0 0 49416 49160 256 false) with
  | error e => rw [hv] at h; cases h
  | ok v =>
    rw [hv] at h
    obtain ⟨x, hx⟩ := ok_of_isOk h
    refine ⟨v, writePieces v x l, rfl, ?_⟩
    simp only [State.writeVa, hn, hx]

/-- A saved context whose area can be read, its header's version 1. -/
def savedCtx (version : Nat) : State := (mapped (ready [(kCtx 0 1, 3), (kCtx 0 4, 0x40000)])).put 0x40000 (toLE 1 version)

/-- A module with a group of context 0 in a state. -/
def grouped (st : GroupState) : State :=
  { State.reset with disp := { State.reset.disp with groups := [⟨0, 5, 0, st, 0, none, 1, 0, false, 0, 0, 0⟩] } }

theorem test_meets_ContextsChangeState :
    State.reset.ctxState 0 = 0 ∧ State.reset.programBad prog0 = false ∧
    State.reset.programBad { prog0 with liveKib := 12289 } = true ∧ (objs [(kCtx 0 1, 3)]).ctxState 0 = 3 ∧
    (let s := (objs [(kCtx 0 1, 2)]).modCtx 0 (fun k => { k with saveFailed := true })
     s.ctxState 0 = 2 ∧ (s.ctx 0).saveFailed = true) ∧
    ((objs [(kCtx 0 1, 1)]).ctxState 0 = 1 ∧ (objs [(kCtx 0 1, 1)]).moduleState ≠ 4) ∧
    (preempted.ctxState 0 = 2 ∧ (preempted.ctx 0).saveFailed = false ∧ preempted.ctxOnCores 0 = false) ∧
    ((savedCtx 1).ctxState 0 = 3 ∧ (savedCtx 1).moduleState ≠ 4 ∧ ((savedCtx 1).restoreArea 0).isSome = true) ∧
    ((savedCtx 2).ctxState 0 = 3 ∧ (savedCtx 2).restoreArea 0 = none) ∧
    (objs [(kCtx 0 1, 4)]).ctxState 0 = 4 ∧
    (((grouped .open_).group 0 5).map (·.state) = some .open_ ∧ (grouped .open_).obj (kCtx 0 6) = 0) ∧
    (grouped .open_).logHeld 0 < (grouped .open_).obj (kCtx 0 8) ∧
    (let s := (grouped .open_).setObj (kCtx 0 8) 0
     s.obj (kCtx 0 8) ≤ s.logHeld 0 ∧ (s.group 0 5).isSome = true) ∧
    ((grouped .closed).group 0 5).map (·.state) = some .closed ∧ State.reset.group 0 5 = none := by
  refine ⟨by decide +kernel, by decide +kernel, by decide +kernel, by decide +kernel, by decide +kernel, by decide +kernel,
    by decide +kernel, ⟨by decide +kernel, by decide +kernel, by decide +kernel⟩, by decide +kernel, by decide +kernel,
    by decide +kernel, by decide +kernel, by decide +kernel, by decide +kernel⟩

/-- A group's decision that can be recorded, and one whose record has no page to go to. -/
theorem test_meets_ContextsChangeState_decisions :
    [(grouped .open_, false), (((mapped (ready [])).setObj (kCtx 0 7) 0x10000).setObj (kCtx 0 8) 4, true)].all (fun x =>
      let s := { x.1 with disp := (grouped .open_).disp }
      s.obj (kCtx 0 6) = 0 && (s.group 0 5).any (fun g => g.state = .open_ && g.record = 0 && g.maxStep.isNone) &&
        s.logHeld 0 < s.obj (kCtx 0 8) &&
        (s.writeVa (s.accOf 0) (s.logAddr 0 (s.logSeq 0))
          (toLE 64 (decisionRec (s.logSeq 0) 0 2 0 (s.stepNow 0) s.timeNs 0 0))).isOk = x.2) = true := by decide +kernel

/-- A RUNNING context 0 whose commit is in progress, its area at 0x40000. -/
def committing (f : Ctx → Ctx) : State := (mapped (ready [(kCtx 0 1, 1), (kCommit 0 5, 1), (kCommit 0 2, 0x40000)])).modCtx 0 f

/-- The first bytes of a commit record of the header alone, with `n` queue records, and their CRC. -/
def head0 (n : Nat) : List Byte := toLE 1 1 ++ toLE 1 0 ++ toLE 1 n ++ List.replicate 22 0 ++ toLE 1 16
def headCrc (n : Nat) : Nat := if n = 0 then 4101235218 else 4004269807
/-- That record, for a context with no group and no decision. -/
def record0 (n : Nat) : List Byte := head0 n ++ List.replicate 4066 0 ++ toLE 4 (headCrc n)
/-- A RUNNING context 0, that record in memory at 0x40000 and its block SEALED; queue 0 of cluster 0 is another context's. -/
def recorded (n : Nat) : State :=
  (((mapped (ready [(kCtx 0 1, 1), (kQ 0 0 1, 1)])).put 0x40000 (head0 n)).put 0x40FFC (toLE 4 (headCrc n))).seal
    0x40 1214729159 1 0 0 0

/-- The record of that context: the tags fill 12 blocks and the empty list of groups one. -/
theorem test_body_length (x : List Byte) (h : (committing (fun k => { k with commitNext := 2 })).commitBody 0 = .ok x) :
    x.length = 53248 := by
  have he : (committing (fun k => { k with commitNext := 2 })).extras 0 = [] := by decide +kernel
  have hq : (committing (fun k => { k with commitNext := 2 })).boundQueues 0 = [] := by decide +kernel
  have hg : (committing (fun k => { k with commitNext := 2 })).openGroups 0 = [] := by decide +kernel
  have hl : (committing (fun k => { k with commitNext := 2 })).logHeld 0 = 0 := by decide +kernel
  have hc : collect ([] : List (Except Nat (List Byte))) = .ok [] := rfl
  simp only [State.commitBody, he, List.map_nil, hc, Except.ok.injEq] at h
  subst h
  simp only [State.sections, hq, hg, hl, padSection, State.decisions, List.flatMap_nil, List.range_zero, List.length_append,
    List.length_nil, List.length_replicate, length_flatMap_toLE, State.tagWords, List.length_map, List.length_range,
    List.length_cons]
  decide

/-- A commit may begin; one is in progress, quiet, its record and header can be written; its copies are out or not; one that has
failed; a record that can be restored; an address with none. -/
theorem test_meets_CommitsAreMadeAndRestored :
    ((objs [(kCtx 0 1, 1)]).ctxState 0 = 1 ∧ (objs [(kCtx 0 1, 1)]).commitState 0 ≠ 1 ∧ (objs [(kCtx 0 1, 1)]).moduleState ≠ 4) ∧
    (let s := committing (fun k => { k with commitNext := 2 })
     s.commitState 0 = 1 ∧ s.ctxState 0 = 1 ∧ (s.ctx 0).commitStage = 0 ∧ s.ctxQuiet 0 = true ∧ s.copyOut 0 = false ∧
       s.extras 0 = [] ∧ afterHeader 53248 ≤ commitMax ∧ (s.ctx 0).slotOff = 0 ∧
       ((List.range 14).all (fun i => match s.trans (s.accOf 0) (0x40000 + 4096 * i) 4096 true with
         | .ok [(pa, _)] => inData pa
         | _ => false)) = true) ∧
    (committing (fun k => { k with commitNext := 2 })).commitState 0 = 1 ∧
    ({ committing (fun k => k) with cores := [(0, only (task 0 [0]))] } : State).ctxQuiet 0 = false ∧
    (let s := committing (fun k => { k with commitStage := 2 })
     s.commitState 0 = 1 ∧ s.copyOut 0 = false ∧ (s.ctx 0).commitStage = 2 ∧ (s.ctx 0).commitFailed = false ∧ s.fab.remote = []) ∧
    ((committing (fun k => { k with commitStage := 1, commitFailed := true })).ctx 0).commitFailed = true ∧
    [0, 1].all (fun n => (recorded n).ctxState 0 = 1 && (recorded n).commitState 0 ≠ 1 && !(recorded n).ctxOnCores 0 &&
      (recorded n).boundQueues 0 = [] && (recorded n).qCtx 0 0 = 1 && (recorded n).obj (kCommit 0 8) = 0) = true ∧
    ((objs [(kCtx 0 1, 1)]).readRecord 0 0x50000).isNone = true := by decide +kernel

theorem nget_gap {α : Type} (d : α) (m : NMap α) (a b k : Nat) (h : m.all (fun p => decide (p.1 < a ∨ b ≤ p.1)) = true)
    (hk : a ≤ k ∧ k < b) : nget d m k = d := by
  induction m with
  | nil => rfl
  | cons p r ih =>
    simp only [List.all_cons, Bool.and_eq_true, decide_eq_true_eq] at h
    simp [nget, show p.1 ≠ k by omega, ih h.2]

theorem ngetRun_add {α : Type} (d : α) (m : NMap α) (k x y : Nat) : ngetRun d m k (x + y) = ngetRun d m k x ++ ngetRun d m (k + x) y := by
  simp [ngetRun, List.range_add, Nat.add_assoc]

theorem test_recorded_bytes (n : Nat) (hn : n = 0 ∨ n = 1) : (recorded n).bytes 0x40000 4096 = record0 n := by
  have hm : (recorded n).mem.all (fun p => decide (p.1 < 0x4001A ∨ 0x40FFC ≤ p.1)) = true := by obtain rfl | rfl := hn <;> decide +kernel
  have h1 : ngetRun (0 : Byte) (recorded n).mem 0x40000 26 = head0 n := by obtain rfl | rfl := hn <;> decide +kernel
  have h3 : ngetRun (0 : Byte) (recorded n).mem 0x40FFC 4 = toLE 4 (headCrc n) := by obtain rfl | rfl := hn <;> decide +kernel
  have h2 : ngetRun (0 : Byte) (recorded n).mem 0x4001A 4066 = List.replicate 4066 0 := by
    refine List.eq_replicate_iff.2 ⟨by simp [ngetRun], fun x hx => ?_⟩
    obtain ⟨i, hi, rfl⟩ := List.mem_map.1 hx
    exact nget_gap 0 _ 0x4001A 0x40FFC _ hm (by have := List.mem_range.1 hi; omega)
  show ngetRun 0 (recorded n).mem 0x40000 4096 = _
  rw [show 4096 = 26 + (4066 + 4) from rfl, ngetRun_add, ngetRun_add, h1, h2, h3]
  simp only [record0, List.append_assoc]

/-- The CRC register over `n` zero bytes, each step evaluated. -/
def crcZeros : Nat → Nat → Nat
  | 0, a => a
  | n + 1, a => match a with
    | 0 => crcZeros n (crcByte 0 0)
    | k + 1 => crcZeros n (crcByte (k + 1) 0)

theorem crcZeros_eq (n a : Nat) : (List.replicate n (0 : Byte)).foldl crcByte a = crcZeros n a := by
  induction n generalizing a with
  | zero => rfl
  | succ n ih =>
    cases a with
    | zero => simp only [List.replicate_succ, List.foldl_cons, ih, crcZeros]
    | succ k => simp only [List.replicate_succ, List.foldl_cons, ih, crcZeros]

theorem length_head0 (n : Nat) : (head0 n).length = 26 := by simp [head0, length_toLE]

theorem test_record_crc (n : Nat) (hn : n = 0 ∨ n = 1) :
    crc32c ((record0 n).take 4092) = headCrc n ∧ crc32c (record0 n) = 1214729159 := by
  have ht : (record0 n).take 4092 = head0 n ++ List.replicate 4066 0 := by
    rw [record0, List.take_left']
    simp only [List.length_append, length_head0, List.length_replicate]
  have hz : crcZeros 4066 ((head0 n).foldl crcByte 0xFFFFFFFF) = headCrc n ^^^ 0xFFFFFFFF := by obtain rfl | rfl := hn <;> decide +kernel
  have hf : (head0 n ++ List.replicate 4066 0).foldl crcByte 0xFFFFFFFF = headCrc n ^^^ 0xFFFFFFFF := by
    rw [List.foldl_append, crcZeros_eq]
    exact hz
  constructor
  · rw [ht, crc32c, hf]; obtain rfl | rfl := hn <;> decide +kernel
  · rw [crc32c, record0, List.foldl_append, hf]; obtain rfl | rfl := hn <;> decide +kernel

/-- The record is read; it has its queue records, and no extra region. -/
theorem test_record_is_read (n : Nat) (hn : n = 0 ∨ n = 1) :
    ∃ h b, (recorded n).readRecord 0 0x40000 = some (h, b) ∧ b.queues.map (fun r => (r.cl, r.q)) = List.replicate n (0, 0) ∧
      b.extras = [] := by
  have ht : (recorded n).trans ((recorded n).accOf 0) 0x40000 4096 false = .ok [(0x40000, 4096)] := by
    obtain rfl | rfl := hn <;> decide +kernel
  have hp : (recorded n).touchesPoison 0x40000 4096 = false := by obtain rfl | rfl := hn <;> decide +kernel
  have hs : (recorded n).scratchOf 0x40000 = none := by obtain rfl | rfl := hn <;> decide +kernel
  have hr : (recorded n).readVa ((recorded n).accOf 0) 0x40000 4096 = .ok (record0 n) := by
    simp only [State.readVa, ht, List.any_cons, List.any_nil, hp, Bool.or_false, Bool.false_eq_true, if_false, List.flatMap_cons,
      List.flatMap_nil, List.append_nil, State.view, hs, test_recorded_bytes n hn]
  have hz : (recorded n).readVa ((recorded n).accOf 0) (0x40000 + 4096) (4096 - 4096) = .ok [] := by
    obtain rfl | rfl := hn <;> decide +kernel
  have hk : (recorded n).sealsHold ((recorded n).accOf 0) 0x40000 4096 = true := by
    have hl : List.range (cdiv 4096 4096) = [0] := by decide +kernel
    have hd : (inData 0x40000 && 0x40000 % 4096 = 0 && sideState ((recorded n).sideOf (0x40000 / 4096)) = 1 &&
      fld ((recorded n).sideOf (0x40000 / 4096)) 255 224 = 1214729159) = true := by obtain rfl | rfl := hn <;> decide +kernel
    have hb : (recorded n).blockCrc (0x40000 / 4096) = 1214729159 := by
      rw [State.blockCrc, show 0x40000 / 4096 * 4096 = 0x40000 from rfl, test_recorded_bytes n hn]; exact (test_record_crc n hn).2
    simp only [State.sealsHold, hl, List.all_cons, List.all_nil, Nat.mul_zero, Nat.add_zero, ht, hb, Bool.and_true]
    exact hd
  have h0 : leNat (((record0 n).drop 0).take 1) = 1 := by obtain rfl | rfl := hn <;> decide +kernel
  have h1 : leNat (((record0 n).drop 4092).take 4) = headCrc n := by obtain rfl | rfl := hn <;> decide +kernel
  have h2 : leNat (((record0 n).drop 24).take 8) % 2 ^ 63 = 4096 := by obtain rfl | rfl := hn <;> decide +kernel
  have h3 : leNat (((record0 n).drop 8).take 8) = (recorded n).obj (kSeed 0 7) := by obtain rfl | rfl := hn <;> decide +kernel
  have h4 : (recorded n).slotsHere (record0 n) = true := by obtain rfl | rfl := hn <;> decide +kernel
  refine ⟨record0 n, parseRecord 0 (leNat (((record0 n).drop 2).take 2)) (leNat (((record0 n).drop 45).take 1))
    ((leNat (((record0 n).drop 36).take 4) + 2 ^ 32 - leNat (((record0 n).drop 40).take 4)) % 2 ^ 32) [], ?_,
    by obtain rfl | rfl := hn <;> decide +kernel, by obtain rfl | rfl := hn <;> decide +kernel⟩
  simp only [State.readRecord, hr, h0, h1, h2, h3, h4, hk, hz, (test_record_crc n hn).1]
  rw [if_neg (by simp [show ¬ commitMax < 4096 by decide +kernel]), if_neg (by simp)]


/-! ### The mover, modes and Glide -/

/-- An issued descriptor. -/
def mvOf (d : Nat) (phys : Bool) : Mv :=
  { desc := d, xlat := some (1, 0), src := none, box := none, phys := phys, turned := none, serial := none, again := false,
    tagged := false, sent := 0 }
/-- A task with that descriptor at the head of its list, and one that has committed. -/
def mvTask (m : Mv) : Task := { task 0 [0] with moves := [m] }
def doneMvTask (m : Mv) : Task := { task 0 [0] with committed := true, commitMoves := [m] }
/-- CL0/0 with the one, and with the other; ring 0 has slabs of 256 bytes. -/
def ring256 : Ring := { Ring.empty with entry := 2 ^ 63 + 2 ^ 37 + 100 * 2 ^ 26 }
def issued (m : Mv) : State := scratched (running { only (mvTask m) with rings := [(0, ring256)] })
def committedMv (m : Mv) : State := scratched (running (only (doneMvTask m)))

theorem issued_at (m : Mv) (h : (issued m).moduleState = 3 ∧ (issued m).clServes 0 = true) :
    HeadIssued (issued m) at00 (mvTask m) m [] (mOp m.desc) := ⟨Or.inl h.1, h.2, rfl, rfl, rfl, rfl, rfl⟩

theorem committed_at (m : Mv) (hs : m.serial = none) (h : (committedMv m).moduleState = 3 ∧ (committedMv m).clServes 0 = true) :
    HeadCommitted (committedMv m) at00 (doneMvTask m) m [] (mOp m.desc) := ⟨Or.inl h.1, h.2, rfl, rfl, rfl, rfl, hs⟩

/-- How a descriptor ends: 0 it is done, 1 it waits, 1000 it goes on, else a code. -/
def mvEnd : MoveRes → Nat
  | .done _ => 0
  | .wait => 1
  | .fail e _ => e
  | .part _ _ => 1000

/-- A COPY of two slabs from the start of a landing region of cluster 0, of which the first has landed. -/
def partMv : Nat :=
  2 ^ 1016 + 2 ^ 1000 + 0x4688 * 2 ^ 985 + (64 + 2 * 2 ^ 20 + 2 ^ 40 + 2 ^ 60 + 2 ^ 80) * 2 ^ 844 + 256 * 2 ^ 572 + 256 * 2 ^ 428
def landing (s : State) (l : NMap Bool) : State :=
  { s.setObj (kCl 0 0x98 1) (0x200 * 2 ^ 40 + 2 ^ 16 + 1) with fab := { s.fab with landed := l } }

/-- Every operation finishes but CROP, which names no box list; a COPY waits for a slab; one makes its first slab; the
committed FILL finishes and the COPY of an unmapped address fails. -/
theorem test_meets_MoverRunsDescriptorsInOrder :
    moverOps.all (fun p => let m := mvOf (mv p.2 0 0x8000 0x10000) false
      (issued m).moduleState = 3 && (issued m).clServes 0 &&
      mvEnd ((issued m).runMove 0 0 (mvTask m) m) = if p.2 = opCrop then cVersion else 0) = true ∧
    (let m := mvOf (mv 1 4 0 0x10000) false
     mvEnd ((issued m).runMove 0 0 (mvTask m) m) = 1) ∧
    (let m := mvOf partMv false
     mvEnd ((landing (issued m) [(0x2000, true)]).runMove 0 0 (mvTask m) m) = 1000) ∧
    State.reset.moduleState ≠ 3 ∧
    [mv 2 0 0 0x10000, mv 1 0 0x40000000 0x10000].all (fun d => let m := mvOf d false
      (committedMv m).moduleState = 3 && (committedMv m).clServes 0 && m.serial.isNone &&
      mvEnd ((committedMv m).runCommit 0 0 (doneMvTask m) m) = if mOp d = 2 then 0 else cTranslation) = true := by decide +kernel

theorem inr_of {α β : Type} {x : Sum α β} (h : x.isRight = true) : ∃ r, x = .inr r := by
  cases x with
  | inl a => cases h
  | inr r => exact ⟨r, rfl⟩

/-- An index descriptor of one index; a CROP of one box of list 2; a fill from the key pages of table 2. -/
def idxMv (op space : Nat) : Nat := mv op space 0x8000 (if space = 0 then 0x10000 else 0) + 0x18000 * 2 ^ 192 + 2 ^ 168
def cropMv (space : Nat) : Nat :=
  mv opCrop space 0x8000 (if space = 0 then 0x10000 else 0) + 2 ^ 171 + 2 ^ 151 + 2 ^ 131 + 2 ^ 111
def boxed (s : State) : State := s.setTable 2 (some ⟨4, 0x40, 16, 0, ⟨0x2000000, .current, 0, 16⟩, ⟨0, .free, 0, 0⟩⟩)
def paged (s : State) : State := s.setTable 2 (some ⟨2, 0x40, 16, 0, ⟨0x2000000, .current, 0, 16⟩, ⟨0, .free, 0, 0⟩⟩)

/-- The descriptor of each operation in a space, 0 memory, 1 a ring. -/
def opMv (op space : Nat) : Mv :=
  if op = opGather ∨ op = opScatter then mvOf (idxMv op space) false
  else if op = opCrop then { mvOf (cropMv space) false with box := some (2, 0) }
  else mvOf (mv op space 0x8000 (if space = 0 then 0x10000 else 0)) false

/-- The state in which each reads, and its job. -/
def opView (s : State) (op : Nat) (m : Mv) : State :=
  if op = opCrop then s.mvCnt 0 3 ((List.range (mExt m.desc 3)).filter (fun k =>
    !boxOk m.desc (s.boxRec 0x2000000 (xBox0 m.desc + k)))).length
  else s
def opJob (s : State) (op : Nat) (m : Mv) : Job :=
  if op = opFill then fillJob m.desc 0 else if op = opCopy then copyJob m.desc 0 else if op = opPad then padJob m.desc 0
  else if op = opGather then gatherJob m.desc 0 [0] else if op = opScatter then scatterJob m.desc 0 [some (some 0, 0)]
  else if op = opCrop then (opView s op m).cropJob m.desc 0 0x2000000 else resampleJob m.desc 0

/-- The state and the task of a descriptor: at the commit where its space is memory, before it where it is a ring. -/
def opState (op sp : Nat) : State := boxed (if sp = 0 then committedMv (opMv op sp) else issued (opMv op sp))
def opTask (op sp : Nat) : Task := if sp = 0 then doneMvTask (opMv op sp) else mvTask (opMv op sp)

theorem test_jobs_are_computed : jobOps.all (fun p => [0, 1].all (fun sp =>
    let m := opMv p.2.1 sp
    let s := opState p.2.1 sp
    s.moduleState = 3 && s.clServes 0 && mOp m.desc = p.2.1 && mDstSpace m.desc = sp && !mvEmpty m.desc 0 && mGen m.desc = 0 &&
      ((opView s p.2.1 m).mvCompute 0 (s.core 0 0) (opTask p.2.1 sp) m.desc m (opJob s p.2.1 m)).isRight)) = true := by decide +kernel

/-- A result is the given one. -/
def okIs {α : Type} [DecidableEq α] (e : Except Nat α) (a : α) : Bool := match e with
  | .ok x => decide (x = a)
  | .error _ => false

theorem ok_eq {α : Type} [DecidableEq α] {e : Except Nat α} {a : α} (h : okIs e a = true) : e = .ok a := by
  cases e with
  | ok x => simpa [okIs] using h
  | error x => cases h

theorem desc_opTask (op sp : Nat) : (opTask op sp).desc = 0 := by unfold opTask; split <;> rfl

theorem opView_other (s : State) (op : Nat) (m : Mv) (h : op ≠ opCrop) : opView s op m = s := if_neg h

/-- The state and the job are those of the operation. -/
theorem test_jobs_are_theirs (p) (hp : p ∈ jobOps) (sp : Nat) (hsp : sp = 0 ∨ sp = 1) :
    p.2.2 (opState p.2.1 sp) at00 (opTask p.2.1 sp) (opMv p.2.1 sp) (opView (opState p.2.1 sp) p.2.1 (opMv p.2.1 sp))
      (opJob (opState p.2.1 sp) p.2.1 (opMv p.2.1 sp)) := by
  have hc : jobOps.all (fun p => [0, 1].all (fun sp => (opState p.2.1 sp).srcBank (opMv p.2.1 sp) = none &&
      (p.2.1 ≠ opGather && p.2.1 ≠ opScatter || xMaskAddr (opMv p.2.1 sp).desc = 0 &&
        okIs ((opState p.2.1 sp).readIdx (opTask p.2.1 sp) (opMv p.2.1 sp).desc (opMv p.2.1 sp) 0 (xIdxCount (opMv p.2.1 sp).desc)) [0] &&
        okIs ((opState p.2.1 sp).scatterEff (opTask p.2.1 sp) (opMv p.2.1 sp).desc (opMv p.2.1 sp) 0 (xIdxCount (opMv p.2.1 sp).desc))
          [some (some 0, 0)]) &&
      (p.2.1 ≠ opCrop || (opMv p.2.1 sp).box = some (2, 0) && ((opState p.2.1 sp).table 2).any (fun tb => tb.bank 0 = ⟨0x2000000, .current, 0, 16⟩) &&
        xBox0 (opMv p.2.1 sp).desc + mExt (opMv p.2.1 sp).desc 3 ≤ 16 * 128 && (opMv p.2.1 sp).sent = 0 && !(opState p.2.1 sp).containment &&
        !(opState p.2.1 sp).touchesPoison (0x2000000 + 32 * xBox0 (opMv p.2.1 sp).desc) (32 * mExt (opMv p.2.1 sp).desc 3)))) = true := by
    decide +kernel
  have hd := desc_opTask p.2.1 sp
  have h := List.all_eq_true.1 (List.all_eq_true.1 hc p hp) sp (by obtain rfl | rfl := hsp <;> simp)
  generalize opState p.2.1 sp = s at *
  generalize opTask p.2.1 sp = t at *
  generalize opMv p.2.1 sp = m at *
  clear hc hsp
  simp only [jobOps, List.mem_cons, List.not_mem_nil, or_false] at hp
  obtain rfl | rfl | rfl | rfl | rfl | rfl | rfl | rfl := hp <;>
    simp [opFill, opCopy, opPad, opUp2, opDown2, opGather, opScatter, opCrop, opView, opJob, hd] at h ⊢
  · exact Or.inl (fun b c hb => by simp [h] at hb)
  · exact ⟨h.2.1.1, [0], ok_eq h.2.1.2, rfl⟩
  · exact ⟨[some (some 0, 0)], ok_eq h.2.2, rfl⟩
  · obtain ⟨-, ⟨⟨⟨⟨hb, ht⟩, hx⟩, hn⟩, hk⟩, hp⟩ := h
    have hu : ∀ l, s.unverified l = none := fun l => by simp [State.unverified, hk]
    have hm : ∀ n, s.mvCntOnce 0 m n = s.mvCnt 0 3 n := fun n => by simp [State.mvCntOnce, hn]
    cases hs : s.table 2 with
    | none => rw [hs] at ht; cases ht
    | some tb =>
      have hk : tb.bank 0 = ⟨0x2000000, .current, 0, 16⟩ := by simpa [hs] using ht
      exact ⟨2, 0, hb, tb, hs, by rw [hk]; exact hx, by rw [hk]; exact hp, hu _, by rw [hk]; exact (hm _).symm, by rw [hk]⟩

theorem test_meets_MoverWritesTheDestinationView : ∀ p ∈ jobOps,
    (∃ s t m v j r, HeadCommitted s at00 t m [] p.2.1 ∧ p.2.2 s at00 t m v j ∧ mDstSpace m.desc = 0 ∧
      mvEmpty m.desc t.desc = false ∧ v.mvCompute 0 (s.core 0 0) t m.desc m j = .inr r ∧ mGen m.desc ≠ 2 ∧ m.bits = none) ∧
    (∃ s t m v j r, HeadIssued s at00 t m [] p.2.1 ∧ p.2.2 s at00 t m v j ∧ mDstSpace m.desc = 1 ∧
      mvEmpty m.desc t.desc = false ∧ v.mvCompute 0 (s.core 0 0) t m.desc m j = .inr r ∧ mGen m.desc ≠ 2) := by
  intro p hp
  have h := List.all_eq_true.1 test_jobs_are_computed p hp
  simp only [List.all_cons, List.all_nil, Bool.and_eq_true, decide_eq_true_eq, Bool.not_eq_true', Bool.and_true] at h
  obtain ⟨⟨⟨⟨⟨⟨⟨a1, a2⟩, a3⟩, a4⟩, a5⟩, a6⟩, a7⟩, ⟨⟨⟨⟨⟨⟨b1, b2⟩, b3⟩, b4⟩, b5⟩, b6⟩, b7⟩⟩ := h
  obtain ⟨r, hr⟩ := inr_of a7
  obtain ⟨q, hq⟩ := inr_of b7
  have hs : (opMv p.2.1 0).serial = none := by unfold opMv; split_ifs <;> rfl
  have hz : (opMv p.2.1 0).bits = none := by unfold opMv; split_ifs <;> rfl
  exact ⟨⟨_, _, _, _, _, r, ⟨Or.inl a1, a2, rfl, rfl, rfl, a3, hs⟩, test_jobs_are_theirs p hp 0 (Or.inl rfl), a4, a5, hr, by omega, hz⟩,
    ⟨_, _, _, _, _, q, ⟨Or.inl b1, b2, rfl, rfl, rfl, rfl, b3⟩, test_jobs_are_theirs p hp 1 (Or.inr rfl), b4, b5, hq, by omega⟩⟩

/-- GATHER with a mask into a ring: its slabs before the commit, and the bits of its mask at it. -/
theorem test_meets_MoverWritesTheDestinationView_masks :
    (let m := mvOf (idxMv opGather 1 + 0x1C000 * 2 ^ 104) false
     let s := issued m
     let t := mvTask m
     HeadIssued s at00 t m [] opGather ∧ xMaskAddr m.desc ≠ 0 ∧ mDstSpace m.desc = 1 ∧ mvEmpty m.desc 0 = false ∧
       s.idxLanded 0 0 t m 0 (xIdxCount m.desc) false = true ∧
       (match s.readIdx t m.desc m 0 (xIdxCount m.desc) with
        | .ok idx => decide (mvEnd (s.mvRun 0 0 t m.desc m (gatherJob m.desc 0 idx)) = 0)
        | .error _ => false) = true) ∧
    (let m := { mvOf (idxMv opGather 1 + 0x1C000 * 2 ^ 104) false with bits := some [true] }
     let s := committedMv m
     HeadCommitted s at00 (doneMvTask m) m [] opGather ∧ m.bits = some [true] ∧
       (s.places (s.core 0 0) (s.accMv (doneMvTask m) m) (.virt 0) true (maskRuns m.desc)).isOk = true) :=
  ⟨⟨⟨Or.inl (by decide +kernel), by decide +kernel, rfl, rfl, rfl, rfl, by decide +kernel⟩, by decide +kernel, by decide +kernel,
      by decide +kernel, by decide +kernel, by decide +kernel⟩,
    ⟨Or.inl (by decide +kernel), by decide +kernel, rfl, rfl, rfl, by decide +kernel, rfl⟩, rfl, by decide +kernel⟩

/-- A fill from key pages; GATHER with a mask; a window descriptor. -/
theorem test_meets_MoverWritesTheDestinationView_cases :
    (let m : Mv := { mvOf (mv opCopy 0 0 0x10000) false with src := some (2, 0) }
     let s := paged (committedMv m)
     let keys := pageKeys m.desc 0
     s.srcBank m = some (2, 0x2000000) ∧ s.touchesPoison 0x2000000 64 = false ∧ s.containment = false ∧ m.sent = 0 ∧ pageBad m.desc (s.pageHdr 0x2000000) = false ∧
       keys.length = 1 ∧ keys.all (fun k => phKeys (s.pageHdr 0x2000000) ≤ k) = true ∧
       (let v := s.mvCnt 0 3 keys.length
        (v.mvCompute 0 (s.core 0 0) (doneMvTask m) m.desc m { copyJob m.desc 0 with
          picks := fun i => [v.pagePick m.desc 0x2000000 i] }).isRight) = true) ∧
    (let m := mvOf (idxMv opGather 0 + 0x1C000 * 2 ^ 104) false
     let s := committedMv m
     let t := doneMvTask m
     xMaskAddr m.desc ≠ 0 ∧ mvEmpty m.desc 0 = false ∧ s.idxLanded 0 0 t m 0 (xIdxCount m.desc) false = true ∧ m.bits = none ∧
       (match s.readIdx t m.desc m 0 (xIdxCount m.desc), s.mvRun 0 0 t m.desc m (gatherJob m.desc 0 [0]) with
        | .ok idx, .done w => decide (idx = [0]) &&
          ((w.core 0 0).task.all (fun t => t.commitMoves.head?.all (fun m => m.serial.isNone))) &&
          (let eff := idx.map (effIndex (mIdxMode m.desc) (mEff m.desc 0 (mIdxDim m.desc)))
           let x := (w.idxCount 0 eff).cnt48 (kCl 0 0x80 2) (coalesced (sliceBytes m.desc 0) (eff.map (·.1)))
           (x.places (x.core 0 0) (x.accMv t m) (.virt 0) true (maskRuns m.desc)).isOk)
        | _, _ => false) = true) ∧
    [opWindow, opWindowT].all (fun op =>
      let m := mvOf (mv op 1 0x8000 0) false
      let s := issued m
      let runs := (windowPicks m.desc).flatMap (slabPickRuns (mSrcView m.desc))
      s.moduleState = 3 && s.clServes 0 && mSrcSpace m.desc = 0 && !mChk m.desc && !s.containment &&
        !s.csumBad (s.core 0 0) (mvTask m) m.desc m &&
        (match s.places (s.core 0 0) (s.accMv (mvTask m) m) (mSrcPort s m.desc m) false runs with
         | .ok pl => s.landedAll 0 pl && !pl.any (fun q => !q.sram && s.touchesPoison q.a q.n)
         | .error _ => false)) = true := by decide +kernel

/-- A broadcast that has started, with a packet on its way out and with none; SCATTER_ADD of one index. -/
theorem test_meets_CommitDescriptorsRun :
    (let m : Mv := { mvOf (mv opCopy 2 0x8000 (0x1FFFF * 2 ^ 47 + 5 * 2 ^ 30)) false with sent := 1 }
     let s := numbered (committedMv m)
     let v := s.modLink 0 (fun l => { l with outQ := [⟨[(tyBlock * 2 ^ 216 + 5 * 2 ^ 156 + s.ownId * 2 ^ 105) * 2 ^ 64], false, 0, 0, none, none⟩] })
     mvBcast m.desc = some 5 ∧ m.bits = none ∧ m.sent ≠ 0 ∧ s.moduleState = 3 ∧ s.clServes 0 = true ∧ s.bcastWaits 5 = false ∧
       v.bcastWaits 5 = true ∧
       (s.sendBcast 0 0 (doneMvTask m) m.desc ⟨[(0, List.replicate 10 0)], .none, [], [], none⟩ matches .fail _ _) = true) ∧
    (let m := mvOf (idxMv opScatterAdd 0 + 2 ^ 40 + 2 ^ 24) false
     let s := committedMv m
     s.moduleState = 3 ∧ s.clServes 0 = true ∧ s.reds = [] ∧
       (match s.scatterAddStage 0 0 (doneMvTask m) m.desc m with
        | .inr x => !x.staged.isEmpty
        | .inl _ => false) = true ∧ mvEnd (s.runCommit 0 0 (doneMvTask m) m) = 0) := by decide +kernel

/-- A COPY of the first granule of a landing region, to memory once its task has committed and to a ring before. -/
def landedMv (space : Nat) : Mv := mvOf (mv opCopy space 0 (if space = 0 then 0x10000 else 0)) false

/-- A DELTA task: its header at 0x30000 is of one row, one column and one element. -/
def deltaRec : Nat := 2 ^ 510 + 0x30000 * 2 ^ 192 + 0x40000 * 2 ^ 256
def deltaHdr : Nat := 2 ^ 420 + 2 ^ 396 + 2 ^ 372
def inDelta : State :=
  (mapped (running (only { task (2 ^ 44) [2 ^ 248] with ended := true, glide := some deltaRec }))).put 0x30000 (toLE 64 deltaHdr)

theorem test_meets_LandedReadsAndDeltaPasses :
    nget false State.reset.fab.landed 0x2000 = false ∧
    [0, 1].all (fun sp => let m := landedMv sp
      let s := landing (if sp = 0 then committedMv m else issued m) [(0x2000, true)]
      nget false s.fab.landed 0x2000 && (List.range 8).find? (fun k => s.readsGranule 0 k 0x2000) = some 0 &&
        (s.headMove 0 0).isSome && mOp m.desc = opCopy && mDstSpace m.desc = sp && !mvEmpty m.desc 0 && (s.srcBank m).isNone &&
        (s.mvCompute 0 (s.core 0 0) (if sp = 0 then doneMvTask m else mvTask m) m.desc m (copyJob m.desc 0)).isRight) = true ∧
    (let t := { task (2 ^ 44) [2 ^ 248] with ended := true, glide := some deltaRec }
     let acc := inDelta.accTask t (inDelta.xlatTag t.ctx)
     inDelta.liveTask 0 0 = some t ∧ t.isDelta = true ∧ inDelta.readVaNat acc (glState deltaRec) 64 = .ok deltaHdr ∧
       deltaBad deltaRec deltaHdr = false ∧ extM (extWord t.desc 0) ≤ ghM deltaHdr ∧
       (inDelta.deltaAll acc deltaRec deltaHdr (glideFull deltaRec deltaHdr) (extM (extWord t.desc 0))
         ((List.range (glRowbs deltaRec)).map (fun i => glRowb0 deltaRec + i)) ⟨[], [], [], .none, [0, 0, 0, 0, 0, 0]⟩).isOk = true) := by
  decide +kernel

theorem test_meets_ModesDrainAndApply :
    State.reset.obj (kDev 0x2002 2) = 0 ∧ State.reset.obj (kDev 0x2002 1) ≤ 1 ∧ State.reset.obj (kDev 0x2001 2) = 0 ∧
    State.reset.obj (kDev 0x2001 1) ≤ 1 ∧ State.reset.obj (kDev 0x2010 2) ≠ 1 ∧
    (let s := objs [(kDev 0x2002 2, 1), (kDev 0x2001 2, 1), (kDev 0x2010 2, 1)]
     s.anyWork = false ∧ s.anyGlide = false ∧ [0x2001, 0x2002, 0x2010].all (fun k => s.obj (kDev k 2) = 1) = true) ∧
    ({ State.reset with modes := { State.reset.modes with function := some 1, containment := some 1 } } : State).modes.function = some 1 ∧
    (leased [] CoreSt.empty).anyWork = true := by decide +kernel

/-! ### The Chairlift -/

/-- A READY module whose Chairlift's ring at 0x10000 holds a command. -/
def chair (c : Nat) (l : List (Nat × Nat)) : State :=
  (ready ((kChair 4, 0x10000) :: (kChair 5, 0) :: (kChair 7, 1) :: l)).put 0x10000 (toLE 64 c)

/-- The command is at the head and no code refuses it. -/
def chairOk (s : State) (c : Nat) : Bool := s.chairHead = some (0, c) && s.chairCodes c = []

/-- Slot 0 of one block, its entry 0 placed at 0x100000 and holding version 1 in a state. -/
def slot0 (state : Nat) (l : List (Nat × Nat)) : List (Nat × Nat) :=
  (kSlot 0 1, 4096) :: (kSlot 0 3, 2 ^ 63 + 0x100000) :: (kSlot 0 6, state) :: (kSlot 0 9, if state = 0 then 0 else 1) :: l

/-- A command of an operation on version 1 of slot 0, its SOURCE, and one on table 5. -/
def chCmd (op : Nat) : Nat := op * 2 ^ 504 + 2 ^ 464 + 2 ^ 392
def tabCmd (op : Nat) : Nat := op * 2 ^ 504 + 5 * 2 ^ 448

/-- A transfer of a command at position 0. -/
def transfer0 (c : Nat) (entry : Option (Nat × Nat)) (m : Option (List Nat)) (w : List Nat) : Transfer :=
  { pos := 0, cmd := c, entry := entry, manifest := m, mparts := [(0, toLE 4 0 ++ toLE 4 (crc32c [0, 0, 0, 0]))], written := w,
    verified := [], failedOnce := [], failed := 0, origins := [], lastOrigin := none, lastPacket := 0, resends := [] }

/-- A state with these transfers, or with table 5 of one block, its other bank in a state. -/
def moving (s : State) (l : List Transfer) : State := { s with chair := { s.chair with transfers := l } }
def tabled (s : State) (b : BankState) : State :=
  s.setTable 5 (some ⟨1, 0, 1, 0, ⟨0x200000, .current, 0, 1⟩, ⟨0x201000, b, 0, 1⟩⟩)

/-- DEFINE_TABLE of table 5, type 1, its banks at 0x200000 and 0x201000. -/
def defineCmd : Nat := tabCmd 0x10 + 2 ^ 444 + 0x200000 * 2 ^ 312 + 0x201000 * 2 ^ 260

/-- Every command that no code refuses; the ones that a code does; four transfers; the states of a version. -/
theorem test_meets_ChairliftRunsItsRing :
    State.reset.chairHead = none ∧
    chairRows.all (fun p => (chair (p.2 * 2 ^ 504 + 1) []).chairHead = some (0, p.2 * 2 ^ 504 + 1) &&
      chOp (p.2 * 2 ^ 504 + 1) = p.2 && (chair (p.2 * 2 ^ 504 + 1) []).chairCodes (p.2 * 2 ^ 504 + 1) ≠ []) = true ∧
    (let s := chair (chCmd 1) (slot0 0 [])
     chairOk s (chCmd 1) = true ∧ s.chair.transfers = [] ∧ s.pushEntry 0 = some 0 ∧
       chairOk (moving s (List.replicate 4 (transfer0 0 none none []))) (chCmd 1) = true) ∧
    (let s := tabled (chair (tabCmd 0x11) []) .free
     chairOk s (tabCmd 0x11) = true ∧ (s.table (chTable (tabCmd 0x11))).isSome = true) ∧
    (let s := chair (chCmd 2) (slot0 3 [])
     chairOk s (chCmd 2) = true ∧ s.residentIn 0 1 = some 0 ∧ s.obj (kSlot 0 2) = 0) ∧
    (let s := chair (chCmd 3) (slot0 4 [])
     chairOk s (chCmd 3) = true ∧ s.residentIn 0 1 = some 0) ∧
    (let s := (chair (chCmd 4) (slot0 4 [(kSlot 0 0xC, 1)])).modEntry 0 0 (fun e => { e with pins := 1 })
     chairOk s (chCmd 4) = true ∧ s.residentIn 0 1 = some 0 ∧ s.eState 0 0 ≠ eDraining) ∧
    [chair (chCmd 5) (slot0 5 [(kSlot 0 0xC, 1)]), chair (chCmd 5) (slot0 5 [(kSlot 0 0x11, 1)]), chair (chCmd 5) (slot0 5 [])].all
      (fun s => chairOk s (chCmd 5) && s.residentIn 0 1 = some 0) = true ∧
    (let s := moving (chair (chCmd 6) (slot0 1 [])) [transfer0 (chCmd 1) (some (0, 0)) none []]
     chairOk s (chCmd 6) = true ∧ (s.abortNames (chCmd 6)).isSome = true) ∧
    chairOk (chair defineCmd []) defineCmd = true ∧ chOp defineCmd = 0x10 ∧
    chairOk (tabled (chair (tabCmd 0x12) []) .ready) (tabCmd 0x12) = true ∧
    chairOk (tabled (chair (tabCmd 0x13) []) .free) (tabCmd 0x13) = true := by decide +kernel

/-- A command of a MEMORY transfer. -/
def memCmd : Nat := chCmd 1 + 2 ^ 502 + 0x300000 * 2 ^ 312

/-- A manifest that holds and one that does not; a block to verify; an ARCHIVING entry; a Chairlift that drains. -/
theorem test_meets_ChairliftTransfersAreVerified :
    (let s := moving State.reset [transfer0 (chCmd 1) (some (0, 0)) none []]
     s.chair.transfers[0]? = some (transfer0 (chCmd 1) (some (0, 0)) none []) ∧
     (s.manifestBytes (transfer0 (chCmd 1) (some (0, 0)) none [])).any (fun bs => crc32c (bs.take 4) = leNat (bs.drop 4)) = true) ∧
    (let t := { transfer0 (chCmd 1) (some (0, 0)) none [] with mparts := [(0, toLE 8 0)] }
     ((moving State.reset [t]).manifestBytes t).any (fun bs => crc32c (bs.take 4) ≠ leNat (bs.drop 4)) = true) ∧
    State.reset.chair.transfers[0]? = none ∧
    (let t := transfer0 memCmd (some (0, 0)) (some [0]) []
     let s := moving (objs (slot0 1 [])) [t]
     s.chair.transfers[0]? = some t ∧ 0 < chBlocks t.cmd ∧ chSource t.cmd = 1) ∧
    (objs (slot0 7 [])).eState 0 0 = eArchiving ∧ (objs (slot0 7 [])).chairState = 0 ∧
    (objs [(kChair 2, 1)]).chairState = 1 ∧ (objs [(kChair 2, 1)]).chair.transfers = [] ∧ State.reset.chairState ≠ 1 ∧
    (endpoint 3 [(kChair 7, 1)] id).gate 0 false = .served ∧ (endpoint 3 [(kChair 7, 1)] id).obj (kChair 7) = 1 := by decide +kernel

theorem crc_zero_block : crc32c (List.replicate 4096 0) = 2566472073 := by
  rw [crc32c, crcZeros_eq]
  decide +kernel

/-- A READY entry's module whose memory lists nothing: every block is zeros. -/
theorem blockCrc_zeros (s : State) (hm : s.mem = []) (b : Nat) : s.blockCrc b = 2566472073 := by
  have hb : ngetRun (0 : Byte) s.mem (b * 4096) 4096 = List.replicate 4096 0 := by
    rw [hm]
    refine List.eq_replicate_iff.2 ⟨by simp only [ngetRun, List.length_map, List.length_range], fun x hx => ?_⟩
    obtain ⟨i, _, rfl⟩ := List.mem_map.1 hx
    rfl
  rw [State.blockCrc, State.bytes, hb, crc_zero_block]

/-- A LINK transfer of two blocks, both written, whose manifest holds the CRC of a block of zeros. -/
def written0 : Transfer := transfer0 (chCmd 1 + 2 ^ 367) (some (0, 0)) (some [2566472073, 2566472073]) [0, 1]
def verifying : State := moving (objs (slot0 2 [])) [written0]

theorem test_block_is_verified :
    verifying.chair.transfers[0]? = some written0 ∧ verifying.transferAt 0 = some written0 ∧ chSource written0.cmd = 0 ∧
    written0.written.contains 0 = true ∧ written0.verified.length + 1 ≠ chBlocks written0.cmd ∧
    verifying.blockCrc (verifying.targetPa written0 / 4096 + 0) = 2566472073 :=
  ⟨by decide +kernel, by decide +kernel, by decide +kernel, by decide +kernel, by decide +kernel,
    blockCrc_zeros _ (by decide +kernel) _⟩

/-! ### Links -/

/-- Link 0 in a state, with its lanes, and its data layer. -/
def linked (st lanes : Nat) (f : Link → Link) : State := (ready [(kLink 0 1, st), (kLink 0 5, lanes)]).modLink 0 f

/-- A packet of a type with these fields, for this module. -/
def packet (ty ctx job fields : Nat) (data : List Byte) : Packet :=
  ⟨mkFlits (mkHdr 5 7 ty ctx job fields data.length) data, false, 0, 0, none, none⟩

/-- A link with 64 credits in each buffer and these packets to send. -/
def fresh (out : List Packet) (l : Link) : Link := { l with credits := List.replicate 8 64, outQ := out }

/-- A function of a number that is evaluated first. -/
def force (a : Nat) (k : Nat → Nat) : Nat := match a with
  | 0 => k 0
  | n + 1 => k (n + 1)

theorem force_eq (a : Nat) (k : Nat → Nat) : force a k = k a := by cases a <;> rfl

/-- The CRC register over bytes, each step evaluated. -/
def crcForce : List Byte → Nat → Nat
  | [], a => a
  | b :: l, a => force (crcByte a b) (crcForce l)

theorem crcForce_eq (l : List Byte) (a : Nat) : l.foldl crcByte a = crcForce l a := by
  induction l generalizing a with
  | nil => rfl
  | cons b l ih => simp only [List.foldl_cons, ih, crcForce, force_eq]

/-- A flit whose CRC is right, with its KIND and SEQ, its reserved bits zero. -/
def goodFlit (f kind seq : Nat) : Bool :=
  (crcForce (toLE 252 (f % 2 ^ 2016)) 0xFFFFFFFF ^^^ 0xFFFFFFFF) = fld f 2047 2016 && flKind f = kind && fld f 23 0 = 0 && flSeq f = seq

theorem goodFlit_crc {f kind seq : Nat} (h : goodFlit f kind seq = true) :
    flCrcOk f = true ∧ flKind f = kind ∧ fld f 23 0 = 0 ∧ flSeq f = seq := by
  simp only [goodFlit, Bool.and_eq_true, decide_eq_true_eq] at h
  exact ⟨by rw [flCrcOk, crc32c, crcForce_eq]; exact decide_eq_true h.1.1.1, h.1.1.2, h.1.2, h.2⟩

/-- The flit of a link word, from its fields. -/
def flitOf (seq kind : Nat) : Nat :=
  let w := seq * 2 ^ 52 + kind * 2 ^ 27
  w + (crcForce (toLE 252 w) 0xFFFFFFFF ^^^ 0xFFFFFFFF) * 2 ^ 2016

/-- A link that is down; a flit with a bad CRC, one out of order, one of an undefined kind; IDLE, NAK and a flit in order; time
passed or not; a flit to resend; a packet that may leave, none, and a draining link. -/
theorem test_meets_LinksExchangeFlits :
    State.reset.linkCarries 0 = false ∧ (linked 2 3 id).linkCarries 0 = true ∧ ((linked 2 3 id).link 0).expect = 0 ∧
    crcForce (toLE 252 0) 0xFFFFFFFF ^^^ 0xFFFFFFFF ≠ fld 0 2047 2016 ∧
    goodFlit (flitOf 5 4) 4 5 = true ∧ goodFlit (flitOf 0 7) 7 0 = true ∧
    [0, 4, 6].all (fun k => goodFlit (flitOf 0 k) k 0) = true ∧
    ((linked 2 3 id).link 0).progressAt = 0 ∧
    (let l := { fresh [] Link.empty with nextSeq := 1, acked := 4095, replay := [⟨0, packet 0x18 0 0 0 [], [7]⟩] }
     l.unacked ≠ 0 ∧ l.resends < 16 ∧ l.toResend.length = 1) ∧
    ((linked 2 3 id).linkLive 0 = true ∧ ((fresh [packet 0x18 0 0 0 []] Link.empty).nextPacket false).2 = some (packet 0x18 0 0 0 []) ∧
      ((fresh [] Link.empty).nextPacket false).2 = none) ∧
    ((linked 4 3 id).linkLive 0 = false ∧ (linked 4 3 id).linkCarries 0 = true) := by decide +kernel

/-- A link with a flit that has not been acknowledged, after so many resends. -/
def unacked (n : Nat) : State :=
  { linked 2 3 (fun _ => { fresh [] Link.empty with nextSeq := 1, acked := 4095, replay := [⟨0, packet 0x18 0 0 0 [], [7]⟩], resends := n })
    with timeNs := 2000 }

/-- A NAK of SEQ 0 and a time without progress; the sixteenth resend. -/
theorem test_meets_LinksExchangeFlits_resends :
    (unacked 0).linkCarries 0 = true ∧
    (let v := (unacked 0).linkAck 0 4095
     (v.link 0).unacked ≠ 0 ∧ (v.link 0).resends < 16) ∧
    ((unacked 0).link 0).progressAt + 2000 ≤ (unacked 0).timeNs ∧ ((unacked 0).link 0).unacked ≠ 0 ∧
    ((unacked 0).link 0).resends < 16 ∧ ((unacked 16).link 0).unacked ≠ 0 ∧ 16 ≤ ((unacked 16).link 0).resends := by decide +kernel

theorem test_meets_LinkStatesFollowTheirEvents :
    bitAt (State.reset.lanes 0) 0 = false ∧
    (bitAt ((linked 2 3 id).lanes 0) 0 = true ∧ (linked 2 3 id).lanes 0 ≠ 2 ^ 0) ∧
    (bitAt ((linked 3 1 id).lanes 0) 0 = true ∧ (linked 3 1 id).lanes 0 = 2 ^ 0 ∧ (linked 3 1 id).linkState 0 = 3) ∧
    ((objs [(kLink 0 1, 5), (kLink 0 2, 1)]).linkState 0 = 5 ∧ (objs [(kLink 0 1, 5), (kLink 0 2, 1)]).obj (kLink 0 2) = 1) ∧
    (linked 1 0 id).linkState 0 = 1 ∧ (linked 4 0 id).linkState 0 = 4 ∧ (linked 1 0 id).linksOn = true ∧
    (linked 0 0 id).linksOn = true ∧ (linked 0 0 id).linkBad 0 = false ∧ (linked 0 0 id).linkState 0 = 0 ∧ State.reset.linksOn = false ∧
    ({ State.reset with power := { State.reset.power with badLinks := [0] } } : State).linkBad 0 = true ∧ State.reset.linkBad 0 = false ∧ State.reset.linkState 0 = 0 ∧
    (((linked 4 0 id).link 0).replay = [] ∧ ((linked 4 0 id).link 0).inPkt = []) ∧
    ((linked 5 0 (fun l => { l with lostAt := some 0 })).link 0).lostAt = some 0 ∧ (State.reset.link 0).lostAt = none ∧
    (List.range 64).all (fun c => State.reset.ctxState c ≠ 1) = true ∧
    (List.range 64).any (fun c => (objs [(kCtx 0 1, 1)]).ctxState c = 1) = true ∧ noId < 2 ^ 31 := by decide +kernel

/-- A module with one delivered packet, the job of context 0 set. -/
def got (p : Packet) (f : State → State) : State :=
  let s := f (mapped (ready [(kDev 0x6000 1, 5), (kDev 0x6080 1, 9), (kDev 0x6080 2, 3)]))
  { s with fab := { s.fab with rx := [p] } }

/-- A remote MOVE under way, with a serial number. -/
def remote0 (commit : Option (Nat × Nat)) : RemoteMove :=
  { serial := 3, uid := 1, cl := 0, leftAt := 0, commit := commit, status := none }
def withRemote (s : State) : State := { s with fab := { s.fab with remote := [remote0 none] } }

/-- A WRITE of 4 bytes at an address. -/
def writePkt (job va : Nat) : Packet := { packet tyWrite 0 job (va * 2 ^ 66 + 4 * 2 ^ 35) [1, 2, 3, 4] with tag := some (1, 0) }

/-- The states after a delivered packet of a type has been taken. -/
def takes (s : State) (ty : Nat) : Bool := (s.takeRx ty).isSome

/-- The same with a reduction of context 0 registered, or with an acknowledgement awaited for the task of CL0/0. -/
def withRed (s : State) : State := { s with reds := [red0 [] false] }
def awaiting (s : State) : State := { s with disp := { s.disp with awaitAck := [⟨1, 0, 0⟩] } }

theorem test_meets_RemoteWorkIsAppliedAndAcknowledged :
    State.reset.pickWrite [] State.reset.fab.rx = none ∧
    [writePkt 8 0x10000, writePkt 9 0x10000, writePkt 9 0x40000000].all (fun p => (got p id).pickWrite [] [p] = some (p, [])) = true ∧
    (let s := (got (writePkt 9 0x10000) id)
     let v := ({ s with fab := { s.fab with rx := [] } } : State).freeInput (writePkt 9 0x10000)
     v.jobId 0 = 9 ∧ pkCtx (writePkt 9 0x10000).hdr = 0 ∧ pkJob (writePkt 8 0x10000).hdr = 8 ∧ pkJob (writePkt 9 0x10000).hdr = 9 ∧
       v.trans (v.accRemote 0 (some (1, 0))) (fld (writePkt 9 0x10000).hdr 111 66) (fld (writePkt 9 0x10000).hdr 47 35) true = .ok [(0x10000, 4)] ∧
       ((writePkt 9 0x10000).data.take 4).length = 4 ∧ v.trans (v.accRemote 0 (some (1, 0))) 0x40000000 4 true = .error cTranslation) ∧
    [tyWriteDone, tyContrib, tyLeafDone, tyContribAck].all (fun ty => !takes State.reset ty && takes (got (packet ty 0 0 0 []) id) ty) = true ∧
    (let p := packet tyWriteDone 0 0 (3 * 2 ^ 140) []
     let s := got p withRemote
     (s.takeRx tyWriteDone).any (fun r => (r.2.fab.remote.find? (fun m => m.serial = fld r.1.hdr 171 140 && m.status.isNone)).isSome) = true) ∧
    (let p := packet tyWriteDone 0 0 (4 * 2 ^ 140) []
     let s := got p withRemote
     (s.takeRx tyWriteDone).any (fun r => (r.2.fab.remote.find? (fun m => m.serial = fld r.1.hdr 171 140 && m.status.isNone)).isNone) = true) ∧
    ((withRemote State.reset).fab.remote.find? (fun m => m.serial = 3 && m.status.isNone)).isSome = true ∧
    (remote0 (some (0, 0))).commit = some (0, 0) ∧ fld (packet tyContrib 0 0 (2 * 2 ^ 12) []).hdr 27 12 = 2 ∧
    (((got (packet tyLeafDone 0 0 0 []) withRed).takeRx tyLeafDone).any (fun r => (r.2.redOf 0 0).any (fun x => !x.blocks.isEmpty))) = true ∧
    (((got (packet tyLeafDone 0 0 0 []) id).takeRx tyLeafDone).any (fun r => (r.2.redOf 0 0).isNone)) = true ∧
    [got (packet tyContribAck 0 0 0 []) awaiting, (got (packet tyContribAck 0 0 0 []) awaiting).setCore 0 0 (only (task 0 [0]))].all (fun s =>
      (s.takeRx tyContribAck).any (fun r => (r.2.disp.awaitAck.find? (fun x => fld x.hdr 127 96 = fld r.1.hdr 171 140 &&
        hRed x.hdr = fld r.1.hdr 139 124 && hGen x.hdr = fld r.1.hdr 123 116 && hBlock x.hdr = fld r.1.hdr 115 100 &&
        hA x.hdr = fld r.1.hdr 99 80 && hB x.hdr = fld r.1.hdr 79 60)).isSome)) = true ∧
    (awaiting State.reset).siteOfUid 1 = none ∧ ((awaiting State.reset).setCore 0 0 (only (task 0 [0]))).siteOfUid 1 = some (0, 0) ∧
    State.reset.clServes 0 = true := by decide +kernel

/-- A WRITE that arrives, and the WRITE_DONE of the descriptor that CL0/0 waits for. -/
theorem test_meets_RemoteWorkIsAppliedAndAcknowledged_writes :
    pkType (writePkt 9 0x10000).hdr = tyWrite ∧
    (let mv : Mv := { mvOf 0 false with serial := some 3 }
     let t := { task 0 [0] with committed := true, commitMoves := [mv] }
     let s := got (packet tyWriteDone 0 0 (3 * 2 ^ 140) []) (fun s => (withRemote s).setCore 0 0 (only t))
     (remote0 none).commit = none ∧ (remote0 none).serial = 3 ∧
       (s.takeRx tyWriteDone).any (fun r => r.2.siteOfUid (remote0 none).uid = some (0, 0) && r.2.clServes 0 &&
         (r.2.core 0 0).task = some t) = true) ∧
    ((got (packet tyContrib 0 0 (2 * 2 ^ 12) []) id).takeRx tyContrib).any (fun r =>
      (r.2.newAssembly (pkSrc r.1.hdr) (fld r.1.hdr 171 44) (fld r.1.hdr 27 12)).spilled.isNone) = true := by decide +kernel

/-- A part of a block in containment mode, and a whole one; a reply to a cluster that serves nothing; a WRITE that waits to leave. -/
theorem test_meets_RemoteWorkIsAppliedAndAcknowledged_modes :
    (let whole := { packet tyWrite 0 9 (0x10000 * 2 ^ 66 + 4096 * 2 ^ 35) [] with tag := some (1, 0) }
     let v := (got (writePkt 9 0x10000) (fun s => s.setObj (kDev 0x2001 1) 1))
     v.containment = true ∧ inData 0x10000 = true ∧ (4 : Nat) ≠ 4096 ∧
       v.trans (v.accRemote 0 (some (1, 0))) (fld whole.hdr 111 66) (fld whole.hdr 47 35) true = .ok [(0x10000, 4096)]) ∧
    [packet tyWriteDone 0 0 (3 * 2 ^ 140) [], packet tyContribAck 0 0 0 []].all (fun p =>
      !(got p (fun s => (withRemote (awaiting s)).setObj (kCl 0 0xB0 2) 3)).clServes (remote0 none).cl) = true ∧
    ((linked 2 3 (fun l => { l with outQ := [packet tyWrite 0 9 (3 * 2 ^ 140) []] })).setObj (kDev 0x6000 1) 7).writesWait 3 = true ∧
    State.reset.writesWait 3 = false ∧ (remote0 none).leftAt + 20000000 ≤ ({ State.reset with timeNs := 2 ^ 40 } : State).timeNs :=
  ⟨by decide +kernel, by decide +kernel, by decide +kernel, by decide +kernel, by decide +kernel⟩

/-- A LINK transfer of identifier 6 with one block, written or not, and when it last saw a packet. -/
def bcast0 (w : List Nat) (resends : Nat) : Transfer :=
  { transfer0 (chCmd 1 + 6 * 2 ^ 192) (some (0, 0)) (some [0]) w with
    lastOrigin := some 7, resends := if resends = 0 then [] else [(0, (resends, 0))] }

/-- A packet of a broadcast of that identifier and block 0, with further fields. -/
def bcPkt (ty more : Nat) : Packet := packet ty 0 0 (6 * 2 ^ 156 + more) [1, 2]
def bcGot (ty more : Nat) (l : List Transfer) : State := got (bcPkt ty more) (fun s => moving s l)

/-- A broadcast of this module's whose packet has yet to leave. -/
theorem test_meets_CommitDescriptorsRun_waits :
    let p := bcPkt tyBlock (7 * 2 ^ 114)
    ((((got p id).setObj (kDev 0x6000 1) (bcOrigin (flitHdr (p.flits.headD 0)))).modLink 0 (fun l => { l with outQ := [p] })).bcastWaits
      (bcId (flitHdr (p.flits.headD 0)))) = true := by decide +kernel

theorem test_meets_BroadcastsReachTheirTransfers :
    [tyBlock, tyManifest, tyResend].all (fun ty => !takes State.reset ty &&
      ((bcGot ty 0 []).takeRx ty).any (fun r => (r.2.bcastTransfer (bcId r.1.hdr)).isNone)) = true ∧
    [[0], []].all (fun w => ((bcGot tyBlock 0 [bcast0 w 0]).takeRx tyBlock).any (fun r =>
      r.2.bcastTransfer (bcId r.1.hdr) = some (bcast0 w 0) && bcBlock r.1.hdr < chBlocks (bcast0 w 0).cmd)) = true ∧
    ((bcGot tyManifest 0 [bcast0 [] 0]).takeRx tyManifest).any (fun r => r.2.bcastTransfer (bcId r.1.hdr) = some (bcast0 [] 0) &&
      bcBlock r.1.hdr < cdiv (chBlocks (bcast0 [] 0).cmd * 4 + 4) 4096) = true ∧
    [[0], []].all (fun w => ((bcGot tyResend 0 [bcast0 w 0]).takeRx tyResend).any (fun r =>
      (r.2.bcastHeld 6).any (fun x => x.2.1 0 = w.contains 0) && !bitAt r.1.hdr 130)) = true ∧
    ((bcGot tyResend (2 ^ 130) [bcast0 [] 0]).takeRx tyResend).any (fun r =>
      (r.2.bcastHeld 6).any (fun x => !(x.2.2.drop 0).isEmpty) && bitAt r.1.hdr 130) = true ∧
    ((bcGot tyResend 0 []).takeRx tyResend).any (fun r => (r.2.bcastHeld 6).isNone) = true ∧
    (missing (bcast0 [0] 0) = [] ∧ missing (bcast0 [] 4) = [0] ∧ (nget (0, 0) (bcast0 [] 4).resends 0) = (4, 0) ∧
      (nget (0, 0) (bcast0 [] 0).resends 0).1 = 0 ∧ chSource (bcast0 [] 4).cmd = 0) := by decide +kernel

theorem test_meets_NeighboursAreHeard :
    State.reset.ownId = noId ∧ (got (packet tyHeartbeat 0 0 0 []) id).ownId = 5 ∧ State.reset.modes.lost = false ∧
    [tyHeartbeat, tyNeighbour, tyLinkDown].all (fun ty => !takes State.reset ty && takes (got (packet ty 0 0 0 []) id) ty) = true ∧
    (let s := objs [(kDev 0x6000 1, 5), (kDev 0x6001 1, 7)]
     s.hbPeers.contains 7 = true ∧ s.fab.silent.contains 7 = false ∧ s.ownId ≠ noId ∧ s.timeNs < nget 0 s.fab.beats 7 + s.obj (kDev 0x6000 9) * 1000000) ∧
    ({ State.reset with timeNs := 2 ^ 40 } : State).obj (kDev 0x6000 9) * 1000000 ≤ 2 ^ 40 ∧
    (let p := { packet tyNeighbour 0 0 0 [] with from_ := some (0, 0) }
     ((got p id).takeRx tyNeighbour).any (fun r => r.1.from_ = some (0, 0) && r.2.cablingOk 0 0) = true) ∧
    [0, 7].all (fun m => ((got (packet tyLinkDown 0 0 0 []) (fun s => s.setObj (kLink 0 6) m)).takeRx tyLinkDown).any (fun r =>
      (r.2.obj (kLink 0 6) = pkSrc r.1.hdr) = decide (m = 7))) = true ∧
    ((State.reset.link 0).lost = false ∧ ({ Link.empty with lost := true } : Link).lost = true) := by decide +kernel

/-- Link 0 belongs to a group whose neighbours are other modules of this box; the packet names module 0. -/
theorem test_meets_cabling :
    let p := { packet tyNeighbour 0 0 0 [] with from_ := some (0, 0) }
    let s := got p (fun s => (((s.setObj (kDev 0x6000 2) 5).setTable 5 (some ⟨3, 0x40, 257, 0, ⟨0x300000, .current, 0, 257⟩,
      ⟨0, .free, 0, 0⟩⟩)).put 0x300000 (toLE 4 5)).put 0x300400 (toLE 16 (2 ^ 64 + 3 * 2 ^ 61)))
    (s.takeRx tyNeighbour).any (fun r => r.1.from_ = some (0, 0) && !r.2.cablingOk 0 (fld r.1.hdr 165 149)) = true := by
  decide +kernel

/-! ### Video -/

/-- Video ring 0 of context 0, which runs, with one job whose descriptor stands at 0x10000. -/
def vqueued (d : Nat) (l : List (Nat × Nat)) : State :=
  (mapped (ready ([(kCtx 0 1, 1), (kVr 0 1, 0), (kVr 0 2, 0x10000), (kVr 0 3, 0), (kVr 0 5, 1)] ++ l))).put 0x10000 (toLE 128 d)

/-- Every decoder in a state. -/
def decoders (st : Nat) : List (Nat × Nat) := (List.range 8).map (fun e => (kEng e 2, st))

/-- A job of an operation on stream 0. -/
def vjob0 (op : Nat) (ended : Bool) (codes : List Nat) : VJob :=
  { newJob 0 0 0 (op * 2 ^ 1016) with ended := ended, codes := codes, next := some ⟨1, 0, 0, [], [], 0⟩ }

/-- Engines that hold a job; jobs that restart; a stream that is open. -/
def onEngines (l : List Nat) (j : VJob) (s : State) : State :=
  l.foldl (fun (s : State) e => s.setVjob e (some j)) s
def again0 (s : State) : State := { s with video := { s.video with again := [vjob0 0x10 false []] } }
def streamed (s : State) : State := { s with video := { s.video with streams := [(0, ⟨1, 0, 0, [(0, false)], [], 0⟩)] } }

/-- OPEN_STREAM of 16 by 16 pictures. -/
def openDesc : Nat := 2 ^ 1016 + 16 * 2 ^ 878 + 16 * 2 ^ 864

theorem test_meets_VideoJobsStartRunAndComplete :
    (let s := endpoint 3 [(kVr 0 1, 0)] id
     s.gate 0 false = .served ∧ s.gate 8 false = .served ∧ s.ownsCtx 0 (s.obj (kVr 0 1)) = true ∧ s.ownsCtx 8 (s.obj (kVr 0 1)) = false) ∧
    State.reset.video.again.find? (fun j => State.reset.jobClass j.desc = 0) = none ∧
    State.reset.ringOrder.find? (State.reset.ringReady 0) = none ∧
    [vqueued (2 ^ 1016) [], vqueued (2 ^ 1016) (decoders 2)].all (fun s =>
      s.ringOrder.find? (s.ringReady 0) = some 0 && s.videoHead 0 matches some (.ok _)) = true ∧
    (vqueued (2 ^ 1016) (decoders 2)).activeEngines 0 = [] ∧ (vqueued (2 ^ 1016) []).idleEngine 0 = some 0 ∧
    (let s := onEngines (List.range 8) (vjob0 0x10 false []) (vqueued (2 ^ 1016 + 2 ^ 1007) [])
     s.activeEngines 0 ≠ [] ∧ s.idleEngine 0 = none ∧ s.ringOrder.find? (s.ringReady 0) = some 0) ∧
    ((again0 (vqueued 0 [])).video.again.find? (fun j => (again0 (vqueued 0 [])).jobClass j.desc = 0) = some (vjob0 0x10 false []) ∧
      (again0 (vqueued 0 [])).idleEngine 0 = some 0 ∧ (again0 (onEngines (List.range 8) (vjob0 0x10 false []) (vqueued 0 []))).idleEngine 0 = none) ∧
    State.reset.vjob 0 = none ∧ vTagEn (vjob0 0x10 true []).desc = false ∧ (vjob0 0x10 true []).next.isSome = true ∧
    [0x01, 0x02, 0x03, 0x10, 0x20].all (fun op => (onEngines [0] (vjob0 op false []) State.reset).vjob 0 = some (vjob0 op false []) &&
      vOp (vjob0 op false []).desc = op) = true ∧ State.reset.engState 0 ≤ 1 ∧ 1 < (objs [(kEng 0 2, 2)]).engState 0 ∧
    frameBad (vjob0 0x10 false []) (State.reset.vstream 0) = true ∧
    (headerBad (newJob 0 0 0 openDesc) = false ∧ openBad openDesc = false ∧ (State.reset.vstream (vStream openDesc)).st = 0) ∧
    (headerBad (vjob0 2 false []) = false ∧ fld (vjob0 2 false []).desc 895 0 = 0 ∧
      ((streamed State.reset).vstream 0).st = 1 ∧ ((streamed State.reset).vstream 0).ring = (vjob0 2 false []).ring) ∧
    headerBad (newJob 0 0 0 0) = true ∧ (onEngines [0] (vjob0 0x10 true []) State.reset).vjob 0 = some (vjob0 0x10 true []) ∧
    (let s := again0 (vqueued 0 (decoders 2))
     s.video.again.find? (fun j => s.jobClass j.desc = 0) = some (vjob0 0x10 false []) ∧ s.activeEngines 0 = []) := by decide +kernel

/-- A stream of 16 by 16 pictures, of 10-bit samples in its encoder's case, whose pool of one buffer stands at 0x20000. -/
def picStream (enc : Bool) : VStream :=
  ⟨1, (if enc then 2 ^ 895 + 2 ^ 892 else 0) + 16 * 2 ^ 878 + 16 * 2 ^ 864 + 0x20000 * 2 ^ 811, 0, [(0, false)], [], 0⟩

/-- A DECODE or ENCODE of 4 KiB of bitstream at 0x18000 and one frame of raw pictures at 0x9000. -/
def picJob (op : Nat) : VJob :=
  newJob 0 0 0 (op * 2 ^ 1016 + 0x18000 * 2 ^ 848 + 4096 * 2 ^ 824 + 2 ^ 812 + 2 * 2 ^ 759 + 2 ^ 690 + 0x9000 * 2 ^ 593)

/-- Engine 0 holds that job, in context 0, on that stream. -/
def picture (op : Nat) : State :=
  let s := onEngines [0] (picJob op) (mapped (ready []))
  { s with video := { s.video with streams := [(0, picStream (op == 0x20))] } }

theorem no_containment_checks {s : State} (h : s.containment = false) (acc : Acc) (l) : s.unverifiedVa acc l = none := by
  simp [State.unverifiedVa, State.unverified, h]
theorem no_containment_part {s : State} (h : s.containment = false) (acc : Acc) (l) : s.partCodes acc l = [] := by
  simp [State.partCodes, h]

/-- A DECODE whose bitstream ends before its first frame (the free function of the bitstream may find so) meets every condition. -/
theorem test_meets_VideoJobsStartRunAndComplete_decode (hf : ∀ f b q i, Config.decodedFact f b q i = 0) :
    let s := picture 0x10
    let j := picJob 0x10
    let st := s.vstream (vStream j.desc)
    JobRuns s 0 0x10 j ∧ frameBad j st = false ∧ dTensor j.desc = false ∧
    ∃ chunk pool, s.readVa (s.accOf j.ctx) (dBs j.desc) (dBsBytes j.desc) = .ok chunk ∧ s.poolBytes (s.accOf j.ctx) st.openDesc = .ok pool ∧
      ∀ x : Dec, x.stop st j.desc = none ∧ min x.frames (dMaxOut j.desc) = 0 ∧ x.need = 0 ∧ s.writeCodes (s.accOf j.ctx) [] = [] ∧
        s.partCodes (s.accOf j.ctx) [] = [] ∧ ∀ l, s.unverifiedVa (s.accOf j.ctx) l = none := by
  intro s j st
  obtain ⟨chunk, h1⟩ := ok_of_isOk (show (s.readVa (s.accOf j.ctx) (dBs j.desc) (dBsBytes j.desc)).isOk = true by decide +kernel)
  obtain ⟨pool, h2⟩ := ok_of_isOk (show (s.poolBytes (s.accOf j.ctx) st.openDesc).isOk = true by decide +kernel)
  refine ⟨⟨by decide +kernel, by decide +kernel, by decide +kernel, by decide +kernel⟩, by decide +kernel, by decide +kernel,
    chunk, pool, h1, h2, fun x => ⟨?_, ?_, ?_, rfl, no_containment_part (by decide +kernel) _ _,
      no_containment_checks (by decide +kernel) _⟩⟩
  · simp [Dec.stop, Dec.err, Dec.wide, Dec.frames, Dec.maxW, Dec.maxH, Dec.need, Dec.fact, hf]
  · simp [Dec.frames, Dec.fact, hf]
  · simp [Dec.need, Dec.fact, hf]

/-- An ENCODE whose bytes fit meets every condition. -/
theorem test_meets_VideoJobsStartRunAndComplete_encode :
    let s := picture 0x20
    let j := picJob 0x20
    let st := s.vstream (vStream j.desc)
    let acc := s.accOf j.ctx
    JobRuns s 0 0x20 j ∧ frameBad j st = false ∧ dTensor j.desc = false ∧ dMaxOut j.desc ≤ st.freeBufs.length ∧
    (s.poolBytes acc st.openDesc).isOk = true ∧ (s.sourceFrames j st.openDesc []).isOk = true ∧
    ∀ out src : List Byte, out.length = 4096 → out.length ≤ dBsBytes j.desc ∧
      s.writeCodes acc ((dBs j.desc, out.take (dBsBytes j.desc)) :: poolWrites src st.openDesc (st.freeBufs.take (dMaxOut j.desc))) = [] ∧
      (∀ l k, s.partCodes acc l = [] ∧ s.unverifiedVa acc k = none) := by
  intro s j st acc
  refine ⟨⟨by decide +kernel, by decide +kernel, by decide +kernel, by decide +kernel⟩, by decide +kernel, by decide +kernel,
    by decide +kernel, by decide +kernel, by decide +kernel, fun out src h => ⟨?_, ?_, fun l k =>
      ⟨no_containment_part (by decide +kernel) _ _, no_containment_checks (by decide +kernel) _ _⟩⟩⟩
  · rw [h]; decide +kernel
  · have hl : ∀ (l : List (Nat × List Byte)), (l.all (fun w => (s.trans acc w.1 w.2.length true).isOk)) = true → s.writeCodes acc l = [] := by
      intro l hl
      simp only [State.writeCodes, List.filterMap_eq_nil_iff]
      intro w hw
      obtain ⟨ps, hp⟩ := ok_of_isOk (List.all_eq_true.1 hl w hw)
      rw [hp]
    apply hl
    rw [List.all_cons, List.length_take, h, poolWrites, List.all_map]
    simp only [Function.comp_def, List.length_map, List.length_range]
    rw [show min (dBsBytes j.desc) 4096 = 4096 by decide +kernel, show dBs j.desc = 0x18000 by decide +kernel,
      show List.take (dMaxOut j.desc) st.freeBufs = [0] by decide +kernel, show oPool st.openDesc = 0x20000 by decide +kernel,
      show oBufBytes st.openDesc = 16384 by decide +kernel]
    decide +kernel

theorem test_meets_VideoEnginesDrainAndRecover :
    (onEngines [0] (vjob0 0x10 false []) State.reset).vjob 0 = some (vjob0 0x10 false []) ∧
    (State.reset.setObj (kEng 0 2) 4).activeEngines 0 ≠ [] ∧ engClass 0 = 0 ∧
    ((objs (decoders 2)).setObj (kEng 0 2) 4).activeEngines 0 = [] ∧
    [0, 1, 2, 3, 4].all (fun st => (objs [(kEng 0 2, st)]).engState 0 = st) = true ∧
    ((onEngines [0] (vjob0 0x10 false []) (objs [(kEng 0 2, 1)])).vjob 0).isSome = true ∧ (objs [(kEng 0 2, 1)]).vjob 0 = none := by
  decide +kernel

/-! ### Clusters, cores, memory, power -/

/-- Cluster 0 in each state. -/
theorem test_meets_ClustersChangeState :
    [0, 1, 2, 3, 4, 5, 6].all (fun st => (objs [(kCl 0 0xB0 2, st)]).clState 0 = st && !(objs [(kCl 0 0xB0 2, st)]).anyCtxActive) = true ∧
    (objs [(kCtx 0 1, 1)]).anyCtxActive = true ∧ State.reset.containment = false ∧ (objs [(kDev 0x2001 1, 1)]).containment = true := by
  decide +kernel

theorem test_meets_CoresAreUnfencedAndCachesSized :
    [0, 1, 3].all (fun st => (objs [(kCore 0 0 0 1, st)]).siteState 0 0 = st) = true ∧
    (let s := (objs [(kCore 0 0 0 1, 3)]).setCore 0 0 { CoreSt.empty with testing := true }
     s.siteState 0 0 = 3 ∧ (s.core 0 0).testing = true ∧ (s.core 0 0).task = none) ∧
    (([0, 8, 16, 24, 32] : List Nat).contains 32 = true ∧ ([0, 8, 16, 24, 32] : List Nat).contains 33 = false) ∧
    ((List.range 8).all (fun k => (State.reset.core 0 k).task = none) = true ∧
      ((State.reset.setCore 0 7 (only (task 0 [0]))).core 0 7).task ≠ none) := by decide +kernel

/-- Block 7 of stack 0 is served by its first spare. -/
def retiredOne : State := { State.reset with mctl := { State.reset.mctl with retired := nset 29696 State.reset.mctl.retired (retKey 0 7) 0 } }

/-- The last data block, an address past it; a unit with spares and with one; words of a unit; a count below the threshold. -/
theorem test_meets_BlocksAreScrubbedAndRetired :
    inData 0 = true ∧ inData (hbmTop - 1) = true ∧ inData hbmTop = false ∧ State.reset.obj (kDev (unitIdx 0) 8) ≠ 0 ∧
    (objs [(kDev (unitIdx 0) 8, 1)]).obj (kDev (unitIdx 0) 8) = 1 ∧ 1 < unitWords 0 ∧ unitWords 0 ≤ 2 ^ 40 - 1 ∧
    placeOf 0 0 = .data 0 ∧ nget 0 State.reset.mctl.ceCount (retKey 0 0) + 1 < State.reset.obj (kDev 0x7300 3) ∧
    Config.lpddrPresent = 8 ∧
    (let s := retiredOne
     placeOf 0 (spareOff 0 / 64 * 64) = .spare 0 ∧ s.servedBy 0 0 = some 7 ∧ spareOff 0 / 64 + 1 < unitWords 0 ∧
       nget 0 s.mctl.ceCount (retKey 0 7) + 1 < s.obj (kDev 0x7300 3)) := by decide +kernel

/-- A block one error below the threshold, in a unit with spares and in one with none; the last word of a unit; a word that a
task reads; one of scratch, in the control region and outside it, and one that is not mapped; a link that is UP. -/
theorem test_meets_BlocksAreScrubbedAndRetired_more :
    (let s := { State.reset with mctl := { State.reset.mctl with ceCount := nset 0 [] (retKey 0 0) 1000 } }
     s.obj (kDev 0x7300 3) ≤ nget 0 s.mctl.ceCount (retKey 0 0) + 1 ∧ s.obj (kDev (unitIdx 0) 8) ≠ 0 ∧
       (s.setObj (kDev (unitIdx 0) 8) 0).obj (kDev (unitIdx 0) 8) = 0) ∧
    wordExists 15 (unitWords 15 - 1) = true ∧ unitWords 15 - 1 < 2 ^ 40 ∧ wordExists 0 0 = true ∧
    (running (only (task 0 [0]))).moduleState = 3 ∧ ((running (only (task 0 [0]))).core 0 0).task = some (task 0 [0]) ∧
    (0x100000 < State.reset.scratchSize 0 ∧ inControl 0x100000 = false ∧ inControl 0 = true ∧
      (objs [(kCl 0 0x90 1, 32)]).scratchSize 0 ≤ 0x3FFFFFF) ∧
    (running (only (task 0 [0]))).siteState 0 0 ≠ 0 ∧ (linked 2 3 id).linkState 0 ≠ 0 ∧ (linked 2 3 id).moduleState = 3 := by
  decide +kernel

/-- Results of a self-test that found no fault. -/
def allPass (adder : Bool) : SelfTest :=
  { clusters := List.replicate 12 0, mems := List.replicate 24 true, links := List.replicate 64 3, engines := List.replicate 12 true,
    adderFail := adder, dispatchFail := false, failPhase := 0, sfuFail := 0 }

/-- The module in a state with its power control and Patrol's power. -/
def powered (st : Nat) (l : List (Nat × Nat)) (f : Power → Power) : State :=
  let s := objs ((kDev 0x3001 1, st) :: l)
  { s with power := f s.power, patrol := { s.patrol with on := true } }

theorem test_meets_PowerUpLeadsToReady :
    [0, 1, 2, 3, 4, 5].all (fun st => (powered st [] id).moduleState = st) = true ∧
    (let s := powered 0 [(kDev 0x3001 2, 1), (kDev 0x1030 1, 0)] (fun p => { p with inputLow := false })
     s.patrol.on = true ∧ s.obj (kDev 0x3001 2) = 1 ∧ s.power.inputLow = false ∧ s.power.tripped = false ∧ s.obj (kDev 0x1030 1) ≠ 2 ∧
       s.patrol.restarting = false ∧ State.reset.power.inputLow = true) ∧
    ([0, 1].all (fun i => State.reset.standbyLoss.imageGood i) = true ∧ [0, 1, 2].all (fun m => stMem (allPass false) m ≠ 2) = true ∧
      stMem { allPass false with mems := List.replicate 24 false } 0 = 2) ∧
    (((List.range 12).all (fun cl => stCluster (allPass false) cl % 256 = 0) = true ∧ stOther (allPass false) = false) ∧
      stOther (allPass true) = true) ∧
    (let s := powered 5 ((List.range 12).map (fun cl => (kDev 0x4101 (cl + 1), 1))) id
     s.power.otherFail = false ∧ (List.range 12).all (fun cl => s.obj (kDev 0x4101 (cl + 1)) % 256 ≠ fuses cl) = true) ∧
    (let s := powered 5 ((List.range 12).map (fun cl => (kDev 0x4101 (cl + 1), fuses cl))) id
     (List.range 12).any (fun cl => s.obj (kDev 0x4101 (cl + 1)) % 256 = fuses cl) = true) ∧
    (let s := powered 0 [] (fun p => { p with tripped := true })
     s.power.tripped = true ∧ (List.range 50).all (fun i => s.temp i ≤ s.throttleAt i - 1000) = true ∧ s.anyCtxActive = false) ∧
    (let s := powered 0 [(kTemp 0, 12000)] (fun p => { p with tripped := true })
     (List.range 50).any (fun i => s.throttleAt i - 1000 < s.temp i) = true) ∧
    (objs [(kCtx 0 1, 2)]).anyCtxActive = true ∧
    ([0, 1, 2, 3].all (fun v => fld (v * 2 ^ 7) 8 7 = v) = true ∧ State.reset.standbyLoss.patrol.cut = []) := by decide +kernel

/-- Powers above, at and below the limit, with loops counted; a clamp; temperatures of every sensor. -/
theorem test_meets_CapsFollowPowerAndTemperature :
    (let s := powered 3 [] id
     s.patrol.restarting = false ∧ s.patrol.on = true ∧ s.obj (kDev 0x3020 1) = 2000 ∧ s.power.below < 9 ∧ s.power.cool < 9) ∧
    9 ≤ (powered 3 [] (fun p => { p with below := 9, cool := 9 })).power.below ∧
    (List.replicate 34 (0 : Int)).length = 34 ∧ (List.replicate 16 (0 : Int)).length = 16 ∧
    (let u := (powered 3 [] id).thermal (List.replicate 34 0) (List.replicate 16 0)
     (List.range 50).all (fun i => u.temp i ≤ u.throttleAt i - 500) = true) ∧
    (let u := (powered 3 [] id).thermal (List.replicate 34 20000) (List.replicate 16 0)
     u.throttleAt 0 < u.temp 0) := by decide +kernel

theorem test_meets_SupplyAndTripsHoldAndReset :
    (let s := powered 3 [(kDev 0x3010 1, 700)] id
     s.obj (kDev 0x3010 1) = 700 ∧ s.patrol.on = true ∧ s.moduleState = 3) ∧
    ((powered 4 [] id).moduleState = 4 ∧ (powered 4 [] id).power.tripAt = none) ∧
    State.reset.tripValue 0 = 11500 ∧
    ((powered 4 [] (fun p => { p with tripAt := some 0 })).power.tripAt = some 0 ∧ (powered 4 [] id).timeNs < 0 + 5000000) ∧
    ((powered 3 [] id).busyCtxs = [] ∧ (powered 3 [(kCtx 0 1, 1)] id).busyCtxs ≠ [] ∧ (powered 3 [(kCtx 0 1, 1)] id).patrol.restarting = false ∧
      { (powered 3 [] id).patrol with restarting := true }.restarting = true) ∧
    (State.reset.tripValue 0 < 11600 ∧ [1, 2, 4, 5].all (fun st => (powered st [] id).moduleState = st) = true) ∧
    (let s := { powered 4 [] (fun p => { p with tripAt := some 0 }) with timeNs := 5000000 }
     0 + 5000000 ≤ s.timeNs ∧ s.power.tripAt = some 0) ∧
    ((powered 4 [] id).power.snapBusy = false ∧ (powered 4 [] (fun p => { p with snapBusy := true })).patrol.restarting = false) := by
  decide +kernel

/-- The ends of the ranges: 650 and 740, 580 and 640 V; pairs that are far enough apart and ones that are not. -/
theorem test_meets_ThresholdPairsStayApart :
    (740 : Int) ^ 2 - (640 : Int) ^ 2 ≥ 82500 ∧ (650 : Int) ^ 2 - (580 : Int) ^ 2 ≥ 82500 ∧ (650 : Int) ^ 2 - (640 : Int) ^ 2 < 82500 ∧
    (objs [(kDev 0x3010 1, 650), (kDev 0x3011 1, 640)]).obj (kDev 0x3010 1) = 650 ∧
    (objs [(kDev 0x3010 1, 650), (kDev 0x3011 1, 640)]).obj (kDev 0x3011 1) = 640 := by decide +kernel

/-! ### Patrol and the host -/

/-- A READY module whose endpoint is UP and whose Patrol serves. -/
def hosted (l : List (Nat × Nat)) (f : State → State) : State :=
  let s := ready ((kDev 0x1050 1, 2) :: l)
  f { s with patrol := { s.patrol with on := true } }

/-- The upper part of a request's header: OP, LEVEL, INDEX, SUBINDEX, LENGTH and AUTH_SEQ; TARGET is 0. -/
def upper (op lvl idx sub len auth : Nat) : Nat :=
  (at' 1 383 376 + at' op 375 368 + at' lvl 359 358 + at' 7 351 320 + at' idx 319 304 + at' sub 303 296 + at' len 287 272 +
    at' auth 255 192) / 2 ^ 128

/-- An in-band request of the physical function with that header and a tag. -/
def asked (c t : Nat) (p : List Byte) : Msg := ⟨.inband 0, BitVec.ofNat 384 (2 ^ 128 * c + t), p⟩

/-- One from the network, to a module of serial number 0. -/
def fromNet (op lvl idx sub : Nat) : Msg := ⟨.net 1 2, BitVec.ofNat 384 (2 ^ 128 * upper op lvl idx sub 0 0), []⟩

theorem fld_tag {c t hi lo : Nat} (ht : t < 2 ^ 128) (hl : 128 ≤ lo) : fld (2 ^ 128 * c + t) hi lo = fld (2 ^ 128 * c) hi lo := by
  obtain ⟨k, rfl⟩ := Nat.exists_eq_add_of_le hl
  simp only [fld, Nat.shiftRight_eq_div_pow, Nat.pow_add, ← Nat.div_div_eq_div_mul]
  rw [Nat.mul_add_div (by decide), Nat.div_eq_of_lt ht, Nat.add_zero, Nat.mul_div_cancel_left _ (by decide)]

theorem asked_hdr {c t : Nat} {p : List Byte} (hc : c < 2 ^ 256) (ht : t < 2 ^ 128) : (asked c t p).hdr.toNat = 2 ^ 128 * c + t := by
  rw [asked, BitVec.toNat_ofNat, Nat.mod_eq_of_lt]
  omega

/-- Whatever its tag, a request of this header is good; its tag is the header's low part, and the tag that R675 asks for does not
depend on it: so one tag is right and every other one is not. -/
theorem test_tag_is_free (c t : Nat) (p : List Byte) (k : BitVec 256) (hc : c < 2 ^ 256) (ht : t < 2 ^ 128) :
    hTag (asked c t p).hdr.toNat = t ∧ tagOf k (asked c t p).hdr.toNat p = tagOf k (2 ^ 128 * c) p := by
  have h : hTag (2 ^ 128 * c + t) = t := by
    simp only [hTag, fld, Nat.shiftRight_zero]
    omega
  have h0 : hTag (2 ^ 128 * c) = 0 := by
    simp only [hTag, fld, Nat.shiftRight_zero]
    omega
  rw [asked_hdr hc ht]
  exact ⟨h, by simp only [tagOf, h, h0, Nat.add_sub_cancel, Nat.sub_zero]⟩

theorem test_fields_ignore_the_tag {c t : Nat} (src : Source) (p : List Byte) (ht : t < 2 ^ 128) :
    let h := 2 ^ 128 * c + t
    let z := 2 ^ 128 * c
    msgBad src h p = msgBad src z p ∧ targetOk src h = targetOk src z ∧ hOp h = hOp z ∧ hIndex h = hIndex z ∧ hSub h = hSub z ∧
      hLevel h = hLevel z ∧ hAuth h = hAuth z := by
  have e : ∀ hi lo, 128 ≤ lo → fld (2 ^ 128 * c + t) hi lo = fld (2 ^ 128 * c) hi lo := fun _ _ => fld_tag ht
  dsimp only
  unfold msgBad levelOf targetOk hVer hOp hIndex hSub hLevel hAuth hRsvdOk hLen hTarget
  rw [e 383 376 (by decide), e 375 368 (by decide), e 359 358 (by decide), e 357 352 (by decide), e 295 288 (by decide),
    e 271 256 (by decide), e 287 272 (by decide), e 191 128 (by decide), e 319 304 (by decide), e 303 296 (by decide),
    e 255 192 (by decide)]
  exact ⟨rfl, rfl, rfl, rfl, rfl, rfl, rfl⟩

theorem leNat_bound (l : List Byte) : leNat l < 256 ^ l.length := by
  induction l with
  | nil => decide
  | cons b l ih =>
    have := b.isLt
    simp only [leNat, List.length_cons, Nat.pow_succ] at *
    omega

theorem test_tag_fits (k : BitVec 256) (h : Nat) (p : List Byte) : tagOf k h p < 2 ^ 128 := by
  refine Nat.lt_of_lt_of_le (leNat_bound _) (Nat.le_trans (Nat.pow_le_pow_right (by decide) (List.length_take_le ..)) (by decide))

/-- A request at LEVEL 1 that writes WATCHDOG of cluster 0, with AUTH_SEQ 5. -/
def keyed : Nat := upper 2 1 0x5000 3 4 5

/-- One that writes 0xF000, which needs a service tag, and one that writes a constant. -/
def keyedSeg : Nat := upper 2 1 0xF000 0 4 5
def keyedConst : Nat := upper 2 1 0x1001 1 4 5

/-- Whatever its tag, a request of such a header is good, of LEVEL 1 and AUTH_SEQ 5, and needs the same level. -/
theorem test_tagged_request (c : Nat) (p : List Byte) (hc : c < 2 ^ 256)
    (h : (!msgBad (.inband 0) (2 ^ 128 * c) p && hTarget (2 ^ 128 * c) = 0 &&
      !noObject (hOp (2 ^ 128 * c)) (hIndex (2 ^ 128 * c)) (hSub (2 ^ 128 * c)) && hLevel (2 ^ 128 * c) = 1 &&
      hAuth (2 ^ 128 * c) = 5) = true) (t : Nat) (ht : t < 2 ^ 128) (s : State) :
    GoodRequest s (asked c t p) ∧ levelOf (asked c t p).src (asked c t p).hdr.toNat = 1 ∧ hAuth (asked c t p).hdr.toNat = 5 ∧
    levelNeeded s (asked c t p) = if hOp (2 ^ 128 * c) ≤ 4 then
      s.need (.inband 0) (hOp (2 ^ 128 * c)) (hIndex (2 ^ 128 * c)) (hSub (2 ^ 128 * c)) else some 0 := by
  obtain ⟨h1, h2, h3, h4, h5, h6, h7⟩ := test_fields_ignore_the_tag (c := c) (.inband 0) p ht
  have hh := asked_hdr (p := p) hc ht
  simp only [Bool.and_eq_true, Bool.not_eq_true', decide_eq_true_eq] at h
  obtain ⟨⟨⟨⟨a1, a2⟩, a3⟩, a4⟩, a5⟩ := h
  have hl : levelOf (.inband 0) (2 ^ 128 * c + t) = 1 := by
    rw [levelOf, h6, a4]
    rfl
  refine ⟨⟨?_, ?_, ?_⟩, ?_, ?_, ?_⟩
  · rw [hh]; exact h1.trans a1
  · rw [hh]; exact h2.trans (by rw [targetOk, a2]; simp)
  · rw [hh, h3, h4, h5]; exact a3
  · rw [hh]; exact hl
  · rw [hh, h7]; exact a5
  · rw [levelNeeded, hh, h3, h4, h5]; rfl

/-- The tag that R675 asks for, and another one. -/
theorem test_right_and_wrong_tags (c : Nat) (p : List Byte) (hc : c < 2 ^ 256) (k : BitVec 256) :
    (∃ t < 2 ^ 128, hTag (asked c t p).hdr.toNat = tagOf k (asked c t p).hdr.toNat p) ∧
    (∃ t < 2 ^ 128, hTag (asked c t p).hdr.toNat ≠ tagOf k (asked c t p).hdr.toNat p) := by
  have hf := test_tag_fits k (2 ^ 128 * c) p
  refine ⟨⟨_, hf, ?_⟩, ⟨(tagOf k (2 ^ 128 * c) p + 1) % 2 ^ 128, Nat.mod_lt _ (by decide), ?_⟩⟩
  · obtain ⟨h1, h2⟩ := test_tag_is_free c _ p k hc hf
    rw [h1, h2]
  · obtain ⟨h1, h2⟩ := test_tag_is_free c _ p k hc (Nat.mod_lt (tagOf k (2 ^ 128 * c) p + 1) (by decide : 0 < 2 ^ 128))
    rw [h1, h2]
    omega

/-- A Patrol whose operator key is set: of each header there is a request with the right tag, and one with a wrong one. -/
theorem test_meets_RequestsAreAnswered_tags :
    let s := hosted [(kDev 0x1010 0xC, 0)] (fun s => s.setKey 1 5)
    ∀ x ∈ [(keyed, some 1), (keyedSeg, some 2), (keyedConst, none)], ∀ key ∈ [none, some (5 : BitVec 256)],
      ∃ m : Msg, GoodRequest s m ∧ levelOf m.src m.hdr.toNat = 0 + 1 ∧ tagKey s m = key ∧ levelNeeded s m = x.2 ∧
        s.obj (kDev 0x1040 (3 + 0)) < hAuth m.hdr.toNat ∧ hAuth m.hdr.toNat ≤ (s.setObj (kDev 0x1040 3) 5).obj (kDev 0x1040 3) := by
  intro s x hx key hk
  have hc : x.1 < 2 ^ 256 := by
    simp only [List.mem_cons, List.not_mem_nil, or_false] at hx
    obtain rfl | rfl | rfl := hx <;> decide +kernel
  have hg := List.all_eq_true.1 (show [(keyed, some 1), (keyedSeg, some 2), (keyedConst, none)].all (fun x =>
      (!msgBad (.inband 0) (2 ^ 128 * x.1) [7, 0, 0, 0] && hTarget (2 ^ 128 * x.1) = 0 &&
        !noObject (hOp (2 ^ 128 * x.1)) (hIndex (2 ^ 128 * x.1)) (hSub (2 ^ 128 * x.1)) && hLevel (2 ^ 128 * x.1) = 1 &&
        hAuth (2 ^ 128 * x.1) = 5) && decide ((if hOp (2 ^ 128 * x.1) ≤ 4 then
        s.need (.inband 0) (hOp (2 ^ 128 * x.1)) (hIndex (2 ^ 128 * x.1)) (hSub (2 ^ 128 * x.1)) else some 0) = x.2)) = true by
    decide +kernel) x hx
  rw [Bool.and_eq_true, decide_eq_true_eq] at hg
  have hs : s.levelKey 1 = some 5 := by decide +kernel
  have h0 : s.obj (kDev 0x1040 3) < 5 ∧ 5 ≤ (s.setObj (kDev 0x1040 3) 5).obj (kDev 0x1040 3) := by decide +kernel
  obtain ⟨⟨t, ht, hr⟩, ⟨u, hu, hw⟩⟩ := test_right_and_wrong_tags x.1 [7, 0, 0, 0] hc 5
  simp only [List.mem_cons, List.not_mem_nil, or_false] at hk
  have use := fun v hv => test_tagged_request x.1 [7, 0, 0, 0] hc hg.1 v hv s
  obtain rfl | rfl := hk
  · obtain ⟨a, b, c, d⟩ := use u hu
    exact ⟨_, a, b, by simp only [tagKey, b, hs, Option.filter_some]; rw [if_neg]; simpa [asked] using hw, d.trans hg.2, c ▸ h0⟩
  · obtain ⟨a, b, c, d⟩ := use t ht
    exact ⟨_, a, b, by simp only [tagKey, b, hs, Option.filter_some]; rw [if_pos]; simpa [asked] using hr, d.trans hg.2, c ▸ h0⟩

/-- Whether a message is a good request at LEVEL 0. -/
def publicOk (m : Msg) : Bool :=
  let h := m.hdr.toNat
  !msgBad m.src h m.payload && hTarget h = 0 && m.src = .inband 0 && levelOf m.src h = 0

/-- A Patrol that is off, restarts or serves; a kept answer and none; each refusal, and requests that need each level. -/
theorem test_meets_RequestsAreAnswered :
    State.reset.standbyLoss.patrol.on = false ∧ PatrolServes (hosted [] id) ∧
    NotKept (hosted [] id) (fromNet 1 0 0x5000 3) ∧
    (let m := fromNet 1 0 0x5000 3
     (hosted [] (fun s => s.keepAnswer ⟨m.src, 7, answerTo 0 0 [] none⟩)).patrol.kept.any (fun k => k.src = m.src && k.seq = hSeq m.hdr.toNat)
       = true) ∧
    (hosted [] id).gate 0 true = .served ∧
    (hosted [(kDev 0x1050 5, 8)] id).gate 8 true = .served ∧
    msgBad (.inband 0) 0 [] = true ∧
    (∃ x ∈ [fromNet 1 0 0x5000 3, ⟨.net 1 2, BitVec.ofNat 384 (2 ^ 128 * upper 1 0 0x5000 3 0 0 + 2 ^ 128), []⟩],
      msgBad x.src x.hdr.toNat x.payload = false ∧ targetOk x.src x.hdr.toNat = false ∧ levelOf x.src x.hdr.toNat = 0) ∧
    (let m := asked (upper 1 0 0x5000 0xFF 0 0) 0 []
     publicOk m = true ∧ hOp m.hdr.toNat ≤ 4 ∧ hIndex m.hdr.toNat < 0xF000 ∧ objRow (hIndex m.hdr.toNat) (hSub m.hdr.toNat) = none) ∧
    ([(1, 3, some 0), (2, 3, some 1), (2, 1, none)].all (fun (p : Nat × Nat × Option Nat) =>
      let m := asked (upper p.1 0 (if p.2.1 = 1 then 0x1001 else 0x5000) p.2.1 0 0) 0 []
      publicOk m && (objRow (hIndex m.hdr.toNat) (hSub m.hdr.toNat)).isSome && levelNeeded (hosted [(kDev 0x1010 0xC, 0)] id) m = p.2.2)) = true ∧
    (hosted [] (fun s => s.setKey 1 5)).levelKey 1 = some 5 ∧ (hosted [] id).obj (kDev 0x1040 3) < 5 ∧
    5 ≤ (hosted [(kDev 0x1040 3, 5)] id).obj (kDev 0x1040 3) ∧ (hosted [(kDev 0x1010 0xC, 0)] id).obj (kDev 0x1010 0xC) = 0 ∧
    ((hosted [] id).readObj 0x5000 3).length ≤ 1400 := by
  refine ⟨by decide +kernel, ⟨by decide +kernel, by decide +kernel⟩, by unfold NotKept; decide +kernel, by decide +kernel, by decide +kernel,
    by decide +kernel, by decide +kernel, ?_, by decide +kernel, by decide +kernel, by decide +kernel, by decide +kernel, by decide +kernel,
    by decide +kernel, by decide +kernel⟩
  have ht : ∀ n, hTarget n ≠ Config.serial.toNat → hOp n = 1 → targetOk (.net 1 2) n = false := fun n h1 h2 => by
    simp [targetOk, h1, h2]
  by_cases h : Config.serial.toNat = 0
  · exact ⟨_, .tail _ (.head _), by decide +kernel, ht _ (by rw [h]; decide +kernel) (by decide +kernel), by decide +kernel⟩
  · exact ⟨_, .head _, by decide +kernel, ht _ (fun e => h (e ▸ by decide +kernel)) (by decide +kernel), by decide +kernel⟩

/-- A Patrol at work on a request, with 15 or 16 that wait; a window whose request waits; a request of no object. -/
theorem test_meets_RequestsAreAnswered_waits :
    (let s := fun n => hosted [] (fun s => { s with patrol := { s.patrol with working := true, queue := List.replicate n (fromNet 1 0 0x5000 3) } })
     (s 15).patrol.on = true ∧ (s 15).patrol.restarting = false ∧ (s 15).patrol.working = true ∧ (s 15).patrol.queue.length < 16 ∧
       16 ≤ (s 16).patrol.queue.length) ∧
    (let s := hosted [] (fun s => s.modFn 0 (fun x => { x with state := 1 }))
     s.gate 0 true = .served ∧ s.windowState 0 = 1) ∧
    noObject 6 0xB000 0 = true ∧ noObject 6 0xAFFF 0 = false ∧ noObject 1 0x5000 0xFF = true ∧ noObject 5 0x5000 0xFF = false := by
  decide +kernel

/-- publicOk gives a good request, its target the module's. -/
theorem test_public_is_good {m : Msg} (h : publicOk m = true) :
    msgBad m.src m.hdr.toNat m.payload = false ∧ targetOk m.src m.hdr.toNat = true ∧ levelOf m.src m.hdr.toNat = 0 := by
  simp only [publicOk, Bool.and_eq_true, Bool.not_eq_true', decide_eq_true_eq] at h
  exact ⟨h.1.1.1, by unfold targetOk; rw [h.1.2, h.1.1.2]; simp, h.2⟩

/-- Images that wait, are being received with enough bytes, or with too few; module states for an activation; restarting with
nothing queued; CLEAR objects and indices without one; PLCA's states. -/
theorem test_meets_PatrolControlsTakeEffect :
    (let s := objs [(kDev 0x1030 6, 2)]
     s.obj (kDev 0x1030 6) = 2 ∧ s.moduleState = 0) ∧
    (hosted [(kDev 0x1030 6, 2)] id).obj (kDev 0x1030 6) = 2 ∧ (hosted [(kDev 0x1030 6, 2)] id).moduleState = 3 ∧
    (powered 5 [(kDev 0x1030 6, 2)] id).moduleState = 5 ∧ (powered 4 [(kDev 0x1030 6, 2)] id).moduleState ∉ [0, 3, 5] ∧
    State.reset.obj (kDev 0x1030 6) ≠ 2 ∧ State.reset.patrol.restarting = false ∧
    (let s := hosted [] (fun s => { s with patrol := { s.patrol with restarting := true } })
     s.patrol.restarting = true ∧ s.patrol.queue = []) ∧
    [0, 1].all (fun i =>
      let s := hosted [(kDev 0x1030 6, 1), (kDev 0x1030 4, i)] (fun s => { s with patrol := { s.patrol with written := 4096 } })
      s.targetImage = i && s.obj (kDev 0x1030 6) = 1 && s.patrol.on && !s.patrol.restarting && 4096 ≤ s.patrol.written) = true ∧
    (let s := hosted [(kDev 0x1030 6, 1)] (fun s => { s with patrol := { s.patrol with written := 4095 } })
     s.patrol.written < 4096) ∧
    clearSpan 0x1020 = none ∧ clearSpan 0x9100 = some (0x13, 0xD, 0x11) ∧ clearSpan 0x913F = some (0x13, 0xD, 0x11) ∧
    clearSpan 0x9140 = none ∧
    (hosted [(kDev 0x1010 7, 1)] id).obj (kDev 0x1010 7) = 1 ∧
    (let s := hosted [(kDev 0x1010 4, 1), (kDev 0x1010 5, 1), (kDev 0x1010 7, 0)] id
     s.patrol.on = true ∧ s.obj (kDev 0x1010 4) = 1 ∧ s.obj (kDev 0x1010 5) ≠ 0 ∧ s.obj (kDev 0x1010 7) = 0) ∧
    (hosted [(kDev 0x1010 7, 2)] id).obj (kDev 0x1010 7) ≠ 0 ∧ (hosted [(kDev 0x1010 5, 0)] id).obj (kDev 0x1010 5) = 0 ∧
    (hosted [(kDev 0x1010 4, 0)] id).obj (kDev 0x1010 4) ≠ 1 := by decide +kernel

/-- Images that are good, cut off, and both cut off; keys that an untagged write sets and ones that it does not; a Patrol at work
with a request that waits and with none. -/
theorem test_meets_PatrolControlsTakeEffect_more :
    (let s := fun (c : List Nat) => hosted [(kDev 0x1030 4, 0)] (fun s => { s with patrol := { s.patrol with restarting := true, cut := c } })
     (s []).targetImage = 0 ∧ (s []).imageGood 0 = true ∧ (s [0]).imageGood 0 = false ∧ (s [0]).imageGood 1 = true ∧
       (s [0, 1]).imageGood 0 = false ∧ (s [0, 1]).imageGood 1 = false) ∧
    (hosted [(kDev 0x1010 0xC, 1)] id).need (.inband 0) 2 0x1040 1 = some 0 ∧
    (hosted [(kDev 0x1010 0xC, 0)] id).need (.inband 0) 2 0x1040 1 ≠ some 0 ∧ (hosted [] id).patrol.svcKey = none ∧
    (hosted [] (fun s => s.setKey 2 5)).patrol.svcKey ≠ none ∧ levelOf (.inband 0) (keyMsg 2 5 0).hdr.toNat ≠ 2 ∧
    tagKey (hosted [] id) (keyMsg 1 5 0) = none ∧
    (let s := fun q => hosted [] (fun s => { s with patrol := { s.patrol with working := true, queue := q } })
     (s []).patrol.working = true ∧ (s []).patrol.restarting = false ∧ NotKept (s []) (fromNet 1 0 0x5000 3) ∧
       inbandMsg (fromNet 1 0 0x5000 3) = false) ∧
    (hosted [(kDev 0x1010 7, 2)] id).patrol.on = true := by
  unfold NotKept
  decide +kernel

/-- The last word of cluster 11's scratch, 48 MiB of the 64. -/
def lastWord : Nat := scratchBase + 11 * 0x4000000 + 48 * 2 ^ 20 - 8

/-- An image of which at least its whole length was received. -/
theorem test_meets_ImageVerified :
    ∃ s : State, s.targetImage ≤ 1 ∧ s.obj (kDev 0x1030 6) = 1 ∧ PatrolServes s ∧ 4096 ≤ s.patrol.written ∧
      Config.imageField (s.imageBytes s.targetImage) 1 ≤ s.patrol.written :=
  ⟨hosted [(kDev 0x1030 6, 1)] (fun s => { s with patrol := { s.patrol with written := 4096 + Config.imageField [] 1 } }),
    by decide +kernel, by decide +kernel, ⟨by decide +kernel, by decide +kernel⟩, Nat.le_add_right .., Nat.le_add_left ..⟩

/-- The gate's answers; a window that waits; pieces of the BAR2 inside and outside memory; words of scratch and of HBM; a transfer
from the host and none; module states on each side of training; functions enabled or not. -/
theorem test_meets_HostAccessesPassTheEndpoint :
    State.reset.gate 0 true = .absent ∧ (endpoint 3 [(kDev 0x1050 5, 7)] id).gate 8 true = .absent ∧
    (endpoint 3 [] (fun s => s.modFn 8 (fun x => { x with d3hot := true }))).gate 8 true = .unsupported ∧
    (endpoint 2 [] id).gate 0 false = .refused ∧ (endpoint 2 [] id).gate 1 true = .refused ∧
    (List.range 9).all (fun f => [true, false].all (fun w => (endpoint 3 [] id).gate f w = .served && (endpoint 4 [] id).gate f w = .served))
      = true ∧
    (let s := endpoint 3 [] (fun s => { s.modFn 1 (fun x => { x with state := 1 }) with patrol := { s.patrol with restarting := true } })
     s.gate 1 true = .served ∧ s.patrol.restarting = true ∧ (s.fn 1).state = 1) ∧
    (let s := endpoint 3 [] id
     s.patrol.restarting = false ∧ (s.fn 0).state ≠ 1 ∧ s.barPieces 0 0 4096 false = some [(0, 4096)] ∧
     s.barPieces 0 4095 2 false = some [(4095, 1), (4096, 1)] ∧ s.barPieces 0 (bar2Size 0 - 1) 2 false = none ∧
     s.barPieces 1 0 8 false = none ∧ s.barPieces 0 0 4096 true = some [(0, 4096)] ∧ s.barPieces 0 (bar2Size 0 - 1) 2 true = none ∧
     (s.scratchOf lastWord).isSome = true ∧ lastWord % wordBytes true = 0 ∧ s.clServes 11 = true ∧ s.scratchOf (lastWord + 8) = none ∧
     (lastWord + 4) % wordBytes true ≠ 0 ∧ s.hostTransfer = none) ∧
    (let s := endpoint 3 [] (fun s => moving { s with host := { s.host with target := 2 ^ 32 } }
       [transfer0 (chCmd 1 + 2 * 2 ^ 502) (some (0, 0)) (some [0]) []])
     s.hostTransfer ≠ none ∧ 4096 / 4096 = (4096 + 4095) / 4096 ∧ 4095 + 1 = 4096) ∧
    State.reset.moduleState < 2 ∧ (endpoint 2 [] id).moduleState = 2 ∧
    State.reset.obj (kDev 0x1050 1) ≠ 2 ∧ (endpoint 3 [] id).obj (kDev 0x1050 1) = 2 ∧ (endpoint 3 [] id).obj (kDev 0x1050 5) = 8 := by
  decide +kernel

/-- The last stack or package, and one past it; bases; the last byte of a data block's, of the sidecar's and of the spares' part of a
unit that the window shows; configuration accesses of every function, and of one that is not enabled. -/
theorem test_meets_HostAccessesPassTheEndpoint_windows :
    (endpoint 3 [] id).gate 0 false = .served ∧ (23 < 24 ∧ 2 ^ 25 % 2 ^ 25 = 0) ∧
    [(0, 0, 0), (0, sideOff 0 - 2 ^ 25, 2 ^ 25 - 1), (0, sideOff 0, 0), (0, idOff - 2 ^ 22, 2 ^ 22 - 1), (0, spareOff 0, 4095),
        (23, spareOff 23, 0)].all (fun (p : Nat × Nat × Nat) =>
      p.1 < 16 + Config.lpddrPresent && p.2.1 + p.2.2 + 1 ≤ unitSize p.1) = true ∧
    placeOf 0 (sideOff 0 - 1) = .data (sideOff 0 / 4096 - 1) ∧ placeOf 0 (sideOff 0) = .sidecar 0 ∧
    placeOf 0 (spareOff 0 + 4095) = .spare 0 ∧ retiredOne.servedBy 0 0 = some 7 ∧
    ([0, 8].all (fun f => (endpoint 3 [] id).obj (kDev 0x1050 1) = 2 && f ≤ (endpoint 3 [] id).obj (kDev 0x1050 5)) &&
      (endpoint 3 [(kDev 0x1050 5, 7)] id).obj (kDev 0x1050 5) < 8) = true := by decide +kernel

/-- An AtomicOp of the physical function on a word of scratch, and of a virtual one without a page; a cluster that serves nothing;
speeds and widths that train and that do not; a mirror write that waits, its page held and not; a vector's mask by the gate's
answers. -/
theorem test_meets_HostAccessesPassTheEndpoint_atomics :
    (let s := endpoint 3 [] id
     s.atomicPa 0 lastWord 8 = some lastWord ∧ atomicPlace s lastWord true = some (11, 48 * 2 ^ 20 - 8) ∧
       inLeases (48 * 2 ^ 20 - 8) = false ∧ s.disp.plans = [] ∧ s.scratchOf 0 = none) ∧
    (endpoint 3 [(kDev 0x1051 1, 0xFF)] id).atomicPa 1 0 8 = none ∧
    atomicAnswer (endpoint 3 [(kCl 11 0xB0 2, 3)] id) lastWord true = some .fenced ∧
    pcieTrains 64 16 = true ∧ pcieTrains 2 1 = true ∧ pcieTrains 3 16 = false ∧ pcieTrains 64 3 = false ∧
    [[], [(0, 1, 7)]].all (fun a =>
      let s := endpoint 3 [] (fun s => { s with host := { s.host with mirrorWait := [(0, 0, 4096, [1])], ats := a } })
      s.host.mirrorWait = [(0, 0, 4096, [1])] && 4096 % 4096 + [(1 : Byte)].length ≤ 4096 &&
        (s.host.ats.find? (fun y => y.1 = 0 && y.2.1 = 4096 / 4096)).isSome = !a.isEmpty) = true ∧
    (let s := endpoint 3 [] (fun s => s.modFn 8 (fun x => { x with d3hot := true }))
     s.gate 8 false = .unsupported ∧ s.gate 0 false = .served) ∧
    (endpoint 2 [] id).gate 0 false = .refused ∧
    (let s := endpoint 3 [] (fun s => s.modFn 0 (fun x => { x with state := 1 }))
     s.gate 0 true = .served ∧ s.windowState 0 = 1) ∧
    (endpoint 3 [] id).host.diagSel < 16 + Config.lpddrPresent := by decide +kernel

/-! ### Steps -/

/-- A queue with a command at its front, an empty queue, and a state other than reset's that keeps the invariant and whose step
answers. -/
theorem test_meets_StepRunsTheFrontCommand :
    ({ State.reset with pending := [.perst, .flrPf] } : State).pending = .perst :: [.flrPf] ∧ (ready []).pending = [] ∧
    (ready []).env = [] ∧ ({ ready [] with env := [.beaconDue] } : State).env = .beaconDue :: [] := by decide +kernel

theorem test_meets_StepKeepsTheInvariant :
    Inv { (ready []).put 5 [1, 2] with pending := [.perst] } ∧ ∃ t, step { (ready []).put 5 [1, 2] with pending := [.perst] } = .next t :=
  ⟨⟨by decide +kernel, by decide +kernel⟩, _, rfl⟩

/-! ### Ill-formed commands -/

theorem test_wellFormed_refuses :
    Instr.wellFormed (.decode 8) = false ∧ Instr.wellFormed (.encode 7) = false ∧
    Instr.wellFormed (.thermalLoop (List.replicate 33 0) (List.replicate 16 0)) = false ∧
    Instr.wellFormed (.thermalLoop (List.replicate 34 0) (List.replicate 17 0)) = false ∧
    SelfTest.wellFormed { allPass false with clusters := [] } = false ∧ SelfTest.wellFormed { allPass false with mems := [] } = false ∧
    SelfTest.wellFormed { allPass false with links := [] } = false ∧ SelfTest.wellFormed { allPass false with engines := [] } = false ∧
    Instr.wellFormed (.selftestDone { allPass false with engines := [] }) = false ∧
    [Instr.read, .write, .readSeg, .writeSeg, .discover, .list].all (fun f => !(f ⟨.net 0 0, 0, [1]⟩).wellFormed) = true ∧
    Instr.wellFormed (.adderContribution 0 0 [1]) = false ∧
    Instr.wellFormed (.groomerScrub 0 (BitVec.ofNat 40 (48 * 2 ^ 24)) .clean) = false ∧
    Instr.wellFormed (.bar2Access 0 0 (.read 0)) = false ∧ Instr.wellFormed (.bar2Access 0 0 (.read 4097)) = false ∧
    Instr.wellFormed (.bar2Access 0 0 (.write [])) = false ∧
    Instr.wellFormed (.bar2Access 0 0 (.bar0 (.diagRead 0 0))) = false ∧ Instr.wellFormed (.bar2Access 0 0 (.bar0 (.diagRead 0 4097))) = false ∧
    Instr.wellFormed (.bar2Access 0 0 (.bar0 (.diagRead (BitVec.ofNat 25 (2 ^ 25 - 1)) 2))) = false ∧
    Instr.wellFormed (.bar2Access 0 0 (.bar0 (.winRead 0x200B 2))) = false ∧ Instr.wellFormed (.bar2Access 0 0 (.bar0 (.winWrite 0xFFF [1, 2]))) = false ∧
    Instr.wellFormed (.hostWindowWrite (BitVec.ofNat 24 (2 ^ 24 - 1)) [1, 2]) = false ∧
    Instr.wellFormed (.pcieLinkTrainingDone true 5 17) = false := by decide +kernel

theorem test_wellFormed_accepts :
    Instr.wellFormed (.decode 7) = true ∧ Instr.wellFormed (.encode 8) = true ∧ Instr.wellFormed (.selftestDone (allPass false)) = true ∧
    Instr.wellFormed (.read ⟨.net 0 0, 0, []⟩) = true ∧ Instr.wellFormed (.pcieLinkTrainingDone true 5 16) = true ∧
    Instr.wellFormed (.bar2Access 0 0 (.bar0 (.diagRead (BitVec.ofNat 25 (2 ^ 25 - 1)) 1))) = true ∧ Instr.wellFormed (.endList at00) = true := by decide +kernel

/-! ### The spec's worked examples -/

/-- After R46: 464 is a tie that rounds to 448, 464.5 overflows; after R52: 1 + 2^-4 + 2^-23 is 0x39 at once and through RTO. -/
theorem test_e4m3_examples :
    fmtE4M3.round .rne false (.fin false 464 0) = (0x7E, ⟨1, 0, 0, 0⟩) ∧
    (fmtE4M3.round .rne false (.fin false 929 (-1))).1 = 0x7E ∧ (fmtE4M3.round .rne false (f32v 0x3F880001)).1 = 0x39 ∧
    (fmtBf16.round .rto false (f32v 0x3F880001)).1 = 0x3F89 ∧ (fmtE4M3.round .rne false (bfv 0x3F89)).1 = 0x39 ∧
    (fmtE4M3.round .rne false (bfv (fmtBf16.round .rne false (f32v 0x3F880001)).1)).1 = 0x38 := by decide +kernel

/-- After R49: 0x3F80_B000 to bfloat16 with SR goes up for r from 5 on; so does 0x3F80_B7FF. -/
theorem test_stochastic_example :
    (List.range 16).all (fun r => [0x3F80B000, 0x3F80B7FF].all (fun x =>
      (fmtBf16.round (.sr r) false (f32v x)).1 = (if 5 ≤ r then 0x3F81 else 0x3F80))) = true := by decide +kernel

/-- After R68: the three pieces of 0x3FAB_CDEF. -/
theorem test_split3_example :
    (let p := split3 0x3FABCDEF
     (fmtBf16.round .rne false p.1).1 = 0x3FAB ∧ (fmtBf16.round .rne false p.2.1).1 = 0x3BCD ∧
       (fmtBf16.round .rne false p.2.2.1).1 = 0x37EF) := by decide +kernel

/-- After R267: indices of an extent of 10 in the modes ZERO, WRAP and CLAMP. -/
theorem test_index_example :
    [7, -1, 12, -10, -11].map (fun i => (effIndex 0 10 i).1) = [some 7, none, none, none, none] ∧
    [7, -1, 12, -10, -11].map (fun i => (effIndex 1 10 i).1) = [some 7, some 9, none, some 0, none] ∧
    [7, -1, 12, -10, -11].map (fun i => (effIndex 2 10 i).1) = [some 7, some 0, some 9, some 0, some 0] := by decide +kernel

/-- After R305: coordinates of an axis of 5 in the modes MIRROR and EDGE. -/
theorem test_padding_example :
    [-9, -1, 5, 12].map (fun i => (padCoord 2 5 i).2) = [1, 1, 3, 4] ∧ [-9, -1, 5, 12].map (fun i => (padCoord 3 5 i).2) = [0, 0, 4, 4] := by
  decide +kernel

/-- After R309: UP2 with linear mode maps 0, 4, 8 to 0, 1, 3, 5, 7, 8. -/
theorem test_up2_example :
    (List.range 6).map (fun o => (resampleComb true 1 ((resampleCoords true true 3 o).map (fun i => f32OfNat (4 * i)))).1) =
      [0, 1, 3, 5, 7, 8].map f32OfNat := by decide +kernel

/-- After R315: the box from 100.0 to 300.0 at 256 columns, and the one from -10.0 to 246.0. -/
theorem test_crop_example :
    cropPoint false 0x42C80000 0x43960000 256 0 = 0x42C7C800 ∧ cropNearest 832 (cropPoint false 0x42C80000 0x43960000 256 0) = 100 ∧
    cropLinear 832 (cropPoint false 0x42C80000 0x43960000 256 0) = (99, 100, 0x3F640000) ∧
    cropLinear 832 (cropPoint false 0x42C80000 0x43960000 256 255) = (299, 300, 0x3DE00000) ∧
    cropOutside 832 (cropPoint false 0xC1200000 0x43760000 256 9) = true ∧ cropPoint false 0xC1200000 0x43760000 256 10 = 0 := by
  decide +kernel

/-- After R422: address 0x1234_5A40 lies in stack 2, block 0x1234; its neighbours in stacks 1 and 3. -/
theorem test_address_map_example :
    unitOf 0x12345A40 = 2 ∧ localBlock 0x12345A40 = 0x1234 ∧ unitOf 0x12346A40 = 1 ∧ unitOf 0x12355A40 = 3 := by decide +kernel

/-- The audit of a rollout, after R411: the words of the block, and the Gaussian element in bfloat16. -/
theorem test_gaussian_example :
    (rngState 0 0x1C23 (streamId 0x412 4) (338146888 / 16)).drop 12 = [0x01427B64#32, 0#32, 0x00041204#32, 0x00001C23#32] ∧
    (let t := (f32mul (sfu false .log 0x3E800000).1 0xC0000000).1
     let r := (f32mul t (sfu false .rsqrt t).1).1
     (fmtBf16.round .rne false (f32v (f32mul r (sfu false .cosr 0x3E000000).1).1)).1 = 0x3F97) := by decide +kernel

/-- After R95: L = 10 splits into [0,8) and [8,10); [6,10) is no node. -/
theorem test_tree_example :
    leftSize 10 = 8 ∧ isCanonical 10 8 10 = true ∧ isCanonical 10 0 8 = true ∧ isCanonical 10 6 10 = false ∧
    isCanonical 4096 1234 1236 = true := by decide +kernel

/-- After R202: the row of the captioning example, its tokens numbered in order. Token 1 is drawn at rank 1, three are kept, and
LOGPROB lies between -1.294378 and -1.294376. -/
theorem test_sampler_example :
    (let r := (sampleRow false 0x3F800000 0x3F666666 4 0xB0000000 0 (fun _ => true) [0x3F800000, 0x40200000, 0x40400000, 0x40200000]).1
     fld r 127 96 = 1 ∧ fld r 63 32 = 0xB0000000 ∧ fld r 31 16 = 3 ∧ fld r 15 0 = 0 ∧
       (f32v 0xBFA5AE2D).lt (f32v (fld r 95 64)) = true ∧ (f32v (fld r 95 64)).lt (f32v 0xBFA5AE1C) = true) := by decide +kernel

end Sys2Proof.Tests
end

section
/-! PROOFS. Writes of an object and of a core, the logical core numbers (R5), and the cores that UNFENCE tests and the
caches that CACHE_MIB sizes (R440, R602). -/

namespace Sys2Proof.Machine

open Sys2Proof.Claims

/-! ### Writes of an object and of a core -/

/-- A write of one object is the write of an object and of nothing else. -/
theorem setObj_objWrite (s : State) (k v : Nat) : ObjWrite s (s.setObj k v) [(k, v)] := by
  refine ⟨rfl, fun j => ?_⟩
  by_cases h : k = j
  · subst h
    simp
  · simp [h, State.obj_setObj_ne s (Ne.symm h)]

/-- A write of a core changes that core alone. -/
theorem setCore_coreOnly (s : State) (core : CoreId) (c : CoreSt) : CoreOnly s (s.setCore core.c core.s c) core c where
  rest := rfl
  bytes _ := rfl
  others _ h := nget_nset_ne _ _ h _
  core := State.core_setCore_same s core.c core.s c

/-! ### Logical core numbers (R5) -/

/-- The object that holds the logical number of the i-th site. -/
def numberKey (i : Nat) : Nat := kCore (i / 8) (i % 8) 0 2

/-- One site of the numbering: the state so far and the next number that is free. -/
def numberSite (acc : State × Nat) (i : Nat) : State × Nat :=
  if acc.1.siteState (i / 8) (i % 8) = 1 ∨ acc.1.siteState (i / 8) (i % 8) = 2 then
    (acc.1.setObj (numberKey i) acc.2, acc.2 + 1)
  else (acc.1.setObj (numberKey i) 0xFF, acc.2)

/-- The numbering of the first `n` sites. -/
def numberSites (s : State) (n : Nat) : State × Nat := (List.range n).foldl numberSite (s, 0)

theorem renumber_eq_numberSites (s : State) : s.renumber = (numberSites s 96).1 := rfl

theorem numberSites_succ (s : State) (n : Nat) : numberSites s (n + 1) = numberSite (numberSites s n) n := by
  simp [numberSites, List.range_succ]

/-- One site's numbering writes its number and nothing else. -/
theorem numberSite_fst (acc : State × Nat) (i : Nat) : ∃ v, (numberSite acc i).1 = acc.1.setObj (numberKey i) v := by
  unfold numberSite
  split
  · exact ⟨_, rfl⟩
  · exact ⟨_, rfl⟩

theorem numberSite_snd_le (acc : State × Nat) (i : Nat) : (numberSite acc i).2 ≤ acc.2 + 1 := by
  unfold numberSite
  split <;> simp

theorem numberKey_inj {i j : Nat} (hi : i < 96) (hj : j < 96) (h : numberKey i = numberKey j) : i = j := by
  simp only [numberKey, kCore, objKey] at h
  omega

theorem siteStateKey_ne_numberKey (cl site i : Nat) : kCore cl site 0 1 ≠ numberKey i := by
  simp only [numberKey, kCore, objKey]
  omega

theorem fenceCauseKey_ne_numberKey (cl site i : Nat) : kCore cl site 3 3 ≠ numberKey i := by
  simp only [numberKey, kCore, objKey]
  omega

/-- The numbering writes objects alone. -/
theorem numberSites_objs_only (s : State) (n : Nat) : (numberSites s n).1 = { s with objs := (numberSites s n).1.objs } := by
  induction n with
  | zero => rfl
  | succ n ih =>
    obtain ⟨v, hv⟩ := numberSite_fst (numberSites s n) n
    rw [numberSites_succ, hv, ih]
    rfl

/-- An object that holds no site's number is not touched by the numbering. -/
theorem numberSites_obj (s : State) (n : Nat) {k : Nat} (h : ∀ i, k ≠ numberKey i) : (numberSites s n).1.obj k = s.obj k := by
  induction n with
  | zero => rfl
  | succ n ih =>
    obtain ⟨v, hv⟩ := numberSite_fst (numberSites s n) n
    rw [numberSites_succ, hv, State.obj_setObj_ne _ (h n), ih]

theorem numberSites_siteState (s : State) (n cl site : Nat) : (numberSites s n).1.siteState cl site = s.siteState cl site :=
  numberSites_obj s n (siteStateKey_ne_numberKey cl site)

theorem numberSites_snd_le (s : State) (n : Nat) : (numberSites s n).2 ≤ n := by
  induction n with
  | zero => exact le_refl 0
  | succ n ih =>
    have := numberSite_snd_le (numberSites s n) n
    rw [numberSites_succ]
    omega

/-- A site that is idle or running gets a number below the number of sites passed. -/
theorem numberSites_live (s : State) {n i : Nat} (hn : n ≤ 96) (hi : i < n)
    (hs : s.siteState (i / 8) (i % 8) = 1 ∨ s.siteState (i / 8) (i % 8) = 2) : (numberSites s n).1.obj (numberKey i) < n := by
  induction n with
  | zero => omega
  | succ n ih =>
    rcases Nat.lt_succ_iff_lt_or_eq.1 hi with hlt | rfl
    · obtain ⟨v, hv⟩ := numberSite_fst (numberSites s n) n
      have hne : numberKey i ≠ numberKey n := fun h => by
        have := numberKey_inj (by omega) (by omega) h
        omega
      rw [numberSites_succ, hv, State.obj_setObj_ne _ hne]
      have := ih (by omega) hlt
      omega
    · have hle := numberSites_snd_le s i
      have hnum : (numberSite (numberSites s i) i).1 = (numberSites s i).1.setObj (numberKey i) (numberSites s i).2 := by
        rw [numberSite, numberSites_siteState, if_pos hs]
      rw [numberSites_succ, hnum, State.obj_setObj_same]
      omega

@[simp] theorem renumber_mem (s : State) : s.renumber.mem = s.mem := by
  rw [renumber_eq_numberSites, numberSites_objs_only]

@[simp] theorem renumber_cores (s : State) : s.renumber.cores = s.cores := by
  rw [renumber_eq_numberSites, numberSites_objs_only]

/-- An object that holds no core's number is the same after a numbering. -/
theorem renumber_obj (s : State) {k : Nat} (h : ∀ i, k ≠ numberKey i) : s.renumber.obj k = s.obj k := by
  rw [renumber_eq_numberSites, numberSites_obj s 96 h]

/-- A core that is idle or running has a logical number. -/
theorem renumber_live (s : State) (core : CoreId) (h : s.siteState core.c core.s = 1 ∨ s.siteState core.c core.s = 2) :
    s.renumber.obj (kCore core.c core.s 0 2) ≠ 0xFF := by
  have hc : core.c < 12 := core.cl.isLt
  have hk : core.s < 8 := core.site.isLt
  have hdiv : (core.c * 8 + core.s) / 8 = core.c := by omega
  have hmod : (core.c * 8 + core.s) % 8 = core.s := by omega
  have hlt := numberSites_live s (i := core.c * 8 + core.s) (le_refl 96) (by omega) (by rwa [hdiv, hmod])
  rw [numberKey, hdiv, hmod, ← renumber_eq_numberSites] at hlt
  omega

/-! ### UNFENCE and its tests (R602) -/

/-- A core whose tests have passed, before the cores are numbered again. -/
def State.testsPassed (s : State) (cl site : Nat) : State :=
  ((s.setCore cl site { s.core cl site with testing := false }).setObj (kCore cl site 3 3) 0).setObj (kCore cl site 0 1) 1

/-- A core whose tests have failed. -/
def State.testsFailed (s : State) (cl site : Nat) : State :=
  (s.setCore cl site { s.core cl site with testing := false }).setObj (kCore cl site 3 3) 7

theorem testsPassed_siteState (s : State) (cl site : Nat) : (s.testsPassed cl site).siteState cl site = 1 :=
  State.obj_setObj_same _ _ _

theorem testsPassed_fenceCause (s : State) (cl site : Nat) : (s.testsPassed cl site).obj (kCore cl site 3 3) = 0 := by
  have hne : kCore cl site 3 3 ≠ kCore cl site 0 1 := by
    simp only [kCore, objKey]
    omega
  rw [State.testsPassed, State.obj_setObj_ne _ hne, State.obj_setObj_same]

theorem testsPassed_core (s : State) (cl site : Nat) :
    (s.testsPassed cl site).core cl site = { s.core cl site with testing := false } := State.core_setCore_same s cl site _

theorem testsFailed_core (s : State) (cl site : Nat) :
    (s.testsFailed cl site).core cl site = { s.core cl site with testing := false } := State.core_setCore_same s cl site _

/-- UNFENCE_TEST_DONE acts on a fenced core whose tests run and on which no committed task stands for its record. -/
theorem unfenceDone_eq {s : State} {cl site : Nat} (hs : s.siteState cl site = 3) (ht : (s.core cl site).testing = true)
    (hn : (s.core cl site).task = none) (pass : Bool) :
    s.unfenceDone cl site pass = if pass then (s.testsPassed cl site).renumber else s.testsFailed cl site := by
  simp [State.unfenceDone, State.testsPassed, State.testsFailed, hs, ht, hn]

theorem unfenceDone_idle {s : State} {cl site : Nat} (pass : Bool)
    (h : s.siteState cl site ≠ 3 ∨ (s.core cl site).testing = false ∨ (s.core cl site).task.isSome = true) :
    s.unfenceDone cl site pass = s := by
  rw [State.unfenceDone]
  exact if_pos (by simpa [or_assoc] using h)

/-- The tests pass: the core reads IDLE, without a cause, and has a number again. -/
theorem unfenceTestDone_pass {s : State} {core : CoreId} (hs : s.siteState core.c core.s = 3)
    (ht : (s.core core.c core.s).testing = true) (hn : (s.core core.c core.s).task = none) :
    ∃ u, exec (.unfenceTestDone core true) s = .next u ∧ BytesStay s u ∧ u.siteState core.c core.s = 1 ∧
      u.obj (kCore core.c core.s 3 3) = 0 ∧ u.obj (kCore core.c core.s 0 2) ≠ 0xFF ∧ (after u core).testing = false := by
  have hidle := testsPassed_siteState s core.c core.s
  refine ⟨(s.testsPassed core.c core.s).renumber, congrArg Host.Outcome.next (unfenceDone_eq hs ht hn true), ?_, ?_, ?_, ?_, ?_⟩
  · intro a
    rw [State.byte, renumber_mem]
    rfl
  · exact (renumber_obj _ (siteStateKey_ne_numberKey _ _)).trans hidle
  · exact (renumber_obj _ (fenceCauseKey_ne_numberKey _ _)).trans (testsPassed_fenceCause s _ _)
  · exact renumber_live _ core (Or.inl hidle)
  · rw [after, State.core, renumber_cores]
    exact congrArg CoreSt.testing (testsPassed_core s core.c core.s)

/-- The tests fail: the core stays fenced with cause 7, and no other object changes. -/
theorem unfenceTestDone_fail {s : State} {core : CoreId} (hs : s.siteState core.c core.s = 3)
    (ht : (s.core core.c core.s).testing = true) (hn : (s.core core.c core.s).task = none) :
    ∃ u, exec (.unfenceTestDone core false) s = .next u ∧ u = { s with cores := u.cores, objs := u.objs } ∧
      ObjsAre s u [(kCore core.c core.s 3 3, 7)] ∧ (after u core).testing = false :=
  ⟨s.testsFailed core.c core.s, congrArg Host.Outcome.next (unfenceDone_eq hs ht hn false), rfl, (setObj_objWrite _ _ _).2,
    congrArg CoreSt.testing (testsFailed_core s core.c core.s)⟩

/-! ### CACHE_MIB (R440) -/

theorem setCache_range (s : State) (cl : Nat) {v : Nat} (h : ([0, 8, 16, 24, 32] : List Nat).contains v = false) :
    s.setCache cl v = (s, stRange) := by
  rw [State.setCache, if_pos (by rw [h]; rfl)]

theorem setCache_busy (s : State) {cl v : Nat} (h : ([0, 8, 16, 24, 32] : List Nat).contains v = true)
    (ht : ∃ k < 8, (s.core cl k).task ≠ none) : s.setCache cl v = (s, stState) := by
  obtain ⟨k, hk, hne⟩ := ht
  have hbusy : (List.range 8).any (fun k => (s.core cl k).task.isSome) = true :=
    List.any_eq_true.2 ⟨k, List.mem_range.2 hk, Option.isSome_iff_ne_none.2 hne⟩
  rw [State.setCache, if_neg (by rw [h]; decide), if_pos hbusy]

theorem setCache_free (s : State) {cl v : Nat} (h : ([0, 8, 16, 24, 32] : List Nat).contains v = true)
    (ht : ∀ k < 8, (s.core cl k).task = none) : s.setCache cl v = (s.setObj (kCl cl 0x90 1) v, stOk) := by
  have hfree : ¬ (List.range 8).any (fun k => (s.core cl k).task.isSome) = true := by
    rw [List.any_eq_true]
    rintro ⟨k, hk, hsome⟩
    simp [ht k (List.mem_range.1 hk)] at hsome
  rw [State.setCache, if_neg (by rw [h]; decide), if_neg hfree]

/-! ### The obligation -/

/-- Settles O48: every write is decided by the core's state or the cluster's tasks; a passed test is a numbering after the two
writes that make the core idle. -/
theorem coresAreUnfencedAndCachesSized : Obligations.CoresAreUnfencedAndCachesSized := by
  refine ⟨fun s core => ⟨rfl, rfl, fun h => ?_⟩, fun s core => ⟨fun h => ?_, fun h => ?_⟩,
    fun s core hs ht hn => ⟨unfenceTestDone_pass hs ht hn, unfenceTestDone_fail hs ht hn⟩,
    fun s core pass h => congrArg Host.Outcome.next (unfenceDone_idle pass h),
    fun s cl v hv => ⟨fun h => ?_, fun h => ?_⟩, fun s cl v hv => ?_⟩
  · exact congrArg (fun r => Host.Outcome.next (written r)) (show s.fenceWrite core.c core.s true = (s, stState) by
      simp [State.fenceWrite, h])
  · exact ⟨_, congrArg (fun r => Host.Outcome.next (written r)) (show s.unfence core.c core.s true =
      (s.setCore core.c core.s { s.core core.c core.s with testing := true }, stOk) by simp [State.unfence, h, State.modCore]),
      setCore_coreOnly s core _⟩
  · exact congrArg (fun r => Host.Outcome.next (written r)) (show s.unfence core.c core.s true = (s, stState) by
      simp [State.unfence, h])
  · exact ⟨_, congrArg (fun r => Host.Outcome.next (written r)) (setCache_free s hv h), setObj_objWrite s _ _⟩
  · exact congrArg (fun r => Host.Outcome.next (written r)) (setCache_busy s hv h)
  · exact congrArg (fun r => Host.Outcome.next (written r)) (setCache_range s cl.val hv)

end Sys2Proof.Machine
end

section
/-! PROOFS. The commit of a task (R13, R143, R368, R470, R616): what the sending of contributions leaves of tasks and leases,
what a commit comes to for a holder that publishes, a failed one and a stale one. -/

namespace Sys2Proof.Machine

open Sys2Proof.Claims

/-! ### Table references -/

theorem refTable_chair_only (s : State) (tag : Option (Nat × Nat)) : ∃ ch, s.refTable tag = { s with chair := ch } := by
  unfold State.refTable
  split
  · exact ⟨_, rfl⟩
  · split
    · exact ⟨_, rfl⟩
    · exact ⟨_, rfl⟩

theorem unrefTable_chair_only (s : State) (tag : Option (Nat × Nat)) : ∃ ch, s.unrefTable tag = { s with chair := ch } := by
  unfold State.unrefTable
  split
  · exact ⟨_, rfl⟩
  · split
    · exact ⟨_, rfl⟩
    · exact ⟨_, rfl⟩

/-- The release of descriptors' references changes the Chairlift's state alone. -/
theorem unrefMoves_chair_only (s : State) (l : List Mv) : ∃ ch, s.unrefMoves l = { s with chair := ch } := by
  induction l generalizing s with
  | nil => exact ⟨_, rfl⟩
  | cons m l ih =>
    obtain ⟨c1, h1⟩ := unrefTable_chair_only s m.xlat
    obtain ⟨c2, h2⟩ := unrefTable_chair_only { s with chair := c1 } m.src
    obtain ⟨c3, h3⟩ := unrefTable_chair_only { s with chair := c2 } m.box
    obtain ⟨ch, h⟩ := ih { s with chair := c3 }
    refine ⟨ch, ?_⟩
    rw [State.unrefMoves, List.foldl_cons, h1, h2, h3]
    exact h

@[simp] theorem unrefMoves_mem (s : State) (l : List Mv) : (s.unrefMoves l).mem = s.mem := by
  obtain ⟨ch, h⟩ := unrefMoves_chair_only s l
  rw [h]
@[simp] theorem unrefMoves_objs (s : State) (l : List Mv) : (s.unrefMoves l).objs = s.objs := by
  obtain ⟨ch, h⟩ := unrefMoves_chair_only s l
  rw [h]
@[simp] theorem unrefMoves_cores (s : State) (l : List Mv) : (s.unrefMoves l).cores = s.cores := by
  obtain ⟨ch, h⟩ := unrefMoves_chair_only s l
  rw [h]
@[simp] theorem unrefMoves_disp (s : State) (l : List Mv) : (s.unrefMoves l).disp = s.disp := by
  obtain ⟨ch, h⟩ := unrefMoves_chair_only s l
  rw [h]
@[simp] theorem unrefMoves_reds (s : State) (l : List Mv) : (s.unrefMoves l).reds = s.reds := by
  obtain ⟨ch, h⟩ := unrefMoves_chair_only s l
  rw [h]
@[simp] theorem unrefMoves_timeNs (s : State) (l : List Mv) : (s.unrefMoves l).timeNs = s.timeNs := by
  obtain ⟨ch, h⟩ := unrefMoves_chair_only s l
  rw [h]
@[simp] theorem unrefMoves_core (s : State) (l : List Mv) (cl site : Nat) :
    (s.unrefMoves l).core cl site = s.core cl site := by rw [State.core, unrefMoves_cores, State.core]

/-! ### The site of a task -/

/-- A search that stops at a key stops there again once that key has another value that is searched for. -/
theorem find?_nput {α : Type} {p : Nat × α → Bool} {m : NMap α} {k : Nat} {w v : α} (h : m.find? p = some (k, w))
    (hv : p (k, v) = true) : (nput k v m).find? p = some (k, v) := by
  induction m with
  | nil => cases h
  | cons e r ih =>
    obtain ⟨k', v'⟩ := e
    by_cases he : p (k', v') = true
    · rw [List.find?_cons_of_pos he] at h
      cases h
      simp [nput, hv]
    · rw [List.find?_cons_of_neg he] at h
      unfold nput
      split
      · exact List.find?_cons_of_pos hv
      · split
        · exact List.find?_cons_of_pos hv
        · rw [List.find?_cons_of_neg he, ih h]

theorem siteOfUid_congr {s u : State} (h : u.cores = s.cores) (uid : Nat) : u.siteOfUid uid = s.siteOfUid uid := by
  unfold State.siteOfUid
  rw [h]

/-- A task stays at its site when its core changes and keeps a task of that number. -/
theorem siteOfUid_modCore {s : State} {cl site uid : Nat} {f : CoreSt → CoreSt} {t : Task}
    (h : s.siteOfUid uid = some (cl, site)) (ht : (f (s.core cl site)).task = some t) (hu : t.uid = uid) :
    (s.modCore cl site f).siteOfUid uid = some (cl, site) := by
  unfold State.siteOfUid at h ⊢
  obtain ⟨⟨n, w⟩, hfind, hn⟩ := Option.map_eq_some_iff.1 h
  obtain ⟨rfl, rfl⟩ := Prod.mk.inj hn
  have hkey : n / 8 * 8 + n % 8 = n := by omega
  have hne : f (s.core (n / 8) (n % 8)) ≠ CoreSt.empty := fun hc => by
    rw [hc] at ht
    cases ht
  rw [State.modCore, State.setCore, nset, if_neg hne, hkey, find?_nput hfind (by simp [ht, hu])]
  rfl

theorem modTask_task {s : State} {cl site : Nat} {t : Task} (f : Task → Task) (ht : (s.core cl site).task = some t) :
    ((s.modTask cl site f).core cl site).task = some (f t) := by
  rw [State.core_modTask_same, ht]
  rfl

theorem siteOfUid_modTask {s : State} {cl site uid : Nat} {f : Task → Task} {t : Task}
    (h : s.siteOfUid uid = some (cl, site)) (ht : (s.core cl site).task = some t) (hu : (f t).uid = uid) :
    (s.modTask cl site f).siteOfUid uid = some (cl, site) :=
  siteOfUid_modCore h (by rw [ht]; rfl) hu

/-! ### What sending leaves of tasks and leases -/

/-- A task without what the sending of its contributions may change: codes, events and markers. -/
def Task.kept (t : Task) : Task := { t with codes := [], ev := Ev.none, dones := [], badContrib := false }

/-- What a commit says of its task, as far as sending does not change it. -/
structure SameCommit (t u : Task) : Prop where
  committed : u.committed = t.committed
  current : u.current = t.current
  commitTime : u.commitTime = t.commitTime
  commitMoves : u.commitMoves = t.commitMoves
  signals : u.signals = t.signals
  staged : u.staged = t.staged
  moves : u.moves = t.moves
  regions : u.regions = t.regions

theorem SameCommit.of_kept {t u : Task} (h : u.kept = t.kept) : SameCommit t u where
  committed := (congrArg Task.committed h :)
  current := (congrArg Task.current h :)
  commitTime := (congrArg Task.commitTime h :)
  commitMoves := (congrArg Task.commitMoves h :)
  signals := (congrArg Task.signals h :)
  staged := (congrArg Task.staged h :)
  moves := (congrArg Task.moves h :)
  regions := (congrArg Task.regions h :)

/-- A core whose task is taken so. -/
def CoreSt.kept (c : CoreSt) : CoreSt := { c with task := c.task.map Task.kept }

/-- Every lease stays, and every core but for what sending may change of its task. -/
structure TasksStay (s u : State) : Prop where
  leases : u.disp.leases = s.disp.leases
  cores : ∀ n, (nget CoreSt.empty u.cores n).kept = (nget CoreSt.empty s.cores n).kept

/-- Packets, contributions and markers are sent: memory, objects and reductions stay beside tasks and leases. -/
structure SendsOnly (s u : State) : Prop extends TasksStay s u where
  mem : u.mem = s.mem
  objs : u.objs = s.objs
  reds : u.reds = s.reds

theorem TasksStay.trans {s u v : State} (h : TasksStay s u) (k : TasksStay u v) : TasksStay s v :=
  ⟨k.leases.trans h.leases, fun n => (k.cores n).trans (h.cores n)⟩

theorem SendsOnly.refl (s : State) : SendsOnly s s := ⟨⟨rfl, fun _ => rfl⟩, rfl, rfl, rfl⟩

theorem SendsOnly.trans {s u v : State} (h : SendsOnly s u) (k : SendsOnly u v) : SendsOnly s v :=
  ⟨h.toTasksStay.trans k.toTasksStay, k.mem.trans h.mem, k.objs.trans h.objs, k.reds.trans h.reds⟩

theorem SendsOnly.foldl {β : Type} {f : State → β → State} (hf : ∀ s x, SendsOnly s (f s x)) (s : State) (l : List β) :
    SendsOnly s (l.foldl f s) := by
  induction l generalizing s with
  | nil => exact .refl s
  | cons x l ih => exact (hf s x).trans (ih _)

/-- A run of sendings of which each may fail. -/
theorem SendsOnly.foldl_ok {β : Type} {f : Except Nat State → β → Except Nat State}
    (hf : ∀ s x u, f (.ok s) x = .ok u → SendsOnly s u) (he : ∀ e x, f (.error e) x = .error e) {s u : State} {l : List β}
    (h : l.foldl f (.ok s) = .ok u) : SendsOnly s u := by
  induction l generalizing s with
  | nil =>
    cases h
    exact .refl u
  | cons x l ih =>
    rw [List.foldl_cons] at h
    cases hx : f (.ok s) x with
    | ok v =>
      rw [hx] at h
      exact (hf s x v hx).trans (ih h)
    | error e =>
      have hstop : l.foldl f (.error e) = .error e := List.foldl_fixed' (he e) l
      rw [hx, hstop] at h
      cases h

/-- A change of the task on a core that touches only what sending may change. -/
theorem modTask_sendsOnly (s : State) (cl site : Nat) {f : Task → Task} (hf : ∀ t, (f t).kept = t.kept) :
    SendsOnly s (s.modTask cl site f) := by
  refine ⟨⟨rfl, fun n => ?_⟩, rfl, rfl, rfl⟩
  by_cases h : n = cl * 8 + site
  · subst h
    have hcore := State.core_modTask_same s cl site f
    rw [State.core] at hcore
    rw [hcore]
    simp [CoreSt.kept, State.core, Function.comp_def, hf]
  · exact congrArg CoreSt.kept (nget_nset_ne _ _ h _)

theorem deliver_sendsOnly (s : State) (p : Packet) : SendsOnly s (s.deliver p) := by
  obtain ⟨ch, hch⟩ := refTable_chair_only s
    (if pkType (flitHdr (p.flits.headD 0)) = tyWrite then s.xlatNow (pkCtx (flitHdr (p.flits.headD 0))) else none)
  dsimp only [State.deliver]
  rw [hch]
  exact ⟨⟨rfl, fun _ => rfl⟩, rfl, rfl, rfl⟩

theorem inject_sendsOnly {s u : State} {hdr : Nat} {data : List Byte} (h : s.inject hdr data = .ok u) : SendsOnly s u := by
  unfold State.inject State.injectAt at h
  split at h
  · cases h
    exact deliver_sendsOnly s _
  · cases h
    exact ⟨⟨rfl, fun _ => rfl⟩, rfl, rfl, rfl⟩
  · cases h
  · cases h

theorem toHome_sendsOnly {s u : State} {uid cl ctx home h : Nat} {recs : List Byte}
    (hu : s.toHome uid cl ctx home h recs = .ok u) : SendsOnly s u := by
  dsimp only [State.toHome] at hu
  split at hu
  · cases hu
  · next v hv =>
    cases hu
    have hsent : SendsOnly s v := SendsOnly.foldl_ok (fun _ _ _ h => inject_sendsOnly h) (fun _ _ => rfl) hv
    exact hsent.trans ⟨⟨rfl, fun _ => rfl⟩, rfl, rfl, rfl⟩

theorem toAdder_sendsOnly (s : State) (uid ma h : Nat) (recs : List Byte) : SendsOnly s (s.toAdder uid ma h recs) :=
  ⟨⟨rfl, fun _ => rfl⟩, rfl, rfl, rfl⟩

theorem sendContrib_sendsOnly (s : State) (cl site : Nat) (t : Task) (g : Staged) (recs : List Byte) :
    SendsOnly s (s.sendContrib cl site t g recs) := by
  dsimp only [State.sendContrib]
  split
  · exact toAdder_sendsOnly ..
  · split
    · split
      · exact toAdder_sendsOnly ..
      · split
        · next hu => exact toHome_sendsOnly hu
        · exact modTask_sendsOnly s cl site fun _ => rfl
    · split
      · exact toAdder_sendsOnly ..
      · exact toAdder_sendsOnly ..

theorem sendMarker_sendsOnly (s : State) (uid cl task ctx : Nat) (m : StagedDone) :
    SendsOnly s (s.sendMarker uid cl task ctx m) := by
  dsimp only [State.sendMarker]
  split
  · exact ⟨⟨rfl, fun _ => rfl⟩, rfl, rfl, rfl⟩
  · split
    · split
      · next hu => exact (inject_sendsOnly hu).trans ⟨⟨rfl, fun _ => rfl⟩, rfl, rfl, rfl⟩
      · split
        · exact modTask_sendsOnly s _ _ fun _ => rfl
        · exact .refl s
    · split
      · exact ⟨⟨rfl, fun _ => rfl⟩, rfl, rfl, rfl⟩
      · exact SendsOnly.foldl (fun v ma => toAdder_sendsOnly v uid ma _ []) s _

theorem sendDones_sendsOnly (s : State) (uid : Nat) : SendsOnly s (s.sendDones uid) := by
  dsimp only [State.sendDones]
  split
  · exact .refl s
  · split
    · exact .refl s
    · split
      · exact .refl s
      · refine SendsOnly.trans ?_ (SendsOnly.foldl (fun s m => sendMarker_sendsOnly s _ _ _ _ m) _ _)
        exact modTask_sendsOnly s _ _ fun _ => rfl

/-- A task without markers sends none. -/
theorem sendDones_of_no_dones {s : State} {uid cl site : Nat} {t : Task} (h : s.siteOfUid uid = some (cl, site))
    (ht : (s.core cl site).task = some t) (hd : t.dones = []) : s.sendDones uid = s := by
  simp [State.sendDones, h, ht, hd]

/-! ### The staged contributions leave -/

/-- The events of a task's staged elements join it, and its contributions are no longer staged. -/
def Task.unstaged (t u : Task) : Task := { u with staged := [], ev := u.ev.count ⟨0, 0, (t.staged.map (·.nans)).sum, 0⟩ }

/-- The contributions of a task have left, its markers not yet. -/
def State.stagedGone (s : State) (cl site : Nat) (t : Task) : State :=
  t.staged.foldl (fun v g => v.sendContrib cl site t g ((s.core cl site).stagedBytes g)) s

theorem sendStaged_eq (s : State) (cl site : Nat) (t : Task) :
    s.sendStaged cl site t = ((s.stagedGone cl site t).modTask cl site t.unstaged).sendDones t.uid := rfl

theorem stagedGone_sendsOnly (s : State) (cl site : Nat) (t : Task) : SendsOnly s (s.stagedGone cl site t) :=
  SendsOnly.foldl (fun v g => sendContrib_sendsOnly v cl site t g _) s t.staged

/-- A task that stays on its core through a sending. -/
theorem TasksStay.task {s u : State} (h : TasksStay s u) {cl site : Nat} {t : Task} (ht : (s.core cl site).task = some t) :
    ∃ t', (u.core cl site).task = some t' ∧ t'.kept = t.kept := by
  have hk : (u.core cl site).task.map Task.kept = some t.kept := by
    have := congrArg CoreSt.task (h.cores (cl * 8 + site))
    simpa [CoreSt.kept, State.core, ht] using this.trans (congrArg (Option.map Task.kept) ht)
  exact Option.map_eq_some_iff.1 hk

theorem TasksStay.tiles {s u : State} (h : TasksStay s u) (cl site : Nat) : (u.core cl site).tiles = (s.core cl site).tiles :=
  (CoreSt.mk.inj (h.cores (cl * 8 + site))).2.2.2.2.2.1

theorem TasksStay.leasesOf {s u : State} (h : TasksStay s u) (cl : Nat) : u.leases cl = s.leases cl := by
  rw [State.leases, h.leases, State.leases]

/-- What the sending of a task's contributions leaves: its core with it, every lease, memory and objects. -/
structure StagedSent (s u : State) (cl site : Nat) (t : Task) : Prop where
  task : ∃ t', (u.core cl site).task = some t' ∧ t'.kept = { t with staged := [] }.kept
  tiles : (u.core cl site).tiles = (s.core cl site).tiles
  leases : ∀ c, u.leases c = s.leases c
  mem : u.mem = s.mem
  objs : u.objs = s.objs

theorem sendStaged_sent {s : State} {cl site : Nat} {t1 : Task} (t : Task) (ht : (s.core cl site).task = some t1) :
    StagedSent s (s.sendStaged cl site t) cl site t1 := by
  have h1 := stagedGone_sendsOnly s cl site t
  have h2 := sendDones_sendsOnly ((s.stagedGone cl site t).modTask cl site t.unstaged) t.uid
  obtain ⟨t2, ht2, hk2⟩ := h1.task ht
  obtain ⟨t3, ht3, hk3⟩ := h2.task (t := t.unstaged t2) (modTask_task _ ht2)
  refine ⟨⟨t3, ht3, hk3.trans (congrArg (fun x : Task => { x with staged := [] }) hk2)⟩, ?_, fun c => ?_,
    h2.mem.trans h1.mem, h2.objs.trans h1.objs⟩
  · rw [sendStaged_eq, h2.tiles, State.core_modTask_same]
    exact h1.tiles cl site
  · rw [sendStaged_eq, h2.leasesOf]
    exact h1.leasesOf c

/-! ### Contributions that stay in the module -/

/-- Entries join those on their way to the adders. -/
def State.addInflight (s : State) (l : List InFlight) : State :=
  { s with disp := { s.disp with inflight := s.disp.inflight ++ l } }

/-- A staged contribution on its way to the adder of its block. -/
def contribOf (s : State) (c : CoreSt) (t : Task) (g : Staged) : InFlight :=
  ⟨t.uid, homeAdder s t g, mkHeader (dTask t.desc) t.ctx g.kind g.gen g.redId g.block g.a g.b, c.stagedBytes g⟩

/-- No contribution of the task goes to a home in another module (R558). -/
def AllLocal (s : State) (t : Task) : Prop := ∀ g ∈ t.staged, ∀ r, s.redOf t.ctx g.redId = some r → r.status ≠ .forwarding

theorem homeAdder_congr {s u : State} (h : u.reds = s.reds) (t : Task) (g : Staged) : homeAdder u t g = homeAdder s t g := by
  simp only [homeAdder, State.redOf, h]

theorem AllLocal.congr {s u : State} {t : Task} (hl : AllLocal s t) (h : u.reds = s.reds) : AllLocal u t := by
  simpa only [AllLocal, State.redOf, h] using hl

theorem sendContrib_local {s : State} {cl site : Nat} {t : Task} {g : Staged} {c : CoreSt}
    (hl : ∀ r, s.redOf t.ctx g.redId = some r → r.status ≠ .forwarding) :
    s.sendContrib cl site t g (c.stagedBytes g) = s.addInflight [contribOf s c t g] := by
  unfold State.sendContrib contribOf homeAdder
  cases hr : s.redOf t.ctx g.redId with
  | none => rfl
  | some r =>
    simp only [hl r hr, if_false]
    cases r.blocks[g.block]? with
    | none => rfl
    | some b => rfl

theorem addInflight_nil (s : State) : s.addInflight [] = s := by simp [State.addInflight]

theorem addInflight_append (s : State) (l m : List InFlight) : (s.addInflight l).addInflight m = s.addInflight (l ++ m) := by
  simp [State.addInflight, List.append_assoc]

theorem sendContribs_local (c : CoreSt) (cl site : Nat) (t : Task) (l : List Staged) (s : State)
    (hl : ∀ g ∈ l, ∀ r, s.redOf t.ctx g.redId = some r → r.status ≠ .forwarding) :
    l.foldl (fun v g => v.sendContrib cl site t g (c.stagedBytes g)) s = s.addInflight (l.map (contribOf s c t)) := by
  induction l generalizing s with
  | nil => exact (addInflight_nil s).symm
  | cons g l ih =>
    rw [List.foldl_cons, sendContrib_local (hl g List.mem_cons_self)]
    refine (ih (s.addInflight [contribOf s c t g]) fun x hx => hl x (List.mem_cons_of_mem g hx)).trans ?_
    exact addInflight_append s [contribOf s c t g] (l.map (contribOf s c t))

/-- A task that is alone of its number and has no markers sends its contributions to the adders and nothing else. -/
theorem sendStaged_local {s : State} {cl site : Nat} {t t1 : Task} (hl : AllLocal s t)
    (ht : (s.core cl site).task = some t1) (hu : t1.uid = t.uid) (hd : t1.dones = [])
    (hs : s.siteOfUid t.uid = some (cl, site)) :
    s.sendStaged cl site t =
      (s.addInflight (t.staged.map (contribOf s (s.core cl site) t))).modTask cl site t.unstaged := by
  rw [sendStaged_eq, State.stagedGone, sendContribs_local _ _ _ _ _ _ hl]
  have hs1 : (s.addInflight (t.staged.map (contribOf s (s.core cl site) t))).siteOfUid t.uid = some (cl, site) := hs
  refine sendDones_of_no_dones (siteOfUid_modTask hs1 ht hu) (t := t.unstaged t1) ?_ hd
  exact modTask_task _ ht

/-! ### Writes of virtual memory leave cores and dispatchers alone -/

/-- A part of the state that every step of a run keeps is kept by the run. -/
theorem foldl_keeps_part {β γ : Type} (p : State → γ) {f : State → β → State} (hf : ∀ s x, p (f s x) = p s) (s : State)
    (l : List β) : p (l.foldl f s) = p s := by
  induction l generalizing s with
  | nil => rfl
  | cons x l ih => exact (ih _).trans (hf s x)

/-- Cores and dispatchers. -/
def State.coresDisp (s : State) : NMap CoreSt × Disp := (s.cores, s.disp)

theorem unsealRange_coresDisp (s : State) (pa n : Nat) : (s.unsealRange pa n).coresDisp = s.coresDisp := by
  refine foldl_keeps_part State.coresDisp (fun s p => ?_) s _
  split
  · unfold State.unseal
    split
    · rfl
    · simp [State.coresDisp]
  · rfl

theorem unland_coresDisp (s : State) (pa n : Nat) : (s.unland pa n).coresDisp = s.coresDisp := by
  refine foldl_keeps_part State.coresDisp (fun s p => ?_) s _
  split
  · split
    · rfl
    · rfl
  · rfl

theorem countWr_coresDisp (s : State) (pa n : Nat) : (s.countWr pa n).coresDisp = s.coresDisp := by
  refine foldl_keeps_part State.coresDisp (fun s p => ?_) s _
  split
  · rfl
  · rfl

theorem write_coresDisp (s : State) (pa : Nat) (bs : List Byte) : (s.write pa bs).coresDisp = s.coresDisp := by
  rw [State.write, countWr_coresDisp, unland_coresDisp, unsealRange_coresDisp]
  rfl

theorem writePieces_coresDisp (s : State) (ps : List (Nat × Nat)) (bs : List Byte) :
    (writePieces s ps bs).coresDisp = s.coresDisp := by
  induction ps generalizing s bs with
  | nil => rfl
  | cons p ps ih => exact (ih _ _).trans (write_coresDisp s p.1 _)

theorem writeVa_coresDisp {s u : State} {acc : Acc} {va : Nat} {bs : List Byte} (h : s.writeVa acc va bs = .ok u) :
    u.coresDisp = s.coresDisp := by
  unfold State.writeVa at h
  split at h
  · cases h
  · cases h
    exact writePieces_coresDisp s _ bs

/-! ### What a publishing commit does after its contributions have left -/

/-- Tasks, leases and what is on its way to the adders stay. -/
structure AfterSending (s u : State) : Prop extends TasksStay s u where
  inflight : u.disp.inflight = s.disp.inflight

theorem AfterSending.trans {s u v : State} (h : AfterSending s u) (k : AfterSending u v) : AfterSending s v :=
  ⟨h.toTasksStay.trans k.toTasksStay, k.inflight.trans h.inflight⟩

/-- The group of a task takes note of its commit: groups and their number alone change (R489, R496). -/
theorem groupCommit_groups_only (s : State) (t : Task) :
    ∃ gs ob, s.groupCommit t = { s with disp := { s.disp with groups := gs }, objs := ob } := by
  dsimp only [State.groupCommit]
  split
  · exact ⟨_, _, rfl⟩
  · split
    · split
      · exact ⟨_, _, rfl⟩
      · exact ⟨_, _, rfl⟩
    · split
      · exact ⟨_, _, rfl⟩
      · exact ⟨_, _, rfl⟩

/-- Group and rate take note of a commit. -/
theorem noteCommit_only (s : State) (t : Task) : ∃ gs cs ob, (s.groupCommit t).noteWork t =
    { s with disp := { s.disp with groups := gs, ctxs := cs }, objs := ob } := by
  obtain ⟨gs, ob, h⟩ := groupCommit_groups_only s t
  rw [h]
  exact ⟨_, _, _, rfl⟩

theorem writeTag_of_no_tag {s : State} {t : Task} (cl site : Nat) (h : dTag t.desc = 0) : s.writeTag cl site t = s := if_pos h

theorem modTask_afterSending (s : State) (cl site : Nat) {f : Task → Task} (hf : ∀ t, (f t).kept = t.kept) :
    AfterSending s (s.modTask cl site f) := ⟨(modTask_sendsOnly s cl site hf).toTasksStay, rfl⟩

theorem writeTag_afterSending (s : State) (cl site : Nat) (t : Task) : AfterSending s (s.writeTag cl site t) := by
  dsimp only [State.writeTag]
  split
  · exact ⟨⟨rfl, fun _ => rfl⟩, rfl⟩
  · split
    · exact modTask_afterSending s cl site fun _ => rfl
    · split
      · exact modTask_afterSending s cl site fun _ => rfl
      · next hu =>
        obtain ⟨hcores, hdisp⟩ := Prod.mk.inj (writeVa_coresDisp hu)
        exact ⟨⟨by rw [hdisp], fun n => by rw [hcores]⟩, by rw [hdisp]⟩

theorem noteCommit_afterSending (s : State) (t : Task) : AfterSending s ((s.groupCommit t).noteWork t) := by
  obtain ⟨gs, cs, ob, h⟩ := noteCommit_only s t
  rw [h]
  exact ⟨⟨rfl, fun _ => rfl⟩, rfl⟩

theorem noteCommit_mem (s : State) (t : Task) : ((s.groupCommit t).noteWork t).mem = s.mem := by
  obtain ⟨gs, cs, ob, h⟩ := noteCommit_only s t
  rw [h]

theorem noteCommit_core (s : State) (t : Task) (cl site : Nat) :
    ((s.groupCommit t).noteWork t).core cl site = s.core cl site := by
  obtain ⟨gs, cs, ob, h⟩ := noteCommit_only s t
  rw [h]
  rfl

/-! ### The state that a commit begins from -/

/-- A task whose commands have stopped. -/
def Task.stopped (t : Task) : Task := { t with moves := [], hold := none, ended := true }

/-- The core's work is over: descriptors under way let go of their tables and the task's commands stop. -/
def State.commitStart (s : State) (cl site : Nat) (t : Task) : State :=
  ((s.unrefMoves t.moves).modCore cl site CoreSt.endWork).modTask cl site Task.stopped

/-- The lease of the current holder reads COMMITTED. -/
def State.commitLease (s : State) (cl site : Nat) (t : Task) : State :=
  (s.commitStart cl site t).modLease cl t.q t.plan t.pos (fun l => { l with state := .committed })

/-- The holder's task notes what it leaves undefined if it comes to publish nothing. -/
def State.commitRegions (s : State) (cl site : Nat) (t : Task) (published : Bool) : State :=
  (s.commitLease cl site t).modTask cl site
    (fun u => { u with regions := (s.commitLease cl site t).looseRegions cl site t published })

@[simp] theorem commitStart_mem (s : State) (cl site : Nat) (t : Task) : (s.commitStart cl site t).mem = s.mem :=
  unrefMoves_mem s t.moves
@[simp] theorem commitStart_objs (s : State) (cl site : Nat) (t : Task) : (s.commitStart cl site t).objs = s.objs :=
  unrefMoves_objs s t.moves
@[simp] theorem commitStart_disp (s : State) (cl site : Nat) (t : Task) : (s.commitStart cl site t).disp = s.disp :=
  unrefMoves_disp s t.moves
@[simp] theorem commitStart_reds (s : State) (cl site : Nat) (t : Task) : (s.commitStart cl site t).reds = s.reds :=
  unrefMoves_reds s t.moves
@[simp] theorem commitStart_timeNs (s : State) (cl site : Nat) (t : Task) : (s.commitStart cl site t).timeNs = s.timeNs :=
  unrefMoves_timeNs s t.moves
@[simp] theorem commitRegions_mem (s : State) (cl site : Nat) (t : Task) (p : Bool) : (s.commitRegions cl site t p).mem = s.mem :=
  commitStart_mem s cl site t
@[simp] theorem commitRegions_reds (s : State) (cl site : Nat) (t : Task) (p : Bool) :
    (s.commitRegions cl site t p).reds = s.reds := commitStart_reds s cl site t
@[simp] theorem commitRegions_timeNs (s : State) (cl site : Nat) (t : Task) (p : Bool) :
    (s.commitRegions cl site t p).timeNs = s.timeNs := commitStart_timeNs s cl site t
@[simp] theorem commitRegions_inflight (s : State) (cl site : Nat) (t : Task) (p : Bool) :
    (s.commitRegions cl site t p).disp.inflight = s.disp.inflight :=
  (congrArg Disp.inflight (commitStart_disp s cl site t) : (s.commitStart cl site t).disp.inflight = s.disp.inflight)

theorem commitStart_core {s : State} {cl site : Nat} {t : Task} (ht : (s.core cl site).task = some t) :
    (s.commitStart cl site t).core cl site = { (s.core cl site).endWork with task := some t.stopped } := by
  rw [State.commitStart, State.core_modTask_same, State.core_modCore_same, unrefMoves_core]
  exact congrArg (fun o => { (s.core cl site).endWork with task := o }) (congrArg (Option.map Task.stopped) ht)

theorem commitRegions_core {s : State} {cl site : Nat} {t : Task} (ht : (s.core cl site).task = some t) (p : Bool) :
    (s.commitRegions cl site t p).core cl site = { (s.core cl site).endWork with
      task := some { t.stopped with regions := (s.commitLease cl site t).looseRegions cl site t p } } := by
  have hcore : (s.commitLease cl site t).core cl site = { (s.core cl site).endWork with task := some t.stopped } :=
    commitStart_core ht
  rw [State.commitRegions, State.core_modTask_same, hcore]
  rfl

theorem modLease_leases_same (s : State) (cl q : Nat) (plan : Option Nat) (pos : Nat) (f : Lease → Lease) :
    (s.modLease cl q plan pos f).leases cl = (s.leases cl).map (fun l => if l.isOf q plan pos then f l else l) :=
  nget_nmod_same _ _ _ _

/-- The lease table of a cluster once the lease of a task of it reads COMMITTED. -/
def State.leasesCommitted (s : State) (cl : Nat) (t : Task) : List Lease :=
  (s.leases cl).map (fun l => if l.isOf t.q t.plan t.pos then { l with state := .committed } else l)

theorem commitRegions_leases (s : State) (cl site : Nat) (t : Task) (p : Bool) : (s.commitRegions cl site t p).leases cl =
    s.leasesCommitted cl t := by
  refine (modLease_leases_same _ _ _ _ _ _).trans ?_
  rw [State.leases, commitStart_disp]
  rfl

theorem commitStart_siteOfUid {s : State} {cl site : Nat} {t : Task} (ht : (s.core cl site).task = some t)
    (h : s.siteOfUid t.uid = some (cl, site)) : (s.commitStart cl site t).siteOfUid t.uid = some (cl, site) := by
  have h0 : (s.unrefMoves t.moves).siteOfUid t.uid = some (cl, site) :=
    (siteOfUid_congr (unrefMoves_cores s _) _).trans h
  have ht0 : (CoreSt.endWork ((s.unrefMoves t.moves).core cl site)).task = some t := by
    rw [unrefMoves_core]
    exact ht
  exact siteOfUid_modTask (siteOfUid_modCore h0 ht0 rfl) (by rw [State.core_modCore_same]; exact ht0) rfl

theorem commitRegions_siteOfUid {s : State} {cl site : Nat} {t : Task} (ht : (s.core cl site).task = some t)
    (h : s.siteOfUid t.uid = some (cl, site)) (p : Bool) : (s.commitRegions cl site t p).siteOfUid t.uid = some (cl, site) :=
  siteOfUid_modTask (s := s.commitLease cl site t) (t := t.stopped) (commitStart_siteOfUid ht h)
    (congrArg CoreSt.task (commitStart_core ht)) rfl

/-! ### What TASK_COMMIT comes to -/

/-- The task on a core is to commit: a code has ended it, or its commands have finished and no task that touches its stamps is
in the middle of its own commit. -/
structure CommitReady (s : State) (cl site : Nat) (t : Task) : Prop where
  running : s.siteState cl site = 2
  serving : s.moduleState = 3
  task : (s.core cl site).task = some t
  uncommitted : t.committed = false
  done : t.codes = [] → (s.core cl site).finished t = true ∧ s.stampsBusy t = false

theorem taskCommit_unfinished {s : State} {cl site : Nat} {t : Task} (ht : (s.core cl site).task = some t) (hc : t.codes = [])
    (hf : (s.core cl site).finished t = false) : s.taskCommit cl site = s := by
  dsimp only [State.taskCommit]
  rw [ht]
  split
  · rfl
  · next u hu =>
    have htu : u = t := by
      split at hu
      · exact (Option.some.inj hu).symm
      · cases hu
    subst htu
    simp [hc, hf]

theorem CommitReady.taskCommit_eq {s : State} {cl site : Nat} {t : Task} (h : CommitReady s cl site t) :
    s.taskCommit cl site =
      if !s.holds cl t then (s.commitStart cl site t).commitStale cl site t t.codes.isEmpty
      else
        let stop := if t.codes.isEmpty then (s.commitLease cl site t).glideStop t else []
        if t.codes.isEmpty && stop.isEmpty then
          (s.commitRegions cl site t (t.codes.isEmpty && stop.isEmpty)).commitGood cl site t
        else (s.commitRegions cl site t (t.codes.isEmpty && stop.isEmpty)).commitFailed cl site t stop := by
  have hgo : ¬ (t.committed || (t.codes.isEmpty && (!(s.core cl site).finished t || s.stampsBusy t))) = true := by
    by_cases hc : t.codes = []
    · obtain ⟨hf, hb⟩ := h.done hc
      simp [h.uncommitted, hf, hb]
    · simp [h.uncommitted, hc]
  dsimp only [State.taskCommit]
  rw [if_pos ⟨h.running, h.serving⟩, h.task]
  exact if_neg hgo

theorem CommitReady.stale {s : State} {cl site : Nat} {t : Task} (h : CommitReady s cl site t) (hc : t.codes = [])
    (hh : s.holds cl t = false) : s.taskCommit cl site = (s.commitStart cl site t).commitStale cl site t true := by
  rw [h.taskCommit_eq, hh, hc]
  rfl

theorem CommitReady.good {s : State} {cl site : Nat} {t : Task} (h : CommitReady s cl site t) (hc : t.codes = [])
    (hh : s.holds cl t = true) (hs : (s.commitLease cl site t).glideStop t = []) :
    s.taskCommit cl site = (s.commitRegions cl site t true).commitGood cl site t := by
  simp [h.taskCommit_eq, hh, hc, hs]

theorem CommitReady.stopped {s : State} {cl site e : Nat} {es : List Nat} {t : Task} (h : CommitReady s cl site t)
    (hc : t.codes = []) (hh : s.holds cl t = true) (hs : (s.commitLease cl site t).glideStop t = e :: es) :
    s.taskCommit cl site = (s.commitRegions cl site t false).commitFailed cl site t (e :: es) := by
  simp [h.taskCommit_eq, hh, hc, hs]

theorem CommitReady.failed {s : State} {cl site : Nat} {t : Task} (h : CommitReady s cl site t) (hc : t.codes ≠ [])
    (hh : s.holds cl t = true) : s.taskCommit cl site = (s.commitRegions cl site t false).commitFailed cl site t [] := by
  have he : t.codes.isEmpty = false := List.isEmpty_eq_false_iff.2 hc
  simp [h.taskCommit_eq, hh, he]

/-! ### A commit that publishes nothing -/

/-- The task of a commit that publishes nothing. -/
def Task.failedWith (t : Task) (time : Nat) (codes : List Nat) (regions : List (Nat × Nat)) : Task :=
  { t.stopped with
    regions := regions, committed := true, current := true, commitTime := time, codes := t.codes ++ codes, signals := [],
    commitMoves := [], staged := [], dones := [] }

theorem commitFailed_mem (s : State) (cl site : Nat) (t : Task) (codes : List Nat) :
    (s.commitFailed cl site t codes).mem = s.mem := unrefMoves_mem s _

theorem commitFailed_leases (s : State) (cl site : Nat) (t : Task) (codes : List Nat) (c : Nat) :
    (s.commitFailed cl site t codes).leases c = s.leases c :=
  congrArg (fun d : Disp => nget [] d.leases c) (unrefMoves_disp s _)

theorem commitFailed_task {s : State} {cl site : Nat} {t : Task} (ht : (s.core cl site).task = some t) (codes : List Nat) :
    (((s.commitRegions cl site t false).commitFailed cl site t codes).core cl site).task =
      some (t.failedWith s.timeNs codes ((s.commitLease cl site t).looseRegions cl site t false)) := by
  have htask : (((s.commitRegions cl site t false).unrefMoves t.commitMoves).core cl site).task =
      some { t.stopped with regions := (s.commitLease cl site t).looseRegions cl site t false } := by
    rw [unrefMoves_core, commitRegions_core ht]
  rw [State.commitFailed, modTask_task _ htask, commitRegions_timeNs]
  rfl

/-! ### A commit that publishes -/

/-- The task of a commit that publishes, before its contributions leave. -/
def Task.published (t : Task) (time : Nat) (regions : List (Nat × Nat)) : Task :=
  { t.stopped with regions := regions, committed := true, current := true, commitTime := time }

/-- The holder's task is marked as committed. -/
def State.commitMark (s : State) (cl site : Nat) (t : Task) : State :=
  (s.commitRegions cl site t true).modTask cl site
    (fun u => { u with committed := true, current := true, commitTime := (s.commitRegions cl site t true).timeNs })

theorem commitGood_eq (s : State) (cl site : Nat) (t : Task) : (s.commitRegions cl site t true).commitGood cl site t =
    ((((s.commitMark cl site t).sendStaged cl site t).groupCommit t).noteWork t).writeTag cl site t := by
  dsimp only [State.commitGood, State.commitMark]

theorem commitMark_core {s : State} {cl site : Nat} {t : Task} (ht : (s.core cl site).task = some t) :
    (s.commitMark cl site t).core cl site = { (s.core cl site).endWork with
      task := some (t.published s.timeNs ((s.commitLease cl site t).looseRegions cl site t true)) } := by
  rw [State.commitMark, State.core_modTask_same, commitRegions_core ht, commitRegions_timeNs]
  rfl

/-- A contribution's bytes come of the rings and the operand SRAM, which the end of a core's work leaves as they are. -/
theorem stagedBytes_congr {c c' : CoreSt} (hr : c'.rings = c.rings) (hs : c'.sram = c.sram) (g : Staged) :
    c'.stagedBytes g = c.stagedBytes g := by
  unfold CoreSt.stagedBytes CoreSt.ring CoreSt.rd
  rw [hr, hs]

/-- The state in which the contributions of a committing task `t` leave, its task as `t1`: what they are made of is that of the
state in which the commit began. -/
structure MarkedFrom (s x : State) (cl site : Nat) (t t1 : Task) : Prop where
  mem : x.mem = s.mem
  reds : x.reds = s.reds
  inflight : x.disp.inflight = s.disp.inflight
  rings : (x.core cl site).rings = (s.core cl site).rings
  sram : (x.core cl site).sram = (s.core cl site).sram
  tiles : (x.core cl site).tiles = []
  task : (x.core cl site).task = some t1
  uid : t1.uid = t.uid
  dones : t1.dones = t.dones
  site : s.siteOfUid t.uid = some (cl, site) → x.siteOfUid t.uid = some (cl, site)

theorem MarkedFrom.sendStaged_local {s x : State} {cl site : Nat} {t t1 : Task} (h : MarkedFrom s x cl site t t1)
    (hl : AllLocal s t) (hs : s.siteOfUid t.uid = some (cl, site)) (hd : t.dones = []) :
    x.sendStaged cl site t =
      (x.addInflight (t.staged.map (contribOf s (s.core cl site) t))).modTask cl site t.unstaged := by
  have hsent : t.staged.map (contribOf x (x.core cl site) t) = t.staged.map (contribOf s (s.core cl site) t) := by
    refine List.map_congr_left fun g _ => ?_
    rw [contribOf, contribOf, homeAdder_congr h.reds, stagedBytes_congr h.rings h.sram]
  rw [← hsent]
  exact Machine.sendStaged_local (hl.congr h.reds) h.task h.uid (h.dones.trans hd) (h.site hs)

theorem MarkedFrom.sendStaged_inflight {s x : State} {cl site : Nat} {t t1 : Task} (h : MarkedFrom s x cl site t t1)
    (hl : AllLocal s t) (hs : s.siteOfUid t.uid = some (cl, site)) (hd : t.dones = []) :
    (x.sendStaged cl site t).disp.inflight = s.disp.inflight ++ t.staged.map (contribOf s (s.core cl site) t) := by
  rw [h.sendStaged_local hl hs hd, ← h.inflight]
  rfl

theorem commitMark_markedFrom {s : State} {cl site : Nat} {t : Task} (ht : (s.core cl site).task = some t) :
    MarkedFrom s (s.commitMark cl site t) cl site t
      (t.published s.timeNs ((s.commitLease cl site t).looseRegions cl site t true)) where
  mem := commitRegions_mem s cl site t true
  reds := commitRegions_reds s cl site t true
  inflight := commitRegions_inflight s cl site t true
  rings := (congrArg CoreSt.rings (commitMark_core ht) :)
  sram := (congrArg CoreSt.sram (commitMark_core ht) :)
  tiles := congrArg CoreSt.tiles (commitMark_core ht)
  task := congrArg CoreSt.task (commitMark_core ht)
  uid := rfl
  dones := rfl
  site hs := siteOfUid_modTask (commitRegions_siteOfUid ht hs true) (congrArg CoreSt.task (commitRegions_core ht true)) rfl

theorem commitMark_leases (s : State) (cl site : Nat) (t : Task) : (s.commitMark cl site t).leases cl =
    s.leasesCommitted cl t :=
  commitRegions_leases s cl site t true

/-! ### A stale holder's commit -/

/-- The commit-time MOVEs that a stale holder still makes (R470). -/
def Task.scatterAdds (t : Task) : List Mv := t.commitMoves.filter (fun m => mOp m.desc = opScatterAdd)

/-- The task of a stale holder that commits, before its contributions leave. -/
def Task.staleMarked (t : Task) (time : Nat) : Task :=
  { t.stopped with committed := true, commitTime := time, signals := [], commitMoves := t.scatterAdds }

/-- A stale holder's descriptors let go of their tables, but for those that it still makes. -/
def State.staleStart (s : State) (cl site : Nat) (t : Task) : State :=
  (s.commitStart cl site t).unrefMoves (t.commitMoves.filter (fun m => !decide (mOp m.desc = opScatterAdd)))

/-- A stale holder's commit is counted and its task marked. -/
def State.staleMark (s : State) (cl site : Nat) (t : Task) : State :=
  ((s.staleStart cl site t).cnt16 (kCtx t.ctx 0xF) 1).modTask cl site (fun u => { u with
    committed := true, commitTime := (s.staleStart cl site t).timeNs, signals := [], commitMoves := u.scatterAdds })

theorem commitStale_eq (s : State) (cl site : Nat) (t : Task) :
    (s.commitStart cl site t).commitStale cl site t true = (s.staleMark cl site t).sendStaged cl site t := rfl

theorem staleStart_core {s : State} {cl site : Nat} {t : Task} (ht : (s.core cl site).task = some t) :
    (s.staleStart cl site t).core cl site = { (s.core cl site).endWork with task := some t.stopped } :=
  (unrefMoves_core _ _ cl site).trans (commitStart_core ht)

theorem staleMark_core {s : State} {cl site : Nat} {t : Task} (ht : (s.core cl site).task = some t) :
    (s.staleMark cl site t).core cl site = { (s.core cl site).endWork with task := some (t.staleMarked s.timeNs) } := by
  have htime : (s.staleStart cl site t).timeNs = s.timeNs := (unrefMoves_timeNs _ _).trans (commitStart_timeNs s cl site t)
  rw [State.staleMark, State.core_modTask_same, State.core_cnt16, staleStart_core ht, htime]
  rfl

theorem staleMark_markedFrom {s : State} {cl site : Nat} {t : Task} (ht : (s.core cl site).task = some t) :
    MarkedFrom s (s.staleMark cl site t) cl site t (t.staleMarked s.timeNs) where
  mem := (unrefMoves_mem _ _).trans (commitStart_mem s cl site t)
  reds := (unrefMoves_reds _ _).trans (commitStart_reds s cl site t)
  inflight := congrArg Disp.inflight ((unrefMoves_disp _ _).trans (commitStart_disp s cl site t))
  rings := (congrArg CoreSt.rings (staleMark_core ht) :)
  sram := (congrArg CoreSt.sram (staleMark_core ht) :)
  tiles := congrArg CoreSt.tiles (staleMark_core ht)
  task := congrArg CoreSt.task (staleMark_core ht)
  uid := rfl
  dones := rfl
  site hs := by
    have hstart : (s.staleStart cl site t).siteOfUid t.uid = some (cl, site) :=
      (siteOfUid_congr (unrefMoves_cores _ _) _).trans (commitStart_siteOfUid ht hs)
    exact siteOfUid_modTask (s := (s.staleStart cl site t).cnt16 (kCtx t.ctx 0xF) 1) hstart
      (congrArg CoreSt.task (staleStart_core ht)) rfl

theorem staleMark_leases (s : State) (cl site : Nat) (t : Task) (c : Nat) : (s.staleMark cl site t).leases c = s.leases c :=
  congrArg (fun d : Disp => nget [] d.leases c) ((unrefMoves_disp _ _).trans (commitStart_disp s cl site t))

theorem staleMark_obj (s : State) (cl site : Nat) (t : Task) :
    (s.staleMark cl site t).obj (kCtx t.ctx 0xF) = satAdd16 (s.obj (kCtx t.ctx 0xF)) 1 := by
  have hobj : (s.staleStart cl site t).obj (kCtx t.ctx 0xF) = s.obj (kCtx t.ctx 0xF) := by
    rw [State.obj, State.staleStart, unrefMoves_objs, commitStart_objs, State.obj]
  rw [State.staleMark, State.obj_modTask, State.cnt16, State.obj_setObj_same, hobj]

/-! ### The obligation, case by case -/

section
variable {s : State} {core : CoreId} {t : Task}

/-- The current holder publishes: what holds of every such commit, and what of one whose contributions all stay here. -/
theorem taskCommit_good (h : CommitReady s core.c core.s t) (hc : t.codes = []) (hh : s.holds core.c t = true)
    (hg : (s.commitLease core.c core.s t).glideStop t = []) :
    ∃ u t', exec (.taskCommit core) s = .next u ∧ (after u core).task = some t' ∧ t'.committed = true ∧ t'.current = true ∧
      t'.commitTime = s.timeNs ∧ t'.commitMoves = t.commitMoves ∧ t'.signals = t.signals ∧ t'.staged = [] ∧ t'.moves = [] ∧
      (after u core).tiles = [] ∧
      u.leases core.c = s.leasesCommitted core.c t ∧
      t'.regions = (s.commitLease core.c core.s t).looseRegions core.c core.s t true ∧
      (AllLocal s t → s.siteOfUid t.uid = some (core.c, core.s) ∧ t.dones = [] →
        u.disp.inflight = s.disp.inflight ++ t.staged.map (contribOf s (s.core core.c core.s) t)) ∧
      (AllLocal s t → s.siteOfUid t.uid = some (core.c, core.s) ∧ t.dones = [] → dTag t.desc = 0 →
        t'.codes = [] ∧ BytesStay s u) := by
  have hm := commitMark_markedFrom h.task
  have hsent := sendStaged_sent t hm.task
  have hafter := (noteCommit_afterSending _ t).trans (writeTag_afterSending _ core.c core.s t)
    (s := (s.commitMark core.c core.s t).sendStaged core.c core.s t)
  obtain ⟨t2, ht2, hk2⟩ := hsent.task
  obtain ⟨t', ht', hk'⟩ := hafter.task ht2
  have hk := SameCommit.of_kept (hk'.trans hk2)
  refine ⟨_, t', congrArg Host.Outcome.next ((h.good hc hh hg).trans (commitGood_eq s core.c core.s t)), ht', hk.committed,
    hk.current, hk.commitTime, hk.commitMoves, hk.signals, hk.staged, hk.moves, ?_, ?_, hk.regions, ?_, ?_⟩
  · exact (hafter.tiles _ _).trans (hsent.tiles.trans hm.tiles)
  · exact (hafter.leasesOf _).trans ((hsent.leases _).trans (commitMark_leases s core.c core.s t))
  · rintro hl ⟨hs, hd⟩
    exact hafter.inflight.trans (hm.sendStaged_inflight hl hs hd)
  · rintro hl ⟨hs, hd⟩ htag
    rw [writeTag_of_no_tag core.c core.s htag] at ht' ⊢
    refine ⟨?_, fun a => ?_⟩
    · have htask := modTask_task (s := (s.commitMark core.c core.s t).addInflight
        (t.staged.map (contribOf s (s.core core.c core.s) t))) t.unstaged hm.task
      rw [noteCommit_core, hm.sendStaged_local hl hs hd, htask] at ht'
      rw [← Option.some.inj ht']
      exact hc
    · rw [State.byte, noteCommit_mem, hsent.mem, hm.mem, State.byte]

/-- A commit that publishes nothing, with the codes `cs` that stopped it at the end. -/
theorem taskCommit_nothing (h : CommitReady s core.c core.s t) {cs : List Nat}
    (hu : s.taskCommit core.c core.s = (s.commitRegions core.c core.s t false).commitFailed core.c core.s t cs) :
    ∃ u, exec (.taskCommit core) s = .next u ∧ BytesStay s u ∧
      (after u core).task = some (t.failedWith s.timeNs cs ((s.commitLease core.c core.s t).looseRegions core.c core.s t false)) ∧
      u.leases core.c = s.leasesCommitted core.c t := by
  refine ⟨_, congrArg Host.Outcome.next hu, fun a => ?_, commitFailed_task h.task cs, ?_⟩
  · rw [State.byte, commitFailed_mem, commitRegions_mem, State.byte]
  · exact (commitFailed_leases _ _ _ _ _ _).trans (commitRegions_leases s core.c core.s t false)

/-- A stale holder sends its contributions alone, and is counted. -/
theorem taskCommit_stale (h : CommitReady s core.c core.s t) (hc : t.codes = []) (hh : s.holds core.c t = false) :
    ∃ u t', exec (.taskCommit core) s = .next u ∧ (after u core).task = some t' ∧ t'.committed = true ∧ t'.current = t.current ∧
      t'.signals = [] ∧ t'.staged = [] ∧ t'.commitMoves = t.scatterAdds ∧ u.leases core.c = s.leases core.c ∧
      u.obj (kCtx t.ctx 0xF) = satAdd16 (s.obj (kCtx t.ctx 0xF)) 1 ∧
      (AllLocal s t → s.siteOfUid t.uid = some (core.c, core.s) ∧ t.dones = [] →
        u.disp.inflight = s.disp.inflight ++ t.staged.map (contribOf s (s.core core.c core.s) t) ∧ BytesStay s u) := by
  have hm := staleMark_markedFrom h.task
  have hsent := sendStaged_sent t hm.task
  obtain ⟨t', ht', hk'⟩ := hsent.task
  have hk := SameCommit.of_kept hk'
  refine ⟨_, t', congrArg Host.Outcome.next ((h.stale hc hh).trans (commitStale_eq s core.c core.s t)), ht', hk.committed,
    hk.current, hk.signals, hk.staged, hk.commitMoves, ?_, ?_, ?_⟩
  · exact (hsent.leases _).trans (staleMark_leases s core.c core.s t core.c)
  · rw [State.obj, hsent.objs]
    exact staleMark_obj s core.c core.s t
  · rintro hl ⟨hs, hd⟩
    refine ⟨hm.sendStaged_inflight hl hs hd, fun a => ?_⟩
    rw [State.byte, hsent.mem, hm.mem, State.byte]

end

/-- Settles O22: TASK_COMMIT comes to one of `commitGood`, `commitFailed` and `commitStale`; of the first and the last, what
their contributions leave of tasks, leases, memory and objects is `StagedSent`. -/
theorem taskCommitPublishesOnce : Obligations.TaskCommitPublishesOnce := by
  intro s core t hrun hserve htask hopen c v l committed sent alone local_
  refine ⟨fun hc hf => congrArg Host.Outcome.next (taskCommit_unfinished htask hc hf), fun hc hf hb => ?_, fun hc hh => ?_⟩
  · have h : CommitReady s core.c core.s t := ⟨hrun, hserve, htask, hopen, fun _ => ⟨hf, hb⟩⟩
    refine ⟨fun hh hg => taskCommit_good h hc hh hg, fun hh e es hg => ?_, fun hh => taskCommit_stale h hc hh⟩
    obtain ⟨u, hu, hbytes, ht', hleases⟩ := taskCommit_nothing h (h.stopped hc hh hg)
    exact ⟨u, _, hu, hbytes, ht', rfl, rfl, by rw [Task.failedWith, hc]; rfl, rfl, rfl, rfl, rfl, rfl, hleases⟩
  · have h : CommitReady s core.c core.s t := ⟨hrun, hserve, htask, hopen, fun hn => absurd hn hc⟩
    obtain ⟨u, hu, hbytes, ht', _⟩ := taskCommit_nothing h (h.failed hc hh)
    exact ⟨u, _, hu, hbytes, ht', rfl, rfl, rfl, rfl, rfl, rfl, rfl⟩

end Sys2Proof.Machine
end

section
/-! PROOFS. The words of the vector engine that write the active lanes of a register (R163), and of them FQUANT, PACK and
RAND (R174, R176, R224). -/

namespace Sys2Proof.Machine

open Sys2Proof.Claims

/-! ### What a word that ran leaves of the state and of its core -/

section
variable {s : State} {core : CoreId} {t : Task} {x : Section}

/-- A word that ran and kept the task has the frame of a vector word: its counts and its events. -/
theorem vecDone_vecFrame {r : VRes} (ht : (s.core core.c core.s).task = some t)
    (hr : r.c.task = (s.core core.c core.s).task) : VecFrame s (s.vecDone core.c core.s r) core t r.ops r.ev where
  rest := State.vecDone_rest s core.c core.s r
  bytes a := by rw [State.vecDone_rest]; rfl
  others _ h := State.vecDone_others s core.c core.s r h
  objects k h := by
    rw [State.vecDone_obj, if_neg (h 1 (by decide) (by decide)), if_neg (h 2 (by decide) (by decide)),
      if_neg (h 3 (by decide) (by decide)), if_neg (h 4 (by decide) (by decide))]
  counted := by rw [State.vecDone_obj, if_pos rfl]
  task := by rw [State.vecDone_core, hr, ht]; rfl

/-- What is read of a register written lane by lane, from any list of lanes (R163). -/
theorem vreg_putLanes_same (c : CoreSt) (k d : Nat) (l : List Nat) {i : Nat} (h : i < 256) :
    nth 0 ((c.putLanes k d l).vreg d) i = if c.active k i then nth 0 l i % 2 ^ 32 else nth 0 (c.vreg d) i := by
  rw [← CoreSt.vreg_putLanes c k d (nth 0 l) h]
  have hlanes : c.putLanes k d l = c.putLanes k d ((List.range 256).map (nth 0 l)) := by
    refine congrArg (c.setVreg d) (List.map_congr_left fun j hj => ?_)
    rw [nth_map_range _ _ (List.mem_range.1 hj)]
  rw [hlanes]

/-- The core after a word that wrote the active lanes of a register. -/
theorem vecDone_putLanes {r : VRes} {w : Nat} {l : List Nat}
    (hr : r.c = (s.core core.c core.s).putLanes (wK w) (wD w) l) :
    OnlyVreg (s.core core.c core.s) (after (s.vecDone core.c core.s r) core) (wD w) ∧
      LanesAre (s.core core.c core.s) (after (s.vecDone core.c core.s r) core) w (nth 0 l) := by
  have hread : ∀ n, (after (s.vecDone core.c core.s r) core).vreg n =
      ((s.core core.c core.s).putLanes (wK w) (wD w) l).vreg n := by
    intro n
    rw [after, State.vecDone_core, hr]
    rfl
  refine ⟨⟨fun n hn => ?_, ?_⟩, fun i hi => ?_⟩
  · rw [hread]
    exact CoreSt.vreg_setVreg_ne _ hn _
  · rw [after, State.vecDone_core, hr]
    rfl
  · rw [hread, vreg_putLanes_same _ _ _ _ hi]

/-- A word whose operation runs and writes the active lanes of d: what it leaves of the state and of its core. -/
theorem vecRow_putLanes {w code : Nat} (hx : InSection s core t x) (hw : wordOk code w = true) {l : List Nat} {ev : Ev}
    (hv : s.vop code (env s core t x) (s.core core.c core.s) w =
      .ok ((s.core core.c core.s).putLanes (wK w) (wD w) l) ev) :
    VecFrame s (s.vecRow core.c core.s code w) core t (if code < 0x100 then 1 else 0) ev ∧
      OnlyVreg (s.core core.c core.s) (after (s.vecRow core.c core.s code w) core) (wD w) ∧
      LanesAre (s.core core.c core.s) (after (s.vecRow core.c core.s code w) core) w (nth 0 l) := by
  obtain ⟨htask, hsect⟩ := hx
  rw [env] at hv
  rw [State.vecRow_ran htask hsect hw (by rw [hv]; rfl), hv]
  refine ⟨?_, vecDone_putLanes rfl⟩
  have hops : (VRes.counted (.ok ((s.core core.c core.s).putLanes (wK w) (wD w) l) ev) (code < 0x100)).ops =
      if code < 0x100 then 1 else 0 := by
    rw [VRes.counted, VRes.issued_ran rfl]
    simp [b2n]
  rw [← hops]
  exact vecDone_vecFrame (State.liveTask_task htask) rfl

end

/-- What lanes hold depends on the function at the active lanes alone. -/
theorem lanesAre_congr {c c' : CoreSt} {w : Nat} {f g : Nat → Nat} (h : LanesAre c c' w f)
    (hfg : ∀ i < 256, c.active (wK w) i = true → f i = g i) : LanesAre c c' w g := by
  intro i hi
  rw [h i hi]
  split
  · next ha => rw [hfg i hi ha]
  · rfl

/-- A section gives its words its binding and the random state of its task, whatever its kind (R209, R224). -/
theorem env_random (s : State) (core : CoreId) (t : Task) (x : Section) :
    (env s core t x).bind = x.binding ∧ (env s core t x).key = t.key ∧ (env s core t x).step = t.step := by
  unfold env CoreSt.venv
  split
  · exact ⟨rfl, rfl, rfl⟩
  · split <;> exact ⟨rfl, rfl, rfl⟩
  all_goals exact ⟨rfl, rfl, rfl⟩

/-! ### FQUANT, PACK and RAND as writes of lanes -/

/-- Lane i of FQUANT's result: the rounded lane widened back to binary32 by its block's scale. -/
theorem vFquant_putLanes {v : VEnv} {c : CoreSt} {w : Nat} {xs : List (List Nat)} (hread : c.operands v w 1 = .ok xs)
    (hkey : v.needsKey (fld w 21 14) = false) :
    let ctrl := fld w 21 14
    let r := roundLanes ctrl (v.quantRand ctrl w) (c.active (wK w)) (fun i => nth 0 (nth [] xs 0) i)
    c.vFquant v w = .ok (c.putLanes (wK w) (wD w)
      (r.1.zipIdx.map (fun p => (elemToF32 (ctrlFmt ctrl) p.1 (nth 127 r.2.1 (p.2 / 32))).1))) (Ev.sum r.2.2) := by
  simp [CoreSt.vFquant, hread, hkey]

/-- An active lane of PACK's result (R176): two 16-bit codes, or two 8-bit codes in the half of d that the half selector
names, beside the half that stays. -/
def packedLane (v : VEnv) (c : CoreSt) (w : Nat) (xs : List (List Nat)) (i : Nat) : Nat :=
  let code := packCode v (fld w 21 14) w xs
  let old := nth 0 (c.vreg (wD w)) i
  if fmtBits (ctrlFmt (fld w 21 14)) = 16 then code (2 * i) + 65536 * code (2 * i + 1)
  else if wHalf w = 0 then code (4 * i) + 256 * code (4 * i + 1) + old / 65536 * 65536
  else old % 65536 + 65536 * (code (4 * i + 2) + 256 * code (4 * i + 3))

/-- The half selector is one bit. -/
theorem wHalf_eq_one {w : Nat} (h : wHalf w ≠ 0) : wHalf w = 1 := by
  unfold wHalf fld at *
  omega

theorem vPack_putLanes {v : VEnv} {c : CoreSt} {w : Nat} {xs : List (List Nat)} (hread : c.operands v w 2 = .ok xs)
    (hkey : v.needsKey (fld w 21 14) = false) :
    ∃ l ev, c.vPack v w = .ok (c.putLanes (wK w) (wD w) l) ev ∧
      ∀ i < 256, c.active (wK w) i = true → nth 0 l i = packedLane v c w xs i := by
  have hcode : ∀ e, (if e < 512 then ctrlRound (fld w 21 14) (v.quantRand (fld w 21 14) w e) (f32v (pairElem xs e))
      else ((Config.freeByte (v.free * 4096 + e)).toNat, Ev.none)).1 = packCode v (fld w 21 14) w xs e :=
    fun e => apply_ite Prod.fst _ _ _
  unfold CoreSt.vPack
  simp only [hread, hkey, Bool.false_eq_true, if_false]
  refine ⟨_, _, rfl, fun i hi ha => ?_⟩
  rw [List.map_map, nth_map_range _ _ hi, Function.comp_apply, if_pos ha, packedLane]
  by_cases hwide : fmtBits (ctrlFmt (fld w 21 14)) = 16
  · simp only [if_pos hwide, hcode]
  · by_cases hhalf : wHalf w = 0
    · simp [hwide, hcode, hhalf]
    · simp [hwide, hcode, wHalf_eq_one hhalf, Nat.add_assoc]

theorem vRand_putLanes {v : VEnv} {c : CoreSt} {w : Nat} {k : BitVec 256} (hkey : v.key = some k)
    (hbits : purposeBits (bParam v.bind (fld w 21 17) % 256) ≠ 0) (hpurpose : bParam v.bind (fld w 21 17) % 256 ≤ 7) :
    c.vRand v w = .ok (c.putLanes (wK w) (wD w) ((List.range 256).map (fun i =>
      randElem k v.step (bParam v.bind (fld w 21 17)) (v.index (wRow w) (wHalf w) i)))) .none := by
  simp [CoreSt.vRand, hkey, hbits, Nat.not_lt.2 hpurpose]

/-! ### The obligation -/

/-- Settles O6: each of the three words runs as one write of the active lanes of d. -/
theorem roundingAndRandomLanes : Obligations.RoundingAndRandomLanes := by
  refine ⟨fun s core w t x xs hx hw hread hkey => ?_, fun s core w t x xs hx hw hread hkey => ?_,
    fun s core w t x k hx hw hk hbits hpurpose => ?_⟩
  · obtain ⟨hframe, hreg, hlanes⟩ := vecRow_putLanes hx hw (vFquant_putLanes hread hkey)
    exact ⟨_, rfl, hframe, hreg, hlanes⟩
  · obtain ⟨l, ev, hv, hl⟩ := vPack_putLanes hread hkey
    obtain ⟨hframe, hreg, hlanes⟩ := vecRow_putLanes hx hw hv
    exact ⟨_, ev, rfl, hframe, hreg, lanesAre_congr hlanes hl⟩
  · obtain ⟨hbind, hvkey, hstep⟩ := env_random s core t x
    rw [← hbind] at hbits hpurpose
    obtain ⟨hframe, hreg, hlanes⟩ := vecRow_putLanes hx hw (vRand_putLanes (hvkey.trans hk) hbits hpurpose)
    refine ⟨_, rfl, hframe, hreg, lanesAre_congr hlanes fun i hi _ => ?_⟩
    rw [nth_map_range _ _ hi, hbind, hstep]

end Sys2Proof.Machine
end

section
/-! PROOFS. What memory writes, the event log and the mirror leave of reductions and dispatchers, and what a handled block, a
settled pairing and a cancel make of a reduction's record (R94, R99, R105, R106). -/

namespace Sys2Proof.Machine

/-! ### Operations that leave reductions and dispatchers alone -/

/-- Reductions and dispatchers. -/
def State.redsDisp (s : State) : List Reduction × Disp := (s.reds, s.disp)

/-- A part of the state that does not see what a memory write touches. -/
def WriteBlind {γ : Type} (p : State → γ) : Prop :=
  ∀ (s : State) m sd fr fb ob, p { s with mem := m, side := sd, free := fr, fab := fb, objs := ob } = p s

theorem WriteBlind.write {γ : Type} {p : State → γ} (hp : WriteBlind p) (s : State) (pa : Nat) (bs : List Byte) :
    p (s.write pa bs) = p s := by
  have hseal : ∀ v : State, p (v.unsealRange pa bs.length) = p v := fun v => by
    refine foldl_keeps_part p (fun s x => ?_) v _
    split
    · unfold State.unseal
      split
      · rfl
      · unfold State.tick State.setSide
        exact hp s s.mem _ _ s.fab s.objs
    · rfl
  have hland : ∀ v : State, p (v.unland pa bs.length) = p v := fun v => by
    refine foldl_keeps_part p (fun s x => ?_) v _
    split
    · split
      · exact hp s s.mem s.side s.free _ s.objs
      · rfl
    · rfl
  have hcount : ∀ v : State, p (v.countWr pa bs.length) = p v := fun v => by
    refine foldl_keeps_part p (fun s x => ?_) v _
    split
    · exact hp s s.mem s.side s.free s.fab _
    · rfl
  rw [State.write, hcount, hland, hseal]
  exact hp s _ s.side s.free s.fab s.objs

theorem WriteBlind.writeVa {γ : Type} {p : State → γ} (hp : WriteBlind p) {s u : State} {acc : Acc} {va : Nat} {bs : List Byte}
    (h : s.writeVa acc va bs = .ok u) : p u = p s := by
  have hpieces : ∀ (ps : List (Nat × Nat)) (v : State) (bs : List Byte), p (writePieces v ps bs) = p v := by
    intro ps
    induction ps with
    | nil => exact fun _ _ => rfl
    | cons x ps ih => exact fun v bs => (ih _ _).trans (hp.write v x.1 _)
  unfold State.writeVa at h
  split at h
  · cases h
  · cases h
    exact hpieces _ s bs

theorem writeVa_redsDisp {s u : State} {acc : Acc} {va : Nat} {bs : List Byte} (h : s.writeVa acc va bs = .ok u) :
    u.redsDisp = s.redsDisp := WriteBlind.writeVa (fun _ _ _ _ _ _ => rfl) h

theorem tryWriteVa_reds (s : State) (acc : Acc) (va : Nat) (bs : List Byte) : (s.tryWriteVa acc va bs).reds = s.reds := by
  unfold State.tryWriteVa
  split
  · rfl
  · next h => exact congrArg Prod.fst (writeVa_redsDisp h)

theorem hostPieces_redsDisp (s : State) (pasid : Nat) (ps : List (Nat × Nat)) (bs : List Byte) :
    (s.hostPieces pasid ps bs).redsDisp = s.redsDisp := by
  induction ps generalizing s bs with
  | nil => rfl
  | cons p ps ih =>
    have hlook : (s.atsLookup pasid (p.1 / 4096)).1.redsDisp = s.redsDisp := by
      unfold State.atsLookup
      split
      · rfl
      · rfl
    exact (ih _ _).trans hlook

theorem mirrorWrite_redsDisp (s : State) (c addr : Nat) (bs : List Byte) : (s.mirrorWrite c addr bs).redsDisp = s.redsDisp := by
  dsimp only [State.mirrorWrite]
  split
  · exact hostPieces_redsDisp ..
  · rfl

theorem mirror_redsDisp (s : State) (c : Nat) (rec : List Byte) : (s.mirror c rec).redsDisp = s.redsDisp := by
  dsimp only [State.mirror]
  split
  · rfl
  · split
    · rfl
    · exact (mirrorWrite_redsDisp ..).trans (mirrorWrite_redsDisp ..)

/-! ### The event log -/

/-- The event log, its notices and their counts change: reductions, dispatchers and all objects beside theirs stay. -/
structure LogsOnly (s u : State) : Prop where
  redsDisp : u.redsDisp = s.redsDisp
  objs : ∀ k, k / 256 ≠ 0x4000 → k / 256 ≠ 0x1010 → u.obj k = s.obj k

theorem LogsOnly.trans {s u v : State} (h : LogsOnly s u) (k : LogsOnly u v) : LogsOnly s v :=
  ⟨k.redsDisp.trans h.redsDisp, fun j h1 h2 => (k.objs j h1 h2).trans (h.objs j h1 h2)⟩

theorem LogsOnly.refl (s : State) : LogsOnly s s := ⟨rfl, fun _ _ _ => rfl⟩

theorem LogsOnly.foldl {β : Type} {f : State → β → State} (hf : ∀ s x, LogsOnly s (f s x)) (s : State) (l : List β) :
    LogsOnly s (l.foldl f s) := by
  induction l generalizing s with
  | nil => exact .refl s
  | cons x l ih => exact (hf s x).trans (ih _)

theorem setObj_logsOnly (s : State) {k : Nat} (v : Nat) (h : k / 256 = 0x4000 ∨ k / 256 = 0x1010) :
    LogsOnly s (s.setObj k v) := by
  refine ⟨rfl, fun j h1 h2 => State.obj_setObj_ne s ?_ v⟩
  rintro rfl
  exact h.elim h1 h2

theorem raise_logsOnly (s : State) (fn vector : Nat) : LogsOnly s (s.raise fn vector) := by
  dsimp only [State.raise]
  split_ifs
  · exact .refl s
  all_goals exact ⟨rfl, fun _ _ _ => rfl⟩

theorem raiseEvent_logsOnly (s : State) (e : Event) : LogsOnly s (s.raiseEvent e) := by
  have hctx : LogsOnly s (if e.ctx < 64 then s.raise (s.obj (kDev (0x2400 + e.ctx) 0x20)) (2 + e.ctx) else s) := by
    split
    · exact raise_logsOnly ..
    · exact .refl _
  dsimp only [State.raiseEvent]
  split
  · exact hctx.trans (raise_logsOnly ..)
  · exact hctx

theorem notifyEvent_logsOnly (s : State) (e : Event) : LogsOnly s (s.notifyEvent e) := by
  unfold State.notifyEvent
  split
  · refine LogsOnly.foldl (fun s t => ?_) s _
    exact (⟨rfl, fun _ _ _ => rfl⟩ : LogsOnly s (s.emit (.notify t.2 e))).trans (setObj_logsOnly _ _ (.inr (by decide)))
  · exact .refl s

/-- A new entry of the event log, with its notices. -/
def State.newEvent (s : State) (code sev ctx p0 p1 time : Nat) : State :=
  let e : Event := ⟨s.obj (kDev 0x4000 1), code, sev, ctx, time, p0, p1, 0⟩
  let v := ({ s with patrol := { s.patrol with log := (e :: s.patrol.log).take logSize } } : State).setObj (kDev 0x4000 1)
    ((s.obj (kDev 0x4000 1) + 1) % 2 ^ 32)
  let u := if logSize ≤ s.patrol.log.length then v.setObj (kDev 0x4000 2) ((v.obj (kDev 0x4000 2) + 1) % 2 ^ 32) else v
  (u.notifyEvent e).raiseEvent e

theorem newEvent_logsOnly (s : State) (code sev ctx p0 p1 time : Nat) : LogsOnly s (s.newEvent code sev ctx p0 p1 time) := by
  dsimp only [State.newEvent]
  refine LogsOnly.trans ?_ ((notifyEvent_logsOnly ..).trans (raiseEvent_logsOnly ..))
  have hseq : ∀ l v, LogsOnly s (({ s with patrol := { s.patrol with log := l } } : State).setObj (kDev 0x4000 1) v) := fun l v =>
    (⟨rfl, fun _ _ _ => rfl⟩ : LogsOnly s { s with patrol := { s.patrol with log := l } }).trans
      (setObj_logsOnly _ _ (.inl (by decide)))
  split
  · exact (hseq _ _).trans (setObj_logsOnly _ _ (.inl (by decide)))
  · exact hseq _ _

/-- An event is a new entry, or it repeats the last one. -/
theorem addEvent_cases (s : State) (code sev ctx p0 p1 time : Nat) :
    s.addEvent code sev ctx p0 p1 time = s.newEvent code sev ctx p0 p1 time ∨
      ∃ e l, s.addEvent code sev ctx p0 p1 time = ({ s with patrol := { s.patrol with log := l } } : State).raiseEvent e := by
  dsimp only [State.addEvent]
  split
  · split
    · exact .inr ⟨_, _, rfl⟩
    · exact .inl rfl
  · exact .inl rfl

theorem event_logsOnly (s : State) (code sev ctx p0 p1 : Nat) : LogsOnly s (s.event code sev ctx p0 p1) := by
  unfold State.event
  split
  · split
    · exact ⟨rfl, fun _ _ _ => rfl⟩
    · have hcnt : LogsOnly s (s.cnt16 (kDev 0x4000 6) 1) := setObj_logsOnly s _ (.inl (by decide))
      exact hcnt.trans ⟨rfl, fun _ _ _ => rfl⟩
  · rcases addEvent_cases s code sev ctx p0 p1 s.timeNs with h | ⟨e, l, h⟩
    · rw [h]
      exact newEvent_logsOnly ..
    · rw [h]
      have hlog : LogsOnly s { s with patrol := { s.patrol with log := l } } := ⟨rfl, fun _ _ _ => rfl⟩
      exact hlog.trans (raiseEvent_logsOnly _ e)

/-! ### Operations of the adders that leave the reductions' records alone -/

theorem tagAdd_reds (s : State) (c t v : Nat) : (s.tagAdd c t v).reds = s.reds := by simp [State.tagAdd]

theorem refTable_reds (s : State) (tag : Option (Nat × Nat)) : (s.refTable tag).reds = s.reds := by
  obtain ⟨ch, h⟩ := refTable_chair_only s tag
  rw [h]

theorem unrefTable_reds (s : State) (tag : Option (Nat × Nat)) : (s.unrefTable tag).reds = s.reds := by
  obtain ⟨ch, h⟩ := unrefTable_chair_only s tag
  rw [h]

theorem countOpen_reds (s : State) : s.countOpen.reds = s.reds := by
  unfold State.countOpen
  refine foldl_keeps_part State.reds (fun _ _ => ?_) s _
  rfl

theorem sealPieces_reds (s : State) (writer ctx task step : Nat) (l : List (Nat × Nat)) :
    (s.sealPieces writer ctx task step l).reds = s.reds := by
  unfold State.sealPieces
  exact foldl_keeps_part State.reds (fun _ _ => State.setSide_reds ..) s _

theorem looseBlock_reds (s : State) (r : Reduction) (k : Nat) : (s.looseBlock r k).reds = s.reds := by
  unfold State.looseBlock
  split
  · refine foldl_keeps_part State.reds (fun _ _ => ?_) s _
    rfl
  · rfl

theorem clearBitmap_reds (s : State) (r : Reduction) (k : Nat) : (s.clearBitmap r k).reds = s.reds := tryWriteVa_reds ..

theorem setOccBit_reds (s : State) (r : Reduction) (k : Nat) (n : Nat × Nat) : (s.setOccBit r k n).reds = s.reds := by
  dsimp only [State.setOccBit]
  split
  · exact tryWriteVa_reds ..
  · rfl

theorem badBlockEvent_reds (s : State) (b : Nat) : (s.badBlockEvent b).reds = s.reds :=
  congrArg Prod.fst (event_logsOnly ..).redsDisp

/-! ### The record of a reduction (R94) -/

theorem redOf_congr {s u : State} (h : u.reds = s.reds) (c id : Nat) : u.redOf c id = s.redOf c id := by
  rw [State.redOf, h, State.redOf]

theorem redOf_key {s : State} {c id : Nat} {r : Reduction} (h : s.redOf c id = some r) : r.ctx = c ∧ r.id = id := by
  simpa using List.find?_some h

/-- A change of a reduction's record, read after it. -/
theorem redOf_modRed {s : State} {c id : Nat} {r : Reduction} (h : s.redOf c id = some r) {f : Reduction → Reduction}
    (hf : ∀ r, (f r).ctx = r.ctx ∧ (f r).id = r.id) : (s.modRed c id f).redOf c id = some (f r) := by
  have hkey : ((fun r : Reduction => (r.ctx = c && r.id = id : Bool)) ∘ fun r => if r.ctx = c ∧ r.id = id then f r else r) =
      fun r => (r.ctx = c && r.id = id : Bool) := by
    funext r
    rw [Function.comp_apply]
    split
    · rw [(hf r).1, (hf r).2]
    · rfl
  rw [State.redOf] at h
  rw [State.redOf, State.modRed, List.find?_map, hkey, h, Option.map_some, if_pos (redOf_key h)]

/-- What a reduction holds from its registration on, whatever becomes of its blocks. -/
def Reduction.ident (r : Reduction) : Reduction :=
  { r with status := .open_, blocks := [], dups := 0, stale := 0, ev := .none, unwritten := false }

theorem Reduction.ident_key {r r' : Reduction} (h : r'.ident = r.ident) : r'.ctx = r.ctx ∧ r'.id = r.id :=
  ⟨(congrArg Reduction.ctx h :), (congrArg Reduction.id h :)⟩

theorem Reduction.ident_gen_desc {r r' : Reduction} (h : r'.ident = r.ident) : r'.gen = r.gen ∧ r'.desc = r.desc :=
  ⟨(congrArg Reduction.gen h :), (congrArg Reduction.desc h :)⟩

/-- A reduction is as it was registered and as far as it was, or it is past its last block. -/
structure Progress (r r' : Reduction) : Prop where
  ident : r'.ident = r.ident
  status : r'.status = r.status ∨ ∀ b ∈ r'.blocks, b.handled = true

/-! ### A block is handled (R99, R105) -/

/-- An output block whose root is settled. -/
def OutBlock.done (b : OutBlock) : OutBlock := { b with handled := true, slots := [] }

/-- Block k of a reduction is handled; the last one closes the reduction. -/
structure BlockHandled (k : Nat) (r r' : Reduction) : Prop extends Progress r r' where
  blocks : r'.blocks = modNth r.blocks k OutBlock.done

/-- The record of a reduction that closes (R105). -/
def State.closeRecord (s : State) (r : Reduction) : CRec :=
  { task := r.task, status := if r.unwritten then cChecksum else if r.dups ≠ 0 then cDuplicate else cOk, ctx := r.ctx,
    cluster := 0xF, site := 0, seq := 0, ev := r.ev, dups := r.dups, stale := r.stale, time := s.timeNs }

theorem closeRed_redOf {s : State} {r0 r : Reduction} (h : s.redOf r0.ctx r0.id = some r) :
    (s.closeRed r0).redOf r0.ctx r0.id = some { r with status := .closed } := by
  dsimp only [State.closeRed]
  rw [redOf_congr ((countOpen_reds _).trans (unrefTable_reds _ _))]
  have hmod : ((s.tryWriteVa r0.acc (rdSpill r0.desc) (toLE 32 (s.closeRecord r0).word)).modRed r0.ctx r0.id
      (fun r => { r with status := .closed })).redOf r0.ctx r0.id = some { r with status := .closed } :=
    redOf_modRed ((redOf_congr (tryWriteVa_reds ..) _ _).trans h) fun _ => ⟨rfl, rfl⟩
  split
  · exact (redOf_congr (tagAdd_reds ..) _ _).trans hmod
  · exact hmod

/-- Block k of a reduction is handled, whether or not it is the last one. -/
def State.markHandled (s : State) (c id k : Nat) : State :=
  s.modRed c id (fun r => { r with blocks := modNth r.blocks k OutBlock.done })

theorem handleBlock_eq {s : State} {c id k : Nat} {r : Reduction} (h : (s.markHandled c id k).redOf c id = some r) :
    s.handleBlock c id k =
      if r.blocks.all (·.handled) then (s.markHandled c id k).closeRed r else s.markHandled c id k := by
  dsimp only [State.handleBlock]
  split
  · next r' hr' =>
    obtain rfl : r' = r := Option.some.inj (hr'.symm.trans h)
    rfl
  · next hr' => cases hr'.symm.trans h

theorem handleBlock_redOf {s : State} {c id : Nat} (k : Nat) {r : Reduction} (h : s.redOf c id = some r) :
    ∃ r', (s.handleBlock c id k).redOf c id = some r' ∧ BlockHandled k r r' := by
  have hmark : (s.markHandled c id k).redOf c id = some { r with blocks := modNth r.blocks k OutBlock.done } :=
    redOf_modRed h fun _ => ⟨rfl, rfl⟩
  obtain ⟨rfl, rfl⟩ := redOf_key h
  rw [handleBlock_eq hmark]
  split
  · next hall =>
    exact ⟨_, closeRed_redOf hmark, ⟨rfl, .inr (List.all_eq_true.1 hall)⟩, rfl⟩
  · exact ⟨_, hmark, ⟨rfl, .inl rfl⟩, rfl⟩

theorem unwriteBlock_redOf {s : State} {r0 : Reduction} (k : Nat) {r : Reduction} (h : s.redOf r0.ctx r0.id = some r) :
    ∃ r', (s.unwriteBlock r0 k).redOf r0.ctx r0.id = some r' ∧ BlockHandled k r r' := by
  have hmod : ((s.looseBlock r0 k).modRed r0.ctx r0.id (fun r => { r with unwritten := true })).redOf r0.ctx r0.id =
      some { r with unwritten := true } :=
    redOf_modRed ((redOf_congr (looseBlock_reds s r0 k) _ _).trans h) fun _ => ⟨rfl, rfl⟩
  obtain ⟨r', hr', hdone⟩ := handleBlock_redOf k hmod
  exact ⟨r', hr', ⟨hdone.ident, hdone.status⟩, hdone.blocks⟩

/-- The root of block k is written, or found lost: the block is handled (R99). -/
theorem rootWrite_redOf {s : State} {r0 : Reduction} (k : Nat) (v : Option (List (List Nat))) {r : Reduction}
    (h : s.redOf r0.ctx r0.id = some r) :
    ∃ r', (s.rootWrite r0 k v).redOf r0.ctx r0.id = some r' ∧ BlockHandled k r r' := by
  have hwritten : ∀ bs w ps, ((s.tryWriteVa r0.acc w bs).sealPieces 6 r0.ctx r0.task r0.step ps).redOf r0.ctx r0.id = some r :=
    fun bs w ps => (redOf_congr ((sealPieces_reds ..).trans (tryWriteVa_reds ..)) _ _).trans h
  cases v with
  | none =>
    dsimp only [State.rootWrite]
    split
    · exact handleBlock_redOf k h
    · exact handleBlock_redOf k (hwritten _ _ _)
  | some recs =>
    dsimp only [State.rootWrite]
    split
    · exact unwriteBlock_redOf k h
    · split
      · exact unwriteBlock_redOf k ((redOf_congr (badBlockEvent_reds ..) _ _).trans h)
      · generalize Ev.sum _ = ev
        have hmod : ∀ bs w ps, (((s.tryWriteVa r0.acc w bs).sealPieces 6 r0.ctx r0.task r0.step ps).modRed r0.ctx r0.id
            (fun r => { r with ev := r.ev.count ev })).redOf r0.ctx r0.id = some { r with ev := r.ev.count ev } :=
          fun bs w ps => redOf_modRed (hwritten bs w ps) fun _ => ⟨rfl, rfl⟩
        obtain ⟨r', hr', hdone⟩ := handleBlock_redOf k (hmod _ _ _)
        exact ⟨r', hr', ⟨hdone.ident, hdone.status⟩, hdone.blocks⟩

/-! ### A pairing settles (R95 to R98) -/

/-- Block k of a reduction has come to hold the nodes and the ranges of `b0`. -/
structure BlockSettled (k : Nat) (b0 : OutBlock) (r r' : Reduction) : Prop extends Progress r r' where
  block : ∃ b, b.occ = b0.occ ∧ b.doneRanges = b0.doneRanges ∧ r'.blocks = r.blocks.set k b

theorem modNth_set {α : Type} (l : List α) (i : Nat) (x : α) (f : α → α) : modNth (l.set i x) i f = l.set i (f x) := by
  refine List.ext_getElem? fun j => ?_
  rw [modNth, List.getElem?_modify, List.getElem?_set, List.getElem?_set]
  split_ifs <;> simp_all

/-- A block that settles may be handled at once. -/
theorem BlockHandled.settled {k : Nat} {r r1 r' : Reduction} {b : OutBlock} (h : BlockHandled k r1 r') (hi : r1.ident = r.ident)
    (hs : r1.status = r.status) (hb : r1.blocks = r.blocks.set k b) : BlockSettled k b r r' := by
  refine ⟨⟨h.ident.trans hi, h.status.imp_left (·.trans hs)⟩, b.done, rfl, rfl, ?_⟩
  rw [h.blocks, hb, modNth_set]

theorem settle_redOf {s : State} {r : Reduction} (k ma : Nat) (p : Pairing) (h : s.redOf r.ctx r.id = some r) :
    ∃ r', (s.settle r k ma p).redOf r.ctx r.id = some r' ∧ BlockSettled k p.blk r r' := by
  dsimp only [State.settle]
  generalize hu : State.modRed _ r.ctx r.id _ = u
  have hmod : u.redOf r.ctx r.id = some { r with ev := r.ev.count p.ev, blocks := modNth r.blocks k (fun _ => p.blk) } := by
    rw [← hu]
    refine redOf_modRed ((redOf_congr ?_ _ _).trans h) fun _ => ⟨rfl, rfl⟩
    refine Eq.trans (foldl_keeps_part State.reds (fun _ _ => tryWriteVa_reds ..) _ _) ?_
    exact foldl_keeps_part State.reds (fun _ _ => setOccBit_reds ..) s _
  have hset : modNth r.blocks k (fun _ => p.blk) = r.blocks.set k p.blk := (List.set_eq_modify _ _ _).symm
  rw [hmod, Option.getD_some]
  have hdone : ∀ {v : State}, (∃ r', v.redOf r.ctx r.id = some r' ∧ BlockHandled k
        { r with ev := r.ev.count p.ev, blocks := modNth r.blocks k (fun _ => p.blk) } r') →
      ∃ r', v.redOf r.ctx r.id = some r' ∧ BlockSettled k p.blk r r' :=
    fun ⟨r', hr', hh⟩ => ⟨r', hr', hh.settled rfl rfl hset⟩
  split
  · exact hdone (unwriteBlock_redOf k hmod)
  · split
    · exact hdone (rootWrite_redOf k _ hmod)
    · split
      · exact hdone (rootWrite_redOf k _ hmod)
      · exact ⟨_, hmod, ⟨rfl, .inl rfl⟩, p.blk, rfl, rfl, hset⟩

/-! ### Nodes and ranges of a block while nodes arrive (R95, R98) -/

/-- A node that arrives joins the nodes of the block, with the ancestors that it completes; the block's ranges stay. -/
theorem arrive_blk (e : PairEnv) (had n : Nat) (p : Pairing) (a b : Nat) (v : List (List Nat)) :
    (n ≠ 0 → (a, b) ∈ (arrive e had n p a b v).blk.occ) ∧ p.blk.occ ⊆ (arrive e had n p a b v).blk.occ ∧
      (arrive e had n p a b v).blk.doneRanges = p.blk.doneRanges := by
  induction n generalizing p a b v with
  | zero => exact ⟨fun h => absurd rfl h, fun _ h => h, rfl⟩
  | succ n ih =>
    have hself : (a, b) ∈ (a, b) :: p.blk.occ := List.mem_cons_self
    have hcons : p.blk.occ ⊆ (a, b) :: p.blk.occ := List.subset_cons_self _ _
    unfold arrive
    dsimp only
    split
    · exact ⟨fun _ => hself, hcons, rfl⟩
    · split
      · exact ⟨fun _ => hself, hcons, rfl⟩
      · split
        · split
          · exact ⟨fun _ => hself, hcons, rfl⟩
          · exact ⟨fun _ => (ih ..).2.1 hself, fun _ hm => (ih ..).2.1 (hcons hm), (ih ..).2.2⟩
        · split
          · exact ⟨fun _ => (ih ..).2.1 hself, fun _ hm => (ih ..).2.1 (hcons hm), (ih ..).2.2⟩
          · split
            · exact ⟨fun _ => hself, hcons, rfl⟩
            · exact ⟨fun _ => hself, hcons, rfl⟩

theorem arrive_mem_occ (e : PairEnv) (had : Nat) {n : Nat} (hn : n ≠ 0) (p : Pairing) (a b : Nat) (v : List (List Nat)) :
    (a, b) ∈ (arrive e had n p a b v).blk.occ := (arrive_blk e had n p a b v).1 hn

theorem arrive_doneRanges (e : PairEnv) (had n : Nat) (p : Pairing) (a b : Nat) (v : List (List Nat)) :
    (arrive e had n p a b v).blk.doneRanges = p.blk.doneRanges := (arrive_blk e had n p a b v).2.2

theorem promote_doneRanges (e : PairEnv) (had n : Nat) (p : Pairing) : (promote e had n p).blk.doneRanges = p.blk.doneRanges := by
  induction n generalizing p with
  | zero => rfl
  | succ n ih =>
    unfold promote
    split
    · rfl
    · dsimp only
      split
      · rfl
      · split
        · rw [ih, arrive_doneRanges]
        · rfl

end Sys2Proof.Machine
end

section
/-! PROOFS. Contributions, markers and cancels of reductions at the adders (R95 to R97, R106). -/

namespace Sys2Proof.Machine

open Sys2Proof.Claims

/-! ### What reaches an adder, and its sender -/

/-- The delivery of an entry in flight changes the dispatchers' state alone. -/
theorem takeInFlight_disp_only (s : State) (x : Nat → InFlight) : ∃ d, (s.takeInFlight x).1 = { s with disp := d } := by
  unfold State.takeInFlight
  split
  · exact ⟨_, rfl⟩
  · exact ⟨_, rfl⟩

theorem takeInFlight_redOf (s : State) (x : Nat → InFlight) (c id : Nat) : (s.takeInFlight x).1.redOf c id = s.redOf c id := by
  obtain ⟨d, h⟩ := takeInFlight_disp_only s x
  rw [h]
  rfl

theorem takeInFlight_idle {s : State} (h : s.disp.inflight = []) (x : Nat → InFlight) : s.takeInFlight x = (s, none) := by
  simp [State.takeInFlight, h]

/-- The sender of a contribution, where one is known, takes note of its outcome and sends the markers that are due. -/
def State.reported (s : State) (sender : Option Nat) (o : Outcome) : State :=
  match sender with
  | some uid => (s.noteOutcome uid o).sendDones uid
  | none => s

theorem adderContribution_eq {s v : State} {ma h : Nat} {recs : List Byte} {o : Outcome}
    (hc : (s.takeInFlight (fun u => ⟨u, ma, h, recs⟩)).1.contribute ma h recs = (v, o)) :
    s.adderContribution ma h recs = v.reported (s.takeInFlight (fun u => ⟨u, ma, h, recs⟩)).2 o := by
  dsimp only [State.adderContribution]
  rw [hc]
  rfl

/-- A contribution that no task is known to have sent. -/
theorem adderContribution_idle {s : State} (h : s.disp.inflight = []) (ma hd : Nat) (recs : List Byte) :
    s.adderContribution ma hd recs = (s.contribute ma hd recs).1 := by
  simp [State.adderContribution, takeInFlight_idle h]

/-- A marker that no task is known to have sent. -/
theorem adderMarker_idle {s : State} (h : s.disp.inflight = []) (ma hd : Nat) : s.adderMarker ma hd = (s.leafMarker ma hd).1 := by
  simp [State.adderMarker, takeInFlight_idle h]

/-- A sender that hears of an accepted or of a stale contribution changes its task's notes and sends markers, and no more. -/
theorem reported_sendsOnly (s : State) (sender : Option Nat) {o : Outcome} (ho : o = .accepted ∨ o = .stale) :
    SendsOnly s (s.reported sender o) := by
  cases sender with
  | none => exact .refl s
  | some uid =>
    refine SendsOnly.trans ?_ (sendDones_sendsOnly _ uid)
    unfold State.noteOutcome
    split
    · exact .refl s
    · rcases ho with rfl | rfl
      · exact .refl s
      · exact modTask_sendsOnly s _ _ fun _ => rfl

/-! ### Stale arrivals (rule 2 of R95 and of R97) -/

/-- The record of a reduction after a stale arrival at an adder. -/
def Reduction.afterStale (r : Reduction) (ma : Nat) : Reduction :=
  { r with stale := if r.status = .open_ ∧ r.blocks.any (fun b => b.adder = ma) then satAdd16 r.stale 1 else r.stale }

theorem countStale_obj (s : State) (ma h : Nat) :
    (s.countStale ma h).obj (kDev (0x7400 + ma) 4) = satAdd16 (s.obj (kDev (0x7400 + ma) 4)) 1 := by
  have hcnt : (s.cnt16 (kDev (0x7400 + ma) 4) 1).obj (kDev (0x7400 + ma) 4) = satAdd16 (s.obj (kDev (0x7400 + ma) 4)) 1 :=
    State.obj_setObj_same ..
  dsimp only [State.countStale]
  split
  · split
    · exact hcnt
    · exact hcnt
  · exact hcnt

theorem countStale_bytesStay (s : State) (ma h : Nat) : BytesStay s (s.countStale ma h) := by
  intro a
  dsimp only [State.countStale]
  split
  · split
    · rfl
    · rfl
  · rfl

theorem countStale_reds_unknown {s : State} {ma h : Nat} (hr : s.redOf (hCtx h) (hRed h) = none) :
    (s.countStale ma h).reds = s.reds := by
  have hr' : (s.cnt16 (kDev (0x7400 + ma) 4) 1).redOf (hCtx h) (hRed h) = none := hr
  simp [State.countStale, hr']

theorem countStale_redOf {s : State} {ma h : Nat} {r : Reduction} (hr : s.redOf (hCtx h) (hRed h) = some r) :
    (s.countStale ma h).redOf (hCtx h) (hRed h) = some (r.afterStale ma) := by
  have hr' : (s.cnt16 (kDev (0x7400 + ma) 4) 1).redOf (hCtx h) (hRed h) = some r := hr
  obtain ⟨hctx, hid⟩ := redOf_key hr
  by_cases ho : r.status = .open_ ∧ r.blocks.any (fun b => b.adder = ma) = true
  · have heq : s.countStale ma h = (s.cnt16 (kDev (0x7400 + ma) 4) 1).modRed (hCtx h) (hRed h)
        (fun r => { r with stale := satAdd16 r.stale 1 }) := by
      simp only [State.countStale, hr', if_pos ho, hctx, hid]
    rw [heq, Reduction.afterStale, if_pos ho]
    exact redOf_modRed hr' fun _ => ⟨rfl, rfl⟩
  · have heq : s.countStale ma h = s.cnt16 (kDev (0x7400 + ma) 4) 1 := by simp only [State.countStale, hr', if_neg ho]
    rw [heq, hr', Reduction.afterStale, if_neg ho]

/-! ### What an adder makes of a contribution (R95) -/

section
variable {s : State} {ma h : Nat} {recs : List Byte} {r : Reduction} {k : OutBlock}

/-- The node of a header is in the block already, or its leaves are: done, or under an ancestor (rule 4 of R95). -/
def OutBlock.has (k : OutBlock) (h : Nat) : Bool :=
  k.handled || k.resolved (hA h) (hB h) || k.occ.any (fun o => o.1 ≤ hA h && hB h ≤ o.2)

/-- A descendant of the node of a header is in the block (rule 5 of R95). -/
def OutBlock.hasBelow (k : OutBlock) (h : Nat) : Bool := k.occ.any (fun o => hA h ≤ o.1 && o.2 ≤ hB h)

theorem contribute_unknown (hr : s.redOf (hCtx h) (hRed h) = none) : s.contribute ma h recs = (s.countStale ma h, .stale) := by
  simp [State.contribute, hr]

theorem contribute_late (hr : s.redOf (hCtx h) (hRed h) = some r) (hg : r.gen = hGen h) (hs : r.status = .closed) :
    s.contribute ma h recs = (s.cnt16 (kDev (0x7400 + ma) 3) 1, .late) := by
  simp [State.contribute, hr, hg, hs]

theorem contribute_stale (hr : s.redOf (hCtx h) (hRed h) = some r)
    (hn : r.gen ≠ hGen h ∨ (r.status ≠ .open_ ∧ r.status ≠ .closed)) :
    s.contribute ma h recs = (s.countStale ma h, .stale) := by
  have hlate : ¬ (r.gen = hGen h ∧ r.status = .closed) := by tauto
  have hstale : r.gen ≠ hGen h ∨ r.status ≠ .open_ := by tauto
  simp only [State.contribute, hr, if_neg hlate, if_pos hstale]

/-- A contribution to an open reduction whose block, kind, node or records are not the reduction's (rule 3 of R95). -/
theorem contribute_malformed (hr : s.redOf (hCtx h) (hRed h) = some r) (hg : r.gen = hGen h) (hs : r.status = .open_)
    (hm : r.blocks[hBlock h]? = none ∨ hKind h ≠ rdKind r.desc ∨ isCanonical (rdLeaves r.desc) (hA h) (hB h) = false ∨
      (recsOf r.desc recs).length ≠ rdElems r.desc) :
    s.contribute ma h recs = (s, .descriptor) := by
  cases hk : r.blocks[hBlock h]? with
  | none => simp [State.contribute, hr, hg, hs, hk]
  | some k =>
    have hbad : (hKind h ≠ rdKind r.desc || !isCanonical (rdLeaves r.desc) (hA h) (hB h) ||
        (recsOf r.desc recs).length ≠ rdElems r.desc : Bool) = true := by
      rcases hm with hm | hm | hm | hm
      · cases hk.symm.trans hm
      all_goals simp [hm]
    have hlate : ¬ (r.gen = hGen h ∧ r.status = .closed) := by simp [hs]
    have hstale : ¬ (r.gen ≠ hGen h ∨ r.status ≠ .open_) := by simp [hg, hs]
    simp only [State.contribute, hr, hk, if_neg hlate, if_neg hstale, if_pos hbad]

/-- A contribution that is an open reduction's own: its block, kind, node and number of records fit (R93, R95). -/
structure Fits (s : State) (h : Nat) (recs : List Byte) (r : Reduction) (k : OutBlock) : Prop where
  red : s.redOf (hCtx h) (hRed h) = some r
  gen : r.gen = hGen h
  status : r.status = .open_
  block : r.blocks[hBlock h]? = some k
  kind : hKind h = rdKind r.desc
  node : isCanonical (rdLeaves r.desc) (hA h) (hB h) = true
  count : (recsOf r.desc recs).length = rdElems r.desc

/-- The pairing that an arriving node starts in its block. -/
def State.arrival (s : State) (ma h : Nat) (recs : List Byte) (r : Reduction) (k : OutBlock) : Pairing :=
  let e := s.pairEnv r (hBlock h) ma
  arrive e (k.granules e.need) 64 ⟨k, .none, 0, 0, [], none, false⟩ (hA h) (hB h) (recsOf r.desc recs)

/-- Rules 4 to 6 of R95. -/
theorem Fits.contribute_eq (hf : Fits s h recs r k) : s.contribute ma h recs =
    if k.has h then
      ((s.cnt16 (kDev (0x7400 + ma) 3) 1).modRed r.ctx r.id (fun r => { r with dups := satAdd16 r.dups 1 }), .duplicate)
    else if k.hasBelow h then (s, .descriptor)
    else (s.settle r (hBlock h) ma (s.arrival ma h recs r k), .accepted) := by
  have hlate : ¬ (r.gen = hGen h ∧ r.status = .closed) := by simp [hf.status]
  have hstale : ¬ (r.gen ≠ hGen h ∨ r.status ≠ .open_) := by simp [hf.gen, hf.status]
  have hgood : ¬ (hKind h ≠ rdKind r.desc || !isCanonical (rdLeaves r.desc) (hA h) (hB h) ||
      (recsOf r.desc recs).length ≠ rdElems r.desc : Bool) = true := by simp [hf.kind, hf.node, hf.count]
  simp only [State.contribute, hf.red, hf.block, if_neg hlate, if_neg hstale, if_neg hgood]
  rfl

theorem Fits.duplicate (hf : Fits s h recs r k) (hd : k.has h = true) :
    s.contribute ma h recs = ((s.cnt16 (kDev (0x7400 + ma) 3) 1).modRed r.ctx r.id
      (fun r => { r with dups := satAdd16 r.dups 1 }), .duplicate) := by
  rw [hf.contribute_eq, if_pos hd]

theorem Fits.below (hf : Fits s h recs r k) (hd : k.has h = false) (hb : k.hasBelow h = true) :
    s.contribute ma h recs = (s, .descriptor) := by
  rw [hf.contribute_eq, hd, if_pos hb]
  rfl

theorem Fits.accepted (hf : Fits s h recs r k) (hd : k.has h = false) (hb : k.hasBelow h = false) :
    s.contribute ma h recs = (s.settle r (hBlock h) ma (s.arrival ma h recs r k), .accepted) := by
  rw [hf.contribute_eq, hd, hb]
  rfl

/-- Rules 3 and 5 of R95. -/
theorem contribute_refused (hr : s.redOf (hCtx h) (hRed h) = some r) (hg : r.gen = hGen h) (hs : r.status = .open_)
    (hm : r.blocks[hBlock h]? = none ∨ ∃ k, r.blocks[hBlock h]? = some k ∧ (hKind h ≠ rdKind r.desc ∨
      isCanonical (rdLeaves r.desc) (hA h) (hB h) = false ∨ (recsOf r.desc recs).length ≠ rdElems r.desc ∨
      (k.has h = false ∧ k.hasBelow h = true))) :
    s.contribute ma h recs = (s, .descriptor) := by
  rcases hm with hnone | ⟨k, hk, hkind | hnode | hcount | ⟨hd, hb⟩⟩
  · exact contribute_malformed hr hg hs (.inl hnone)
  · exact contribute_malformed hr hg hs (.inr (.inl hkind))
  · exact contribute_malformed hr hg hs (.inr (.inr (.inl hnode)))
  · exact contribute_malformed hr hg hs (.inr (.inr (.inr hcount)))
  · by_cases hbad : hKind h ≠ rdKind r.desc ∨ isCanonical (rdLeaves r.desc) (hA h) (hB h) = false ∨
      (recsOf r.desc recs).length ≠ rdElems r.desc
    · exact contribute_malformed hr hg hs (.inr hbad)
    · obtain ⟨hkind, hnode, hcount⟩ := by simpa only [not_or, not_not, Bool.not_eq_false] using hbad
      exact Fits.below ⟨hr, hg, hs, hk, hkind, hnode, hcount⟩ hd hb

/-- A node that has arrived is in its block of the reduction afterwards. -/
theorem Fits.settled (hf : Fits s h recs r k) : ∃ r' k',
    (s.settle r (hBlock h) ma (s.arrival ma h recs r k)).redOf (hCtx h) (hRed h) = some r' ∧
    r'.gen = r.gen ∧ r'.desc = r.desc ∧ r'.blocks[hBlock h]? = some k' ∧ (hA h, hB h) ∈ k'.occ := by
  obtain ⟨hctx, hid⟩ := redOf_key hf.red
  have hred : s.redOf r.ctx r.id = some r := by
    rw [hctx, hid]
    exact hf.red
  obtain ⟨r', hr', hset⟩ := settle_redOf (hBlock h) ma (s.arrival ma h recs r k) hred
  obtain ⟨b, hocc, -, hb⟩ := hset.block
  obtain ⟨hgen, hdesc⟩ := Reduction.ident_gen_desc hset.ident
  obtain ⟨hlt, -⟩ := List.getElem?_eq_some_iff.1 hf.block
  rw [hctx, hid] at hr'
  refine ⟨r', b, hr', hgen, hdesc, ?_, ?_⟩
  · rw [hb, List.getElem?_set_self hlt]
  · rw [hocc]
    exact arrive_mem_occ _ _ (by decide) _ _ _ _

end

/-! ### What an adder makes of a marker (R97) -/

section
variable {s : State} {ma h : Nat} {r : Reduction}

theorem leafMarker_closed (hr : s.redOf (hCtx h) (hRed h) = some r) (hg : r.gen = hGen h) (hs : r.status = .closed) :
    (s.leafMarker ma h).1 = s := by
  simp [State.leafMarker, hr, hg, hs]

theorem leafMarker_stale (hr : s.redOf (hCtx h) (hRed h) = some r)
    (hn : r.gen ≠ hGen h ∨ (r.status ≠ .open_ ∧ r.status ≠ .closed)) : (s.leafMarker ma h).1 = s.countStale ma h := by
  have hlate : ¬ (r.gen = hGen h ∧ r.status = .closed) := by tauto
  have hstale : r.gen ≠ hGen h ∨ r.status ≠ .open_ := by tauto
  simp only [State.leafMarker, hr, if_neg hlate, if_pos hstale]

theorem leafMarker_malformed (hr : s.redOf (hCtx h) (hRed h) = some r) (hg : r.gen = hGen h) (hs : r.status = .open_)
    (hc : isCanonical (rdLeaves r.desc) (hA h) (hB h) = false) : (s.leafMarker ma h).1 = s := by
  simp [State.leafMarker, hr, hg, hs, hc]

/-- A block with a range marked done. -/
def OutBlock.mark (k : OutBlock) (n : Nat × Nat) : OutBlock :=
  if k.doneRanges.contains n then k else { k with doneRanges := n :: k.doneRanges }

theorem OutBlock.mem_mark (k : OutBlock) (n : Nat × Nat) : n ∈ (k.mark n).doneRanges := by
  unfold OutBlock.mark
  split
  · next h => exact List.contains_iff_mem.1 h
  · exact List.mem_cons_self

/-- The promotions in block i of a reduction that a range marked done sets off (R98). -/
def State.promotion (s : State) (ma : Nat) (r : Reduction) (i : Nat) (k : OutBlock) : Pairing :=
  let e := s.pairEnv r i ma
  promote e (k.granules e.need) (k.slots.length + 1) ⟨k, .none, 0, 0, [], none, false⟩

/-- One block's part of a marker. -/
def State.markBlock (ma c id : Nat) (n : Nat × Nat) (s : State) (i : Nat) : State :=
  match s.redOf c id with
  | none => s
  | some r =>
    match r.blocks[i]? with
    | none => s
    | some k => if k.adder ≠ ma || k.handled || r.status ≠ .open_ then s else s.settle r i ma (s.promotion ma r i (k.mark n))

theorem leafMarker_open (hr : s.redOf (hCtx h) (hRed h) = some r) (hg : r.gen = hGen h) (hs : r.status = .open_)
    (hc : isCanonical (rdLeaves r.desc) (hA h) (hB h) = true) :
    (s.leafMarker ma h).1 = (List.range r.blocks.length).foldl (State.markBlock ma r.ctx r.id (hA h, hB h)) s := by
  have hlate : ¬ (r.gen = hGen h ∧ r.status = .closed) := by simp [hs]
  have hstale : ¬ (r.gen ≠ hGen h ∨ r.status ≠ .open_) := by simp [hg, hs]
  simp only [State.leafMarker, hr, if_neg hlate, if_neg hstale, hc]
  rfl

theorem markBlock_skip {n : Nat × Nat} {i : Nat} {k : OutBlock} (hr : s.redOf r.ctx r.id = some r) (hk : r.blocks[i]? = some k)
    (h : k.adder ≠ ma ∨ k.handled = true ∨ r.status ≠ .open_) : State.markBlock ma r.ctx r.id n s i = s := by
  have hskip : (k.adder ≠ ma || k.handled || r.status ≠ .open_ : Bool) = true := by simpa [or_assoc] using h
  simp only [State.markBlock, hr, hk, hskip, if_true]

theorem markBlock_settle {n : Nat × Nat} {i : Nat} {k : OutBlock} (hr : s.redOf r.ctx r.id = some r) (hk : r.blocks[i]? = some k)
    (ha : k.adder = ma) (hh : k.handled = false) (hs : r.status = .open_) :
    State.markBlock ma r.ctx r.id n s i = s.settle r i ma (s.promotion ma r i (k.mark n)) := by
  simp [State.markBlock, hr, hk, ha, hh, hs]

/-- Of a reduction `r`, the first `i` blocks have been passed with a marker of a range at adder `ma`. -/
structure Marked (ma : Nat) (n : Nat × Nat) (i : Nat) (r r' : Reduction) : Prop extends Progress r r' where
  ahead : ∀ j, i ≤ j → r'.blocks[j]? = r.blocks[j]?
  others : ∀ (j : Nat) (k : OutBlock), r.blocks[j]? = some k → k.adder ≠ ma → r'.blocks[j]? = some k
  marked : ∀ (j : Nat) (k : OutBlock), j < i → r.blocks[j]? = some k → k.adder = ma → k.handled = false →
    ∃ k' : OutBlock, r'.blocks[j]? = some k' ∧ n ∈ k'.doneRanges

/-- A block that the marker does not change is passed. -/
theorem Marked.skip {n : Nat × Nat} {i : Nat} {r' : Reduction} {k : OutBlock} (h : Marked ma n i r r') (hk : r.blocks[i]? = some k)
    (hskip : k.adder ≠ ma ∨ k.handled = true) : Marked ma n (i + 1) r r' where
  toProgress := h.toProgress
  ahead j hj := h.ahead j (by omega)
  others := h.others
  marked j k' hj hk' ha hh := by
    rcases Nat.lt_succ_iff_lt_or_eq.1 hj with hlt | rfl
    · exact h.marked j k' hlt hk' ha hh
    · obtain rfl : k = k' := Option.some.inj (hk.symm.trans hk')
      simp [ha, hh] at hskip

/-- A block that settles with the range is passed. -/
theorem Marked.settle {n : Nat × Nat} {i : Nat} {r1 r' : Reduction} {k b0 : OutBlock} (h : Marked ma n i r r1)
    (hk : r.blocks[i]? = some k) (ha : k.adder = ma) (hset : BlockSettled i b0 r1 r') (hmem : n ∈ b0.doneRanges)
    (hs : r1.status = r.status) : Marked ma n (i + 1) r r' := by
  obtain ⟨b, -, hdone, hb⟩ := hset.block
  have hne : ∀ {j}, i ≠ j → r'.blocks[j]? = r1.blocks[j]? := fun hij => by rw [hb, List.getElem?_set_ne hij]
  refine ⟨⟨hset.ident.trans h.ident, hset.status.imp_left (·.trans hs)⟩, fun j hj => ?_, fun j k' hk' hk'a => ?_,
    fun j k' hj hk' hk'a hh => ?_⟩
  · rw [hne (by omega), h.ahead j (by omega)]
  · have hij : i ≠ j := by
      rintro rfl
      obtain rfl : k = k' := Option.some.inj (hk.symm.trans hk')
      exact hk'a ha
    rw [hne hij]
    exact h.others j k' hk' hk'a
  · rcases Nat.lt_succ_iff_lt_or_eq.1 hj with hlt | rfl
    · rw [hne (by omega)]
      exact h.marked j k' hlt hk' hk'a hh
    · have hlt : j < r1.blocks.length := (List.getElem?_eq_some_iff.1 ((h.ahead j (le_refl j)).trans hk)).1
      exact ⟨b, by rw [hb, List.getElem?_set_self hlt], hdone ▸ hmem⟩

theorem promotion_mem (s : State) (ma : Nat) (r : Reduction) (i : Nat) (k : OutBlock) (n : Nat × Nat) :
    n ∈ (s.promotion ma r i (k.mark n)).blk.doneRanges := by
  rw [State.promotion, promote_doneRanges]
  exact k.mem_mark n

/-- A marker passes the blocks of an open reduction one by one; none of those ahead can have closed it. -/
theorem markBlocks_redOf (n : Nat × Nat) (hr : s.redOf r.ctx r.id = some r) (hs : r.status = .open_) {i : Nat}
    (hi : i ≤ r.blocks.length) : ∃ r', ((List.range i).foldl (State.markBlock ma r.ctx r.id n) s).redOf r.ctx r.id = some r' ∧
      Marked ma n i r r' := by
  induction i with
  | zero =>
    exact ⟨r, hr, ⟨rfl, .inl rfl⟩, fun _ _ => rfl, fun _ _ hk _ => hk, fun j k hj => absurd hj (Nat.not_lt_zero j)⟩
  | succ i ih =>
    obtain ⟨r1, hr1, hm⟩ := ih (by omega)
    obtain ⟨hctx, hid⟩ := Reduction.ident_key hm.ident
    obtain ⟨k, hk⟩ : ∃ k, r.blocks[i]? = some k := ⟨_, List.getElem?_eq_getElem (by omega)⟩
    have hk1 : r1.blocks[i]? = some k := (hm.ahead i (le_refl i)).trans hk
    rw [List.range_succ, List.foldl_append, List.foldl_cons, List.foldl_nil]
    rw [← hctx, ← hid] at hr1 ⊢
    by_cases hskip : k.adder ≠ ma ∨ k.handled = true
    · rw [markBlock_skip hr1 hk1 (hskip.imp_right .inl)]
      exact ⟨r1, hr1, hm.skip hk hskip⟩
    · obtain ⟨ha, hh⟩ : k.adder = ma ∧ k.handled = false := by simpa using hskip
      have hs1 : r1.status = r.status := hm.status.resolve_right fun hall => by
        have := hall k (List.mem_of_getElem? hk1)
        simp [hh] at this
      rw [markBlock_settle hr1 hk1 ha hh (hs1.trans hs)]
      obtain ⟨r', hr', hset⟩ := settle_redOf i ma (State.promotion _ ma r1 i (k.mark n)) hr1
      exact ⟨r', hr', hm.settle hk ha hset (promotion_mem ..) hs1⟩

/-- A marker at an adder that holds no block of the reduction with leaves to come changes nothing. -/
theorem markBlocks_none (n : Nat × Nat) (hr : s.redOf r.ctx r.id = some r)
    (hb : ∀ k ∈ r.blocks, k.adder ≠ ma ∨ k.handled = true) {i : Nat} (hi : i ≤ r.blocks.length) : (List.range i).foldl (State.markBlock ma r.ctx r.id n) s = s := by
  induction i with
  | zero => rfl
  | succ i ih =>
    have hk : r.blocks[i]? = some r.blocks[i] := List.getElem?_eq_getElem (by omega)
    rw [List.range_succ, List.foldl_append, ih (by omega)]
    exact markBlock_skip hr hk ((hb _ (List.getElem_mem _)).imp_right .inl)

end

/-! ### Cancels (R106) -/

/-- A block of a reduction that is cancelled: no node of it has been accepted. -/
def OutBlock.emptied (b : OutBlock) : OutBlock := { b with occ := [], doneRanges := [], slots := [] }

theorem cancelRed_redOf {s : State} {c id : Nat} {r : Reduction} (hr : s.redOf c id = some r) (hs : r.status = .open_) :
    (s.cancelRed c id).redOf c id = some { r with status := .cancelled, blocks := r.blocks.map OutBlock.emptied } := by
  unfold State.cancelRed
  simp only [hr, hs]
  rw [redOf_congr ((countOpen_reds _).trans (unrefTable_reds _ _))]
  refine redOf_modRed (f := fun r => { r with status := .cancelled, blocks := r.blocks.map OutBlock.emptied })
    ((redOf_congr ?_ c id).trans hr) fun _ => ⟨rfl, rfl⟩
  refine (foldl_keeps_part State.reds (fun _ _ => clearBitmap_reds ..) _ _).trans ?_
  refine foldl_keeps_part State.reds (fun v i => ?_) s _
  split
  · rfl
  · exact looseBlock_reds ..

/-! ### The obligation, part by part -/

/-- A duplicate of one that is there, and one that pairs. -/
theorem adderContribution_fits {s : State} {ma : Nat} {h : Nat} {recs : List Byte} {r : Reduction} {k : OutBlock}
    (hf : Fits s h recs r k) :
    let q := s.takeInFlight (fun u => ⟨u, ma, h, recs⟩)
    (k.has h = true →
      s.adderContribution ma h recs = ((q.1.cnt16 (kDev (0x7400 + ma) 3) 1).modRed r.ctx r.id
        (fun r => { r with dups := satAdd16 r.dups 1 })).reported q.2 .duplicate ∧
      (s.disp.inflight = [] →
        BytesStay s (s.adderContribution ma h recs) ∧ (s.adderContribution ma h recs).cores = s.cores)) ∧
    (k.has h = false → k.hasBelow h = false →
      s.adderContribution ma h recs = (q.1.settle r (hBlock h) ma (q.1.arrival ma h recs r k)).reported q.2 .accepted ∧
      ∃ r' k', (s.adderContribution ma h recs).redOf (hCtx h) (hRed h) = some r' ∧ r'.gen = r.gen ∧ r'.desc = r.desc ∧
        r'.blocks[hBlock h]? = some k' ∧ (hA h, hB h) ∈ k'.occ) := by
  intro q
  have hq : Fits q.1 h recs r k := { hf with red := (takeInFlight_redOf ..).trans hf.red }
  refine ⟨fun hd => ?_, fun hd hb => ?_⟩
  · refine ⟨adderContribution_eq (hq.duplicate hd), fun hidle => ?_⟩
    rw [adderContribution_idle hidle ma h recs, hf.duplicate hd]
    exact ⟨fun _ => rfl, rfl⟩
  · have heq := adderContribution_eq (hq.accepted hd hb)
    obtain ⟨r', k', hr', hrest⟩ := hq.settled (ma := ma)
    refine ⟨heq, r', k', ?_, hrest⟩
    rw [heq, redOf_congr (reported_sendsOnly _ _ (.inl rfl)).reds, hr']

/-- One whose reduction is not known. -/
theorem adderContribution_unknown {s : State} (ma : Nat) {h : Nat} (recs : List Byte) (hr : s.redOf (hCtx h) (hRed h) = none) :
    BytesStay s (s.adderContribution ma h recs) ∧ (s.adderContribution ma h recs).reds = s.reds ∧
      (s.adderContribution ma h recs).obj (kDev (0x7400 + ma) 4) = satAdd16 (s.obj (kDev (0x7400 + ma) 4)) 1 := by
  have hq : (s.takeInFlight (fun u => ⟨u, ma, h, recs⟩)).1.redOf (hCtx h) (hRed h) = none := (takeInFlight_redOf ..).trans hr
  rw [adderContribution_eq (contribute_unknown hq)]
  obtain ⟨d, hd⟩ := takeInFlight_disp_only s (fun u => ⟨u, ma, h, recs⟩)
  rw [hd] at hq ⊢
  have hsent := reported_sendsOnly (State.countStale { s with disp := d } ma h)
    (s.takeInFlight (fun u => ⟨u, ma, h, recs⟩)).2 (.inr rfl)
  refine ⟨fun a => ?_, hsent.reds.trans (countStale_reds_unknown hq), ?_⟩
  · rw [State.byte, hsent.mem]
    exact countStale_bytesStay { s with disp := d } ma h a
  · rw [State.obj, hsent.objs]
    exact countStale_obj { s with disp := d } ma h

/-- A marker of an open reduction's node, as its adder meets it. -/
theorem adderMarker_open {s : State} {ma h : Nat} {r : Reduction} (hidle : s.disp.inflight = [])
    (hr : s.redOf (hCtx h) (hRed h) = some r) (hg : r.gen = hGen h) (hs : r.status = .open_)
    (hc : isCanonical (rdLeaves r.desc) (hA h) (hB h) = true) :
    s.adderMarker ma h = (List.range r.blocks.length).foldl (State.markBlock ma r.ctx r.id (hA h, hB h)) s :=
  (adderMarker_idle hidle ma h).trans (leafMarker_open hr hg hs hc)

/-- Settles O30: each outcome of a contribution is one rule of R95 (`contribute_…`), a marker is a run of `markBlock`, and what a
pairing, a marker and a cancel make of the reduction's record is `Fits.settled`, `markBlocks_redOf` and `cancelRed_redOf`. -/
theorem addersPairContributions : Obligations.AddersPairContributions := by
  refine ⟨fun s ma hdr recs r k hopen hk hkind hnode hcount => ?_, fun s ma hdr recs hr => ?_, fun s ma hdr recs r hr => ?_,
    fun s ma hdr r hopen hnode hidle => ?_, fun s ctx redId r hr hs => ?_⟩
  · obtain ⟨hr, hg, hs⟩ := hopen
    have hf : Fits s hdr.toNat recs r k := ⟨hr, hg, hs, hk, hkind, hnode, hcount⟩
    obtain ⟨hdup, hacc⟩ := adderContribution_fits (ma := ma.val) hf
    refine ⟨fun hd => ?_, fun hd hb => ?_⟩
    · obtain ⟨heq, hstay⟩ := hdup hd
      exact ⟨congrArg Host.Outcome.next heq, fun hidle => ⟨_, rfl, hstay hidle⟩⟩
    · obtain ⟨heq, r', k', hr', hrest⟩ := hacc hd hb
      exact ⟨congrArg Host.Outcome.next heq, _, r', k', rfl, hr', hrest⟩
  · exact ⟨_, rfl, adderContribution_unknown ma.val recs hr⟩
  · have hq := (takeInFlight_redOf s (fun u => ⟨u, ma.val, hdr.toNat, recs⟩) _ _).trans hr
    refine ⟨fun hg hs => ⟨?_, fun hidle => ?_⟩,
      fun hn => ⟨?_, fun hidle => ?_, countStale_obj .., countStale_bytesStay s _ _, _, countStale_redOf hr, rfl, rfl⟩,
      fun hg hs => ⟨fun hm => ?_, fun hc hidle => ?_⟩⟩
    · exact congrArg Host.Outcome.next (adderContribution_eq (contribute_late hq hg hs))
    · exact congrArg Host.Outcome.next ((adderMarker_idle hidle ..).trans (leafMarker_closed hr hg hs))
    · exact congrArg Host.Outcome.next (adderContribution_eq (contribute_stale hq hn))
    · exact congrArg Host.Outcome.next ((adderMarker_idle hidle ..).trans (leafMarker_stale hr hn))
    · exact congrArg Host.Outcome.next (adderContribution_eq (contribute_refused hq hg hs hm))
    · exact congrArg Host.Outcome.next ((adderMarker_idle hidle ..).trans (leafMarker_malformed hr hg hs hc))
  · obtain ⟨hr, hg, hs⟩ := hopen
    obtain ⟨hctx, hid⟩ := redOf_key hr
    have hmark := adderMarker_open (ma := ma.val) hidle hr hg hs hnode
    have hred : s.redOf r.ctx r.id = some r := by
      rw [hctx, hid]
      exact hr
    refine ⟨fun hb => congrArg Host.Outcome.next (hmark.trans (markBlocks_none _ hred hb (le_refl _))), ?_,
      fun k hk ha hh => ?_⟩
    · obtain ⟨r', hr', hm⟩ := markBlocks_redOf (ma := ma.val) (hA hdr.toNat, hB hdr.toNat) hred hs (le_refl _)
      rw [hctx, hid] at hr'
      refine ⟨_, r', congrArg Host.Outcome.next hmark, ?_, hm.others, fun i k hk ha hh => ?_⟩
      · rw [hctx, hid]
        exact hr'
      · exact hm.marked i k (List.getElem?_eq_some_iff.1 hk).1 hk ha hh
    · refine congrArg Host.Outcome.next (hmark.trans ?_)
      have hblocks : r.blocks[0]? = some k := by rw [hk]; rfl
      rw [hk]
      exact markBlock_settle hred hblocks ha hh hs
  · exact ⟨_, _, rfl, cancelRed_redOf hr hs, rfl, rfl, fun b hb => by
      obtain ⟨b0, -, rfl⟩ := List.mem_map.1 hb
      exact ⟨rfl, rfl, rfl⟩⟩

end Sys2Proof.Machine
end

section
/-! PROOFS. REDUCE and GROUP positions at the head of a queue (R91, R92, R448, R458, R460, R488). -/

namespace Sys2Proof.Machine

open Sys2Proof.Claims

/-! ### The head is taken, and its position completes -/

/-- The taking of a position from a relay counter writes memory alone (R455). -/
theorem takeAt_mem_only (s : State) (pa : Nat) : ∃ m, (s.takeAt pa).1 = { s with mem := m } := by
  unfold State.takeAt
  extract_lets next w1 limit
  split
  · exact ⟨_, rfl⟩
  · exact ⟨_, rfl⟩

theorem takeAt_logsOnly (s : State) (pa : Nat) : LogsOnly s (s.takeAt pa).1 := by
  obtain ⟨m, h⟩ := takeAt_mem_only s pa
  rw [h]
  exact ⟨rfl, fun _ _ _ => rfl⟩

/-- Beside the relay counter and the log, the taking of a position counts one atomic of its cluster. -/
theorem takeQ_logsOnly (s : State) (cl q : Nat) : LogsOnly (s.cnt48 (kCl cl 0x90 4) 1) (s.takeQ cl q).1 := by
  dsimp only [State.takeQ]
  split
  · split
    · exact (takeAt_logsOnly ..).trans (event_logsOnly ..)
    · exact takeAt_logsOnly ..
  · exact takeAt_logsOnly ..

theorem takeHead_reds (s : State) (cl q : Nat) : (s.takeHead cl q).1.reds = s.reds := by
  obtain ⟨hreds, -⟩ := Prod.mk.inj (takeQ_logsOnly s cl q).redsDisp
  dsimp only [State.takeHead, State.modQueue]
  rw [hreds, State.cnt48_reds]

theorem takeHead_ctx (s : State) (cl q c : Nat) : (s.takeHead cl q).1.ctx c = s.ctx c := by
  obtain ⟨-, hdisp⟩ := Prod.mk.inj (takeQ_logsOnly s cl q).redsDisp
  dsimp only [State.takeHead, State.modQueue, State.ctx]
  rw [hdisp, State.cnt48_disp]

theorem takeHead_obj (s : State) (cl q : Nat) {k : Nat} (h1 : k / 256 ≠ 0x4000) (h2 : k / 256 ≠ 0x1010)
    (h3 : k ≠ kCl cl 0x90 4) : (s.takeHead cl q).1.obj k = s.obj k := by
  have hobj := (takeQ_logsOnly s cl q).objs k h1 h2
  rw [State.cnt48, State.obj_setObj_ne s h3] at hobj
  dsimp only [State.takeHead, State.modQueue, State.obj] at hobj ⊢
  exact hobj

theorem takeHead_stepNow (s : State) (cl q : Nat) {c : Nat} (hc : c < 64) : (s.takeHead cl q).1.stepNow c = s.stepNow c := by
  refine takeHead_obj s cl q ?_ ?_ ?_ <;> simp only [kSeed, kCl, kDev, objKey] <;> omega

theorem takeHead_logMode (s : State) (cl q : Nat) {c : Nat} (hc : c < 64) :
    (s.takeHead cl q).1.obj (kCtx c 6) = s.obj (kCtx c 6) := by
  refine takeHead_obj s cl q ?_ ?_ ?_ <;> simp only [kCtx, kCl, kDev, objKey] <;> omega

theorem takeHead_homeOf (s : State) (cl q dest : Nat) : (s.takeHead cl q).1.homeOf dest = s.homeOf dest := by
  have hid : (s.takeHead cl q).1.ownId = s.ownId := by
    refine takeHead_obj s cl q ?_ ?_ ?_ <;> simp only [kCl, kDev, objKey] <;> omega
  rw [State.homeOf, hid, State.homeOf]

theorem modQueue_redsDisp {s u : State} (h : u.redsDisp = s.redsDisp) (cl q : Nat) (f : Queue → Queue) :
    (u.modQueue cl q f).redsDisp = (s.modQueue cl q f).redsDisp := by
  obtain ⟨hreds, hdisp⟩ := Prod.mk.inj h
  simp only [State.redsDisp, State.modQueue, hreds, hdisp]

/-- Of reductions and dispatchers, a completion record changes the open positions of its queue alone (R453). -/
theorem finishHead_redsDisp (s : State) (cl q pos code d : Nat) : (s.finishHead cl q pos code d).redsDisp =
    (s.modQueue cl q (fun x => { x with open_ := x.open_.filter (· ≠ pos) })).redsDisp := by
  dsimp only [State.finishHead, State.complete]
  rw [mirror_redsDisp]
  refine modQueue_redsDisp ?_ cl q _
  split
  · next v hv =>
    have hwrite : v.redsDisp = s.redsDisp := writeVa_redsDisp hv
    exact hwrite
  · rfl

theorem finishHead_reds (s : State) (cl q pos code d : Nat) : (s.finishHead cl q pos code d).reds = s.reds := by
  obtain ⟨hreds, -⟩ := Prod.mk.inj (finishHead_redsDisp s cl q pos code d)
  rw [hreds, State.modQueue]

theorem finishHead_group (s : State) (cl q pos code d c g : Nat) : (s.finishHead cl q pos code d).group c g = s.group c g := by
  obtain ⟨-, hdisp⟩ := Prod.mk.inj (finishHead_redsDisp s cl q pos code d)
  rw [State.group, hdisp, State.modQueue, State.group]

/-- A position that has completed is not open. -/
theorem finishHead_open (s : State) (cl q pos code d : Nat) : pos ∉ ((s.finishHead cl q pos code d).queue cl q).open_ := by
  obtain ⟨-, hdisp⟩ := Prod.mk.inj (finishHead_redsDisp s cl q pos code d)
  rw [State.queue, hdisp, State.modQueue, nget_nmod_same]
  simp

theorem openReds_congr {s u : State} (h : u.reds = s.reds) : u.openReds = s.openReds := by rw [State.openReds, h, State.openReds]

/-! ### The head of a queue -/

section
variable {s : State} {cl q d : Nat}

/-- A position is taken for a context of the device (R464). -/
theorem headIs_ctx_lt (h : HeadIs s cl q d) : s.qCtx cl q < 64 := by
  obtain ⟨hready, -⟩ := h
  simp only [State.qReady, State.ctxServed, Bool.and_eq_true, decide_eq_true_eq] at hready
  tauto

end

/-! ### Registration (R91, R92, R558) -/

/-- The reductions of the device without the one that a registration replaces. -/
def State.otherReds (s : State) (c d : Nat) : List Reduction := s.reds.filter (fun r => !(r.ctx = c && r.id = rdId d))

/-- What a registration of context c captures (R101, R402). -/
def State.registration (s : State) (c d : Nat) : Reduction :=
  { ctx := c, id := rdId d, gen := rdGen d, desc := d, status := .forwarding, step := s.stepNow c,
    key := s.seedKey c (rdSeed d), rights := s.obj (kSeed c 2), xlat := none, blocks := [], dups := 0, stale := 0,
    ev := .none, unwritten := false, home := 0 }

theorem redOf_append {s : State} {c id : Nat} {l : List Reduction} {r : Reduction}
    (h : s.reds = l.filter (fun x => !(x.ctx = c && x.id = id)) ++ [r]) (hc : r.ctx = c) (hid : r.id = id) :
    s.redOf c id = some r := by
  have hnone : (l.filter (fun x => !(x.ctx = c && x.id = id))).find? (fun x => x.ctx = c && x.id = id) = none := by
    rw [List.find?_eq_none]
    intro x hx hkey
    have := (List.mem_filter.1 hx).2
    rw [hkey] at this
    cases this
  rw [State.redOf, h, List.find?_append, hnone]
  simp [hc, hid]

/-- No open reduction has the identifier of a registration that is accepted, so every open one stays. -/
theorem otherReds_open {s : State} {c d : Nat} (h : s.registerCodes c d = []) :
    ((s.otherReds c d).filter (fun r => r.status = .open_)).length = s.openReds := by
  have hgood : s.redBad c d = false := by
    by_contra hbad
    simp [State.registerCodes, hbad] at h
  have hnone : s.reds.any (fun r => r.ctx = c && r.id = rdId d && r.status = .open_) = false := by
    simp only [State.redBad, Bool.or_eq_false_iff] at hgood
    tauto
  rw [State.otherReds, List.filter_filter, State.openReds]
  refine congrArg List.length (List.filter_congr fun r hr => ?_)
  have hother := List.any_eq_false.1 hnone r hr
  by_cases hs : r.status = .open_
  · simpa [hs, ← not_and_or] using hother
  · simp [hs]

theorem register_forwarding {s : State} {c d m : Nat} (h : s.registerCodes c d = []) (hm : s.homeOf (rdDest d) = some m) :
    (s.register c d).1.reds = s.otherReds c d ++ [{ s.registration c d with home := m }] := by
  unfold State.register
  rw [h]
  dsimp only
  rw [hm]
  rfl

/-- The record of a registration that opens here, under the bank `xl`. -/
theorem register_here {s : State} {c d : Nat} (h : s.registerCodes c d = []) (hm : s.homeOf (rdDest d) = none) :
    ∃ xl, (s.register c d).1 = s.openRed c d (s.otherReds c d) { s.registration c d with xlat := xl } := by
  unfold State.register
  rw [h]
  dsimp only
  rw [hm]
  exact ⟨_, rfl⟩

/-- A block of a reduction without leaves resolves absent (R98, R99). -/
def State.absentRoot (c id : Nat) (s : State) (k : Nat) : State :=
  match s.redOf c id with
  | some r => s.rootWrite r k none
  | none => s

theorem absentRoots_redOf {s : State} {c id : Nat} {r : Reduction} (h : s.redOf c id = some r) (l : List Nat) :
    ∃ r', (l.foldl (State.absentRoot c id) s).redOf c id = some r' ∧ r'.ident = r.ident := by
  induction l generalizing s r with
  | nil => exact ⟨r, h, rfl⟩
  | cons k l ih =>
    obtain ⟨rfl, rfl⟩ := redOf_key h
    obtain ⟨r1, hr1, hdone⟩ := rootWrite_redOf k none h
    have hstep : State.absentRoot r.ctx r.id s k = s.rootWrite r k none := by simp only [State.absentRoot, h]
    obtain ⟨r', hr', hident⟩ := ih hr1
    exact ⟨r', by rw [List.foldl_cons, hstep, hr'], hident.trans hdone.ident⟩

/-- A reduction opens with its blocks; one without leaves resolves them at once. -/
theorem openRed_eq (s : State) (c d : Nat) (old : List Reduction) (r : Reduction) : ∃ bs v, bs.length = rdBlocks d ∧
    v.reds = old ++ [{ r with status := .open_, blocks := bs, home := s.ownId }] ∧
    s.openRed c d old r =
      if rdLeaves d = 0 then (List.range (rdBlocks d)).foldl (State.absentRoot c r.id) v else v := by
  dsimp only [State.openRed]
  generalize hbs : List.map _ (List.range (rdBlocks d)) = bs
  refine ⟨bs, _, by rw [← hbs, List.length_map, List.length_range], ?_, rfl⟩
  refine (foldl_keeps_part State.reds (fun _ _ => clearBitmap_reds ..) _ _).trans ?_
  rw [countOpen_reds, refTable_reds]

/-- What a registration leaves under its identifier, of what it captured and of its place (R91, R101, R558). -/
structure Registered (s u : State) (c d : Nat) (x : Reduction) : Prop where
  record : u.redOf c (rdId d) = some x
  captured : x.desc = d ∧ x.gen = rdGen d ∧ x.step = s.stepNow c ∧ x.key = s.seedKey c (rdSeed d)
  here : s.homeOf (rdDest d) = none → rdLeaves d ≠ 0 →
    x.status = .open_ ∧ x.blocks.length = rdBlocks d ∧ u.openReds = s.openReds + 1
  away : ∀ m, s.homeOf (rdDest d) = some m → x.status = .forwarding ∧ x.home = m ∧ u.openReds = s.openReds

theorem register_registered {s : State} {c d : Nat} (h : s.registerCodes c d = []) :
    ∃ x, Registered s (s.register c d).1 c d x := by
  cases hm : s.homeOf (rdDest d) with
  | some m =>
    have hreds := register_forwarding h hm
    refine ⟨_, redOf_append hreds rfl rfl, ⟨rfl, rfl, rfl, rfl⟩, by simp [hm], fun m' hm' => ⟨rfl, ?_, ?_⟩⟩
    · exact Option.some.inj (hm.symm.trans hm')
    · rw [State.openReds, hreds, List.filter_append, List.length_append, otherReds_open h]
      rfl
  | none =>
    obtain ⟨xl, hreg⟩ := register_here h hm
    obtain ⟨bs, v, hlen, hreds, hopen⟩ := openRed_eq s c d (s.otherReds c d) { s.registration c d with xlat := xl }
    have hv := redOf_append hreds rfl rfl
    rw [hreg, hopen]
    split
    · next hleaves =>
      obtain ⟨x, hx, hident⟩ := absentRoots_redOf hv (List.range (rdBlocks d))
      exact ⟨x, hx, ⟨(congrArg Reduction.desc hident :), (congrArg Reduction.gen hident :), (congrArg Reduction.step hident :),
        (congrArg Reduction.key hident :)⟩, fun _ hne => absurd hleaves hne, by simp [hm]⟩
    · refine ⟨_, hv, ⟨rfl, rfl, rfl, rfl⟩, fun _ _ => ⟨rfl, hlen, ?_⟩, by simp [hm]⟩
      rw [State.openReds, hreds, List.filter_append, List.length_append, otherReds_open h]
      rfl

/-- The taking of the head before a registration, and the record of its position after it, change nothing of it. -/
theorem Registered.atHead {s u v : State} {cl q c d : Nat} {x : Reduction} (h : Registered (s.takeHead cl q).1 u c d x)
    (hc : c < 64) (hv : v.reds = u.reds) : Registered s v c d x := by
  have hopen : (s.takeHead cl q).1.openReds = s.openReds := openReds_congr (takeHead_reds s cl q)
  obtain ⟨hrec, ⟨hdesc, hgen, hstep, hkey⟩, hhere, haway⟩ := h
  rw [takeHead_homeOf, hopen] at *
  rw [takeHead_stepNow s cl q hc] at hstep
  rw [State.seedKey, takeHead_ctx] at hkey
  rw [← openReds_congr hv] at hhere haway
  exact ⟨(redOf_congr hv _ _).trans hrec, ⟨hdesc, hgen, hstep, hkey⟩, hhere, haway⟩

/-! ### REDUCE positions -/

section
variable {s : State} {cl q d : Nat}

theorem redWaits_iff (s : State) (g : Nat) : s.redWaits g = true ↔ 1024 ≤ s.openReds ∧ s.homeOf (rdDest g) = none := by
  simp [State.redWaits]

theorem reducePosition_waits (h : HeadIs s cl q d) (hw : s.headBad (s.qCtx cl q) d = false)
    (hr : s.redWaits (d % 2 ^ 320) = true) : s.reducePosition cl q = s := by
  obtain ⟨hready, hre, hsaved, hdesc⟩ := h
  simp only [State.reducePosition, hready, hre, hsaved, hdesc, hw, hr, List.isEmpty_nil, Bool.not_true, Bool.not_false,
    Bool.or_self, Bool.and_self, Bool.or_true, Bool.false_eq_true, if_true, if_false]

/-- A REDUCE position that does not wait for a place is taken. -/
theorem reducePosition_eq (h : HeadIs s cl q d) (hk : dKind d = 2)
    (hw : s.headBad (s.qCtx cl q) d = true ∨ s.redWaits (d % 2 ^ 320) = false) :
    s.reducePosition cl q =
      match s.admission (s.qCtx cl q) d (fun d => s.registerCodes (s.qCtx cl q) (d % 2 ^ 320)) with
      | .wait => s
      | .fail e => (s.takeHead cl q).1.finishHead cl q (s.takeHead cl q).2 e d
      | .go d => ((s.takeHead cl q).1.register (s.qCtx cl q) (d % 2 ^ 320)).1.finishHead cl q (s.takeHead cl q).2
          ((s.takeHead cl q).1.register (s.qCtx cl q) (d % 2 ^ 320)).2 d := by
  obtain ⟨hready, hre, hsaved, hdesc⟩ := h
  have hgo : (!s.headBad (s.qCtx cl q) d && s.redWaits (d % 2 ^ 320)) = false := by
    rcases hw with hw | hw
    · rw [hw]
      rfl
    · rw [hw, Bool.and_false]
  simp only [State.reducePosition, hready, hre, hsaved, hdesc, hk, hgo]
  rfl

/-- A REDUCE position that starts leaves its registration, whatever its record says. -/
theorem reducePosition_registered {g : Nat} (h : HeadIs s cl q d)
    (hc : (s.takeHead cl q).1.registerCodes (s.qCtx cl q) g = []) (pos code d' : Nat) :
    ∃ x, Registered s (((s.takeHead cl q).1.register (s.qCtx cl q) g).1.finishHead cl q pos code d') (s.qCtx cl q) g x := by
  obtain ⟨x, hx⟩ := register_registered hc
  exact ⟨x, hx.atHead (headIs_ctx_lt h) (finishHead_reds ..)⟩

end

/-! ### GROUP positions -/

section
variable {s : State} {cl q d : Nat}

/-- A group opens with its record; outside the REPLAY mode it is not switched (R488, R499). -/
theorem openGroup_group (s : State) (c g : Nat) : ∃ x, (s.openGroup c g).group c (gId g) = some x ∧ x.record = g ∧
    x.remaining = gRemaining g ∧ x.maxStep = none ∧ (s.obj (kCtx c 6) ≠ 1 → x.state = .open_ ∧ x.switched = false) := by
  have hfirst : ∀ (v : State) (x : SplitGroup) (l : List SplitGroup), x.ctx = c → x.id = gId g →
      (({ v with disp := { v.disp with groups := x :: l } } : State).countGroups).group c (gId g) = some x := by
    intro v x l hctx hid
    exact List.find?_cons_of_pos (by simp [hctx, hid])
  dsimp only [State.openGroup]
  split
  · exact ⟨_, hfirst _ _ _ rfl rfl, rfl, rfl, rfl, fun _ => ⟨rfl, rfl⟩⟩
  · next hd =>
    refine ⟨_, hfirst _ _ _ rfl rfl, rfl, rfl, rfl, fun hmode => ?_⟩
    rw [if_neg hmode] at hd
    cases hd

theorem groupPosition_waits (h : HeadIs s cl q d) (hw : s.headBad (s.qCtx cl q) d = false) (hg : groupBad (d % 2 ^ 512) = false)
    (hl : s.disp.groups.any (fun x => x.id = gId (d % 2 ^ 512) && x.live) = true) : s.groupPosition cl q = s := by
  obtain ⟨hready, hre, hsaved, hdesc⟩ := h
  simp only [State.groupPosition, hready, hre, hsaved, hdesc, hw, hg, hl, List.isEmpty_nil, Bool.not_true, Bool.not_false,
    Bool.or_self, Bool.and_self, Bool.false_eq_true, if_true, if_false, ite_self]

/-- A GROUP position whose identifier is free, or that is refused, is taken. -/
theorem groupPosition_eq (h : HeadIs s cl q d) (hk : dKind d = 3)
    (hw : s.headBad (s.qCtx cl q) d = true ∨ groupBad (d % 2 ^ 512) = true ∨
      s.disp.groups.any (fun x => x.id = gId (d % 2 ^ 512) && x.live) = false) :
    s.groupPosition cl q =
      match s.admission (s.qCtx cl q) d (fun _ => if groupBad (d % 2 ^ 512) then [cDescriptor] else []) with
      | .wait => s
      | .fail e => (s.takeHead cl q).1.finishHead cl q (s.takeHead cl q).2 e d
      | .go d' => ((s.takeHead cl q).1.openGroup (s.qCtx cl q) (d % 2 ^ 512)).finishHead cl q (s.takeHead cl q).2 cOk d' := by
  obtain ⟨hready, hre, hsaved, hdesc⟩ := h
  have hgo : (!s.headBad (s.qCtx cl q) d && !groupBad (d % 2 ^ 512) &&
      s.disp.groups.any (fun x => x.id = gId (d % 2 ^ 512) && x.live)) = false := by
    rcases hw with hw | hw | hw
    · rw [hw]
      rfl
    · rw [hw, Bool.not_true, Bool.and_false, Bool.false_and]
    · rw [hw, Bool.and_false]
  simp only [State.groupPosition, hready, hre, hsaved, hdesc, hk, hgo]
  rfl

end

/-! ### The obligation -/

/-- Settles O29: a position at the head of its queue waits, fails or starts as `admission` says; what a registration leaves is
`register_registered`, what an opening leaves `openGroup_group`, and both carry over the taking and the completion. -/
theorem reduceAndGroupPositions : Obligations.ReduceAndGroupPositions := by
  refine ⟨fun s cl q d hhead hk => ⟨fun hw hh ho => ?_, fun hw => ?_⟩,
    fun s cl q d hhead hk => ⟨fun hw hg hl => ?_, fun hw => ?_⟩⟩
  · exact congrArg Host.Outcome.next (reducePosition_waits hhead hw ((redWaits_iff ..).2 ⟨ho, hh⟩))
  · have hplace : s.headBad (s.qCtx cl q) d = true ∨ s.redWaits (d % 2 ^ 320) = false := by
      rw [Bool.eq_false_iff, ne_eq, redWaits_iff, not_and_or, Nat.not_le]
      exact hw
    have heq := reducePosition_eq hhead hk hplace
    refine ⟨fun e hadm => congrArg Host.Outcome.next ?_,
      fun d' hadm => ⟨_, congrArg Host.Outcome.next ?_, rfl, finishHead_open _ _ _ _ _ _, fun hc => ?_⟩⟩
    · rw [heq, hadm]
    · rw [heq, hadm]
    · obtain ⟨x, hx⟩ := reducePosition_registered hhead hc _ _ d'
      obtain ⟨hdesc, hgen, hstep, hkey⟩ := hx.captured
      exact ⟨x, hx.record, hdesc, hgen, hstep, hkey, hx.here, hx.away⟩
  · exact congrArg Host.Outcome.next (groupPosition_waits hhead hw hg hl)
  · have heq := groupPosition_eq hhead hk hw
    refine ⟨fun e hadm => congrArg Host.Outcome.next ?_, fun d' hadm => ?_⟩
    · rw [heq, hadm]
    · obtain ⟨x, hx, hrecord, hremaining, hstep, hopen⟩ := openGroup_group (s.takeHead cl q).1 (s.qCtx cl q) (d % 2 ^ 512)
      refine ⟨_, x, congrArg Host.Outcome.next ?_, rfl, finishHead_open _ _ _ _ _ _, ?_, hrecord, hremaining, hstep,
        fun hmode => ?_⟩
      · rw [heq, hadm]
      · rw [finishHead_group, hx]
      · exact hopen (by rwa [takeHead_logMode s cl q (headIs_ctx_lt hhead)])

end Sys2Proof.Machine
end

section
/-! PROOFS. Every command of every state answers a next state and keeps what `Keeps` says (R146, R613, R625); what an idle step does;
and the state after reset. -/

namespace Sys2Proof.Machine

open Sys2Proof.Claims

/-! ### Every command answers a next state -/

/-- Every command has a meaning in every state. -/
theorem exec_answers (c : Instr) (s : State) : ∃ t, exec c s = .next t := by
  cases c <;> exact ⟨_, rfl⟩

/-- What a command keeps of the state that it runs on: one lemma of `Laws` for each row of the opcode table. -/
theorem exec_keeps {c : Instr} {s t : State} (e : exec c s = .next t) : Keeps s t :=
  match c with
  | .endList .. => execEndList_keeps (.refl s) e
  | .ring .. => execRing_keeps (.refl s) e
  | .wait .. => execWait_keeps (.refl s) e
  | .waitRelease .. => execWaitRelease_keeps (.refl s) e
  | .signal .. => execSignal_keeps (.refl s) e
  | .move .. => execMove_keeps (.refl s) e
  | .yieldCmd .. => execYieldCmd_keeps (.refl s) e
  | .mmaTile .. => execMmaTile_keeps (.refl s) e
  | .schuss .. => execSchuss_keeps (.refl s) e
  | .routine .. => execRoutine_keeps (.refl s) e
  | .mmaIssue .. => execMmaIssue_keeps (.refl s) e
  | .weightBankFill .. => execWeightBankFill_keeps (.refl s) e
  | .drain .. => execDrain_keeps (.refl s) e
  | .slabDelivery .. => execSlabDelivery_keeps (.refl s) e
  | .routineImageLoad .. => execRoutineImageLoad_keeps (.refl s) e
  | .routineStep .. => execRoutineStep_keeps (.refl s) e
  | .finishingSection .. => execFinishingSection_keeps (.refl s) e
  | .yieldPoint .. => execYieldPoint_keeps (.refl s) e
  | .taskSaveDone .. => execTaskSaveDone_keeps (.refl s) e
  | .watchdogFault .. => execWatchdogFault_keeps (.refl s) e
  | .coreFault .. => execCoreFault_keeps (.refl s) e
  | .taskCommit .. => execTaskCommit_keeps (.refl s) e
  | .completionRecord .. => execCompletionRecord_keeps (.refl s) e
  | .leaseRenewal .. => execLeaseRenewal_keeps (.refl s) e
  | .leaseScan .. => execLeaseScan_keeps (.refl s) e
  | .workRequest .. => execWorkRequest_keeps (.refl s) e
  | .take .. => execTake_keeps (.refl s) e
  | .fetchAdd .. => execFetchAdd_keeps (.refl s) e
  | .cas .. => execCas_keeps (.refl s) e
  | .minU .. => execMinU_keeps (.refl s) e
  | .maxU .. => execMaxU_keeps (.refl s) e
  | .minS .. => execMinS_keeps (.refl s) e
  | .maxS .. => execMaxS_keeps (.refl s) e
  | .limit .. => execLimit_keeps (.refl s) e
  | .queueContext .. => execQueueContext_keeps (.refl s) e
  | .planPosition .. => execPlanPosition_keeps (.refl s) e
  | .chunkTake .. => execChunkTake_keeps (.refl s) e
  | .clusterFill .. => execClusterFill_keeps (.refl s) e
  | .reducePosition .. => execReducePosition_keeps (.refl s) e
  | .groupPosition .. => execGroupPosition_keeps (.refl s) e
  | .adderContribution .. => execAdderContribution_keeps (.refl s) e
  | .leafDoneMarker .. => execLeafDoneMarker_keeps (.refl s) e
  | .reductionCancel .. => execReductionCancel_keeps (.refl s) e
  | .preempt .. => execPreempt_keeps (.refl s) e
  | .saveAreaComplete .. => execSaveAreaComplete_keeps (.refl s) e
  | .restore .. => execRestore_keeps (.refl s) e
  | .restoreComplete .. => execRestoreComplete_keeps (.refl s) e
  | .savedTaskResume .. => execSavedTaskResume_keeps (.refl s) e
  | .forceSwitch .. => execForceSwitch_keeps (.refl s) e
  | .programLoad .. => execProgramLoad_keeps (.refl s) e
  | .commit .. => execCommit_keeps (.refl s) e
  | .commitRecord .. => execCommitRecord_keeps (.refl s) e
  | .commitDone .. => execCommitDone_keeps (.refl s) e
  | .restoreCommit .. => execRestoreCommit_keeps (.refl s) e
  | .nop .. => execNop_keeps (.refl s) e
  | .fadd .. => execFadd_keeps (.refl s) e
  | .fsub .. => execFsub_keeps (.refl s) e
  | .fmul .. => execFmul_keeps (.refl s) e
  | .fma .. => execFma_keeps (.refl s) e
  | .fnma .. => execFnma_keeps (.refl s) e
  | .fmax .. => execFmax_keeps (.refl s) e
  | .fmin .. => execFmin_keeps (.refl s) e
  | .fmaxn .. => execFmaxn_keeps (.refl s) e
  | .fminn .. => execFminn_keeps (.refl s) e
  | .fabs .. => execFabs_keeps (.refl s) e
  | .fneg .. => execFneg_keeps (.refl s) e
  | .frint .. => execFrint_keeps (.refl s) e
  | .ffloor .. => execFfloor_keeps (.refl s) e
  | .fclamp .. => execFclamp_keeps (.refl s) e
  | .fquant .. => execFquant_keeps (.refl s) e
  | .hadd .. => execHadd_keeps (.refl s) e
  | .hsub .. => execHsub_keeps (.refl s) e
  | .hmul .. => execHmul_keeps (.refl s) e
  | .hfma .. => execHfma_keeps (.refl s) e
  | .hfnma .. => execHfnma_keeps (.refl s) e
  | .hmax .. => execHmax_keeps (.refl s) e
  | .hmin .. => execHmin_keeps (.refl s) e
  | .cvtif .. => execCvtif_keeps (.refl s) e
  | .cvtfi .. => execCvtfi_keeps (.refl s) e
  | .iadd .. => execIadd_keeps (.refl s) e
  | .isub .. => execIsub_keeps (.refl s) e
  | .imul .. => execImul_keeps (.refl s) e
  | .imax .. => execImax_keeps (.refl s) e
  | .imin .. => execImin_keeps (.refl s) e
  | .and .. => execAnd_keeps (.refl s) e
  | .or .. => execOr_keeps (.refl s) e
  | .xor .. => execXor_keeps (.refl s) e
  | .shl .. => execShl_keeps (.refl s) e
  | .shr .. => execShr_keeps (.refl s) e
  | .sar .. => execSar_keeps (.refl s) e
  | .fcmpeq .. => execFcmpeq_keeps (.refl s) e
  | .fcmplt .. => execFcmplt_keeps (.refl s) e
  | .fcmple .. => execFcmple_keeps (.refl s) e
  | .fcmpun .. => execFcmpun_keeps (.refl s) e
  | .icmpeq .. => execIcmpeq_keeps (.refl s) e
  | .icmplt .. => execIcmplt_keeps (.refl s) e
  | .mand .. => execMand_keeps (.refl s) e
  | .mor .. => execMor_keeps (.refl s) e
  | .mxor .. => execMxor_keeps (.refl s) e
  | .mandn .. => execMandn_keeps (.refl s) e
  | .mnot .. => execMnot_keeps (.refl s) e
  | .mpop .. => execMpop_keeps (.refl s) e
  | .sel .. => execSel_keeps (.refl s) e
  | .exp .. => execExp_keeps (.refl s) e
  | .log .. => execLog_keeps (.refl s) e
  | .rcp .. => execRcp_keeps (.refl s) e
  | .rsqrt .. => execRsqrt_keeps (.refl s) e
  | .sinr .. => execSinr_keeps (.refl s) e
  | .cosr .. => execCosr_keeps (.refl s) e
  | .rand .. => execRand_keeps (.refl s) e
  | .ld .. => execLd_keeps (.refl s) e
  | .st .. => execSt_keeps (.refl s) e
  | .stq .. => execStq_keeps (.refl s) e
  | .ldx .. => execLdx_keeps (.refl s) e
  | .stx .. => execStx_keeps (.refl s) e
  | .perm .. => execPerm_keeps (.refl s) e
  | .shuf .. => execShuf_keeps (.refl s) e
  | .pack .. => execPack_keeps (.refl s) e
  | .unpack .. => execUnpack_keeps (.refl s) e
  | .lsum .. => execLsum_keeps (.refl s) e
  | .lmax .. => execLmax_keeps (.refl s) e
  | .lmin .. => execLmin_keeps (.refl s) e
  | .lmaxi .. => execLmaxi_keeps (.refl s) e
  | .sample .. => execSample_keeps (.refl s) e
  | .statLeaf .. => execStatLeaf_keeps (.refl s) e
  | .statGet .. => execStatGet_keeps (.refl s) e
  | .index .. => execIndex_keeps (.refl s) e
  | .copy .. => execCopy_keeps (.refl s) e
  | .fill .. => execFill_keeps (.refl s) e
  | .gather .. => execGather_keeps (.refl s) e
  | .scatter .. => execScatter_keeps (.refl s) e
  | .scatterAdd .. => execScatterAdd_keeps (.refl s) e
  | .window .. => execWindow_keeps (.refl s) e
  | .windowT .. => execWindowT_keeps (.refl s) e
  | .pad .. => execPad_keeps (.refl s) e
  | .up2 .. => execUp2_keeps (.refl s) e
  | .down2 .. => execDown2_keeps (.refl s) e
  | .crop .. => execCrop_keeps (.refl s) e
  | .landedRead .. => execLandedRead_keeps (.refl s) e
  | .deltaTask .. => execDeltaTask_keeps (.refl s) e
  | .glideEnable .. => execGlideEnable_keeps (.refl s) e
  | .glideForce .. => execGlideForce_keeps (.refl s) e
  | .tm1FunctionMode .. => execTm1FunctionMode_keeps (.refl s) e
  | .tm1FunctionModeForce .. => execTm1FunctionModeForce_keeps (.refl s) e
  | .tm1ContainmentMode .. => execTm1ContainmentMode_keeps (.refl s) e
  | .tm1ContainmentForce .. => execTm1ContainmentForce_keeps (.refl s) e
  | .drainEnd .. => execDrainEnd_keeps (.refl s) e
  | .seedKey .. => execSeedKey_keeps (.refl s) e
  | .stepAdvance .. => execStepAdvance_keeps (.refl s) e
  | .stepCounter .. => execStepCounter_keeps (.refl s) e
  | .ringLimit .. => execRingLimit_keeps (.refl s) e
  | .push .. => execPush_keeps (.refl s) e
  | .flip .. => execFlip_keeps (.refl s) e
  | .pin .. => execPin_keeps (.refl s) e
  | .unpin .. => execUnpin_keeps (.refl s) e
  | .evict .. => execEvict_keeps (.refl s) e
  | .abort .. => execAbort_keeps (.refl s) e
  | .defineTable .. => execDefineTable_keeps (.refl s) e
  | .loadTable .. => execLoadTable_keeps (.refl s) e
  | .flipTable .. => execFlipTable_keeps (.refl s) e
  | .dropTable .. => execDropTable_keeps (.refl s) e
  | .manifestCheck .. => execManifestCheck_keeps (.refl s) e
  | .chairliftBlock .. => execChairliftBlock_keeps (.refl s) e
  | .archiveCopyDone .. => execArchiveCopyDone_keeps (.refl s) e
  | .chairliftEnable .. => execChairliftEnable_keeps (.refl s) e
  | .chairliftForce .. => execChairliftForce_keeps (.refl s) e
  | .flitReceive .. => execFlitReceive_keeps (.refl s) e
  | .nak .. => execNak_keeps (.refl s) e
  | .replayTimeout .. => execReplayTimeout_keeps (.refl s) e
  | .packetForward .. => execPacketForward_keeps (.refl s) e
  | .remoteWrite .. => execRemoteWrite_keeps (.refl s) e
  | .writeDone .. => execWriteDone_keeps (.refl s) e
  | .writeDoneTimeout .. => execWriteDoneTimeout_keeps (.refl s) e
  | .contrib .. => execContrib_keeps (.refl s) e
  | .contribAck .. => execContribAck_keeps (.refl s) e
  | .leafDone .. => execLeafDone_keeps (.refl s) e
  | .bcastBlock .. => execBcastBlock_keeps (.refl s) e
  | .bcastManifest .. => execBcastManifest_keeps (.refl s) e
  | .resend .. => execResend_keeps (.refl s) e
  | .resendTimeout .. => execResendTimeout_keeps (.refl s) e
  | .heartbeatSend .. => execHeartbeatSend_keeps (.refl s) e
  | .heartbeat .. => execHeartbeat_keeps (.refl s) e
  | .heartbeatTimeout .. => execHeartbeatTimeout_keeps (.refl s) e
  | .neighbour .. => execNeighbour_keeps (.refl s) e
  | .linkDown .. => execLinkDown_keeps (.refl s) e
  | .linkDownTimeout .. => execLinkDownTimeout_keeps (.refl s) e
  | .laneFailure .. => execLaneFailure_keeps (.refl s) e
  | .retrainTimer .. => execRetrainTimer_keeps (.refl s) e
  | .linkTrainingDone .. => execLinkTrainingDone_keeps (.refl s) e
  | .linkEnable .. => execLinkEnable_keeps (.refl s) e
  | .linkForce .. => execLinkForce_keeps (.refl s) e
  | .moduleId .. => execModuleId_keeps (.refl s) e
  | .videoRingLimit .. => execVideoRingLimit_keeps (.refl s) e
  | .videoJobStart .. => execVideoJobStart_keeps (.refl s) e
  | .openStream .. => execOpenStream_keeps (.refl s) e
  | .closeStream .. => execCloseStream_keeps (.refl s) e
  | .resetStream .. => execResetStream_keeps (.refl s) e
  | .decode .. => execDecode_keeps (.refl s) e
  | .encode .. => execEncode_keeps (.refl s) e
  | .videoJobComplete .. => execVideoJobComplete_keeps (.refl s) e
  | .videoEngineFault .. => execVideoEngineFault_keeps (.refl s) e
  | .videoEngineEnable .. => execVideoEngineEnable_keeps (.refl s) e
  | .videoEngineForce .. => execVideoEngineForce_keeps (.refl s) e
  | .videoEngineReset .. => execVideoEngineReset_keeps (.refl s) e
  | .videoEngineTestDone .. => execVideoEngineTestDone_keeps (.refl s) e
  | .fence .. => execFence_keeps (.refl s) e
  | .unfence .. => execUnfence_keeps (.refl s) e
  | .unfenceTestDone .. => execUnfenceTestDone_keeps (.refl s) e
  | .clusterEnable .. => execClusterEnable_keeps (.refl s) e
  | .clusterForce .. => execClusterForce_keeps (.refl s) e
  | .quiesce .. => execQuiesce_keeps (.refl s) e
  | .release .. => execRelease_keeps (.refl s) e
  | .clusterReset .. => execClusterReset_keeps (.refl s) e
  | .clusterResetDone .. => execClusterResetDone_keeps (.refl s) e
  | .clusterPower .. => execClusterPower_keeps (.refl s) e
  | .clusterControlFault .. => execClusterControlFault_keeps (.refl s) e
  | .lockstepMismatch .. => execLockstepMismatch_keeps (.refl s) e
  | .retirePa .. => execRetirePa_keeps (.refl s) e
  | .groomerScrub .. => execGroomerScrub_keeps (.refl s) e
  | .cacheMib .. => execCacheMib_keeps (.refl s) e
  | .standbyPowerUp .. => execStandbyPowerUp_keeps (.refl s) e
  | .powerUp .. => execPowerUp_keeps (.refl s) e
  | .railFault .. => execRailFault_keeps (.refl s) e
  | .startGate .. => execStartGate_keeps (.refl s) e
  | .selftestDone .. => execSelftestDone_keeps (.refl s) e
  | .acceptReduced .. => execAcceptReduced_keeps (.refl s) e
  | .retest .. => execRetest_keeps (.refl s) e
  | .governorLoop .. => execGovernorLoop_keeps (.refl s) e
  | .powerClamp .. => execPowerClamp_keeps (.refl s) e
  | .thermalLoop .. => execThermalLoop_keeps (.refl s) e
  | .thermalTrip .. => execThermalTrip_keeps (.refl s) e
  | .sagWarning .. => execSagWarning_keeps (.refl s) e
  | .snapshotWritten .. => execSnapshotWritten_keeps (.refl s) e
  | .sagRecovered .. => execSagRecovered_keeps (.refl s) e
  | .sagReset .. => execSagReset_keeps (.refl s) e
  | .powerCtrl .. => execPowerCtrl_keeps (.refl s) e
  | .timeNs .. => execTimeNs_keeps (.refl s) e
  | .sagWarnV .. => execSagWarnV_keeps (.refl s) e
  | .sagResetV .. => execSagResetV_keeps (.refl s) e
  | .snapClear .. => execSnapClear_keeps (.refl s) e
  | .read .. => execRead_keeps (.refl s) e
  | .write .. => execWrite_keeps (.refl s) e
  | .readSeg .. => execReadSeg_keeps (.refl s) e
  | .writeSeg .. => execWriteSeg_keeps (.refl s) e
  | .discover .. => execDiscover_keeps (.refl s) e
  | .list .. => execList_keeps (.refl s) e
  | .doorbell .. => execDoorbell_keeps (.refl s) e
  | .respLen .. => execRespLen_keeps (.refl s) e
  | .plcaNoBeacon .. => execPlcaNoBeacon_keeps (.refl s) e
  | .imageVerified .. => execImageVerified_keeps (.refl s) e
  | .activate .. => execActivate_keeps (.refl s) e
  | .patrolRestartDone .. => execPatrolRestartDone_keeps (.refl s) e
  | .operatorKey .. => execOperatorKey_keeps (.refl s) e
  | .serviceKey .. => execServiceKey_keeps (.refl s) e
  | .clear .. => execClear_keeps (.refl s) e
  | .perst .. => execPerst_keeps (.refl s) e
  | .flrPf .. => execFlrPf_keeps (.refl s) e
  | .flrVf .. => execFlrVf_keeps (.refl s) e
  | .bar2Access .. => execBar2Access_keeps (.refl s) e
  | .atomicOp .. => execAtomicOp_keeps (.refl s) e
  | .hostWindowWrite .. => execHostWindowWrite_keeps (.refl s) e
  | .hostTarget .. => execHostTarget_keeps (.refl s) e
  | .intCause .. => execIntCause_keeps (.refl s) e
  | .standbyPowerLoss .. => execStandbyPowerLoss_keeps (.refl s) e
  | .thermalTripReset .. => execThermalTripReset_keeps (.refl s) e
  | .plcaBeacon .. => execPlcaBeacon_keeps (.refl s) e
  | .pcieLinkTrainingDone .. => execPcieLinkTrainingDone_keeps (.refl s) e
  | .modprs .. => execModprs_keeps (.refl s) e
  | .programUnload .. => execProgramUnload_keeps (.refl s) e
  | .configurationRequest .. => execConfigurationRequest_keeps (.refl s) e

/-- Settles O60: each command answers a next state that keeps the queue and the counter (`exec_keeps`), and so does an idle
period; the step itself takes the command at the front. -/
theorem everyStepAnswersAndTakesOne : Obligations.EveryStepAnswersAndTakesOne := by
  refine ⟨fun s => ?_, fun c s => ?_⟩
  · cases hp : s.pending with
    | nil =>
      have hk : Keeps s s.idle := State.idle_keeps (.refl s)
      exact ⟨s.idle, by rw [step, hp], by rw [hk.pending, hp, List.tail_nil], hk.free⟩
    | cons c r =>
      obtain ⟨t, ht⟩ := exec_answers c { s with pending := r }
      have hk := exec_keeps ht
      exact ⟨t, by rw [step, hp]; exact ht, hk.pending, hk.free⟩
  · obtain ⟨t, ht⟩ := exec_answers c s
    exact ⟨t, ht, (exec_keeps ht).pending⟩

/-! ### The idle step -/

/-- The count of a watchdog after one reference period (R146). -/
def State.wdNext (s : State) (n : Nat) (c : CoreSt) : CoreSt :=
  if s.moduleState = 3 ∧ s.couldGo (n / 8) (n % 8) = true then { c with wdCount := c.wdCount + s.obj (kDev 0x3020 2) / 100 } else c

theorem wdTick_eq (s : State) : s.wdTick = { s with cores := s.cores.map (fun p => (p.1, s.wdNext p.1 p.2)) } := by
  unfold State.wdTick State.wdNext
  by_cases hm : s.moduleState = 3
  · simp only [hm, ne_eq, not_true_eq_false, if_false, true_and]
    congr 2
    funext p
    split
    · rfl
    · rfl
  · simp [hm]

theorem wdNext_count_aside (s : State) (n : Nat) (c : CoreSt) : { s.wdNext n c with wdCount := 0 } = { c with wdCount := 0 } := by
  unfold State.wdNext
  split
  · rfl
  · rfl

/-- A change of the listed values, key by key, is read at every listed key. -/
theorem nget_map_of_ne {α : Type} {d : α} {m : NMap α} {k : Nat} (f : Nat → α → α) (h : nget d m k ≠ d) :
    nget d (m.map (fun p => (p.1, f p.1 p.2))) k = f k (nget d m k) := by
  induction m with
  | nil => exact absurd rfl h
  | cons p r ih =>
    obtain ⟨j, v⟩ := p
    rw [List.map_cons, nget, nget]
    rw [nget] at h
    by_cases hj : j = k
    · rw [if_pos hj, if_pos hj, hj]
    · rw [if_neg hj] at h ⊢
      rw [if_neg hj, ih h]

/-- Settles O57: the front command by definition, the idle period by `wdTick_eq`. -/
theorem stepRunsTheFrontCommand : Obligations.StepRunsTheFrontCommand := by
  refine ⟨fun c r s h => by rw [step, h], fun s h => ?_⟩
  have hstep : step s = .next ({ s.wdTick with timeNs := (s.wdTick.timeNs + 10) % 2 ^ 64 } : State).nextHappening := by
    rw [step, h]
    rfl
  rw [wdTick_eq] at hstep
  refine ⟨{ s with timeNs := (s.timeNs + 10) % 2 ^ 64, cores := s.cores.map (fun p => (p.1, s.wdNext p.1 p.2)) }, rfl, ?_, ?_, ?_, ?_⟩
  · simp [wdNext_count_aside]
  · intro cl hcl k hk htask
    have hcore : s.core cl k ≠ CoreSt.empty := fun hc => htask (by rw [hc]; rfl)
    have hsite : (cl * 8 + k) / 8 = cl ∧ (cl * 8 + k) % 8 = k := by omega
    rw [State.core, nget_map_of_ne s.wdNext hcore, State.wdNext, hsite.1, hsite.2]
    split
    · rfl
    · rfl
  · intro he
    rw [hstep, State.nextHappening]
    simp only [he]
  · intro x r he
    rw [hstep, State.nextHappening]
    simp only [he]

/-! ### Reset -/

/-- The first entry that some condition admits is the first that a narrower one admits, where it admits that entry. -/
theorem find?_narrow {α : Type} {l : List α} {p q : α → Bool} {x : α} (h : l.find? q = some x) (hpq : ∀ y, p y = true → q y = true)
    (hx : p x = true) : l.find? p = some x := by
  induction l with
  | nil => cases h
  | cons y l ih =>
    by_cases hp : p y = true
    · rw [List.find?_cons_of_pos (hpq y hp)] at h
      rw [List.find?_cons_of_pos hp, h]
    · rw [List.find?_cons_of_neg hp]
      by_cases hq : q y = true
      · rw [List.find?_cons_of_pos hq] at h
        exact absurd (Option.some.inj h ▸ hx) hp
      · exact ih ((List.find?_cons_of_neg hq).symm.trans h)

/-- The first row of a table that holds a subindex of some index from `a` to `b`. -/
def blockRow (a b sub : Nat) : Option ObjRow :=
  deviceObjects.find? (fun r => r.lo ≤ b && a ≤ r.hi && r.subLo ≤ sub && sub ≤ r.subHi)

/-- Where that row holds every index of the block, it is the row of each. -/
theorem objRow_of_block {a b sub idx : Nat} {r : ObjRow} (h : blockRow a b sub = some r) (hr : r.lo ≤ a ∧ b ≤ r.hi) (ha : a ≤ idx)
    (hb : idx ≤ b) (hdev : ¬(0x5000 ≤ idx ∧ idx ≤ 0x5BFF)) : objRow idx sub = some r := by
  have hs := List.find?_some h
  rw [objRow, if_neg hdev]
  refine find?_narrow h (fun y hy => ?_) ?_
  · simp only [Bool.and_eq_true, decide_eq_true_eq] at hy ⊢
    omega
  · simp only [Bool.and_eq_true, decide_eq_true_eq] at hs ⊢
    omega

/-- An object that nothing has written reads its row's default. -/
theorem reset_obj {idx sub : Nat} {r : ObjRow} (h : objRow idx sub = some r) (hs : sub < 256) : State.reset.obj (objKey idx sub) = r.dflt := by
  have hkey : objKey idx sub / 256 = idx ∧ objKey idx sub % 256 = sub := by
    unfold objKey
    omega
  have hd : State.reset.obj (objKey idx sub) = objDefault (objKey idx sub) := rfl
  rw [hd, objDefault, hkey.1, hkey.2, h]

/-- READ takes the value of this object from the register file: it computes none at its index. -/
def plainObj (idx sub : Nat) : Bool :=
  0x2000 ≤ idx ∧ idx ≠ 0x3040 ∧ (sub ≠ 1 ∨ idx < 0x2400 ∨ 0x243F < idx) ∧ (idx < 0x5000 ∨ 0x5BFF < idx) ∧
    (idx ≠ 0x6000 ∨ sub ≠ 3) ∧ (idx < 0x7400 ∨ 0x740F < idx) ∧ (idx ≠ 0x8000 ∨ sub ≠ 3) ∧ sub < 0xC ∧ (idx ≠ 0xA200 ∨ sub < 4)

theorem readNat_of_plain {idx sub : Nat} (h : plainObj idx sub = true) (s : State) : s.readNat idx sub = s.obj (objKey idx sub) := by
  obtain ⟨h1, h2, h3, h4, h5, h6, h7, h8, h9⟩ := of_decide_eq_true h
  unfold State.readNat
  dsimp only
  rw [if_neg (by omega), if_neg (by omega), if_neg (by omega), if_neg (by omega), if_neg h2, if_neg (by omega), if_neg (by omega),
    if_neg (by omega), if_neg (by omega), if_neg (by omega), if_neg (by omega)]

theorem reset_readObj {idx sub n : Nat} {r : ObjRow} (h : objRow idx sub = some r) (hn : r.ty.size = some n)
    (hp : plainObj idx sub = true) :
    State.reset.readObj idx sub = toLE n r.dflt := by
  rw [State.readObj]
  simp only [h, hn]
  rw [readNat_of_plain hp, reset_obj h (by have := of_decide_eq_true hp; omega)]

/-- A line of the reset table, of neighbouring indices whose objects one row holds: that row's default is its value. -/
def blockReads (a n st sub v : Nat) : Bool :=
  (st = 1 && (List.range n).all (fun i => plainObj (a + i) sub)) &&
    (blockRow a (a + (n - 1)) sub).any (fun r => r.lo ≤ a && a + (n - 1) ≤ r.hi && r.ty.size.any (fun k => leNat (toLE k r.dflt) = v))

/-- A line of the reset table, read index by index. -/
def eachReads (a n st sub v : Nat) : Bool :=
  (List.range n).all (fun i => leNat (State.reset.readObj (a + i * st) sub) = v)

theorem reads_of_block {a n st sub v : Nat} (h : blockReads a n st sub v = true) {i : Nat} (hi : i < n) :
    leNat (State.reset.readObj (a + i * st) sub) = v := by
  simp only [blockReads, Bool.and_eq_true, decide_eq_true_eq, List.all_eq_true, List.mem_range, Option.any_eq_true] at h
  obtain ⟨⟨rfl, hp⟩, r, hr, ⟨hlo, hhi⟩, k, hk, hv⟩ := h
  have hplain := hp i hi
  have hdev : ¬(0x5000 ≤ a + i ∧ a + i ≤ 0x5BFF) := by
    have := of_decide_eq_true hplain
    omega
  have hrow : objRow (a + i) sub = some r := objRow_of_block hr ⟨hlo, hhi⟩ (by omega) (by omega) hdev
  rw [Nat.mul_one, reset_readObj hrow hk hplain, hv]

theorem resetValues_read : resetValues.all (fun r => blockReads r.1 r.2.1 r.2.2.1 r.2.2.2.1 r.2.2.2.2 ||
    eachReads r.1 r.2.1 r.2.2.1 r.2.2.2.1 r.2.2.2.2) = true := by decide +kernel

/-- An object of a block that one row with default 0 holds reads 0. -/
theorem reset_block_zero {a b sub idx : Nat} (h : (blockRow a b sub).any (fun r => r.lo ≤ a && b ≤ r.hi && r.dflt = 0) = true)
    (ha : a ≤ idx) (hb : idx ≤ b) (hdev : ¬(0x5000 ≤ idx ∧ idx ≤ 0x5BFF)) (hs : sub < 256) : State.reset.obj (objKey idx sub) = 0 := by
  simp only [Option.any_eq_true, Bool.and_eq_true, decide_eq_true_eq] at h
  obtain ⟨r, hr, ⟨hlo, hhi⟩, hv⟩ := h
  rw [reset_obj (objRow_of_block hr ⟨hlo, hhi⟩ ha hb hdev) hs, hv]

/-- Settles O58: nothing is listed at reset, so that every store reads its default, and the tables' values are computed. -/
theorem resetHoldsItsValues : Obligations.ResetHoldsItsValues := by
  refine ⟨⟨rfl, rfl, rfl⟩, fun a => ⟨rfl, rfl⟩, fun cl hcl k hk => ⟨?_, rfl⟩, fun k => rfl, fun n hn => ?_, fun c hc => ?_, rfl, rfl, rfl,
    fun r hr i hi => ?_, ⟨rfl, rfl⟩⟩
  · revert cl k
    decide
  · exact reset_block_zero (a := 0x6100) (b := 0x613F) (by decide +kernel) (by omega) (by omega) (by omega) (by omega)
  · exact reset_block_zero (a := 0x9100) (b := 0x913F) (by decide +kernel) (by omega) (by omega) (by omega) (by omega)
  · rcases Bool.or_eq_true_iff.1 (List.all_eq_true.1 resetValues_read r hr) with h | h
    · exact reads_of_block h hi
    · exact of_decide_eq_true (List.all_eq_true.1 h i (List.mem_range.2 hi))

end Sys2Proof.Machine
end

section
/-! PROOFS. The core sequencer (R130 to R132): which command it meets, what each sequencer command does to its core, and how a MOVE is
issued (R251, R257, R278). -/

namespace Sys2Proof.Machine

open Sys2Proof.Claims

/-! ### The command that the sequencer meets -/

section
variable {s : State} {core : CoreId} {t : Task} {w op : Nat}

theorem liveTask_task {cl site : Nat} (h : s.liveTask cl site = some t) : (s.core cl site).task = some t := by
  unfold State.liveTask at h
  split at h
  · cases h
  · split at h
    · split at h
      · cases h
        assumption
      · cases h
    · cases h

/-- Before a command of its own opcode the sequencer runs it, or waits. -/
theorem seqCmd_at (h : AtCommand s core op t w) (hop : opcodeDefined op = true) (k : State → Task → Nat → Option State) :
    s.seqCmd core.c core.s op k = (k s t w).getD s := by
  simp [State.seqCmd, h.live, h.running, h.image, h.free, h.fetched, h.opcode, hop, h.allowed]

theorem seqCmd_no_task (h : s.liveTask core.c core.s = none) (op : Nat) (k : State → Task → Nat → Option State) :
    s.seqCmd core.c core.s op k = s := by
  simp [State.seqCmd, h]

theorem seqCmd_held (h : s.liveTask core.c core.s = some t) (hh : t.ended = true ∨ t.imageDone = false ∨ t.hold.isSome = true)
    (op : Nat) (k : State → Task → Nat → Option State) : s.seqCmd core.c core.s op k = s := by
  rcases hh with hh | hh | hh
  all_goals simp [State.seqCmd, h, hh]

/-- The sequencer of a task that no END, image or hold keeps back, by what it fetches. -/
theorem seqCmd_fetch (h : s.liveTask core.c core.s = some t) (he : t.ended = false) (hi : t.imageDone = true) (hh : t.hold = none)
    (op : Nat) (k : State → Task → Nat → Option State) : s.seqCmd core.c core.s op k =
      match s.fetchCmd t t.cmdIndex with
      | .error e => s.taskFail core.c core.s e
      | .ok w =>
        if opcodeDefined (fld w 255 248) = false ∨ t.glideOpBad (fld w 255 248) = true then s.taskFail core.c core.s cDescriptor
        else if fld w 255 248 ≠ op then s
        else (k s t w).getD s := by
  unfold State.seqCmd
  rw [h]
  simp only [he, hi, hh, Option.isSome_none, Bool.not_true, Bool.or_self, Bool.false_eq_true, if_false]
  cases s.fetchCmd t t.cmdIndex with
  | error e => rfl
  | ok w => simp

end

/-! ### Changes of one core -/

theorem coreOnly_trans {s u v : State} {core : CoreId} {c c' : CoreSt} (h : CoreOnly s u core c) (k : CoreOnly u v core c') :
    CoreOnly s v core c' where
  rest := by
    rw [k.rest, h.rest]
  bytes a := (k.bytes a).trans (h.bytes a)
  others n hn := (k.others n hn).trans (h.others n hn)
  core := k.core

theorem modCore_coreOnly (s : State) (core : CoreId) (f : CoreSt → CoreSt) :
    CoreOnly s (s.modCore core.c core.s f) core (f (s.core core.c core.s)) := setCore_coreOnly s core _

theorem modTask_coreOnly {s : State} {core : CoreId} {t : Task} (f : Task → Task) (h : (s.core core.c core.s).task = some t) :
    CoreOnly s (s.modTask core.c core.s f) core { s.core core.c core.s with task := some (f t) } := by
  have hm := modCore_coreOnly s core (fun c => { c with task := c.task.map f })
  rwa [h] at hm

/-- A command of the sequencer that changes a core and starts. -/
theorem startCmd_coreOnly {s u : State} {core : CoreId} {c : CoreSt} {t : Task} (h : CoreOnly s u core c) (ht : c.task = some t)
    (w : Nat) (f : Task → Task) : CoreOnly s (u.startCmd core.c core.s w f) core { c with task := some (f (t.started w)) } := by
  have hc : u.core core.c core.s = c := h.core
  have hm := modTask_coreOnly (s := u) (core := core) (fun t => f (t.started w)) (hc ▸ ht)
  rw [hc] at hm
  exact coreOnly_trans h hm

theorem startCmd_coreOnly_self {s : State} {core : CoreId} {t : Task} (ht : (s.core core.c core.s).task = some t)
    (w : Nat) (f : Task → Task) : CoreOnly s (s.startCmd core.c core.s w f) core
      { s.core core.c core.s with task := some (f (t.started w)) } := modTask_coreOnly _ ht

/-! ### Deferred groups -/

theorem Group.whole_iff (g : Group) : g.whole = true ↔ g.ntot ≤ g.nextCol ∧ g.broken = false := by simp [Group.whole]

/-- No deferred group stands open. -/
theorem no_open_group {c : CoreSt} (h : ∀ g, c.group = some g → g.ntot ≤ g.nextCol ∧ g.broken = false) :
    c.group.any (fun g => !g.whole) = false := by
  cases hg : c.group with
  | none => rfl
  | some g => simp [(g.whole_iff).2 (h g hg)]

theorem open_group {c : CoreSt} {g : Group} (hg : c.group = some g) (h : g.nextCol < g.ntot) :
    c.group.any (fun g => !g.whole) = true := by
  rw [hg]
  simp [Group.whole, h]

/-! ### The commands of the sequencer -/

section
variable {s : State} {core : CoreId} {t : Task} {w : Nat}

theorem endList_ends (h : AtCommand s core 1 t w) (hw : fld w 247 0 = 0) (hc : s.containment = false)
    (hg : ∀ g, (s.core core.c core.s).group = some g → g.ntot ≤ g.nextCol ∧ g.broken = false) :
    CoreOnly s (s.endList core.c core.s) core { s.core core.c core.s with task := some { t.started w with ended := true } } := by
  have ht := liveTask_task h.live
  have hstart := startCmd_coreOnly_self ht w (fun t => { t with ended := true })
  have hcont : (s.startCmd core.c core.s w (fun t => { t with ended := true })).containment = false := hc
  have hgroup : ((s.startCmd core.c core.s w (fun t => { t with ended := true })).core core.c core.s).group =
      (s.core core.c core.s).group := (congrArg CoreSt.group hstart.core :)
  rw [State.endList, seqCmd_at h rfl]
  simpa [hw, hcont, hgroup, no_open_group hg] using hstart

theorem ringCmd_writes (h : AtCommand s core 2 t w) (h1 : fld w 243 128 = 0) (h2 : fld w 63 0 = 0)
    (hbusy : (s.core core.c core.s).ringBusy t (fld w 247 244) = false)
    (hbad : (s.core core.c core.s).ringBad (fld w 247 244) { Ring.empty with entry := fld w 127 64 } = false) :
    CoreOnly s (s.ringCmd core.c core.s) core { s.core core.c core.s with
      rings := nset Ring.empty (s.core core.c core.s).rings (fld w 247 244) { Ring.empty with entry := fld w 127 64 },
      prior := if (s.core core.c core.s).tiles.isEmpty then [] else (s.core core.c core.s).prior ++
        [(t.cmdIndex, fld w 247 244, (s.core core.c core.s).ring (fld w 247 244))],
      task := some (t.started w) } := by
  have ht := liveTask_task h.live
  rw [State.ringCmd, seqCmd_at h rfl]
  simp only [h1, h2, hbusy, hbad, ne_eq, not_true_eq_false, decide_false, Bool.or_self, Bool.false_eq_true, if_false, Option.getD_some]
  exact startCmd_coreOnly (modCore_coreOnly s core _) ht w id

theorem waitCmd_holds (h : AtCommand s core 3 t w) (h1 : fld w 231 224 = 0) (h2 : fld w 191 0 = 0) (h3 : fld w 247 232 ≤ 12287) :
    CoreOnly s (s.waitCmd core.c core.s) core
      { s.core core.c core.s with task := some { t with hold := some 3, yieldReported := false } } := by
  have hm := modTask_coreOnly (fun t => { t with hold := some 3, yieldReported := false }) (liveTask_task h.live)
  rw [State.waitCmd, seqCmd_at h rfl]
  simpa [h1, h2, Nat.not_lt.2 h3] using hm

theorem waitReleaseCmd_at (hl : s.liveTask core.c core.s = some t) (hh : t.hold = some 3) (hy : t.yieldReported = true)
    (hw : s.fetchCmd t t.cmdIndex = .ok w) (hs : s.clServes (tagCl (fld w 247 232)) = true) :
    s.waitReleaseCmd core.c core.s = if serialGe (s.tag t.ctx (fld w 247 232)) (fld w 223 192) then
      s.startCmd core.c core.s w (fun t => { t with hold := none, yieldReported := false }) else s := by
  simp [State.waitReleaseCmd, hl, hh, hy, hw, hs]

theorem signalCmd_keeps_signal (h : AtCommand s core 4 t w) (h1 : fld w 231 224 = 0) (h2 : fld w 191 0 = 0)
    (h3 : fld w 247 232 ≤ 12287) : CoreOnly s (s.signalCmd core.c core.s) core { s.core core.c core.s with
      task := some { t.started w with signals := t.signals ++ [(fld w 247 232, fld w 223 192)] } } := by
  have hm := startCmd_coreOnly_self (liveTask_task h.live) w
    (fun t => { t with signals := t.signals ++ [(fld w 247 232, fld w 223 192)] })
  rw [State.signalCmd, seqCmd_at h rfl]
  simp only [h1, h2, Nat.not_lt.2 h3, ne_eq, not_true_eq_false, decide_false, Bool.or_self, Bool.false_eq_true, if_false,
    Option.getD_some]
  exact hm

theorem yieldC_holds (h : AtCommand s core 6 t w) (hw : fld w 223 0 = 0)
    (hg : ∀ g, (s.core core.c core.s).group = some g → g.ntot ≤ g.nextCol ∧ g.broken = false) :
    CoreOnly s (s.yieldC core.c core.s) core { s.core core.c core.s with
      task := some { t.started w with hold := some 6, yieldReported := false, liveKib := fld w 247 224 } } := by
  have hm := startCmd_coreOnly_self (liveTask_task h.live) w
    (fun t => { t with hold := some 6, yieldReported := false, liveKib := fld w 247 224 })
  rw [State.yieldC, seqCmd_at h rfl]
  simpa [hw, no_open_group hg] using hm

theorem yieldC_breaks_group (h : AtCommand s core 6 t w) {g : Group} (hg : (s.core core.c core.s).group = some g)
    (hc : g.nextCol < g.ntot) : s.yieldC core.c core.s = s.taskFail core.c core.s cDescriptor := by
  rw [State.yieldC, seqCmd_at h rfl]
  simp [open_group hg hc]

end

/-- Every sequencer command runs through `seqCmd` of its opcode. -/
theorem seqCmds_seqCmd {p : (CoreId → Instr) × Nat} (hp : p ∈ seqCmds) (s : State) (core : CoreId) :
    ∃ k, exec (p.1 core) s = .next (s.seqCmd core.c core.s p.2 k) := by
  simp only [seqCmds, List.mem_cons, List.not_mem_nil, or_false] at hp
  rcases hp with rfl | rfl | rfl | rfl | rfl | rfl | rfl | rfl <;> exact ⟨_, rfl⟩

/-- Settles O12: each command by its lemma above, and what every one of them meets by `seqCmd_fetch`. -/
theorem sequencerRunsItsList : Obligations.SequencerRunsItsList := by
  refine ⟨fun s core t w h hw hc hg => ⟨_, rfl, endList_ends h hw hc hg⟩,
    fun s core t w h h1 h2 => fun hbusy hbad => ⟨_, rfl, ringCmd_writes h h1 h2 hbusy hbad⟩,
    fun s core t w h h1 h2 h3 => ⟨_, rfl, waitCmd_holds h h1 h2 h3⟩,
    fun s core t w hl hh hy hw hs => ⟨fun hge => congrArg Host.Outcome.next ?_, fun hge => ⟨_, rfl, ?_⟩⟩,
    fun s core t w h h1 h2 h3 => ⟨_, rfl, signalCmd_keeps_signal h h1 h2 h3⟩,
    fun s core t w h hw => ⟨fun hg => ⟨_, rfl, yieldC_holds h hw hg⟩,
      fun g hg hc => congrArg Host.Outcome.next (yieldC_breaks_group h hg hc)⟩,
    fun p hp s core => ?_⟩
  · rw [waitReleaseCmd_at hl hh hy hw hs, hge]
    rfl
  · rw [waitReleaseCmd_at hl hh hy hw hs, if_pos hge]
    exact startCmd_coreOnly_self (liveTask_task hl) w _
  · obtain ⟨k, hk⟩ := seqCmds_seqCmd hp s core
    rw [hk]
    refine ⟨fun hl => congrArg _ (seqCmd_no_task hl p.2 k), fun t hl => ⟨fun hh => congrArg _ (seqCmd_held hl hh p.2 k),
      fun he hi hh => ⟨fun e hw => congrArg _ ?_, fun w hw => ⟨fun hbad => congrArg _ ?_, fun hdef hglide hop => congrArg _ ?_⟩⟩⟩⟩
    · rw [seqCmd_fetch hl he hi hh, hw]
    · rw [seqCmd_fetch hl he hi hh, hw]
      exact if_pos hbad
    · rw [seqCmd_fetch hl he hi hh, hw]
      simp [hdef, hglide, hop]

/-! ### MOVE (R251, R257, R278) -/

/-- References that are taken one after the other change the Chairlift's state alone. -/
theorem refTables_chair_only (s : State) (a b c : Option (Nat × Nat)) :
    ((s.refTable a).refTable b).refTable c = { s with chair := (((s.refTable a).refTable b).refTable c).chair } := by
  obtain ⟨c1, h1⟩ := refTable_chair_only s a
  obtain ⟨c2, h2⟩ := refTable_chair_only { s with chair := c1 } b
  obtain ⟨c3, h3⟩ := refTable_chair_only { s with chair := c2 } c
  rw [h1, h2, h3]

/-- An issued descriptor is the one that was read, with the epoch of its context's bank; only table references are taken. -/
theorem issueMv_ok {s v : State} {t : Task} {d : Nat} {mv : Mv} (h : s.issueMv t d = .ok (v, mv)) :
    mv.desc = d ∧ mv.xlat = (s.xlatTag t.ctx).toOption ∧ v = { s with chair := v.chair } := by
  unfold State.issueMv at h
  dsimp only at h
  split at h
  · cases h
    refine ⟨rfl, ?_, refTables_chair_only ..⟩
    cases s.xlatTag t.ctx with
    | ok x => rfl
    | error e => rfl
  · cases h
  · cases h
  · cases h

/-- A MOVE whose descriptor can be read ends its task with the code that stops it, or queues it. -/
theorem moveCmd_eq {s : State} {core : CoreId} {t : Task} {w d : Nat} {phys : Bool} {turned : Option (Nat × Nat)}
    (h : AtCommand s core 5 t w) (hw : fld w 247 64 = 0) (hd : s.mvDesc core.c core.s t w = .ok (d, phys, turned)) :
    s.moveCmd core.c core.s = match s.checkedMv core.c core.s t d with
      | .error e => s.taskFail core.c core.s e
      | .ok (v, mv) => v.queueMv core.c core.s w { mv with phys := phys, turned := turned } := by
  rw [State.moveCmd, seqCmd_at h rfl]
  simp [hw, hd] <;> rfl

/-- An issued descriptor is kept for the commit, or joins those that run and takes its ring's next slabs (R136, R278). -/
theorem queueMv_coreOnly {v : State} {core : CoreId} {t : Task} (ht : (v.core core.c core.s).task = some t) (w : Nat) (m : Mv) :
    (mvAtCommit m.desc = true → CoreOnly v (v.queueMv core.c core.s w m) core { v.core core.c core.s with
      task := some { t.started w with commitMoves := t.commitMoves ++ [m] } }) ∧
    (mvAtCommit m.desc = false → CoreOnly v (v.queueMv core.c core.s w m) core
      { (v.core core.c core.s).modRing (rsRing (mDstAddr m.desc)) (fun r =>
          { r with nextFill := (rsSlab (mDstAddr m.desc) + mvSlabs (v.core core.c core.s) m.desc) % 2 ^ 32 }) with
        task := some { t.started w with moves := t.moves ++ [m] } }) := by
  refine ⟨fun hc => ?_, fun hc => ?_⟩
  · simp only [State.queueMv, hc, if_true]
    exact startCmd_coreOnly_self ht w _
  · simp only [State.queueMv, hc, Bool.false_eq_true, if_false]
    exact startCmd_coreOnly (modCore_coreOnly v core _) ht w _

/-- Settles O13: `moveCmd_eq` with the checks' code, or with what `issueMv_ok` and `queueMv_coreOnly` say of an issued descriptor. -/
theorem moveIsIssuedOrKept : Obligations.MoveIsIssuedOrKept := by
  intro s core t w d phys turned h hw hd
  have hmove := moveCmd_eq h hw hd
  refine ⟨fun e he => ?_, fun v mv hown hissue hbad => ?_⟩
  · rw [he] at hmove
    exact congrArg Host.Outcome.next hmove
  · obtain ⟨rfl, hxlat, hv⟩ := issueMv_ok hissue
    have hqueue : s.moveCmd core.c core.s = v.queueMv core.c core.s w { mv with phys := phys, turned := turned } := by
      have hcheck : s.checkedMv core.c core.s t mv.desc = .ok (v, mv) := by simp [State.checkedMv, hissue, hown, hbad]
      rw [hmove, hcheck]
    have hexec : exec (.move core) s = .next (v.queueMv core.c core.s w { mv with phys := phys, turned := turned }) :=
      congrArg Host.Outcome.next hqueue
    have hcore : v.core core.c core.s = s.core core.c core.s := by
      rw [hv]
      rfl
    have hq := queueMv_coreOnly (hcore ▸ liveTask_task h.live) w { mv with phys := phys, turned := turned }
    rw [hcore] at hq
    exact ⟨rfl, hxlat, hv, fun hc => ⟨_, hexec, hq.1 hc⟩, fun hc => ⟨_, hexec, hq.2 hc⟩⟩

end Sys2Proof.Machine
end

section
/-! PROOFS. The matrix arrays: stalls, issues and bank fills (R118 to R123, R148, R158), drains and deliveries (R126, R127, R138,
R139, R150). -/

namespace Sys2Proof.Machine

open Sys2Proof.Claims

/-! ### Writes of cores and objects -/

/-- Nothing but cores and objects differs. -/
def CoresObjsOnly (s u : State) : Prop := ∃ cs ob, u = { s with cores := cs, objs := ob }

section
variable {s u : State}

theorem CoresObjsOnly.refl (s : State) : CoresObjsOnly s s := ⟨_, _, rfl⟩

theorem CoresObjsOnly.modCore (h : CoresObjsOnly s u) (cl site : Nat) (f : CoreSt → CoreSt) : CoresObjsOnly s (u.modCore cl site f) := by
  obtain ⟨cs, ob, rfl⟩ := h
  exact ⟨_, _, rfl⟩

theorem CoresObjsOnly.setCore (h : CoresObjsOnly s u) (cl site : Nat) (c : CoreSt) : CoresObjsOnly s (u.setCore cl site c) := by
  obtain ⟨cs, ob, rfl⟩ := h
  exact ⟨_, _, rfl⟩

theorem CoresObjsOnly.modTask (h : CoresObjsOnly s u) (cl site : Nat) (f : Task → Task) : CoresObjsOnly s (u.modTask cl site f) :=
  h.modCore cl site _

theorem CoresObjsOnly.taskEv (h : CoresObjsOnly s u) (cl site : Nat) (ev : Ev) : CoresObjsOnly s (u.taskEv cl site ev) :=
  h.modTask cl site _

theorem CoresObjsOnly.setObj (h : CoresObjsOnly s u) (k v : Nat) : CoresObjsOnly s (u.setObj k v) := by
  obtain ⟨cs, ob, rfl⟩ := h
  exact ⟨_, _, rfl⟩

theorem CoresObjsOnly.cnt48 (h : CoresObjsOnly s u) (k n : Nat) : CoresObjsOnly s (u.cnt48 k n) := h.setObj k _

theorem CoresObjsOnly.rest (h : CoresObjsOnly s u) : u = { s with cores := u.cores, objs := u.objs } := by
  obtain ⟨cs, ob, rfl⟩ := h
  rfl

theorem CoresObjsOnly.bytes (h : CoresObjsOnly s u) (a : Nat) : u.byte a = s.byte a := by
  obtain ⟨cs, ob, rfl⟩ := h
  rfl

end

/-! ### Keys of a core's counters -/

theorem kCore_inj_sub {cl site off i j : Nat} : kCore cl site off i = kCore cl site off j ↔ i = j := by
  unfold kCore objKey
  omega

/-! ### Tiles and sub-tiles -/

theorem setSub_subs_only (t : Tile) (u : SubTile) : ∃ l, t.setSub u = { t with subs := l } := by
  unfold Tile.setSub
  split
  · exact ⟨_, rfl⟩
  · exact ⟨_, rfl⟩

/-- The command that has replaced one of its number is found there. -/
theorem find?_setTile {c : CoreSt} {x y : Tile} (hy : y ∈ c.tiles) (hn : y.num = x.num) :
    (c.setTile x).tiles.find? (fun u => u.num = x.num) = some x := by
  unfold CoreSt.setTile
  dsimp only
  generalize c.tiles = l at hy ⊢
  induction l with
  | nil => cases hy
  | cons z l ih =>
    rw [List.map_cons]
    by_cases hz : z.num = x.num
    · simp [hz]
    · have hne : z ≠ y := fun h => hz (h ▸ hn)
      rw [List.find?_cons_of_neg (by simp [hz])]
      exact ih ((List.mem_cons.1 hy).resolve_left (Ne.symm hne))

/-- The slabs that a place is the last to read are released; nothing else of the core but the command changes (R128). -/
theorem passPlace_eq (c : CoreSt) (t : Tile) (p : MmaPos) :
    ∃ rs, c.passPlace t p = ({ c with rings := rs } : CoreSt).setTile { t with issued := t.issued + 1 } := by
  dsimp only [CoreSt.passPlace]
  split
  · split
    · exact ⟨_, rfl⟩
    · exact ⟨_, rfl⟩
  · split
    · exact ⟨_, rfl⟩
    · exact ⟨_, rfl⟩

theorem passPlace_sram (c : CoreSt) (t : Tile) (p : MmaPos) : (c.passPlace t p).sram = c.sram := by
  obtain ⟨rs, h⟩ := passPlace_eq c t p
  rw [h]
  rfl

theorem passPlace_task (c : CoreSt) (t : Tile) (p : MmaPos) : (c.passPlace t p).task = c.task := by
  obtain ⟨rs, h⟩ := passPlace_eq c t p
  rw [h]
  rfl

/-- The command whose place is passed stands in its core with the next place. -/
theorem passPlace_tile {c : CoreSt} {t x : Tile} (hx : x ∈ c.tiles) (hn : x.num = t.num) (p : MmaPos) :
    (c.passPlace t p).tiles.find? (fun u => u.num = t.num) = some { t with issued := t.issued + 1 } := by
  obtain ⟨rs, h⟩ := passPlace_eq c t p
  rw [h]
  exact find?_setTile (c := { c with rings := rs }) (x := { t with issued := t.issued + 1 }) hx hn

/-! ### MMA_ISSUE -/

/-- The slice of a command's next MMA folded into its sub-tile, with the folds' events (R119, R120). -/
def foldNext (tm1 : Bool) (c : CoreSt) (ti : Tile) : SubTile × Ev :=
  let p := mmaAt ti.schuss ti.cmd ti.issued
  ((ti.sub p.mi p.ni).getD (SubTile.fresh p.mi p.ni (cLeafA ti.cmd))).fold tm1 ti p (bankFmt (cFw ti.cmd))
    (c.rdSlab ti.actRing (ti.actSlab p) 0 (slabBytes (cFa ti.cmd) (fmtIK (cFa ti.cmd)) (cRows ti.schuss ti.cmd)))
    (match (if bankHolds c.bank0 ti p then c.bank0 else c.bank1) with
      | some b => b.data
      | none => [])

/-- The command with its next slice folded. -/
def foldedTile (tm1 : Bool) (c : CoreSt) (ti : Tile) : Tile := { ti.setSub (foldNext tm1 c ti).1 with reserved := true }

/-- The core once the next MMA has issued. -/
def issuedCore (tm1 : Bool) (c : CoreSt) (ti : Tile) : CoreSt :=
  let t := foldedTile tm1 c ti
  { c.passPlace t (mmaAt ti.schuss ti.cmd ti.issued) with
    bank0 := freeBank (c.passPlace t (mmaAt ti.schuss ti.cmd ti.issued)).bank0 { t with issued := t.issued + 1 }
    bank1 := freeBank (c.passPlace t (mmaAt ti.schuss ti.cmd ti.issued)).bank1 { t with issued := t.issued + 1 }
    wdCount := 0 }

theorem foldedTile_eq (tm1 : Bool) (c : CoreSt) (ti : Tile) :
    foldedTile tm1 c ti = { ti with subs := (ti.setSub (foldNext tm1 c ti).1).subs, reserved := true } := by
  obtain ⟨l, h⟩ := setSub_subs_only ti (foldNext tm1 c ti).1
  unfold foldedTile
  rw [h]

/-- The first condition of R119 that fails, as a stall counter. -/
def firstStall (c : CoreSt) (ti : Tile) : Option Nat :=
  if bankReady c ti = false then some 2 else if actReady c ti = false then some 3
  else if accReady c ti = false then some 4 else none

section
variable {s : State} {core : CoreId} {t : Task} {ti : Tile}

/-- A command that can issue counts the first condition that fails, or issues (R119, R158). -/
theorem mmaIssue_eq (h : CanIssue s core t ti) : ∃ ev, s.mmaIssue core.c core.s =
    match firstStall (s.core core.c core.s) ti with
    | some i => s.cnt48 (kCore core.c core.s 1 i) 1
    | none => ((s.setCore core.c core.s (issuedCore s.tm1 (s.core core.c core.s) ti)).taskEv core.c core.s ev).cnt48
        (kCore core.c core.s 1 1) 1 := by
  have hbank : (!bankHolds (s.core core.c core.s).bank0 ti (mmaAt ti.schuss ti.cmd ti.issued) &&
      !bankHolds (s.core core.c core.s).bank1 ti (mmaAt ti.schuss ti.cmd ti.issued)) = !bankReady (s.core core.c core.s) ti := by
    simp [bankReady]
  have hact : ((s.core core.c core.s).ring ti.actRing).resident (ti.actSlab (mmaAt ti.schuss ti.cmd ti.issued)) =
      actReady (s.core core.c core.s) ti := rfl
  have hacc : (!(s.core core.c core.s).canReserve ti || !ti.canOpen (mmaAt ti.schuss ti.cmd ti.issued)) =
      !accReady (s.core core.c core.s) ti := by
    simp [accReady]
  unfold State.mmaIssue firstStall
  simp only [h.live, h.issuing, h.noYield, h.present, hbank, hact, hacc, Bool.not_true, Bool.false_eq_true, if_false]
  cases bankReady (s.core core.c core.s) ti with
  | false => exact ⟨.none, rfl⟩
  | true =>
    cases actReady (s.core core.c core.s) ti with
    | false => exact ⟨.none, rfl⟩
    | true =>
      cases accReady (s.core core.c core.s) ti with
      | false => exact ⟨.none, rfl⟩
      | true => exact ⟨_, rfl⟩

/-- What the first failed condition counts, and what an issue counts, beside the first counter. -/
theorem mmaIssue_stall (h : CanIssue s core t ti) {i : Nat} (hi : firstStall (s.core core.c core.s) ti = some i) :
    s.mmaIssue core.c core.s = s.cnt48 (kCore core.c core.s 1 i) 1 := by
  obtain ⟨ev, he⟩ := mmaIssue_eq h
  rw [he, hi]

theorem mmaIssue_issues (h : CanIssue s core t ti) (hi : firstStall (s.core core.c core.s) ti = none) :
    ∃ ev, s.mmaIssue core.c core.s = ((s.setCore core.c core.s (issuedCore s.tm1 (s.core core.c core.s) ti)).taskEv core.c core.s
      ev).cnt48 (kCore core.c core.s 1 1) 1 := by
  obtain ⟨ev, he⟩ := mmaIssue_eq h
  exact ⟨ev, by rw [he, hi]⟩

end

/-- Settles O15: `mmaIssue_stall` where a condition fails; an issue counts in the first counter alone. -/
theorem stallCyclesCountTheFirstCause : Obligations.StallCyclesCountTheFirstCause := by
  intro s core t ti h c k first
  have hfirst : firstStall c ti = first := rfl
  clear_value first
  subst hfirst
  refine ⟨s.mmaIssue core.c core.s, rfl, fun i hi => ?_, fun i hi => ?_⟩
  · cases hf : firstStall c ti with
    | some j =>
      rw [mmaIssue_stall h hf, State.cnt48, State.obj_setObj]
      simp only [k, kCore_inj_sub, Option.some.injEq, eq_comm (a := i)]
      split
      · next hij => rw [hij]
      · rfl
    | none =>
      obtain ⟨ev, he⟩ := mmaIssue_issues h hf
      have hne : k i ≠ kCore core.c core.s 1 1 := by
        simp only [k, ne_eq, kCore_inj_sub]
        rintro rfl
        exact absurd hi (by decide)
      rw [he, State.cnt48, State.obj_setObj_ne _ hne]
      rfl
  · rw [mmaIssue_stall h hi]
    exact setObj_objWrite s _ _

/-! ### Issues and bank fills -/

theorem mem_of_issuing {c : CoreSt} {ti : Tile} (h : c.issuing = some ti) : ti ∈ c.tiles := List.mem_of_find?_eq_some h

theorem issuedCore_tile {c : CoreSt} {ti : Tile} (tm1 : Bool) (h : ti ∈ c.tiles) :
    (issuedCore tm1 c ti).tiles.find? (fun x => x.num = ti.num) =
      some { ti with subs := (ti.setSub (foldNext tm1 c ti).1).subs, reserved := true, issued := ti.issued + 1 } := by
  have hp := passPlace_tile (t := foldedTile tm1 c ti) h (by rw [foldedTile_eq]) (mmaAt ti.schuss ti.cmd ti.issued)
  simp only [foldedTile_eq] at hp
  rw [issuedCore]
  simp only [foldedTile_eq]
  exact hp

theorem taskEv_core (s : State) (cl site : Nat) (ev : Ev) : (s.taskEv cl site ev).core cl site =
    { s.core cl site with task := (s.core cl site).task.map (fun t => { t with ev := t.ev.count ev }) } :=
  State.core_modTask_same ..

/-- The core with bank `b` filled by `x`. -/
def CoreSt.setBank (c : CoreSt) (b : Nat) (x : Bank) : CoreSt :=
  if b = 0 then { c with bank0 := some x } else { c with bank1 := some x }

theorem bankFill_eq {s : State} {core : CoreId} {b : Nat} {t : Task} {ti : Tile} {p : MmaPos} (hl : s.liveTask core.c core.s = some t)
    (hi : (s.core core.c core.s).issuing = some ti)
    (hb : (if b = 0 then (s.core core.c core.s).bank0 else (s.core core.c core.s).bank1) = none)
    (hp : ti.nextNeeds.find? (fun p => !bankHolds (s.core core.c core.s).bank0 ti p && !bankHolds (s.core core.c core.s).bank1 ti p) =
      some p)
    (hr : ((s.core core.c core.s).ring (cWRing ti.cmd)).resident (ti.wSlab p) = true) :
    ∃ ev, s.bankFill core.c core.s b = (s.setCore core.c core.s { (s.core core.c core.s).setBank b ⟨ti.num, ti.wSlab p, p.pass,
      bankBytes (cFw ti.cmd) p.pass ((s.core core.c core.s).rdSlab (cWRing ti.cmd) (ti.wSlab p) 0
        (slabBytes (cFw ti.cmd) (fmtIK (cFw ti.cmd)) 512))⟩ with wdCount := 0 }).taskEv core.c core.s ev := by
  unfold State.bankFill
  simp only [hl, hi, hb, hp, hr, Option.isSome_none, Bool.false_eq_true, if_false, Bool.not_true]
  exact ⟨_, rfl⟩

theorem bankFill_held {s : State} {core : CoreId} {b : Nat} {t : Task} {ti : Tile} (hl : s.liveTask core.c core.s = some t)
    (hi : (s.core core.c core.s).issuing = some ti)
    (hb : (if b = 0 then (s.core core.c core.s).bank0 else (s.core core.c core.s).bank1) ≠ none) :
    s.bankFill core.c core.s b = s := by
  simp only [State.bankFill, hl, hi, Option.isSome_iff_ne_none.2 hb, if_true]

/-- Settles O16: an issue by `mmaIssue_issues` and `issuedCore_tile`, a bank fill by `bankFill_eq`. -/
theorem mmaIssueFoldsOneSlice : Obligations.MmaIssueFoldsOneSlice := by
  refine ⟨fun s core t ti h => fun hb ha hr => ?_, fun s core b t ti p hl hi => ⟨fun hb => ?_, fun hb hp hr => ?_⟩⟩
  · have hnone : firstStall (s.core core.c core.s) ti = none := by simp [firstStall, hb, ha, hr]
    obtain ⟨ev, he⟩ := mmaIssue_issues h hnone
    have hrest := (((CoresObjsOnly.refl s).setCore core.c core.s (issuedCore s.tm1 (s.core core.c core.s) ti)).taskEv core.c core.s
      ev).cnt48 (kCore core.c core.s 1 1) 1
    refine ⟨_, congrArg Host.Outcome.next he, hrest.bytes, hrest.rest, State.obj_setObj_same .., fun n hn =>
      State.obj_setObj_ne _ hn _, ?_⟩
    rw [after, State.core_cnt48, taskEv_core, State.core_setCore_same]
    exact ⟨passPlace_sram .., _, issuedCore_tile s.tm1 (mem_of_issuing h.issuing), rfl, rfl, rfl⟩
  · exact congrArg Host.Outcome.next (bankFill_held hl hi hb)
  · obtain ⟨ev, he⟩ := bankFill_eq hl hi hb hp hr
    refine ⟨_, congrArg Host.Outcome.next he, fun a => rfl, rfl, ?_⟩
    rw [after, taskEv_core, State.core_setCore_same]
    unfold CoreSt.setBank
    split
    · exact ⟨rfl, rfl, rfl, rfl⟩
    · exact ⟨rfl, rfl, rfl, rfl⟩

/-! ### Drains -/

/-- A run of steps that write operand SRAM alone writes operand SRAM alone. -/
theorem foldl_sram_only {β γ : Type} (p : γ → CoreSt) {f : γ → β → γ} (hf : ∀ a x, ∃ m, p (f a x) = { p a with sram := m }) (a : γ)
    (l : List β) : ∃ m, p (l.foldl f a) = { p a with sram := m } := by
  induction l generalizing a with
  | nil => exact ⟨_, rfl⟩
  | cons x l ih =>
    obtain ⟨m, h⟩ := hf a x
    obtain ⟨n, k⟩ := ih (f a x)
    exact ⟨n, by rw [List.foldl_cons, k, h]⟩

theorem setTile_of_sram_only {c c' : CoreSt} (h : ∃ m, c' = { c with sram := m }) (x : Tile) :
    ∃ m ts, c'.setTile x = { c with sram := m, tiles := ts } := by
  obtain ⟨m, rfl⟩ := h
  exact ⟨_, _, rfl⟩

theorem formY_sram_tiles_only (c : CoreSt) (ti : Tile) (mi ni : Nat) :
    ∃ m ts, (c.formY ti mi ni).1 = { c with sram := m, tiles := ts } := by
  unfold CoreSt.formY
  split
  · refine setTile_of_sram_only ?_ _
    exact foldl_sram_only id (fun a x => ⟨_, rfl⟩) c _
  · exact ⟨_, _, rfl⟩

theorem drainRoot_sram_only (c : CoreSt) (t : Task) (ti : Tile) (u : SubTile) :
    ∃ m, (c.drainRoot t ti u).1 = { c with sram := m } := by
  dsimp only [CoreSt.drainRoot]
  refine foldl_sram_only Prod.fst (fun a x => ?_) (c, Ev.none) _
  exact ⟨_, rfl⟩

theorem drained_tiles_only (c : CoreSt) (ti : Tile) (mi ni : Nat) : ∃ ts, c.drained ti mi ni = { c with tiles := ts } := by
  dsimp only [CoreSt.drained]
  split
  · exact ⟨_, rfl⟩
  · exact ⟨_, rfl⟩

/-- A command without an epilogue whose next sub-tile in drain order is finished, with room for its slab: the core with y formed, and
the command there (R150, R365). -/
structure CanDrain (s : State) (core : CoreId) (mi ni : Nat) (t : Task) (ti tj : Tile) (y : CoreSt) : Prop where
  live : s.liveTask core.c core.s = some t
  ready : (s.core core.c core.s).readyTile mi ni = some ti
  noEpilogue : cEpi ti.cmd = 0xFF
  room : ((s.core core.c core.s).ring (cORing ti.cmd)).room (ti.oSlab mi ni) = true
  yReady : (s.core core.c core.s).yReady ti mi ni = true
  formed : ((s.core core.c core.s).formY ti mi ni).1 = y
  tile : (y.tiles.find? (fun x => x.num = ti.num)).getD ti = tj

section
variable {s : State} {core : CoreId} {mi ni : Nat} {t : Task} {ti tj : Tile} {y : CoreSt}

/-- A drain is a write of the core and of its task, and a count. -/
theorem CanDrain.drain_sub (h : CanDrain s core mi ni t ti tj y) {v : SubTile} (hv : tj.sub mi ni = some v) :
    ∃ ev k n, s.drain core.c core.s mi ni =
      (if cNode ti.cmd then
        ((s.setCore core.c core.s { ((y.drainNode tj v).offer (cORing ti.cmd) (tj.oSlab mi ni) false).drained tj mi ni with
          wdCount := 0 }).taskEv core.c core.s ev).modTask core.c core.s (fun t => { t with staged := t.staged ++ nodeStaged tj v })
      else (s.setCore core.c core.s { ((y.drainRoot t tj v).1.offer (cORing ti.cmd) (tj.oSlab mi ni) false).drained tj mi ni with
          wdCount := 0 }).taskEv core.c core.s ev).cnt48 k n := by
  obtain ⟨hl, hr, he, hroom, hy, hform, htj⟩ := h
  unfold State.drain
  simp only [hl, hr, he, hroom, hy, hform, htj, hv, ne_eq, not_true_eq_false, decide_false, Bool.not_true, Bool.or_self,
    Bool.false_eq_true, if_false]
  generalize (s.core core.c core.s).formY ti mi ni = z
  cases cNode ti.cmd with
  | true => exact ⟨_, _, _, rfl⟩
  | false => exact ⟨_, _, _, rfl⟩

/-- The drain of a sub-tile beyond the extents only gives its slab. -/
theorem CanDrain.drain_none (h : CanDrain s core mi ni t ti tj y) (hv : tj.sub mi ni = none) :
    ∃ ev, s.drain core.c core.s mi ni =
      (s.setCore core.c core.s ((y.offer (cORing ti.cmd) (tj.oSlab mi ni) false).drained tj mi ni)).taskEv core.c core.s ev := by
  obtain ⟨hl, hr, he, hroom, hy, hform, htj⟩ := h
  unfold State.drain
  simp only [hl, hr, he, hroom, hy, hform, htj, hv, ne_eq, not_true_eq_false, decide_false, Bool.not_true, Bool.or_self,
    Bool.false_eq_true, if_false]
  exact ⟨_, rfl⟩

/-- What a drain leaves of the core that it has written the slab in. -/
theorem CanDrain.offered (h : CanDrain s core mi ni t ti tj y) {z : CoreSt} (hz : ∃ m, z = { y with sram := m }) :
    ((z.offer (cORing ti.cmd) (tj.oSlab mi ni) false).drained tj mi ni).sram = z.sram ∧
    ((z.offer (cORing ti.cmd) (tj.oSlab mi ni) false).drained tj mi ni).deliveries =
      (s.core core.c core.s).deliveries ++ [⟨cORing ti.cmd, tj.oSlab mi ni, [], none, false⟩] ∧
    ((z.offer (cORing ti.cmd) (tj.oSlab mi ni) false).drained tj mi ni).task = some t := by
  obtain ⟨m, ts, hy⟩ := formY_sram_tiles_only (s.core core.c core.s) ti mi ni
  rw [h.formed] at hy
  obtain ⟨n, rfl⟩ := hz
  obtain ⟨us, hu⟩ := drained_tiles_only (({ y with sram := n } : CoreSt).offer (cORing ti.cmd) (tj.oSlab mi ni) false) tj mi ni
  rw [hu, hy]
  exact ⟨rfl, rfl, liveTask_task h.live⟩

end

/-! ### Deliveries -/

/-- A delivery writes operand SRAM and its ring, and is taken from those that wait (R127). -/
theorem deliver_eq (c : CoreSt) (d : Delivery) : ∃ m f, c.deliver d =
      { ({ c with sram := m } : CoreSt).modRing d.ring f with deliveries := c.deliveries.erase d } ∧
    ∀ r, (f r).filled = (r.filled + 1) % 2 ^ 32 := by
  dsimp only [CoreSt.deliver]
  obtain ⟨m, h⟩ := foldl_sram_only id (f := fun (b : CoreSt) (x : Nat × List Byte) => b.wr ((c.ring d.ring).slabAddr d.slab + x.1) x.2)
    (fun a x => ⟨_, rfl⟩) c d.data
  dsimp only [id] at h
  rw [h]
  exact ⟨m, _, rfl, fun r => rfl⟩

theorem ring_modRing_same (c : CoreSt) (n : Nat) (f : Ring → Ring) : (c.modRing n f).ring n = f (c.ring n) :=
  nget_nmod_same ..

theorem ring_modRing_ne (c : CoreSt) {n k : Nat} (h : k ≠ n) (f : Ring → Ring) : (c.modRing n f).ring k = c.ring k :=
  nget_nmod_ne _ _ h _

theorem slabDelivery_none {s : State} {core : CoreId} {ring : Nat}
    (h : ∀ d ∈ (s.core core.c core.s).deliveries, d.ring = ring → (s.core core.c core.s).canDeliver d = false) :
    s.slabDelivery core.c core.s ring = s := by
  have hnone : (s.core core.c core.s).deliveries.find? (fun d => d.ring = ring && (s.core core.c core.s).canDeliver d) = none := by
    refine List.find?_eq_none.2 fun d hd => ?_
    by_cases hr : d.ring = ring
    · simp [hr, h d hd hr]
    · simp [hr]
  unfold State.slabDelivery
  simp only [hnone]
  split
  · next h => cases h
  · rfl

theorem slabDelivery_some {s : State} {core : CoreId} {ring : Nat} {t : Task} {d : Delivery} (hl : s.liveTask core.c core.s = some t)
    (hd : (s.core core.c core.s).deliveries.find? (fun d => d.ring = ring && (s.core core.c core.s).canDeliver d) = some d) :
    s.slabDelivery core.c core.s ring = match d.tag with
      | some g => (s.setCore core.c core.s { (s.core core.c core.s).deliver d with wdCount := 0 }).tagAdd t.ctx g 1
      | none => s.setCore core.c core.s { (s.core core.c core.s).deliver d with wdCount := 0 } := by
  unfold State.slabDelivery
  simp only [hl, hd] <;> rfl

/-- Settles O17: drains by `CanDrain.drain_sub` and `CanDrain.drain_none`, deliveries by `deliver_eq`. -/
theorem drainsAndDeliveriesFillTheRings : Obligations.DrainsAndDeliveriesFillTheRings := by
  refine ⟨fun s core mi ni t ti hl => fun hr he hroom hy => ?_, fun s core ringNo t hl => ⟨fun h => ?_, fun d hd => ?_⟩⟩
  · generalize hform : ((s.core core.c core.s).formY ti mi.val ni.val).1 = y
    generalize htj : (y.tiles.find? (fun x => x.num = ti.num)).getD ti = tj
    have h : CanDrain s core mi.val ni.val t ti tj y := ⟨hl, hr, he, hroom, hy, hform, htj⟩
    refine ⟨fun v hv => ?_, fun hv => ?_⟩
    · obtain ⟨ev, k, n, hd⟩ := h.drain_sub hv
      refine ⟨_, congrArg Host.Outcome.next hd, ?_⟩
      by_cases hn : cNode ti.cmd = true
      · obtain ⟨hsram, hdel, htask⟩ := h.offered (z := y.drainNode tj v) ⟨_, rfl⟩
        simp only [hn, if_true]
        refine ⟨(((((CoresObjsOnly.refl s).setCore ..).taskEv ..).modTask ..).cnt48 ..).bytes, ?_⟩
        rw [after, State.core_cnt48, State.core_modTask_same, taskEv_core, State.core_setCore_same]
        exact ⟨hsram, hdel, _, by rw [htask]; rfl, rfl⟩
      · obtain ⟨hsram, hdel, htask⟩ := h.offered (drainRoot_sram_only y t tj v)
        simp only [hn]
        refine ⟨((((CoresObjsOnly.refl s).setCore ..).taskEv ..).cnt48 ..).bytes, ?_⟩
        rw [after, State.core_cnt48, if_neg Bool.false_ne_true, taskEv_core, State.core_setCore_same]
        exact ⟨hsram, hdel, { t with ev := t.ev.count ev }, by rw [htask]; rfl, (List.append_nil _).symm⟩
    · obtain ⟨ev, hd⟩ := h.drain_none hv
      obtain ⟨hsram, hdel, htask⟩ := h.offered (z := y) ⟨_, rfl⟩
      refine ⟨_, congrArg Host.Outcome.next hd, (((CoresObjsOnly.refl s).setCore ..).taskEv ..).bytes, ?_⟩
      rw [after, taskEv_core, State.core_setCore_same]
      exact ⟨hsram, hdel⟩
  · exact congrArg Host.Outcome.next (slabDelivery_none h)
  · have hring : d.ring = ringNo.val := by
      have h := List.find?_some hd
      simp only [Bool.and_eq_true, decide_eq_true_eq] at h
      exact h.1
    obtain ⟨m, f, hm, hf⟩ := deliver_eq (s.core core.c core.s) d
    have hs := slabDelivery_some hl hd
    refine ⟨_, setCore_coreOnly s core _, fun htag => congrArg Host.Outcome.next ?_, fun g htag => congrArg Host.Outcome.next ?_, ?_⟩
    · rw [hs, htag]
    · rw [hs, htag]
    · rw [after, State.core_setCore_same, hm, ← hring]
      refine ⟨?_, fun r hr => ?_, rfl⟩
      · exact (congrArg Ring.filled (ring_modRing_same _ _ _)).trans (hf _)
      · exact ring_modRing_ne _ hr f

end Sys2Proof.Machine
end

section
/-! PROOFS. MMA_TILE and SCHUSS (R131, R133, R136, R152 to R155): what a command that starts adds to its core, and the run of a SCHUSS
command to its next yield point. -/

namespace Sys2Proof.Machine

open Sys2Proof.Claims

/-! ### The slabs that a command takes -/

/-- A core that differs in the counters of its rings alone. -/
def RingsOnly (c c' : CoreSt) : Prop := ∃ rs, c' = { c with rings := rs }

theorem RingsOnly.refl (c : CoreSt) : RingsOnly c c := ⟨_, rfl⟩

theorem RingsOnly.trans {a b c : CoreSt} (h : RingsOnly a b) (k : RingsOnly b c) : RingsOnly a c := by
  obtain ⟨_, rfl⟩ := h
  obtain ⟨_, rfl⟩ := k
  exact ⟨_, rfl⟩

theorem RingsOnly.foldl {β γ : Type} (p : γ → CoreSt) {f : γ → β → γ} (hf : ∀ a x, RingsOnly (p a) (p (f a x))) (a : γ) (l : List β) :
    RingsOnly (p a) (p (l.foldl f a)) := by
  induction l generalizing a with
  | nil => exact .refl _
  | cons x l ih => exact (hf a x).trans (ih _)

theorem takeGens_ringsOnly (c : CoreSt) (b : Nat) (l : List GenUse) (n : Nat) : RingsOnly c (c.takeGens b l n).1 := by
  dsimp only [CoreSt.takeGens]
  split
  · exact .refl c
  · refine RingsOnly.trans ?_ (RingsOnly.foldl id (fun c g => ?_) _ l)
    · refine RingsOnly.foldl Prod.fst (fun a g => ?_) (c, []) l
      dsimp only
      split
      · exact ⟨_, rfl⟩
      · exact ⟨_, rfl⟩
    · dsimp only [id]
      split
      · exact ⟨_, rfl⟩
      · exact ⟨_, rfl⟩

theorem takeRead_ringsOnly (c : CoreSt) (ring n : Nat) : RingsOnly c (c.takeRead ring n).2 := ⟨_, rfl⟩

theorem takeFill_ringsOnly (c : CoreSt) (ring n : Nat) : RingsOnly c (c.takeFill ring n).2 := ⟨_, rfl⟩

/-- Reads taken of a ring leave the next slab that every ring is to be filled with. -/
theorem takeRead_nextFill (c : CoreSt) (ring k n : Nat) : ((c.takeRead ring k).2.ring n).nextFill = (c.ring n).nextFill := by
  by_cases h : n = ring
  · subst h
    rw [CoreSt.takeRead, ring_modRing_same]
  · rw [CoreSt.takeRead, ring_modRing_ne c h]

/-- A command joins or breaks a deferred group; nothing else of the core changes. -/
theorem joinGroup_groups_only (c : CoreSt) (num w : Nat) : ∃ g o, c.joinGroup num w = { c with group := g, older := o } := by
  unfold CoreSt.joinGroup
  split
  · split
    · exact ⟨_, _, rfl⟩
    · exact ⟨_, _, rfl⟩
  · exact ⟨_, _, rfl⟩

theorem RingsOnly.maybeGens {c d : CoreSt} (h : RingsOnly c d) (p : Prop) [Decidable p] (b : Nat) (l : List GenUse) (n : Nat) :
    RingsOnly c (if p then (d, ([] : List GenUse)) else d.takeGens b l n).1 := by
  split
  · exact h
  · exact h.trans (takeGens_ringsOnly ..)

/-- What the command takes from its core's rings and from its task (R136, R140, R141). -/
structure Started (c : CoreSt) (t : Task) (sch : Bool) (w b : Nat) (skips : List Nat) (ti : Tile) : Prop where
  num : ti.num = t.cmdNum
  cmd : ti.cmd = w
  schuss : ti.schuss = sch
  binding : ti.binding = b
  issued : ti.issued = if extL (extWord t.desc (cExtSel w)) ≤ cLeafA w then mmaTotal sch w else 0
  drained : ti.drained = []
  reserved : ti.reserved = false
  rtM : ti.rtM = extM (extWord t.desc (cExtSel w))
  rtN : ti.rtN = extN (extWord t.desc (cExtSel w))
  rtL : ti.rtL = extL (extWord t.desc (cExtSel w))
  skips : ti.skips = skips
  aBase : ti.aBase = (c.ring (cARing w)).nextRead
  wBase : cARing w ≠ cWRing w → ti.wBase = (c.ring (cWRing w)).nextRead
  oBase : ti.oBase = (c.ring (cORing w)).nextFill

/-- A command that starts with something to do stands last among the commands in progress, on the core that its group and its slab
numbers leave. -/
theorem addTile_adds {c : CoreSt} {t : Task} {sch : Bool} {w b : Nat} {skips : List Nat}
    (hext : ¬(extM (extWord t.desc (cExtSel w)) = 0 ∨ extN (extWord t.desc (cExtSel w)) = 0))
    (hleaf : ¬(extL (extWord t.desc (cExtSel w)) ≤ cLeafA w ∧ cNode w = true)) :
    ∃ c' ti, RingsOnly (c.joinGroup t.cmdNum w) c' ∧ c.addTile t sch w b skips = { c' with tiles := c'.tiles ++ [ti] } ∧
      Started c t sch w b skips ti := by
  obtain ⟨g, older, hj⟩ := joinGroup_groups_only c t.cmdNum w
  unfold CoreSt.addTile
  extract_lets e j absent nA nW nO a ww o f p pg eg ti ti'
  have hring : ∀ n, j.ring n = c.ring n := fun n => by rw [show j = _ from hj]; rfl
  rw [if_neg (show ¬(extM e = 0 ∨ extN e = 0) from hext), if_neg (show ¬(absent ∧ cNode w = true) from hleaf)]
  have hA : a.1 = (c.ring (cARing w)).nextRead := congrArg Ring.nextRead (hring _)
  have hW (hne : cARing w ≠ cWRing w) : ww.1 = (c.ring (cWRing w)).nextRead :=
    congrArg Ring.nextRead ((ring_modRing_ne j (Ne.symm hne) _).trans (hring _))
  have hO : o.1 = (c.ring (cORing w)).nextFill :=
    calc o.1 = (ww.2.ring (cORing w)).nextFill := rfl
      _ = (a.2.ring (cORing w)).nextFill := takeRead_nextFill ..
      _ = (j.ring (cORing w)).nextFill := takeRead_nextFill ..
      _ = (c.ring (cORing w)).nextFill := by rw [hring]
  have ho : RingsOnly j o.2 := ((takeRead_ringsOnly ..).trans (takeRead_ringsOnly ..)).trans (takeFill_ringsOnly ..)
  have hf : RingsOnly j f.2 := ho.trans (takeFill_ringsOnly ..)
  clear_value f o ww a
  have hp : RingsOnly j p.2 := by
    dsimp only [p]
    split
    · exact ho.trans (takeRead_ringsOnly ..)
    · split
      · exact ho
      · exact hf.trans (takeRead_ringsOnly ..)
  clear_value p
  have hc : RingsOnly j eg.1 := (hp.maybeGens ..).maybeGens ..
  clear_value eg pg
  exact ⟨eg.1, ti', hc, rfl, ⟨rfl, rfl, rfl, rfl, rfl, rfl, rfl, rfl, rfl, rfl, rfl, hA, hW, hO⟩⟩

/-- What a command that starts changes of its core: its groups, its rings' counters and the commands in progress. -/
theorem addTile_only (c : CoreSt) (t : Task) (sch : Bool) (w b : Nat) (skips : List Nat) :
    ∃ g o rs ts, c.addTile t sch w b skips = { c with group := g, older := o, rings := rs, tiles := ts } := by
  obtain ⟨g, o, hj⟩ := joinGroup_groups_only c t.cmdNum w
  by_cases hext : extM (extWord t.desc (cExtSel w)) = 0 ∨ extN (extWord t.desc (cExtSel w)) = 0
  · exact ⟨g, o, c.rings, c.tiles, (if_pos hext).trans hj⟩
  · by_cases hleaf : extL (extWord t.desc (cExtSel w)) ≤ cLeafA w ∧ cNode w = true
    · exact ⟨g, o, c.rings, c.tiles, ((if_neg hext).trans (if_pos hleaf)).trans hj⟩
    · obtain ⟨c', ti, ⟨rs, hc⟩, h, -⟩ := addTile_adds (c := c) (sch := sch) (b := b) (skips := skips) hext hleaf
      rw [h, hc, hj]
      exact ⟨_, _, _, _, rfl⟩

/-! ### A SCHUSS command up to its next yield point -/

theorem advance_entry (n : Nat) (r : Ring) : (r.advance n).entry = r.entry := by
  induction n generalizing r with
  | zero => rfl
  | succ n ih =>
    unfold Ring.advance
    split
    · exact ih _
    · rfl

theorem release_entry (r : Ring) (j : Nat) : (r.release j).entry = r.entry := advance_entry ..

/-- The operand SRAM, the rings' entries and the task of a core stand as they stood. -/
structure SameSlabs (c d : CoreSt) : Prop where
  sram : d.sram = c.sram
  entry : ∀ n, (d.ring n).entry = (c.ring n).entry
  task : d.task = c.task

theorem SameSlabs.rdSlab {c d : CoreSt} (h : SameSlabs c d) (ring j off n : Nat) : d.rdSlab ring j off n = c.rdSlab ring j off n := by
  simp only [CoreSt.rdSlab, Ring.slab, Ring.slabAddr, Ring.base, Ring.count, CoreSt.rd, h.sram, h.entry]
  rfl

theorem SameSlabs.modRelease {c d : CoreSt} (h : SameSlabs c d) (n j : Nat) : SameSlabs c (d.modRing n (fun r => r.release j)) where
  sram := h.sram
  task := h.task
  entry k := by
    by_cases hk : k = n
    · subst hk
      rw [ring_modRing_same, release_entry, h.entry]
    · rw [ring_modRing_ne d hk, h.entry]

theorem SameSlabs.passPlace {c d : CoreSt} (h : SameSlabs c d) (t : Tile) (p : MmaPos) : SameSlabs c (d.passPlace t p) := by
  have hset (e : CoreSt) (he : SameSlabs c e) (t : Tile) : SameSlabs c (e.setTile t) := ⟨he.sram, he.entry, he.task⟩
  unfold CoreSt.passPlace
  dsimp only
  refine hset _ ?_ _
  split
  · split
    · exact (h.modRelease ..).modRelease ..
    · exact h.modRelease ..
  · split
    · exact h.modRelease ..
    · exact h

/-- One slice of `schussSum`. -/
def schussFold (tm1 : Bool) (c : CoreSt) (ti x : Tile) (p : MmaPos) : Tile :=
  if x.live p then
    x.setSub (((x.sub p.mi p.ni).getD (SubTile.fresh p.mi p.ni (cLeafA ti.cmd))).fold tm1 x p (cFw ti.cmd)
      (c.rdSlab (cARing ti.cmd) (ti.actSlab p) 0 (slabBytes (cFa ti.cmd) (fmtIK (cFa ti.cmd)) (cRows true ti.cmd)))
      (c.rdSlab (cWRing ti.cmd) (ti.wSlab p) 0 (slabBytes (cFw ti.cmd) (fmtIK (cFa ti.cmd)) 512))).1
  else x

theorem schussFold_subs_only (tm1 : Bool) (c : CoreSt) (ti x : Tile) (p : MmaPos) :
    ∃ l, schussFold tm1 c ti x p = { x with subs := l } := by
  unfold schussFold
  split
  · exact setSub_subs_only ..
  · exact ⟨_, rfl⟩

/-- A command with the places it has passed, its reservation made. -/
def Tile.passed (x : Tile) (n : Nat) : Tile := { x with issued := n, reserved := true }

theorem setSub_passed (x : Tile) (n : Nat) (u : SubTile) : (x.passed n).setSub u = (x.setSub u).passed n := by
  unfold Tile.setSub
  have h : (x.passed n).sub u.mi u.ni = x.sub u.mi u.ni := rfl
  rw [h]
  split
  · rfl
  · rfl

/-- A slice of the run is a slice of the sum, and its place is passed. -/
theorem schussSlice_eq (tm1 : Bool) {c d : CoreSt} (h : SameSlabs c d) {ti x : Tile} {l : List SubTile}
    (hx : x = { ti with subs := l }) (n : Nat) (p : MmaPos) : ∃ ev, d.schussSlice tm1 (x.passed n) p =
      (d.passPlace ((schussFold tm1 c ti x p).passed n) p, (schussFold tm1 c ti x p).passed (n + 1), ev) := by
  unfold CoreSt.schussSlice schussFold
  have hl : (x.passed n).live p = x.live p := rfl
  have hc : (x.passed n).cmd = ti.cmd := by rw [hx]; rfl
  have ha : (x.passed n).actSlab p = ti.actSlab p := by rw [hx]; rfl
  have hw : (x.passed n).wSlab p = ti.wSlab p := by rw [hx]; rfl
  have hs : (x.passed n).sub p.mi p.ni = x.sub p.mi p.ni := rfl
  have hf (u : SubTile) (a b) : u.fold tm1 (x.passed n) p (cFw ti.cmd) a b = u.fold tm1 x p (cFw ti.cmd) a b := rfl
  simp only [hl, hc, ha, hw, hs, h.rdSlab, hf, setSub_passed]
  cases x.live p with
  | true => exact ⟨_, rfl⟩
  | false => exact ⟨_, rfl⟩

/-- The core's command with a number stands there, and as `t` once a slice has passed. -/
structure RunsTile (c : CoreSt) (num : Nat) (t : Option Tile) : Prop where
  mem : ∃ y ∈ c.tiles, y.num = num
  last : ∀ x, t = some x → c.tiles.find? (fun y => y.num = num) = some x

theorem RunsTile.passPlace {c : CoreSt} {num : Nat} {o : Option Tile} (h : RunsTile c num o) {t : Tile} (hn : t.num = num) (p : MmaPos) :
    RunsTile (c.passPlace t p) num (some { t with issued := t.issued + 1 }) := by
  subst hn
  obtain ⟨y, hy, hyn⟩ := h.mem
  have hf := passPlace_tile hy hyn p
  refine ⟨⟨_, List.mem_of_find?_eq_some hf, rfl⟩, fun x hx => ?_⟩
  cases hx
  exact hf

/-- The run's slices fold what the sum folds, and each place is passed. -/
theorem schussSlices_eq (tm1 : Bool) (c : CoreSt) (ti : Tile) (l : List MmaPos) {d : CoreSt} (h : SameSlabs c d) {x : Tile}
    {subs : List SubTile} (hx : x = { ti with subs := subs }) (n : Nat) {o : Option Tile} (ho : RunsTile d ti.num o)
    (hn : ∀ y, o = some y → y = x.passed n) (ev : Ev) :
    ∃ e ev', l.foldl (fun acc p =>
        let z := acc.1.schussSlice tm1 acc.2.1 p
        (z.1, z.2.1, acc.2.2.plus z.2.2)) (d, x.passed n, ev) =
          (e, (l.foldl (schussFold tm1 c ti) x).passed (n + l.length), ev') ∧ SameSlabs c e ∧
      ∃ o', RunsTile e ti.num o' ∧ (l ≠ [] ∨ o.isSome → o' = some ((l.foldl (schussFold tm1 c ti) x).passed (n + l.length))) := by
  induction l generalizing d x subs n o ev with
  | nil =>
    refine ⟨d, ev, rfl, h, o, ho, fun hs => ?_⟩
    obtain ⟨y, hy⟩ := Option.isSome_iff_exists.1 (hs.resolve_left (fun hne => hne rfl))
    rw [hy, hn y hy]
    rfl
  | cons p l ih =>
    obtain ⟨ev1, hz⟩ := schussSlice_eq tm1 h hx n p
    obtain ⟨subs', hf⟩ := schussFold_subs_only tm1 c ti x p
    have hx' : schussFold tm1 c ti x p = { ti with subs := subs' } := by rw [hf, hx]
    have hrun := ho.passPlace (t := (schussFold tm1 c ti x p).passed n) (by rw [hx']; rfl) p
    obtain ⟨e, ev2, heq, hs, o', hr, hlast⟩ := ih (h.passPlace _ p) hx' (n + 1) hrun (fun y hy => (Option.some.inj hy).symm)
      (ev.plus ev1)
    have hlen : n + 1 + l.length = n + (p :: l).length := by rw [List.length_cons, Nat.add_assoc, Nat.add_comm 1]
    rw [hlen] at heq hlast
    refine ⟨e, ev2, ?_, hs, o', hr, fun _ => hlast (.inr rfl)⟩
    rw [List.foldl_cons, List.foldl_cons]
    dsimp only
    rw [hz]
    exact heq

theorem cN_pos (w : Nat) : 0 < cN w := Nat.succ_pos _

theorem cM_pos (sch : Bool) (w : Nat) : 0 < cM sch w := by
  unfold cM
  split
  · exact Nat.one_pos
  · exact Nat.succ_pos _

theorem cOpen_pos (sch : Bool) (w : Nat) : 0 < cOpen sch w := by
  unfold cOpen
  split
  · exact Nat.one_pos
  · exact Nat.one_pos
  · exact cN_pos w
  · exact cM_pos sch w
  · exact Nat.mul_pos (cM_pos sch w) (cN_pos w)

/-- A command that issues MMAs has yield points at a positive distance. -/
theorem stepLen_pos {sch : Bool} {w : Nat} (h : 0 < mmaTotal sch w) : 0 < stepLen sch w := by
  have hk : 0 < cK w := Nat.pos_of_mul_pos_left h
  have hs : 0 < cS w := Nat.pos_of_mul_pos_right hk
  have hp : 0 < cPasses w := Nat.pos_of_mul_pos_left hk
  have hl : 0 < cSlicesPerLeaf w := Nat.pos_of_mul_pos_left hs
  unfold stepLen
  dsimp only
  split
  · exact Nat.mul_pos (Nat.mul_pos (Nat.mul_pos hl hp) (cM_pos ..)) (cN_pos w)
  · split
    · exact Nat.mul_pos (Nat.mul_pos hl hp) (cOpen_pos ..)
    · exact hk

/-- A SCHUSS command that is not all issued has slices up to its next yield point. -/
theorem schussPart_ne_nil {ti : Tile} (h : ti.issued < mmaTotal true ti.cmd) : ti.schussPart ≠ [] := by
  have hd : 0 < stepLen true ti.cmd * 2 ^ (cYpt ti.cmd - 1) :=
    Nat.mul_pos (stepLen_pos (Nat.zero_lt_of_lt h)) (Nat.two_pow_pos _)
  have hstop : ti.issued < (ti.issued / (stepLen true ti.cmd * 2 ^ (cYpt ti.cmd - 1)) + 1) * (stepLen true ti.cmd * 2 ^ (cYpt ti.cmd - 1)) := by
    rw [Nat.mul_comm]
    exact Nat.lt_mul_div_succ _ hd
  unfold Tile.schussPart
  dsimp only
  rw [ne_eq, List.map_eq_nil_iff, List.drop_eq_nil_iff, List.length_range, Nat.not_le]
  split
  · exact h
  · exact lt_min h hstop

theorem schussRuns_of_next {s : State} {core : CoreId} {t : Task} {ti : Tile} (hl : s.liveTask core.c core.s = some t)
    (hn : (s.core core.c core.s).schussNext = some ti) : SchussRuns s core ti (s.schussRun core.c core.s) := by
  obtain ⟨hf, -⟩ := Option.filter_eq_some_iff.1 hn
  have hmem : ti ∈ (s.core core.c core.s).tiles := List.mem_of_find?_eq_some hf
  have hsch := List.find?_some hf
  simp only [Tile.allIssued, Bool.and_eq_true, Bool.not_eq_true', decide_eq_false_iff_not, Nat.not_le] at hsch
  obtain ⟨hsch, hlt⟩ := hsch
  rw [hsch] at hlt
  obtain ⟨e, ev, heq, hs, o, hr, hlast⟩ := schussSlices_eq s.tm1 (s.core core.c core.s) ti ti.schussPart ⟨rfl, fun _ => rfl, rfl⟩
    (x := ti) rfl ti.issued (o := none) ⟨⟨ti, hmem, rfl⟩, fun _ h => nomatch h⟩ (fun _ h => nomatch h) Ev.none
  have htile := hr.last _ (hlast (.inl (schussPart_ne_nil hlt)))
  have hrun : s.schussRun core.c core.s = ((s.setCore core.c core.s { e with wdCount := 0 }).taskEv core.c core.s ev).cnt48
      (kCore core.c core.s 1 5) ((ti.schussPart.filter ti.live).length * schussCycles (cFw ti.cmd)) := by
    unfold State.schussRun
    simp only [hl, hn]
    have hpart : ({ ti with reserved := true } : Tile).schussPart = ti.schussPart := rfl
    have hlive : ({ ti with reserved := true } : Tile).live = ti.live := rfl
    have hpassed : ({ ti with reserved := true } : Tile) = ti.passed ti.issued := rfl
    rw [hpart, hlive, hpassed, heq]
  have hcore : after (s.schussRun core.c core.s) core = { e with wdCount := 0, task := e.task.map (fun t => { t with ev := t.ev.count ev }) } := by
    rw [hrun, after, State.core_cnt48, taskEv_core, State.core_setCore_same]
  have hrest : CoresObjsOnly s (s.schussRun core.c core.s) := by
    rw [hrun]
    exact (((CoresObjsOnly.refl s).setCore ..).taskEv ..).cnt48 ..
  refine ⟨hrest.rest, hrest.bytes, ?_, ?_, fun k hk => ?_,
    (schussSum s.tm1 (s.core core.c core.s) ti).passed (ti.issued + ti.schussPart.length), ?_, rfl, rfl, rfl⟩
  · rw [hcore]
    exact hs.sram
  · rw [hrun]
    exact State.obj_setObj_same ..
  · rw [hrun]
    exact State.obj_setObj_ne _ hk _
  · rw [hcore]
    exact htile

/-! ### The start of a command -/

theorem liveTask_iff {s : State} {cl site : Nat} {t : Task} : s.liveTask cl site = some t ↔
    s.siteState cl site = 2 ∧ s.moduleState = 3 ∧ (s.core cl site).task = some t ∧ t.codes = [] ∧ t.committed = false := by
  unfold State.liveTask
  by_cases hs : s.siteState cl site = 2
  · by_cases hm : s.moduleState = 3
    · cases (s.core cl site).task with
      | none => simp [hs, hm]
      | some u =>
        simp only [hs, hm, ne_eq, not_true_eq_false, decide_false, Bool.or_self, Bool.false_eq_true, if_false, true_and,
          Option.some.injEq, Option.ite_none_right_eq_some, Bool.and_eq_true, List.isEmpty_iff, Bool.not_eq_true']
        constructor
        · rintro ⟨⟨hc, hd⟩, rfl⟩
          exact ⟨rfl, hc, hd⟩
        · rintro ⟨rfl, hc, hd⟩
          exact ⟨⟨hc, hd⟩, rfl⟩
    · simp [hm]
  · simp [hs]

/-- A change of one core that leaves its task live leaves the machine's other conditions of a live task. -/
theorem liveTask_of_coreOnly {s v : State} {core : CoreId} {c : CoreSt} {t u : Task} (h : CoreOnly s v core c)
    (hl : s.liveTask core.c core.s = some t) (hc : c.task = some u) (hcodes : u.codes = []) (hcom : u.committed = false) :
    v.liveTask core.c core.s = some u := by
  obtain ⟨hsite, hmod, -, -, -⟩ := liveTask_iff.1 hl
  refine liveTask_iff.2 ⟨?_, ?_, ?_, hcodes, hcom⟩
  · rw [h.rest]
    exact hsite
  · rw [h.rest]
    exact hmod
  · exact (congrArg CoreSt.task h.core).trans hc

/-- What a command leaves for its task at its start: the markers of its leaves, and the glide state of a product task. -/
def startedTask (c : CoreSt) (w b : Nat) (g : Bool × List Nat × List Nat) (t : Task) : Task :=
  { t with
    dones := t.dones ++ ((if cNode w then [⟨cGen w, cRed w, cLeafA w, cLeafB w⟩] else []) ++ spillDone c w b),
    gDone := true, gFull := g.1, gStamps := g.2.2 }

/-- What a command's start leaves in its core: the tile it adds, and its task with what the command leaves for it. -/
def startedCore (c : CoreSt) (t : Task) (sch : Bool) (w b : Nat) (g : Bool × List Nat × List Nat) : CoreSt :=
  { c.addTile t sch w b g.2.1 with
    task := some (startedTask c w b g (t.started w)) }

section
variable {s : State} {core : CoreId} {t : Task} {w : Nat} {g : Bool × List Nat × List Nat} {sch : Bool}

/-- The start of a command whose checks pass. -/
theorem startTile_coreOnly (ht : (s.core core.c core.s).task = some t) (hfree : (s.core core.c core.s).canStartTile = true)
    (hcodes : tileCodes (s.core core.c core.s) t sch w (s.readBinding t w)
      (if cNode w then (s.redNamed t.ctx (cRed w) (cGen w)).map Reduction.leaves else none) = [])
    (hg : (match (if t.isProduct then t.glide else none) with
      | some r => s.productStart (s.core core.c core.s) t r w
      | none => .ok (false, [], [])) = .ok g) :
    ∃ v, s.startTile core.c core.s sch t w = some v ∧
      CoreOnly s v core (startedCore (s.core core.c core.s) t sch w (((s.readBinding t w).toOption.join).getD 0) g) := by
  obtain ⟨_, _, _, _, hadd⟩ :=
    addTile_only (s.core core.c core.s) t sch w (((s.readBinding t w).toOption.join).getD 0) g.2.1
  have htask : ((s.core core.c core.s).addTile t sch w (((s.readBinding t w).toOption.join).getD 0) g.2.1).task = some t := by
    rw [hadd]
    exact ht
  refine ⟨_, ?_, startCmd_coreOnly (setCore_coreOnly s core _) htask w (startedTask (s.core core.c core.s) w
    (((s.readBinding t w).toOption.join).getD 0) g)⟩
  unfold State.startTile
  simp only [hfree, hcodes, Bool.not_true, Bool.false_eq_true, if_false]
  cases hr : (if t.isProduct then t.glide else none) with
  | none =>
    simp only [hr] at hg ⊢
    cases hg
    rfl
  | some r =>
    simp only [hr] at hg ⊢
    rw [hg]
    rfl

theorem startedCore_live {v : State} {b : Nat} (hl : s.liveTask core.c core.s = some t)
    (hv : CoreOnly s v core (startedCore (s.core core.c core.s) t sch w b g)) : ∃ u, v.liveTask core.c core.s = some u := by
  obtain ⟨-, -, -, hcodes, hcom⟩ := liveTask_iff.1 hl
  exact ⟨_, liveTask_of_coreOnly hv hl rfl hcodes hcom⟩

end

theorem schussRun_waits {s : State} {cl site : Nat} (h : (s.core cl site).schussNext = none) : s.schussRun cl site = s := by
  unfold State.schussRun
  simp only [h]
  cases s.liveTask cl site with
  | none => rfl
  | some t => rfl

/-- Settles O14: the start by `startTile_coreOnly` and `addTile_adds`, the run to the next yield point by `schussRuns_of_next`. -/
theorem productsStart : Obligations.ProductsStart := by
  refine ⟨fun s core t w g sch hat => fun hfree hcodes hg hnone => ⟨?_, fun hm hn hleaf => ?_⟩, fun s core t x hl hx => ?_⟩
  · obtain ⟨v, hv, hc⟩ := startTile_coreOnly (sch := sch) (liveTask_task hat.live) hfree hcodes hg
    have hcore : v.core core.c core.s = _ := hc.core
    refine ⟨v, hc, fun hs => ?_, fun hs hwait => ?_, fun ti hs hnext => ?_⟩
    · subst hs
      refine congrArg Host.Outcome.next ?_
      rw [State.mmaTileCmd, seqCmd_at (op := 0x10) hat (by decide), hv, Option.getD_some]
    all_goals
      subst hs
      have hcmd : s.schussCmd core.c core.s = v.schussRun core.c core.s := by
        simp only [State.schussCmd, hat.live, hnone rfl]
        rw [seqCmd_at (op := 0x11) hat (by decide), hv, Option.getD_some]
    · refine congrArg Host.Outcome.next (hcmd.trans (schussRun_waits ?_))
      rw [hcore]
      exact hwait
    · obtain ⟨u, hu⟩ := startedCore_live hat.live hc
      refine ⟨_, congrArg Host.Outcome.next hcmd, schussRuns_of_next hu ?_⟩
      rw [hcore]
      exact hnext
  · obtain ⟨c', ti, ⟨rs, hc'⟩, hadd, h⟩ := addTile_adds (c := s.core core.c core.s) (t := t) (sch := sch) (w := w)
      (b := ((s.readBinding t w).toOption.join).getD 0) (skips := g.2.1) (fun h => h.elim hm hn) (fun h => absurd h.1 (Nat.not_le.2 hleaf))
    obtain ⟨_, _, hjoin⟩ := joinGroup_groups_only (s.core core.c core.s) t.cmdNum w
    have htiles : c'.tiles = (s.core core.c core.s).tiles := by
      rw [hc', hjoin]
    refine ⟨ti, ?_, h.num, h.cmd, h.schuss, h.binding, h.issued.trans (if_neg (Nat.not_le.2 hleaf)), h.drained, h.reserved, h.rtM, h.rtN,
      h.rtL, h.skips, h.aBase, h.wBase, h.oBase⟩
    calc _ = ((s.core core.c core.s).addTile t sch w (((s.readBinding t w).toOption.join).getD 0) g.2.1).tiles := rfl
      _ = _ := by rw [hadd, htiles]
  · have hcmd : s.schussCmd core.c core.s = s.schussRun core.c core.s := by
      simp only [State.schussCmd, hl, hx]
    refine ⟨fun hwait => congrArg Host.Outcome.next (hcmd.trans (schussRun_waits hwait)), fun ti hnext =>
      ⟨_, congrArg Host.Outcome.next hcmd, schussRuns_of_next hl hnext⟩⟩

end Sys2Proof.Machine
end

section
/-! PROOFS. Core faults, watchdogs and FENCE (R145, R146, R599, R600): a fence discards the core and leaves memory. -/

namespace Sys2Proof.Machine

open Sys2Proof.Claims

/-! ### What an event leaves alone -/

/-- Objects, the event log, the functions' interrupts and the pins differ; nothing else does. -/
def NoticeOnly (s u : State) : Prop := ∃ ob pt ho ou, u = { s with objs := ob, patrol := pt, host := ho, out := ou }

section
variable {s u : State}

theorem NoticeOnly.refl (s : State) : NoticeOnly s s := ⟨_, _, _, _, rfl⟩

theorem NoticeOnly.trans {v : State} (h : NoticeOnly s u) (k : NoticeOnly u v) : NoticeOnly s v := by
  obtain ⟨_, _, _, _, rfl⟩ := h
  obtain ⟨_, _, _, _, rfl⟩ := k
  exact ⟨_, _, _, _, rfl⟩

theorem NoticeOnly.foldl {β : Type} {f : State → β → State} (hf : ∀ s x, NoticeOnly s (f s x)) (s : State) (l : List β) :
    NoticeOnly s (l.foldl f s) := by
  induction l generalizing s with
  | nil => exact .refl s
  | cons x l ih => exact (hf s x).trans (ih _)

theorem setObj_noticeOnly (s : State) (k v : Nat) : NoticeOnly s (s.setObj k v) := ⟨_, _, _, _, rfl⟩

theorem raise_noticeOnly (s : State) (fn vector : Nat) : NoticeOnly s (s.raise fn vector) := by
  dsimp only [State.raise]
  split_ifs
  · exact .refl s
  all_goals exact ⟨_, _, _, _, rfl⟩

theorem raiseEvent_noticeOnly (s : State) (e : Event) : NoticeOnly s (s.raiseEvent e) := by
  have hctx : NoticeOnly s (if e.ctx < 64 then s.raise (s.obj (kDev (0x2400 + e.ctx) 0x20)) (2 + e.ctx) else s) := by
    split
    · exact raise_noticeOnly ..
    · exact .refl _
  dsimp only [State.raiseEvent]
  split
  · exact hctx.trans (raise_noticeOnly ..)
  · exact hctx

theorem notifyEvent_noticeOnly (s : State) (e : Event) : NoticeOnly s (s.notifyEvent e) := by
  unfold State.notifyEvent
  split
  · exact NoticeOnly.foldl (fun s t => ⟨_, _, _, _, rfl⟩) s _
  · exact .refl s

theorem newEvent_noticeOnly (s : State) (code sev ctx p0 p1 time : Nat) : NoticeOnly s (s.newEvent code sev ctx p0 p1 time) := by
  dsimp only [State.newEvent]
  refine NoticeOnly.trans ?_ ((notifyEvent_noticeOnly ..).trans (raiseEvent_noticeOnly ..))
  split
  · exact ⟨_, _, _, _, rfl⟩
  · exact ⟨_, _, _, _, rfl⟩

theorem event_noticeOnly (s : State) (code sev ctx p0 p1 : Nat) : NoticeOnly s (s.event code sev ctx p0 p1) := by
  unfold State.event
  split
  · split
    · exact ⟨_, _, _, _, rfl⟩
    · exact ⟨_, _, _, _, rfl⟩
  · rcases addEvent_cases s code sev ctx p0 p1 s.timeNs with h | ⟨e, l, h⟩
    · rw [h]
      exact newEvent_noticeOnly ..
    · rw [h]
      have hlog : NoticeOnly s { s with patrol := { s.patrol with log := l } } := ⟨_, _, _, _, rfl⟩
      exact hlog.trans (raiseEvent_noticeOnly _ e)

theorem NoticeOnly.mem (h : NoticeOnly s u) : u.mem = s.mem := by
  obtain ⟨_, _, _, _, rfl⟩ := h
  rfl

theorem NoticeOnly.cores (h : NoticeOnly s u) : u.cores = s.cores := by
  obtain ⟨_, _, _, _, rfl⟩ := h
  rfl

theorem NoticeOnly.core (h : NoticeOnly s u) (cl site : Nat) : u.core cl site = s.core cl site := by
  rw [State.core, h.cores, State.core]

end

/-! ### The fence of a core -/

/-- A fault ends the commit of the task's context; memory and cores stay. -/
theorem faultCommit_mem_cores (s : State) (cl site : Nat) :
    (s.faultCommit cl site).mem = s.mem ∧ (s.faultCommit cl site).cores = s.cores := by
  unfold State.faultCommit
  split
  · split
    · next t _ _ =>
      dsimp only [State.commitFail]
      exact ⟨(event_noticeOnly ..).mem, (event_noticeOnly ..).cores⟩
    · exact ⟨rfl, rfl⟩
  · exact ⟨rfl, rfl⟩

/-- A discarded core keeps its routine memory and a task whose commit has begun; memory stays. -/
theorem discardCore_eq (s : State) (cl site : Nat) : ∃ ch, s.discardCore cl site =
    ({ s with chair := ch } : State).setCore cl site { CoreSt.empty with
      task := fencedTask (s.core cl site).task, rmem := (s.core cl site).rmem, resident := (s.core cl site).resident } := by
  unfold State.discardCore
  dsimp only
  split
  · obtain ⟨ch, h⟩ := unrefMoves_chair_only s (_ : List Mv)
    rw [h]
    exact ⟨ch, rfl⟩
  · exact ⟨s.chair, rfl⟩

/-- The machine with a core discarded, its state and cause written and the cores numbered again. -/
def State.fenced (s : State) (cl site cause : Nat) : State :=
  ((((((s.discardCore cl site).modCore cl site (fun c => { c with rmem := [], resident := false })).setObj (kCore cl site 0 1) 3).setObj
    (kCore cl site 3 3) cause).cnt16 (kDev 0x4010 3) 1).renumber)

theorem siteStateKey_ne_fenceCauseKey (cl site : Nat) : kCore cl site 0 1 ≠ kCore cl site 3 3 := by
  unfold kCore objKey
  omega

theorem fenced_siteState (s : State) (cl site cause : Nat) : (s.fenced cl site cause).siteState cl site = 3 := by
  rw [State.siteState, State.fenced, renumber_obj _ (siteStateKey_ne_numberKey cl site), State.cnt16, State.obj_setObj_ne,
    State.obj_setObj_ne _ (siteStateKey_ne_fenceCauseKey cl site), State.obj_setObj_same]
  unfold kCore kDev objKey
  omega

theorem fenced_cause (s : State) (cl site cause : Nat) : (s.fenced cl site cause).obj (kCore cl site 3 3) = cause := by
  rw [State.fenced, renumber_obj _ (fenceCauseKey_ne_numberKey cl site), State.cnt16, State.obj_setObj_ne, State.obj_setObj_same]
  unfold kCore kDev objKey
  omega

theorem fenced_mem (s : State) (cl site cause : Nat) : (s.fenced cl site cause).mem = s.mem := by
  obtain ⟨ch, h⟩ := discardCore_eq s cl site
  rw [State.fenced, renumber_mem, h]
  rfl

theorem fenced_core (s : State) (cl site cause : Nat) :
    (s.fenced cl site cause).core cl site = { CoreSt.empty with task := fencedTask (s.core cl site).task } := by
  obtain ⟨ch, h⟩ := discardCore_eq s cl site
  rw [State.core, State.fenced, renumber_cores, h]
  have hmod := State.core_modCore_same (({ s with chair := ch } : State).setCore cl site { CoreSt.empty with
    task := fencedTask (s.core cl site).task, rmem := (s.core cl site).rmem, resident := (s.core cl site).resident }) cl site
    (fun c => { c with rmem := [], resident := false })
  rw [State.core_setCore_same] at hmod
  exact hmod

/-- What a fence of a core leaves: its state and cause, an empty core but for a task in its commit, and memory. -/
structure FencedAs (s u : State) (cl site cause : Nat) : Prop where
  mem : u.mem = s.mem
  state : u.siteState cl site = 3
  cause : u.obj (kCore cl site 3 3) = cause
  core : u.core cl site = { CoreSt.empty with task := fencedTask (s.core cl site).task }

theorem fencedAs_event {s u : State} {cl site cause : Nat} (h : FencedAs s u cl site cause) (code sev ctx p0 p1 : Nat) :
    FencedAs s (u.event code sev ctx p0 p1) cl site cause where
  mem := (event_noticeOnly ..).mem.trans h.mem
  state := ((event_logsOnly u ..).objs _ (by unfold kCore objKey; omega) (by unfold kCore objKey; omega)).trans h.state
  cause := ((event_logsOnly u ..).objs _ (by unfold kCore objKey; omega) (by unfold kCore objKey; omega)).trans h.cause
  core := ((event_noticeOnly ..).core cl site).trans h.core

theorem fenced_fencedAs {s v : State} {cl site : Nat} (hm : v.mem = s.mem) (hc : v.cores = s.cores) (cause : Nat) :
    FencedAs s (v.fenced cl site cause) cl site cause where
  mem := (fenced_mem ..).trans hm
  state := fenced_siteState ..
  cause := fenced_cause ..
  core := by rw [fenced_core, State.core, hc, State.core]

/-- A core that is enabled and not fenced yet is fenced. -/
theorem fenceCore_fencedAs {s : State} {cl site : Nat} (h0 : s.siteState cl site ≠ 0) (h3 : s.siteState cl site ≠ 3) (cause : Nat) :
    FencedAs s (s.fenceCore cl site cause) cl site cause := by
  have hfault : ∃ v, v.mem = s.mem ∧ v.cores = s.cores ∧ v = if cause = 6 then s else s.faultCommit cl site := by
    split
    · exact ⟨s, rfl, rfl, rfl⟩
    · exact ⟨_, (faultCommit_mem_cores s cl site).1, (faultCommit_mem_cores s cl site).2, rfl⟩
  obtain ⟨v, hm, hc, hv⟩ := hfault
  have hcounted := fencedAs_event (fenced_fencedAs (cl := cl) (site := site) hm hc cause) 0x20 2 0xFF (cl * 8 + site) cause
  rw [State.fenceCore, if_neg (fun h => h.elim h0 h3)]
  dsimp only
  rw [← hv]
  split
  · exact fencedAs_event hcounted ..
  · exact hcounted

theorem fenceCore_stays {s : State} {cl site : Nat} (h : s.siteState cl site = 0 ∨ s.siteState cl site = 3) (cause : Nat) :
    s.fenceCore cl site cause = s := if_pos h

/-- Settles O21: every fence is `fenceCore_fencedAs`, or nothing by `fenceCore_stays`. -/
theorem faultsFenceTheCore : Obligations.FaultsFenceTheCore := by
  refine ⟨fun s core cause h0 h3 hsig => ?_, fun s core cause h => ?_, fun s core t hl => ⟨fun hw => ?_, fun hw => ?_⟩,
    fun s core h0 h3 => ?_⟩
  · have h := fenceCore_fencedAs h0 h3 (causeNat cause)
    have hrun : s.coreFault core.c core.s cause = s.fenceCore core.c core.s (causeNat cause) :=
      if_neg fun hc => Bool.false_ne_true (hc.2.symm.trans (hsig hc.1))
    refine ⟨_, congrArg Host.Outcome.next hrun, fun a => congrArg (nget _ · a) h.mem, h.state, h.cause, ?_⟩
    rw [after, h.core]
    exact ⟨rfl, rfl, rfl, rfl, rfl, rfl⟩
  · refine congrArg Host.Outcome.next ?_
    unfold State.coreFault
    split
    · rfl
    · next hc => exact fenceCore_stays (h.elim .inl fun h => h.elim .inr fun h => absurd h hc) _
  · obtain ⟨hsite, -⟩ := liveTask_iff.1 hl
    refine ⟨congrArg Host.Outcome.next ?_, (fenceCore_fencedAs (by omega) (by omega) 3).state⟩
    simp only [State.watchdogFault, hl, hw, if_true]
  · refine congrArg Host.Outcome.next ?_
    simp only [State.watchdogFault, hl, Nat.not_le.2 hw, if_false]
  · have h := fenceCore_fencedAs h0 h3 6
    refine ⟨congrArg Host.Outcome.next ?_, h.state, h.cause⟩
    simp [State.fenceWrite, written, h0]

end Sys2Proof.Machine
end

section
/-! PROOFS. A completion record whose counter is another object too (R473, R501, R508, R529). -/

namespace Sys2Proof.Machine

open Sys2Proof.Claims Sys2Proof.Tests

/-- A committed task of its current holder, of context 4096. -/
def ctx4096Task : Task := { task 0 [0] with ctx := 4096, ended := true, committed := true, current := true }

/-- CL0/0 with that task. Its context's table is that of the tests; its lease refers to version 1 of slot 0, which stands in entry 1
with one reference: REFS of entry 1 and TASKS_DONE of context 4096 are one object. -/
def ctx4096State : State :=
  (leased [(kDev 0x3400 2, 2 ^ 32 - 1), (kDev 0x3400 3, 1), (kSlot 0 7, eCurrent), (kSlot 0 0xA, 1), (kSlot 0 0xD, 1)]
    (only ctx4096Task)).modLease 0 0 none 0 (fun l => { l with bound := some (0, 1) })

/-- The bytes of the record of a task of CL0/0. -/
def recordAt00 (t : Task) : List Byte :=
  toLE 32 (CRec.word { task := dTask t.desc, status := firstCode t.codes, ctx := t.ctx, cluster := 0, site := 0, seq := t.leaseSeq,
                       ev := t.ev, dups := t.dups, stale := 0, time := t.commitTime })

/-- The machine with that record, once the task has left its core. -/
def State.ctx4096Written (s : State) : Except Nat State :=
  let w := (s.leaveCore 0 0).dropLease 0 0 none 0
  w.writeVa (w.accOf 4096) (w.qCompl 0 0 + 0 % w.qSize 0 0 * 32) (recordAt00 ctx4096Task)

/-- What the obligation says of that task's counter. -/
theorem ctx4096_counted (h : Obligations.CompletionRecordsFreeTheCore) {s x : State} (ht : (s.core 0 0).task = some ctx4096Task)
    (hopen : s.commitOpen ctx4096Task = false) (hx : s.ctx4096Written = .ok x) :
    (s.completionRecord 0 0).obj (kCtx 4096 0xD) = wrapAdd48 (x.obj (kCtx 4096 0xD)) 1 := by
  have H := (h s at00 ctx4096Task ht rfl hopen).2 rfl
  extract_lets t' v w bs at H
  have ht' : t' = ctx4096Task := rfl
  have hv : v = s := rfl
  have hbs : bs = recordAt00 ctx4096Task := rfl
  clear_value t' v bs
  subst ht' hv hbs
  obtain ⟨u, hu, -, -, hrec, -⟩ := H
  have hrun : exec (.completionRecord at00) v = .next (v.completionRecord 0 0) := rfl
  rw [Host.Outcome.next.inj (hrun.symm.trans hu)]
  exact (hrec rfl x hx).1

/-- The record is written, and the reference's release takes back what it counts. -/
theorem ctx4096_not_counted : ∃ x, ctx4096State.ctx4096Written = .ok x ∧
    (ctx4096State.completionRecord 0 0).obj (kCtx 4096 0xD) ≠ wrapAdd48 (x.obj (kCtx 4096 0xD)) 1 := by
  have h : (ctx4096State.ctx4096Written.toOption.any fun x =>
      (ctx4096State.completionRecord 0 0).obj (kCtx 4096 0xD) ≠ wrapAdd48 (x.obj (kCtx 4096 0xD)) 1) = true := by decide +kernel
  cases hw : ctx4096State.ctx4096Written with
  | error e =>
    rw [hw] at h
    cases h
  | ok x =>
    rw [hw] at h
    exact ⟨x, rfl, of_decide_eq_true h⟩

/-- Refutes O23: a state may hold a task of any context number, and TASKS_DONE of context 4096 is the object that holds the references
of entry 1 of slot 0, from which the record takes the task's own. -/
theorem not_completionRecordsFreeTheCore : ¬ Obligations.CompletionRecordsFreeTheCore := by
  intro h
  obtain ⟨x, hx, hne⟩ := ctx4096_not_counted
  exact hne (ctx4096_counted h (by decide +kernel) (by decide +kernel) hx)

end Sys2Proof.Machine
end

section
namespace Sys2Proof.Machine

open Sys2Proof.Claims Sys2Proof.Tests

/-- A GATHER of one slice of 1024 elements of FP32 along dimension 1, whose mask stands at 0x1C000, to the blocks of broadcast 5. Its
broadcast has started. -/
def bcastGather : Mv :=
  { mvOf (mv opGather 2 0x8000 (0x1FFFF * 2 ^ 47 + 5 * 2 ^ 30) + 1020 * 2 ^ 844 + 2 ^ 980 + 0x18000 * 2 ^ 192 + 2 ^ 168 +
      0x1C000 * 2 ^ 104) false with sent := 1 }

/-- CL0/0 at the commit of its task, in a module of ID 2 alone in its tree: the index is 5, which names no slice, and the mask's byte
stands at 0xFF. -/
def bcastGathering : State :=
  ((((numbered (committedMv bcastGather)).put (scratchBase + 0x200000 + 0x18000) (toLE 4 5)).put (scratchBase + 0x200000 + 0x1C000)
    [0xFF]).put 0x3000000 (toLE 4 2)).setObj (kDev 0x6000 2) 3 |>.setTable 3 (some ⟨3, 0x40, 16, 0, ⟨0x3000000, .current, 0, 16⟩,
      ⟨0, .free, 0, 0⟩⟩)


/-- What GATHER over the indices `idx` counts when its slices have been moved (R267, R269). -/
def State.gatherCounted (w : State) (t : Task) (m : Mv) (idx : List Int) : State :=
  let eff := idx.map (effIndex (mIdxMode m.desc) (mEff m.desc t.desc (mIdxDim m.desc)))
  (w.idxCount 0 eff).cnt48 (kCl 0 0x80 2) (coalesced (sliceBytes m.desc t.desc) (eff.map (·.1)))

/-- The mask's places there. -/
def State.maskPlaces (x : State) (t : Task) (m : Mv) : Except Nat (List Place) :=
  x.places (x.core 0 0) (x.accMv t m) (.virt 0) true (maskRuns m.desc)

/-- The machine with the mask's bits written at those places. -/
def State.maskWritten (x : State) (t : Task) (m : Mv) (idx : List Int) (mp : List Place) : State :=
  let eff := idx.map (effIndex (mIdxMode m.desc) (mEff m.desc t.desc (mIdxDim m.desc)))
  writePieces x (mp.map (fun p => (p.a, p.n)))
    (maskBytes (xIdxCount m.desc) (eff.map (·.1.isSome)) (mp.flatMap (fun p => x.view p.a p.n)))

theorem byte_of_mem {u v : State} (h : u.mem = v.mem) (a : Nat) : u.byte a = v.byte a := congrArg (nget 0 · a) h

/-- What the obligation says of the memory that a GATHER with a mask leaves. -/
theorem gather_mask_written (h : Obligations.MoverWritesTheDestinationView) {s w : State} {t : Task} {m : Mv} {idx : List Int}
    {mp : List Place} (hm : HeadCommitted s at00 t m [] opGather) (hb : m.bits = none) (ha : xMaskAddr m.desc ≠ 0)
    (hd : mDstSpace m.desc ≠ 1) (he : mvEmpty m.desc t.desc = false) (hl : s.idxLanded 0 0 t m 0 (xIdxCount m.desc) false = true)
    (hi : s.readIdx t m.desc m 0 (xIdxCount m.desc) = .ok idx)
    (hr : s.mvRun 0 0 t m.desc m (gatherJob m.desc t.desc idx) = .done w) (hp : (w.gatherCounted t m idx).maskPlaces t m = .ok mp) :
    (s.moveRow 0 0 opGather).mem = ((w.gatherCounted t m idx).maskWritten t m idx mp).mem := by
  obtain ⟨-, -, h3, -⟩ := h
  obtain ⟨u, hu, hmem⟩ := h3 s at00 t m [] idx w mp hm hb ha hd he hl hi hr hp
  have hrun : exec (.gather at00) s = .next (s.moveRow 0 0 opGather) := rfl
  rw [Host.Outcome.next.inj (hrun.symm.trans hu)]
  exact hmem

/-- The slices have left, and the mask's bits would clear the bit of position 0. -/
theorem bcastGather_mask : ∃ w mp,
    bcastGathering.mvRun 0 0 (doneMvTask bcastGather) bcastGather.desc bcastGather (gatherJob bcastGather.desc 0 [5]) = .done w ∧
    (w.gatherCounted (doneMvTask bcastGather) bcastGather [5]).maskPlaces (doneMvTask bcastGather) bcastGather = .ok mp ∧
    ((w.gatherCounted (doneMvTask bcastGather) bcastGather [5]).maskWritten (doneMvTask bcastGather) bcastGather [5] mp).byte
      (scratchBase + 0x200000 + 0x1C000) = 0xFE := by
  have h : (match bcastGathering.mvRun 0 0 (doneMvTask bcastGather) bcastGather.desc bcastGather (gatherJob bcastGather.desc 0 [5]) with
      | .done w => ((w.gatherCounted (doneMvTask bcastGather) bcastGather [5]).maskPlaces (doneMvTask bcastGather)
          bcastGather).toOption.any fun mp =>
            ((w.gatherCounted (doneMvTask bcastGather) bcastGather [5]).maskWritten (doneMvTask bcastGather) bcastGather [5] mp).byte
              (scratchBase + 0x200000 + 0x1C000) = 0xFE
      | _ => false) = true := by decide +kernel
  split at h
  · next w hw =>
    cases hp : (w.gatherCounted (doneMvTask bcastGather) bcastGather [5]).maskPlaces (doneMvTask bcastGather) bcastGather with
    | error e =>
      rw [hp] at h
      cases h
    | ok mp =>
      rw [hp] at h
      exact ⟨w, mp, hw, hp, of_decide_eq_true h⟩
  · cases h

/-- The broadcast has left, so the descriptor only finishes. -/
theorem bcastGather_finishes : (bcastGathering.moveRow 0 0 opGather).byte (scratchBase + 0x200000 + 0x1C000) = 0xFF := by
  decide +kernel

/-- Refutes O35: a GATHER whose broadcast has started only waits for its packets and finishes, and the bits of its mask, which its
start left out, are never written. -/
theorem not_moverWritesTheDestinationView : ¬ Obligations.MoverWritesTheDestinationView := by
  intro h
  obtain ⟨w, mp, hr, hp, hbyte⟩ := bcastGather_mask
  have hm : HeadCommitted bcastGathering at00 (doneMvTask bcastGather) bcastGather [] opGather :=
    ⟨.inl (by decide +kernel), by decide +kernel, by decide +kernel, rfl, rfl, by decide +kernel, by decide +kernel⟩
  have hmem := gather_mask_written h hm (by decide +kernel) (by decide +kernel) (by decide +kernel) (by decide +kernel) (by decide +kernel)
    (idx := [5]) (by decide +kernel) hr hp
  have hff := bcastGather_finishes
  rw [byte_of_mem hmem, hbyte] at hff
  exact absurd hff (by decide)

end Sys2Proof.Machine
end

section
/-! PROOFS. Fills of a ring, landed reads and delta passes (R127, R244, R357, R556). -/

namespace Sys2Proof.Machine

open Sys2Proof.Claims

/-! ### Writes of one core -/

/-- Memory and every other core stand as they stood, and the core at a site is `c`. -/
structure CoreWrites (s u : State) (cl site : Nat) (c : CoreSt) : Prop where
  mem : u.mem = s.mem
  others : ∀ n, n ≠ cl * 8 + site → nget CoreSt.empty u.cores n = nget CoreSt.empty s.cores n
  core : u.core cl site = c

section
variable {s u v : State} {cl site : Nat} {c : CoreSt}

theorem CoreWrites.refl (s : State) (cl site : Nat) : CoreWrites s s cl site (s.core cl site) := ⟨rfl, fun _ _ => rfl, rfl⟩

theorem CoreWrites.same (h : CoreWrites s u cl site c) (hm : v.mem = u.mem) (hc : v.cores = u.cores) : CoreWrites s v cl site c :=
  ⟨hm.trans h.mem, fun n hn => by rw [hc, h.others n hn], by rw [State.core, hc]; exact h.core⟩

theorem CoreWrites.setObj (h : CoreWrites s u cl site c) (k x : Nat) : CoreWrites s (u.setObj k x) cl site c := h.same rfl rfl

theorem CoreWrites.modCore (h : CoreWrites s u cl site c) (f : CoreSt → CoreSt) : CoreWrites s (u.modCore cl site f) cl site (f c) :=
  ⟨h.mem, fun n hn => (nget_nmod_ne _ _ hn _).trans (h.others n hn), by rw [State.core_modCore_same, h.core]⟩

theorem CoreWrites.modTask (h : CoreWrites s u cl site c) (f : Task → Task) :
    CoreWrites s (u.modTask cl site f) cl site { c with task := c.task.map f } := h.modCore _

theorem CoreWrites.mvCnt (h : CoreWrites s u cl site c) (k sub n : Nat) : CoreWrites s (u.mvCnt k sub n) cl site c := by
  unfold State.mvCnt
  split
  · exact h
  · exact h.setObj ..

theorem CoreWrites.mvCntOnce (h : CoreWrites s u cl site c) (k : Nat) (m : Mv) (n : Nat) :
    CoreWrites s (u.mvCntOnce k m n) cl site c := by
  unfold State.mvCntOnce
  split
  · exact h.mvCnt ..
  · exact h

theorem CoreWrites.idxCount (h : CoreWrites s u cl site c) (k : Nat) (l : List (Option Nat × Nat)) :
    CoreWrites s (u.idxCount k l) cl site c := ((h.mvCnt ..).mvCnt ..).mvCnt ..

theorem CoreWrites.foldl {β : Type} {f : State → β → State} (hf : ∀ u x, CoreWrites s u cl site c → CoreWrites s (f u x) cl site c)
    (h : CoreWrites s u cl site c) (l : List β) : CoreWrites s (l.foldl f u) cl site c := by
  induction l generalizing u with
  | nil => exact h
  | cons x l ih => exact ih (hf u x h)

theorem CoreWrites.countReads (h : CoreWrites s u cl site c) (l : List Place) :
    CoreWrites s (l.foldl (fun s p => if p.sram then s else s.countRd p.a p.n) u) cl site c := by
  refine CoreWrites.foldl (fun u p hu => ?_) h l
  split
  · exact hu
  · refine CoreWrites.foldl (fun u q hu => ?_) hu _
    split
    · exact hu.setObj ..
    · exact hu

end

/-! ### What a fill leaves of its core -/

theorem releaseRead_ringsOnly (c : CoreSt) (d : Nat) (runs : List (Nat × Nat)) : RingsOnly c (c.releaseRead d runs) := by
  dsimp only [CoreSt.releaseRead]
  split
  · exact .refl c
  · exact RingsOnly.foldl id (fun c k => ⟨_, rfl⟩) c _

/-- The core once the slabs that a fill has read are released. -/
def CoreSt.fillRead (c : CoreSt) (d : Nat) (r : Moved) : CoreSt := if r.upto.isNone then c.releaseRead d r.srcRuns else c

theorem fillRead_ringsOnly (c : CoreSt) (d : Nat) (r : Moved) : RingsOnly c (c.fillRead d r) := by
  unfold CoreSt.fillRead
  split
  · exact releaseRead_ringsOnly ..
  · exact .refl c

/-- The slabs that a fill queues on a core. -/
def CoreSt.fillSlabs (c : CoreSt) (m : Mv) (r : Moved) : List Delivery :=
  mvDeliveries c m.desc m (runsEnd ((mDstView m.desc).runs (mDstExt m.desc 0 false))) r

/-- The core once a fill has queued its slabs. -/
def CoreSt.filled (c : CoreSt) (m : Mv) (r : Moved) : CoreSt :=
  { c.fillRead m.desc r with
    deliveries := (c.fillRead m.desc r).deliveries ++ (c.fillRead m.desc r).fillSlabs m r
    task := (c.fillRead m.desc r).task.map (fun t => { t with ev := t.ev.count r.ev }) }

/-- How a fill that leaves the machine `w` ends. -/
def fillEnd (r : Moved) (w : State) : MoveRes :=
  match r.upto with
  | some k => .part k w
  | none => .done w

/-- The attempt to run a fill has queued its slabs. -/
def Fills (s : State) (core : CoreId) (m : Mv) (r : Moved) (x : MoveRes) : Prop :=
  ∃ w, x = fillEnd r w ∧ CoreWrites s w core.c core.s ((s.core core.c core.s).filled m r)

section
variable {s v : State} {core : CoreId} {t : Task} {m : Mv} {r : Moved} {j : Job}

/-- A fill that has computed `r` queues its slabs. -/
theorem mvWrite_fills (hv : CoreWrites s v core.c core.s (s.core core.c core.s)) (hd : mDstSpace m.desc = 1)
    (hsum : mGen m.desc = 2 → ((s.core core.c core.s).slabSums m.desc t.desc).isSome = true) :
    Fills s core m r (v.mvWrite core.c core.s t m.desc m (runsEnd ((mDstView m.desc).runs (mDstExt m.desc 0 false))) r) := by
  have hsums : (if mGen m.desc = 2 then (v.core core.c core.s).slabSums m.desc t.desc else some []).isNone = false := by
    rw [hv.core]
    split
    · next h => exact Option.isNone_eq_false_iff.2 (hsum h)
    · rfl
  have hread : CoreWrites s (if r.upto.isNone then r.srcPlaces.foldl (fun s p => if p.sram then s else s.countRd p.a p.n) v else v)
      core.c core.s (s.core core.c core.s) := by
    split
    · exact hv.countReads _
    · exact hv
  unfold State.mvWrite
  simp only [hsums, hd, Bool.false_eq_true, if_false, if_true]
  generalize (if r.upto.isNone then r.srcPlaces.foldl (fun s p => if p.sram then s else s.countRd p.a p.n) v else v) = x at hread ⊢
  have hfill : CoreWrites s (if r.upto.isNone then x.modCore core.c core.s (fun c => c.releaseRead m.desc r.srcRuns) else x)
      core.c core.s ((s.core core.c core.s).fillRead m.desc r) := by
    unfold CoreSt.fillRead
    split
    · exact hread.modCore _
    · exact hread
  generalize (if r.upto.isNone then x.modCore core.c core.s (fun c => c.releaseRead m.desc r.srcRuns) else x) = y at hfill ⊢
  have hlast := ((hfill.modCore (fun c => { c with deliveries := c.deliveries ++ (y.core core.c core.s).fillSlabs m r })).modTask
    (fun t => { t with ev := t.ev.count r.ev })).setObj
  rw [hfill.core] at hlast ⊢
  unfold Fills fillEnd
  cases r.upto with
  | none => exact ⟨_, rfl, hlast _ _⟩
  | some k => exact ⟨_, rfl, hlast _ _⟩

theorem mvRun_fills (hv : CoreWrites s v core.c core.s (s.core core.c core.s)) (hd : mDstSpace m.desc = 1)
    (he : mvEmpty m.desc t.desc = false) (hr : v.mvCompute core.c (s.core core.c core.s) t m.desc m j = .inr r)
    (hsum : mGen m.desc = 2 → ((s.core core.c core.s).slabSums m.desc t.desc).isSome = true) :
    Fills s core m r (v.mvRun core.c core.s t m.desc m j) := by
  have h := mvWrite_fills (r := r) hv hd hsum
  unfold State.mvRun
  simp only [he, hv.core, hr, hd, Bool.false_eq_true, if_false, show ¬(1 = 2) by decide]
  exact h

end

/-! ### The operations that fill a ring with a view of elements -/

/-- What a descriptor reads beside its source has landed when it computes (R556). -/
theorem mvCompute_reads_landed {s : State} {cl : Nat} {c : CoreSt} {t : Task} {d : Nat} {m : Mv} {j : Job} {r : Moved}
    (h : s.mvCompute cl c t d m j = .inr r) : ∃ xp, s.places c (s.accMv t m) (.virt 0) false j.reads = .ok xp ∧ s.landedAll cl xp = true := by
  unfold State.mvCompute at h
  extract_lets dv dstRuns acc p sv srcRuns src dst ext mask chk addr sz rs e at h
  have hext : s.places c (s.accMv t m) (.virt 0) false j.reads = ext := rfl
  clear_value src dst ext mask
  split at h
  · cases h
  · split at h
    · next sp dp xp mp =>
      refine ⟨xp, hext, ?_⟩
      extract_lets all at h
      by_contra hl
      rw [Bool.not_eq_true] at hl
      rw [hl, Bool.not_false, if_pos rfl] at h
      split at h
      · cases h
      · split at h
        · cases h
        · split at h
          · cases h
          · cases h
    · cases h

theorem idxLanded_of_places {s : State} {cl site : Nat} {t : Task} {m : Mv} {n : Nat} {mask : Bool} {xp : List Place}
    (h : s.places (s.core cl site) (s.accMv t m) (.virt 0) false ((xIdxAddr m.desc, 4 * n) ::
      (if mask && xMaskAddr m.desc ≠ 0 then [(xMaskAddr m.desc, cdiv n 8)] else [])) = .ok xp) (hl : s.landedAll cl xp = true) :
    s.idxLanded cl site t m 0 n mask = true := by
  have hp : s.idxPlaces cl site t m 0 n mask = xp := by
    simp only [State.idxPlaces, Nat.mul_zero, Nat.add_zero, Nat.zero_div, h]
  rw [State.idxLanded, hp, hl]

section
variable {s v : State} {core : CoreId} {t : Task} {m : Mv} {r : Moved} {j : Job}

theorem runMove_fill (h : mOp m.desc = opFill) (cl site : Nat) : s.runMove cl site t m = s.runFill cl site t m.desc m := by
  simp [State.runMove, h, opFill, opCopy]

theorem runMove_copy (h : mOp m.desc = opCopy) (cl site : Nat) : s.runMove cl site t m = s.runCopy cl site t m.desc m := by
  simp [State.runMove, h]

theorem runMove_gather (h : mOp m.desc = opGather) (cl site : Nat) : s.runMove cl site t m = s.runGather cl site t m.desc m := by
  simp [State.runMove, h, opFill, opCopy, opGather]

theorem runMove_scatter (h : mOp m.desc = opScatter) (cl site : Nat) : s.runMove cl site t m = s.runScatter cl site t m.desc m := by
  simp [State.runMove, h, opFill, opCopy, opGather, opScatter]

theorem runMove_pad (h : mOp m.desc = opPad) (cl site : Nat) : s.runMove cl site t m = s.mvRun cl site t m.desc m (padJob m.desc t.desc) := by
  simp [State.runMove, h, opFill, opCopy, opGather, opScatter, isWindowOp, opPad]

theorem runMove_crop (h : mOp m.desc = opCrop) (cl site : Nat) : s.runMove cl site t m = s.runCrop cl site t m.desc m := by
  simp [State.runMove, h, opFill, opCopy, opGather, opScatter, isWindowOp, opPad, opCrop]

theorem runMove_resample (h : mOp m.desc = opUp2 ∨ mOp m.desc = opDown2) (cl site : Nat) :
    s.runMove cl site t m = s.mvRun cl site t m.desc m (resampleJob m.desc t.desc) := by
  rcases h with h | h
  · simp [State.runMove, h, opFill, opCopy, opGather, opScatter, isWindowOp, opPad, opCrop, opUp2]
  · simp [State.runMove, h, opFill, opCopy, opGather, opScatter, isWindowOp, opPad, opCrop, opDown2]

/-- An attempt with more work done where it has finished. -/
def MoveRes.andDone (g : State → State) : MoveRes → MoveRes
  | .done w => .done (g w)
  | x => x

theorem runGather_eq {idx : List Int} (he : mvEmpty m.desc t.desc = false) {cl site : Nat}
    (hl : s.idxLanded cl site t m 0 (xIdxCount m.desc) false = true) (hi : s.readIdx t m.desc m 0 (xIdxCount m.desc) = .ok idx) :
    s.runGather cl site t m.desc m = (s.mvRun cl site t m.desc m (gatherJob m.desc t.desc idx)).andDone (fun w =>
      let eff := idx.map (effIndex (mIdxMode m.desc) (mEff m.desc t.desc (mIdxDim m.desc)))
      ((w.idxCount cl eff).cnt48 (kCl cl 0x80 2) (coalesced (sliceBytes m.desc t.desc) (eff.map (·.1)))).gatherMask cl site t m
        (eff.map (·.1.isSome))) := by
  unfold State.runGather
  simp only [he, hl, hi, Bool.false_eq_true, if_false, Bool.not_true] <;> rfl

theorem runScatter_eq {eff : List (Option (Option Nat × Nat))} (he : mvEmpty m.desc t.desc = false) {cl site : Nat}
    (hl : s.idxLanded cl site t m 0 (xIdxCount m.desc) true = true) (hi : s.scatterEff t m.desc m 0 (xIdxCount m.desc) = .ok eff) :
    s.runScatter cl site t m.desc m =
      (s.mvRun cl site t m.desc m (scatterJob m.desc t.desc eff)).andDone (fun w => w.idxCount cl (eff.filterMap id)) := by
  unfold State.runScatter
  simp only [he, hl, hi, Bool.false_eq_true, if_false, Bool.not_true] <;> rfl

/-- Work done after a fill has made its last slab, which leaves memory and cores alone. -/
theorem Fills.andDone {x : MoveRes} (h : Fills s core m r x) {g : State → State}
    (hg : ∀ w c, CoreWrites s w core.c core.s c → CoreWrites s (g w) core.c core.s c) : Fills s core m r (x.andDone g) := by
  obtain ⟨w, rfl, hc⟩ := h
  unfold Fills fillEnd
  cases r.upto with
  | none => exact ⟨g w, rfl, hg w _ hc⟩
  | some k => exact ⟨w, rfl, hc⟩

theorem scatterJob_reads (d desc : Nat) (eff : List (Option (Option Nat × Nat))) :
    (scatterJob d desc eff).reads = idxReads d ++ maskRuns d := by
  unfold scatterJob
  dsimp only
  split
  · rfl
  · rfl

/-- A page fill whose header and entries can be read runs its job (R338). -/
theorem pageFill_eq {pa : Nat} {keys : List Nat}
    (hkeys : (pageKeys m.desc t.desc).filter (fun k => klLimit (mSrcAddr m.desc) = 0 || k < klLimit (mSrcAddr m.desc)) = keys)
    (hp : s.touchesPoison pa 64 = false) (hv : s.unverified [⟨false, pa, 64⟩] = none) (hb : pageBad m.desc (s.pageHdr pa) = false)
    (hk : ∀ k ∈ keys, k < phKeys (s.pageHdr pa) → bitAt (s.pageEntry pa k) 63 = true ∧
      s.touchesPoison (pa + 64 + 8 * (k / 64)) 8 = false)
    (he : s.unverified (((keys.filter (· < phKeys (s.pageHdr pa))).map (fun k => (pa + 64 + 8 * (k / 64), 8))).map
      (fun p => ⟨false, p.1, p.2⟩)) = none) :
    s.pageFill core.c core.s t m.desc m pa =
      (s.mvCntOnce core.c m (keys.filter (fun k => phKeys (s.pageHdr pa) ≤ k)).length).mvRun core.c core.s t m.desc m
        { copyJob m.desc t.desc with picks := fun i =>
            [(s.mvCntOnce core.c m (keys.filter (fun k => phKeys (s.pageHdr pa) ≤ k)).length).pagePick m.desc pa i] } := by
  have h63 : keys.any (fun k => k < phKeys (s.pageHdr pa) && !bitAt (s.pageEntry pa k) 63) = false := by
    refine List.any_eq_false.2 fun k hm => ?_
    by_cases hl : k < phKeys (s.pageHdr pa)
    · simp [(hk k hm hl).1]
    · simp [hl]
  have hpoison : keys.any (fun k => k < phKeys (s.pageHdr pa) && s.touchesPoison (pa + 64 + 8 * (k / 64)) 8) = false := by
    refine List.any_eq_false.2 fun k hm => ?_
    by_cases hl : k < phKeys (s.pageHdr pa)
    · simp [(hk k hm hl).2]
    · simp [hl]
  unfold State.pageFill
  simp only [List.map_cons, List.map_nil, hp, hv, hb, hkeys, h63, hpoison, he, Option.isSome_none, Bool.false_eq_true, if_false]

/-- Each operation that fills a ring with a view of elements runs its job over it. -/
theorem jobOps_fills {p : (CoreId → Instr) × Nat × (State → CoreId → Task → Mv → State → Job → Prop)} (hp : p ∈ jobOps)
    (hop : mOp m.desc = p.2.1) (hj : p.2.2 s core t m v j) (hd : mDstSpace m.desc = 1) (he : mvEmpty m.desc t.desc = false)
    (hr : v.mvCompute core.c (s.core core.c core.s) t m.desc m j = .inr r)
    (hsum : mGen m.desc = 2 → ((s.core core.c core.s).slabSums m.desc t.desc).isSome = true) :
    Fills s core m r (s.runMove core.c core.s t m) := by
  have hself := CoreWrites.refl s core.c core.s
  simp only [jobOps, List.mem_cons, List.not_mem_nil, or_false] at hp
  rcases hp with rfl | rfl | rfl | rfl | rfl | rfl | rfl | rfl
  · obtain ⟨rfl, rfl⟩ := hj
    rw [runMove_fill hop]
    exact mvRun_fills hself hd he hr hsum
  · rw [runMove_copy hop]
    unfold State.runCopy
    rcases hj with ⟨hb, rfl, rfl⟩ | ⟨pa, hb, hp1, hp2, hp3, hkeys, hp4, rfl, rfl⟩
    · split
      · next pa h => exact absurd rfl (hb _ h)
      · exact mvRun_fills hself hd he hr hsum
    · have hrun := mvRun_fills (hself.mvCntOnce core.c m _) hd he hr hsum
      simp only [hb]
      rw [pageFill_eq rfl hp1 hp2 hp3 hkeys hp4]
      exact hrun
  · obtain ⟨rfl, rfl⟩ := hj
    rw [runMove_pad hop]
    exact mvRun_fills hself hd he hr hsum
  · obtain ⟨rfl, rfl⟩ := hj
    rw [runMove_resample (.inl hop)]
    exact mvRun_fills hself hd he hr hsum
  · obtain ⟨rfl, rfl⟩ := hj
    rw [runMove_resample (.inr hop)]
    exact mvRun_fills hself hd he hr hsum
  · obtain ⟨rfl, hmask, idx, hidx, rfl⟩ := hj
    obtain ⟨xp, hx, hl⟩ := mvCompute_reads_landed hr
    rw [runMove_gather hop, runGather_eq he (idxLanded_of_places hx hl) hidx]
    refine (mvRun_fills hself hd he hr hsum).andDone fun w c hc => ?_
    rw [State.gatherMask, if_pos hmask]
    exact (hc.idxCount core.c _).setObj _ _
  · obtain ⟨rfl, eff, heff, rfl⟩ := hj
    obtain ⟨xp, hx, hl⟩ := mvCompute_reads_landed hr
    have hreads : (scatterJob m.desc t.desc eff).reads = (xIdxAddr m.desc, 4 * xIdxCount m.desc) ::
        (if true && xMaskAddr m.desc ≠ 0 then [(xMaskAddr m.desc, cdiv (xIdxCount m.desc) 8)] else []) := by
      rw [scatterJob_reads, idxReads, maskRuns]
      by_cases hz : xMaskAddr m.desc = 0
      · simp [hz]
      · simp [hz]
    rw [hreads] at hx
    rw [runMove_scatter hop, runScatter_eq he (idxLanded_of_places hx hl) heff]
    exact (mvRun_fills hself hd he hr hsum).andDone fun w c hc => hc.idxCount core.c _
  · obtain ⟨id, e, tb, hbox, htb, hlen, hp1, hp2, rfl, rfl⟩ := hj
    have hrun := mvRun_fills (hself.mvCntOnce core.c m _) hd he hr hsum
    rw [runMove_crop hop]
    unfold State.runCrop
    simp only [hbox, htb, Nat.not_lt.2 hlen, hp1, hp2, if_false, Bool.false_eq_true]
    exact hrun

/-- The head of a task's issued descriptors has filled its ring. -/
theorem runHead_filled {rest : List Mv} (h : Fills s core m r (s.runMove core.c core.s t m)) (ht : (s.core core.c core.s).task = some t)
    (hc : t.codes = []) : RingFilled s (s.runHead core.c core.s t m rest) core t (fillDeliveries s core m r) (fillLeft m rest r) r.ev := by
  obtain ⟨w, hw, hcw⟩ := h
  obtain ⟨rs, hrs⟩ := fillRead_ringsOnly (s.core core.c core.s) m.desc r
  have hrun : CoreWrites s (s.runHead core.c core.s t m rest) core.c core.s { (s.core core.c core.s).filled m r with
      task := ((s.core core.c core.s).filled m r).task.map (fun t => { t with moves := fillLeft m rest r }) } := by
    have hm := hcw.modTask (fun t => { t with moves := fillLeft m rest r })
    unfold State.runHead
    rw [hw]
    unfold fillLeft at hm
    unfold fillEnd fillLeft
    cases hu : r.upto with
    | none =>
      rw [hu] at hm
      exact hm.same (unrefMoves_mem ..) (unrefMoves_cores ..)
    | some k =>
      rw [hu] at hm
      exact hm
  refine ⟨fun a => congrArg (nget _ · a) hrun.mem, ?_, ?_, ⟨{ t with ev := t.ev.count r.ev, moves := fillLeft m rest r }, ?_, rfl, hc, rfl⟩,
    hrun.others⟩
  · rw [after, hrun.core]
    exact congrArg (· ++ fillDeliveries s core m r) (by rw [hrs])
  · rw [after, hrun.core]
    have hsram : ((s.core core.c core.s).fillRead m.desc r).sram = (s.core core.c core.s).sram := by rw [hrs]
    exact hsram
  · rw [after, hrun.core]
    simp [CoreSt.filled, hrs, ht]

theorem moveRow_issued {rest : List Mv} {op : Nat} (h : HeadIssued s core t m rest op) :
    s.moveRow core.c core.s op = s.runHead core.c core.s t m rest := by
  obtain ⟨hready, hserves, htask, hopen, hgood, hlist, hop⟩ := h
  have hstate : (s.moduleState ≠ 3 && s.moduleState ≠ 4) = false := by
    rcases hready with h | h
    · simp [h]
    · simp [h]
  unfold State.moveRow
  simp only [hstate, hserves, htask, hopen, hgood, hlist, hop, Bool.not_true, Bool.or_self, List.isEmpty_nil, Bool.false_eq_true,
    if_false, if_true]

end

/-! ### LANDED_READ -/

/-- The command of each of the mover's operations takes the mover's next step. -/
theorem exec_moverOp {p : (CoreId → Instr) × Nat} (hp : p ∈ moverOps ++ [(Instr.scatterAdd, opScatterAdd)]) (core : CoreId) (s : State) :
    exec (p.1 core) s = .next (s.moveRow core.c core.s p.2) := by
  simp only [moverOps, List.mem_append, List.mem_cons, List.not_mem_nil, or_false] at hp
  rcases hp with (rfl | rfl | rfl | rfl | rfl | rfl | rfl | rfl | rfl | rfl) | rfl
  all_goals rfl

theorem landedRead_takes {s : State} {cl k g : Nat} {t : Task} {m : Mv} (hg : nget false s.fab.landed (cl * 2 ^ 18 + g) = true)
    (hk : (List.range 8).find? (fun k => s.readsGranule cl k g) = some k) (hm : s.headMove cl k = some (t, m)) :
    s.landedRead cl g = s.moveRow cl k (mOp m.desc) := by
  simp only [State.landedRead, hg, hk, hm, Bool.not_true, Bool.false_eq_true, if_false]

theorem headMove_issued {s : State} {core : CoreId} {t : Task} {m : Mv} {rest : List Mv} {op : Nat}
    (h : HeadIssued s core t m rest op) : s.headMove core.c core.s = some (t, m) := by
  simp [State.headMove, h.task, h.open_, h.list]

/-! ### DELTA_TASK -/

/-- A delta pass stages its outputs, stamps and counts (R357). -/
theorem deltaPass_stages {s : State} {core : CoreId} {t : Task} {r h : Nat} {d : DeltaOut} (hl : s.liveTask core.c core.s = some t)
    (hd : t.isDelta = true) (hend : t.ended = true) (hg : t.gDone = false) (hr : t.glide = some r)
    (hh : s.readVaNat (s.accTask t (s.xlatTag t.ctx)) (glState r) 64 = .ok h) (hbad : deltaBad r h = false)
    (hm : extM (extWord t.desc 0) ≤ ghM h)
    (hall : s.deltaAll (s.accTask t (s.xlatTag t.ctx)) r h (glideFull r h) (extM (extWord t.desc 0))
      ((List.range (glRowbs r)).map (fun i => glRowb0 r + i)) ⟨[], [], [], .none, [0, 0, 0, 0, 0, 0]⟩ = .ok d) :
    s.deltaPass core.c core.s = (s.modTask core.c core.s (fun t => { t with
      gFull := glideFull r h, gDone := true, gOut := d.out,
      gTabs := d.tabs ++ (if glideFull r h then [(glState r, toLE 64 (fullHeader r h))] else []), gStamps := d.stamps,
      gCounts := d.counts })).taskEv core.c core.s d.ev := by
  have hif : (if t.isDelta && t.ended && !t.gDone then t.glide else none) = some r := by simp [hd, hend, hg, hr]
  unfold State.deltaPass
  simp only [hl, hif, hh, hbad, Nat.not_lt.2 hm, hall, Bool.false_eq_true, if_false]

/-- Settles O36: a landed read is the descriptor's own step, which fills its ring by `jobOps_fills`; a delta pass by
`deltaPass_stages`. -/
theorem landedReadsAndDeltaPasses : Obligations.LandedReadsAndDeltaPasses := by
  refine ⟨fun s cl g hg => ?_, fun s cl site g t m hg hk hm p hp hop => ?_, fun p hp s cl site g t m rest v j r hg hk hi hj hd he hr hsum => ?_,
    fun s core t r h d hl hd hend hgd hr hh hbad hm hall => ?_⟩
  · refine congrArg Host.Outcome.next ?_
    simp only [State.landedRead, hg, Bool.not_false, if_true]
  · refine ⟨_, congrArg Host.Outcome.next (landedRead_takes hg hk hm), ?_⟩
    rw [hop]
    exact exec_moverOp hp ⟨cl, site⟩ s
  · have hrun : s.landedRead cl.val g.val = s.runHead cl.val site.val t m rest := by
      rw [landedRead_takes hg hk (headMove_issued (core := ⟨cl, site⟩) hi), hi.op]
      exact moveRow_issued (core := ⟨cl, site⟩) hi
    exact ⟨_, congrArg Host.Outcome.next hrun, runHead_filled (core := ⟨cl, site⟩) (jobOps_fills hp hi.op hj hd he hr hsum) hi.task hi.good⟩
  · refine ⟨_, { t with
      gFull := glideFull r h, gDone := true, gOut := d.out,
      gTabs := d.tabs ++ (if glideFull r h then [(glState r, toLE 64 (fullHeader r h))] else []), gStamps := d.stamps,
      gCounts := d.counts, ev := t.ev.count d.ev }, congrArg Host.Outcome.next (deltaPass_stages hl hd hend hgd hr hh hbad hm hall),
      fun a => rfl, rfl, ?_, rfl, rfl, rfl, rfl, rfl, rfl, rfl⟩
    rw [after, taskEv_core, State.core_modTask_same, liveTask_task hl]
    rfl

end Sys2Proof.Machine
end

section
/-! PROOFS. The words of the vector engine on registers and masks (R161 to R163, R167 to R173, R176 to R179): which operation each
command runs, what it leaves of the core, and the words that write a register or a mask. -/

namespace Sys2Proof.Machine

open Sys2Proof.Claims

/-! ### What a word leaves -/

/-- A word counted `ops` and left what its operation left, `z`: the core that `z` holds, its events and its counts (R203). -/
structure Leaves (s u : State) (core : CoreId) (t : Task) (ops : Nat) (z : VRes) : Prop where
  frame : VecFrame s u core t ops z.ev
  left : after u core = { z.c with wdCount := 0, task := (after u core).task }
  sfu : u.obj (kCore core.c core.s 2 2) = wrapAdd48 (s.obj (kCore core.c core.s 2 2)) z.sfu
  rows : u.obj (kCore core.c core.s 2 3) = wrapAdd48 (s.obj (kCore core.c core.s 2 3)) z.rows
  bad : u.obj (kCore core.c core.s 2 4) = satAdd16 (s.obj (kCore core.c core.s 2 4)) z.bad

section
variable {s u : State} {core : CoreId} {t : Task} {ops : Nat} {z : VRes}

/-- What stands after an operation that kept the task on its core. -/
theorem vecDone_leaves (ht : (s.core core.c core.s).task = some t) (hz : z.c.task = (s.core core.c core.s).task) :
    Leaves s (s.vecDone core.c core.s z) core t z.ops z where
  frame := vecDone_vecFrame ht hz
  left := by rw [after, State.vecDone_core]
  sfu := by rw [State.vecDone_obj, if_neg (kCore_ne (by decide)), if_pos rfl]
  rows := by rw [State.vecDone_obj, if_neg (kCore_ne (by decide)), if_neg (kCore_ne (by decide)), if_pos rfl]
  bad := by
    rw [State.vecDone_obj, if_neg (kCore_ne (by decide)), if_neg (kCore_ne (by decide)), if_neg (kCore_ne (by decide)),
      if_pos rfl]

/-- A word whose operation runs leaves what the operation left, and counts once where it is no directive (R203). -/
theorem vecRow_leaves {x : Section} {w code : Nat} (hx : InSection s core t x) (hw : wordOk code w = true)
    (hv : s.vop code (env s core t x) (s.core core.c core.s) w = z) (hz : z.stop = none)
    (ht : z.c.task = (s.core core.c core.s).task) :
    Leaves s (s.vecRow core.c core.s code w) core t (if code < 0x100 then 1 else 0) z := by
  obtain ⟨hlive, hsect⟩ := hx
  rw [env] at hv
  rw [State.vecRow_ran hlive hsect hw (by rw [hv]; exact hz), hv]
  have hops : (z.counted (code < 0x100)).ops = if code < 0x100 then 1 else 0 := by
    rw [VRes.counted, VRes.issued_ran hz]
    simp [b2n]
  have h := vecDone_leaves (z := z.counted (code < 0x100)) (State.liveTask_task hlive) ht
  rw [hops] at h
  exact ⟨h.frame, h.left, h.sfu, h.rows, h.bad⟩

/-- The frame of a word whose result is written out. -/
theorem Leaves.frame_mk {c : CoreSt} {ev : Ev} {o sfu bad rows : Nat} {stop : Option (Option Nat)}
    (h : Leaves s u core t ops ⟨c, ev, o, sfu, bad, rows, stop⟩) : VecFrame s u core t ops ev := h.frame

theorem Leaves.vreg (h : Leaves s u core t ops z) (n : Nat) : (after u core).vreg n = z.c.vreg n := by
  rw [h.left]
  rfl

theorem Leaves.mask (h : Leaves s u core t ops z) (n : Nat) : (after u core).mask n = z.c.mask n := by
  rw [h.left]
  rfl

/-- A word that wrote a whole register wrote that register alone. -/
theorem Leaves.setVreg (h : Leaves s u core t ops z) {d : Nat} {f : Nat → Nat}
    (hz : z.c = (s.core core.c core.s).setVreg d ((List.range 256).map f)) :
    OnlyVreg (s.core core.c core.s) (after u core) d ∧ ∀ i, i < 256 → nth 0 ((after u core).vreg d) i = f i % 2 ^ 32 := by
  refine ⟨⟨fun n hn => ?_, ?_⟩, fun i hi => ?_⟩
  · rw [h.vreg, hz, CoreSt.vreg_setVreg_ne _ hn]
  · rw [h.left, hz]
    rfl
  · rw [h.vreg, hz, CoreSt.vreg_setVreg_range _ _ _ hi]

/-- A word that wrote the active lanes of d wrote d alone, and its active lanes alone (R163). -/
theorem Leaves.putLanes (h : Leaves s u core t ops z) {w : Nat} {f : Nat → Nat}
    (hz : z.c = (s.core core.c core.s).putLanes (wK w) (wD w) ((List.range 256).map f)) :
    OnlyVreg (s.core core.c core.s) (after u core) (wD w) ∧ LanesAre (s.core core.c core.s) (after u core) w f := by
  refine ⟨⟨fun n hn => ?_, ?_⟩, fun i hi => ?_⟩
  · rw [h.vreg, hz, CoreSt.putLanes, CoreSt.vreg_setVreg_ne _ hn]
  · rw [h.left, hz]
    rfl
  · rw [h.vreg, hz, CoreSt.vreg_putLanes _ _ _ _ hi]

/-- A word that wrote a mask wrote that mask alone; m0 is never written (R162). -/
theorem Leaves.setMask (h : Leaves s u core t ops z) {d : Nat} {m : BitVec 512} (hz : z.c = (s.core core.c core.s).setMask d m)
    (hd : d ≠ 0) : OnlyMask (s.core core.c core.s) (after u core) d ∧ (after u core).mask d = m := by
  refine ⟨⟨fun n hn => ?_, ?_⟩, ?_⟩
  · rw [h.mask, hz, CoreSt.mask_setMask_ne _ hn]
  · rw [h.left, hz]
    rfl
  · rw [h.mask, hz, CoreSt.mask_setMask_same _ hd]

end

/-! ### Operations that run or stop -/

/-- An operation runs, or it stops at once and leaves the core as it is. -/
def RunsOrHalts (c : CoreSt) (z : VRes) : Prop := z.stop = none ∨ ∃ e, z = .halt c e

section
variable {c : CoreSt} {z y : VRes}

theorem RunsOrHalts.halt (e : Option Nat) : RunsOrHalts c (.halt c e) := .inr ⟨e, rfl⟩

theorem RunsOrHalts.ite {p : Prop} [Decidable p] (hz : RunsOrHalts c z) (hy : RunsOrHalts c y) :
    RunsOrHalts c (if p then z else y) := by
  split
  · exact hz
  · exact hy

/-- An operation whose sources cannot be read stops (R210). -/
theorem RunsOrHalts.sources {v : VEnv} {w n : Nat} {f : List (List Nat) → VRes} (h : ∀ xs, RunsOrHalts c (f xs)) :
    RunsOrHalts c (match c.operands v w n with
      | .error e => .halt c e
      | .ok xs => f xs) := by
  split
  · exact .halt _
  · exact h _

/-- An operation whose bytes cannot be reached stops (R217, R218). -/
theorem RunsOrHalts.reached {o : Option (Option Nat)} (h : RunsOrHalts c z) :
    RunsOrHalts c (match o with
      | some e => .halt c e
      | none => z) := by
  split
  · exact .halt _
  · exact h

end

/-! ### The operation that a command runs -/

/-- A command and its code: the command issues a word with the operation `f` (R167, R212). -/
structure Issues (p : VecCmd × Nat) (f : State → VEnv → CoreSt → Nat → VRes) : Prop where
  exec : ∀ core w s, exec (p.1 core w) s = .next (s.vecRow core.c core.s p.2 w.toNat)
  vop : ∀ s v c n, s.vop p.2 v c n = f s v c n

/-- A word that runs, as a command. -/
theorem Issues.leaves {p : VecCmd × Nat} {f : State → VEnv → CoreSt → Nat → VRes} (h : Issues p f) {s : State} {core : CoreId}
    {t : Task} {x : Section} {w : BitVec 64} {z : VRes} (hx : InSection s core t x) (hw : wordOk p.2 w.toNat = true)
    (hz : f s (env s core t x) (s.core core.c core.s) w.toNat = z) (hstop : z.stop = none)
    (ht : z.c.task = (s.core core.c core.s).task) :
    ∃ u, Machine.exec (p.1 core w) s = .next u ∧ Leaves s u core t (if p.2 < 0x100 then 1 else 0) z :=
  ⟨_, h.exec core w s, vecRow_leaves hx hw ((h.vop ..).trans hz) hstop ht⟩

theorem laneOps_issue {p : VecCmd × Nat × Nat × (List Nat → Nat × Ev)} (hp : p ∈ laneOps) :
    Issues (p.1, p.2.1) (fun _ v c n => c.vLanes p.2.2.1 p.2.2.2 v n) ∧ p.2.1 < 0x100 := by
  simp only [laneOps, List.mem_cons, List.not_mem_nil, or_false] at hp
  rcases hp with rfl | rfl | rfl | rfl | rfl | rfl | rfl | rfl | rfl | rfl | rfl | rfl | rfl | rfl | rfl | rfl | rfl | rfl |
    rfl | rfl | rfl | rfl | rfl | rfl | rfl | rfl | rfl
  all_goals exact ⟨⟨fun _ _ _ => rfl, fun _ _ _ _ => rfl⟩, by decide⟩

theorem sfuOps_issue {p : VecCmd × Nat × SfuFn} (hp : p ∈ sfuOps) :
    Issues (p.1, p.2.1) (fun s v c n => c.vSfu s.tm1 p.2.2 v n) ∧ p.2.1 < 0x100 := by
  simp only [sfuOps, List.mem_cons, List.not_mem_nil, or_false] at hp
  rcases hp with rfl | rfl | rfl | rfl | rfl | rfl
  all_goals exact ⟨⟨fun _ _ _ => rfl, fun _ _ _ _ => rfl⟩, by decide⟩

theorem packedOps_issue {p : VecCmd × Nat × Nat × (List Nat → Nat × Ev)} (hp : p ∈ packedOps) :
    Issues (p.1, p.2.1) (fun _ v c n => c.vPacked p.2.2.1 p.2.2.2 v n) ∧ p.2.1 < 0x100 := by
  simp only [packedOps, List.mem_cons, List.not_mem_nil, or_false] at hp
  rcases hp with rfl | rfl | rfl | rfl | rfl | rfl | rfl
  all_goals exact ⟨⟨fun _ _ _ => rfl, fun _ _ _ _ => rfl⟩, by decide⟩

theorem compareOps_issue {p : VecCmd × Nat × (Nat → Nat → Bool)} (hp : p ∈ compareOps) :
    Issues (p.1, p.2.1) (fun _ v c n => c.vCompare p.2.2 v n) ∧ p.2.1 < 0x100 ∧ opToMask p.2.1 = true := by
  simp only [compareOps, List.mem_cons, List.not_mem_nil, or_false] at hp
  rcases hp with rfl | rfl | rfl | rfl | rfl | rfl
  all_goals exact ⟨⟨fun _ _ _ => rfl, fun _ _ _ _ => rfl⟩, by decide, by decide⟩

/-- Mask logic of 512 bits is its Boolean function, bit by bit. -/
theorem maskOps_issue {p : VecCmd × Nat × (Bool → Bool → Bool)} (hp : p ∈ maskOps) :
    ∃ f, Issues (p.1, p.2.1) (fun _ v c n => c.vMask f v n) ∧ p.2.1 < 0x100 ∧ opToMask p.2.1 = true ∧
      ∀ (a b : BitVec 512) j, j < 512 → (f a b).getLsbD j = p.2.2 (a.getLsbD j) (b.getLsbD j) := by
  simp only [maskOps, List.mem_cons, List.not_mem_nil, or_false] at hp
  rcases hp with rfl | rfl | rfl | rfl | rfl
  · exact ⟨(· &&& ·), ⟨fun _ _ _ => rfl, fun _ _ _ _ => rfl⟩, by decide, by decide, fun _ _ _ _ => BitVec.getLsbD_and⟩
  · exact ⟨(· ||| ·), ⟨fun _ _ _ => rfl, fun _ _ _ _ => rfl⟩, by decide, by decide, fun _ _ _ _ => BitVec.getLsbD_or⟩
  · exact ⟨(· ^^^ ·), ⟨fun _ _ _ => rfl, fun _ _ _ _ => rfl⟩, by decide, by decide, fun _ _ _ _ => BitVec.getLsbD_xor⟩
  · exact ⟨fun a b => a &&& ~~~b, ⟨fun _ _ _ => rfl, fun _ _ _ _ => rfl⟩, by decide, by decide, fun a b j hj => by simp [hj]⟩
  · exact ⟨fun a _ => ~~~a, ⟨fun _ _ _ => rfl, fun _ _ _ _ => rfl⟩, by decide, by decide, fun a b j hj => by simp [hj]⟩

/-! ### Operations whose sources can be read -/

section
variable {v : VEnv} {c : CoreSt} {w n : Nat} {xs : List (List Nat)}

/-- A lane operation writes its active lanes, whose events it counts (R163, R178). -/
theorem vLanes_ok (hread : c.operands v w n = .ok xs) (f : List Nat → Nat × Ev) :
    c.vLanes n f v w = .ok (c.putLanes (wK w) (wD w) ((List.range 256).map (fun i =>
        (if c.active (wK w) i then f (laneOf xs i) else (0, Ev.none)).1)))
      (Ev.sum ((List.range 256).map (fun i => if c.active (wK w) i then (f (laneOf xs i)).2 else Ev.none))) := by
  simp only [CoreSt.vLanes, hread, List.map_map, Function.comp_def, apply_ite Prod.snd]

theorem vSfu_ok (hread : c.operands v w 1 = .ok xs) (tm1 : Bool) (fn : SfuFn) :
    c.vSfu tm1 fn v w = ⟨c.putLanes (wK w) (wD w) ((List.range 256).map (fun i =>
        (if c.active (wK w) i then lSfu tm1 fn (laneOf xs i) else (0, Ev.none)).1)),
      Ev.sum ((List.range 256).map (fun i => if c.active (wK w) i then (lSfu tm1 fn (laneOf xs i)).2 else Ev.none)),
      0, ((List.range 256).filter (c.active (wK w))).length, 0, 0, none⟩ := by
  simp only [CoreSt.vSfu, vLanes_ok hread, VRes.ok, Option.isSome_none, Bool.false_eq_true, if_false]

/-- A half-lane of a packed operation: rounded where it is active, as it stood elsewhere (R163, R173). -/
def packedHalf (c : CoreSt) (f : List Nat → Nat × Ev) (w : Nat) (xs : List (List Nat)) (j : Nat) : Nat :=
  if c.activeH (wK w) j then (f (xs.map (fun x => halfOf x j))).1 else halfOf (c.vreg (wD w)) j

theorem vPacked_ok (hread : c.operands v w n = .ok xs) (f : List Nat → Nat × Ev) :
    ∃ ev, c.vPacked n f v w = .ok (c.setVreg (wD w) ((List.range 256).map (fun i =>
      packedHalf c f w xs (2 * i) + 65536 * packedHalf c f w xs (2 * i + 1)))) ev := by
  simp only [CoreSt.vPacked, hread]
  refine ⟨_, congrArg₂ VRes.ok (congrArg (c.setVreg (wD w)) (List.map_congr_left fun i hi => ?_)) rfl⟩
  have hi := List.mem_range.1 hi
  rw [nth_map_range _ _ (by omega), nth_map_range _ _ (by omega)]
  simp only [packedHalf, apply_ite Prod.fst]

theorem vCompare_ok (hread : c.operands v w 2 = .ok xs) (f : Nat → Nat → Bool) :
    c.vCompare f v w = .ok (c.setMask (wD w) (maskOf ((List.range 512).map (fun j =>
      if c.active (wK w) (j / 2) then f (nth 0 (nth [] xs 0) (j / 2)) (nth 0 (nth [] xs 1) (j / 2))
      else (c.mask (wD w)).getLsbD j)))) .none := by
  simp only [CoreSt.vCompare, hread]

/-- A value in every lane. -/
theorem replicate_eq_map_range (n y : Nat) : List.replicate n y = (List.range n).map (fun _ => y) := by simp

theorem vSel_ok (hread : c.operands v w 2 = .ok xs) :
    c.vSel v w = .ok (c.setVreg (wD w) ((List.range 256).map (fun i =>
      nth 0 (nth [] xs (if c.active (wK w) i then 0 else 1)) i))) .none := by
  simp only [CoreSt.vSel, hread]

theorem vFold_ok (hread : c.operands v w 1 = .ok xs) (f : Nat → Nat → Nat) :
    ∃ y, c.vFold f v w = .ok (c.setVreg (wD w) ((List.range 256).map (fun _ => y))) .none ∧
      y = match (c.leaves (wK w) (nth [] xs 0)).filterMap id with
        | x :: l => canonF32 (l.foldl f x)
        | [] => (Config.freeWord (v.free * 2 ^ 24)).toNat := by
  simp only [CoreSt.vFold, hread, replicate_eq_map_range]
  exact ⟨_, rfl, rfl⟩

theorem vLsum_ok (hread : c.operands v w (if wA w = wB w then 1 else 2) = .ok xs) :
    c.vLsum v w = .ok (c.setVreg (wD w) ((List.range 256).map (fun _ =>
      canonF32 ((treeVal nodeAdd (xs.flatMap (c.leaves (wK w)))).1.getD 0)))) (treeVal nodeAdd (xs.flatMap (c.leaves (wK w)))).2 := by
  simp only [CoreSt.vLsum, hread, replicate_eq_map_range]

end

/-- A word of R161 or R162 that an image may hold names a mask that can be written (R208). -/
theorem wordOk_mask {code w : Nat} (h : wordOk code w = true) (hm : opToMask code = true) : wD w ≠ 0 := by
  have hn : opNoDest code = false := by
    simp only [opToMask, Bool.or_eq_true, Bool.and_eq_true, decide_eq_true_eq] at hm
    simp only [opNoDest, List.contains_eq_mem, List.mem_cons, List.not_mem_nil, or_false, decide_eq_false_iff_not]
    omega
  simp only [wordOk, hm, hn, Bool.false_eq_true, if_true, if_false, Bool.and_eq_true, decide_eq_true_eq] at h
  omega

/-! ### Whole registers and lane moves (R169, R170, R176, R177, R212) -/

/-- What a word of `wholeOps` writes: every lane of d, whatever K holds (log 24). -/
theorem wholeOps_issue {p : VecCmd × Nat × Nat × (CoreSt → VEnv → Nat → List (List Nat) → Nat → Nat)} (hp : p ∈ wholeOps) :
    ∃ f, Issues (p.1, p.2.1) f ∧ (∀ s v c w, RunsOrHalts c (f s v c w)) ∧ ∀ s v c w xs, c.operands v w p.2.2.1 = .ok xs →
      ∃ g, f s v c w = .ok (c.setVreg (wD w) ((List.range 256).map g)) .none ∧
        ∀ i, g i % 2 ^ 32 = p.2.2.2 c v w xs i % 2 ^ 32 := by
  simp only [wholeOps, List.mem_cons, List.not_mem_nil, or_false] at hp
  rcases hp with rfl | rfl | rfl | rfl | rfl
  · refine ⟨fun _ v c n => c.vMpop v n, ⟨fun _ _ _ => rfl, fun _ _ _ _ => rfl⟩, fun _ _ _ _ => .inl rfl,
      fun s v c w xs _ => ?_⟩
    simp only [CoreSt.vMpop, replicate_eq_map_range]
    exact ⟨_, rfl, fun _ => rfl⟩
  · exact ⟨fun _ v c n => c.vSel v n, ⟨fun _ _ _ => rfl, fun _ _ _ _ => rfl⟩, fun _ _ _ _ => .sources fun _ => .inl rfl,
      fun s v c w xs h =>
      ⟨_, vSel_ok h, fun _ => rfl⟩⟩
  · refine ⟨fun _ v c n => c.vFold f32max v n, ⟨fun _ _ _ => rfl, fun _ _ _ _ => rfl⟩, fun _ _ _ _ => .sources fun _ => .inl rfl,
      fun s v c w xs h => ?_⟩
    obtain ⟨y, hy, rfl⟩ := vFold_ok h f32max
    exact ⟨_, hy, fun _ => rfl⟩
  · refine ⟨fun _ v c n => c.vFold f32min v n, ⟨fun _ _ _ => rfl, fun _ _ _ _ => rfl⟩, fun _ _ _ _ => .sources fun _ => .inl rfl,
      fun s v c w xs h => ?_⟩
    obtain ⟨y, hy, rfl⟩ := vFold_ok h f32min
    exact ⟨_, hy, fun _ => rfl⟩
  · exact ⟨fun _ v c n => c.vIndex v n, ⟨fun _ _ _ => rfl, fun _ _ _ _ => rfl⟩, fun _ _ _ _ => .inl rfl, fun s v c w xs _ =>
      ⟨_, rfl, fun i => Nat.mod_mod _ _⟩⟩

/-- What a word of `laneMoves` writes: the active lanes of d, and no event. -/
theorem laneMoves_issue {p : VecCmd × Nat × Nat × (Nat → List (List Nat) → Nat → Nat)} (hp : p ∈ laneMoves) :
    ∃ f, Issues (p.1, p.2.1) f ∧ p.2.1 < 0x100 ∧ (∀ s v c w, RunsOrHalts c (f s v c w)) ∧
      ∀ s v c w xs, c.operands v w p.2.2.1 = .ok xs →
      f s v c w = .ok (c.putLanes (wK w) (wD w) ((List.range 256).map (p.2.2.2 w xs))) .none := by
  simp only [laneMoves, List.mem_cons, List.not_mem_nil, or_false] at hp
  rcases hp with rfl | rfl | rfl
  · refine ⟨fun _ v c n => c.vPerm v n, ⟨fun _ _ _ => rfl, fun _ _ _ _ => rfl⟩, by decide,
      fun _ _ _ _ => .sources fun _ => .inl rfl, fun s v c w xs h => ?_⟩
    simp only at h
    simp only [CoreSt.vPerm, h]
  · refine ⟨fun _ v c n => c.vShuf v n, ⟨fun _ _ _ => rfl, fun _ _ _ _ => rfl⟩, by decide,
      fun _ _ _ _ => .sources fun _ => .inl rfl, fun s v c w xs h => ?_⟩
    simp only at h
    simp only [CoreSt.vShuf, h]
  · refine ⟨fun _ v c n => c.vUnpack v n, ⟨fun _ _ _ => rfl, fun _ _ _ _ => rfl⟩, by decide,
      fun _ _ _ _ => .sources fun _ => .inl rfl, fun s v c w xs h => ?_⟩
    simp only at h
    simp only [CoreSt.vUnpack, h]

/-! ### LMAXI (R177) -/

/-- FMAX of two numbers is one of them (R168). -/
theorem f32max_mem {a b : Nat} (ha : f32IsNan a = false) (hb : f32IsNan b = false) : f32max a b = a ∨ f32max a b = b := by
  simp only [f32IsNan] at ha hb
  simp only [f32max, ha, hb, Bool.false_and, Bool.false_eq_true, if_false]
  split_ifs
  all_goals simp

/-- The largest of some numbers is one of them. -/
theorem foldl_f32max_mem (y : Nat) (ys : List Nat) (h : ∀ z ∈ y :: ys, f32IsNan z = false) : ys.foldl f32max y ∈ y :: ys := by
  induction ys generalizing y with
  | nil => simp
  | cons z ys ih =>
    rw [List.foldl_cons]
    have htail : ∀ x ∈ y :: ys, f32IsNan x = false := fun x hx =>
      h x (List.mem_cons.2 ((List.mem_cons.1 hx).imp_right (List.mem_cons_of_mem z)))
    rcases f32max_mem (h y List.mem_cons_self) (h z (by simp)) with e | e
    · rw [e]
      exact List.mem_cons.2 ((List.mem_cons.1 (ih y htail)).imp_right (List.mem_cons_of_mem z))
    · rw [e]
      exact List.mem_cons_of_mem y (ih z fun x hx => h x (List.mem_cons_of_mem y hx))

/-- LMAXI fills d with the lowest index at which a leaf holds the largest number, or with -1 (R177). -/
theorem vLmaxi_ok {v : VEnv} {c : CoreSt} {w : Nat} {xs : List (List Nat)} (hread : c.operands v w 1 = .ok xs) :
    let l := c.leaves (wK w) (nth [] xs 0)
    ∃ r, c.vLmaxi v w = .ok (c.setVreg (wD w) ((List.range 256).map (fun _ => r))) .none ∧
      ((l.filterMap id).filter (fun y => !f32IsNan y) = [] → r = 2 ^ 32 - 1) ∧
      ∀ y ys, (l.filterMap id).filter (fun y => !f32IsNan y) = y :: ys →
        l[r]? = some (some (ys.foldl f32max y)) ∧ ∀ i < r, l[i]? ≠ some (some (ys.foldl f32max y)) := by
  intro l
  simp only [CoreSt.vLmaxi, hread, replicate_eq_map_range]
  refine ⟨_, rfl, fun h => ?_, fun y ys h => ?_⟩
  · rw [h]
  · have hmem : ys.foldl f32max y ∈ (l.filterMap id).filter (fun y => !f32IsNan y) := by
      rw [h]
      refine foldl_f32max_mem y ys fun z hz => ?_
      rw [← h] at hz
      simpa using (List.mem_filter.1 hz).2
    have hl : some (ys.foldl f32max y) ∈ l := by simpa using (List.mem_filter.1 hmem).1
    obtain ⟨r, hr⟩ : ∃ r, l.findIdx? (fun o => o = some (ys.foldl f32max y)) = some r :=
      Option.isSome_iff_exists.1 (List.findIdx?_isSome.trans (List.any_eq_true.2 ⟨_, hl, by simp⟩))
    rw [h]
    change l[(l.findIdx? (fun o => o = some (ys.foldl f32max y))).getD _]? = _ ∧
      ∀ i < (l.findIdx? (fun o => o = some (ys.foldl f32max y))).getD _, _
    rw [hr, Option.getD_some]
    obtain ⟨hlt, heq, hfirst⟩ := List.findIdx?_eq_some_iff_getElem.1 hr
    refine ⟨by simpa [List.getElem?_eq_getElem hlt] using heq, fun i hi => ?_⟩
    rw [List.getElem?_eq_getElem (hi.trans hlt)]
    simpa using hfirst i hi

/-! ### The obligations -/

/-- Settles O1: a lane operation or special function writes its lanes (`vLanes_ok`, `vSfu_ok`). -/
theorem laneOperationsWriteActiveLanes : Obligations.LaneOperationsWriteActiveLanes := by
  refine ⟨fun p hp s core w t x xs hx hw hread => ?_, fun p hp s core w t x xs hx hw hread => ?_⟩
  · obtain ⟨hp, hcode⟩ := laneOps_issue hp
    obtain ⟨u, hu, h⟩ := hp.leaves hx hw (vLanes_ok hread _) rfl rfl
    rw [if_pos hcode] at h
    obtain ⟨hreg, hlanes⟩ := h.putLanes (w := w.toNat) rfl
    exact ⟨u, hu, h.frame_mk, hreg, lanesAre_congr hlanes fun i _ ha => by rw [if_pos ha]⟩
  · obtain ⟨hp, hcode⟩ := sfuOps_issue hp
    obtain ⟨u, hu, h⟩ := hp.leaves hx hw (vSfu_ok hread _ _) rfl rfl
    rw [if_pos hcode] at h
    obtain ⟨hreg, hlanes⟩ := h.putLanes (w := w.toNat) rfl
    exact ⟨u, hu, h.frame_mk, hreg, lanesAre_congr hlanes fun i _ ha => by rw [if_pos ha], h.sfu⟩

/-- Settles O2: each lane of d is written as two half-lanes (`vPacked_ok`). -/
theorem packedOperationsWriteActiveHalfLanes : Obligations.PackedOperationsWriteActiveHalfLanes := by
  intro p hp s core w t x xs hx hw hread
  obtain ⟨hp, hcode⟩ := packedOps_issue hp
  obtain ⟨ev, hev⟩ := vPacked_ok hread p.2.2.2
  obtain ⟨u, hu, h⟩ := hp.leaves hx hw hev rfl rfl
  rw [if_pos hcode] at h
  obtain ⟨hreg, hlanes⟩ := h.setVreg (d := wD w.toNat) rfl
  exact ⟨u, ev, hu, h.frame, hreg, hlanes⟩

/-- Settles O3: a comparison gives each bit of the mask (`vCompare_ok`), mask logic each bit that K holds. -/
theorem maskOperationsWriteMasks : Obligations.MaskOperationsWriteMasks := by
  refine ⟨fun p hp s core w t x xs hx hw hread => ?_, fun p hp s core w t x hx hw => ?_⟩
  · obtain ⟨hp, hcode, hmask⟩ := compareOps_issue hp
    obtain ⟨u, hu, h⟩ := hp.leaves hx hw (vCompare_ok hread _) rfl rfl
    rw [if_pos hcode] at h
    obtain ⟨honly, hbits⟩ := h.setMask rfl (wordOk_mask hw hmask)
    refine ⟨u, hu, h.frame, honly, fun j hj => ?_⟩
    rw [hbits, getLsbD_maskOf _ hj]
  · obtain ⟨f, hp, hcode, hmask, hf⟩ := maskOps_issue hp
    obtain ⟨u, hu, h⟩ := hp.leaves hx hw (z := (s.core core.c core.s).vMask f (env s core t x) w.toNat) rfl rfl rfl
    rw [if_pos hcode] at h
    obtain ⟨honly, hbits⟩ := h.setMask rfl (wordOk_mask hw hmask)
    refine ⟨u, hu, h.frame, honly, fun j hj => ?_⟩
    rw [hbits, BitVec.getLsbD_or, BitVec.getLsbD_and, BitVec.getLsbD_and, BitVec.getLsbD_not, hf _ _ _ hj]
    cases ((s.core core.c core.s).mask (wK w.toNat)).getLsbD j <;> simp [hj]

/-- Settles O4: every lane of d holds what `wholeOps_issue`, `vLsum_ok` and `vLmaxi_ok` say. -/
theorem wholeRegisterResults : Obligations.WholeRegisterResults := by
  refine ⟨fun p hp s core w t x xs hx hw hread => ?_, fun s core w t x xs hx hw hread => ?_, fun s core w t x xs hx hw hread => ?_⟩
  · obtain ⟨f, hp, -, hf⟩ := wholeOps_issue hp
    obtain ⟨g, hv, hg⟩ := hf s _ _ _ _ hread
    obtain ⟨u, hu, h⟩ := hp.leaves hx hw hv rfl rfl
    obtain ⟨hreg, hlanes⟩ := h.setVreg (d := wD w.toNat) rfl
    exact ⟨u, hu, h.frame, hreg, fun i hi => (hlanes i hi).trans (hg i)⟩
  · have h := vecRow_leaves (code := 0x59) hx hw (vLsum_ok hread) rfl rfl
    obtain ⟨hreg, hlanes⟩ := h.setVreg (d := wD w.toNat) rfl
    exact ⟨_, rfl, h.frame, hreg, hlanes⟩
  · obtain ⟨r, hv, hnone, hsome⟩ := vLmaxi_ok hread
    have h := vecRow_leaves (code := 0x5C) hx hw hv rfl rfl
    obtain ⟨hreg, hlanes⟩ := h.setVreg (d := wD w.toNat) rfl
    exact ⟨_, r, rfl, h.frame, hreg, hlanes, hnone, hsome⟩

/-- Settles O5: each move writes the active lanes of d with what `laneMoves` names. -/
theorem laneMovesSelectLanes : Obligations.LaneMovesSelectLanes := by
  intro p hp s core w t x xs hx hw hread
  obtain ⟨f, hp, hcode, -, hf⟩ := laneMoves_issue hp
  obtain ⟨u, hu, h⟩ := hp.leaves hx hw (hf s _ _ _ _ hread) rfl rfl
  rw [if_pos hcode] at h
  obtain ⟨hreg, hlanes⟩ := h.putLanes (w := w.toNat) rfl
  exact ⟨u, hu, h.frame, hreg, hlanes⟩

end Sys2Proof.Machine
end

section
/-! PROOFS. The words of the vector engine that read and write operand SRAM (R175, R193 to R201, R216 to R220, R224, R241): LD, LDX
and STAT_GET, ST, STQ and STX, and SAMPLE. -/

namespace Sys2Proof.Machine

open Sys2Proof.Claims

/-! ### Runs of bytes in operand SRAM -/

/-- Runs of bytes written to operand SRAM, one after the other. -/
def CoreSt.writes (c : CoreSt) (ws : List (Nat × List Byte)) : CoreSt := ws.foldl (fun c p => c.wr p.1 p.2) c

/-- The places of runs of bytes. -/
def runPlaces (ws : List (Nat × List Byte)) : List (Nat × Nat) := ws.map (fun p => (p.1, p.2.length))

section
variable (c : CoreSt) {a b n : Nat} {bs : List Byte}

theorem nget_wr_outside (h : b < a ∨ a + bs.length ≤ b) : nget 0 (c.wr a bs).sram b = nget 0 c.sram b := by
  rw [CoreSt.wr, nget_nsetRun, if_neg (by omega)]

theorem rd_wr_outside (h : b + n ≤ a ∨ a + bs.length ≤ b) : (c.wr a bs).rd b n = c.rd b n :=
  List.map_congr_left fun i hi => nget_wr_outside c (by have := List.mem_range.1 hi; omega)

theorem rd_wr_same : (c.wr a bs).rd a bs.length = bs := by
  refine List.ext_getElem (by simp [CoreSt.rd, ngetRun]) fun i _ hi => ?_
  simp [CoreSt.rd, ngetRun, CoreSt.wr, nget_nsetRun, hi]

end

theorem writes_sram_only (c : CoreSt) (ws : List (Nat × List Byte)) : c.writes ws = { c with sram := (c.writes ws).sram } := by
  obtain ⟨m, h⟩ := foldl_sram_only id (f := fun (c : CoreSt) (p : Nat × List Byte) => c.wr p.1 p.2) (fun _ _ => ⟨_, rfl⟩) c ws
  rw [CoreSt.writes, show ws.foldl (fun c p => c.wr p.1 p.2) c = { c with sram := m } from h]

theorem writes_task (c : CoreSt) (ws : List (Nat × List Byte)) : (c.writes ws).task = c.task := by rw [writes_sram_only]

theorem nget_writes_outside (c : CoreSt) {ws : List (Nat × List Byte)} {a : Nat}
    (h : ∀ p ∈ runPlaces ws, a < p.1 ∨ p.1 + p.2 ≤ a) : nget 0 (c.writes ws).sram a = nget 0 c.sram a := by
  induction ws generalizing c with
  | nil => rfl
  | cons p ws ih =>
    obtain ⟨hp, hws⟩ := List.forall_mem_cons.1 h
    exact (ih (c.wr p.1 p.2) hws).trans (nget_wr_outside c hp)

/-- A run is read as it was written when every run meets it nowhere or is the same run. -/
theorem rd_writes {ws : List (Nat × List Byte)} {p : Nat × List Byte} (hp : p ∈ ws)
    (h : ∀ q ∈ ws, q = p ∨ p.1 + p.2.length ≤ q.1 ∨ q.1 + q.2.length ≤ p.1) (c : CoreSt) :
    (c.writes ws).rd p.1 p.2.length = p.2 := by
  have key : ∀ (ws : List (Nat × List Byte)) (c : CoreSt), (∀ q ∈ ws, q = p ∨ p.1 + p.2.length ≤ q.1 ∨ q.1 + q.2.length ≤ p.1) →
      c.rd p.1 p.2.length = p.2 ∨ p ∈ ws → (c.writes ws).rd p.1 p.2.length = p.2 := by
    intro ws
    induction ws with
    | nil => exact fun c _ h => h.resolve_right List.not_mem_nil
    | cons q ws ih =>
      intro c h hread
      obtain ⟨hq, hws⟩ := List.forall_mem_cons.1 h
      refine ih (c.wr q.1 q.2) hws ?_
      rcases hq with rfl | hq
      · exact .inl (rd_wr_same c)
      · rcases hread with hread | hmem
        · exact .inl ((rd_wr_outside c hq).trans hread)
        · rcases List.mem_cons.1 hmem with rfl | hmem
          · exact .inl (rd_wr_same c)
          · exact .inr hmem
  exact key ws c h (.inr hp)

/-- Numbers of `k` bytes at the places that a list names, one size apart: the words of ST, the records of SAMPLE. -/
def strideRuns (k a : Nat) (l : List Nat) (x : Nat → Nat) : List (Nat × List Byte) := l.map (fun i => (a + k * i, toLE k (x i)))

theorem runPlaces_strideRuns (k a : Nat) (l : List Nat) (x : Nat → Nat) :
    runPlaces (strideRuns k a l x) = l.map (fun i => (a + k * i, k)) := by
  simp [runPlaces, strideRuns, Tests.length_toLE]

theorem rd_strideRuns (k a : Nat) {l : List Nat} (x : Nat → Nat) (c : CoreSt) {i : Nat} (hi : i ∈ l) :
    (c.writes (strideRuns k a l x)).rd (a + k * i) k = toLE k (x i) := by
  have h := rd_writes (p := (a + k * i, toLE k (x i))) (List.mem_map_of_mem hi) (ws := strideRuns k a l x) ?_ c
  · rwa [Tests.length_toLE] at h
  · intro q hq
    obtain ⟨j, -, rfl⟩ := List.mem_map.1 hq
    simp only [Tests.length_toLE]
    rcases lt_trichotomy j i with hlt | rfl | hlt
    · have := Nat.mul_le_mul_left k hlt
      rw [Nat.mul_succ] at this
      omega
    · exact .inl rfl
    · have := Nat.mul_le_mul_left k hlt
      rw [Nat.mul_succ] at this
      omega

/-- A word that wrote runs of operand SRAM wrote nothing else of its core (R218). -/
theorem Leaves.writes {s u : State} {core : CoreId} {t : Task} {ops : Nat} {z : VRes} (h : Leaves s u core t ops z)
    {ws : List (Nat × List Byte)} (hz : z.c = (s.core core.c core.s).writes ws) :
    OnlySram (s.core core.c core.s) (after u core) (runPlaces ws) ∧
      (after u core).sram = ((s.core core.c core.s).writes ws).sram := by
  have hsram : (after u core).sram = ((s.core core.c core.s).writes ws).sram := by
    rw [h.left, hz]
  refine ⟨⟨fun a ha => ?_, ?_⟩, hsram⟩
  · rw [hsram, nget_writes_outside _ ha]
  · rw [h.left, hz, writes_sram_only]

/-- What is read after such a word. -/
theorem rd_of_sram {c c' : CoreSt} (h : c'.sram = c.sram) (a n : Nat) : c'.rd a n = c.rd a n := by
  rw [CoreSt.rd, h, CoreSt.rd]

/-! ### Loads (R175, R218, R241) -/

section
variable {v : VEnv} {c : CoreSt} {w : Nat} {xs : List (List Nat)}

theorem vLd_ok
    (h : c.readStop v (wAg w) (((List.range 256).filter (c.active (wK w))).map (fun i =>
      (c.genAddr v (wAg w) (wRow w) (fld w 7 0 * 16) + 4 * i, 4))) = none) :
    c.vLd v w = .ok (c.putLanes (wK w) (wD w) ((List.range 256).map (fun i => if c.active (wK w) i then
      c.rdNat (c.genAddr v (wAg w) (wRow w) (fld w 7 0 * 16) + 4 * i) 4 else 0))) .none := by
  simp only [CoreSt.vLd, h]

theorem vLdx_ok (hread : c.operands v w 1 = .ok xs) :
    c.vLdx v w = ⟨c.putLanes (wK w) (wD w) ((List.range 256).map (fun i =>
        if nth 0 (nth [] xs 0) i % 4 = 0 ∧ nth 0 (nth [] xs 0) i + 4 ≤ sramSize then c.rdNat (nth 0 (nth [] xs 0) i) 4 else 0)),
      .none, 0, 0, ((List.range 256).filter (fun i => c.active (wK w) i && !laneAddrOk (nth 0 (nth [] xs 0) i))).length, 0, none⟩ := by
  simp only [CoreSt.vLdx, hread, VRes.ok, laneAddrOk, Bool.and_eq_true, decide_eq_true_eq]

/-- The field of a record that STAT_GET gives: the count as a number, the others as they stand (R241). -/
def statField (w : Nat) (r : List Nat) : Nat := if fld w 21 20 = 0 then f32OfNat (nth 0 r 0) else nth 0 r (fld w 21 20)

/-- STAT_GET gives the field of its record in the active lanes of d, whichever place holds the record. -/
theorem vStatGet_ok (h : v.statFrom ≤ 1 ∨ ((List.range 256).any (c.active (wK w)) = true ∧
      c.readStop v (wAg w) [(statRecord.statAddr c v w, 12)] = none)) :
    c.vStatGet v w = .ok (c.putLanes (wK w) (wD w) ((List.range 256).map (fun _ => statField w (statRecord c v w)))) .none := by
  have hfield : ∀ r, statField w r = match fld w 21 20 with
      | 0 => f32OfNat (nth 0 r 0)
      | f => nth 0 r f := by
    intro r
    unfold statField
    rcases fld w 21 20 with _ | f <;> rfl
  simp only [hfield, CoreSt.vStatGet, replicate_eq_map_range]
  rcases hs : v.statFrom with _ | _ | k
  · simp only [statRecord, hs, if_true] <;> rfl
  · simp only [statRecord, hs] <;> rfl
  · obtain ⟨hany, hstop⟩ := h.resolve_left (by omega)
    simp only [statRecord, hs]
    simp only [hany, Bool.not_true, Bool.false_eq_true, if_false]
    rw [statRecord.statAddr] at hstop
    simp only [hstop] <;> rfl

/-! ### Stores (R175, R218, R220, R224) -/

theorem vSt_ok (hread : c.operands v w 1 = .ok xs)
    (h : c.writeStop v (wAg w) (((List.range 256).filter (c.stored v w)).map (fun i =>
      (c.genAddr v (wAg w) (wRow w) (fld w 7 0 * 16) + 4 * i, 4))) = none) :
    c.vSt v w = .ok (c.writes (strideRuns 4 (c.genAddr v (wAg w) (wRow w) (fld w 7 0 * 16)) ((List.range 256).filter (c.stored v w))
      (nth 0 (nth [] xs 0)))) .none := by
  simp only [CoreSt.vSt, hread, h, CoreSt.writes, strideRuns, List.foldl_map]

/-- What lane i of STX stores: its data, or a free value where another lane has different data for its address (log 26). -/
def stxWord (v : VEnv) (ok : List Nat) (a x : Nat → Nat) (i : Nat) : Nat :=
  if ok.any (fun j => a j = a i && x j ≠ x i) then (Config.freeWord (v.free * 2 ^ 24 + a i)).toNat else x i

/-- The runs of STX: 4 bytes at the address of each lane. -/
def stxRuns (v : VEnv) (ok : List Nat) (a x : Nat → Nat) : List (Nat × List Byte) :=
  ok.map (fun i => (a i, toLE 4 (stxWord v ok a x i)))

theorem runPlaces_stxRuns (v : VEnv) (ok : List Nat) (a x : Nat → Nat) : runPlaces (stxRuns v ok a x) = ok.map (fun i => (a i, 4)) := by
  simp [runPlaces, stxRuns, Tests.length_toLE]

/-- Lanes that all have one lane's data for its address store that data. -/
theorem stxWord_eq {ok : List Nat} {a x : Nat → Nat} {i j : Nat} (h : ∀ k ∈ ok, a k = a i → x k = x i) (hj : j ∈ ok)
    (ha : a j = a i) : stxWord v ok a x j = x i := by
  have hx := h j hj ha
  have hnone : ok.any (fun k => a k = a j && x k ≠ x j) = false := by
    simp only [List.any_eq_false, Bool.and_eq_true, decide_eq_true_eq, not_and, not_not, ha, hx]
    exact h
  rw [stxWord, hnone, hx]
  rfl

/-- At word addresses, a lane's data stands where no lane has other data for its address. -/
theorem rd_stxRuns {v : VEnv} {ok : List Nat} {a x : Nat → Nat} (hword : ∀ j ∈ ok, a j % 4 = 0) (c : CoreSt) {i : Nat} (hi : i ∈ ok)
    (hsame : ∀ j ∈ ok, a j = a i → x j = x i) : (c.writes (stxRuns v ok a x)).rd (a i) 4 = toLE 4 (x i) := by
  have hmem : (a i, toLE 4 (x i)) ∈ stxRuns v ok a x :=
    List.mem_map.2 ⟨i, hi, by rw [stxWord_eq hsame hi rfl]⟩
  have h := rd_writes hmem ?_ c
  · rwa [Tests.length_toLE] at h
  · intro q hq
    obtain ⟨j, hj, rfl⟩ := List.mem_map.1 hq
    rcases eq_or_ne (a j) (a i) with ha | hne
    · exact .inl (by rw [stxWord_eq hsame hj ha, ha])
    · have hi4 := hword i hi
      have hj4 := hword j hj
      simp only [Tests.length_toLE]
      omega

theorem vStx_ok (hread : c.operands v w 2 = .ok xs) :
    c.vStx v w = ⟨c.writes (stxRuns v ((List.range 256).filter (fun i => c.active (wK w) i && laneAddrOk (nth 0 (nth [] xs 1) i)))
        (nth 0 (nth [] xs 1)) (nth 0 (nth [] xs 0))), .none, 0, 0,
      ((List.range 256).filter (fun i => c.active (wK w) i && !laneAddrOk (nth 0 (nth [] xs 1) i))).length, 0, none⟩ := by
  have hbad : ∀ l : List Nat, (l.filter (c.active (wK w))).length -
      (l.filter (fun i => c.active (wK w) i && laneAddrOk (nth 0 (nth [] xs 1) i))).length =
      (l.filter (fun i => c.active (wK w) i && !laneAddrOk (nth 0 (nth [] xs 1) i))).length := by
    intro l
    have := List.length_eq_length_filter_add (l := l.filter (c.active (wK w))) (fun i => laneAddrOk (nth 0 (nth [] xs 1) i))
    simp only [List.filter_filter, Bool.and_comm (laneAddrOk _), Bool.and_comm (!laneAddrOk _)] at this
    omega
  simp only [CoreSt.vStx, hread, VRes.ok, List.filter_filter, Bool.and_comm (laneAddrOk _), hbad, CoreSt.writes, stxRuns, stxWord,
    List.foldl_map, List.any_map, Function.comp_def]

/-- The runs that STQ writes of a row rounded to `r`: in an MX block the elements of inactive lanes keep the bits they have (R163,
R220). -/
def stqWrites (v : VEnv) (c : CoreSt) (w : Nat) (r : List Nat × List Nat × List Ev) : List (Nat × List Byte) :=
  let fmt := ctrlFmt (fld w 21 14)
  let a := c.genAddr v (wAg w) (wRow w) (fld w 7 0 * 16)
  let codes := if fmtIsMx fmt then (List.range 256).map (fun i =>
    if c.stored v w i then nth 0 r.1 i else unpackElem fmt (c.rd a (planeBytes fmt 256)) i) else r.1
  stqRuns fmt a (c.stored v w) (packElems fmt codes) r.2.1

theorem vStq_ok {r : List Nat × List Nat × List Ev} (hread : c.operands v w 1 = .ok xs)
    (hr : roundLanes (fld w 21 14) (v.storeRand (fld w 21 14) (wRow w) (wHalf w)) (c.stored v w) (fun i => nth 0 (nth [] xs 0) i) = r)
    (hkey : (List.range 256).any (c.stored v w) = true → v.needsKey (fld w 21 14) = false)
    (h : c.writeStop v (wAg w) (runPlaces (stqWrites v c w r)) = none) :
    ∃ ev, c.vStq v w = .ok (c.writes (stqWrites v c w r)) ev := by
  have hk : ((List.range 256).any (c.stored v w) && v.needsKey (fld w 21 14)) = false := by
    cases hany : (List.range 256).any (c.stored v w)
    · rfl
    · exact hkey hany
  rw [runPlaces, stqWrites] at h
  simp only [CoreSt.vStq, hread, hk, hr, Bool.false_eq_true, if_false, h]
  exact ⟨_, rfl⟩

/-- An address that a lane may use is a multiple of 4 (R175). -/
theorem laneAddrOk_iff {a : Nat} : laneAddrOk a = true ↔ a % 4 = 0 ∧ a + 4 ≤ sramSize := by simp [laneAddrOk]

end

/-! ### SAMPLE (R193 to R201) -/

/-- What SAMPLE makes of row i of descriptor `d`: its record and events (R193, R194, R196, R199). -/
def samplerRow (s : State) (v : VEnv) (c : CoreSt) (d : Nat) (key : BitVec 256) (bank : Nat × Nat) (i : Nat) : Nat × Ev :=
  let V := fld d 255 237
  let es := if fld d 225 222 = 0 then 4 else 2
  sampleRow s.tm1 (fld d 207 176) (fld d 175 144) (fld d 236 226)
    (randElem key v.step (streamId (fld d 143 120) 6) ((fld d 119 96 + i) * 2 ^ 20 + fld d 95 76)) (v.free * 1024 + i)
    (fun tok => !bitAt d 221 || (s.byte (bank.1 + tok / 8)).getLsbD (tok % 8))
    ((List.range V).map (fun tok =>
      let y := leNat (((c.rd (fld d 46 32 * 256 + i * roundUp (V * es) 256) (V * es)).drop (tok * es)).take es)
      if es = 4 then y else y * 65536))

theorem zipIdx_map_range {α : Type} (f : Nat → α) (n : Nat) : ((List.range n).map f).zipIdx = (List.range n).map (fun i => (f i, i)) :=
  List.ext_getElem (by simp) (by simp)

theorem vSample_ok {s : State} {v : VEnv} {c : CoreSt} {w d : Nat} {xs : List (List Nat)} {key : BitVec 256} {bank : Nat × Nat}
    (hread : c.operands v w 1 = .ok xs) (hfit : nth 0 (nth [] xs 0) 0 + 32 ≤ sramSize) (hd : c.rdNat (nth 0 (nth [] xs 0) 0) 32 = d)
    (hgood : sampleBad d = false) (hkey : v.key = some key)
    (hbank : (if bitAt d 221 then s.maskBank v.ctx (fld d 63 48) else .ok (0, 2 ^ 52)) = .ok bank)
    (hmask : bitAt d 221 = true → cdiv (fld d 255 237) 8 ≤ bank.2 ∧ s.touchesPoison bank.1 (cdiv (fld d 255 237) 8) = false) :
    s.vSample v c w = ⟨c.writes (strideRuns 16 (fld d 30 16 * 256) (List.range (fld d 15 8 + 1)) (fun i => (samplerRow s v c d key bank i).1)),
      Ev.sum ((List.range (fld d 15 8 + 1)).map (fun i => (samplerRow s v c d key bank i).2)), 0, 0, 0, fld d 15 8 + 1, none⟩ := by
  have hshort : (bitAt d 221 && decide (bank.2 < cdiv (fld d 255 237) 8)) = false := by
    cases h : bitAt d 221
    · rfl
    · simpa using (hmask h).1
  have hclean : (bitAt d 221 && s.touchesPoison bank.1 (cdiv (fld d 255 237) 8)) = false := by
    cases h : bitAt d 221
    · rfl
    · simpa using (hmask h).2
  simp only [State.vSample, hread, Nat.not_lt.2 hfit, hd, hgood, hkey, hbank, hshort, hclean, Bool.false_eq_true, if_false]
  rw [zipIdx_map_range]
  simp only [List.foldl_map, List.map_map, CoreSt.writes, strideRuns, samplerRow, VRes.ok, Function.comp_def]

/-! ### The obligations -/

/-- Settles O7: each load is one write of the active lanes of d (`vLd_ok`, `vLdx_ok`, `vStatGet_ok`). -/
theorem loadsFillActiveLanes : Obligations.LoadsFillActiveLanes := by
  refine ⟨fun s core w t x hx hw hstop => ?_, fun s core w t x xs hx hw hread => ?_, fun s core w t x hx hw hstop => ?_⟩
  · have h := vecRow_leaves (code := 0x50) hx hw (vLd_ok hstop) rfl rfl
    obtain ⟨hreg, hlanes⟩ := h.putLanes (w := w.toNat) rfl
    exact ⟨_, rfl, h.frame, hreg, lanesAre_congr hlanes fun i _ ha => if_pos ha⟩
  · have h := vecRow_leaves (code := 0x53) hx hw (vLdx_ok hread) rfl rfl
    obtain ⟨hreg, hlanes⟩ := h.putLanes (w := w.toNat) rfl
    exact ⟨_, rfl, h.frame, hreg, hlanes, h.bad⟩
  · have h := vecRow_leaves (code := 0x101) hx hw (vStatGet_ok hstop) rfl rfl
    obtain ⟨hreg, hlanes⟩ := h.putLanes (w := w.toNat) rfl
    exact ⟨_, rfl, h.frame, hreg, hlanes⟩

/-- Settles O8: each store is runs written to operand SRAM (`vSt_ok`, `vStq_ok`, `vStx_ok`), which meet nowhere but where lanes of
STX have one address. -/
theorem storesWriteOperandSram : Obligations.StoresWriteOperandSram := by
  refine ⟨fun s core w t x xs hx hw hread hstop => ?_, fun s core w t x xs hx hw hread hkey hstop => ?_,
    fun s core w t x xs hx hw hread => ?_⟩
  · have h := vecRow_leaves (code := 0x51) hx hw (vSt_ok hread hstop) rfl (writes_task ..)
    obtain ⟨honly, hsram⟩ := h.writes rfl
    rw [runPlaces_strideRuns] at honly
    exact ⟨_, rfl, h.frame, honly, fun i hi hact =>
      (rd_of_sram hsram _ _).trans (rd_strideRuns _ _ _ _ (List.mem_filter.2 ⟨List.mem_range.2 hi, hact⟩))⟩
  · obtain ⟨ev, hev⟩ := vStq_ok hread rfl hkey hstop
    have h := vecRow_leaves (code := 0x52) hx hw hev rfl (writes_task ..)
    obtain ⟨honly, hsram⟩ := h.writes rfl
    exact ⟨_, ev, rfl, h.frame, honly, hsram⟩
  · have h := vecRow_leaves (code := 0x54) hx hw (vStx_ok hread) rfl (writes_task ..)
    obtain ⟨honly, hsram⟩ := h.writes rfl
    rw [runPlaces_stxRuns] at honly
    refine ⟨_, rfl, h.frame, honly, fun i hi hsame => (rd_of_sram hsram _ _).trans (rd_stxRuns (fun j hj => ?_) _ hi hsame), h.bad⟩
    exact (laneAddrOk_iff.1 (Bool.and_eq_true_iff.1 (List.mem_filter.1 hj).2).2).1

/-- Settles O9: the rows of SAMPLE are runs of 16 bytes (`vSample_ok`), which meet nowhere. -/
theorem sampleWritesOneRecordPerRow : Obligations.SampleWritesOneRecordPerRow := by
  refine fun s core w t x xs key bank hx hw hread hfit hgood hkey hbank hmask => ?_
  have h := vecRow_leaves (code := 0x5D) hx hw (vSample_ok hread hfit rfl hgood hkey hbank hmask) rfl (writes_task ..)
  obtain ⟨honly, hsram⟩ := h.writes rfl
  rw [runPlaces_strideRuns] at honly
  exact ⟨_, rfl, h.frame_mk, honly, fun i hi => (rd_of_sram hsram _ _).trans (rd_strideRuns _ _ _ _ (List.mem_range.2 hi)), h.rows⟩

end Sys2Proof.Machine
end

section
/-! PROOFS. NOP and STAT_LEAF (R167, R230, R236, R240), and the words of the vector engine that wait, fail or are not run (R165, R210,
R213, R217, R218). -/

namespace Sys2Proof.Machine

open Sys2Proof.Claims

/-! ### STAT_LEAF (R230, R236, R240) -/

/-- The groups after one of them is replaced. -/
theorem groups_setGroup (c : CoreSt) (g : Group) : (c.setGroup g).groups = c.groups.map (fun y => if y.first = g.first then g else y) := by
  simp only [CoreSt.groups, CoreSt.setGroup, List.map_append]
  cases c.group <;> rfl

/-- The leaf that STAT_LEAF forms of its row: the columns that are present and active (R236). -/
def leafOf (tm1 : Bool) (v : VEnv) (c : CoreSt) (w : Nat) (xs : List (List Nat)) : Option (List Nat) × Ev :=
  statLeaf tm1 ((List.range 512).map (fun p => if p < v.cols && c.active (wK w) (p % 256) then some (pairElem xs p) else none))

/-- Where the stacks of a group or a command keep the row and slot of a word. -/
def stackKey (v : VEnv) (w : Nat) : Nat := (v.q0 + wRow w) * 32 + fld w 19 15

/-- A stack of statistics after the leaf of a word has joined it (R236). -/
def leafPushed (tm1 : Bool) (v : VEnv) (c : CoreSt) (w : Nat) (xs : List (List Nat)) (stack : List StackEntry) : List StackEntry :=
  (statPush tm1 stack v.leaf0 (v.col / 512) (leafOf tm1 v c w xs).1).1

/-- What STAT_LEAF makes of a core: statistics alone change; those of an absent row nowhere, else those of the step, of the command's
deferred group or of the command (R230, R236, R240). -/
structure StatsAdded (tm1 : Bool) (v : VEnv) (c : CoreSt) (w : Nat) (xs : List (List Nat)) (c' : CoreSt) : Prop where
  only : c' = { c with sect := c'.sect, group := c'.group, older := c'.older, tiles := c'.tiles }
  absent : v.rows ≤ wRow w → c'.sect = c.sect ∧ c'.groups = c.groups ∧ c'.tiles = c.tiles
  step : wRow w < v.rows → v.statTo = 0 → c'.groups = c.groups ∧ c'.tiles = c.tiles ∧
    ∀ x, c.sect = some x → ∃ y, c'.sect = some y ∧ nget [] y.stepStats (wRow w * 32 + fld w 19 15) = (leafOf tm1 v c w xs).1.getD []
  group : ∀ g, wRow w < v.rows → v.statTo = 1 → c.groupOf v.tile = some g → c'.sect = c.sect ∧ c'.tiles = c.tiles ∧
    c'.groups = c.groups.map (fun y => if y.first = g.first then
      { g with stats := nset [] g.stats (stackKey v w) (leafPushed tm1 v c w xs (nget [] g.stats (stackKey v w))) } else y)
  command : wRow w < v.rows → 2 ≤ v.statTo → c'.sect = c.sect ∧ c'.groups = c.groups ∧
    c'.tiles = c.tiles.map (fun y => if y.num = v.tile then { y with
      stats := nset [] y.stats (stackKey v w) (leafPushed tm1 v c w xs (match c.tiles.find? (fun z => z.num = v.tile) with
        | some z => nget [] z.stats (stackKey v w)
        | none => [])) } else y)

/-- STAT_LEAF by the place where its section's statistics go. -/
theorem vStatLeaf_adds (tm1 : Bool) {v : VEnv} {c : CoreSt} {w : Nat} {xs : List (List Nat)} (hread : c.operands v w 2 = .ok xs) :
    ∃ c' ev, c.vStatLeaf tm1 v w = .ok c' ev ∧ StatsAdded tm1 v c w xs c' := by
  simp only [CoreSt.vStatLeaf, hread, ← leafOf.eq_1]
  rcases Nat.lt_or_ge (wRow w) v.rows with hrow | hrow
  · simp only [Nat.not_le.2 hrow, if_false]
    rcases hto : v.statTo with _ | _ | k
    · refine ⟨_, _, rfl, rfl, fun _ => by omega, fun _ _ => ⟨rfl, rfl, fun x hx => ?_⟩, fun _ _ _ => by omega, fun _ _ => by omega⟩
      refine ⟨_, congrArg (Option.map _) hx, ?_⟩
      rw [nget_nset_same]
    · rcases hg : c.groupOf v.tile with _ | g
      · exact ⟨_, _, rfl, rfl, fun _ => by omega, fun _ _ => by omega, fun g _ _ h => by simp [hg] at h, fun _ _ => by omega⟩
      · refine ⟨_, _, rfl, rfl, fun _ => by omega, fun _ _ => by omega, fun g' _ _ h => ?_, fun _ _ => by omega⟩
        obtain rfl : g = g' := Option.some.inj (hg.symm.trans h)
        exact ⟨rfl, rfl, groups_setGroup ..⟩
    · exact ⟨_, _, rfl, rfl, fun _ => by omega, fun _ _ => by omega, fun _ _ _ => by omega, fun _ _ => ⟨rfl, rfl, rfl⟩⟩
  · simp only [hrow, if_true]
    exact ⟨_, _, rfl, rfl, fun _ => ⟨rfl, rfl, rfl⟩, fun _ => by omega, fun _ _ => by omega, fun _ => by omega⟩

/-- Settles O10: NOP runs on the core as it is; STAT_LEAF leaves the core that `vStatLeaf_adds` describes. -/
theorem nopAndStatLeaf : Obligations.NopAndStatLeaf := by
  refine ⟨fun s core w t x hx hw => ?_, fun s core w t x xs hx hw hread => ?_⟩
  · have h := vecRow_leaves (code := 0x00) hx hw rfl rfl rfl
    exact ⟨_, rfl, h.frame, h.left⟩
  · obtain ⟨c', ev, hv, hc⟩ := vStatLeaf_adds s.tm1 hread
    have h := vecRow_leaves (code := 0x100) hx hw hv rfl (by rw [VRes.ok, hc.only])
    refine ⟨_, ev, rfl, h.frame, ?_, ?_⟩
    · rw [h.left]
      conv_lhs => rw [VRes.ok, hc.only]
      rfl
    · rw [h.left]
      refine ⟨hc.absent, fun hrow hto => ?_, hc.group, hc.command⟩
      obtain ⟨hgroups, htiles, hsect⟩ := hc.step hrow hto
      exact ⟨hgroups, htiles, hsect x hx.2⟩

/-! ### Words that wait or fail (R165, R210, R213, R217, R218) -/

section
variable (v : VEnv) (c : CoreSt) (w : Nat)

theorem vLanes_runsOrHalts (n : Nat) (f : List Nat → Nat × Ev) : RunsOrHalts c (c.vLanes n f v w) := .sources fun _ => .inl rfl

theorem vSfu_runsOrHalts (tm1 : Bool) (fn : SfuFn) : RunsOrHalts c (c.vSfu tm1 fn v w) := by
  rcases vLanes_runsOrHalts v c w 1 (lSfu tm1 fn) with h | ⟨e, h⟩
  · exact .inl h
  · exact .inr ⟨e, by rw [CoreSt.vSfu, h]; rfl⟩

theorem vRand_runsOrHalts : RunsOrHalts c (c.vRand v w) := by
  unfold CoreSt.vRand
  dsimp only
  split
  · exact .halt _
  · exact .ite (.halt _) (.inl rfl)

theorem vStatLeaf_runsOrHalts (tm1 : Bool) : RunsOrHalts c (c.vStatLeaf tm1 v w) := by
  unfold CoreSt.vStatLeaf
  dsimp only
  split
  · exact .halt _
  · refine .ite (.inl rfl) ?_
    split
    · exact .inl rfl
    · split <;> exact .inl rfl
    · exact .inl rfl

theorem vStatGet_runsOrHalts : RunsOrHalts c (c.vStatGet v w) := by
  unfold CoreSt.vStatGet
  dsimp only
  split
  · exact .inl rfl
  · exact .inl rfl
  · exact .ite (.inl rfl) (.reached (.inl rfl))

theorem vSample_runsOrHalts (s : State) : RunsOrHalts c (s.vSample v c w) := by
  unfold State.vSample
  refine .sources fun xs => .ite (.halt _) (.ite (.halt _) ?_)
  split
  · exact .halt _
  · exact .halt _
  · exact .ite (.halt _) (.ite (.halt _) (.inl rfl))

end

theorem vecRow_notOk {s : State} {cl site code : Nat} {w : Nat} (h : wordOk code w = false) : s.vecRow cl site code w = s := by
  unfold State.vecRow
  dsimp only
  split
  · simp only [h, Bool.not_false, if_true]
  · rfl

theorem vecRow_notLive {s : State} {cl site code : Nat} {w : Nat} (h : s.liveTask cl site = none) : s.vecRow cl site code w = s := by
  simp only [State.vecRow, h]

/-- A word that fails leaves its code on the task. -/
theorem vecRow_fails {s : State} {core : CoreId} {t : Task} {x : Section} {code w e : Nat} (hx : InSection s core t x)
    (hw : wordOk code w = true) (hv : s.vop code (env s core t x) (s.core core.c core.s) w = .halt (s.core core.c core.s) (some e)) :
    s.vecRow core.c core.s code w = (s.vecDone core.c core.s
      ((VRes.halt (s.core core.c core.s) (some e)).counted (code < 0x100))).taskFail core.c core.s e := by
  rw [env] at hv
  rw [State.vecRow_stop (o := some e) hx.1 hx.2 hw (by rw [hv]; rfl)]
  dsimp only
  rw [hv]

/-- A word that fails counts once where it is no directive (R203). -/
theorem ops_counted_halt (c : CoreSt) (code e : Nat) :
    ((VRes.halt c (some e)).counted (code < 0x100)).ops = if code < 0x100 then 1 else 0 := by
  simp [VRes.counted, VRes.issued, VRes.halt, b2n]

/-- The words of R174 to R176, R193 and R212 that stand in no family. -/
theorem otherOps_issue {p : VecCmd × Nat} (hp : p ∈ [(Instr.fquant, 0x0F), (Instr.rand, 0x48), (Instr.ld, 0x50), (Instr.st, 0x51),
    (Instr.stq, 0x52), (Instr.ldx, 0x53), (Instr.stx, 0x54), (Instr.pack, 0x57), (Instr.lsum, 0x59), (Instr.lmaxi, 0x5C),
    (Instr.sample, 0x5D), (Instr.statLeaf, 0x100), (Instr.statGet, 0x101)]) :
    ∃ f, Issues p f ∧ ∀ s v c w, RunsOrHalts c (f s v c w) := by
  simp only [List.mem_cons, List.not_mem_nil, or_false] at hp
  rcases hp with rfl | rfl | rfl | rfl | rfl | rfl | rfl | rfl | rfl | rfl | rfl | rfl | rfl
  · exact ⟨fun _ v c n => c.vFquant v n, ⟨fun _ _ _ => rfl, fun _ _ _ _ => rfl⟩, fun _ _ _ _ => .sources fun _ => .ite (.halt _) (.inl rfl)⟩
  · exact ⟨fun _ v c n => c.vRand v n, ⟨fun _ _ _ => rfl, fun _ _ _ _ => rfl⟩, fun _ v c w => vRand_runsOrHalts v c w⟩
  · exact ⟨fun _ v c n => c.vLd v n, ⟨fun _ _ _ => rfl, fun _ _ _ _ => rfl⟩, fun _ _ _ _ => .reached (.inl rfl)⟩
  · exact ⟨fun _ v c n => c.vSt v n, ⟨fun _ _ _ => rfl, fun _ _ _ _ => rfl⟩, fun _ _ _ _ => .sources fun _ => .reached (.inl rfl)⟩
  · exact ⟨fun _ v c n => c.vStq v n, ⟨fun _ _ _ => rfl, fun _ _ _ _ => rfl⟩,
      fun _ _ _ _ => .sources fun _ => .ite (.halt _) (.reached (.inl rfl))⟩
  · exact ⟨fun _ v c n => c.vLdx v n, ⟨fun _ _ _ => rfl, fun _ _ _ _ => rfl⟩, fun _ _ _ _ => .sources fun _ => .inl rfl⟩
  · exact ⟨fun _ v c n => c.vStx v n, ⟨fun _ _ _ => rfl, fun _ _ _ _ => rfl⟩, fun _ _ _ _ => .sources fun _ => .inl rfl⟩
  · exact ⟨fun _ v c n => c.vPack v n, ⟨fun _ _ _ => rfl, fun _ _ _ _ => rfl⟩, fun _ _ _ _ => .sources fun _ => .ite (.halt _) (.inl rfl)⟩
  · exact ⟨fun _ v c n => c.vLsum v n, ⟨fun _ _ _ => rfl, fun _ _ _ _ => rfl⟩, fun _ _ _ _ => .sources fun _ => .inl rfl⟩
  · exact ⟨fun _ v c n => c.vLmaxi v n, ⟨fun _ _ _ => rfl, fun _ _ _ _ => rfl⟩, fun _ _ _ _ => .sources fun _ => .inl rfl⟩
  · exact ⟨fun s v c n => s.vSample v c n, ⟨fun _ _ _ => rfl, fun _ _ _ _ => rfl⟩, fun s v c w => vSample_runsOrHalts v c w s⟩
  · exact ⟨fun s v c n => c.vStatLeaf s.tm1 v n, ⟨fun _ _ _ => rfl, fun _ _ _ _ => rfl⟩, fun s v c w => vStatLeaf_runsOrHalts v c w s.tm1⟩
  · exact ⟨fun _ v c n => c.vStatGet v n, ⟨fun _ _ _ => rfl, fun _ _ _ _ => rfl⟩, fun _ v c w => vStatGet_runsOrHalts v c w⟩

/-- Every vector command issues one operation, which runs or leaves the core as it is. -/
theorem vecOps_issue {p : VecCmd × Nat} (hp : p ∈ vecOps) : ∃ f, Issues p f ∧ ∀ s v c w, RunsOrHalts c (f s v c w) := by
  rw [vecOps] at hp
  simp only [List.mem_append, List.mem_map, List.mem_singleton] at hp
  rcases hp with (((((((rfl | ⟨q, hq, rfl⟩) | ⟨q, hq, rfl⟩) | ⟨q, hq, rfl⟩) | ⟨q, hq, rfl⟩) | ⟨q, hq, rfl⟩) | ⟨q, hq, rfl⟩) |
    ⟨q, hq, rfl⟩) | hp
  · exact ⟨fun _ _ c _ => .ok c .none, ⟨fun _ _ _ => rfl, fun _ _ _ _ => rfl⟩, fun _ _ _ _ => .inl rfl⟩
  · exact ⟨_, (laneOps_issue hq).1, fun _ v c w => vLanes_runsOrHalts v c w _ _⟩
  · exact ⟨_, (sfuOps_issue hq).1, fun _ v c w => vSfu_runsOrHalts v c w _ _⟩
  · exact ⟨_, (packedOps_issue hq).1, fun _ _ _ _ => .sources fun _ => .inl rfl⟩
  · exact ⟨_, (compareOps_issue hq).1, fun _ _ _ _ => .sources fun _ => .inl rfl⟩
  · obtain ⟨f, hf, -⟩ := maskOps_issue hq
    exact ⟨_, hf, fun _ _ _ _ => .inl rfl⟩
  · obtain ⟨f, hf, hruns, -⟩ := wholeOps_issue hq
    exact ⟨f, hf, hruns⟩
  · obtain ⟨f, hf, -, hruns, -⟩ := laneMoves_issue hq
    exact ⟨f, hf, hruns⟩
  · exact otherOps_issue hp

/-- Settles O11: a word that no image may hold and one with no live task are not run; of one that stops, `vecOps_issue` says that its
operation left the core as it was. -/
theorem vectorWordsWaitOrFail : Obligations.VectorWordsWaitOrFail := by
  intro p hp s core w
  obtain ⟨f, hissue, hruns⟩ := vecOps_issue hp
  refine ⟨fun hw => ?_, fun hlive => ?_, fun t x hx hw => ⟨fun hstop => ?_, fun code hstop => ?_⟩⟩
  · rw [hissue.exec, vecRow_notOk hw]
  · rw [hissue.exec, vecRow_notLive hlive]
  · obtain ⟨hlive, hsect⟩ := hx
    rw [hissue.exec, State.vecRow_stop hlive hsect hw hstop]
  · obtain ⟨hlive, hsect⟩ := hx
    obtain ⟨e, he⟩ := (hruns s (env s core t x) (s.core core.c core.s) w.toNat).resolve_left
      (by rw [← hissue.vop, hstop]; exact Option.some_ne_none _)
    rw [hissue.vop, he] at hstop
    obtain rfl : e = some code := Option.some.inj hstop
    rw [hissue.exec, vecRow_fails ⟨hlive, hsect⟩ hw ((hissue.vop ..).trans he)]
    have h := vecDone_leaves (z := (VRes.halt (s.core core.c core.s) (some code)).counted (p.2 < 0x100)) (State.liveTask_task hlive) rfl
    rw [ops_counted_halt] at h
    exact ⟨_, rfl, h.frame, h.left⟩

end Sys2Proof.Machine
end

section
/-! PROOFS. Modes that drain before they apply: the function mode, containment and Glide (R191, R192, R376, R614, R630). -/

namespace Sys2Proof.Machine

open Sys2Proof.Claims

/-! ### Writes of MODE, ENABLE and FORCE -/

section
variable (s : State) (v : Nat)

/-- A write of a mode (R191): kept, and its object reads DRAINING from then on. -/
theorem setMode_keeps_write (idx : Nat) (hv : v ≤ 1) (hd : s.obj (kDev idx 2) ≠ 1) (hne : v ≠ s.obj (kDev idx 1)) :
    written (s.setMode idx v) = { s.setObj (kDev idx 2) 1 with
      modes := if idx = 0x2002 then { s.modes with function := some v } else { s.modes with containment := some v } } := by
  simp only [State.setMode, Nat.not_lt.2 hv, hd, hne, if_false, written, if_true, State.setObj_modes]

theorem setMode_range (idx : Nat) (hv : 1 < v) : written (s.setMode idx v) = s.emit (.refused stRange) := by
  simp only [State.setMode, hv, if_true, written]
  rfl

theorem setMode_draining (idx : Nat) (hv : v ≤ 1) (hd : s.obj (kDev idx 2) = 1) :
    written (s.setMode idx v) = s.emit (.refused stState) := by
  simp only [State.setMode, Nat.not_lt.2 hv, hd, if_true, if_false, written]
  rfl

theorem setMode_same (idx : Nat) (hv : v ≤ 1) (hd : s.obj (kDev idx 2) ≠ 1) (he : v = s.obj (kDev idx 1)) :
    written (s.setMode idx v) = s := by
  simp only [State.setMode, Nat.not_lt.2 hv, hd, if_false, ← he, if_true, written]

theorem forceMode_draining (idx : Nat) (hd : s.obj (kDev idx 2) = 1) : written (s.forceMode idx true) = s.abortAll := by
  simp [State.forceMode, hd, written]

theorem forceMode_notDraining (idx : Nat) (hd : s.obj (kDev idx 2) ≠ 1) :
    written (s.forceMode idx true) = s.emit (.refused stState) := by
  simp [State.forceMode, hd, written, stState, stOk]

end

/-! ### The end of a drain -/

/-- The object of a mode that applies (R191 step 4): the mode, and no drain; memory, the cores and the modes that wait stay. -/
theorem applyMode_some (s : State) {idx : Nat} (v : Nat) (hlog : idx ≠ 0x4000 ∧ idx ≠ 0x1010) :
    (s.applyMode idx (some v)).obj (kDev idx 1) = v ∧ (s.applyMode idx (some v)).obj (kDev idx 2) = 0 ∧
      NoticeOnly s (s.applyMode idx (some v)) := by
  obtain ⟨h1, h2⟩ := hlog
  have hobj : ∀ sub < 256, (s.applyMode idx (some v)).obj (kDev idx sub) =
      ((s.setObj (kDev idx 1) v).setObj (kDev idx 2) 0).obj (kDev idx sub) := fun sub hsub =>
    (event_logsOnly ..).objs _ (by unfold kDev objKey; omega) (by unfold kDev objKey; omega)
  refine ⟨?_, ?_, ((setObj_noticeOnly ..).trans (setObj_noticeOnly ..)).trans (event_noticeOnly ..)⟩
  · rw [hobj 1 (by omega), State.obj_setObj_ne _ (by unfold kDev objKey; omega), State.obj_setObj_same]
  · rw [hobj 2 (by omega), State.obj_setObj_same]

theorem NoticeOnly.modes {s u : State} (h : NoticeOnly s u) : u.modes = s.modes := by
  obtain ⟨_, _, _, _, rfl⟩ := h
  rfl

/-- What the end of a drain leaves of a mode that waited, however the modes that wait are written then. -/
theorem applyMode_ends (s : State) {idx : Nat} (v : Nat) (hlog : idx ≠ 0x4000 ∧ idx ≠ 0x1010) (m : Modes) :
    let u := { s.applyMode idx (some v) with modes := m }
    u.obj (kDev idx 1) = v ∧ u.obj (kDev idx 2) = 0 ∧ u.modes = m ∧ BytesStay s u ∧ u.cores = s.cores := by
  obtain ⟨hmode, hdrain, hnotice⟩ := applyMode_some s v hlog
  exact ⟨hmode, hdrain, rfl, fun a => congrArg (nget 0 · a) hnotice.mem, hnotice.cores⟩

theorem endFunction_applies {s : State} {v : Nat} (hd : s.obj (kDev 0x2002 2) = 1) (hw : s.anyWork = false)
    (hm : s.modes.function = some v) : s.endFunction = { s.applyMode 0x2002 (some v) with modes := { s.modes with function := none } } := by
  simp only [State.endFunction, hd, hw, hm, ne_eq, not_true_eq_false, decide_false, Bool.or_false, Bool.false_eq_true, if_false,
    (applyMode_some s v (idx := 0x2002) (by decide)).2.2.modes]

theorem endContainment_applies {s : State} {v : Nat} (hd : s.obj (kDev 0x2001 2) = 1) (hw : s.anyWork = false)
    (hm : s.modes.containment = some v) :
    s.endContainment = { s.applyMode 0x2001 (some v) with modes := { s.modes with containment := none } } := by
  simp only [State.endContainment, hd, hw, hm, ne_eq, not_true_eq_false, decide_false, Bool.or_false, Bool.false_eq_true, if_false,
    (applyMode_some s v (idx := 0x2001) (by decide)).2.2.modes]

theorem drainEnd_waits {s : State} (h : s.anyWork = true) : s.endFunction = s ∧ s.endContainment = s := by
  simp only [State.endFunction, State.endContainment, h, Bool.or_true, if_true, and_self]

/-! ### Glide (R376) -/

/-- Two writes of different objects are writes of those objects and of nothing else. -/
theorem setObj_setObj_objWrite (s : State) {j k : Nat} (h : j ≠ k) (a b : Nat) :
    ObjWrite s ((s.setObj j a).setObj k b) [(j, a), (k, b)] := by
  refine ⟨rfl, fun i => ?_⟩
  by_cases hj : j = i
  · subst hj
    simp [State.obj_setObj_ne _ h]
  · by_cases hk : k = i
    · subst hk
      simp [hj]
    · simp [hj, hk, State.obj_setObj_ne _ (Ne.symm hj), State.obj_setObj_ne _ (Ne.symm hk)]

/-- A write of an object that names a second object with the value it has. -/
theorem setObj_objWrite_kept (s : State) (j k a : Nat) : ObjWrite s (s.setObj j a) [(j, a), (k, s.obj k)] := by
  refine ⟨rfl, fun i => ?_⟩
  by_cases hj : j = i
  · subst hj
    simp
  · by_cases hk : k = i
    · subst hk
      simp [hj, State.obj_setObj_ne _ (Ne.symm hj)]
    · simp [hj, hk, State.obj_setObj_ne _ (Ne.symm hj)]

theorem glideKeys_ne : kDev 0x2010 1 ≠ kDev 0x2010 2 := by decide

theorem enableGlide_off (s : State) : ObjWrite s (s.enableGlide false)
    [(kDev 0x2010 1, 0), (kDev 0x2010 2, if s.obj (kDev 0x2010 2) = 0 then 1 else s.obj (kDev 0x2010 2))] := by
  have hread : (s.setObj (kDev 0x2010 1) 0).obj (kDev 0x2010 2) = s.obj (kDev 0x2010 2) := State.obj_setObj_ne s glideKeys_ne.symm _
  simp only [State.enableGlide, b2n, Bool.false_eq_true, if_false, hread]
  split
  · exact setObj_setObj_objWrite s glideKeys_ne 0 1
  · exact setObj_objWrite_kept s _ _ 0

/-! ### The obligation -/

/-- Settles O37: a write of a mode by the cases of `State.setMode`, the end of its drain by `applyMode_ends`, Glide by the writes of
its two objects. -/
theorem modesDrainAndApply : Obligations.ModesDrainAndApply := by
  refine ⟨fun p hp s v => ?_, fun p hp s => ?_, fun s v hd hw hm => ?_, fun s v hd hw hm => ?_, fun s hw => ?_, fun s => ?_, fun s => ?_,
    fun s hd hg => ?_, fun s => ?_⟩
  · have hexec : exec (p.1 v) s = .next (written (s.setMode p.2 v.toNat)) := by
      simp only [List.mem_cons, List.not_mem_nil, or_false] at hp
      rcases hp with rfl | rfl <;> rfl
    rw [TurnedAway, TurnedAway, hexec]
    refine ⟨fun hv hd hne => ?_, fun hv => ?_, fun hv hd => ?_, fun hv hd he => ?_⟩
    · exact ⟨_, congrArg Host.Outcome.next (setMode_keeps_write s _ _ hv hd hne), rfl, (setObj_objWrite s _ 1).2, rfl⟩
    · rw [setMode_range s _ _ hv]
    · rw [setMode_draining s _ _ hv hd]
    · rw [setMode_same s _ _ hv hd he]
  · have hexec : ∀ b, exec (p.1 b) s = .next (written (s.forceMode p.2 b)) := by
      simp only [List.mem_cons, List.not_mem_nil, or_false] at hp
      rcases hp with rfl | rfl <;> exact fun _ => rfl
    rw [TurnedAway, hexec, hexec]
    exact ⟨rfl, fun hd => by rw [forceMode_draining s _ hd], fun hd => by rw [forceMode_notDraining s _ hd]⟩
  · exact ⟨_, congrArg Host.Outcome.next (endFunction_applies hd hw hm), applyMode_ends s v (by decide) _⟩
  · exact ⟨_, congrArg Host.Outcome.next (endContainment_applies hd hw hm), applyMode_ends s v (by decide) _⟩
  · obtain ⟨hfunction, hcontainment⟩ := drainEnd_waits hw
    exact ⟨congrArg Host.Outcome.next hfunction, congrArg Host.Outcome.next hcontainment⟩
  · exact ⟨_, rfl, setObj_setObj_objWrite s glideKeys_ne 1 0⟩
  · exact ⟨_, rfl, enableGlide_off s⟩
  · refine ⟨_, congrArg Host.Outcome.next (?_ : s.endGlide = s.setObj (kDev 0x2010 2) 2), setObj_objWrite ..⟩
    simp [State.endGlide, hd, hg]
  · refine ⟨rfl, fun hd => congrArg Host.Outcome.next ?_, fun hd => congrArg Host.Outcome.next ?_⟩
    · simp [State.forceGlide, hd, written]
    · simp [State.forceGlide, hd, written, stState, stOk]

end Sys2Proof.Machine
end

section
/-! PROOFS. Routine images and the ROUTINE command (R207, R208, R214, R217, R230). -/

namespace Sys2Proof.Machine

open Sys2Proof.Claims

/-! ### The image of a task (R207, R208) -/

theorem coreOnly_modTask_map {s u : State} {core : CoreId} {c : CoreSt} (h : CoreOnly s u core c) (f : Task → Task) :
    CoreOnly s (u.modTask core.c core.s f) core { c with task := c.task.map f } := by
  have hm := modCore_coreOnly u core (fun c => { c with task := c.task.map f })
  rw [show u.core core.c core.s = c from h.core] at hm
  exact coreOnly_trans h hm

theorem coreOnly_modTask {s u : State} {core : CoreId} {c : CoreSt} {t : Task} (h : CoreOnly s u core c) (ht : c.task = some t)
    (f : Task → Task) : CoreOnly s (u.modTask core.c core.s f) core { c with task := some (f t) } := by
  have hm := coreOnly_modTask_map h f
  rwa [ht] at hm

section
variable {s : State} {core : CoreId} {t : Task} {bs : List Byte}

/-- A task whose image stands in routine memory, or that names none, goes on. -/
theorem imageLoad_ready (hl : s.liveTask core.c core.s = some t) (hi : t.imageDone = false)
    (hr : (s.core core.c core.s).imageReady t.desc = true) :
    CoreOnly s (s.imageLoad core.c core.s) core { s.core core.c core.s with task := some { t with imageDone := true } } := by
  simp only [State.imageLoad, hl, hi, hr, Bool.false_eq_true, if_false, if_true]
  exact modTask_coreOnly (fun t => { t with imageDone := true }) (liveTask_task hl)

/-- Of an image that has been read, the checks of R208 decide. -/
theorem imageLoad_read (hl : s.liveTask core.c core.s = some t) (hi : t.imageDone = false)
    (hr : (s.core core.c core.s).imageReady t.desc = false)
    (hb : s.readVa (s.accNow t) (fld t.desc 799 752) 16384 = .ok bs) : s.imageLoad core.c core.s =
      if imgNat (nsetRun (0 : Byte) [] 0 bs) 0 8 ≠ fld t.desc 863 800 ∨ imageBad (nsetRun (0 : Byte) [] 0 bs) = true then
        s.taskFail core.c core.s cDescriptor
      else (s.modCore core.c core.s (fun c => { c with rmem := nsetRun (0 : Byte) [] 0 bs, resident := true })).modTask
        core.c core.s (fun t => { t with imageDone := true }) := by
  simp [State.imageLoad, hl, hi, hr, hb]

end

/-! ### ROUTINE (R214, R217, R230) -/

/-- A generator takes its first slab (R136). -/
def genFirst (b : Nat) (acc : CoreSt × List GenUse) (g : GenUse) : CoreSt × List GenUse :=
  let t := if g.makes then acc.1.takeFill (agRing (bAg b g.gen)) 1 else acc.1.takeRead (agRing (bAg b g.gen)) 1
  (t.2, acc.2 ++ [{ g with first := t.1 }])

/-- A generator takes the slabs of its further units of work (R217). -/
def genFurther (b n : Nat) (c : CoreSt) (g : GenUse) : CoreSt :=
  let ring := agRing (bAg b g.gen)
  (if g.makes then c.takeFill ring (n - 1) else c.takeRead ring (n - 1)).2

theorem takeGens_eq (c : CoreSt) (b : Nat) (l : List GenUse) (n : Nat) : c.takeGens b l n =
    if n = 0 then (c, l) else (l.foldl (genFurther b n) (l.foldl (genFirst b) (c, [])).1, (l.foldl (genFirst b) (c, [])).2) := rfl

theorem genFirst_setTask (b : Nat) (o : Option Task) (acc : CoreSt × List GenUse) (g : GenUse) :
    genFirst b ({ acc.1 with task := o }, acc.2) g = ({ (genFirst b acc g).1 with task := o }, (genFirst b acc g).2) := by
  unfold genFirst
  dsimp only
  split <;> rfl

theorem genFurther_setTask (b n : Nat) (o : Option Task) (c : CoreSt) (g : GenUse) :
    genFurther b n { c with task := o } g = { genFurther b n c g with task := o } := by
  unfold genFurther
  dsimp only
  split <;> rfl

/-- The slabs that generators take do not depend on the task, which stays. -/
theorem takeGens_setTask (c : CoreSt) (o : Option Task) (b : Nat) (l : List GenUse) (n : Nat) :
    ({ c with task := o } : CoreSt).takeGens b l n = ({ (c.takeGens b l n).1 with task := o }, (c.takeGens b l n).2) := by
  have hfirst := List.foldl_hom (l := l) (init := (c, ([] : List GenUse)))
    (fun p : CoreSt × List GenUse => (({ p.1 with task := o } : CoreSt), p.2)) (fun p g => genFirst_setTask b o p g)
  have hfurther := fun c => List.foldl_hom (l := l) (init := c) (fun c : CoreSt => ({ c with task := o } : CoreSt))
    (fun c g => genFurther_setTask b n o c g)
  rw [takeGens_eq, takeGens_eq]
  split
  · rfl
  · rw [hfirst, hfurther]

theorem queueRoutine_setTask (c : CoreSt) (o : Option Task) (x : Section) :
    ({ c with task := o } : CoreSt).queueRoutine x = { c.queueRoutine x with task := o } := by
  simp only [CoreSt.queueRoutine, takeGens_setTask]
  rfl

section
variable {s : State} {core : CoreId} {t : Task} {w b : Nat}

/-- The section that waits its turn after ROUTINE (R214). -/
def routineSection (t : Task) (b : Nat) : Section := Section.fresh .standalone (bEntry b) t.cmdNum b 0 (bSection b)

/-- A ROUTINE command whose binding block `b` has been read fails its checks, or starts and waits its turn. -/
theorem routineCmd_read (h : AtCommand s core 0x20 t w) (hw : fld w 247 64 = 0)
    (hb : s.readVaNat (s.accNow t) (fld w 63 0) 256 = .ok b) : s.routineCmd core.c core.s =
      if routineBad (s.core core.c core.s) b = true then s.taskFail core.c core.s cDescriptor
      else (s.startCmd core.c core.s w id).modCore core.c core.s (fun c => c.queueRoutine (routineSection t b)) := by
  rw [State.routineCmd, seqCmd_at h rfl]
  simp only [hw, hb, ne_eq, not_true_eq_false, if_false, Option.getD_some]
  rfl

theorem startedRoutine_coreOnly (ht : (s.core core.c core.s).task = some t) (w : Nat) (x : Section) :
    CoreOnly s ((s.startCmd core.c core.s w id).modCore core.c core.s (fun c => c.queueRoutine x)) core
      { (s.core core.c core.s).queueRoutine x with task := some (t.started w) } := by
  have hstart := startCmd_coreOnly_self ht w id
  have hc : (s.startCmd core.c core.s w id).core core.c core.s =
      { s.core core.c core.s with task := some (t.started w) } := hstart.core
  rw [← queueRoutine_setTask, ← hc]
  exact coreOnly_trans hstart (modCore_coreOnly _ core _)

end

/-- Settles O18: an image by `imageLoad_ready` and `imageLoad_read`, a ROUTINE command by `routineCmd_read`; its slabs are taken whatever
its task is (`queueRoutine_setTask`). -/
theorem routineImagesAndCommands : Obligations.RoutineImagesAndCommands := by
  refine ⟨fun s core t hl hi => ⟨fun hr => ⟨_, rfl, imageLoad_ready hl hi hr⟩, fun bs hr hb =>
      ⟨fun hid hgood => ⟨_, rfl, ?_⟩, fun hbad => congrArg Host.Outcome.next ?_⟩⟩,
    fun s core t w b h hw hb => ⟨fun hbad => congrArg Host.Outcome.next ?_, fun hgood => ⟨_, rfl, ?_⟩⟩⟩
  · rw [imageLoad_read hl hi hr hb, if_neg (not_or.2 ⟨not_not.2 hid, ne_true_of_eq_false hgood⟩)]
    exact coreOnly_modTask (modCore_coreOnly s core _) (liveTask_task hl) _
  · rw [imageLoad_read hl hi hr hb, if_pos hbad]
  · rw [routineCmd_read h hw hb, if_pos hbad]
  · rw [routineCmd_read h hw hb, if_neg (ne_true_of_eq_false hgood)]
    exact startedRoutine_coreOnly (liveTask_task h.live) w _

end Sys2Proof.Machine
end

section
/-! PROOFS. What the steps of a routine section leave of their core and count (R165, R203, R219 to R226, R236): operations, inputs and
write backs keep the task, and a step that runs to its end counts each of its operations once. -/

namespace Sys2Proof.Machine

open Sys2Proof.Claims

/-! ### Operations keep the task -/

/-- An operation keeps the task of its core. -/
def KeepsTask (c : CoreSt) (z : VRes) : Prop := z.c.task = c.task

section
variable {c : CoreSt} {z y : VRes}

theorem KeepsTask.ite {p : Prop} [Decidable p] (hz : KeepsTask c z) (hy : KeepsTask c y) : KeepsTask c (if p then z else y) := by
  split
  · exact hz
  · exact hy

theorem KeepsTask.sources {v : VEnv} {w n : Nat} {f : List (List Nat) → VRes} (h : ∀ xs, KeepsTask c (f xs)) :
    KeepsTask c (match c.operands v w n with
      | .error e => .halt c e
      | .ok xs => f xs) := by
  split
  · rfl
  · exact h _

theorem KeepsTask.reached {o : Option (Option Nat)} (h : KeepsTask c z) :
    KeepsTask c (match o with
      | some e => .halt c e
      | none => z) := by
  split
  · rfl
  · exact h

end

/-- A run of steps that each keep the task keeps it. -/
theorem foldl_keeps_task {β γ : Type} (p : γ → CoreSt) {f : γ → β → γ} (hf : ∀ a x, (p (f a x)).task = (p a).task) (a : γ)
    (l : List β) : (p (l.foldl f a)).task = (p a).task := by
  induction l generalizing a with
  | nil => rfl
  | cons x l ih => exact (ih _).trans (hf a x)

/-- Bytes written to operand SRAM keep it. -/
theorem foldl_wr_task {β : Type} {a : β → Nat} {bs : β → List Byte} (c : CoreSt) (l : List β) :
    (l.foldl (fun c x => c.wr (a x) (bs x)) c).task = c.task :=
  foldl_keeps_task id (f := fun c x => c.wr (a x) (bs x)) (fun _ _ => rfl) c l

section
variable (v : VEnv) (c : CoreSt) (w : Nat)

@[simp] theorem ok_keepsTask (ev : Ev) : KeepsTask c (.ok c ev) := rfl

@[simp] theorem vLanes_keepsTask (n : Nat) (f : List Nat → Nat × Ev) : KeepsTask c (c.vLanes n f v w) := .sources fun _ => rfl

@[simp] theorem vSfu_keepsTask (tm1 : Bool) (fn : SfuFn) : KeepsTask c (c.vSfu tm1 fn v w) := vLanes_keepsTask v c w 1 (lSfu tm1 fn)

@[simp] theorem vPacked_keepsTask (n : Nat) (f : List Nat → Nat × Ev) : KeepsTask c (c.vPacked n f v w) := .sources fun _ => rfl

@[simp] theorem vCompare_keepsTask (f : Nat → Nat → Bool) : KeepsTask c (c.vCompare f v w) := .sources fun _ => rfl

@[simp] theorem vMask_keepsTask (f : BitVec 512 → BitVec 512 → BitVec 512) : KeepsTask c (c.vMask f v w) := rfl

@[simp] theorem vMpop_keepsTask : KeepsTask c (c.vMpop v w) := rfl

@[simp] theorem vSel_keepsTask : KeepsTask c (c.vSel v w) := .sources fun _ => rfl

@[simp] theorem vFquant_keepsTask : KeepsTask c (c.vFquant v w) := .sources fun _ => .ite rfl rfl

@[simp] theorem vRand_keepsTask : KeepsTask c (c.vRand v w) := by
  unfold CoreSt.vRand
  dsimp only
  split
  · rfl
  · exact .ite rfl rfl

@[simp] theorem vLd_keepsTask : KeepsTask c (c.vLd v w) := .reached rfl

@[simp] theorem vSt_keepsTask : KeepsTask c (c.vSt v w) := .sources fun _ => .reached (foldl_wr_task c _)

@[simp] theorem vStq_keepsTask : KeepsTask c (c.vStq v w) := .sources fun _ => .ite rfl (.reached (foldl_wr_task c _))

@[simp] theorem vLdx_keepsTask : KeepsTask c (c.vLdx v w) := .sources fun _ => rfl

@[simp] theorem vStx_keepsTask : KeepsTask c (c.vStx v w) := .sources fun _ => foldl_wr_task c _

@[simp] theorem vPerm_keepsTask : KeepsTask c (c.vPerm v w) := .sources fun _ => rfl

@[simp] theorem vShuf_keepsTask : KeepsTask c (c.vShuf v w) := .sources fun _ => rfl

@[simp] theorem vPack_keepsTask : KeepsTask c (c.vPack v w) := .sources fun _ => .ite rfl rfl

@[simp] theorem vUnpack_keepsTask : KeepsTask c (c.vUnpack v w) := .sources fun _ => rfl

@[simp] theorem vLsum_keepsTask : KeepsTask c (c.vLsum v w) := .sources fun _ => rfl

@[simp] theorem vFold_keepsTask (f : Nat → Nat → Nat) : KeepsTask c (c.vFold f v w) := .sources fun _ => rfl

@[simp] theorem vLmaxi_keepsTask : KeepsTask c (c.vLmaxi v w) := .sources fun _ => rfl

@[simp] theorem vStatLeaf_keepsTask (tm1 : Bool) : KeepsTask c (c.vStatLeaf tm1 v w) := by
  cases h : c.operands v w 2 with
  | error e =>
    simp only [CoreSt.vStatLeaf, h]
    rfl
  | ok xs =>
    obtain ⟨c', ev, hv, hc⟩ := vStatLeaf_adds tm1 h
    rw [hv, KeepsTask, VRes.ok, hc.only]

@[simp] theorem vStatGet_keepsTask : KeepsTask c (c.vStatGet v w) := by
  unfold CoreSt.vStatGet
  dsimp only
  split
  · rfl
  · rfl
  · exact .ite rfl (.reached rfl)

@[simp] theorem vIndex_keepsTask : KeepsTask c (c.vIndex v w) := rfl

@[simp] theorem vSample_keepsTask (s : State) : KeepsTask c (s.vSample v c w) := by
  unfold State.vSample
  refine .sources fun xs => .ite rfl (.ite rfl ?_)
  split
  · rfl
  · rfl
  · exact .ite rfl (.ite rfl (foldl_wr_task c _))

/-- Every operation keeps the task, one of a code that R167 and R212 leave undefined too. -/
theorem vop_keepsTask (s : State) (code : Nat) : KeepsTask c (s.vop code v c w) := by
  unfold State.vop
  split <;> simp

end

/-! ### Inputs and write backs keep the task -/

theorem placeInputs_task {c c' : CoreSt} {v : VEnv} {x : Section} {ev : Ev} (h : c.placeInputs v x = .ok (c', ev)) :
    c'.task = c.task := by
  unfold CoreSt.placeInputs at h
  refine List.foldlRecOn (motive := fun a : Except (Option Nat) (CoreSt × Ev) => ∀ y, a = .ok y → y.1.task = c.task) _ _ ?_ ?_ _ h
  · rintro _ ⟨⟩
    rfl
  · intro a ih r _ y hy
    split at hy
    · cases hy
    · split at hy
      · cases hy
      · cases hy
        exact (ih _ rfl :)

theorem proRow_sram_only (c : CoreSt) (v : VEnv) (slab ik i r : Nat) (p : Bool) :
    ∃ m, (c.proRow v slab ik i r p).1 = { c with sram := m } := by
  unfold CoreSt.proRow
  dsimp only
  split
  · exact ⟨_, rfl⟩
  · exact ⟨_, rfl⟩

theorem proRow_task (c : CoreSt) (v : VEnv) (slab ik i r : Nat) (p : Bool) : (c.proRow v slab ik i r p).1.task = c.task := by
  obtain ⟨m, h⟩ := proRow_sram_only c v slab ik i r p
  rw [h]

theorem writeBack_task (c : CoreSt) (v : VEnv) (x : Section) : (c.writeBack v x).1.task = c.task := by
  unfold CoreSt.writeBack
  dsimp only
  split
  · refine foldl_keeps_task Prod.fst (fun a r => ?_) (c, Ev.none) _
    exact proRow_task ..
  · split
    · split
      · rfl
      · rfl
    · split
      · refine foldl_keeps_task id (fun _ _ => ?_) c _
        rfl
      · rfl
  · rfl

/-! ### A run of words, and a step -/

/-- Where `r'` has not stopped: neither had `r` from which it comes, the core has the task that it had, and `n` further operations are
counted. -/
structure Ran (n : Nat) (r r' : VRes) : Prop where
  ran : r.stop = none
  task : r'.c.task = r.c.task
  counted : r'.ops = r.ops + n

theorem Ran.trans {m n : Nat} {r r' r'' : VRes} (h : Ran m r r') (k : Ran n r' r'') : Ran (m + n) r r'' :=
  ⟨h.ran, k.task.trans h.task, by rw [k.counted, h.counted, Nat.add_assoc]⟩

/-- The operations among words; the others are directives (R203). -/
def opCount (ws : List Nat) : Nat := (ws.filter (fun w => wClass w = 0)).length

theorem opCount_cons (w : Nat) (ws : List Nat) : opCount (w :: ws) = b2n (decide (wClass w = 0)) + opCount ws := by
  by_cases h : wClass w = 0
  · simp [opCount, h, b2n, Nat.add_comm]
  · simp [opCount, h, b2n]

theorem opCount_append (l ws : List Nat) : opCount (l ++ ws) = opCount l + opCount ws := by simp [opCount]

/-- One word that runs. -/
theorem next_ran {r z : VRes} {op : Bool} (hr : r.stop = none) (hz : (r.next op z).stop = none) (ht : KeepsTask r.c z) :
    Ran (b2n op) r (r.next op z) := ⟨hr, ht, congrArg (r.ops + ·) (VRes.issued_ran hz op)⟩

theorem runWords_ran {s : State} {v : VEnv} {ws : List Nat} {r : VRes} (h : (s.runWords v ws r).stop = none) :
    Ran (opCount ws) r (s.runWords v ws r) := by
  induction ws generalizing r with
  | nil => exact ⟨h, rfl, rfl⟩
  | cons w ws ih =>
    cases hr : r.stop with
    | some o => simp [State.runWords, hr] at h
    | none =>
      simp only [State.runWords, hr, Option.isSome_none, Bool.false_eq_true, if_false] at h ⊢
      rw [opCount_cons]
      exact (next_ran hr (ih h).ran (vop_keepsTask ..)).trans (ih h)

/-- The inputs of a step's rows are placed, unless they cannot be read (R219, R220). -/
def VRes.placed (r : VRes) (v : VEnv) (x : Section) : VRes :=
  if r.stop.isSome then r else
    match (r.c.setPresence v).placeInputs v x with
    | .error e => { r with stop := some e }
    | .ok (c, ev) => { r with c := c, ev := r.ev.plus ev }

theorem placed_ran {v : VEnv} {x : Section} {r : VRes} (h : (r.placed v x).stop = none) : Ran 0 r (r.placed v x) := by
  cases hr : r.stop with
  | some o => simp [VRes.placed, hr] at h
  | none =>
    simp only [VRes.placed, hr, Option.isSome_none, Bool.false_eq_true, if_false] at h ⊢
    split at h
    · cases h
    · next c ev hin => exact ⟨hr, (placeInputs_task hin :), rfl⟩

/-- The core as a step begins: its section has no records yet, and its registers are fresh where its head is to run (R221). -/
def stepCoreAt (c : CoreSt) (x : Section) (free : Nat) : CoreSt :=
  if x.head then { c with sect := some { x with stepStats := [] } }
  else ({ c with sect := some { x with stepStats := [] } } : CoreSt).freshRegs (free + 1)

/-- The words that a step runs: those of the head too where it has not run. -/
def stepWords (c : CoreSt) (x : Section) : List Nat :=
  (if x.head then [] else headWords c.rmem (imgEntry c.rmem x.entry)) ++ sectWords c x

/-- The words of a step before its write back. -/
def State.stepBody (s : State) (c : CoreSt) (t : Task) (x : Section) (free : Nat) : VRes :=
  let v := c.venv t x free
  let r := (VRes.ok (stepCoreAt c x free) .none).placed v x
  s.runWords v (sectWords c x) (if x.head then r else
    (s.runWords { v with free := v.free + 2048 } (headWords c.rmem (imgEntry c.rmem x.entry)) { r with ev := .none }).placed v x)

theorem stepRows_eq (s : State) (c : CoreSt) (t : Task) (x : Section) (free : Nat) : s.stepRows c t x free =
    if (s.stepBody c t x free).stop.isSome then s.stepBody c t x free
    else if x.kind = .prologue ∧ (c.venv t x free).needsKey (bProCtrl (c.venv t x free).bind) then
      { s.stepBody c t x free with stop := some (some cDescriptor) }
    else { s.stepBody c t x free with
      c := ((s.stepBody c t x free).c.writeBack (c.venv t x free) x).1
      ev := (s.stepBody c t x free).ev.plus ((s.stepBody c t x free).c.writeBack (c.venv t x free) x).2 } := by
  rfl

theorem stepBody_ran {s : State} {c : CoreSt} {t : Task} {x : Section} {free : Nat} (h : (s.stepBody c t x free).stop = none) :
    (s.stepBody c t x free).c.task = c.task ∧ (s.stepBody c t x free).ops = opCount (stepWords c x) := by
  have hbegin : (stepCoreAt c x free).task = c.task := by
    unfold stepCoreAt
    split <;> rfl
  unfold State.stepBody at h ⊢
  unfold stepWords
  dsimp only at h ⊢
  have hbody := runWords_ran h
  cases hx : x.head with
  | true =>
    simp only [hx, if_true, List.nil_append] at hbody ⊢
    have hall := (placed_ran hbody.ran).trans hbody
    exact ⟨hall.task.trans hbegin, by rw [hall.counted]; simp [VRes.ok]⟩
  | false =>
    simp only [hx, Bool.false_eq_true, if_false] at hbody ⊢
    have hin := placed_ran hbody.ran
    have hhead := runWords_ran hin.ran
    have hfirst := placed_ran (r := .ok (stepCoreAt c x free) .none) (v := c.venv t x free) (x := x) hhead.ran
    refine ⟨(((hhead.trans hin).trans hbody).task.trans hfirst.task).trans hbegin, ?_⟩
    rw [((hhead.trans hin).trans hbody).counted, hfirst.counted, opCount_append]
    simp [VRes.ok]

/-- A step that runs to its end keeps the task and counts each of its operations once (R203). -/
theorem stepRows_ran {s : State} {c : CoreSt} {t : Task} {x : Section} {free : Nat} (h : (s.stepRows c t x free).stop = none) :
    (s.stepRows c t x free).c.task = c.task ∧ (s.stepRows c t x free).ops = opCount (stepWords c x) := by
  rw [stepRows_eq] at h ⊢
  cases hb : (s.stepBody c t x free).stop with
  | some o => simp [hb] at h
  | none =>
    simp only [hb, Option.isSome_none, Bool.false_eq_true, if_false] at h ⊢
    split at h
    · cases h
    · next hkey =>
      obtain ⟨htask, hops⟩ := stepBody_ran hb
      simp only [hkey, if_false]
      exact ⟨(writeBack_task ..).trans htask, hops⟩

end Sys2Proof.Machine
end

section
/-! PROOFS. ROUTINE_STEP and FINISHING_SECTION (R127, R128, R217, R219 to R222, R225, R236 to R238): what ends a unit, a section and a
group, and what a step that is made leaves of the machine. -/

namespace Sys2Proof.Machine

open Sys2Proof.Claims

/-! ### The ends of units and sections -/

/-- The end of a unit changes rings and deliveries alone (R127, R128). -/
theorem endUnit_only (c : CoreSt) (x : Section) : ∃ rs ds, c.endUnit x = { c with rings := rs, deliveries := ds } := by
  unfold CoreSt.endUnit
  refine List.foldlRecOn (motive := fun c' : CoreSt => ∃ rs ds, c' = { c with rings := rs, deliveries := ds }) _ _ ⟨_, _, rfl⟩ ?_
  rintro _ ⟨rs, ds, rfl⟩ g _
  split
  · exact ⟨_, _, rfl⟩
  · exact ⟨_, _, rfl⟩

theorem endUnit_sram (c : CoreSt) (x : Section) : (c.endUnit x).sram = c.sram := by
  obtain ⟨rs, ds, h⟩ := endUnit_only c x
  rw [h]

/-- The task of a core and its section in progress. -/
def CoreSt.taskSect (c : CoreSt) : Option Task × Option Section := (c.task, c.sect)

theorem endUnit_taskSect (c : CoreSt) (x : Section) : (c.endUnit x).taskSect = c.taskSect := by
  obtain ⟨rs, ds, h⟩ := endUnit_only c x
  rw [h]
  rfl

theorem drained_taskSect (c : CoreSt) (ti : Tile) (mi ni : Nat) : (c.drained ti mi ni).taskSect = c.taskSect := by
  obtain ⟨ts, h⟩ := drained_tiles_only c ti mi ni
  rw [h]
  rfl

theorem proRow_taskSect (c : CoreSt) (v : VEnv) (slab ik i r : Nat) (p : Bool) : (c.proRow v slab ik i r p).1.taskSect = c.taskSect := by
  obtain ⟨m, h⟩ := proRow_sram_only c v slab ik i r p
  rw [h]
  rfl

theorem endPrologue_taskSect (c : CoreSt) (v : VEnv) (x : Section) (ti : Tile) :
    (c.endPrologue v x ti).taskSect = c.taskSect := by
  unfold CoreSt.endPrologue
  refine List.foldlRecOn (motive := fun c' : CoreSt => c'.taskSect = c.taskSect) _ _ rfl ?_
  exact fun c' ih i _ => (proRow_taskSect ..).trans ih

/-- A section that ends leaves its task, and no section in progress. -/
theorem endSection_taskSect (tm1 : Bool) (c : CoreSt) (v : VEnv) (x : Section) :
    (c.endSection tm1 v x).1.taskSect = (c.task, none) := by
  unfold CoreSt.endSection
  dsimp only
  split
  · exact (endPrologue_taskSect ..).trans (endUnit_taskSect ..)
  · split
    · refine (drained_taskSect ..).trans ?_
      split
      · rfl
      · exact endUnit_taskSect ..
    · split
      · exact (drained_taskSect ..).trans (endUnit_taskSect ..)
      · exact (drained_taskSect ..).trans (endUnit_taskSect ..)
  · exact endUnit_taskSect ..
  · rfl

/-! ### The section whose turn it is -/

theorem enter_task (c : CoreSt) (o : Option Regs) (x : Section) : (c.enter o x).1.task = c.task := by
  unfold CoreSt.enter
  split <;> rfl

theorem formY_task (c : CoreSt) (ti : Tile) (mi ni : Nat) : (c.formY ti mi ni).1.task = c.task := by
  obtain ⟨m, ts, h⟩ := formY_sram_tiles_only c ti mi ni
  rw [h]

/-- The core without the ROUTINE command whose section begins. -/
def CoreSt.popRoutine (c : CoreSt) (x : Section) : CoreSt := if x.kind = .standalone then { c with routines := c.routines.drop 1 } else c

theorem popRoutine_task (c : CoreSt) (x : Section) : (c.popRoutine x).task = c.task := by
  unfold CoreSt.popRoutine
  split <;> rfl

theorem startSection_task {c c' : CoreSt} {x : Section} {ev : Ev} (h : c.startSection = some (c', x, ev)) : c'.task = c.task := by
  unfold CoreSt.startSection at h
  simp only [← CoreSt.popRoutine.eq_1] at h
  split at h
  · cases h
  · next y _ =>
    simp only [Option.ite_none_left_eq_some, Option.some.injEq, Prod.mk.injEq] at h
    obtain ⟨-, rfl, -⟩ := h
    rw [enter_task]
    split
    · rw [formY_task]
      split
      · exact popRoutine_task c y
      · exact popRoutine_task c y
    · exact popRoutine_task c y

/-- The section whose turn it is runs on the core of the same task. -/
theorem turn_task {c c' : CoreSt} {x : Section} {ev : Ev} (h : c.turn = some (c', x, ev)) : c'.task = c.task := by
  unfold CoreSt.turn at h
  split at h
  · split at h
    · cases h
    · cases h
      rfl
  · exact startSection_task h

/-! ### What a step leaves of the machine -/

/-- Nothing but cores, objects and the number of free values has changed, the core is `c` with its watchdog cleared and its events counted
on its task, and `ops` operations are counted (R146, R203). -/
structure StepLeft (s u : State) (core : CoreId) (c : CoreSt) (ops : Nat) : Prop where
  rest : u = { s with cores := u.cores, objs := u.objs, free := s.free + 1 }
  bytes : ∀ a, u.byte a = s.byte a
  left : after u core = { c with wdCount := 0, task := (after u core).task }
  counted : u.obj (kCore core.c core.s 2 1) = wrapAdd48 (s.obj (kCore core.c core.s 2 1)) ops

theorem vecDone_stepLeft (s : State) (core : CoreId) (r : VRes) : StepLeft s (s.vecDone core.c core.s r) core r.c r.ops where
  rest := State.vecDone_rest s core.c core.s r
  bytes a := by
    rw [State.vecDone_rest]
    rfl
  left := by rw [after, State.vecDone_core]
  counted := by rw [State.vecDone_obj, if_pos rfl]

theorem StepLeft.modTask {s u : State} {core : CoreId} {c : CoreSt} {ops : Nat} (h : StepLeft s u core c ops) (f : Task → Task) :
    StepLeft s (u.modTask core.c core.s f) core c ops where
  rest := by
    conv_lhs => rw [h.rest]
    rfl
  bytes := h.bytes
  left := by
    have hm : after (u.modTask core.c core.s f) core = _ := State.core_modCore_same u core.c core.s _
    rw [hm, ← after, h.left]
  counted := h.counted

/-! ### ROUTINE_STEP -/

/-- What the words of a step leave; a section with no row left runs none. -/
def State.stepOf (s : State) (c : CoreSt) (t : Task) (x : Section) : VRes :=
  if c.sectRows x ≤ x.row then .ok c .none else s.stepRows c t x (s.free * 4096)

/-- The operations of a step. -/
def stepOps (c : CoreSt) (x : Section) : Nat := if c.sectRows x ≤ x.row then 0 else opCount (stepWords c x)

/-- The section at its next rows, its head run. -/
def State.sectAfter (s : State) (c : CoreSt) (t : Task) (x : Section) : Section :=
  match (s.stepOf c t x).c.sect with
  | some y => { y with row := x.row + eRps (imgEntry c.rmem x.entry), head := true }
  | none => x

/-- The step comes to the end of its section, or of a unit of a standalone one. -/
def State.StepEnds (s : State) (c : CoreSt) (t : Task) (x : Section) : Prop :=
  c.sectRows x ≤ (s.sectAfter c t x).row ∨ unitTurn (s.sectAfter c t x) (s.sectAfter c t x).row = true

/-- What a step leaves once it has ended its section, or a unit of it, or neither. -/
def State.stepEnd (s : State) (c : CoreSt) (t : Task) (x : Section) : CoreSt × Ev × List Staged :=
  let r := s.stepOf c t x
  let z := s.sectAfter c t x
  if c.sectRows x ≤ z.row then r.c.endSection s.tm1 (r.c.venv t z (s.free * 4096)) z
  else if unitTurn z z.row then ({ r.c.endUnit z with sect := some (r.c.unitOf z) }, Ev.none, [])
  else ({ r.c with sect := some z }, Ev.none, [])

/-- The step once it has ended its section, or a unit of it, or neither, with the events that its beginning counted. -/
def State.stepDone (s : State) (c : CoreSt) (t : Task) (x : Section) (ev : Ev) : VRes :=
  { s.stepOf c t x with c := (s.stepEnd c t x).1, ev := (ev.plus (s.stepOf c t x).ev).plus (s.stepEnd c t x).2.1 }

/-- Contributions are staged on a task until it commits (R143). -/
def Task.stage (l : List Staged) (t : Task) : Task := { t with staged := t.staged ++ l }

theorem stepOf_ran {s : State} {c : CoreSt} {t : Task} {x : Section} (h : (s.stepOf c t x).stop = none) :
    (s.stepOf c t x).c.task = c.task ∧ (s.stepOf c t x).ops = stepOps c x := by
  unfold State.stepOf at h ⊢
  unfold stepOps
  split at h
  · next hrow =>
    simp only [hrow, if_true]
    exact ⟨rfl, rfl⟩
  · next hrow =>
    simp only [hrow, if_false]
    exact stepRows_ran h

section
variable {s : State} {core : CoreId} {t : Task} {c : CoreSt} {x : Section} {ev : Ev}

theorem stepEnd_rows (h : ¬ s.StepEnds c t x) :
    s.stepEnd c t x = ({ (s.stepOf c t x).c with sect := some (s.sectAfter c t x) }, Ev.none, []) := by
  obtain ⟨hlast, hturn⟩ := not_or.1 h
  exact (if_neg hlast).trans (if_neg hturn)

theorem stepEnd_unit (hlast : ¬ c.sectRows x ≤ (s.sectAfter c t x).row)
    (hturn : unitTurn (s.sectAfter c t x) (s.sectAfter c t x).row = true) : s.stepEnd c t x =
      ({ (s.stepOf c t x).c.endUnit (s.sectAfter c t x) with sect := some ((s.stepOf c t x).c.unitOf (s.sectAfter c t x)) },
        Ev.none, []) := (if_neg hlast).trans (if_pos hturn)

theorem stepEnd_section (hlast : c.sectRows x ≤ (s.sectAfter c t x).row) : s.stepEnd c t x =
    (s.stepOf c t x).c.endSection s.tm1 ((s.stepOf c t x).c.venv t (s.sectAfter c t x) (s.free * 4096)) (s.sectAfter c t x) :=
  if_pos hlast

theorem routineStep_idle (h : s.liveTask core.c core.s = none ∨ (s.core core.c core.s).turn = none) :
    s.routineStep core.c core.s = s := by
  unfold State.routineStep State.routineGo
  rcases h with h | h
  · simp [h]
  · simp [h]

variable (hl : s.liveTask core.c core.s = some t) (ht : (s.core core.c core.s).turn = some (c, x, ev))
include hl ht

theorem routineGo_eq : s.routineGo core.c core.s =
      let r := s.stepOf c t x
      let z := s.sectAfter c t x
      if r.stop.isSome then s.applyVec core.c core.s { r with ev := ev.plus r.ev }
      else if (decide (c.sectRows x ≤ z.row) || unitTurn z z.row) && !r.c.unitReady z then none
      else (s.applyVec core.c core.s (s.stepDone c t x ev)).map (fun u => u.modTask core.c core.s (Task.stage (s.stepEnd c t x).2.2)) := by
  unfold State.routineGo
  rw [hl, ht]
  rfl

/-- A step whose words wait changes nothing. -/
theorem routineStep_waits (h : (s.stepOf c t x).stop = some none) : s.routineStep core.c core.s = s := by
  simp [State.routineStep, routineGo_eq hl ht, State.applyVec, h]

theorem routineStep_fails {code : Nat} (h : (s.stepOf c t x).stop = some (some code)) : s.routineStep core.c core.s =
      (s.vecDone core.c core.s { s.stepOf c t x with ev := ev.plus (s.stepOf c t x).ev }).taskFail core.c core.s code := by
  simp [State.routineStep, routineGo_eq hl ht, State.applyVec, h]

/-- The end of a unit or of a section waits for its slabs (R127, R217). -/
theorem routineStep_awaits (h : (s.stepOf c t x).stop = none) (hend : s.StepEnds c t x)
    (hready : (s.stepOf c t x).c.unitReady (s.sectAfter c t x) = false) : s.routineStep core.c core.s = s := by
  unfold State.StepEnds at hend
  simp [State.routineStep, routineGo_eq hl ht, h, hend, hready]

/-- The step that ends its section leaves none in progress, and the task that the core had. -/
theorem stepEnd_section_taskSect (h : (s.stepOf c t x).stop = none) (hlast : c.sectRows x ≤ (s.sectAfter c t x).row) :
    (s.stepEnd c t x).1.taskSect = (some t, none) := by
  rw [stepEnd_section hlast, endSection_taskSect, (stepOf_ran h).1, turn_task ht, liveTask_task hl]

section
variable (h : (s.stepOf c t x).stop = none) (hgo : s.StepEnds c t x → (s.stepOf c t x).c.unitReady (s.sectAfter c t x) = true)
include h hgo

/-- A step that is made. -/
theorem routineStep_runs : s.routineStep core.c core.s =
      (s.vecDone core.c core.s (s.stepDone c t x ev)).modTask core.c core.s (Task.stage (s.stepEnd c t x).2.2) := by
  have hwait : ((decide (c.sectRows x ≤ (s.sectAfter c t x).row) || unitTurn (s.sectAfter c t x) (s.sectAfter c t x).row) &&
      !(s.stepOf c t x).c.unitReady (s.sectAfter c t x)) = false := by
    by_cases hend : s.StepEnds c t x
    · rw [hgo hend, Bool.not_true, Bool.and_false]
    · unfold State.StepEnds at hend
      simp [not_or.1 hend]
  have hdone : s.applyVec core.c core.s (s.stepDone c t x ev) = some (s.vecDone core.c core.s (s.stepDone c t x ev)) :=
    State.applyVec_ran _ _ _ _ h
  simp only [State.routineStep, routineGo_eq hl ht, h, hwait, hdone, Option.isSome_none, Bool.false_eq_true, if_false, Option.map_some,
    Option.getD_some]

/-- What a step that is made leaves. -/
theorem routineStep_left : StepLeft s (s.routineStep core.c core.s) core (s.stepEnd c t x).1 (stepOps c x) := by
  rw [routineStep_runs hl ht h hgo, ← (stepOf_ran h).2]
  exact (vecDone_stepLeft s core (s.stepDone c t x ev)).modTask _

/-- The contributions that a step stages on its task. -/
theorem routineStep_stages (htask : (s.stepEnd c t x).1.task = some t) :
    ∃ t', (after (s.routineStep core.c core.s) core).task = some t' ∧ t'.staged = t.staged ++ (s.stepEnd c t x).2.2 := by
  have hd : (s.vecDone core.c core.s (s.stepDone c t x ev)).core core.c core.s = _ := State.vecDone_core ..
  rw [routineStep_runs hl ht h hgo, after, State.modTask, State.core_modCore_same, hd]
  exact ⟨_, congrArg (Option.map _) (congrArg (Option.map _) htask), rfl⟩

end

end

/-! ### FINISHING_SECTION -/

/-- The oldest group as its finishing section begins, its stacks collapsed to their roots (R237). -/
def Group.closed (tm1 : Bool) (g : Group) : Group × Ev := if g.closing then (g, Ev.none) else g.collapse tm1

/-- The finishing section over a held sub-tile. -/
def Group.finSection (g : Group) (h : Held) : Section :=
  { Section.fresh .finishing g.entry h.tile h.binding h.ni false with gens := h.gens, slabs := h.slabs }

/-- How the steps of the finishing section over a held sub-tile end. -/
def State.finRun (s : State) (c : CoreSt) (t : Task) (g : Group) (h : Held) : VRes :=
  let y := (c.setGroup (g.closed s.tm1).1).enter g.finRegs (g.finSection h)
  s.finSteps t 129 (.ok { y.1 with sect := some y.2 } (g.closed s.tm1).2)

/-- The group without the sub-tile that the section has finished, with the registers that it left (R221). -/
def State.finRest (s : State) (c : CoreSt) (t : Task) (g : Group) (h : Held) (rest : List Held) : Group :=
  let r := s.finRun c t g h
  { (g.closed s.tm1).1 with held := rest, finRegs := (r.c.sect.map (r.c.leftRegs · g.finRegs)).getD g.finRegs }

/-- The core once the section has finished a held sub-tile, whose slab then awaits delivery. -/
def State.finCore (s : State) (c : CoreSt) (t : Task) (g : Group) (h : Held) (rest : List Held) : CoreSt :=
  let r := s.finRun c t g h
  let c' := { ((r.c.endUnit (g.finSection h)).offer (cORing h.cmd) h.oSlab (eCsum (imgEntry r.c.rmem (g.closed s.tm1).1.entry))) with
    sect := none }
  if rest.isEmpty then c'.endGroup else c'.setGroup (s.finRest c t g h rest)

/-- The task that a change of one core leaves is read from what it leaves. -/
theorem coreOnly_ownTask {s u : State} {core : CoreId} {c : CoreSt} {o : Option Task} (h : CoreOnly s u core { c with task := o }) :
    CoreOnly s u core { c with task := (after u core).task } := by
  rw [show (after u core).task = o from congrArg CoreSt.task h.core]
  exact h

section
variable {s : State} {core : CoreId} {t : Task} {g : Group}
variable (hl : s.liveTask core.c core.s = some t) (hg : (s.core core.c core.s).groups.head? = some g)
include hl hg

theorem finishGo_eq : s.finishGo core.c core.s =
      let c := s.core core.c core.s
      if !c.groupReady g then none else
        match (g.closed s.tm1).1.held with
        | [] => some ((s.setCore core.c core.s c.endGroup).taskEv core.c core.s (g.closed s.tm1).2)
        | h :: rest =>
          let r := s.finRun c t g h
          if r.stop.isSome then s.applyVec core.c core.s r
          else if !r.c.unitReady (g.finSection h) then none
          else s.applyVec core.c core.s { r with c := s.finCore c t g h rest } := by
  unfold State.finishGo
  dsimp only
  rw [hl, hg]
  rfl

theorem finishing_notReady (hr : (s.core core.c core.s).groupReady g = false) : s.finishing core.c core.s = s := by
  simp [State.finishing, finishGo_eq hl hg, hr]

/-- A group with no sub-tile left to finish ends. -/
theorem finishing_ends (hr : (s.core core.c core.s).groupReady g = true) (hheld : (g.closed s.tm1).1.held = []) :
    CoreOnly s (s.finishing core.c core.s) core
      { (s.core core.c core.s).endGroup with task := (after (s.finishing core.c core.s) core).task } := by
  have hfin : s.finishing core.c core.s =
      (s.setCore core.c core.s (s.core core.c core.s).endGroup).taskEv core.c core.s (g.closed s.tm1).2 := by
    simp [State.finishing, finishGo_eq hl hg, hr, hheld]
  rw [hfin]
  exact coreOnly_ownTask (coreOnly_modTask_map (setCore_coreOnly s core _) _)

section
variable {h : Held} {rest : List Held}
variable (hr : (s.core core.c core.s).groupReady g = true) (hheld : (g.closed s.tm1).1.held = h :: rest)
include hr hheld

theorem finishing_held : s.finishing core.c core.s =
      let r := s.finRun (s.core core.c core.s) t g h
      (if r.stop.isSome then s.applyVec core.c core.s r
      else if !r.c.unitReady (g.finSection h) then none
      else s.applyVec core.c core.s { r with c := s.finCore (s.core core.c core.s) t g h rest }).getD s := by
  simp only [State.finishing, finishGo_eq hl hg, hr, hheld, Bool.not_true, Bool.false_eq_true, if_false]

theorem finishing_fails {code : Nat} (hs : (s.finRun (s.core core.c core.s) t g h).stop = some (some code)) : s.finishing core.c core.s =
      (s.vecDone core.c core.s (s.finRun (s.core core.c core.s) t g h)).taskFail core.c core.s code := by
  simp [finishing_held hl hg hr hheld, State.applyVec, hs]

theorem finishing_waits
    (hs : (s.finRun (s.core core.c core.s) t g h).stop = some none ∨ ((s.finRun (s.core core.c core.s) t g h).stop = none ∧
      (s.finRun (s.core core.c core.s) t g h).c.unitReady (g.finSection h) = false)) : s.finishing core.c core.s = s := by
  rcases hs with hs | ⟨hs, hready⟩
  · simp [finishing_held hl hg hr hheld, State.applyVec, hs]
  · simp [finishing_held hl hg hr hheld, hs, hready]

/-- A held sub-tile is finished. -/
theorem finishing_finishes (hs : (s.finRun (s.core core.c core.s) t g h).stop = none)
    (hready : (s.finRun (s.core core.c core.s) t g h).c.unitReady (g.finSection h) = true) :
    StepLeft s (s.finishing core.c core.s) core (s.finCore (s.core core.c core.s) t g h rest)
      (s.finRun (s.core core.c core.s) t g h).ops := by
  rw [finishing_held hl hg hr hheld]
  simp only [hs, hready, Option.isSome_none, Bool.not_true, Bool.false_eq_true, if_false]
  rw [State.applyVec_ran _ _ _ _ rfl]
  exact vecDone_stepLeft s core _

end

end

theorem closed_entry (tm1 : Bool) (g : Group) : (g.closed tm1).1.entry = g.entry := by
  unfold Group.closed
  split <;> rfl

/-- What stands in the core once the section has finished a held sub-tile. -/
theorem finCore_left (s : State) (c : CoreSt) (t : Task) (g : Group) (h : Held) (rest : List Held) :
    let r := s.finRun c t g h
    let d := s.finCore c t g h rest
    d.sect = none ∧ d.groups = (if rest.isEmpty then r.c.endGroup else r.c.setGroup (s.finRest c t g h rest)).groups ∧
      d.deliveries = (r.c.endUnit (g.finSection h)).deliveries ++
        [⟨cORing h.cmd, h.oSlab, [], none, eCsum (imgEntry r.c.rmem g.entry)⟩] ∧
      d.sram = (r.c.endUnit (g.finSection h)).sram := by
  obtain ⟨rs, ds, hunit⟩ := endUnit_only (s.finRun c t g h).c (g.finSection h)
  unfold State.finCore
  dsimp only
  rw [closed_entry, hunit]
  split
  · unfold CoreSt.endGroup CoreSt.offer
    dsimp only
    split
    · exact ⟨rfl, rfl, rfl, rfl⟩
    · exact ⟨rfl, rfl, rfl, rfl⟩
  · exact ⟨rfl, rfl, rfl, rfl⟩

/-! ### The obligation -/

/-- Settles O19: a step waits, fails or is made as `routineGo_eq` says, and what it leaves is `routineStep_left` of what `stepEnd` ends; a
finishing section by `finishing_held`, its core by `finCore_left`. -/
theorem routineStepsRunSections : Obligations.RoutineStepsRunSections := by
  refine ⟨fun s core t c x ev hl ht => ⟨fun h => ?_, fun code h => ?_, fun h hend hready => ?_, fun h hlast hturn => ?_,
    fun h hlast hturn hready => ?_, fun h hlast hready => ?_⟩, fun s core h => ?_,
    fun s core t g hl hg => ⟨fun hr => ?_, fun hr hheld => ⟨_, rfl, ?_⟩, fun h rest hr hheld => ⟨fun code hs => ?_, fun hs => ?_,
      fun hs hready => ?_⟩⟩⟩
  · exact congrArg Host.Outcome.next (routineStep_waits hl ht h)
  · exact congrArg Host.Outcome.next (routineStep_fails hl ht h)
  · exact congrArg Host.Outcome.next (routineStep_awaits hl ht h hend hready)
  · have hends : ¬ s.StepEnds c t x := not_or.2 ⟨hlast, ne_true_of_eq_false hturn⟩
    have hu := routineStep_left hl ht h (absurd · hends)
    rw [stepEnd_rows hends] at hu
    exact ⟨_, rfl, hu.bytes, hu.rest, (congrArg CoreSt.sect hu.left :), (congrArg CoreSt.vregs hu.left :),
      (congrArg CoreSt.masks hu.left :), (congrArg CoreSt.sram hu.left :), (congrArg CoreSt.tiles hu.left :), hu.counted⟩
  · have hu := routineStep_left hl ht h (fun _ => hready)
    rw [stepEnd_unit hlast hturn] at hu
    exact ⟨_, rfl, hu.bytes, (congrArg CoreSt.sect hu.left :), (congrArg CoreSt.rings hu.left :), (congrArg CoreSt.deliveries hu.left :),
      (congrArg CoreSt.sram hu.left).trans (endUnit_sram ..), hu.counted⟩
  · have hu := routineStep_left hl ht h (fun _ => hready)
    obtain ⟨htask, hsect⟩ := Prod.mk.inj (stepEnd_section_taskSect hl ht h hlast)
    obtain ⟨t', ht', hstaged⟩ := routineStep_stages hl ht h (fun _ => hready) htask
    rw [stepEnd_section hlast] at hu hsect hstaged
    exact ⟨_, t', rfl, hu.bytes, (congrArg CoreSt.sect hu.left).trans hsect, (congrArg CoreSt.tiles hu.left :),
      (congrArg CoreSt.rings hu.left :), (congrArg CoreSt.deliveries hu.left :), (congrArg CoreSt.sram hu.left :),
      (congrArg CoreSt.group hu.left :), ht', hstaged, hu.counted⟩
  · exact congrArg Host.Outcome.next (routineStep_idle h)
  · exact congrArg Host.Outcome.next (finishing_notReady hl hg hr)
  · exact finishing_ends hl hg hr hheld
  · exact congrArg Host.Outcome.next (finishing_fails hl hg hr hheld hs)
  · exact congrArg Host.Outcome.next (finishing_waits hl hg hr hheld hs)
  · have hu := finishing_finishes hl hg hr hheld hs hready
    obtain ⟨hsect, hgroups, hdeliveries, hsram⟩ := finCore_left s (s.core core.c core.s) t g h rest
    exact ⟨_, rfl, hu.bytes, (congrArg CoreSt.sect hu.left).trans hsect, (congrArg CoreSt.groups hu.left).trans hgroups,
      (congrArg CoreSt.deliveries hu.left).trans hdeliveries, (congrArg CoreSt.sram hu.left).trans hsram, hu.counted⟩

end Sys2Proof.Machine
end

section
/-! PROOFS. The lists of the tensor mover (R84, R246, R257, R262, R271, R274, R278, R279, R560): what a step makes of the head of a
task's issued and commit-time descriptors, and the contributions of a SCATTER_ADD. -/

namespace Sys2Proof.Machine

open Sys2Proof.Claims

/-! ### Which descriptor a step of the mover meets -/

section
variable {s : State} {core : CoreId} {t : Task} {m : Mv} {rest : List Mv} {op : Nat}

/-- The mover takes no step where the module, the cluster or the core has none to take. -/
theorem moveRow_idle (op : Nat) (h : (s.moduleState ≠ 3 ∧ s.moduleState ≠ 4) ∨ s.clServes core.c = false ∨
    (s.core core.c core.s).task = none) : s.moveRow core.c core.s op = s := by
  unfold State.moveRow
  rcases h with ⟨h3, h4⟩ | hserves | htask
  · simp [h3, h4]
  · simp [hserves]
  · simp [htask]

theorem moveRow_otherOp {op' : Nat} (h : HeadIssued s core t m rest op) (hne : op ≠ op') : s.moveRow core.c core.s op' = s := by
  unfold State.moveRow
  simp [h.task, h.open_, h.list, h.op, hne]

theorem moveRow_committed (h : HeadCommitted s core t m rest op) :
    s.moveRow core.c core.s op = s.runCommitHead core.c core.s t m := by
  have hrun : (s.moduleState ≠ 3 && s.moduleState ≠ 4) = false := by
    rcases h.ready with hstate | hstate
    · simp [hstate]
    · simp [hstate]
  unfold State.moveRow
  simp only [hrun, h.serves, h.task, h.committed, h.list, h.op, h.here, Bool.not_true, Bool.or_self, Bool.false_eq_true, if_false,
    if_true, decide_true, Option.isNone_none, Bool.and_self]

/-! ### What the head comes to -/

/-- The head of a task's issued descriptors leaves the list, ends its task, goes on or waits, as its run comes out (R262, R274). -/
theorem runHead_cases (s : State) (cl site : Nat) (t : Task) (m : Mv) (rest : List Mv) :
    (∀ w, s.runMove cl site t m = .done w →
      s.runHead cl site t m rest = (w.modTask cl site (fun t => { t with moves := rest })).unrefMoves [m]) ∧
    (∀ e w, s.runMove cl site t m = .fail e w → s.runHead cl site t m rest = w.taskFail cl site e) ∧
    (∀ k w, s.runMove cl site t m = .part k w →
      s.runHead cl site t m rest = w.modTask cl site (fun t => { t with moves := { m with sent := k } :: rest })) ∧
    (s.runMove cl site t m = .wait → s.runHead cl site t m rest = s) := by
  refine ⟨fun w h => ?_, fun e w h => ?_, fun k w h => ?_, fun h => ?_⟩
  all_goals
    unfold State.runHead
    rw [h]

/-- A commit-time descriptor that has finished and awaits no WRITE_DONE leaves its list, and the task's markers may follow. -/
theorem runCommitHead_done {w : State} {cl site : Nat} (h : s.runCommit cl site t m = .done w)
    (hw : ∀ t', (w.core cl site).task = some t' → ∀ m', t'.commitMoves.head? = some m' → m'.serial = none) :
    s.runCommitHead cl site t m = (w.commitMoveDone cl site m).sendDones t.uid := by
  unfold State.runCommitHead
  rw [h]
  dsimp only
  cases ht : (w.core cl site).task with
  | none => rfl
  | some t' =>
    have hwaits : (t'.commitMoves.head?).any (fun m => m.serial.isSome) = false := by
      cases hhead : t'.commitMoves.head? with
      | none => rfl
      | some m' => simp [hw t' ht m' hhead]
    simp [hwaits]

/-- A commit-time descriptor that fails, goes on or waits. -/
theorem runCommitHead_cases (s : State) (cl site : Nat) (t : Task) (m : Mv) :
    (∀ e w, s.runCommit cl site t m = .fail e w → s.runCommitHead cl site t m = w.commitMoveFail cl site e) ∧
    (∀ k w, s.runCommit cl site t m = .part k w → s.runCommitHead cl site t m = w) ∧
    (s.runCommit cl site t m = .wait → s.runCommitHead cl site t m = s) := by
  refine ⟨fun e w h => ?_, fun k w h => ?_, fun h => ?_⟩
  all_goals
    unfold State.runCommitHead
    rw [h]

end

/-! ### Sending counts no event -/

/-- Every core's task, where it has one, has the events that it had. -/
def EventsStay (s u : State) : Prop := ∀ cl site, (u.core cl site).task.map Task.ev = (s.core cl site).task.map Task.ev

theorem EventsStay.of_cores {s u : State} (h : u.cores = s.cores) : EventsStay s u := fun cl site => by
  rw [State.core, h, State.core]

theorem EventsStay.trans {s u v : State} (h : EventsStay s u) (k : EventsStay u v) : EventsStay s v :=
  fun cl site => (k cl site).trans (h cl site)

theorem modTask_eventsStay (s : State) (cl site : Nat) {f : Task → Task} (hf : ∀ t, (f t).ev = t.ev) :
    EventsStay s (s.modTask cl site f) := by
  intro cl' site'
  unfold State.modTask State.modCore
  rw [State.core_setCore]
  split
  · next h =>
    have hcore : s.core cl' site' = s.core cl site := by rw [State.core, h, State.core]
    rw [hcore]
    simp [Function.comp_def, hf]
  · rfl

theorem deliver_cores (s : State) (p : Packet) : (s.deliver p).cores = s.cores := by
  obtain ⟨ch, hch⟩ := refTable_chair_only s
    (if pkType (flitHdr (p.flits.headD 0)) = tyWrite then s.xlatNow (pkCtx (flitHdr (p.flits.headD 0))) else none)
  dsimp only [State.deliver]
  rw [hch]

theorem inject_cores {s u : State} {hdr : Nat} {data : List Byte} (h : s.inject hdr data = .ok u) : u.cores = s.cores := by
  unfold State.inject State.injectAt at h
  split at h
  · cases h
    exact deliver_cores s _
  · cases h
    rfl
  · cases h
  · cases h

theorem sendMarker_eventsStay (s : State) (uid cl task ctx : Nat) (m : StagedDone) :
    EventsStay s (s.sendMarker uid cl task ctx m) := by
  dsimp only [State.sendMarker]
  split
  · exact .of_cores rfl
  · split
    · split
      · next hu =>
        have hcores := inject_cores hu
        exact .of_cores hcores
      · split
        · exact modTask_eventsStay s _ _ fun _ => rfl
        · exact .of_cores rfl
    · split
      · exact .of_cores rfl
      · exact .of_cores (foldl_keeps_part State.cores (f := fun v ma => v.toAdder uid ma _ []) (fun _ _ => rfl) s _)

theorem sendDones_eventsStay (s : State) (uid : Nat) : EventsStay s (s.sendDones uid) := by
  have hfold (l : List StagedDone) (cl task ctx : Nat) (v : State) :
      EventsStay v (l.foldl (fun s m => s.sendMarker uid cl task ctx m) v) := by
    induction l generalizing v with
    | nil => exact .of_cores rfl
    | cons m l ih => exact (sendMarker_eventsStay v uid cl task ctx m).trans (ih _)
  dsimp only [State.sendDones]
  split
  · exact .of_cores rfl
  · split
    · exact .of_cores rfl
    · split
      · exact .of_cores rfl
      · refine EventsStay.trans ?_ (hfold _ _ _ _ _)
        exact modTask_eventsStay s _ _ fun _ => rfl

/-- Markers wait for every contribution of their task (R97, R271). -/
theorem sendDones_of_contribsOut {s : State} {uid : Nat} (h : s.contribsOut uid = true) : s.sendDones uid = s := by
  unfold State.sendDones
  split
  · rfl
  · split
    · rfl
    · simp [h]

/-! ### A commit-time descriptor leaves its list -/

section
variable {w : State} {cl site : Nat} {t : Task}

theorem commitMoveDone_task (ht : (w.core cl site).task = some t) (m : Mv) :
    ((w.commitMoveDone cl site m).core cl site).task = some { t with commitMoves := t.commitMoves.drop 1 } := by
  rw [State.commitMoveDone, unrefMoves_core, modTask_task _ ht]

theorem commitMoveDone_mem (w : State) (cl site : Nat) (m : Mv) : (w.commitMoveDone cl site m).mem = w.mem :=
  unrefMoves_mem _ _

theorem commitMoveDone_disp (w : State) (cl site : Nat) (m : Mv) : (w.commitMoveDone cl site m).disp = w.disp :=
  unrefMoves_disp _ _

/-- The task once its descriptor has left and its markers have gone as far as they may. -/
theorem commitMoveDone_sendDones_task (ht : (w.core cl site).task = some t) (m : Mv) (uid : Nat) :
    ∃ t', (((w.commitMoveDone cl site m).sendDones uid).core cl site).task = some t' ∧ t'.commitMoves = t.commitMoves.drop 1 ∧
      t'.ev = t.ev := by
  have hdone := commitMoveDone_task ht m
  obtain ⟨t', ht', hkept⟩ := (sendDones_sendsOnly (w.commitMoveDone cl site m) uid).task hdone
  have hev := sendDones_eventsStay (w.commitMoveDone cl site m) uid cl site
  rw [ht', hdone] at hev
  exact ⟨t', ht', (SameCommit.of_kept hkept).commitMoves, Option.some.inj hev⟩

theorem commitMoveDone_sendDones_mem (w : State) (cl site : Nat) (m : Mv) (uid : Nat) :
    ((w.commitMoveDone cl site m).sendDones uid).mem = w.mem :=
  (sendDones_sendsOnly _ uid).mem.trans (commitMoveDone_mem w cl site m)

end

/-! ### SCATTER_ADD at the commit (R84, R271) -/

/-- A task with the markers and events of a SCATTER_ADD. -/
def Task.scatter (x : Scattered) (t : Task) : Task := { t with dones := t.dones ++ [x.done], ev := t.ev.count x.ev }

/-- The contributions of a SCATTER_ADD are on their way to the adders of this module, and the slabs that it releases are gone. -/
def State.scatterSent (s : State) (cl site : Nat) (t : Task) (m : Mv) (x : Scattered) : State :=
  ((s.addInflight (x.staged.map (contribOf s (s.core cl site) t))).modTask cl site (Task.scatter x)).modCore cl site
    (fun c => c.releaseRead m.desc x.srcRuns)

/-- Its indices are counted. -/
def State.scattered (s : State) (cl site : Nat) (t : Task) (m : Mv) (x : Scattered) : State :=
  (s.scatterSent cl site t m x).idxCount cl x.idx

/-- Contributions to adders of this module change no core, so each takes its bytes from the core as it stood. -/
theorem sendContribs_here (cl site : Nat) (t : Task) (l : List Staged) (s : State)
    (hl : ∀ g ∈ l, ∀ r, s.redOf t.ctx g.redId = some r → r.status ≠ .forwarding) :
    l.foldl (fun v g => v.sendContrib cl site t g ((v.core cl site).stagedBytes g)) s =
      s.addInflight (l.map (contribOf s (s.core cl site) t)) := by
  induction l generalizing s with
  | nil => exact (addInflight_nil s).symm
  | cons g l ih =>
    rw [List.foldl_cons, sendContrib_local (hl g List.mem_cons_self)]
    refine (ih (s.addInflight [contribOf s (s.core cl site) t g]) fun x hx => hl x (List.mem_cons_of_mem g hx)).trans ?_
    exact addInflight_append s [contribOf s (s.core cl site) t g] (l.map (contribOf s (s.core cl site) t))

section
variable {s : State} {cl site : Nat} {t : Task} {m : Mv} {x : Scattered}

theorem scatterAddRun_local (hx : s.scatterAddStage cl site t m.desc m = .inr x)
    (hl : ∀ g ∈ x.staged, ∀ r, s.redOf t.ctx g.redId = some r → r.status ≠ .forwarding) :
    s.scatterAddRun cl site t m =
      .done (if t.current then (s.scattered cl site t m x).mvTag t m.desc else s.scattered cl site t m x) := by
  unfold State.scatterAddRun
  rw [hx]
  dsimp only
  rw [sendContribs_here cl site t x.staged s hl]
  rfl

theorem idxCount_objs_only (s : State) (cl : Nat) (l : List (Option Nat × Nat)) :
    ∃ ob, s.idxCount cl l = { s with objs := ob } := by
  have hcnt (v : State) (sub n : Nat) : ∃ ob, v.mvCnt cl sub n = { v with objs := ob } := by
    unfold State.mvCnt
    split
    · exact ⟨_, rfl⟩
    · exact ⟨_, rfl⟩
  dsimp only [State.idxCount]
  obtain ⟨o1, h1⟩ := hcnt s 3 (l.filter (fun x => x.2 = 3)).length
  rw [h1]
  obtain ⟨o2, h2⟩ := hcnt { s with objs := o1 } 4 (l.filter (fun x => x.2 = 1)).length
  rw [h2]
  exact hcnt { s with objs := o2 } 5 (l.filter (fun x => x.2 = 2)).length

theorem scatterSent_task (ht : (s.core cl site).task = some t) :
    ((s.scatterSent cl site t m x).core cl site).task = some (t.scatter x) := by
  have htask := modTask_task (s := s.addInflight (x.staged.map (contribOf s (s.core cl site) t))) (Task.scatter x) ht
  obtain ⟨rs, hrs⟩ := releaseRead_ringsOnly (((s.addInflight (x.staged.map (contribOf s (s.core cl site) t))).modTask cl site
    (Task.scatter x)).core cl site) m.desc x.srcRuns
  rw [State.scatterSent, State.core_modCore_same, hrs]
  exact htask

/-- What a SCATTER_ADD leaves of memory, its task and the adders' contributions, whatever its indices count. -/
theorem scattered_left (ht : (s.core cl site).task = some t) :
    (s.scattered cl site t m x).mem = s.mem ∧ ((s.scattered cl site t m x).core cl site).task = some (t.scatter x) ∧
      (s.scattered cl site t m x).disp.inflight = s.disp.inflight ++ x.staged.map (contribOf s (s.core cl site) t) := by
  obtain ⟨ob, h⟩ := idxCount_objs_only (s.scatterSent cl site t m x) cl x.idx
  rw [State.scattered, h]
  exact ⟨rfl, scatterSent_task ht, rfl⟩

end

/-- A tag is added to in memory and counted. -/
theorem mvTag_only (s : State) (t : Task) (d : Nat) : ∃ me ob, s.mvTag t d = { s with mem := me, objs := ob } := by
  unfold State.mvTag
  split
  · exact ⟨_, _, rfl⟩
  · exact ⟨_, _, rfl⟩

theorem mvTag_mem_congr {s u : State} (h : u.mem = s.mem) (t : Task) (d : Nat) : (u.mvTag t d).mem = (s.mvTag t d).mem := by
  unfold State.mvTag
  split
  · simp [State.tagAdd, State.putWord, State.put, State.tag, State.word, State.bytes, h]
  · exact h

section
variable {s : State} {core : CoreId} {t : Task} {m : Mv} {rest : List Mv}

/-- A committed SCATTER_ADD whose contributions all stay in the module (R84, R271). -/
theorem scatterAdd_sends {x : Scattered} (h : HeadCommitted s core t m rest opScatterAdd)
    (hx : s.scatterAddStage core.c core.s t m.desc m = .inr x)
    (hl : ∀ g ∈ x.staged, ∀ r, s.redOf t.ctx g.redId = some r → r.status ≠ .forwarding) :
    ∃ u t', exec (.scatterAdd core) s = .next u ∧ (after u core).task = some t' ∧ t'.commitMoves = rest ∧ t'.ev = t.ev.count x.ev ∧
      u.mem = (if t.current then s.mvTag t m.desc else s).mem ∧
      (x.staged ≠ [] → t'.codes = t.codes ∧ t'.dones = t.dones ++ [x.done] ∧
        u.disp.inflight = s.disp.inflight ++ x.staged.map (contribOf s (s.core core.c core.s) t)) := by
  obtain ⟨w, hw⟩ : ∃ w, w = if t.current then (s.scattered core.c core.s t m x).mvTag t m.desc else s.scattered core.c core.s t m x :=
    ⟨_, rfl⟩
  obtain ⟨hmem0, htask0, hin0⟩ := scattered_left (m := m) (x := x) h.task
  have hmem : w.mem = (if t.current then s.mvTag t m.desc else s).mem := by
    rw [hw]
    split
    · exact mvTag_mem_congr hmem0 t m.desc
    · exact hmem0
  obtain ⟨me, ob, hsame⟩ : ∃ me ob, w = { s.scattered core.c core.s t m x with mem := me, objs := ob } := by
    rw [hw]
    split
    · exact mvTag_only _ t m.desc
    · exact ⟨_, _, rfl⟩
  have htask : (w.core core.c core.s).task = some (t.scatter x) := by
    rw [hsame]
    exact htask0
  have hin : w.disp.inflight = s.disp.inflight ++ x.staged.map (contribOf s (s.core core.c core.s) t) := by
    rw [hsame]
    exact hin0
  have hrun : s.runCommit core.c core.s t m = .done w := by
    rw [State.runCommit, if_pos h.op, scatterAddRun_local hx hl, hw]
  have hhead : ∀ t', (w.core core.c core.s).task = some t' → ∀ m', t'.commitMoves.head? = some m' → m'.serial = none := by
    intro t' ht' m' hm'
    rw [htask] at ht'
    cases ht'
    rw [Task.scatter, h.list] at hm'
    cases hm'
    exact h.here
  have hrest : (t.scatter x).commitMoves.drop 1 = rest := by rw [Task.scatter, h.list]; rfl
  have hexec : exec (.scatterAdd core) s = .next ((w.commitMoveDone core.c core.s m).sendDones t.uid) :=
    congrArg Host.Outcome.next ((moveRow_committed h).trans (runCommitHead_done hrun hhead))
  by_cases hnil : x.staged = []
  · obtain ⟨t', ht', hmoves, hev⟩ := commitMoveDone_sendDones_task htask m t.uid
    exact ⟨_, t', hexec, ht', hmoves.trans hrest, hev, (commitMoveDone_sendDones_mem ..).trans hmem, fun hne => absurd hnil hne⟩
  · have hout : (w.commitMoveDone core.c core.s m).contribsOut t.uid = true := by
      obtain ⟨g, hg⟩ := List.exists_mem_of_ne_nil _ hnil
      have hmine : (w.commitMoveDone core.c core.s m).disp.inflight.any (fun y => y.uid = t.uid) = true := by
        rw [commitMoveDone_disp, hin, List.any_append, Bool.or_eq_true]
        exact .inr (List.any_eq_true.2 ⟨_, List.mem_map_of_mem hg, decide_eq_true rfl⟩)
      rw [State.contribsOut, hmine, Bool.true_or]
    rw [sendDones_of_contribsOut hout] at hexec
    refine ⟨_, _, hexec, commitMoveDone_task htask m, hrest, rfl, (commitMoveDone_mem ..).trans hmem, fun _ => ⟨rfl, rfl, ?_⟩⟩
    rw [commitMoveDone_disp]
    exact hin

/-- A broadcast that has started waits until its packets have left, and then its descriptor leaves the list (R560). -/
theorem runCommit_broadcast {p : (CoreId → Instr) × Nat} {id : Nat} (hp : p ∈ moverOps) (h : HeadCommitted s core t m rest p.2)
    (hbits : m.bits = none) (hid : mvBcast m.desc = some id) (hsent : m.sent ≠ 0) :
    s.runCommit core.c core.s t m = if s.bcastWaits id then .wait else .done s := by
  have hall : moverOps.all (fun p => p.2 ≠ opScatterAdd) = true := by decide
  have hop : mOp m.desc ≠ opScatterAdd := by
    rw [h.op]
    exact of_decide_eq_true (List.all_eq_true.1 hall p hp)
  simp [State.runCommit, hop, hbits, hid, hsent]

end

/-- Settles O34: a step of the mover is `runHead` or `runCommitHead` of the head of a list, which come to one thing for each outcome of
its run; the markers that may follow a descriptor that finished change neither memory nor events. -/
theorem moverRunsDescriptorsInOrder : Obligations.MoverRunsDescriptorsInOrder := by
  have hmover : ∀ p ∈ moverOps, ∀ core s, exec (p.1 core) s = .next (s.moveRow core.c core.s p.2) :=
    fun p hp => exec_moverOp (List.mem_append_left _ hp)
  refine ⟨fun p hp s core t m rest h => ?_, fun p hp s core h => ?_, fun p hp s core t m rest op h hne => ?_,
    fun p hp s core t m rest h => ?_, fun p hp s core t m rest id h hbits hid hsent => ?_,
    fun s core t m rest x h hx hl => scatterAdd_sends h hx hl⟩
  · obtain ⟨hdone, hfail, hpart, hwait⟩ := runHead_cases s core.c core.s t m rest
    rw [hmover p hp, moveRow_issued h]
    exact ⟨fun w hw => congrArg _ (hdone w hw), fun e w hw => congrArg _ (hfail e w hw), fun k w hw => congrArg _ (hpart k w hw),
      fun hw => congrArg _ (hwait hw)⟩
  · rw [exec_moverOp hp, moveRow_idle _ h]
  · rw [hmover p hp, moveRow_otherOp h hne]
  · obtain ⟨hfail, hpart, hwait⟩ := runCommitHead_cases s core.c core.s t m
    rw [exec_moverOp hp, moveRow_committed h]
    exact ⟨fun w hw hhead => congrArg _ (runCommitHead_done hw hhead), fun e w hw => congrArg _ (hfail e w hw),
      fun k w hw => congrArg _ (hpart k w hw), fun hw => congrArg _ (hwait hw)⟩
  · have hrun := runCommit_broadcast hp h hbits hid hsent
    rw [hmover p hp, moveRow_committed h]
    refine ⟨fun hw => ?_, fun hw => ?_⟩
    · rw [if_pos hw] at hrun
      exact congrArg _ ((runCommitHead_cases s core.c core.s t m).2.2 hrun)
    · rw [if_neg (by simp [hw])] at hrun
      obtain ⟨t', ht', hmoves, hev⟩ := commitMoveDone_sendDones_task h.task m t.uid
      have hhead : ∀ t', (s.core core.c core.s).task = some t' → ∀ m', t'.commitMoves.head? = some m' → m'.serial = none := by
        intro t' ht' m' hm'
        rw [h.task] at ht'
        cases ht'
        rw [h.list] at hm'
        cases hm'
        exact h.here
      refine ⟨_, t', congrArg _ (runCommitHead_done hrun hhead), ht', ?_, hev, fun a => ?_⟩
      · rw [hmoves, h.list]
        rfl
      · rw [State.byte, commitMoveDone_sendDones_mem, State.byte]

end Sys2Proof.Machine
end

section
/-! PROOFS. Words of memory: what a word reads after a store of a word, and what clearing landed bits leaves alone (R16, R556). -/

namespace Sys2Proof.Machine

/-- The bytes of a number make the number again, cut to their width. -/
theorem leNat_toLE (n v : Nat) : leNat (toLE n v) = v % 256 ^ n := by
  induction n generalizing v with
  | zero => simp [toLE, leNat, Nat.mod_one]
  | succ n ih =>
    have hbyte : (BitVec.ofNat 8 v : Byte).toNat = v % 256 := BitVec.toNat_ofNat v 8
    rw [toLE, leNat, ih, hbyte, Nat.pow_succ', Nat.mod_mul]

section
variable {s u : State}

/-- A run of bytes is what its bytes are, one by one. -/
theorem bytes_congr {a n : Nat} (h : ∀ i < n, u.byte (a + i) = s.byte (a + i)) : u.bytes a n = s.bytes a n :=
  List.map_congr_left fun i hi => h i (List.mem_range.1 hi)

theorem word_congr {a n : Nat} (h : ∀ i < n, u.byte (a + i) = s.byte (a + i)) : u.word a n = s.word a n :=
  congrArg leNat (bytes_congr h)

theorem word_of_mem (h : u.mem = s.mem) (a n : Nat) : u.word a n = s.word a n := word_congr fun _ _ => byte_of_mem h _

/-- The bytes of a store read back. -/
theorem bytes_put (s : State) (a : Nat) (bs : List Byte) : (s.put a bs).bytes a bs.length = bs := by
  refine List.ext_getElem (by simp [State.bytes, ngetRun]) fun i hi hi' => ?_
  have hread := State.byte_put s a (a + i) bs
  rw [if_pos (by omega), Nat.add_sub_cancel_left, List.getD_eq_getElem bs 0 hi'] at hread
  simpa [State.bytes, ngetRun, State.byte] using hread

theorem word_putWord_same (s : State) (a n v : Nat) : (s.putWord a n v).word a n = v % 256 ^ n := by
  have hread := bytes_put s a (toLE n v)
  rw [Tests.length_toLE] at hread
  rw [State.word, State.putWord, hread, leNat_toLE]

theorem byte_putWord_outside (s : State) (a n v b : Nat) (h : b < a ∨ a + n ≤ b) : (s.putWord a n v).byte b = s.byte b :=
  State.byte_put_outside s a b _ (by rw [Tests.length_toLE]; omega)

theorem word_putWord_apart (s : State) {a n b m : Nat} (v : Nat) (h : b + m ≤ a ∨ a + n ≤ b) :
    (s.putWord a n v).word b m = s.word b m :=
  word_congr fun i hi => byte_putWord_outside s a n v (b + i) (by omega)

end

/-- A part of the state that a change of landed bits keeps is kept where a write clears them (R556). -/
theorem unland_keeps_part {γ : Type} (p : State → γ) (hp : ∀ (v : State) f, p { v with fab := f } = p v) (s : State) (a n : Nat) :
    p (s.unland a n) = p s := by
  refine foldl_keeps_part p (fun v x => ?_) s _
  split
  · split
    · exact hp v _
    · rfl
  · rfl

@[simp] theorem unland_mem (s : State) (a n : Nat) : (s.unland a n).mem = s.mem := unland_keeps_part _ (fun _ _ => rfl) s a n
@[simp] theorem unland_objs (s : State) (a n : Nat) : (s.unland a n).objs = s.objs := unland_keeps_part _ (fun _ _ => rfl) s a n
@[simp] theorem unland_cores (s : State) (a n : Nat) : (s.unland a n).cores = s.cores := unland_keeps_part _ (fun _ _ => rfl) s a n
@[simp] theorem unland_disp (s : State) (a n : Nat) : (s.unland a n).disp = s.disp := unland_keeps_part _ (fun _ _ => rfl) s a n
@[simp] theorem unland_out (s : State) (a n : Nat) : (s.unland a n).out = s.out := unland_keeps_part _ (fun _ _ => rfl) s a n

end Sys2Proof.Machine
end

section
/-! PROOFS. Atomics on scratch and TAKE (R284, R444, R445, R455, R462, R610). -/

namespace Sys2Proof.Machine

open Sys2Proof.Claims

/-! ### Where an atomic runs -/

section
variable {s : State} {pa cl off : Nat} {wide : Bool}

/-- The place of an atomic that may run: aligned, in mapped scratch, and none of the dispatcher state. -/
theorem atomicAt_ok (h : s.atomicAt pa wide = .ok (cl, off)) :
    s.scratchOf pa = some (cl, off) ∧ pa % wordBytes wide = 0 ∧ inHidden off = false := by
  simp only [State.atomicAt, ← wordBytes.eq_def] at h
  cases hs : s.scratchOf pa with
  | none => simp [hs] at h
  | some place =>
    by_cases hplace : pa % wordBytes wide = 0 ∧ inHidden place.2 = false
    · cases hserves : s.clServes place.1 with
      | false => simp [hs, hplace, hserves] at h
      | true =>
        simp only [hs, hplace, hserves] at h
        cases h
        exact ⟨rfl, hplace⟩
    · rw [not_and_or, Bool.not_eq_false] at hplace
      simp [hs, hplace] at h

/-- Where the place is right, the cluster's service alone says whether an atomic runs (R610). -/
theorem atomicAt_place (hs : s.scratchOf pa = some (cl, off)) (ha : pa % wordBytes wide = 0) (hh : inHidden off = false) :
    s.atomicAt pa wide = if s.clServes cl then .ok (cl, off) else .error .fenced := by
  unfold wordBytes at ha
  simp [State.atomicAt, hs, ha, hh]

theorem scratchOf_pa (h : s.scratchOf pa = some (cl, off)) : pa = scratchPa cl off ∧ off < 0x4000000 := by
  unfold State.scratchOf at h
  split at h
  · cases h
  · dsimp only at h
    split at h
    · cases h
      unfold scratchPa
      omega
    · cases h

theorem wordBytes_cases (wide : Bool) : wordBytes wide = 4 ∨ wordBytes wide = 8 := by cases wide <;> simp [wordBytes]

/-- Outside the lease table, a word that an atomic may run on is seen as it is (R455). -/
theorem atomicAt_view (h : s.atomicAt pa wide = .ok (cl, off)) (hl : inLeases off = false) :
    leNat (s.view pa (wordBytes wide)) = s.word pa (wordBytes wide) := by
  obtain ⟨hs, ha, hh⟩ := atomicAt_ok h
  obtain ⟨hpa, hoff⟩ := scratchOf_pa hs
  have hplain : off + wordBytes wide ≤ 0x44000 ∨ 0x100000 ≤ off := by
    simp only [inLeases, inHidden, Bool.and_eq_false_iff, decide_eq_false_iff_not] at hl hh
    unfold scratchPa scratchBase at hpa
    rcases wordBytes_cases wide with hn | hn <;> rw [hn] at ha ⊢ <;> omega
  simp only [State.view, hs, if_pos hplain, State.word]

end

/-! ### What an atomic leaves -/

/-- An offset that holds no plan's counter has none to set (R284). -/
theorem adopt_of_noPlanWord {s u : State} {cl off : Nat} (h : noPlanWord s cl off) (hlo : 0x40080 ≤ off) (hhi : off < 0x44000)
    (hd : u.disp = s.disp) : u.adopt cl ((off - 0x40000) / 8) = u := by
  have hplans := h hlo hhi
  rw [← hd] at hplans
  refine List.foldlRecOn (motive := fun v => v = u) u.disp.plans _ rfl fun v hv p hp => ?_
  obtain ⟨htile, hchunk⟩ := hplans p hp
  simp only [Bool.and_eq_true, decide_eq_true_eq, if_neg htile, if_neg hchunk, hv]

/-- The state after an atomic on a word of scratch that is no lease's and no plan's. -/
def State.atomicDone (s : State) (pa n cl v old : Nat) : State :=
  (((s.putWord pa n v).unland pa n).cnt48 (kCl cl 0x90 4) 1).emit (.value old)

section
variable {s : State} {pa cl off : Nat} {wide : Bool}

theorem atomic_refused {o : Out} (f : Nat → Nat) (h : s.atomicAt pa wide = .error o) : s.atomic pa wide f = s.emit o := by
  simp only [State.atomic, h]

/-- R445: an atomic on a word of no lease and no plan. -/
theorem atomic_plain (f : Nat → Nat) (h : s.atomicAt pa wide = .ok (cl, off)) (hl : inLeases off = false)
    (hp : noPlanWord s cl off) :
    s.atomic pa wide f = s.atomicDone pa (wordBytes wide) cl (f (s.word pa (wordBytes wide)) % 2 ^ (8 * wordBytes wide))
      (s.word pa (wordBytes wide)) := by
  have hview := atomicAt_view h hl
  simp only [State.atomic, h, ← wordBytes.eq_def, hview, State.setAtomic, hl, Bool.false_eq_true, if_false, State.atomicDone]
  split
  · next hk =>
    simp only [Bool.and_eq_true, decide_eq_true_eq] at hk
    rw [adopt_of_noPlanWord hp hk.1 hk.2 (unland_disp (s.putWord ..) ..)]
  · rfl

/-- A word of the lease table keeps its fields (R455, R468). -/
theorem atomic_leases (f : Nat → Nat) (h : s.atomicAt pa wide = .ok (cl, off)) (hl : inLeases off = true) :
    s.atomic pa wide f = (s.cnt48 (kCl cl 0x90 4) 1).emit (.value (leNat (s.view pa (wordBytes wide)))) := by
  simp only [State.atomic, h, State.setAtomic, hl, if_true, wordBytes]

/-- R284: a word of the one plan's core tile counter sets the plan. -/
theorem atomic_tileCtr {q : Plan} (f : Nat → Nat) (h : s.atomicAt pa wide = .ok (cl, off)) (hl : inLeases off = false)
    (hplans : s.disp.plans = [q]) (hlo : 0x40080 ≤ off) (hhi : off < 0x44000) (hk : (off - 0x40000) / 8 = q.tileCtr)
    (hcl : bitAt (plClusters q.record) cl = true) :
    let w := (s.putWord pa (wordBytes wide) (f (s.word pa (wordBytes wide)) % 2 ^ (8 * wordBytes wide))).unland pa (wordBytes wide)
    s.atomic pa wide f = (((w.modPlan q.id (fun y => y.modPart cl (fun x => { x with
      next := w.qNext cl q.tileCtr, limit := w.qLimit cl q.tileCtr }))).planCheck q.id).cnt48 (kCl cl 0x90 4) 1).emit
        (.value (s.word pa (wordBytes wide))) := by
  intro w
  have hview := atomicAt_view h hl
  have hplans' : w.disp.plans = [q] := (congrArg Disp.plans (unland_disp ..)).trans hplans
  simp only [State.atomic, h, ← wordBytes.eq_def, hview, State.setAtomic, hl, Bool.false_eq_true, if_false, hlo, hhi, decide_true,
    Bool.and_self, if_true]
  simp only [State.adopt, hk]
  rw [show ((s.putWord pa (wordBytes wide) (f (s.word pa (wordBytes wide)) % 2 ^ (8 * wordBytes wide))).unland pa
    (wordBytes wide)).disp.plans = [q] from hplans']
  simp only [List.foldl_cons, List.foldl_nil, decide_true, hcl, Bool.and_self, if_true]
  rfl

/-- What an atomic on a word of no lease and no plan leaves (R444, R445, R450). -/
theorem atomicDone_leaves {u : State} {v old : Nat} (hu : u = s.atomicDone pa (wordBytes wide) cl (v % 2 ^ (8 * wordBytes wide)) old) :
    u.word pa (wordBytes wide) = v % 2 ^ (8 * wordBytes wide) ∧ BytesOutside s u pa (wordBytes wide) ∧ u.out = .value old :: s.out ∧
      u.obj (kCl cl 0x90 4) = wrapAdd48 (s.obj (kCl cl 0x90 4)) 1 ∧ (∀ k, k ≠ kCl cl 0x90 4 → u.obj k = s.obj k) ∧
      u.cores = s.cores ∧ u.disp = s.disp := by
  subst hu
  have hmem : (s.atomicDone pa (wordBytes wide) cl (v % 2 ^ (8 * wordBytes wide)) old).mem =
      (s.putWord pa (wordBytes wide) (v % 2 ^ (8 * wordBytes wide))).mem := unland_mem ..
  have hobj : ∀ k, ((s.putWord pa (wordBytes wide) (v % 2 ^ (8 * wordBytes wide))).unland pa (wordBytes wide)).obj k = s.obj k :=
    fun k => congrArg (nget _ · k) (unland_objs ..)
  refine ⟨?_, fun b hb => (byte_of_mem hmem b).trans (byte_putWord_outside _ _ _ _ _ hb), congrArg (_ :: ·) (unland_out ..), ?_,
    fun k hk => ?_, unland_cores .., unland_disp ..⟩
  · rw [word_of_mem hmem, word_putWord_same, Nat.pow_mul]
    exact Nat.mod_mod ..
  · rw [State.atomicDone, State.obj_emit, State.cnt48, State.obj_setObj_same, hobj]
  · rw [State.atomicDone, State.obj_emit, State.cnt48, State.obj_setObj_ne _ hk, hobj]

end

/-! ### TAKE -/

/-- R462: what a TAKE leaves of the pair of words at an address. -/
def Taken (s u : State) (pa : Nat) : Prop :=
  let next := s.word pa 4
  let limit := s.word (pa + 4) 4 % 2 ^ 31
  BytesOutside s u pa 8 ∧ (next < limit → u.word pa 4 = next + 1 ∧ u.word (pa + 4) 4 = limit) ∧
    (limit ≤ next → u.word pa 4 = next ∧ u.word (pa + 4) 4 = limit + 2 ^ 31)

theorem Taken.congr {s u s' u' : State} {pa : Nat} (h : Taken s u pa) (hs : s'.mem = s.mem) (hu : u'.mem = u.mem) : Taken s' u' pa := by
  simpa only [Taken, BytesOutside, word_of_mem hs, word_of_mem hu, byte_of_mem hs, byte_of_mem hu] using h

theorem takeAt_value (s : State) (pa : Nat) : (s.takeAt pa).2 = s.word pa 4 := by
  unfold State.takeAt
  dsimp only
  split <;> rfl

theorem takeAt_taken (s : State) (pa : Nat) : Taken s (s.takeAt pa).1 pa := by
  have hlimit : s.word (pa + 4) 4 % 2 ^ 31 < 2 ^ 31 := Nat.mod_lt _ (by decide)
  unfold Taken State.takeAt
  dsimp only
  by_cases hlt : s.word pa 4 < s.word (pa + 4) 4 % 2 ^ 31
  · rw [if_pos hlt]
    refine ⟨fun b hb => ?_, fun _ => ⟨?_, ?_⟩, fun hle => absurd hlt (Nat.not_lt.2 hle)⟩
    · rw [byte_putWord_outside _ _ _ _ _ (by omega), byte_putWord_outside _ _ _ _ _ (by omega)]
    · rw [word_putWord_apart _ _ (.inl le_rfl), word_putWord_same, Nat.mod_eq_of_lt (by omega)]
    · rw [word_putWord_same, Nat.mod_eq_of_lt (by omega)]
  · rw [if_neg hlt]
    refine ⟨fun b hb => byte_putWord_outside _ _ _ _ _ (by omega), fun h => absurd h hlt, fun _ => ⟨?_, ?_⟩⟩
    · exact word_putWord_apart _ _ (.inl le_rfl)
    · rw [word_putWord_same, Nat.mod_eq_of_lt (by omega)]

/-- A queue's TAKE takes its relay counter and, where the position is the last, logs it. -/
theorem takeQ_noticeOnly (s : State) (cl q : Nat) :
    NoticeOnly ((s.cnt48 (kCl cl 0x90 4) 1).takeAt (relayPa cl q)).1 (s.takeQ cl q).1 := by
  dsimp only [State.takeQ]
  split
  · split
    · exact event_noticeOnly ..
    · exact .refl _
  · exact .refl _

/-- The relay counter of a queue at its offset of the control region (R455). -/
theorem relayPa_of_off {pa cl off : Nat} (hpa : pa = scratchPa cl off) (hlo : 0x40000 ≤ off) (ha : off % 8 = 0) :
    relayPa cl ((off - 0x40000) / 8) = pa := by
  rw [hpa, relayPa, show 0x40000 + 8 * ((off - 0x40000) / 8) = off by omega]

section
variable {s : State} {pa cl off : Nat}

theorem atomicTake_leases (h : s.atomicAt pa false = .ok (cl, off)) (hc : inControl off = true) (hl : inLeases off = true) :
    s.atomicTake pa false = (s.cnt48 (kCl cl 0x90 4) 1).emit (.value (leNat (s.view pa 4))) := by
  simp [State.atomicTake, h, hc, hl]

/-- R445, R462: a TAKE on a pair of words of the control region that is no lease's and no plan's. -/
theorem atomicTake_taken (h : s.atomicAt pa false = .ok (cl, off)) (hc : inControl off = true) (hl : inLeases off = false)
    (hp : noPlanWord s cl off) :
    (s.atomicTake pa false).out.head? = some (.value (s.word pa 4)) ∧ Taken s (s.atomicTake pa false) pa := by
  obtain ⟨hs, -, hh⟩ := atomicAt_ok h
  obtain ⟨hpa, -⟩ := scratchOf_pa hs
  simp only [State.atomicTake, h, hc, hl, Bool.not_true, Bool.or_self, Bool.false_eq_true, if_false]
  split
  · next hcounts =>
    simp only [Bool.and_eq_true, decide_eq_true_eq] at hcounts
    obtain ⟨⟨hlo, -⟩, ha⟩ := hcounts
    have hnotice := takeQ_noticeOnly s cl ((off - 0x40000) / 8)
    rw [relayPa_of_off hpa hlo ha] at hnotice
    refine ⟨rfl, Taken.congr (takeAt_taken (s.cnt48 (kCl cl 0x90 4) 1) pa) rfl ?_⟩
    rw [State.emit_mem, State.modQueue_mem, hnotice.mem]
  · have htake := takeAt_taken (s.cnt48 (kCl cl 0x90 4) 1) pa
    have hvalue := takeAt_value (s.cnt48 (kCl cl 0x90 4) 1) pa
    refine ⟨congrArg (some <| Out.value ·) hvalue, ?_⟩
    split
    · next hlo =>
      have hhi : off < 0x44000 := by
        simp only [inControl, inLeases, inHidden, Bool.and_eq_false_iff, decide_eq_false_iff_not, decide_eq_true_eq] at hc hl hh
        omega
      rw [adopt_of_noPlanWord hp hlo hhi (by obtain ⟨m, hm⟩ := takeAt_mem_only (s.cnt48 (kCl cl 0x90 4) 1) pa; rw [hm]; rfl)]
      exact htake.congr rfl rfl
    · exact htake.congr rfl rfl

end

/-- Every atomic of R444 but CAS and TAKE is `State.atomic` of its function. -/
theorem exec_atomicOp {p : (BitVec 52 → Bool → BitVec 64 → Instr) × (Bool → Nat → Nat → Nat)} (hp : p ∈ atomicOps) (s : State)
    (pa : BitVec 52) (wide : Bool) (v : BitVec 64) :
    exec (p.1 pa wide v) s = .next (s.atomic pa.toNat wide (p.2 wide v.toNat)) := by
  simp only [atomicOps, List.mem_cons, List.not_mem_nil, or_false] at hp
  rcases hp with rfl | rfl | rfl | rfl | rfl <;> rfl

/-- Settles O26: an atomic is `State.atomic` of its function, which comes to one store of the new value; a TAKE is `takeAt` of its
pair. -/
theorem atomicsReturnThePriorValue : Obligations.AtomicsReturnThePriorValue := by
  refine ⟨fun p hp s pa wide v => ⟨fun cl off h => ⟨fun hl hplan => ?_, fun hl => ?_, fun q hplans hl hlo hhi hk hcl => ?_⟩,
    fun o h => ?_, fun cl off hs ha hh => ?_⟩, fun s pa wide expected new cl off h hl hplan => ?_, fun s pa cl off h hc => ?_⟩
  · exact ⟨_, (exec_atomicOp hp ..).trans (congrArg _ (atomic_plain _ h hl hplan)), atomicDone_leaves rfl⟩
  · refine ⟨_, (exec_atomicOp hp ..).trans (congrArg _ (atomic_leases _ h hl)), fun _ => rfl, rfl, rfl, rfl, fun k => ?_⟩
    rw [State.obj_emit, State.cnt48, State.obj_setObj]
    by_cases hk : k = kCl cl 0x90 4
    · simp [hk]
    · simp [hk, Ne.symm hk]
  · exact (exec_atomicOp hp ..).trans (congrArg _ (atomic_tileCtr _ h hl hplans hlo hhi hk hcl))
  · exact (exec_atomicOp hp ..).trans (congrArg _ (atomic_refused _ h))
  · have hplace := atomicAt_place hs ha hh
    exact ⟨fun hserves => hplace.trans (if_pos hserves), fun hserves => hplace.trans (if_neg (by simp [hserves]))⟩
  · obtain ⟨hword, hbytes, hout, -⟩ := atomicDone_leaves (atomic_plain
      (fun x => if x = opWord wide expected.toNat then opWord wide new.toNat else x) h hl hplan)
    exact ⟨_, rfl, hword, hbytes, hout⟩
  · refine ⟨fun hl => ⟨_, congrArg Host.Outcome.next (atomicTake_leases h hc hl), fun _ => rfl, rfl, rfl⟩, fun hl hplan => ?_⟩
    obtain ⟨hout, hbytes, htaken⟩ := atomicTake_taken h hc hl hplan
    exact ⟨_, rfl, hout, hbytes, htaken⟩

end Sys2Proof.Machine
end

section
/-! PROOFS. Plans are taken and walked (R284, R286, R455, R458): the relay counters that show a plan, PLAN_POSITION and CHUNK_TAKE. -/

namespace Sys2Proof.Machine

open Sys2Proof.Claims

/-! ### Relay counters -/

/-- Memory differs; nothing else does. -/
def MemOnly (s u : State) : Prop := ∃ m, u = { s with mem := m }

theorem MemOnly.refl (s : State) : MemOnly s s := ⟨_, rfl⟩

theorem MemOnly.trans {s u v : State} (h : MemOnly s u) (k : MemOnly u v) : MemOnly s v := by
  obtain ⟨_, rfl⟩ := h
  obtain ⟨_, rfl⟩ := k
  exact ⟨_, rfl⟩

theorem MemOnly.foldl {β : Type} {f : State → β → State} (hf : ∀ s x, MemOnly s (f s x)) (s : State) (l : List β) :
    MemOnly s (l.foldl f s) :=
  List.foldlRecOn (motive := MemOnly s) l f (.refl s) fun _ h x _ => h.trans (hf _ x)

theorem setRelay_memOnly (s : State) (cl k next limit : Nat) (ex : Bool) : MemOnly s (s.setRelay cl k next limit ex) := ⟨_, rfl⟩

theorem showPlan_memOnly (s : State) (p : Plan) : MemOnly s (s.showPlan p) :=
  (setRelay_memOnly s ..).trans (.foldl (fun v _ => setRelay_memOnly v ..) _ _)

theorem qNext_setRelay_same (s : State) (cl k next limit : Nat) (ex : Bool) :
    (s.setRelay cl k next limit ex).qNext cl k = next % 2 ^ 32 := by
  rw [State.qNext, State.setRelay, word_putWord_apart _ _ (.inl le_rfl), word_putWord_same]
  rfl

/-- Relay counters of different numbers stand apart, in one control region or in two (R455). -/
theorem qNext_setRelay_ne (s : State) {cl k cl' k' : Nat} (hne : k ≠ k') (hk : k < 0x800) (hk' : k' < 0x800) (next limit : Nat)
    (ex : Bool) : (s.setRelay cl' k' next limit ex).qNext cl k = s.qNext cl k := by
  have hapart : relayPa cl k + 8 ≤ relayPa cl' k' ∨ relayPa cl' k' + 8 ≤ relayPa cl k := by
    unfold relayPa scratchPa
    omega
  rw [State.qNext, State.setRelay, word_putWord_apart _ _ (by omega), word_putWord_apart _ _ (by omega), State.qNext]

/-- R284, R455: a queue's own relay counter stays where a plan's counters are shown. -/
theorem qNext_showPlan_queue (s : State) (p : Plan) (cl q : Nat) (hcl : p.cl < 12) (hp : p.q < 16) (hq : q < 16) :
    (s.showPlan p).qNext cl q = s.qNext cl q := by
  have htile : p.tileCtr < 0x800 ∧ q ≠ p.tileCtr := by
    unfold Plan.tileCtr
    omega
  have hchunk : p.chunkCtr < 0x800 ∧ q ≠ p.chunkCtr := by
    unfold Plan.chunkCtr
    omega
  refine (foldl_keeps_part (fun v => v.qNext cl q) (fun v c => ?_) _ _).trans ?_
  · exact qNext_setRelay_ne v htile.2 (by omega) htile.1 ..
  · exact qNext_setRelay_ne s hchunk.2 (by omega) hchunk.1 ..

/-- R284, R455: the counter over a plan's chunks stands in its queue's cluster. -/
theorem qNext_showPlan_chunks (s : State) (p : Plan) (hcl : p.cl < 12) (hp : p.q < 16) :
    (s.showPlan p).qNext p.cl p.chunkCtr = p.nextChunk % 2 ^ 32 := by
  have hctr : p.tileCtr < 0x800 ∧ p.chunkCtr < 0x800 ∧ p.chunkCtr ≠ p.tileCtr := by
    unfold Plan.tileCtr Plan.chunkCtr
    omega
  obtain ⟨htile, hchunk, hne⟩ := hctr
  refine (foldl_keeps_part (fun v => v.qNext p.cl p.chunkCtr) (fun v c => ?_) _ _).trans ?_
  · exact qNext_setRelay_ne v hne hchunk htile ..
  · exact qNext_setRelay_same ..

/-! ### The head of a queue is taken -/

section
variable (s : State) (cl q : Nat)

theorem takeHead_noticeOnly : ∃ v, MemOnly ((s.cnt48 (kCl cl 0x90 4) 1).modQueue cl q
      (fun x => { x with open_ := x.open_ ++ [s.qNext cl q] })) v ∧ NoticeOnly v (s.takeHead cl q).1 ∧
    v.mem = ((s.cnt48 (kCl cl 0x90 4) 1).takeAt (relayPa cl q)).1.mem := by
  obtain ⟨m, hm⟩ := takeAt_mem_only (s.cnt48 (kCl cl 0x90 4) 1) (relayPa cl q)
  obtain ⟨ob, pt, ho, ou, hn⟩ := takeQ_noticeOnly s cl q
  refine ⟨_, ⟨m, rfl⟩, ⟨ob, pt, ho, ou, ?_⟩, by rw [hm]⟩
  rw [hm] at hn
  simp only [State.takeHead, hn]
  rfl

theorem takeHead_cores : (s.takeHead cl q).1.cores = s.cores := by
  obtain ⟨_, ⟨_, rfl⟩, ⟨_, _, _, _, h⟩, -⟩ := takeHead_noticeOnly s cl q
  rw [h]
  rfl

/-- A position that is taken is open. -/
theorem takeHead_disp : (s.takeHead cl q).1.disp =
    (s.modQueue cl q (fun x => { x with open_ := x.open_ ++ [s.qNext cl q] })).disp := by
  obtain ⟨_, ⟨_, rfl⟩, ⟨_, _, _, _, h⟩, -⟩ := takeHead_noticeOnly s cl q
  rw [h]
  rfl

theorem queue_modQueue_same (f : Queue → Queue) : (s.modQueue cl q f).queue cl q = f (s.queue cl q) := nget_nmod_same ..

/-- R462: NEXT of a queue with a position to take advances by one. -/
theorem takeHead_qNext (h : s.qNext cl q < s.qLimit cl q) : (s.takeHead cl q).1.qNext cl q = s.qNext cl q + 1 := by
  obtain ⟨v, -, hv, hmem⟩ := takeHead_noticeOnly s cl q
  obtain ⟨-, htaken, -⟩ := takeAt_taken (s.cnt48 (kCl cl 0x90 4) 1) (relayPa cl q)
  exact (word_of_mem (hv.mem.trans hmem) ..).trans (htaken h).1

end

/-! ### A plan joins those that are walked -/

/-- What a plan's reading takes from its queue and its descriptor (R282 to R288). -/
theorem readPlan_ok {s : State} {cl q pos d : Nat} {p : Plan} (h : s.readPlan cl q pos d = .ok p) :
    p.id = s.disp.nextPlan ∧ p.cl = cl ∧ p.q = q ∧ p.nextChunk = 0 ∧ p.ctx = s.qCtx cl q ∧ p.desc = d := by
  unfold State.readPlan at h
  dsimp only at h
  split at h
  · cases h
  · split at h
    · cases h
    · split at h
      · cases h
      · split at h
        · cases h
          exact ⟨rfl, rfl, rfl, rfl, rfl, rfl⟩
        · cases h

/-- A plan with a chunk or a core tile left to give out goes on (R288). -/
theorem planCheck_walks {s : State} {id : Nat} {p : Plan} (h : s.plan id = some p)
    (hleft : p.nextChunk < p.chunks ∨ ∃ c < 12, p.hasNext c = true) : s.planCheck id = s := by
  have hgo : (decide (p.nextChunk < p.chunks) || (List.range 12).any (fun c => p.hasNext c || !(s.planBusy p c).isEmpty)) = true := by
    rw [Bool.or_eq_true, List.any_eq_true]
    refine hleft.imp decide_eq_true fun ⟨c, hc, hnext⟩ => ⟨c, List.mem_range.2 hc, by rw [hnext, Bool.true_or]⟩
  simp only [State.planCheck, h, hgo, if_true]

/-- What joining the walked plans changes: references and the counters that show the plan beside the dispatchers' lists. -/
structure PlanJoins (s u : State) (p : Plan) : Prop where
  disp : u.disp = { s.disp with plans := s.disp.plans ++ [p], nextPlan := s.disp.nextPlan + 1 }
  cores : u.cores = s.cores
  queues : ∀ cl q, q < 16 → u.qNext cl q = s.qNext cl q
  chunks : u.qNext p.cl p.chunkCtr = p.nextChunk % 2 ^ 32

theorem bindVersion_objs_only (s : State) (b : Option (Nat × Nat)) : ∃ ob, s.bindVersion b = { s with objs := ob } := by
  unfold State.bindVersion
  split
  · exact ⟨_, rfl⟩
  · split
    · exact ⟨_, rfl⟩
    · exact ⟨_, rfl⟩

theorem openPlan_joins (s : State) {p : Plan} (hcl : p.cl < 12) (hq : p.q < 16) : PlanJoins s (s.openPlan p) p := by
  obtain ⟨ob, hob⟩ := bindVersion_objs_only s p.bound
  obtain ⟨ch, hch⟩ := refTable_chair_only { s with objs := ob } p.xlat
  have hopen : s.openPlan p = ({ s with objs := ob, chair := ch, disp := { s.disp with
      plans := s.disp.plans ++ [p], nextPlan := s.disp.nextPlan + 1 } } : State).showPlan p := by
    unfold State.openPlan
    rw [hob, hch]
  obtain ⟨m, hm⟩ := showPlan_memOnly { s with objs := ob, chair := ch, disp := { s.disp with
      plans := s.disp.plans ++ [p], nextPlan := s.disp.nextPlan + 1 } } p
  rw [hopen]
  refine ⟨by rw [hm], by rw [hm], fun cl q hq' => ?_, qNext_showPlan_chunks _ p hcl hq⟩
  exact qNext_showPlan_queue _ p cl q hcl hq hq'

/-- A step noted in its group changes the groups alone (R492). -/
structure GroupsOnly (s u : State) : Prop where
  plans : u.disp.plans = s.disp.plans
  nextPlan : u.disp.nextPlan = s.disp.nextPlan
  queues : u.disp.queues = s.disp.queues
  cores : u.cores = s.cores
  mem : u.mem = s.mem

theorem noteStep_groupsOnly (s : State) (c d : Nat) : GroupsOnly s (s.noteStep c d) := by
  unfold State.noteStep
  split
  · exact ⟨rfl, rfl, rfl, rfl, rfl⟩
  · exact ⟨rfl, rfl, rfl, rfl, rfl⟩

section
variable {s : State} {cl q d d' : Nat} {p : Plan}

/-- PLAN_POSITION at a head that it may take (R458). -/
theorem planPosition_eq (h : HeadIs s cl q d) (hk : dKind d = 1)
    (hfree : s.disp.plans.any (fun p => p.cl = cl && p.q = q) = false) :
    s.planPosition cl q =
      match s.admission (s.qCtx cl q) d (s.planCodes cl q (s.qNext cl q)) with
      | .wait => s
      | .fail e => (s.takeHead cl q).1.finishHead cl q (s.takeHead cl q).2 e d
      | .go d => match s.readPlan cl q (s.qNext cl q) d with
        | .error e => (s.takeHead cl q).1.finishHead cl q (s.takeHead cl q).2 e d
        | .ok p => (((s.takeHead cl q).1.noteStep (s.qCtx cl q) d).openPlan p).planCheck p.id := by
  obtain ⟨hready, hre, hsaved, hdesc⟩ := h
  simp only [State.planPosition, hready, hre, hsaved, hdesc, hk, hfree, List.isEmpty_nil, Bool.not_true, ne_eq, not_true_eq_false,
    decide_false, Bool.or_self, Bool.false_eq_true, if_false] <;> rfl

/-- R284: a plan that is taken is walked from its first chunk, its position open. -/
structure PlanTaken (s u : State) (cl q : Nat) (p : Plan) : Prop where
  plans : u.disp.plans = s.disp.plans ++ [p]
  nextPlan : u.disp.nextPlan = s.disp.nextPlan + 1
  qNext : u.qNext cl q = s.qNext cl q + 1
  position : s.qNext cl q ∈ (u.queue cl q).open_
  cores : u.cores = s.cores
  chunks : u.qNext cl p.chunkCtr = 0

/-- A plan that joins after its position was taken. -/
theorem openPlan_taken (hlim : s.qNext cl q < s.qLimit cl q) (hcl : cl < 12) (hq : q < 16)
    (hp : s.readPlan cl q (s.qNext cl q) d' = .ok p) :
    PlanTaken s (((s.takeHead cl q).1.noteStep (s.qCtx cl q) d').openPlan p) cl q p := by
  obtain ⟨-, hpcl, hpq, hchunk, -, -⟩ := readPlan_ok hp
  have hgroups := noteStep_groupsOnly (s.takeHead cl q).1 (s.qCtx cl q) d'
  have hjoin := openPlan_joins ((s.takeHead cl q).1.noteStep (s.qCtx cl q) d') (p := p) (hpcl ▸ hcl) (hpq ▸ hq)
  have hdisp := takeHead_disp s cl q
  refine ⟨?_, ?_, ?_, ?_, ?_, ?_⟩
  · rw [hjoin.disp, hgroups.plans, hdisp]
    rfl
  · rw [hjoin.disp, hgroups.nextPlan, hdisp]
    rfl
  · rw [hjoin.queues cl q hq, State.qNext, word_of_mem hgroups.mem]
    exact takeHead_qNext s cl q hlim
  · have hqueue := queue_modQueue_same s cl q (fun x => { x with open_ := x.open_ ++ [s.qNext cl q] })
    rw [State.queue, ← hdisp] at hqueue
    rw [State.queue, hjoin.disp, hgroups.queues, hqueue]
    simp
  · rw [hjoin.cores, hgroups.cores, takeHead_cores]
  · have hchunks := hjoin.chunks
    rwa [hpcl, hchunk] at hchunks

theorem plan_append {u : State} (hnone : s.plan p.id = none) (hu : u.disp.plans = s.disp.plans ++ [p]) : u.plan p.id = some p := by
  rw [State.plan] at hnone
  rw [State.plan, hu, List.find?_append, hnone]
  simp

/-- R284: the plan of a position that is admitted. -/
theorem planPosition_taken (h : HeadIs s cl q d) (hk : dKind d = 1)
    (hfree : s.disp.plans.any (fun p => p.cl = cl && p.q = q) = false) (hcl : cl < 12) (hq : q < 16)
    (hgo : s.admission (s.qCtx cl q) d (s.planCodes cl q (s.qNext cl q)) = .go d')
    (hp : s.readPlan cl q (s.qNext cl q) d' = .ok p) (hchunks : 0 < p.chunks) (hnew : s.plan s.disp.nextPlan = none) :
    PlanTaken s (s.planPosition cl q) cl q p := by
  obtain ⟨hid, -, -, hchunk, -, -⟩ := readPlan_ok hp
  have hlim : s.qNext cl q < s.qLimit cl q := by
    have hready := h.1
    simp only [State.qReady, Bool.and_eq_true, decide_eq_true_eq] at hready
    exact hready.2
  have htaken := openPlan_taken hlim hcl hq hp
  have hplan := plan_append (hid ▸ hnew) htaken.plans
  rw [planPosition_eq h hk hfree, hgo]
  simp only [hp]
  rwa [planCheck_walks hplan (.inl (hchunk ▸ hchunks))]

end

/-! ### A cluster takes a chunk -/

section
variable {s : State} {cl : Nat} {p : Plan}

/-- Change the plans named `id`: the plan that was found under it is the changed one. -/
theorem plan_modPlan {id : Nat} {f : Plan → Plan} (h : s.plan id = some p) (hf : ∀ y, (f y).id = y.id) :
    (s.modPlan id f).plan id = some (f p) := by
  have hid : p.id = id := by simpa using List.find?_some h
  have hsame : ((fun y : Plan => decide (y.id = id)) ∘ fun y => if y.id = id then f y else y) = fun y => decide (y.id = id) := by
    funext y
    by_cases hy : y.id = id
    · simp [hy, hf]
    · simp [hy]
  rw [State.plan] at h
  simp only [State.plan, State.modPlan, List.find?_map, hsame, h, Option.map_some, hid, if_true]

theorem shown_memOnly (s : State) (id : Nat) : MemOnly s (s.shown id) := by
  unfold State.shown
  cases s.plan id with
  | none => exact .refl s
  | some p => exact showPlan_memOnly s p

theorem part_modPart_same (p : Plan) (cl : Nat) (f : PlanCl → PlanCl) : (p.modPart cl f).part cl = f (p.part cl) :=
  nget_nmod_same ..

/-- A plan whose next chunk a cluster takes (R284). -/
def Plan.giveChunk (y : Plan) (cl lo hi : Nat) : Plan :=
  { (y.modPart cl (fun x => { x with chunk := some y.nextChunk, next := lo, limit := hi })) with nextChunk := y.nextChunk + 1 }

theorem chunkTake_eq
    (h : s.disp.plans.find? (fun p => s.planServed p cl && p.nextChunk < p.chunks && !p.hasNext cl) = some p) :
    s.chunkTake cl = ((s.modPlan p.id (·.giveChunk cl (p.nextChunk * plChunk p.record * p.per)
      (min ((p.nextChunk + 1) * plChunk p.record) p.tiles * p.per))).shown p.id).planCheck p.id := by
  rw [State.chunkTake, h]
  rfl

theorem giveChunk_hasNext (p : Plan) (cl lo hi : Nat) : (p.giveChunk cl lo hi).hasNext cl = (p.firstIn lo hi).isSome := by
  have hpart : (p.giveChunk cl lo hi).part cl = { p.part cl with chunk := some p.nextChunk, next := lo, limit := hi } :=
    part_modPart_same p cl (fun x => { x with chunk := some p.nextChunk, next := lo, limit := hi })
  rw [Plan.hasNext, hpart]
  rfl

/-- R284: a plan that a cluster has a core tile of goes on. -/
theorem giveChunk_walks {lo hi : Nat} (hcl : cl < 12) (h : s.plan p.id = some p) (hnext : (p.firstIn lo hi).isSome = true) :
    (((s.modPlan p.id (·.giveChunk cl lo hi)).shown p.id).planCheck p.id) = (s.modPlan p.id (·.giveChunk cl lo hi)).shown p.id := by
  have hplan := plan_modPlan (f := (·.giveChunk cl lo hi)) h fun _ => rfl
  obtain ⟨m, hm⟩ := shown_memOnly (s.modPlan p.id (·.giveChunk cl lo hi)) p.id
  rw [hm]
  exact planCheck_walks (p := p.giveChunk cl lo hi) hplan (.inr ⟨cl, hcl, (giveChunk_hasNext ..).trans hnext⟩)

end

end Sys2Proof.Machine
end

section
/-! PROOFS. Plans are walked (R284, R286, R287): the blocks that a cluster loads into its buffers, and O28. -/

namespace Sys2Proof.Machine

open Sys2Proof.Claims

/-! ### How much a read of virtual memory returns -/

theorem sum_piecesFrom_le (g fuel a n : Nat) : ((piecesFrom g fuel a n).map (·.2)).sum ≤ n := by
  induction fuel generalizing a n with
  | zero => simp [piecesFrom]
  | succ fuel ih =>
    unfold piecesFrom
    split
    · simp
    · have hrest := ih (a + min n (g - a % g)) (n - min n (g - a % g))
      simp only [List.map_cons, List.sum_cons]
      omega

theorem sum_pieces_le (g a n : Nat) : ((pieces g a n).map (·.2)).sum ≤ n := sum_piecesFrom_le ..

theorem length_view (s : State) (pa n : Nat) : (s.view pa n).length = n := by
  have hbytes : (s.bytes pa n).length = n := by simp [State.bytes, ngetRun]
  unfold State.view
  split
  · split
    · exact hbytes
    · simp
  · exact hbytes

theorem sum_filterMap_le {α β : Type} (x : α → Option β) (f : β → Nat) (g : α → Nat) (l : List α)
    (h : ∀ a ∈ l, ∀ b, x a = some b → f b = g a) : ((l.filterMap x).map f).sum ≤ (l.map g).sum := by
  induction l with
  | nil => simp
  | cons a l ih =>
    have hrest := ih fun b hb => h b (List.mem_cons_of_mem a hb)
    cases hx : x a with
    | none =>
      rw [List.filterMap_cons_none hx, List.map_cons, List.sum_cons]
      omega
    | some b =>
      have hb := h a List.mem_cons_self b hx
      rw [List.filterMap_cons_some hx, List.map_cons, List.map_cons, List.sum_cons, List.sum_cons]
      omega

theorem collect_ok {α : Type} {l : List (Except Nat α)} {ps : List α} (h : collect l = .ok ps) :
    ps = l.filterMap Except.toOption := by
  unfold collect at h
  dsimp only at h
  split at h
  · cases h
    refine congrArg (List.filterMap · l) (funext fun x => ?_)
    cases x <;> rfl
  · cases h

/-- A read of virtual memory returns no more bytes than it asks for. -/
theorem length_readVa_le {s : State} {acc : Acc} {va n : Nat} {l : List Byte} (h : s.readVa acc va n = .ok l) : l.length ≤ n := by
  unfold State.readVa at h
  split at h
  · cases h
  · next ps hps =>
    split at h
    · cases h
    · cases h
      have hlen : (ps.flatMap fun p => s.view p.1 p.2).length = (ps.map (·.2)).sum := by
        simp [List.length_flatMap, length_view]
      rw [hlen, collect_ok hps, List.filterMap_map]
      refine (sum_filterMap_le _ _ (·.2) _ fun p _ b hb => ?_).trans (sum_pieces_le ..)
      dsimp only [Function.comp] at hb
      split at hb
      · cases hb
      · split at hb
        · split at hb
          · cases hb
            rfl
          · cases hb
        · cases hb
          rfl

/-! ### A write that does not seal -/

theorem write_mem (s : State) (pa : Nat) (bs : List Byte) : (s.write pa bs).mem = (s.put pa bs).mem := by
  have hseal : ∀ v : State, (v.unsealRange pa bs.length).mem = v.mem := fun v => by
    refine foldl_keeps_part State.mem (fun v x => ?_) v _
    split
    · unfold State.unseal
      split
      · rfl
      · simp
    · rfl
  have hcount : ∀ v : State, (v.countWr pa bs.length).mem = v.mem := fun v => by
    refine foldl_keeps_part State.mem (fun v x => ?_) v _
    split
    · rfl
    · rfl
  rw [State.write, hcount, unland_mem, hseal]

/-- A write changes no byte outside its own. -/
theorem write_bytesOutside (s : State) (pa : Nat) (bs : List Byte) : BytesOutside s (s.write pa bs) pa bs.length := fun b hb =>
  (byte_of_mem (write_mem s pa bs) b).trans (State.byte_put_outside s pa b bs (by omega))

theorem bytesOutside_write {s u : State} {a n : Nat} (h : BytesOutside s u a n) {pa : Nat} {bs : List Byte} (hlo : a ≤ pa)
    (hhi : pa + bs.length ≤ a + n) : BytesOutside s (u.write pa bs) a n := fun b hb =>
  (write_bytesOutside u pa bs b (by omega)).trans (h b hb)

/-! ### The load of a block -/

theorem length_herringRow (r : Nat) (bs : List Byte) : (herringRow r bs).length = bs.length := by
  unfold herringRow
  rw [List.length_append, List.length_drop, List.length_take]
  omega

/-- Only the buffer's bytes change, and no core, queue or plan. -/
structure FillsBuffer (s u : State) (a n : Nat) : Prop where
  bytes : BytesOutside s u a n
  parts : u.coresDisp = s.coresDisp

theorem FillsBuffer.write {s u : State} {a n : Nat} (h : FillsBuffer s u a n) {pa : Nat} {bs : List Byte} (hlo : a ≤ pa)
    (hhi : pa + bs.length ≤ a + n) : FillsBuffer s (u.write pa bs) a n :=
  ⟨bytesOutside_write h.bytes hlo hhi, (write_coresDisp ..).trans h.parts⟩

theorem FillsBuffer.cnt48 {s u : State} {a n : Nat} (h : FillsBuffer s u a n) (k m : Nat) : FillsBuffer s (u.cnt48 k m) a n :=
  ⟨h.bytes, h.parts⟩

/-- Row `r` of `rows` rows of `k` bytes lies within them. -/
theorem row_within {r rows k : Nat} (h : r < rows) : r * k + k ≤ rows * k := by
  rw [← Nat.succ_mul]
  exact Nat.mul_le_mul_right k h

theorem loadBlock_fills {s v : State} {acc : Acc} {chk hb : Bool} {cl off fmt rows cols : Nat} {rs : List (Nat × Nat × Nat × Nat)}
    (h : s.loadBlock acc chk hb cl off fmt rows cols rs = .ok v) (hrs : ∀ r ∈ rs, r.1 < rows ∧ r.2.2.1 ≤ cols) :
    FillsBuffer s v (scratchPa cl off) (blockSize fmt rows cols) := by
  unfold State.loadBlock at h
  extract_lets spans rd rb ns base at h
  split at h
  · cases h
  · next ps hps =>
    extract_lets pl at h
    by_cases hpoison : (pl.any fun x => s.touchesPoison x.a x.n) = true
    · rw [if_pos hpoison] at h
      cases h
    · rw [if_neg hpoison] at h
      split at h
      · cases h
      · cases h
        refine FillsBuffer.cnt48 ?_ _ _
        refine List.foldlRecOn (motive := fun u => FillsBuffer s u _ _) rs _ ⟨fun _ _ => rfl, rfl⟩ fun u hu r hr => ?_
        obtain ⟨hrow, hcols⟩ := hrs r hr
        have hrb : r.1 * rb + rb ≤ rows * rb := row_within hrow
        have hns : r.1 * ns + ns ≤ rows * ns := row_within hrow
        have hsize : blockSize fmt rows cols = rows * rb + (if fmtIsMx fmt then rows * ns else 0) := rfl
        have hrow' : ∀ x, (if hb = true then herringRow r.1 (toLE rb x) else toLE rb x).length = rb := fun x => by
          split
          · rw [length_herringRow, Tests.length_toLE]
          · exact Tests.length_toLE ..
        have hsc : (rd r.2.2.2 (cdiv r.2.2.1 32)).length ≤ ns := by
          refine Nat.le_trans ?_ (Nat.div_le_div_right (show r.2.2.1 + 32 - 1 ≤ cols + 32 - 1 by omega))
          dsimp only [rd]
          split
          · next l hl => exact length_readVa_le hl
          · exact Nat.zero_le _
        have helems := fun x => hu.write (pa := base + r.1 * rb) (bs := if hb = true then herringRow r.1 (toLE rb x) else toLE rb x)
          (Nat.le_add_right ..) (by rw [hrow', hsize]; omega)
        dsimp only
        split
        · next hmx =>
          refine (helems _).write (by omega) ?_
          rw [List.length_append, List.length_replicate, hsize, if_pos hmx]
          omega
        · exact helems _

/-- The rows of a block lie in its buffer and have no more elements than it holds. -/
theorem blockRows_within {absent : Bool} {fmt addr stride scaleOff row0 rows rowTotal col0 cols colTotal : Nat} :
    ∀ r ∈ blockRows absent fmt addr stride scaleOff row0 rows rowTotal col0 cols colTotal, r.1 < rows ∧ r.2.2.1 ≤ cols := by
  intro r hr
  obtain ⟨i, hi, rfl⟩ := List.mem_map.1 hr
  rw [List.mem_range] at hi
  refine ⟨?_, ?_⟩
  · split at hi
    · exact hi
    · exact Nat.lt_of_lt_of_le hi (Nat.min_le_left ..)
  · dsimp only
    split
    · exact Nat.min_le_left ..
    · exact Nat.zero_le _

/-- R287: the load of a block changes its buffer's bytes alone. -/
theorem fillBlock_fills {s v : State} {p : Plan} {cl kind ct i : Nat} (h : s.fillBlock p cl kind ct i = .ok v) :
    FillsBuffer s v (scratchPa cl (p.bufOff kind i)) (if kind = 0 then p.aBytes else p.wBytes) := by
  unfold State.fillBlock at h
  extract_lets r acc b k0 off at h
  by_cases hk : kind = 0
  · rw [if_pos hk] at h ⊢
    exact loadBlock_fills h blockRows_within
  · rw [if_neg hk] at h ⊢
    unfold Plan.wBytes Plan.wDims
    by_cases hkn : plKn r = true
    · rw [if_pos hkn] at h ⊢
      exact loadBlock_fills h blockRows_within
    · rw [if_neg hkn] at h ⊢
      exact loadBlock_fills h blockRows_within

/-- A plan whose block stands in a buffer of a cluster (R287). -/
def Plan.holdBlock (y : Plan) (cl kind ct i : Nat) : Plan := y.modPart cl (fun x => { x with
  bufs := x.bufs.filter (fun b => !(b.kind = kind && b.idx = i)) ++ [⟨kind, i, y.blkOf kind ct⟩] })

theorem clusterFill_loads {s v : State} {p : Plan} {cl kind ct i : Nat} (hfill : s.nextFillOf cl = some (p, kind, ct, i))
    (hv : s.fillBlock p cl kind ct i = .ok v) : s.clusterFill cl = v.modPlan p.id (·.holdBlock cl kind ct i) := by
  simp only [State.clusterFill, hfill, hv]
  rfl

/-- Settles O28: a position that is taken is `openPlan` of its plan, which goes on while it has a chunk to give; a chunk is
`giveChunk` of the plan it is found in; a block is loaded by writes within its buffer. -/
theorem plansAreWalked : Obligations.PlansAreWalked := by
  refine ⟨fun s cl q d hhead hk hfree => ⟨fun hadm => ?_, fun e hadm => ?_, fun d' p hadm hp hchunks hnew => ?_⟩,
    fun s cl p hfind hplan => ⟨?_, fun hnext => ?_⟩, fun s cl hnone => ?_, fun s cl hnone => ?_,
    fun s cl p kind ct i hfill => ⟨fun e he => ?_, fun v hv => ?_⟩⟩
  · exact congrArg Host.Outcome.next ((planPosition_eq hhead hk hfree).trans (by rw [hadm]))
  · exact congrArg Host.Outcome.next ((planPosition_eq hhead hk hfree).trans (by rw [hadm]))
  · obtain ⟨hid, -, -, hchunk, hctx, hdesc⟩ := readPlan_ok hp
    obtain ⟨hplans, hnext, hqNext, hpos, hcores, hctr⟩ := planPosition_taken hhead hk hfree cl.isLt q.isLt hadm hp hchunks hnew
    exact ⟨_, rfl, hplans, hnext, hqNext, hpos, hcores, hctr, hchunk, hid, hctx, hdesc⟩
  · exact congrArg Host.Outcome.next (chunkTake_eq hfind)
  · obtain ⟨m, hm⟩ := shown_memOnly (s.modPlan p.id (·.giveChunk cl.val (p.nextChunk * plChunk p.record * p.per)
      (min ((p.nextChunk + 1) * plChunk p.record) p.tiles * p.per))) p.id
    have htake := (chunkTake_eq hfind).trans (giveChunk_walks cl.isLt hplan hnext)
    rw [hm] at htake
    exact ⟨_, congrArg Host.Outcome.next htake, rfl, rfl, rfl⟩
  · exact congrArg Host.Outcome.next (by rw [State.chunkTake, hnone])
  · exact congrArg Host.Outcome.next (by rw [State.clusterFill, hnone])
  · exact congrArg Host.Outcome.next (by simp only [State.clusterFill, hfill, he])
  · obtain ⟨hbytes, hparts⟩ := fillBlock_fills hv
    have hdisp : v.disp = s.disp := congrArg Prod.snd hparts
    refine ⟨_, congrArg Host.Outcome.next (clusterFill_loads hfill hv), rfl, rfl, hbytes, ?_⟩
    rw [← hdisp]
    rfl

end Sys2Proof.Machine
end

section
/-! PROOFS. Work for an idle core (R284, R286, R458, R460, R462, R464 to R466, R469, R486): a task starts under its lease, and one that
was saved is placed where it stopped. -/

namespace Sys2Proof.Machine

open Sys2Proof.Claims

/-! ### A task starts -/

/-- What a task has of the lease it starts under (R466). -/
structure TaskOf (t : Task) (qcl : Nat) (l : Lease) : Prop where
  desc : t.desc = l.desc
  pos : t.pos = l.pos
  queue : t.q = l.queue
  qcl : t.qcl = qcl
  plan : t.plan = l.plan
  cmds : t.cmds = l.cmds
  cmdIndex : t.cmdIndex = 0
  leaseSeq : t.leaseSeq = l.seq
  step : t.step = l.step
  key : t.key = l.key
  committed : t.committed = false

/-- R466: the core reads RUNNING, and the task that stands on it is the lease's. -/
theorem startTask_starts (s : State) (cl site qcl : Nat) (l : Lease) :
    (s.startTask cl site qcl l).siteState cl site = 2 ∧
      ∃ t, ((s.startTask cl site qcl l).core cl site).task = some t ∧ TaskOf t qcl l := by
  refine ⟨State.obj_setObj_same .., ?_⟩
  simp only [State.startTask, State.core_setObj, State.core_modCore_same]
  refine ⟨_, rfl, ?_⟩
  cases s.readGlide l.ctx l.desc with
  | error e => exact ⟨rfl, rfl, rfl, rfl, rfl, rfl, rfl, rfl, rfl, rfl, rfl⟩
  | ok g => exact ⟨rfl, rfl, rfl, rfl, rfl, rfl, rfl, rfl, rfl, rfl, rfl⟩

/-- The lease that is found for a position is the position's. -/
theorem leaseOf_of_position {s : State} {cl q pos : Nat} {plan : Option Nat} {l : Lease} (h : s.leaseOf cl q plan pos = some l) :
    l.queue = q ∧ l.plan = plan ∧ l.pos = pos := by
  have hof : l.isOf q plan pos = true := List.find?_some (p := fun l : Lease => l.isOf q plan pos) h
  simp only [Lease.isOf, Bool.and_eq_true, decide_eq_true_eq] at hof
  exact ⟨hof.1.1.2, hof.1.2, hof.2⟩

/-- R286: the lease of a core tile, its own or a new one, names the tile and carries its commands. -/
theorem tileLease_names (s : State) (p : Plan) (cl pos : Nat) (cs : List Nat) :
    (s.tileLease p cl pos cs).plan = some p.id ∧ (s.tileLease p cl pos cs).pos = pos ∧ (s.tileLease p cl pos cs).cmds = cs := by
  unfold State.tileLease
  cases hl : s.leaseOf cl p.q (some p.id) pos with
  | none => exact ⟨rfl, rfl, rfl⟩
  | some l =>
    obtain ⟨-, hplan, hpos⟩ := leaseOf_of_position hl
    exact ⟨hplan, hpos, rfl⟩

/-- A core tile that is taken again leaves the list of those that wait for it (R469). -/
def State.retaken (s : State) (cl id pos : Nat) : State :=
  s.modPlan id (fun p => p.modPart cl (fun x => { x with reissue := x.reissue.erase pos }))

/-- The lease under which a core tile is taken again: its own, or a new one where a restore left none (R469, R484). -/
def State.againLease (s : State) (p : Plan) (cl q id pos : Nat) (cs : List Nat) : Lease :=
  if (s.leaseOf cl q (some id) pos).isSome then s.tileLease p cl pos cs else { s.tileLease p cl pos cs with seq := 1 }

theorem againLease_names (s : State) (p : Plan) (cl q id pos : Nat) (cs : List Nat) :
    (s.againLease p cl q id pos cs).plan = some p.id ∧ (s.againLease p cl q id pos cs).pos = pos ∧
      (s.againLease p cl q id pos cs).cmds = cs := by
  unfold State.againLease
  split
  · exact tileLease_names ..
  · exact tileLease_names s p cl pos cs

/-- R469: a core tile that has a lease is taken again under it. -/
theorem againLease_own {s : State} {p : Plan} {cl id pos : Nat} {l : Lease} (cs : List Nat) (hid : p.id = id)
    (hl : s.leaseOf cl p.q (some id) pos = some l) : (s.againLease p cl p.q id pos cs).seq = l.seq ∧
      (s.againLease p cl p.q id pos cs).step = l.step ∧ (s.againLease p cl p.q id pos cs).key = l.key := by
  rw [State.againLease, State.tileLease, hid, hl]
  exact ⟨rfl, rfl, rfl⟩

/-- R486: the lease under which a saved task resumes is its position's, with the step of its record. -/
theorem resumeLease_names (s : State) (cl q : Nat) (st : SavedTask) (head : List Byte) (cmds : List Nat) :
    (s.resumeLease cl q st head cmds).pos = st.pos ∧
      (s.resumeLease cl q st head cmds).step = leNat ((head.drop 144).take 8) := by
  unfold State.resumeLease
  cases hl : s.leaseOf cl q st.plan st.pos with
  | none => exact ⟨rfl, rfl⟩
  | some l =>
    obtain ⟨-, -, hpos⟩ := leaseOf_of_position hl
    exact ⟨hpos, rfl⟩

/-! ### What a work request serves -/

section
variable {s : State} {cl site q : Nat}

/-- A core is given work of a queue: a saved task is taken by SAVED_TASK_RESUME (R464). -/
def State.giveWork (s : State) (cl site q : Nat) : Work → State
  | .saved _ => s
  | .again plan pos => (s.noteServed cl q).startAgain cl site q plan pos
  | .tile id g => (s.noteServed cl q).startPlanTile cl site id g
  | .head => (s.noteServed cl q).startHead cl site q

theorem workRequest_none (h : s.coreFree cl site = false ∨ leaseMax ≤ ((s.leases cl).filter (·.valid)).length) :
    s.workRequest cl site = s ∧ s.savedResume cl site = s := by
  have hno : (!s.coreFree cl site || decide (leaseMax ≤ ((s.leases cl).filter (·.valid)).length)) = true := by
    rcases h with h | h <;> simp [h]
  exact ⟨if_pos hno, if_pos hno⟩

section
variable (hfree : s.coreFree cl site = true) (hroom : ((s.leases cl).filter (·.valid)).length < leaseMax)
include hfree hroom

/-- R464: a core that is free gets what its cluster serves next. -/
theorem workRequest_serves {w : Work} (hw : s.chooseWork cl = some (q, w)) :
    s.workRequest cl site = s.giveWork cl site q w := by
  have hgo : ¬(!s.coreFree cl site || decide (leaseMax ≤ ((s.leases cl).filter (·.valid)).length)) = true := by
    simp [hfree, hroom]
  rw [State.workRequest, if_neg hgo, hw]
  rfl

theorem savedResume_serves {plan : Option Nat} {st : SavedTask} {rest : List SavedTask}
    (hst : (match plan with
      | some id => ((s.plan id).map (fun p => (p.part cl).saved)).getD []
      | none => (s.queue cl q).saved) = st :: rest) (hw : s.chooseWork cl = some (q, .saved plan)) :
    s.savedResume cl site = (s.noteServed cl q).resumeTask cl site q st := by
  simp only [State.savedResume, hfree, Nat.not_le.2 hroom, hw, Bool.not_true, decide_false, Bool.or_self, Bool.false_eq_true, if_false]
  cases plan with
  | none =>
    dsimp only at hst ⊢
    rw [hst]
  | some id =>
    dsimp only at hst ⊢
    rw [hst]

end

/-- R458, R466: the head of a queue that is admitted is taken and starts under a new lease. -/
theorem startHead_go {d d' : Nat} (hd : s.headDesc cl q = .ok d) (hgo : s.admission (s.qCtx cl q) d (fun _ => []) = .go d') :
    let w := ((s.takeHead cl q).1.noteStep (s.qCtx cl q) d').bindVersion (dBound d')
    s.startHead cl site q = w.startTask cl site cl (w.newLease cl q none (s.takeHead cl q).2 (s.qCtx cl q) d' []) := by
  simp only [State.startHead, hd, hgo]

theorem startHead_fail {d e : Nat} (hd : s.headDesc cl q = .ok d) (hfail : s.admission (s.qCtx cl q) d (fun _ => []) = .fail e) :
    s.startHead cl site q = (s.takeHead cl q).1.finishHead cl q (s.takeHead cl q).2 e d := by
  simp only [State.startHead, hd, hfail]

/-- R462, R469: a position that is taken again starts under its lease. -/
theorem startAgain_lease {pos : Nat} {l : Lease} (hl : s.leaseOf cl q none pos = some l) :
    s.startAgain cl site q none pos = ((s.modQueue cl q (fun x => { x with reissue := x.reissue.erase pos })).cnt16
      (kCtx l.ctx 0xE) 1).startTask cl site cl l := by
  have hl' : (s.modQueue cl q (fun x => { x with reissue := x.reissue.erase pos })).leaseOf cl q none pos = some l := hl
  simp only [State.startAgain, hl']

section
variable {id pos : Nat} {p : Plan} {a b : PlanBuf} (hp : s.plan id = some p) (ha : p.bufFor cl 0 (pos / max 1 p.per) = some a)
  (hb : p.bufFor cl 1 (pos / max 1 p.per) = some b)
include hp ha hb

/-- R286: a core tile whose blocks are resident starts with the commands generated for them. -/
theorem startPlanTile_eq : s.startPlanTile cl site id pos =
    match s.tileCmds p cl pos a.idx b.idx with
    | .error e => s.planFail id e
    | .ok cs =>
      let v := (s.modPlan id (fun p => p.modPart cl (fun x => { x with next := pos + 1 }))).shown id
      v.startTask cl site p.cl (v.tileLease p cl pos cs) := by
  simp only [State.startPlanTile, hp, ha, hb] <;> rfl

/-- R469: a core tile that is taken again starts with commands that are generated anew. -/
theorem startAgain_tile : s.startAgain cl site q (some id) pos =
    match (s.retaken cl id pos).tileCmds p cl pos a.idx b.idx with
    | .error e => (s.retaken cl id pos).planFail id e
    | .ok cs => ((s.retaken cl id pos).cnt16 (kCtx p.ctx 0xE) 1).startTask cl site p.cl
        ((s.retaken cl id pos).againLease p cl q id pos cs) := by
  simp only [State.startAgain, hp, ha, hb] <;> rfl

end

end

end Sys2Proof.Machine
end

section
/-! PROOFS. The placing of a saved task (R484, R486): what it keeps of the task that has started, and O25. -/

namespace Sys2Proof.Machine

open Sys2Proof.Claims

/-! ### What the walk of a saved task's commands keeps -/

/-- What names a task and counts what its signals have met: its descriptor, its position and LEASE_SEQ, its step, whether it has
committed, its events and its duplicates. -/
def Task.lasting (t : Task) : Nat × Nat × Nat × Nat × Bool × Ev × Nat :=
  (t.desc, t.pos, t.leaseSeq, t.step, t.committed, t.ev, t.dups)

/-- The core's state and what its task keeps are what they were. -/
structure TaskStays (s u : State) (cl site : Nat) : Prop where
  state : u.siteState cl site = s.siteState cl site
  task : (u.core cl site).task.map Task.lasting = (s.core cl site).task.map Task.lasting

section
variable {s u : State} {cl site : Nat}

theorem TaskStays.refl (s : State) (cl site : Nat) : TaskStays s s cl site := ⟨rfl, rfl⟩

theorem TaskStays.trans {v : State} (h : TaskStays s u cl site) (k : TaskStays u v cl site) : TaskStays s v cl site :=
  ⟨k.state.trans h.state, k.task.trans h.task⟩

theorem TaskStays.foldl {β : Type} {f : State → β → State} (hf : ∀ s x, TaskStays s (f s x) cl site) (s : State) (l : List β) :
    TaskStays s (l.foldl f s) cl site :=
  List.foldlRecOn (motive := (TaskStays s · cl site)) l f (.refl s cl site) fun _ h x _ => h.trans (hf _ x)

/-- The task that stands on the core stands on it still. -/
theorem TaskStays.some {t : Task} (h : TaskStays s u cl site) (ht : (s.core cl site).task = some t) :
    ∃ t', (u.core cl site).task = some t' ∧ t'.lasting = t.lasting := by
  have htask := h.task
  rw [ht] at htask
  exact Option.map_eq_some_iff.1 htask

theorem taskStays_modCore {f : CoreSt → CoreSt} (h : (f (s.core cl site)).task = (s.core cl site).task) :
    TaskStays s (s.modCore cl site f) cl site :=
  ⟨rfl, by rw [State.core_modCore_same, h]⟩

theorem taskStays_modTask (s : State) (cl site : Nat) {f : Task → Task} (h : ∀ t, (f t).lasting = t.lasting) :
    TaskStays s (s.modTask cl site f) cl site :=
  ⟨rfl, by rw [State.core_modTask_same, Option.map_map, show Task.lasting ∘ f = Task.lasting from funext h]⟩

theorem taskStays_taskFail (s : State) (cl site e : Nat) : TaskStays s (s.taskFail cl site e) cl site :=
  taskStays_modTask s cl site (f := fun t => { t with codes := t.codes ++ [e], ended := true }) fun _ => rfl

theorem taskStays_startCmd (s : State) (cl site w : Nat) {f : Task → Task} (h : ∀ t, (f t).lasting = t.lasting) :
    TaskStays s (s.startCmd cl site w f) cl site :=
  taskStays_modTask s cl site (f := fun t => f (t.started w)) fun t => h (t.started w)

theorem taskStays_imageLoad (s : State) (cl site : Nat) : TaskStays s (s.imageLoad cl site) cl site := by
  unfold State.imageLoad
  split
  · exact .refl ..
  · split
    · exact .refl ..
    · split
      · exact taskStays_modTask s cl site fun _ => rfl
      · split
        · exact taskStays_taskFail ..
        · next bs _ =>
          dsimp only
          split
          · exact taskStays_taskFail ..
          · exact (taskStays_modCore (f := fun c => { c with rmem := nsetRun (0 : Byte) [] 0 bs, resident := true }) rfl).trans
              (taskStays_modTask _ cl site fun _ => rfl)

theorem taskStays_againTile {t : Task} {sch : Bool} {w : Nat} (h : s.againTile cl site t sch w = .ok u) :
    TaskStays s u cl site := by
  unfold State.againTile at h
  split at h
  · cases h
  · next bind _ =>
    split at h
    · cases h
    · next g _ =>
      cases h
      obtain ⟨_, _, _, _, hadd⟩ := addTile_only (s.core cl site) t sch w (bind.getD 0) g.2.1
      have hset : TaskStays s (s.setCore cl site ((s.core cl site).addTile t sch w (bind.getD 0) g.2.1)) cl site :=
        ⟨rfl, by rw [State.core_setCore_same, hadd]⟩
      exact hset.trans (taskStays_startCmd _ cl site w fun _ => rfl)

theorem taskStays_queueMv (s : State) (cl site w : Nat) (m : Mv) : TaskStays s (s.queueMv cl site w m) cl site := by
  unfold State.queueMv
  dsimp only
  split
  · exact taskStays_startCmd _ cl site w fun _ => rfl
  · exact (taskStays_modCore rfl).trans (taskStays_startCmd _ cl site w fun _ => rfl)

theorem taskStays_issueMv {t : Task} {d : Nat} {mv : Mv} (h : s.issueMv t d = .ok (u, mv)) : TaskStays s u cl site := by
  obtain ⟨-, -, hu⟩ := issueMv_ok h
  rw [hu]
  exact ⟨rfl, rfl⟩

theorem taskStays_againCmd (s : State) (cl site : Nat) : TaskStays s (s.againCmd cl site) cl site := by
  unfold State.againCmd
  split
  · exact .refl ..
  · next t _ =>
    split
    · exact taskStays_taskFail ..
    · next w _ =>
      dsimp only
      split
      · exact (taskStays_modCore rfl).trans (taskStays_startCmd _ cl site w fun _ => rfl)
      · split
        · exact taskStays_startCmd _ cl site w fun _ => rfl
        · split
          · split
            · exact taskStays_taskFail ..
            · split
              · exact taskStays_taskFail ..
              · next hissue =>
                exact (taskStays_issueMv hissue).trans (taskStays_queueMv ..)
          · split
            · split
              · exact taskStays_taskFail ..
              · next htile =>
                exact (taskStays_againTile htile).trans ((taskStays_modCore rfl).trans (taskStays_modTask _ cl site fun _ => rfl))
            · exact taskStays_startCmd _ cl site w fun _ => rfl

end

/-! ### Rings, slabs and the command in progress -/

theorem restoreRings_task (c : CoreSt) (head : List Byte) (lv : List Live) (sums : List (Nat × Nat × List Nat)) :
    (c.restoreRings head lv sums).task = c.task := by
  unfold CoreSt.restoreRings
  extract_lets rd c'
  have hrings : c'.task = c.task :=
    List.foldlRecOn (motive := fun d : CoreSt => d.task = c.task) (List.range 16) _ rfl fun _ h _ _ => h
  refine List.foldlRecOn (motive := fun d : CoreSt => d.task = c.task) lv _ hrings fun d h e _ => ?_
  split
  · exact h
  · exact h

theorem backGens_task (c : CoreSt) (b : Nat) (l : List GenUse) (k : Nat) : (c.backGens b l k).1.task = c.task :=
  List.foldlRecOn (motive := fun d : CoreSt => d.task = c.task) l _ rfl fun _ h _ _ => h

theorem placeTile_task (c : CoreSt) (ti : Tile) (step : Nat) (lv : List Live) (nans : List Nat) :
    (c.placeTile ti step lv nans).task = c.task := by
  simp only [CoreSt.placeTile, backGens_task]
  split
  · rfl
  · split
    · rfl
    · rfl

theorem taskStays_restoreTile (s : State) (cl site step : Nat) (lv : List Live) (nans : List Nat) :
    TaskStays s (s.restoreTile cl site step lv nans) cl site := by
  unfold State.restoreTile
  split
  · exact .refl ..
  · split
    · exact .refl ..
    · split
      · exact taskStays_taskFail ..
      · split
        · exact taskStays_taskFail ..
        · next htile =>
          have hagain := taskStays_againTile htile
          split
          · next ti _ _ =>
            have hplace := hagain.trans (taskStays_modCore (f := fun c => c.placeTile ti step lv nans) (placeTile_task ..))
            dsimp only
            split
            · exact hplace.trans (taskStays_modTask _ cl site fun _ => rfl)
            · exact hplace
          · exact hagain

/-- R486: a task that is placed where it stopped keeps its descriptor, position, lease and step, and takes up its events and duplicates. -/
theorem placeTask_task {s : State} {cl site : Nat} {t : Task} (ht : (s.core cl site).task = some t) (st : SavedTask) (head : List Byte)
    (lv : List Live) : (s.placeTask cl site st head lv).siteState cl site = s.siteState cl site ∧
      ∃ t', ((s.placeTask cl site st head lv).core cl site).task = some t' ∧
        t'.lasting = { t with ev := st.ev, dups := st.dups }.lasting := by
  unfold State.placeTask
  extract_lets rd n v w x past y z p
  have hwalk : TaskStays s x cl site := (taskStays_imageLoad s cl site).trans
    ((taskStays_modCore (f := fun c => { c with rings := [] }) rfl).trans (.foldl (fun v _ => taskStays_againCmd v cl site) _ _))
  have hplace : TaskStays y p cl site :=
    (taskStays_modCore (f := fun c => c.restoreRings head lv st.sums) (restoreRings_task ..)).trans (taskStays_restoreTile ..)
  have hend := hplace.trans (taskStays_modTask p cl site (f := fun t => { t with
    staged := modNth t.staged 0 (fun g => { g with nans := g.nans + st.staged }) }) fun _ => rfl)
  obtain ⟨t1, ht1, hlast⟩ := hwalk.some ht
  obtain ⟨t2, ht2, hlast2⟩ := hend.some (modTask_task _ ht1)
  refine ⟨hend.state.trans hwalk.state, t2, ht2, hlast2.trans ?_⟩
  simp only [Task.lasting, Prod.mk.injEq] at hlast
  obtain ⟨hdesc, hpos, hseq, hstep, hcommitted, -, -⟩ := hlast
  simp only [Task.lasting, hdesc, hpos, hseq, hstep, hcommitted]

/-- R466, R486: a saved task that has started under a lease and is placed. -/
theorem startTask_placeTask (s : State) (cl site qcl : Nat) (l : Lease) (st : SavedTask) (head : List Byte) (lv : List Live) :
    ((s.startTask cl site qcl l).placeTask cl site st head lv).siteState cl site = 2 ∧
      ∃ t, (((s.startTask cl site qcl l).placeTask cl site st head lv).core cl site).task = some t ∧ t.desc = l.desc ∧ t.pos = l.pos ∧
        t.leaseSeq = l.seq ∧ t.step = l.step ∧ t.ev = st.ev ∧ t.dups = st.dups ∧ t.committed = false := by
  obtain ⟨hrunning, t, ht, hof⟩ := startTask_starts s cl site qcl l
  obtain ⟨hstate, t', ht', hlast⟩ := placeTask_task ht st head lv
  simp only [Task.lasting, Prod.mk.injEq] at hlast
  obtain ⟨hdesc, hpos, hseq, hstep, hcommitted, hev, hdups⟩ := hlast
  exact ⟨hstate.trans hrunning, t', ht', hdesc.trans hof.desc, hpos.trans hof.pos, hseq.trans hof.leaseSeq, hstep.trans hof.step, hev,
    hdups, hcommitted.trans hof.committed⟩

/-! ### A core takes a saved task -/

section
variable {s : State} {cl site q : Nat} {st : SavedTask} {head : List Byte} {cmds : List Nat} {lv : List Live}
  (hhead : (s.dropSaved cl q st.plan).readVa ((s.dropSaved cl q st.plan).accOf st.ctx) st.addr 512 = .ok head)
  (hcmds : (s.dropSaved cl q st.plan).savedCmds cl st = .ok cmds)
  (hlv : (s.dropSaved cl q st.plan).readLive ((s.dropSaved cl q st.plan).accOf st.ctx) st.addr (leNat ((head.drop 184).take 4)) = .ok lv)
include hhead hcmds hlv

/-- R472, R486, R508: a saved task whose record can be read resumes, but where it takes a new lease and its version is not here. -/
theorem resumeTask_eq : s.resumeTask cl site q st =
    let v := s.dropSaved cl q st.plan
    let l := v.resumeLease cl q st head cmds
    let old := v.leaseOf cl q st.plan st.pos
    if old.isNone && !(v.boundCodes l.desc).isEmpty then v.savedStale cl q st l.desc
    else ((if old.isSome then v else v.bindVersion l.bound).startTask cl site (leNat ((head.drop 133).take 1)) l).placeTask cl site st
      head lv := by
  unfold State.resumeTask
  simp only [hhead, hcmds, hlv]

end

/-- Settles O25: what the cluster serves comes to one `startTask` under a lease, whose task has the lease's fields; a saved task keeps
them where it is placed. -/
theorem workRequestStartsATask : Obligations.WorkRequestStartsATask := by
  refine ⟨?_, ?_, ?_, ?_, ?_, ?_⟩
  · intro s core h
    obtain ⟨hwork, hsaved⟩ := workRequest_none h
    exact ⟨congrArg Host.Outcome.next hwork, congrArg Host.Outcome.next hsaved⟩
  · intro s core q d d' hfree hroom hw v hd hgo r w
    have hstart : s.workRequest core.c core.s = w.startTask core.c core.s core.c
        (w.newLease core.c q none r.2 (v.qCtx core.c q) d' []) :=
      (workRequest_serves hfree hroom hw).trans (startHead_go hd hgo)
    obtain ⟨hstate, t, ht, hof⟩ := startTask_starts w core.c core.s core.c (w.newLease core.c q none r.2 (v.qCtx core.c q) d' [])
    exact ⟨congrArg Host.Outcome.next hstart, _, t, congrArg Host.Outcome.next hstart, hstate, ht, hof.desc, hof.pos, hof.queue,
      hof.cmdIndex⟩
  · intro s core q d e hfree hroom hw v hd hfail
    exact congrArg Host.Outcome.next ((workRequest_serves hfree hroom hw).trans (startHead_fail hd hfail))
  · intro s core q pos l hfree hroom hw hl v
    have hstart : s.workRequest core.c core.s = v.startTask core.c core.s core.c l :=
      (workRequest_serves hfree hroom hw).trans (startAgain_lease (s := s.noteServed core.c q) hl)
    obtain ⟨hqueue, hplan, hpos⟩ := leaseOf_of_position hl
    obtain ⟨hstate, t, ht, hof⟩ := startTask_starts v core.c core.s core.c l
    exact ⟨_, t, congrArg Host.Outcome.next hstart, rfl, hstate, ht, hof.desc, hof.pos.trans hpos, hof.queue.trans hqueue,
      hof.leaseSeq, hof.step, hof.key, congrArg Queue.reissue (queue_modQueue_same (s.noteServed core.c q) core.c q
        (fun x => { x with reissue := x.reissue.erase pos }))⟩
  · intro s core q id pos p a b hfree hroom hp ha hb z
    have hid : p.id = id := by simpa using List.find?_some hp
    refine ⟨fun hw => ⟨fun e he => ?_, fun cs hcs => ?_⟩, fun hw => ?_⟩
    · have heq := startPlanTile_eq (s := z) (site := core.s) hp ha hb
      rw [he] at heq
      exact congrArg Host.Outcome.next ((workRequest_serves hfree hroom hw).trans heq)
    · have heq := startPlanTile_eq (s := z) (site := core.s) hp ha hb
      rw [hcs] at heq
      intro v
      obtain ⟨hplan, hpos, hcmds⟩ := tileLease_names v p core.c pos cs
      obtain ⟨hstate, t, ht, hof⟩ := startTask_starts v core.c core.s p.cl (v.tileLease p core.c pos cs)
      exact ⟨_, t, congrArg Host.Outcome.next ((workRequest_serves hfree hroom hw).trans heq), rfl, hstate, ht,
        (hof.plan.trans hplan).trans (congrArg some hid), hof.pos.trans hpos, hof.cmds.trans hcmds, hof.qcl, hof.cmdIndex⟩
    · intro v
      have heq := startAgain_tile (s := z) (site := core.s) (q := q) hp ha hb
      refine ⟨fun e he => ?_, fun cs hcs => ?_⟩
      · rw [show (z.retaken core.c id pos).tileCmds p core.c pos a.idx b.idx = .error e from he] at heq
        exact congrArg Host.Outcome.next ((workRequest_serves hfree hroom hw).trans heq)
      · rw [show (z.retaken core.c id pos).tileCmds p core.c pos a.idx b.idx = .ok cs from hcs] at heq
        obtain ⟨hplan, hpos, hcmds⟩ := againLease_names v p core.c q id pos cs
        obtain ⟨hstate, t, ht, hof⟩ := startTask_starts (v.cnt16 (kCtx p.ctx 0xE) 1) core.c core.s p.cl
          (v.againLease p core.c q id pos cs)
        refine ⟨_, t, congrArg Host.Outcome.next ((workRequest_serves hfree hroom hw).trans heq), hstate, ht,
          (hof.plan.trans hplan).trans (congrArg some hid), hof.pos.trans hpos, hof.cmds.trans hcmds, hof.qcl, fun l hl hq => ?_⟩
        subst hq
        obtain ⟨hseq, hstep, hkey⟩ := againLease_own cs hid hl
        exact ⟨hof.leaseSeq.trans hseq, hof.step.trans hstep, hof.key.trans hkey⟩
  · intro s core q plan st rest head cmds lv hfree hroom hw hst v hhead hcmds hlv l old
    have hresume := resumeTask_eq (s := s.noteServed core.c q) (site := core.s) hhead hcmds hlv
    have hserve := (savedResume_serves (site := core.s) hfree hroom hst hw).trans hresume
    refine ⟨fun hnone hcodes => ?_, fun hnew => ?_⟩
    · have hstale : (old.isNone && !(v.boundCodes l.desc).isEmpty) = true := by
        rw [hnone]
        simpa using hcodes
      exact congrArg Host.Outcome.next (hserve.trans (if_pos hstale))
    · intro w
      have hno : ¬(old.isNone && !(v.boundCodes l.desc).isEmpty) = true := by
        rcases hnew with h | h
        · simp [Option.isNone_iff_eq_none, Option.isSome_iff_ne_none.1 h]
        · simp [h]
      obtain ⟨hpos, hstep⟩ := resumeLease_names v core.c q st head cmds
      obtain ⟨hstate, t, ht, hdesc, hpos', hseq, hstep', hev, hdups, hcommitted⟩ :=
        startTask_placeTask w core.c core.s (leNat ((head.drop 133).take 1)) l st head lv
      exact ⟨_, t, congrArg Host.Outcome.next (hserve.trans (if_neg hno)), rfl, hstate, ht, hdesc, hpos'.trans hpos, hseq,
        hstep'.trans hstep, hev, hdups, hcommitted⟩

end Sys2Proof.Machine
end

section
/-! PROOFS. Seed keys and step counters (R401, R403 to R406). -/

namespace Sys2Proof.Machine

open Sys2Proof.Claims

/-! ### Keys of a context's random-bit objects (R406) -/

theorem kSeed_ne (c : Nat) {i j : Nat} (h : i ≠ j) : kSeed c i ≠ kSeed c j := fun e => h (Nat.add_left_cancel e)

/-! ### Seed keys (R401, R403) -/

theorem ctx_setObj (s : State) (k v c : Nat) : (s.setObj k v).ctx c = s.ctx c := rfl

theorem ctx_modCtx_same (s : State) (c : Nat) (f : Ctx → Ctx) : (s.modCtx c f).ctx c = f (s.ctx c) := nget_nmod_same ..

theorem ctx_modCtx_ne (s : State) {b c : Nat} (h : b ≠ c) (f : Ctx → Ctx) : (s.modCtx c f).ctx b = s.ctx b := nget_nmod_ne _ _ h f

section
variable (s : State) (c slot : Nat) (key : BitVec 256)

/-- The slot of the context holds the key; no object tells of it yet. -/
def State.fillSlot : State := s.modCtx c fun x => { x with keys := x.keys.set slot (some key) }

/-- KEY_VALID and the slot's KEY_CHECK follow a key (R401, R406). -/
theorem putKey_some : s.putKey c slot (some key) =
    ((s.fillSlot c slot key).setObj (kSeed c 8) (keyValid ((s.fillSlot c slot key).ctx c).keys)).setObj
      (kSeed c (0x18 + slot)) (keyCheck key).toNat := rfl

theorem ctx_putKey (b : Nat) : (s.putKey c slot (some key)).ctx b = (s.fillSlot c slot key).ctx b := by
  rw [putKey_some, ctx_setObj, ctx_setObj]

theorem ctx_putKey_same :
    (s.putKey c slot (some key)).ctx c = { s.ctx c with keys := (s.ctx c).keys.set slot (some key) } :=
  (ctx_putKey s c slot key c).trans (ctx_modCtx_same s c _)

theorem ctx_putKey_ne {b : Nat} (h : b ≠ c) : (s.putKey c slot (some key)).ctx b = s.ctx b :=
  (ctx_putKey s c slot key b).trans (ctx_modCtx_ne s h _)

theorem putKey_objsAre : ObjsAre s (s.putKey c slot (some key))
    [(kSeed c 8, keyValid ((s.putKey c slot (some key)).ctx c).keys), (kSeed c (0x18 + slot), (keyCheck key).toNat)] := by
  rw [ctx_putKey, putKey_some]
  exact (setObj_setObj_objWrite (s.fillSlot c slot key) (kSeed_ne c (by omega)) _ _).2

theorem putKey_rest : s.putKey c slot (some key) =
    { s with objs := (s.putKey c slot (some key)).objs, disp := (s.putKey c slot (some key)).disp } := by
  rw [putKey_some, State.setObj, State.setObj, State.fillSlot, State.modCtx]

end

theorem writeKey_free {s : State} {c slot : Nat} (h : s.slotInUse c slot = false) (key : BitVec 256) :
    written (s.writeKey c slot key) = s.putKey c slot (some key) := by simp [State.writeKey, h, written]

theorem writeKey_inUse {s : State} {c slot : Nat} (h : s.slotInUse c slot = true) (key : BitVec 256) :
    written (s.writeKey c slot key) = s.emit (.refused stState) := by simp [State.writeKey, h, written, stState, stOk]

/-! ### Step counters (R404, R405) -/

theorem advanceStep_below {s : State} {c : Nat} (h : s.stepNow c ≠ 2 ^ 64 - 1) :
    s.advanceStep c = s.setObj (kSeed c 4) (s.stepNow c + 1) := if_neg h

theorem advanceStep_top {s : State} {c : Nat} (h : s.stepNow c = 2 ^ 64 - 1) :
    s.advanceStep c = (s.setObj (kSeed c 6) 1).event 0x30 2 c 0 0 := if_pos h

/-- A write of the step counter clears STEP_SATURATED unless it is of the limit (R405). -/
theorem setStep_objWrite (s : State) (c v : Nat) :
    ObjWrite s (s.setStep c v) [(kSeed c 4, v), (kSeed c 6, if v < 2 ^ 64 - 1 then 0 else s.obj (kSeed c 6))] := by
  rw [State.setStep, stepTop]
  split
  · exact setObj_setObj_objWrite s (kSeed_ne c (by decide)) v 0
  · exact setObj_objWrite_kept s (kSeed c 4) (kSeed c 6) v

/-- Settles O31: a key by whether its slot is in use, an advance by whether the counter is at its limit, a write of the counter by
`setStep_objWrite`. -/
theorem seedKeysAndStepCounters : Obligations.SeedKeysAndStepCounters := by
  refine ⟨fun s ctx slot key hfree => ?_, fun s ctx slot key huse => ?_, fun _ _ => rfl, fun s ctx hbelow => ?_,
    fun s ctx htop => ?_, fun s ctx v => ?_⟩
  · exact ⟨_, congrArg Host.Outcome.next (writeKey_free hfree key), putKey_rest .., ctx_putKey_same ..,
      fun _ hc => ctx_putKey_ne s ctx slot key hc, putKey_objsAre s ctx slot key⟩
  · exact congrArg Host.Outcome.next (writeKey_inUse huse key)
  · exact ⟨_, congrArg Host.Outcome.next (advanceStep_below hbelow), setObj_objWrite ..⟩
  · exact congrArg Host.Outcome.next (advanceStep_top htop)
  · exact ⟨_, rfl, setStep_objWrite s ctx v.toNat⟩

end Sys2Proof.Machine
end

section
/-! PROOFS. Every step keeps memory and the sidecar in canonical form (R429, R430). -/

namespace Sys2Proof.Machine

open Sys2Proof.Claims

/-- What keeps the canonical forms keeps the invariant. -/
theorem Keeps.inv {s t : State} (h : Keeps s t) (hs : Inv s) : Inv t := ⟨h.mem hs.mem, h.side hs.side⟩

/-- Settles O59: an idle period keeps the forms by `State.idle_keeps`, a command by `exec_keeps`, and the queue is no part of them. -/
theorem stepKeepsTheInvariant : Obligations.StepKeepsTheInvariant := by
  intro s t hs e
  rw [step] at e
  cases hp : s.pending with
  | nil =>
    rw [hp] at e
    cases e
    exact (State.idle_keeps (.refl s)).inv hs
  | cons c r =>
    rw [hp] at e
    exact (exec_keeps e).inv ⟨hs.mem, hs.side⟩

end Sys2Proof.Machine
end

section
/-! PROOFS. What an event leaves alone, and objects by index and subindex (R683 to R687). -/

namespace Sys2Proof.Machine

/-! ### What an event leaves of the module -/

section
variable (s : State) (code sev ctx p0 p1 time : Nat)

theorem NoticeOnly.eq {s u : State} (h : NoticeOnly s u) :
    u = { s with objs := u.objs, patrol := u.patrol, host := u.host, out := u.out } := by
  obtain ⟨_, _, _, _, rfl⟩ := h
  rfl

@[simp] theorem event_mem : (s.event code sev ctx p0 p1).mem = s.mem := (event_noticeOnly ..).mem
@[simp] theorem event_cores : (s.event code sev ctx p0 p1).cores = s.cores := (event_noticeOnly ..).cores
@[simp] theorem event_side : (s.event code sev ctx p0 p1).side = s.side := by rw [(event_noticeOnly s code sev ctx p0 p1).eq]
@[simp] theorem event_mctl : (s.event code sev ctx p0 p1).mctl = s.mctl := by rw [(event_noticeOnly s code sev ctx p0 p1).eq]

@[simp] theorem event_byte (a : Nat) : (s.event code sev ctx p0 p1).byte a = s.byte a := by
  rw [State.byte, event_mem, State.byte]

/-- An event writes objects of the log and of the port alone (R683 to R686). -/
theorem event_obj {k : Nat} (h : k / 256 ≠ 0x4000 ∧ k / 256 ≠ 0x1010) : (s.event code sev ctx p0 p1).obj k = s.obj k :=
  (event_logsOnly ..).objs k h.1 h.2

end

/-- A part of the state that every step of a run keeps, each for the elements that the run goes over, is kept by the run. -/
theorem foldl_keeps_on {β γ : Type} (p : State → γ) (l : List β) {f : State → β → State}
    (hf : ∀ x ∈ l, ∀ s, p (f s x) = p s) (s : State) : p (l.foldl f s) = p s := by
  induction l generalizing s with
  | nil => rfl
  | cons x l ih => exact (ih (fun y hy => hf y (List.mem_cons_of_mem _ hy)) _).trans (hf x List.mem_cons_self s)

/-- Nothing but objects differs. -/
def ObjsOnly (s u : State) : Prop := ∃ ob, u = { s with objs := ob }

theorem ObjsOnly.refl (s : State) : ObjsOnly s s := ⟨_, rfl⟩

theorem ObjsOnly.trans {s u v : State} (h : ObjsOnly s u) (k : ObjsOnly u v) : ObjsOnly s v := by
  obtain ⟨_, rfl⟩ := h
  obtain ⟨_, rfl⟩ := k
  exact ⟨_, rfl⟩

theorem setObj_objsOnly (s : State) (k v : Nat) : ObjsOnly s (s.setObj k v) := ⟨_, rfl⟩

theorem ObjsOnly.foldl {β : Type} {f : State → β → State} (hf : ∀ s x, ObjsOnly s (f s x)) (s : State) (l : List β) :
    ObjsOnly s (l.foldl f s) := by
  induction l generalizing s with
  | nil => exact .refl s
  | cons x l ih => exact (hf s x).trans (ih _)

theorem ObjsOnly.eq {s u : State} (h : ObjsOnly s u) : u = { s with objs := u.objs } := by
  obtain ⟨_, rfl⟩ := h
  rfl

/-- A read of a store after the removal of keys. -/
theorem nget_nfilterOut {α : Type} (d : α) (p : Nat → Bool) (m : NMap α) (k : Nat) :
    nget d (nfilterOut p m) k = if p k then d else nget d m k := by
  induction m with
  | nil => simp [nfilterOut]
  | cons x m ih =>
    obtain ⟨j, v⟩ := x
    simp only [nfilterOut, List.filter_cons] at ih ⊢
    by_cases hj : p j = true
    · rw [if_neg (by simpa using hj), ih]
      split
      · rfl
      · next hk => rw [nget, if_neg (fun h => hk (by rwa [← h]))]
    · rw [if_pos (by simpa using hj), nget, ih]
      split
      · next h => rw [← h, if_neg hj, nget, if_pos rfl]
      · next h => rw [nget, if_neg h]

/-! ### Keys of objects -/

@[simp] theorem kDev_div {idx sub : Nat} (h : sub < 256) : kDev idx sub / 256 = idx := by
  unfold kDev objKey
  omega

theorem kDev_inj {i j a b : Nat} (ha : a < 256) (hb : b < 256) : kDev i a = kDev j b ↔ i = j ∧ a = b := by
  unfold kDev objKey
  omega

/-- An object read after a count of another one. -/
theorem obj_cnt16_ne (s : State) {j k : Nat} (h : j ≠ k) (n : Nat) : (s.cnt16 k n).obj j = s.obj j := State.obj_setObj_ne s h _

theorem obj_cnt16_same (s : State) (k n : Nat) : (s.cnt16 k n).obj k = satAdd16 (s.obj k) n := State.obj_setObj_same ..

end Sys2Proof.Machine
end

section
/-! PROOFS. The memory controllers: counted errors, the scrub, and blocks that are retired into spares (R435 to R439, R605, R606),
and the errors that come below the commands (R426, R443, R450, R535, R599). -/

namespace Sys2Proof.Machine

open Sys2Proof.Claims

/-! ### A block is poisoned (R436, R605) -/

theorem sideState_poisoned (e : Nat) :
    sideState (e % 2 ^ 222 + at' 2 223 222 + at' (fld e 255 224) 255 224) = 2 := by
  simp only [sideState, fld, at', Nat.shiftRight_eq_div_pow, Nat.shiftLeft_eq]
  omega

/-- Poisoning a block writes its entry, in state POISONED, and nothing else. -/
theorem poison_eq (s : State) (b : Nat) : ∃ e, s.poison b = s.setSide b e ∧ sideState e = 2 := by
  dsimp only [State.poison]
  split
  · exact ⟨_, rfl, by decide +kernel⟩
  · exact ⟨_, rfl, sideState_poisoned _⟩

theorem poison_side_only (s : State) (b : Nat) : s.poison b = { s with side := (s.poison b).side } := by
  obtain ⟨e, h, -⟩ := poison_eq s b
  rw [h, State.setSide]

theorem poison_state (s : State) (b : Nat) : sideState ((s.poison b).sideOf b) = 2 := by
  obtain ⟨e, h, he⟩ := poison_eq s b
  rw [h, State.sideOf_setSide, if_pos rfl, he]

theorem poison_sideOf_ne (s : State) {b k : Nat} (hk : k ≠ b) : (s.poison b).sideOf k = s.sideOf k := by
  obtain ⟨e, h, -⟩ := poison_eq s b
  rw [h, State.sideOf_setSide, if_neg hk]

@[simp] theorem poison_mctl (s : State) (b : Nat) : (s.poison b).mctl = s.mctl := by rw [poison_side_only]
@[simp] theorem poison_cores (s : State) (b : Nat) : (s.poison b).cores = s.cores := by rw [poison_side_only]
@[simp] theorem poison_mem (s : State) (b : Nat) : (s.poison b).mem = s.mem := by rw [poison_side_only]

@[simp] theorem poison_obj (s : State) (b k : Nat) : (s.poison b).obj k = s.obj k := by
  rw [poison_side_only]
  rfl

/-! ### A block is retired (R438, R439) -/

section
variable (s : State) (unit q : Nat) (bad : Bool)

/-- The content of a block that cannot be read is given up: its entry says so, and its spare receives zeros (R438). -/
def State.blockLost : State := (s.poison (blockOf unit q)).put (blockOf unit q * 4096) (List.replicate 4096 0)

@[simp] theorem blockLost_obj (k : Nat) : (s.blockLost unit q).obj k = s.obj k := by
  rw [State.blockLost, State.obj_put, poison_obj]

@[simp] theorem blockLost_cores : (s.blockLost unit q).cores = s.cores := by rw [State.blockLost, State.put_cores, poison_cores]
@[simp] theorem blockLost_mctl : (s.blockLost unit q).mctl = s.mctl := by rw [State.blockLost, State.put_mctl, poison_mctl]
@[simp] theorem blockLost_side : (s.blockLost unit q).side = (s.poison (blockOf unit q)).side := by
  rw [State.blockLost, State.put_side]
theorem blockLost_mem :
    (s.blockLost unit q).mem = nsetRun 0 s.mem (blockOf unit q * 4096) (List.replicate 4096 0) := by
  rw [State.blockLost, State.put, poison_mem]

/-- A spare block takes the place of a block: the counts of the unit and the controllers' tables (R438). -/
def State.spareTaken : State :=
  { (s.setObj (kDev (unitIdx unit) 8) (s.obj (kDev (unitIdx unit) 8) - 1)).cnt16 (kDev (unitIdx unit) 7) 1 with mctl := { s.mctl with
      retired := nset 29696 s.mctl.retired (retKey unit q) (spares unit - s.obj (kDev (unitIdx unit) 8)),
      ceCount := nset 0 s.mctl.ceCount (retKey unit q) 0 } }

@[simp] theorem spareTaken_cores : (s.spareTaken unit q).cores = s.cores := by rw [State.spareTaken]; rfl
@[simp] theorem spareTaken_side : (s.spareTaken unit q).side = s.side := by rw [State.spareTaken]; rfl
@[simp] theorem spareTaken_mem : (s.spareTaken unit q).mem = s.mem := by rw [State.spareTaken]; rfl

theorem retire_exhausted (h : s.obj (kDev (unitIdx unit) 8) = 0) :
    s.retire unit q bad = (if bad then s.poison (blockOf unit q) else s).exhausted unit := by
  cases bad <;> simp [State.retire, h]

theorem retire_good (h : s.obj (kDev (unitIdx unit) 8) ≠ 0) :
    s.retire unit q false = if s.obj (kDev (unitIdx unit) 8) = 1 then (s.spareTaken unit q).exhausted unit
      else s.spareTaken unit q := by
  simp only [State.retire, Bool.false_eq_true, if_false, if_neg h]
  rfl

theorem retire_bad (h : s.obj (kDev (unitIdx unit) 8) ≠ 0) :
    s.retire unit q true = (s.blockLost unit q).retire unit q false := by
  simp only [State.retire, Bool.false_eq_true, if_false, if_true, poison_obj, blockLost_obj, if_neg h]
  rw [State.blockLost]

/-- A part of the state that DEGRADED and its event do not touch, after a retirement. -/
theorem retire_part {γ : Type} (p : State → γ) (hp : ∀ u : State, p (u.exhausted unit) = p u) :
    p (s.retire unit q bad) =
      if s.obj (kDev (unitIdx unit) 8) = 0 then p (if bad then s.poison (blockOf unit q) else s)
      else p ((if bad then s.blockLost unit q else s).spareTaken unit q) := by
  have hgood : ∀ v : State, v.obj (kDev (unitIdx unit) 8) ≠ 0 → p (v.retire unit q false) = p (v.spareTaken unit q) := by
    intro v hv
    rw [retire_good v unit q hv]
    split
    · exact hp _
    · rfl
  split
  · next h => rw [retire_exhausted s unit q bad h, hp]
  · next h =>
    cases bad
    · exact hgood s h
    · rw [retire_bad s unit q h]
      exact hgood _ (by rwa [blockLost_obj])

theorem retire_cores : (s.retire unit q bad).cores = s.cores := by
  rw [retire_part s unit q bad State.cores (fun _ => event_cores ..)]
  cases bad <;> simp

theorem retire_side : (s.retire unit q bad).side = if bad then (s.poison (blockOf unit q)).side else s.side := by
  rw [retire_part s unit q bad State.side (fun _ => event_side ..)]
  cases bad <;> simp

theorem retire_mem : (s.retire unit q bad).mem = if bad = true ∧ s.obj (kDev (unitIdx unit) 8) ≠ 0 then
    nsetRun 0 s.mem (blockOf unit q * 4096) (List.replicate 4096 0) else s.mem := by
  rw [retire_part s unit q bad State.mem (fun _ => event_mem ..)]
  cases bad
  · simp
  · simp only [if_true, true_and, ite_not, spareTaken_mem, poison_mem, blockLost_mem]

theorem retire_mctl : (s.retire unit q bad).mctl = if s.obj (kDev (unitIdx unit) 8) = 0 then s.mctl else { s.mctl with
    retired := nset 29696 s.mctl.retired (retKey unit q) (spares unit - s.obj (kDev (unitIdx unit) 8)),
    ceCount := nset 0 s.mctl.ceCount (retKey unit q) 0 } := by
  rw [retire_part s unit q bad State.mctl (fun _ => event_mctl ..)]
  cases bad
  · rfl
  · rw [if_pos rfl, if_pos rfl, poison_mctl, State.spareTaken, blockLost_mctl, blockLost_obj]

end

/-! ### Objects of a unit -/

theorem unitIdx_not_log (unit : Nat) : unitIdx unit ≠ 0x4000 ∧ unitIdx unit ≠ 0x1010 := by
  unfold unitIdx
  split <;> omega

theorem exhausted_obj_ne (s : State) {unit k : Nat} (hk : k ≠ kDev (unitIdx unit) 1) (hlog : k / 256 ≠ 0x4000 ∧ k / 256 ≠ 0x1010) :
    (s.exhausted unit).obj k = s.obj k := (event_obj _ _ _ _ _ _ hlog).trans (State.obj_setObj_ne s hk 2)

theorem exhausted_state (s : State) (unit : Nat) : (s.exhausted unit).obj (kDev (unitIdx unit) 1) = 2 := by
  rw [State.exhausted, event_obj, State.obj_setObj_same]
  rw [kDev_div (by omega)]
  exact unitIdx_not_log unit

/-- The objects of a unit beside its state, after a retirement: one spare less, and one block more that is retired (R438). -/
theorem retire_obj (s : State) (unit q : Nat) (bad : Bool) {k : Nat} (hk : k ≠ kDev (unitIdx unit) 1)
    (hlog : k / 256 ≠ 0x4000 ∧ k / 256 ≠ 0x1010) : (s.retire unit q bad).obj k =
      if s.obj (kDev (unitIdx unit) 8) = 0 then s.obj k
      else if k = kDev (unitIdx unit) 8 then s.obj k - 1
      else if k = kDev (unitIdx unit) 7 then satAdd16 (s.obj k) 1 else s.obj k := by
  have h78 : kDev (unitIdx unit) 7 ≠ kDev (unitIdx unit) 8 := by unfold kDev objKey; omega
  have hlost : ∀ j, (if bad then s.blockLost unit q else s).obj j = s.obj j := fun j => by
    cases bad <;> simp
  have htaken : ∀ (v : State), (v.spareTaken unit q).obj k = if k = kDev (unitIdx unit) 8 then v.obj k - 1
      else if k = kDev (unitIdx unit) 7 then satAdd16 (v.obj k) 1 else v.obj k := fun v => by
    have hv : (v.spareTaken unit q).obj k = ((v.setObj (kDev (unitIdx unit) 8) (v.obj (kDev (unitIdx unit) 8) - 1)).cnt16
      (kDev (unitIdx unit) 7) 1).obj k := rfl
    rw [hv]
    by_cases h7 : k = kDev (unitIdx unit) 7
    · subst h7
      rw [obj_cnt16_same, State.obj_setObj_ne _ h78, if_neg h78, if_pos rfl]
    · rw [obj_cnt16_ne _ h7, State.obj_setObj, if_neg h7]
      split
      · next h8 => rw [h8]
      · rfl
  rw [retire_part s unit q bad (fun u => u.obj k) (fun u => exhausted_obj_ne u hk hlog), htaken, hlost]
  split
  · cases bad <;> simp
  · rfl

/-- A unit whose last spare block is taken, or that had none, reads DEGRADED (R439). -/
theorem retire_state (s : State) (unit q : Nat) (bad : Bool) (h : s.obj (kDev (unitIdx unit) 8) ≤ 1) :
    (s.retire unit q bad).obj (kDev (unitIdx unit) 1) = 2 := by
  have hgood : ∀ v : State, v.obj (kDev (unitIdx unit) 8) = 1 → (v.retire unit q false).obj (kDev (unitIdx unit) 1) = 2 := by
    intro v hv
    rw [retire_good v unit q (by omega), if_pos hv, exhausted_state]
  by_cases h0 : s.obj (kDev (unitIdx unit) 8) = 0
  · rw [retire_exhausted s unit q bad h0, exhausted_state]
  · cases bad
    · exact hgood s (by omega)
    · rw [retire_bad s unit q h0]
      exact hgood _ (by rw [blockLost_obj]; omega)

/-! ### What retirement leaves of memory and the sidecar -/

section
variable (s : State) (unit q : Nat)

theorem retire_poisons : sideState ((s.retire unit q true).sideOf (blockOf unit q)) = 2 := by
  rw [State.sideOf, retire_side, if_pos rfl]
  exact poison_state s _

theorem retire_sideOf_ne {k : Nat} (hk : k ≠ blockOf unit q) : (s.retire unit q true).sideOf k = s.sideOf k := by
  rw [State.sideOf, retire_side, if_pos rfl]
  exact poison_sideOf_ne s hk

theorem retire_bytesOutside : BytesOutside s (s.retire unit q true) (blockOf unit q * 4096) 4096 := by
  intro a ha
  rw [State.byte, retire_mem, State.byte]
  split
  · rw [nget_nsetRun, List.length_replicate, if_neg (by omega)]
  · rfl

theorem retire_zeros (h : s.obj (kDev (unitIdx unit) 8) ≠ 0) {i : Nat} (hi : i < 4096) :
    (s.retire unit q true).byte (blockOf unit q * 4096 + i) = 0 := by
  rw [State.byte, retire_mem, if_pos ⟨rfl, h⟩, nget_nsetRun, List.length_replicate, if_pos (by omega), Nat.add_sub_cancel_left,
    List.getD_eq_getElem?_getD, List.getElem?_replicate, if_pos hi, Option.getD_some]

theorem retire_bytesStay {bad : Bool} (h : bad = false ∨ s.obj (kDev (unitIdx unit) 8) = 0) : BytesStay s (s.retire unit q bad) := by
  intro a
  rw [State.byte, retire_mem, if_neg (fun hc => h.elim (by simp [hc.1]) hc.2), State.byte]

end

/-- The counts of a unit after a retirement, of its spare blocks and of its retired ones (R438). -/
theorem retire_counts (s : State) (unit q : Nat) (bad : Bool) :
    (s.retire unit q bad).obj (kDev (unitIdx unit) 8) = s.obj (kDev (unitIdx unit) 8) - 1 ∧
    (s.retire unit q bad).obj (kDev (unitIdx unit) 7) = (if s.obj (kDev (unitIdx unit) 8) = 0 then s.obj (kDev (unitIdx unit) 7)
      else satAdd16 (s.obj (kDev (unitIdx unit) 7)) 1) := by
  have hkey : ∀ {j}, j < 256 → kDev (unitIdx unit) j / 256 ≠ 0x4000 ∧ kDev (unitIdx unit) j / 256 ≠ 0x1010 := fun hj => by
    rw [kDev_div hj]
    exact unitIdx_not_log unit
  have hne : ∀ {i j}, i < 256 → j < 256 → i ≠ j → kDev (unitIdx unit) i ≠ kDev (unitIdx unit) j := fun hi hj h =>
    fun he => h ((kDev_inj hi hj).1 he).2
  constructor
  · rw [retire_obj s unit q bad (hne (by omega) (by omega) (by omega)) (hkey (by omega)), if_pos rfl]
    split
    · omega
    · rfl
  · rw [retire_obj s unit q bad (hne (by omega) (by omega) (by omega)) (hkey (by omega)),
      if_neg (hne (by omega) (by omega) (by omega)), if_pos rfl]

/-! ### Writes leave cores and most objects alone -/

/-- A write of memory counts bytes in a subindex 3, and writes no other object (R450). -/
theorem write_obj {k : Nat} (h : k % 256 ≠ 3) (s : State) (pa : Nat) (bs : List Byte) : (s.write pa bs).obj k = s.obj k := by
  have hcount : ∀ v : State, (v.countWr pa bs.length).obj k = v.obj k := fun v => by
    refine foldl_keeps_part (fun v => v.obj k) (fun v p => ?_) v _
    split
    · exact State.obj_setObj_ne v (by unfold kDev objKey; omega) _
    · rfl
  have hland : ∀ v : State, (v.unland pa bs.length).obj k = v.obj k := fun v => by
    refine foldl_keeps_part (fun v => v.obj k) (fun v p => ?_) v _
    dsimp only
    split
    · split <;> rfl
    · rfl
  have hseal : ∀ v : State, (v.unsealRange pa bs.length).obj k = v.obj k := fun v => by
    refine foldl_keeps_part (fun v => v.obj k) (fun v p => ?_) v _
    split
    · unfold State.unseal
      split
      · rfl
      · rw [State.obj_tick, State.obj, State.setSide_objs, State.obj]
    · rfl
  rw [State.write, hcount, hland, hseal, State.obj_put]

theorem writePieces_obj {k : Nat} (h : k % 256 ≠ 3) (s : State) (ps : List (Nat × Nat)) (bs : List Byte) :
    (writePieces s ps bs).obj k = s.obj k := by
  induction ps generalizing s bs with
  | nil => rfl
  | cons p ps ih => exact (ih _ _).trans (write_obj h s p.1 _)

theorem tryWriteVa_obj {k : Nat} (h : k % 256 ≠ 3) (s : State) (acc : Acc) (va : Nat) (bs : List Byte) :
    (s.tryWriteVa acc va bs).obj k = s.obj k := by
  unfold State.tryWriteVa State.writeVa
  split
  · rfl
  · next hw =>
    split at hw
    · cases hw
    · cases hw
      exact writePieces_obj h ..

theorem tryWriteVa_cores (s : State) (acc : Acc) (va : Nat) (bs : List Byte) : (s.tryWriteVa acc va bs).cores = s.cores := by
  unfold State.tryWriteVa
  split
  · rfl
  · next h => exact congrArg Prod.fst (writeVa_coresDisp h)

/-! ### What a cancelled reduction leaves alone (R106, R436) -/

/-- A part of the state that neither a byte of memory, a free value, a table, a reduction's record nor the adders' counts of open
reductions touch, and no write of virtual memory, is kept by a cancel. -/
theorem cancelRed_part {γ : Type} (p : State → γ)
    (hp : ∀ (s : State) m fr re ch, p { s with mem := m, free := fr, reds := re, chair := ch } = p s)
    (hwrite : ∀ (s : State) acc va bs, p (s.tryWriteVa acc va bs) = p s)
    (hopen : ∀ (s : State) i v, i < 16 → p (s.setObj (kDev (0x7400 + i) 6) v) = p s) (s : State) (c id : Nat) :
    p (s.cancelRed c id) = p s := by
  have hloose : ∀ (v : State) (r : Reduction) k, p (v.looseBlock r k) = p v := fun v r k => by
    unfold State.looseBlock
    split
    · exact foldl_keeps_part p (fun v x => hp v _ _ v.reds v.chair) v _
    · rfl
  have hchair : ∀ (v : State) tag, p (v.unrefTable tag) = p v := fun v tag => by
    obtain ⟨ch, h⟩ := unrefTable_chair_only v tag
    rw [h]
    exact hp v v.mem v.free v.reds ch
  have hcount : ∀ v : State, p v.countOpen = p v := fun v =>
    foldl_keeps_on p _ (fun i hi v => hopen v i _ (List.mem_range.1 hi)) v
  unfold State.cancelRed
  split
  · rfl
  · next r _ =>
    split
    · exact hp s s.mem s.free _ s.chair
    · dsimp only
      rw [hcount, hchair]
      refine (hp _ _ _ _ _).trans ?_
      refine (foldl_keeps_part p (fun v k => hwrite v _ _ _) _ _).trans ?_
      refine foldl_keeps_part p (fun v k => ?_) s _
      split
      · rfl
      · exact hloose ..
    · rfl

theorem cancelRed_cores (s : State) (c id : Nat) : (s.cancelRed c id).cores = s.cores :=
  cancelRed_part State.cores (fun _ _ _ _ _ => rfl) tryWriteVa_cores (fun _ _ _ _ => rfl) s c id

theorem cancelRed_obj {k : Nat} (h3 : k % 256 ≠ 3) (hadder : k / 256 < 0x7400 ∨ 0x7410 ≤ k / 256) (s : State) (c id : Nat) :
    (s.cancelRed c id).obj k = s.obj k :=
  cancelRed_part (fun s => s.obj k) (fun _ _ _ _ _ => rfl) (tryWriteVa_obj h3)
    (fun s i v hi => State.obj_setObj_ne s (by unfold kDev objKey; omega) v) s c id

/-! ### A word of a unit that is read with an error (R435, R436, R438) -/

section
variable {s : State} {unit word q k : Nat}

/-- A corrected error is counted against its block. -/
def State.errorCounted (s : State) (unit q : Nat) : State :=
  { s with mctl := { s.mctl with ceCount := nset 0 s.mctl.ceCount (retKey unit q) (nget 0 s.mctl.ceCount (retKey unit q) + 1) } }

theorem ceCount_errorCounted (s : State) (unit q : Nat) : nget 0 (s.errorCounted unit q).mctl.ceCount (retKey unit q) =
    nget 0 s.mctl.ceCount (retKey unit q) + 1 := by
  rw [State.errorCounted, nget_nset_same]

theorem correctedAt_below (h : nget 0 s.mctl.ceCount (retKey unit q) + 1 < s.obj (kDev 0x7300 3)) :
    s.correctedAt unit q = s.errorCounted unit q := if_neg (Nat.not_le.2 h)

theorem correctedAt_reaches (h : s.obj (kDev 0x7300 3) ≤ nget 0 s.mctl.ceCount (retKey unit q) + 1) :
    s.correctedAt unit q = (s.errorCounted unit q).retire unit q false := if_pos h

theorem eccAt_corrected_data (hp : placeOf unit (word * 64) = .data q) :
    s.eccAt unit word .corrected = (s.cnt16 (kDev (unitIdx unit) 5) 1).correctedAt unit q := by
  simp only [State.eccAt, hp]

theorem eccAt_corrected_spare (hp : placeOf unit (word * 64) = .spare k) (hs : s.servedBy unit k = some q) :
    s.eccAt unit word .corrected = (s.cnt16 (kDev (unitIdx unit) 5) 1).correctedAt unit q := by
  have hs' : (s.cnt16 (kDev (unitIdx unit) 5) 1).servedBy unit k = some q := hs
  simp only [State.eccAt, hp, hs', Option.map_some, Option.getD_some]

theorem eccAt_uncorrectable_data (hp : placeOf unit (word * 64) = .data q) : s.eccAt unit word .uncorrectable =
    (((s.cnt16 (kDev (unitIdx unit) 6) 1).event 0x2A 2 0xFF (blockOf unit q * 4096) 0).retire unit q true) := by
  simp only [State.eccAt, hp, State.uncorrectableAt]

theorem wordExists_iff : wordExists unit word = true ↔ word < unitWords unit ∧ ¬(16 ≤ unit ∧ Config.lpddrPresent ≤ unit - 16) := by
  simp only [wordExists, Bool.and_eq_true, Bool.or_eq_true, decide_eq_true_eq]
  omega

theorem scrub_inside (hw : wordExists unit word = true) (hl : word + 1 ≠ unitWords unit) (e : EccResult) :
    s.scrub unit word e = s.eccAt unit word e := by rw [State.scrub, if_pos hw, State.passEnd, if_pos hl]

theorem scrub_nothing (hw : wordExists unit word = false) (e : EccResult) : s.scrub unit word e = s := by
  rw [State.scrub, hw]
  exact if_neg Bool.false_ne_true

end

/-! ### What an error leaves of the cores and of a unit's counts of errors -/

/-- The cores and the counts of corrected and uncorrectable errors of a unit (R450). -/
def State.eccPart (unit : Nat) (s : State) : NMap CoreSt × Nat × Nat :=
  (s.cores, s.obj (kDev (unitIdx unit) 5), s.obj (kDev (unitIdx unit) 6))

section
variable (s : State) {unit : Nat}

theorem eccPart_eq {s u : State} (hc : u.cores = s.cores)
    (h : ∀ i, i = 5 ∨ i = 6 → u.obj (kDev (unitIdx unit) i) = s.obj (kDev (unitIdx unit) i)) : u.eccPart unit = s.eccPart unit := by
  rw [State.eccPart, hc, h 5 (.inl rfl), h 6 (.inr rfl), State.eccPart]

theorem event_eccPart (code sev ctx p0 p1 : Nat) : (s.event code sev ctx p0 p1).eccPart unit = s.eccPart unit :=
  eccPart_eq (event_cores ..) fun i hi => event_obj _ _ _ _ _ _ (by
    rw [kDev_div (by omega)]
    exact unitIdx_not_log unit)

theorem retire_eccPart (q : Nat) (bad : Bool) : (s.retire unit q bad).eccPart unit = s.eccPart unit :=
  eccPart_eq (retire_cores ..) fun i hi => by
    have hne : ∀ {j}, j = 1 ∨ j = 7 ∨ j = 8 → kDev (unitIdx unit) i ≠ kDev (unitIdx unit) j := fun hj he => by
      have := ((kDev_inj (by omega) (by omega)).1 he).2
      omega
    rw [retire_obj s unit q bad (hne (.inl rfl)) (by
      rw [kDev_div (by omega)]
      exact unitIdx_not_log unit), if_neg (hne (.inr (.inr rfl))), if_neg (hne (.inr (.inl rfl))), ite_self]

theorem correctedAt_eccPart (q : Nat) : (s.correctedAt unit q).eccPart unit = s.eccPart unit := by
  rcases Nat.lt_or_ge (nget 0 s.mctl.ceCount (retKey unit q) + 1) (s.obj (kDev 0x7300 3)) with h | h
  · rw [correctedAt_below h]
    rfl
  · rw [correctedAt_reaches h, retire_eccPart]
    rfl

theorem cancelRed_eccPart (hu : unit < 24) (c id : Nat) : (s.cancelRed c id).eccPart unit = s.eccPart unit :=
  eccPart_eq (cancelRed_cores ..) fun i hi => cancelRed_obj (by unfold kDev objKey; omega) (by
    rw [kDev_div (by omega), unitIdx]
    split <;> omega) s c id

theorem uncorrectableAt_eccPart (hu : unit < 24) (p : Place422) : (s.uncorrectableAt unit p).eccPart unit = s.eccPart unit := by
  cases p with
  | data q => exact (retire_eccPart _ q true).trans (event_eccPart ..)
  | sidecar q => exact event_eccPart s 0x2A 2 0xFF _ 1
  | identity c r =>
    exact (foldl_keeps_part (State.eccPart unit) (fun v (x : Reduction) => cancelRed_eccPart v hu x.ctx x.id) _ _).trans (event_eccPart ..)
  | spare k =>
    dsimp only [State.uncorrectableAt]
    split
    · exact (retire_eccPart _ _ true).trans (event_eccPart ..)
    · exact event_eccPart ..

/-- An error of a word is counted once, in the count of its kind, whatever the word holds (R435, R436, R450). -/
theorem eccAt_eccPart (hu : unit < 24) (word : Nat) (e : EccResult) : (s.eccAt unit word e).eccPart unit =
    (s.cores, if e = .corrected then satAdd16 (s.obj (kDev (unitIdx unit) 5)) 1 else s.obj (kDev (unitIdx unit) 5),
      if e = .uncorrectable then satAdd16 (s.obj (kDev (unitIdx unit) 6)) 1 else s.obj (kDev (unitIdx unit) 6)) := by
  have h56 : kDev (unitIdx unit) 5 ≠ kDev (unitIdx unit) 6 := by unfold kDev objKey; omega
  cases e with
  | clean => rfl
  | corrected =>
    have hpart : (s.eccAt unit word .corrected).eccPart unit = (s.cnt16 (kDev (unitIdx unit) 5) 1).eccPart unit := by
      dsimp only [State.eccAt]
      split
      · exact correctedAt_eccPart ..
      · next k _ =>
        cases (s.cnt16 (kDev (unitIdx unit) 5) 1).servedBy unit k with
        | none => rfl
        | some q => exact correctedAt_eccPart ..
      · rfl
    rw [hpart, State.eccPart, obj_cnt16_same, obj_cnt16_ne s h56.symm]
    rfl
  | uncorrectable =>
    rw [State.eccAt, uncorrectableAt_eccPart _ hu, State.eccPart, obj_cnt16_same, obj_cnt16_ne s h56]
    rfl

theorem eccAt_cores (hu : unit < 24) (word : Nat) (e : EccResult) : (s.eccAt unit word e).cores = s.cores :=
  congrArg Prod.fst (eccAt_eccPart s hu word e)

end

/-! ### The end of a pass (R437) -/

/-- A scrub period of a unit begins: its errors are counted anew (R437, R438). -/
def State.periodBegins (s : State) (unit : Nat) : State :=
  { s with mctl := { s.mctl with ceCount := nfilterOut (fun k => k / 2 ^ 32 = unit) s.mctl.ceCount } }

theorem passEnd_last {unit word : Nat} (h : word + 1 = unitWords unit) (s : State) : s.passEnd unit word =
    if unit = 15 then ((s.periodBegins unit).cnt48 (kDev 0x7300 4) 1).setObj (kDev 0x7300 5) s.timeNs
    else s.periodBegins unit := if_neg (not_not.2 h)

theorem periodBegins_ceCount (s : State) {unit q : Nat} (hq : q < 2 ^ 32) :
    nget 0 (s.periodBegins unit).mctl.ceCount (retKey unit q) = 0 := by
  rw [State.periodBegins, nget_nfilterOut, if_pos (decide_eq_true (by unfold retKey; omega))]

theorem passEnd_objsAre {unit word : Nat} (h : word + 1 = unitWords unit) (s : State) : ObjsAre s (s.passEnd unit word)
    (if unit = 15 then [(kDev 0x7300 4, wrapAdd48 (s.obj (kDev 0x7300 4)) 1), (kDev 0x7300 5, s.timeNs)] else []) := by
  rw [passEnd_last h]
  split
  · exact (setObj_setObj_objWrite (s.periodBegins unit) (by unfold kDev objKey; omega) _ _).2
  · exact fun _ => rfl

theorem passEnd_rest {unit word : Nat} (h : word + 1 = unitWords unit) (s : State) :
    s.passEnd unit word = { s with objs := (s.passEnd unit word).objs, mctl := (s.periodBegins unit).mctl } := by
  rw [passEnd_last h]
  split <;> rfl

/-! ### Errors below the commands (R443, R450, R535, R599) -/

theorem mainUp_of {s : State} (h : 2 ≤ s.moduleState) : s.mainUp = true := decide_eq_true h

theorem readerFails_none (s : State) : s.readerFails none = s := rfl

theorem readerFails_cores_only (s : State) (r : Option CoreId) : ∃ cs, s.readerFails r = { s with cores := cs } := by
  unfold State.readerFails
  split
  · exact ⟨_, rfl⟩
  · split
    · exact ⟨_, rfl⟩
    · exact ⟨_, rfl⟩

/-- A task that reads what cannot be corrected ends with CHECKSUM (R434, R443). -/
theorem readerFails_task {s : State} {c : CoreId} {t : Task} (h : (s.core c.c c.s).task = some t) :
    ((s.readerFails (some c)).core c.c c.s).task = some { t with codes := t.codes ++ [cChecksum], ended := true } := by
  have hfail : s.readerFails (some c) = s.taskFail c.c c.s cChecksum := if_pos (by rw [h]; rfl)
  rw [hfail, State.taskFail, State.core_modCore_same, h]
  rfl

theorem memoryError_corrected {s : State} {unit word : Nat} (hw : wordExists unit word = true) (r : Option CoreId) :
    s.memoryError unit word false r = s.eccAt unit word .corrected := by
  simp [State.memoryError, hw]

theorem memoryError_bad {s : State} {unit word : Nat} (hw : wordExists unit word = true) (r : Option CoreId) :
    s.memoryError unit word true r =
      if s.wordIsData unit word then (s.eccAt unit word .uncorrectable).readerFails r else s.eccAt unit word .uncorrectable := by
  simp [State.memoryError, hw]

theorem memoryError_nowhere {s : State} {unit word : Nat} (hw : wordExists unit word = false) (bad : Bool) (r : Option CoreId) :
    s.memoryError unit word bad r = s := by simp [State.memoryError, hw]

/-- What the Groomer meets and what a read without a task meets is one thing (R435, R436). -/
theorem scrub_eq_memoryError {s : State} {unit word : Nat} (hl : word + 1 ≠ unitWords unit) (r : Option CoreId) :
    s.scrub unit word .corrected = s.memoryError unit word false r ∧
      s.scrub unit word .uncorrectable = s.memoryError unit word true none := by
  cases hw : wordExists unit word
  · rw [scrub_nothing hw, scrub_nothing hw, memoryError_nowhere hw, memoryError_nowhere hw]
    exact ⟨rfl, rfl⟩
  · rw [scrub_inside hw hl, scrub_inside hw hl, memoryError_corrected hw, memoryError_bad hw, readerFails_none, ite_self]
    exact ⟨rfl, rfl⟩

theorem memoryError_task {s : State} {unit word q : Nat} {c : CoreId} {t : Task} (hu : unit < 24) (hw : wordExists unit word = true)
    (hp : placeOf unit (word * 64) = .data q) (ht : (s.core c.c c.s).task = some t) :
    ((s.memoryError unit word true (some c)).core c.c c.s).task =
      some { t with codes := t.codes ++ [cChecksum], ended := true } := by
  rw [memoryError_bad hw, if_pos (by simp only [State.wordIsData, hp])]
  refine readerFails_task ?_
  rwa [State.core, eccAt_cores s hu]

section
variable {s : State} {cl off : Nat}

theorem scrErr_scratchSize (s : State) (cl : Nat) : (s.cnt16 (kCl cl 0x90 6) 1).scratchSize cl = s.scratchSize cl := by
  rw [State.scratchSize, obj_cnt16_ne s (by unfold kCl objKey; omega), State.scratchSize]

theorem scratchError_cache (h : s.scratchSize cl ≤ off) (r : Option CoreId) :
    s.scratchError cl off true r = s.cnt16 (kCl cl 0x90 6) 1 := by
  simp [State.scratchError, scrErr_scratchSize, h]

theorem scratchError_control (h : off < s.scratchSize cl) (hc : inControl off = true) (r : Option CoreId) :
    s.scratchError cl off true r = (s.cnt16 (kCl cl 0x90 6) 1).controlFault cl := by
  simp [State.scratchError, scrErr_scratchSize, Nat.not_le.2 h, hc]

theorem scratchError_read (h : off < s.scratchSize cl) (hc : inControl off = false) (r : Option CoreId) :
    s.scratchError cl off true r = (s.cnt16 (kCl cl 0x90 6) 1).readerFails r := by
  simp [State.scratchError, scrErr_scratchSize, Nat.not_le.2 h, hc]

end

/-! ### The obligation -/

theorem retirePa_outside {s : State} {v : BitVec 64} (h : inData v.toNat = false) : TurnedAway s (.retirePa v) stRange := by
  have : s.retirePa v.toNat = (s, stRange) := by simp [State.retirePa, h]
  exact congrArg (fun r => Host.Outcome.next (written r)) this

theorem retirePa_data {s : State} {v : BitVec 64} (h : inData v.toNat = true) :
    exec (.retirePa v) s = .next (s.retire (unitOf v.toNat) (localBlock v.toNat) true) := by
  have : s.retirePa v.toNat = (s.retire (unitOf v.toNat) (localBlock v.toNat) true, stOk) := by simp [State.retirePa, h]
  exact congrArg (fun r => Host.Outcome.next (written r)) this

section
variable {s : State} {unit word q : Nat}

/-- The threshold of the module and the spare blocks of a unit are not what counts its corrected errors. -/
theorem corrected_count_elsewhere :
    (s.cnt16 (kDev (unitIdx unit) 5) 1).obj (kDev 0x7300 3) = s.obj (kDev 0x7300 3) ∧
      (s.cnt16 (kDev (unitIdx unit) 5) 1).obj (kDev (unitIdx unit) 8) = s.obj (kDev (unitIdx unit) 8) :=
  ⟨obj_cnt16_ne s (by unfold kDev objKey; omega) 1, obj_cnt16_ne s (by unfold kDev objKey; omega) 1⟩

/-- A corrected error below the threshold is counted, in the unit and against its block, and does no more (R435). -/
theorem corrected_below (h : nget 0 s.mctl.ceCount (retKey unit q) + 1 < s.obj (kDev 0x7300 3)) :
    let v := s.cnt16 (kDev (unitIdx unit) 5) 1
    let u := v.correctedAt unit q
    u = { v with mctl := u.mctl } ∧
      nget 0 u.mctl.ceCount (retKey unit q) = nget 0 s.mctl.ceCount (retKey unit q) + 1 ∧ u.mctl.retired = s.mctl.retired := by
  dsimp only
  rw [correctedAt_below (by rw [corrected_count_elsewhere.1]; exact h)]
  exact ⟨rfl, ceCount_errorCounted .., rfl⟩

/-- A corrected error that reaches the threshold retires its block, whose bytes and entry stay (R438, R439). -/
theorem corrected_reaches (h : s.obj (kDev 0x7300 3) ≤ nget 0 s.mctl.ceCount (retKey unit q) + 1) :
    let u := (s.cnt16 (kDev (unitIdx unit) 5) 1).correctedAt unit q
    BytesStay s u ∧ u.side = s.side ∧
      (s.obj (kDev (unitIdx unit) 8) ≠ 0 → u.obj (kDev (unitIdx unit) 8) = s.obj (kDev (unitIdx unit) 8) - 1 ∧
        nget 29696 u.mctl.retired (retKey unit q) = spares unit - s.obj (kDev (unitIdx unit) 8) ∧
        nget 0 u.mctl.ceCount (retKey unit q) = 0) ∧
      (s.obj (kDev (unitIdx unit) 8) ≤ 1 → u.obj (kDev (unitIdx unit) 1) = 2) ∧
      (s.obj (kDev (unitIdx unit) 8) = 0 → u.mctl.retired = s.mctl.retired) := by
  obtain ⟨hthr, hspare⟩ := corrected_count_elsewhere (s := s) (unit := unit)
  dsimp only
  rw [correctedAt_reaches (by rw [hthr]; exact h)]
  generalize hw : (s.cnt16 (kDev (unitIdx unit) 5) 1).errorCounted unit q = w
  have hn : w.obj (kDev (unitIdx unit) 8) = s.obj (kDev (unitIdx unit) 8) := by
    rw [← hw]
    exact hspare
  have hmem : w.mem = s.mem := by
    rw [← hw]
    rfl
  refine ⟨fun a => ?_, ?_, fun h0 => ⟨?_, ?_, ?_⟩, fun h1 => retire_state w unit q false (by omega), fun h0 => ?_⟩
  · rw [retire_bytesStay w unit q (.inl rfl), State.byte, hmem, State.byte]
  · rw [retire_side, if_neg Bool.false_ne_true, ← hw]
    rfl
  · rw [(retire_counts w unit q false).1, hn]
  · rw [retire_mctl, if_neg (by omega), nget_nset_same, hn]
  · rw [retire_mctl, if_neg (by omega), nget_nset_same]
  · rw [retire_mctl, if_pos (by omega), ← hw]
    rfl

end

/-- The Groomer's scrub of any word counts as its error does, and leaves the cores (R435, R436). -/
theorem scrub_eccPart {unit word : Nat} (hu : unit < 24) (hw : wordExists unit word = true) (s : State) (e : EccResult) :
    (s.scrub unit word e).eccPart unit = (s.eccAt unit word e).eccPart unit := by
  rw [State.scrub, if_pos hw]
  by_cases hl : word + 1 = unitWords unit
  · refine eccPart_eq (by rw [passEnd_rest hl]) fun i hi => ?_
    rw [passEnd_objsAre hl, List.find?_eq_none.2, Option.map_none, Option.getD_none]
    intro p hp
    have hidx : unitIdx unit ≠ 0x7300 := by
      unfold unitIdx
      split <;> omega
    split at hp
    · simp only [List.mem_cons, List.not_mem_nil, or_false] at hp
      rcases hp with rfl | rfl
      · simp only [decide_eq_true_eq, kDev_inj (show 4 < 256 by omega) (show i < 256 by omega)]
        omega
      · simp only [decide_eq_true_eq, kDev_inj (show 5 < 256 by omega) (show i < 256 by omega)]
        omega
    · cases hp
  · rw [State.passEnd, if_pos hl]

/-- Settles O49: a retirement is followed through `retire_counts` and `retire_mem`, and an error of a word through `eccAt_eccPart`;
what happens below the commands is one write of a counter, a failed task, or a control fault. -/
theorem blocksAreScrubbedAndRetired : Obligations.BlocksAreScrubbedAndRetired := by
  refine ⟨fun s v h => retirePa_outside h, fun s v h => retirePa_data h, fun s v h => ?_, fun s unit q hu hq hn => ?_,
    fun s unit word hlt hm => ?_, fun s unit word k q hlt hm hp hs hc => ?_, fun s unit word e hw => ?_, fun s unit word hw hl => ?_,
    fun s unit word e hw => ?_, fun s unit word r hup hl => ?_, fun s unit word c q t hup hw hp ht => ?_, fun s cl off r hup => ?_,
    fun s c hup hsite => ?_, fun s unit hup hw => ?_, fun s cl hit hup => ?_, fun s n c w hup hlink => ?_⟩
  · obtain ⟨hspare, hretired⟩ := retire_counts s (unitOf v.toNat) (localBlock v.toNat) true
    exact ⟨_, retirePa_data h, retire_poisons .., fun k hk => retire_sideOf_ne s _ _ hk, retire_bytesOutside s _ _, retire_cores ..,
      hspare, hretired, retire_state _ _ _ _, fun h0 => ⟨retire_bytesStay _ _ _ (.inr h0), by rw [retire_mctl, if_pos h0]⟩⟩
  · obtain ⟨hspare, hretired⟩ := retire_counts s unit q true
    exact ⟨retire_poisons .., fun i hi => retire_zeros s unit q hn hi, retire_bytesOutside s _ _, fun b hb => retire_sideOf_ne s _ _ hb,
      hspare, by rw [hretired, if_neg hn], fun h1 => retire_state s unit q true (by omega)⟩
  · have hw : wordExists unit.val word.toNat = true := wordExists_iff.2 ⟨by omega, hm⟩
    have hl : word.toNat + 1 ≠ unitWords unit.val := by omega
    refine ⟨congrArg Host.Outcome.next (scrub_inside hw hl .clean), fun q hp => ⟨fun hc => ?_, fun hc => ?_, ?_⟩⟩
    · exact ⟨_, congrArg Host.Outcome.next ((scrub_inside hw hl _).trans (eccAt_corrected_data hp)), corrected_below hc⟩
    · exact ⟨_, congrArg Host.Outcome.next ((scrub_inside hw hl _).trans (eccAt_corrected_data hp)), corrected_reaches hc⟩
    · exact congrArg Host.Outcome.next ((scrub_inside hw hl _).trans (eccAt_uncorrectable_data hp))
  · have hw : wordExists unit.val word.toNat = true := wordExists_iff.2 ⟨by omega, hm⟩
    obtain ⟨hrest, hcount, -⟩ := corrected_below hc
    exact ⟨_, congrArg Host.Outcome.next ((scrub_inside hw (by omega) _).trans (eccAt_corrected_spare hp hs)), hrest, hcount⟩
  · have hpart := (scrub_eccPart unit.isLt hw s e).trans (eccAt_eccPart s unit.isLt word.toNat e)
    exact ⟨_, rfl, congrArg Prod.fst hpart, congrArg (fun p => p.2.1) hpart, congrArg (fun p => p.2.2) hpart⟩
  · have hend : s.scrub unit.val word.toNat .clean = s.passEnd unit.val word.toNat := by rw [State.scrub, if_pos hw]; rfl
    refine ⟨_, congrArg Host.Outcome.next hend, ?_, fun q hq => ?_, ?_, passEnd_objsAre hl s⟩
    · rw [passEnd_rest hl]
    · rw [passEnd_rest hl]
      exact periodBegins_ceCount s hq
    · rw [passEnd_rest hl]
      rfl
  · refine congrArg Host.Outcome.next (scrub_nothing ?_ e)
    rw [← Bool.not_eq_true, wordExists_iff]
    omega
  · obtain ⟨hce, hue⟩ := scrub_eq_memoryError hl r (s := s) (unit := unit.val)
    simp only [State.happen, mainUp_of hup, if_true]
    exact ⟨congrArg Host.Outcome.next hce, congrArg Host.Outcome.next hue⟩
  · simp only [State.happen, mainUp_of hup, if_true]
    exact memoryError_task unit.isLt hw hp ht
  · simp only [State.happen, mainUp_of hup, if_true]
    refine ⟨setObj_objWrite .., fun hoff => ?_, fun hoff hc => ?_, fun hoff hc => ?_⟩
    · rw [scratchError_cache hoff]
      exact setObj_objWrite ..
    · obtain ⟨cs, hcs⟩ := readerFails_cores_only (s.cnt16 (kCl cl.val 0x90 6) 1) r
      rw [scratchError_read hoff hc]
      refine ⟨fun a => ?_, fun k => ?_, fun c t hr ht => ?_⟩
      · rw [hcs]
        rfl
      · rw [hcs]
        exact (setObj_objWrite s _ _).2 k
      · rw [hr]
        exact readerFails_task ht
    · exact ⟨_, rfl, scratchError_control hoff hc r⟩
  · simp only [State.happen, mainUp_of hup, Bool.true_and, decide_eq_true hsite, if_true]
    exact setObj_objWrite ..
  · simp only [State.happen, mainUp_of hup, hw, Bool.and_self, if_true]
    exact setObj_objWrite ..
  · simp only [State.happen, mainUp_of hup, if_true]
    exact setObj_objWrite ..
  · simp only [State.happen, mainUp_of hup, if_true, State.fecCounts, if_neg hlink]
    have hkey : kLink n.val 8 ≠ kLink n.val 9 := by unfold kLink kDev objKey; omega
    have hread : (s.cnt48 (kLink n.val 8) c).obj (kLink n.val 9) = s.obj (kLink n.val 9) := State.obj_setObj_ne s hkey.symm _
    rw [State.cnt16, hread]
    exact setObj_setObj_objWrite s hkey _ _

end Sys2Proof.Machine
end

section
/-! PROOFS. Patrol's keys, images and restart, the CLEAR objects, PLCA and the management port (R450, R667, R668, R676 to R678, R685,
R690 to R692). -/

namespace Sys2Proof.Machine

open Sys2Proof.Claims

/-! ### What the log leaves of the module, while Patrol is at work -/

theorem raise_patrol (s : State) (fn vector : Nat) : (s.raise fn vector).patrol = s.patrol := by
  dsimp only [State.raise]
  split_ifs <;> rfl

theorem raiseEvent_patrol (s : State) (e : Event) : (s.raiseEvent e).patrol = s.patrol := by
  have hctx : (if e.ctx < 64 then s.raise (s.obj (kDev (0x2400 + e.ctx) 0x20)) (2 + e.ctx) else s).patrol = s.patrol := by
    split
    · exact raise_patrol ..
    · rfl
  dsimp only [State.raiseEvent]
  split
  · exact (raise_patrol ..).trans hctx
  · exact hctx

theorem notifyEvent_patrol (s : State) (e : Event) : (s.notifyEvent e).patrol = s.patrol := by
  unfold State.notifyEvent
  split
  · refine foldl_keeps_part State.patrol (fun v t => ?_) s _
    rfl
  · rfl

/-- `u` is `s` after entries of the event log, with their notices: of Patrol the log alone differs. -/
structure Logged (s u : State) : Prop where
  notice : NoticeOnly s u
  objs : LogsOnly s u
  patrol : ∃ l, u.patrol = { s.patrol with log := l }

theorem Logged.refl (s : State) : Logged s s := ⟨.refl s, .refl s, _, rfl⟩

theorem Logged.trans {s u v : State} (h : Logged s u) (k : Logged u v) : Logged s v := by
  obtain ⟨l, hl⟩ := h.patrol
  obtain ⟨m, hm⟩ := k.patrol
  exact ⟨h.notice.trans k.notice, h.objs.trans k.objs, m, by rw [hm, hl]⟩

theorem Logged.foldl {β : Type} {f : State → β → State} (hf : ∀ s x, Logged s (f s x)) (s : State) (l : List β) :
    Logged s (l.foldl f s) := by
  induction l generalizing s with
  | nil => exact .refl s
  | cons x l ih => exact (hf s x).trans (ih _)

theorem Logged.obj {s u : State} (h : Logged s u) {k : Nat} (hk : k / 256 ≠ 0x4000 ∧ k / 256 ≠ 0x1010) : u.obj k = s.obj k :=
  h.objs.objs k hk.1 hk.2

theorem Logged.awake {s u : State} (h : Logged s u) (hr : s.patrol.restarting = false) : u.patrol.restarting = false := by
  obtain ⟨l, hl⟩ := h.patrol
  rw [hl]
  exact hr

theorem newEvent_patrol (s : State) (code sev ctx p0 p1 time : Nat) :
    ∃ l, (s.newEvent code sev ctx p0 p1 time).patrol = { s.patrol with log := l } := by
  dsimp only [State.newEvent]
  rw [raiseEvent_patrol, notifyEvent_patrol]
  split
  · exact ⟨_, rfl⟩
  · exact ⟨_, rfl⟩

theorem addEvent_logged (s : State) (code sev ctx p0 p1 time : Nat) : Logged s (s.addEvent code sev ctx p0 p1 time) := by
  rcases addEvent_cases s code sev ctx p0 p1 time with h | ⟨e, l, h⟩
  · rw [h]
    exact ⟨newEvent_noticeOnly .., newEvent_logsOnly .., newEvent_patrol ..⟩
  · have hlog : Logged s { s with patrol := { s.patrol with log := l } } :=
      ⟨⟨_, _, _, _, rfl⟩, ⟨rfl, fun _ _ _ => rfl⟩, l, rfl⟩
    rw [h]
    exact hlog.trans ⟨raiseEvent_noticeOnly .., raiseEvent_logsOnly .., _, raiseEvent_patrol ..⟩

/-- An event is logged at once where Patrol is not restarting (R692). -/
theorem event_logged {s : State} (h : s.patrol.restarting = false) (code sev ctx p0 p1 : Nat) :
    Logged s (s.event code sev ctx p0 p1) := by
  rw [State.event, h]
  exact addEvent_logged ..

/-! ### Patrol's restart (R690, R692) -/

/-- What Patrol's boot from its images leaves: the log, its notices and objects differ, and it runs image `i`. -/
structure Boots (s u : State) (i : Nat) : Prop where
  notice : NoticeOnly s u
  patrol : ∃ l, u.patrol = { s.patrol with log := l }
  running : u.obj (kDev 0x1030 1) = i

theorem runImage_boots {s u : State} (h : NoticeOnly s u) (hp : ∃ l, u.patrol = { s.patrol with log := l }) (i : Nat) :
    Boots s (u.runImage i) i where
  notice := h.trans ⟨_, _, _, _, rfl⟩
  patrol := hp
  running := by rw [State.runImage, State.obj_setObj_ne _ (by decide), State.obj_setObj_same]

/-- An image that fails its check has no version, and is logged (R659, R690). -/
def State.imageFails (s : State) (i : Nat) : State := (s.setObj (kDev 0x1030 (2 + i)) 0).event 0x05 2 0xFF i (s.imageVersion i)

theorem imageFails_noticeOnly (s : State) (i : Nat) : NoticeOnly s (s.imageFails i) :=
  (setObj_noticeOnly ..).trans (event_noticeOnly ..)

theorem imageFails_patrol {s : State} (h : s.patrol.restarting = false) (i : Nat) :
    ∃ l, (s.imageFails i).patrol = { s.patrol with log := l } :=
  (event_logged (s := s.setObj (kDev 0x1030 (2 + i)) 0) h ..).patrol

/-- Patrol runs the image that is asked for where it is good, else the other, else recovery (R659, R690). -/
theorem bootFrom_boots {s : State} (h : s.patrol.restarting = false) (good : Nat → Bool) (a : Nat) :
    Boots s (s.bootFrom good a) (if good a then a else if good (1 - a) then 1 - a else 2) := by
  have heq : s.bootFrom good a = if good a then s.runImage a else if good (1 - a) then (s.imageFails a).runImage (1 - a)
      else ((s.imageFails a).imageFails (1 - a)).runImage 2 := rfl
  obtain ⟨l, hl⟩ := imageFails_patrol h a
  rw [heq]
  split
  · exact runImage_boots (.refl s) ⟨_, rfl⟩ a
  · split
    · exact runImage_boots (imageFails_noticeOnly ..) ⟨l, hl⟩ (1 - a)
    · obtain ⟨m, hm⟩ := imageFails_patrol (s := s.imageFails a) (by rw [hl]; exact h) (1 - a)
      exact runImage_boots ((imageFails_noticeOnly ..).trans (imageFails_noticeOnly ..)) ⟨m, by rw [hm, hl]⟩ 2

/-- The hardware's queue of events is read out (R692). -/
def State.heldRead (s : State) : State :=
  { s with patrol := { s.patrol with heldEvents := [], heldLost := 0, snapFailHeld := false } }

/-- The events that were held are logged, and nothing is held any more (R692). -/
theorem logHeld_logged {s : State} (h : s.patrol.restarting = false) : Logged s.heldRead s.logHeld' := by
  have hevents : Logged s.heldRead (s.patrol.heldEvents.foldl (fun (s : State) (e : Event) =>
      s.addEvent e.code e.sev e.ctx e.p0 e.p1 e.time) s.heldRead) := Logged.foldl (fun _ _ => addEvent_logged ..) _ _
  have hlost : ∀ v : State, Logged s.heldRead v →
      Logged s.heldRead (if s.patrol.heldLost = 0 then v else v.event 0x62 2 0xFF s.patrol.heldLost 0) := fun v hv => by
    split
    · exact hv
    · exact hv.trans (event_logged (hv.awake h) ..)
  dsimp only [State.logHeld']
  split
  · exact (hlost _ hevents).trans (event_logged ((hlost _ hevents).awake h) ..)
  · exact hlost _ hevents

/-- Patrol has restarted, and no request waits (R692). -/
def State.awakened (s : State) : State := { s with patrol := { s.patrol with restarting := false, queue := [] } }

/-- The image that Patrol runs after its restart is chosen (R690). -/
def State.rebooted (s : State) : State := s.awakened.bootFrom s.awakened.imageGood s.awakened.targetImage

/-- FW_UPDATED names the image that runs (R692, log 107). -/
def State.firmwareReported (s : State) : State :=
  s.event 0x06 0 0xFF (s.obj (kDev 0x1030 1)) (if s.obj (kDev 0x1030 1) = 2 then 0 else s.imageVersion (s.obj (kDev 0x1030 1)))

theorem restartDone_eq {s : State} (h : s.patrol.restarting = true) (hq : s.patrol.queue = []) :
    s.restartDone = s.rebooted.logHeld'.firmwareReported := by
  rw [State.restartDone, h, hq]
  rfl

/-- Patrol's restart ends with no request that waits (R691, R692): the image that runs, and what stays. -/
theorem restartDone_leaves {s : State} (h : s.patrol.restarting = true) (hq : s.patrol.queue = []) :
    NoticeOnly s s.restartDone ∧
    s.restartDone.obj (kDev 0x1030 1) = (if s.imageGood s.targetImage then s.targetImage
      else if s.imageGood (1 - s.targetImage) then 1 - s.targetImage else 2) ∧
    s.restartDone.patrol.restarting = false ∧ s.restartDone.patrol.heldEvents = [] ∧ s.restartDone.patrol.heldLost = 0 := by
  have hboot := bootFrom_boots (s := s.awakened) rfl s.awakened.imageGood s.awakened.targetImage
  obtain ⟨l, hl⟩ := hboot.patrol
  have hw : s.rebooted.patrol.restarting = false := by
    rw [State.rebooted, hl]
    rfl
  have hheld := logHeld_logged hw
  have hlog : Logged s.rebooted.heldRead s.restartDone := by
    rw [restartDone_eq h hq]
    exact hheld.trans (event_logged (hheld.awake hw) ..)
  obtain ⟨m, hm⟩ := hlog.patrol
  have hawake : NoticeOnly s s.awakened := ⟨_, _, _, _, rfl⟩
  have hread : NoticeOnly s.rebooted s.rebooted.heldRead := ⟨_, _, _, _, rfl⟩
  refine ⟨((hawake.trans hboot.notice).trans hread).trans hlog.notice, (hlog.obj (by decide)).trans hboot.running, ?_, ?_, ?_⟩
  · rw [hm]
    exact hw
  · rw [hm]
    rfl
  · rw [hm]
    rfl

/-! ### Rights of a request (R674 to R678) -/

/-- The answer to a request by the first status that applies, with the key of the right tag that it bears (R671 to R678). -/
theorem answer_eq (s : State) (m : Msg) : s.answer m =
    if msgBad m.src m.hdr.toNat m.payload then (s, answerTo m.hdr.toNat stVersion [] (tagKey s m))
    else if !targetOk m.src m.hdr.toNat then (s, answerTo m.hdr.toNat stTarget [] (tagKey s m))
    else if noObject (hOp m.hdr.toNat) (hIndex m.hdr.toNat) (hSub m.hdr.toNat) then
      (s, answerTo m.hdr.toNat stNoObject [] (tagKey s m))
    else if (levelOf m.src m.hdr.toNat ≠ 0 && (tagKey s m).isNone) || (levelNeeded s m).any (levelOf m.src m.hdr.toNat < ·) then
      authFailed s m (tagKey s m)
    else if (tagKey s m).isSome && hAuth m.hdr.toNat ≤ s.obj (kDev 0x1040 (2 + levelOf m.src m.hdr.toNat)) then
      (s, answerTo m.hdr.toNat stReplay [] (tagKey s m))
    else if (levelNeeded s m).isNone then (s, answerTo m.hdr.toNat stAccess [] (tagKey s m))
    else served s (if (tagKey s m).isSome then
      s.setObj (kDev 0x1040 (2 + levelOf m.src m.hdr.toNat)) (hAuth m.hdr.toNat) else s) m (tagKey s m) := by
  cases hk : s.levelKey (levelOf m.src m.hdr.toNat) with
  | none =>
    have htag : tagKey s m = none := by rw [tagKey, hk, Option.filter_none]
    simp only [State.answer, hk, htag, Bool.and_false, Bool.false_eq_true, if_false, Bool.not_false, Bool.and_true,
      Option.isNone_none, Option.isSome_none, Bool.false_and]
    rfl
  | some k =>
    by_cases h : levelOf m.src m.hdr.toNat ≠ 0 ∧ hTag m.hdr.toNat = tagOf k m.hdr.toNat m.payload
    · have htag : tagKey s m = some k := by rw [tagKey, hk, Option.filter_some, if_pos (decide_eq_true h)]
      simp only [State.answer, hk, htag, h.1, ← h.2, ne_eq, not_false_eq_true, decide_true, Bool.and_self, if_true, Bool.not_true,
        Bool.and_false, Option.isNone_some, Option.isSome_some, Bool.true_and]
      rfl
    · have htag : tagKey s m = none := by rw [tagKey, hk, Option.filter_some, if_neg (fun hd => h (of_decide_eq_true hd))]
      have hf : (decide (levelOf m.src m.hdr.toNat ≠ 0) && decide (hTag m.hdr.toNat = tagOf k m.hdr.toNat m.payload)) = false := by
        rw [← Bool.decide_and]
        exact decide_eq_false h
      simp only [State.answer, hk, htag, hf, Bool.false_eq_true, if_false, Bool.not_false, Bool.and_true, Option.isNone_none,
        Option.isSome_none, Bool.false_and]
      rfl

/-- A request that needs a higher level than it has shown changes nothing but what a failed authentication counts and logs. -/
theorem answer_refused {s : State} {m : Msg} (h : ∀ n, levelNeeded s m = some n →
      levelOf m.src m.hdr.toNat = 0 ∨ tagKey s m ≠ none → levelOf m.src m.hdr.toNat < n) :
    (s.answer m).1 = s ∨ (s.answer m).1 = (authFailed s m none).1 := by
  rw [answer_eq]
  split
  · exact .inl rfl
  split
  · exact .inl rfl
  split
  · exact .inl rfl
  split
  · exact .inr rfl
  next hauth =>
    split
    · exact .inl rfl
    split
    · exact .inl rfl
    next hneed =>
      cases hn : levelNeeded s m with
      | none => exact absurd (by rw [hn]; rfl) hneed
      | some n =>
        simp only [hn, Option.any_some, Bool.or_eq_true, Bool.and_eq_true, decide_eq_true_eq, Option.isNone_iff_eq_none, not_or,
          not_and_or, not_not] at hauth
        exact absurd (h n hn hauth.1) hauth.2

/-! ### What a request that is refused leaves of Patrol's keys -/

/-- The keys that Patrol holds (R676). -/
def State.keys (s : State) : Option (BitVec 256) × Option (BitVec 256) := (s.patrol.opKey, s.patrol.svcKey)

theorem event_keys (s : State) (code sev ctx p0 p1 : Nat) : (s.event code sev ctx p0 p1).keys = s.keys := by
  cases h : s.patrol.restarting
  · obtain ⟨l, hl⟩ := (event_logged h code sev ctx p0 p1).patrol
    rw [State.keys, hl, State.keys]
  · rw [State.event, if_pos h]
    split <;> rfl

theorem respond_keys (s : State) (src : Source) (a : Answer) : (s.respond src a).keys = s.keys := by
  cases src <;> rfl

/-- A request that is executed leaves the keys where its answer does. -/
theorem serve_keys {s : State} {m : Msg} (h : (s.answer m).1.keys = s.keys) : (s.serve m).keys = s.keys := by
  dsimp only [State.serve]
  split
  · exact respond_keys ..
  · exact (respond_keys ..).trans h

theorem arriveMsg_keys {s : State} {m : Msg} (h : ((s.cnt48 (kDev 0x1010 8) 1).answer m).1.keys = s.keys) :
    (s.arriveMsg m).keys = s.keys := by
  dsimp only [State.arriveMsg]
  split
  · rfl
  · split
    · exact serve_keys (s := s.cnt48 (kDev 0x1010 8) 1) h
    · split
      · exact respond_keys ..
      · rfl

/-- A request in-band leaves the keys where every answer to it does, whatever the window and the counts of the port hold. -/
theorem request_keys {s : State} {m : Msg} {f : HostFn} (hm : m.src = .inband f) (h : ∀ v : State, v.patrol = s.patrol →
      v.obj (kDev 0x1010 0xC) = s.obj (kDev 0x1010 0xC) → (v.answer m).1.keys = v.keys) : (s.request m).keys = s.keys := by
  have hthrough : ∀ (k : State → State), (k s).keys = s.keys → (s.through f.val true false k).keys = s.keys := fun k hk => by
    unfold State.through
    split
    · rfl
    · rfl
    · rfl
    · exact hk
  unfold State.request
  rw [hm]
  refine hthrough _ ?_
  split
  · rfl
  · exact arriveMsg_keys (h _ rfl (State.obj_setObj_ne _ (by decide) _))

/-- The rights over the keys themselves (R677, R678). -/
theorem need_opKey (s : State) : s.need (.inband 0) 2 0x1040 1 = some (if s.obj (kDev 0x1010 0xC) = 1 then 0 else 1) := by
  have hrow : objRow 0x1040 1 = some ⟨0x1040, 0x1040, 1, 1, .octets, .wo, 0⟩ := by decide +kernel
  unfold State.need
  simp [hrow, opWrites]
  split <;> rfl

theorem need_svcKey (s : State) : s.need (.inband 0) 2 0x1040 2 = some (if s.patrol.svcKey.isNone then 0 else 2) := by
  have hrow : objRow 0x1040 2 = some ⟨0x1040, 0x1040, 2, 2, .octets, .wo, 0⟩ := by decide +kernel
  unfold State.need
  simp [hrow, opWrites]
  split <;> rfl

/-! ### The in-band write of a key (R669, R677) -/

/-- A field above the low `n` bits of a number. -/
theorem fld_high {n t : Nat} (ht : t < 2 ^ n) (x hi lo : Nat) : fld (2 ^ n * x + t) (n + hi) (n + lo) = fld x hi lo := by
  rw [fld, Nat.shiftRight_add, Nat.shiftRight_eq_div_pow (2 ^ n * x + t), Nat.mul_add_div (Nat.two_pow_pos n), Nat.div_eq_of_lt ht,
    Nat.add_zero, fld, show n + hi + 1 - (n + lo) = hi + 1 - lo by omega]

theorem high_lt {n m t x : Nat} (ht : t < 2 ^ n) (hx : x < 2 ^ m) : 2 ^ n * x + t < 2 ^ (n + m) := by
  calc 2 ^ n * x + t < 2 ^ n * (x + 1) := Nat.add_lt_add_left ht _
    _ ≤ 2 ^ n * 2 ^ m := Nat.mul_le_mul_left _ hx
    _ = 2 ^ (n + m) := (Nat.pow_add 2 n m).symm

theorem at'_high (n v hi lo : Nat) : at' v (n + hi) (n + lo) = 2 ^ n * at' v hi lo := by
  rw [at', at', show n + hi + 1 - (n + lo) = hi + 1 - lo by omega, Nat.shiftLeft_eq, Nat.shiftLeft_eq, Nat.pow_add, Nat.mul_left_comm]

/-- The bits of a header from LENGTH on, with the OP, object and LENGTH of a key write (R669). -/
def keyHigh (sub x : Nat) : Nat :=
  x - at' (fld x 103 96) 103 96 - at' (fld x 47 32) 47 32 - at' (fld x 31 24) 31 24 - at' (fld x 15 0) 15 0 +
    at' 2 103 96 + at' 0x1040 47 32 + at' sub 31 24 + at' 32 15 0

theorem keyHigh_fields {x sub : Nat} (hx : x < 2 ^ 112) (hs : sub < 256) :
    keyHigh sub x < 2 ^ 112 ∧ fld (keyHigh sub x) 103 96 = 2 ∧ fld (keyHigh sub x) 47 32 = 0x1040 ∧
      fld (keyHigh sub x) 31 24 = sub := by
  simp only [keyHigh, fld, at', Nat.shiftRight_eq_div_pow, Nat.shiftLeft_eq]
  omega

/-- The four fields of a header that a key write gives values stand apart in it. -/
theorem keyHigh_parts {x : Nat} (hx : x < 2 ^ 112) :
    at' (fld x 103 96) 103 96 + at' (fld x 47 32) 47 32 + at' (fld x 31 24) 31 24 + at' (fld x 15 0) 15 0 ≤ x := by
  simp only [fld, at', Nat.shiftRight_eq_div_pow, Nat.shiftLeft_eq]
  omega

/-- A header is written from LENGTH on, and its bits below stay. -/
theorem keyHigh_write {n t x : Nat} (ht : t < 2 ^ n) (hx : x < 2 ^ 112) (sub : Nat) :
    2 ^ n * x + t - at' (fld (2 ^ n * x + t) (n + 103) (n + 96)) (n + 103) (n + 96) -
        at' (fld (2 ^ n * x + t) (n + 47) (n + 32)) (n + 47) (n + 32) -
        at' (fld (2 ^ n * x + t) (n + 31) (n + 24)) (n + 31) (n + 24) -
        at' (fld (2 ^ n * x + t) (n + 15) (n + 0)) (n + 15) (n + 0) +
        at' 2 (n + 103) (n + 96) + at' 0x1040 (n + 47) (n + 32) + at' sub (n + 31) (n + 24) + at' 32 (n + 15) (n + 0) =
      2 ^ n * keyHigh sub x + t := by
  have hparts := keyHigh_parts hx
  simp only [fld_high ht, at'_high, keyHigh]
  generalize at' (fld x 103 96) 103 96 = a at *
  generalize at' (fld x 47 32) 47 32 = b at *
  generalize at' (fld x 31 24) 31 24 = c at *
  generalize at' (fld x 15 0) 15 0 = d at *
  obtain ⟨y, rfl⟩ : ∃ y, x = y + a + b + c + d := ⟨x - a - b - c - d, by omega⟩
  rw [show y + a + b + c + d - a - b - c - d = y by omega]
  simp only [Nat.mul_add]
  omega

theorem keyMsg_hdr (sub : Nat) (key : BitVec 256) (hdr : BitVec 384) : ∃ x t : Nat, x < 2 ^ 112 ∧ t < 2 ^ 272 ∧
    (keyMsg sub key hdr).hdr.toNat = (2 ^ 272 * keyHigh sub x + t) % 2 ^ 384 := by
  have hx : hdr.toNat / 2 ^ 272 < 2 ^ 112 := Nat.div_lt_of_lt_mul (hdr.isLt.trans_eq (Nat.pow_add 2 272 112))
  have ht : hdr.toNat % 2 ^ 272 < 2 ^ 272 := Nat.mod_lt _ (Nat.two_pow_pos _)
  have h := keyHigh_write ht hx sub
  rw [Nat.div_add_mod] at h
  refine ⟨_, _, hx, ht, ?_⟩
  rw [← h]
  exact BitVec.toNat_ofNat ..

theorem keyMsg_fields {sub : Nat} (hs : sub < 256) (key : BitVec 256) (hdr : BitVec 384) :
    hOp (keyMsg sub key hdr).hdr.toNat = 2 ∧ hIndex (keyMsg sub key hdr).hdr.toNat = 0x1040 ∧
      hSub (keyMsg sub key hdr).hdr.toNat = sub := by
  obtain ⟨x, t, hx, ht, h⟩ := keyMsg_hdr sub key hdr
  obtain ⟨hlt, hop, hidx, hsub⟩ := keyHigh_fields hx hs
  rw [h, Nat.mod_eq_of_lt (high_lt ht hlt)]
  exact ⟨(fld_high ht _ 103 96).trans hop, (fld_high ht _ 47 32).trans hidx, (fld_high ht _ 31 24).trans hsub⟩

theorem tagKey_congr {s v : State} (h : v.patrol = s.patrol) (m : Msg) : tagKey v m = tagKey s m := by
  rw [tagKey, State.levelKey, h, tagKey, State.levelKey]

/-- A right tag is of the operator's or the service's level (R675, R676). -/
theorem tagKey_level {s : State} {m : Msg} (h : tagKey s m ≠ none) : levelOf m.src m.hdr.toNat = 1 ∨ levelOf m.src m.hdr.toNat = 2 := by
  by_contra hl
  rw [not_or] at hl
  refine h ?_
  rw [tagKey, State.levelKey, if_neg hl.1, if_neg hl.2, Option.filter_none]

theorem keyMsg_levelNeeded {sub : Nat} (hs : sub < 256) (key : BitVec 256) (hdr : BitVec 384) (s : State) :
    levelNeeded s (keyMsg sub key hdr) = s.need (.inband 0) 2 0x1040 sub := by
  obtain ⟨hop, hidx, hsub⟩ := keyMsg_fields hs key hdr
  rw [levelNeeded, hop, hidx, hsub]
  rfl

/-- A key write as a request, of a level below the one that it needs, changes no key. -/
theorem keyRequest_keys {s : State} {sub : Nat} (hs : sub < 256) {key : BitVec 256} {hdr : BitVec 384} {need : Nat}
    (hneed : ∀ v : State, v.patrol = s.patrol → v.obj (kDev 0x1010 0xC) = s.obj (kDev 0x1010 0xC) →
      v.need (.inband 0) 2 0x1040 sub = some need)
    (hlevel : levelOf (.inband 0) (keyMsg sub key hdr).hdr.toNat = 0 ∨ tagKey s (keyMsg sub key hdr) ≠ none →
      levelOf (.inband 0) (keyMsg sub key hdr).hdr.toNat < need) : (s.request (keyMsg sub key hdr)).keys = s.keys := by
  refine request_keys rfl fun v hv hobj => ?_
  have hrefused : (v.answer (keyMsg sub key hdr)).1 = v ∨
      (v.answer (keyMsg sub key hdr)).1 = (authFailed v (keyMsg sub key hdr) none).1 := by
    refine answer_refused fun n hn hl => ?_
    rw [keyMsg_levelNeeded hs, hneed v hv hobj] at hn
    obtain rfl : need = n := Option.some.inj hn
    exact hlevel (hl.imp_right (by rw [tagKey_congr hv]; exact id))
  rcases hrefused with h | h
  · rw [h]
  · rw [h]
    exact event_keys ..

theorem keyWrite_untagged {s : State} {sub : Nat} (h : s.need (.inband 0) 2 0x1040 sub = some 0) (key : BitVec 256)
    (hdr : BitVec 384) : s.keyWrite sub key hdr = s.setKey sub key := if_pos h

theorem keyWrite_request {s : State} {sub : Nat} (h : s.need (.inband 0) 2 0x1040 sub ≠ some 0) (key : BitVec 256)
    (hdr : BitVec 384) : s.keyWrite sub key hdr = s.request (keyMsg sub key hdr) := if_neg h

theorem setKey_objsAre (s : State) (level : Nat) (key : BitVec 256) :
    ObjsAre s (s.setKey level key) [(kDev 0x1040 (2 + level), 0)] := (setObj_objWrite _ _ _).2

/-- An operator key that needs a tag and has none stays (R677). -/
theorem opKey_stays {s : State} {key : BitVec 256} {hdr : BitVec 384} (hneed : s.need (.inband 0) 2 0x1040 1 ≠ some 0)
    (htag : tagKey s (keyMsg 1 key hdr) = none) : (s.request (keyMsg 1 key hdr)).patrol.opKey = s.patrol.opKey := by
  have htrust : s.obj (kDev 0x1010 0xC) ≠ 1 := fun h => hneed (by rw [need_opKey, if_pos h])
  refine congrArg Prod.fst (keyRequest_keys (by omega) (need := 1) (fun v _ hobj => ?_) fun hl => ?_)
  · rw [need_opKey, hobj, if_neg htrust]
  · rw [hl.resolve_right (not_not.2 htag)]
    omega

/-- A service key that is set stays without a right tag of its own level (R678). -/
theorem svcKey_stays {s : State} {key : BitVec 256} {hdr : BitVec 384} (hset : s.patrol.svcKey ≠ none)
    (hl : levelOf (.inband 0) (keyMsg 2 key hdr).hdr.toNat ≠ 2 ∨ tagKey s (keyMsg 2 key hdr) = none) :
    (s.request (keyMsg 2 key hdr)).patrol.svcKey = s.patrol.svcKey := by
  refine congrArg Prod.snd (keyRequest_keys (by omega) (need := 2) (fun v hv _ => ?_) fun hlow => ?_)
  · rw [need_svcKey, hv, if_neg (by rwa [Option.isNone_iff_eq_none])]
  · rcases hlow with h0 | ht
    · rw [h0]
      omega
    · rcases tagKey_level ht with h1 | h2
      · exact lt_of_eq_of_lt h1 (by omega)
      · exact absurd h2 (hl.resolve_right ht)

/-! ### CLEAR (R450) -/

theorem clearSpan_hi {idx c lo hi : Nat} (h : clearSpan idx = some (c, lo, hi)) : hi < 256 := by
  have hall : (clearSpan idx).all (fun x => x.2.2 < 256) = true := by
    dsimp only [clearSpan]
    repeat' split
    all_goals rfl
  rw [h] at hall
  exact of_decide_eq_true hall

/-- Objects after the subindices from `lo` to `hi` of an index are set to 0. -/
theorem clearSubs_obj (s : State) {idx lo hi : Nat} (hh : hi < 256) (k : Nat) : (s.clearSubs idx lo hi).obj k =
    if k / 256 = idx ∧ lo ≤ k % 256 ∧ k % 256 ≤ hi then 0 else s.obj k := by
  have hrun : ∀ n, ((List.range n).foldl (fun s i => s.setObj (objKey idx (lo + i)) 0) s).obj k =
      if idx * 256 + lo ≤ k ∧ k < idx * 256 + lo + n then 0 else s.obj k := by
    intro n
    induction n with
    | zero => rw [if_neg (by omega)]; rfl
    | succ n ih =>
      rw [List.range_succ, List.foldl_append, List.foldl_cons, List.foldl_nil, State.obj_setObj, ih, objKey]
      by_cases h : k = idx * 256 + (lo + n)
      · rw [if_pos h, if_pos (by omega)]
      · rw [if_neg h]
        exact if_congr (by omega) rfl rfl
  rw [State.clearSubs, hrun]
  exact if_congr (by omega) rfl rfl

/-! ### Images and activation (R690, R691) -/

theorem activate_restarts {s : State} (h2 : s.obj (kDev 0x1030 6) = 2) (hst : s.moduleState ∈ [0, 3, 5]) :
    s.activate true = ({ s with patrol := { s.patrol with
      restarting := true, working := false, queue := s.patrol.queue.filter inbandMsg } }, stOk) := by
  have hc : [0, 3, 5].contains s.moduleState = true := List.contains_iff_mem.2 hst
  rw [State.activate, if_neg (by decide), hc, decide_eq_true h2, if_pos (by decide)]

theorem activate_refused {s : State} (h : s.obj (kDev 0x1030 6) ≠ 2 ∨ s.moduleState ∉ [0, 3, 5]) : s.activate true = (s, stState) := by
  have hc : (decide (s.obj (kDev 0x1030 6) = 2) && [0, 3, 5].contains s.moduleState) = false := by
    rw [Bool.and_eq_false_iff, decide_eq_false_iff_not, ← Bool.not_eq_true, List.contains_iff_mem]
    exact h
  rw [State.activate, if_neg (by decide), hc, if_neg Bool.false_ne_true]

section
variable {s : State}

theorem imageVerified_checked (h1 : s.obj (kDev 0x1030 6) = 1) (hon : s.patrol.on = true) (hr : s.patrol.restarting = false)
    (hw : 4096 ≤ s.patrol.written) (hl : Config.imageField (s.imageBytes s.targetImage) 1 ≤ s.patrol.written) :
    s.imageVerified = if Config.signatureValid (s.imageBytes s.targetImage) then
        (s.setObj (kDev 0x1030 6) 2).setObj (kDev 0x1030 (2 + s.targetImage))
          (Config.imageField (s.imageBytes s.targetImage) 0 % 2 ^ 32)
      else ((s.setObj (kDev 0x1030 6) 3).setObj (kDev 0x1030 (2 + s.targetImage)) 0).event 0x05 2 0xFF s.targetImage
        (Config.imageField (s.imageBytes s.targetImage) 0 % 2 ^ 32) := by
  simp [State.imageVerified, h1, hon, hr, Nat.not_lt.2 hw, Nat.not_lt.2 hl]

theorem imageVerified_waits (h : s.obj (kDev 0x1030 6) ≠ 1 ∨ s.patrol.written < 4096) : s.imageVerified = s := by
  rcases h with h | h <;> simp [State.imageVerified, h]

/-- An image whose signature does not verify is FAILED and has no version (R690). -/
theorem imageFailed_leaves (s : State) {t : Nat} (ht : t ≤ 1) (v : Nat) :
    let u := ((s.setObj (kDev 0x1030 6) 3).setObj (kDev 0x1030 (2 + t)) 0).event 0x05 2 0xFF t v
    u.obj (kDev 0x1030 6) = 3 ∧ u.obj (kDev 0x1030 (2 + t)) = 0 ∧ BytesStay s u ∧ u.cores = s.cores := by
  have hkey : kDev 0x1030 (2 + t) ≠ kDev 0x1030 6 := by unfold kDev objKey; omega
  have hlog : ∀ i, i < 256 → kDev 0x1030 i / 256 ≠ 0x4000 ∧ kDev 0x1030 i / 256 ≠ 0x1010 := fun i hi => by
    rw [kDev_div hi]
    decide
  refine ⟨?_, ?_, fun a => event_byte .., event_cores ..⟩
  · rw [event_obj _ _ _ _ _ _ (hlog 6 (by omega)), State.obj_setObj_ne _ hkey.symm, State.obj_setObj_same]
  · rw [event_obj _ _ _ _ _ _ (hlog (2 + t) (by omega)), State.obj_setObj_same]

/-! ### The port, and the time of a request (R667, R668, R673) -/

theorem noBeacon_eq (hon : s.patrol.on = true) (h : s.obj (kDev 0x1010 7) = 1) :
    s.noBeacon = (s.setObj (kDev 0x1010 7) 0).event 0x61 1 0xFF 0 0 := by simp [State.noBeacon, hon, h]

theorem noBeacon_nothing (h : s.patrol.on = false ∨ s.obj (kDev 0x1010 7) ≠ 1) : s.noBeacon = s := by
  rcases h with h | h <;> simp [State.noBeacon, h]

theorem beacon_returns (hon : s.patrol.on = true) (he : s.obj (kDev 0x1010 4) = 1) (hn : s.obj (kDev 0x1010 5) ≠ 0)
    (hs : s.obj (kDev 0x1010 7) = 0) : s.beacon = s.setObj (kDev 0x1010 7) 1 := by simp [State.beacon, hon, he, hn, hs]

theorem beacon_nothing (h : s.patrol.on = false ∨ s.obj (kDev 0x1010 4) ≠ 1 ∨ s.obj (kDev 0x1010 5) = 0 ∨
    s.obj (kDev 0x1010 7) ≠ 0) : s.beacon = s := by
  rcases h with h | h | h | h <;> simp [State.beacon, h]

theorem sendBeacon_eq (s : State) : s.sendBeacon =
    if s.patrol.on = true ∧ s.obj (kDev 0x1010 7) = 2 then s.emit (.beacon (s.obj (kDev 0x1010 6))) else s :=
  if_congr (by simp) rfl rfl

theorem portFrame_asleep (h : s.patrol.on = false ∨ s.patrol.restarting = true) (f : Frame) : s.portFrame f = s := by
  rcases h with h | h <;> simp [State.portFrame, h]

theorem respond_mem (s : State) (src : Source) (a : Answer) : (s.respond src a).mem = s.mem := by
  cases src <;> rfl

theorem respond_patrol (s : State) (src : Source) (a : Answer) : (s.respond src a).patrol = s.patrol := by
  cases src <;> rfl

theorem serve_notKept {m : Msg} (h : NotKept s m) :
    s.serve m = ((s.answer m).1.keepAnswer ⟨m.src, hSeq m.hdr.toNat, (s.answer m).2⟩).respond m.src (s.answer m).2 := by
  unfold NotKept at h
  simp only [State.serve, h]

/-- A request that is executed: its answer is kept for its source, and memory is as the answer leaves it (R672). -/
theorem serve_leaves {m : Msg} (h : NotKept s m) : BytesStay (s.answer m).1 (s.serve m) ∧
    (s.serve m).patrol.kept.head? = some ⟨m.src, hSeq m.hdr.toNat, (s.answer m).2⟩ := by
  rw [serve_notKept h]
  refine ⟨fun a => ?_, ?_⟩
  · rw [State.byte, respond_mem]
    rfl
  · rw [respond_patrol]
    rfl

end

/-- Settles O55: the restart by `restartDone_leaves`, the keys that stay by `opKey_stays` and `svcKey_stays`, CLEAR by
`clearSubs_obj`; the rest is one write each, or a guard that decides what the port takes. -/
theorem patrolControlsTakeEffect : Obligations.PatrolControlsTakeEffect := by
  refine ⟨fun s => ⟨rfl, fun h2 hst => ?_, fun h => ?_⟩, fun s => ⟨fun h => ?_, fun h hq => ?_⟩, fun s key hdr => ⟨fun h => ?_, fun h => ?_,
      fun h => ?_, fun h => ?_⟩, fun s ht h1 hon hr hw => ?_, fun s h => congrArg Host.Outcome.next (imageVerified_waits h),
    fun _ _ => rfl, fun s => ⟨_, rfl, rfl, (setObj_objWrite _ _ _).2⟩, fun s i hi => ⟨fun h => ?_, fun c lo hi' h => ?_⟩,
    fun s => ⟨fun hon h => congrArg Host.Outcome.next (noBeacon_eq hon h), fun h => congrArg Host.Outcome.next (noBeacon_nothing h)⟩,
    fun s => ⟨fun hon he hn hs => ⟨_, congrArg Host.Outcome.next (beacon_returns hon he hn hs), setObj_objWrite ..⟩,
      fun h => congrArg Host.Outcome.next (beacon_nothing h), sendBeacon_eq s⟩,
    fun s hon hr => ⟨?_, fun hw hq => ?_, fun m q hw hq => ?_, fun a src data => ⟨?_, ?_⟩, fun port m hm => ?_, ?_⟩,
    fun s h f => portFrame_asleep h f⟩
  · exact congrArg (fun r => Host.Outcome.next (written r)) (activate_restarts h2 hst)
  · exact congrArg (fun r => Host.Outcome.next (written r)) (activate_refused h)
  · exact congrArg Host.Outcome.next (by rw [State.restartDone, h]; rfl)
  · obtain ⟨hnotice, hrun, hr, hheld, hlost⟩ := restartDone_leaves h hq
    refine ⟨_, rfl, fun a => byte_of_mem hnotice.mem a, hr, hheld, hlost, hnotice.cores, fun h1 => ?_, fun h1 h2 => ?_, fun h1 h2 => ?_⟩
    · rw [hrun, if_pos h1]
    · rw [hrun, h1, h2]
      rfl
    · rw [hrun, h1, h2]
      rfl
  · exact ⟨_, congrArg Host.Outcome.next (keyWrite_untagged h key hdr), rfl, rfl, setKey_objsAre s 1 key⟩
  · exact ⟨congrArg Host.Outcome.next (keyWrite_request h key hdr), opKey_stays h⟩
  · refine ⟨_, congrArg Host.Outcome.next (keyWrite_untagged ?_ key hdr), rfl, rfl, setKey_objsAre s 2 key⟩
    rw [need_svcKey, h]
    rfl
  · refine ⟨congrArg Host.Outcome.next (keyWrite_request ?_ key hdr), svcKey_stays h⟩
    rw [need_svcKey, if_neg (by rwa [Option.isNone_iff_eq_none])]
    decide
  · intro b hl
    have heq := imageVerified_checked h1 hon hr hw hl
    refine ⟨fun hsig => ⟨_, congrArg Host.Outcome.next (heq.trans (if_pos hsig)), ?_⟩,
      fun hsig => ⟨_, congrArg Host.Outcome.next (heq.trans (if_neg (by rw [hsig]; exact Bool.false_ne_true))), ?_⟩⟩
    · exact setObj_setObj_objWrite s (by unfold kDev objKey; omega) _ _
    · exact imageFailed_leaves s ht _
  · refine congrArg Host.Outcome.next ?_
    simp only [State.clearAt, hi, h, Bool.not_true, Bool.false_eq_true, if_false]
  · refine ⟨s.clearSubs i.toNat lo hi', congrArg Host.Outcome.next ?_, ?_, clearSubs_obj s (clearSpan_hi h)⟩
    · simp only [State.clearAt, hi, h, Bool.not_true, Bool.false_eq_true, if_false]
    · exact (ObjsOnly.foldl (fun _ _ => setObj_objsOnly ..) s _).eq
  · simp [State.happen, State.patrolBusy, hon, hr]
  · simp [State.happen, State.patrolDone, hw, hq]
  · have hdone : s.happen .patrolDone = ({ s with patrol := { s.patrol with queue := q } } : State).serve m := by
      simp [State.happen, State.patrolDone, hw, hq]
    intro v u
    refine ⟨hdone, fun hk => ?_⟩
    have := serve_leaves (s := v) (m := m) hk
    rw [show u = v.serve m from hdone]
    exact this
  · simp [State.happen, State.portFrame, hon, hr]
  · simp [State.happen, State.portFrame, hon, hr]
  · simp [State.happen, State.portFrame, hon, hr, hm]
  · simp [State.happen, State.portFrame, hon, hr]

end Sys2Proof.Machine
end

section
/-! PROOFS. Power-up: the resets of the main and the standby domain, the boot of Patrol, the ramp, self-test, READY and Lodge (R429,
R634, R635, R651, R652, R656 to R664, R680). -/

namespace Sys2Proof.Machine

open Sys2Proof.Claims

/-! ### Runs of writes over a range -/

/-- What a run over a range reads at the end, where one index alone decides it. -/
theorem foldl_range_part {γ : Type} (p : State → γ) {f : State → Nat → State} {n i : Nat} (hi : i < n)
    (hf : ∀ j, j < n → j ≠ i → ∀ s, p (f s j) = p s) (s : State) :
    p ((List.range n).foldl f s) = p (f ((List.range i).foldl f s) i) := by
  induction n with
  | zero => omega
  | succ n ih =>
    rw [List.range_succ, List.foldl_append, List.foldl_cons, List.foldl_nil]
    by_cases h : i = n
    · rw [h]
    · rw [hf n (by omega) (Ne.symm h), ih (by omega) fun j hj => hf j (by omega)]

section
variable {key val : Nat → Nat} {n : Nat}

theorem setObjs_hit {i : Nat} (hi : i < n) (hkey : ∀ j, j < n → j ≠ i → key i ≠ key j) (s : State) :
    ((List.range n).foldl (fun s j => s.setObj (key j) (val j)) s).obj (key i) = val i := by
  rw [foldl_range_part (fun s => s.obj (key i)) hi fun j hj hne s => State.obj_setObj_ne s (hkey j hj hne) _]
  exact State.obj_setObj_same ..

theorem setObjs_miss {k : Nat} (hk : ∀ j, j < n → k ≠ key j) (s : State) :
    ((List.range n).foldl (fun s j => s.setObj (key j) (val j)) s).obj k = s.obj k :=
  foldl_keeps_on (fun s => s.obj k) _ (fun j hj s => State.obj_setObj_ne s (hk j (List.mem_range.1 hj)) _) s

end

theorem ObjsOnly.noticeOnly {s u : State} (h : ObjsOnly s u) : NoticeOnly s u := by
  obtain ⟨_, rfl⟩ := h
  exact ⟨_, _, _, _, rfl⟩

/-! ### The entry into READY (R5, R657, R661) -/

theorem turnLink_writes (s : State) (n : Nat) : ObjsOnly s (s.turnLink n true) ∧
    ∀ k, k / 256 ≠ 0x6100 + n → (s.turnLink n true).obj k = s.obj k := by
  have hkey : ∀ {k i : Nat}, i < 256 → k / 256 ≠ 0x6100 + n → k ≠ kLink n i := fun hi hk h => hk (by
    rw [h]
    exact kDev_div hi)
  have hset : ∀ (v : State) st lanes, ObjsOnly v (v.setLink n st lanes) ∧
      ∀ k, k / 256 ≠ 0x6100 + n → (v.setLink n st lanes).obj k = v.obj k := fun v st lanes =>
    ⟨⟨_, rfl⟩, fun k hk => by
      rw [State.setLink, State.obj_setObj_ne _ (hkey (by omega) hk), State.obj_setObj_ne _ (hkey (by omega) hk)]⟩
  have h2 : ObjsOnly s (s.setObj (kLink n 2) (b2n true)) ∧
      ∀ k, k / 256 ≠ 0x6100 + n → (s.setObj (kLink n 2) (b2n true)).obj k = s.obj k :=
    ⟨⟨_, rfl⟩, fun k hk => State.obj_setObj_ne s (hkey (by omega) hk) _⟩
  have hboth : ∀ st lanes, ObjsOnly s ((s.setObj (kLink n 2) (b2n true)).setLink n st lanes) ∧
      ∀ k, k / 256 ≠ 0x6100 + n → ((s.setObj (kLink n 2) (b2n true)).setLink n st lanes).obj k = s.obj k := fun st lanes =>
    ⟨h2.1.trans (hset _ st lanes).1, fun k hk => ((hset _ st lanes).2 k hk).trans (h2.2 k hk)⟩
  dsimp only [State.turnLink]
  rw [if_pos rfl]
  split
  · exact h2
  split
  · exact hboth ..
  split
  · exact hboth ..
  · exact h2

/-- A link as the module enters READY: one that is to train does so, and one that failed is off (R661). -/
def State.readyLink (s : State) (n : Nat) : State :=
  if s.obj (kLink n 2) = 0 then s else if s.linkBad n then s.setObj (kLink n 2) 0 else s.turnLink n true

theorem readyLink_writes (s : State) (n : Nat) : ObjsOnly s (s.readyLink n) ∧
    ∀ k, k / 256 ≠ 0x6100 + n → (s.readyLink n).obj k = s.obj k := by
  unfold State.readyLink
  split
  · exact ⟨.refl s, fun _ _ => rfl⟩
  split
  · refine ⟨⟨_, rfl⟩, fun k hk => State.obj_setObj_ne s (fun h => hk ?_) 0⟩
    rw [h]
    exact kDev_div (by omega)
  · exact turnLink_writes s n

/-- A core site as self-test leaves it (R602, R663). -/
def State.placeSite (s : State) (i : Nat) : State :=
  if !bitAt (fuses (i / 8)) (i % 8) then s
  else if bitAt (s.obj (kDev 0x4101 (i / 8 + 1))) (i % 8) then
    (s.setObj (kCore (i / 8) (i % 8) 0 1) 3).setObj (kCore (i / 8) (i % 8) 3 3) 7
  else s.setObj (kCore (i / 8) (i % 8) 0 1) 1

theorem toReady_eq (s : State) : s.toReady =
    ((List.range 64).foldl State.readyLink ((((List.range 96).foldl State.placeSite s).renumber).setModule 3)).event 0x01 0 0xFF
      s.moduleState 0 := rfl

theorem placeSite_writes (s : State) (i : Nat) : ObjsOnly s (s.placeSite i) ∧
    ∀ k, k ≠ kCore (i / 8) (i % 8) 0 1 → k ≠ kCore (i / 8) (i % 8) 3 3 → (s.placeSite i).obj k = s.obj k := by
  unfold State.placeSite
  split
  · exact ⟨.refl s, fun _ _ _ => rfl⟩
  split
  · exact ⟨⟨_, rfl⟩, fun k h1 h3 => by rw [State.obj_setObj_ne _ h3, State.obj_setObj_ne _ h1]⟩
  · exact ⟨⟨_, rfl⟩, fun k h1 _ => State.obj_setObj_ne s h1 1⟩

/-- The objects that the entry into READY may write: of cores, of links, the module's state, and those of the log and its notices. -/
def readyKey (k : Nat) : Bool :=
  (0x5000 ≤ k / 256 && k / 256 < 0x5C00) || (0x6100 ≤ k / 256 && k / 256 < 0x6140) || k / 256 = 0x3001 || k / 256 = 0x4000 ||
    k / 256 = 0x1010

theorem readyKey_iff {k : Nat} : readyKey k = false ↔ (k / 256 < 0x5000 ∨ 0x5C00 ≤ k / 256) ∧ (k / 256 < 0x6100 ∨ 0x6140 ≤ k / 256) ∧
    k / 256 ≠ 0x3001 ∧ k / 256 ≠ 0x4000 ∧ k / 256 ≠ 0x1010 := by
  simp only [readyKey, Bool.or_eq_false_iff, Bool.and_eq_false_iff, decide_eq_false_iff_not]
  omega

theorem kCore_range {cl site off sub : Nat} (hcl : cl < 12) (hsite : site < 8) (hoff : off < 16) (hsub : sub < 256) :
    0x5000 ≤ kCore cl site off sub / 256 ∧ kCore cl site off sub / 256 < 0x5C00 := by
  unfold kCore objKey
  omega

/-- Placing the cores of the module writes objects of cores alone. -/
theorem placeSites_obj (s : State) {n k : Nat} (hn : n ≤ 96) (hk : k / 256 < 0x5000 ∨ 0x5C00 ≤ k / 256) :
    ((List.range n).foldl State.placeSite s).obj k = s.obj k := by
  refine foldl_keeps_on (fun s => s.obj k) _ (fun i hi s => ?_) s
  have hi' : i < 96 := by
    have := List.mem_range.1 hi
    omega
  have hkey : ∀ {off sub}, off < 16 → sub < 256 → k ≠ kCore (i / 8) (i % 8) off sub := fun hoff hsub h => by
    have := kCore_range (cl := i / 8) (site := i % 8) (by omega) (by omega) hoff hsub
    rw [← h] at this
    omega
  exact (placeSite_writes s i).2 k (hkey (by omega) (by omega)) (hkey (by omega) (by omega))

theorem readyLinks_obj (s : State) {k : Nat} (hk : k / 256 < 0x6100 ∨ 0x6140 ≤ k / 256) :
    ((List.range 64).foldl State.readyLink s).obj k = s.obj k :=
  foldl_keeps_on (fun s => s.obj k) _ (fun n hn s => (readyLink_writes s n).2 k (by
    have := List.mem_range.1 hn
    omega)) s

theorem numberKey_range {i : Nat} (hi : i < 96) : 0x5000 ≤ numberKey i / 256 ∧ numberKey i / 256 < 0x5C00 :=
  kCore_range (by omega) (by omega) (by omega) (by omega)

section
variable (s : State)

theorem toReady_noticeOnly : NoticeOnly s s.toReady := by
  have hplace : ObjsOnly s ((List.range 96).foldl State.placeSite s) := ObjsOnly.foldl (fun s i => (placeSite_writes s i).1) s _
  have hnumber : ObjsOnly s ((List.range 96).foldl State.placeSite s).renumber := hplace.trans (by
    rw [renumber_eq_numberSites]
    exact ⟨_, numberSites_objs_only _ 96⟩)
  rw [toReady_eq]
  exact ((hnumber.trans (setObj_objsOnly _ _ 3)).trans
    (ObjsOnly.foldl (fun s n => (readyLink_writes s n).1) _ _)).noticeOnly.trans (event_noticeOnly ..)

theorem toReady_state : s.toReady.moduleState = 3 := by
  rw [toReady_eq, State.moduleState, event_obj _ _ _ _ _ _ (by decide), readyLinks_obj _ (by decide)]
  exact State.obj_setObj_same ..

/-- A site that is enabled reads IDLE, or FENCED where its core failed (R663). -/
theorem toReady_siteState {cl k : Nat} (hcl : cl < 12) (hk : k < 8) (hfuse : bitAt (fuses cl) k = true) :
    s.toReady.siteState cl k = if bitAt (s.obj (kDev 0x4101 (cl + 1))) k then 3 else 1 := by
  have hrange := kCore_range hcl hk (off := 0) (sub := 1) (by omega) (by omega)
  have hdiv : (cl * 8 + k) / 8 = cl := by omega
  have hmod : (cl * 8 + k) % 8 = k := by omega
  rw [toReady_eq, State.siteState, event_obj _ _ _ _ _ _ (by omega), readyLinks_obj _ (by omega), State.setModule,
    State.obj_setObj_ne _ (by unfold kCore kDev objKey; omega), renumber_obj _ (siteStateKey_ne_numberKey cl k),
    foldl_range_part (fun s => s.obj (kCore cl k 0 1)) (i := cl * 8 + k) (by omega) fun j hj hne s =>
      (placeSite_writes s j).2 _ (by unfold kCore objKey; omega) (by unfold kCore objKey; omega),
    State.placeSite, hdiv, hmod, hfuse, if_neg (by decide), placeSites_obj s (by omega) (.inl (by rw [kDev_div (by omega)]; decide))]
  split
  · rw [State.obj_setObj_ne _ (siteStateKey_ne_fenceCauseKey cl k), State.obj_setObj_same]
  · rw [State.obj_setObj_same]

end

/-! ### What the entry into READY leaves -/

/-- Numbering the cores writes objects of cores alone. -/
theorem renumber_obj_outside (s : State) {k : Nat} (hk : k / 256 < 0x5000 ∨ 0x5C00 ≤ k / 256) : s.renumber.obj k = s.obj k := by
  suffices h : ∀ n ≤ 96, (numberSites s n).1.obj k = s.obj k from h 96 le_rfl
  intro n
  induction n with
  | zero => exact fun _ => rfl
  | succ n ih =>
    intro hn
    obtain ⟨v, hv⟩ := numberSite_fst (numberSites s n) n
    have hkey := numberKey_range (i := n) (by omega)
    rw [numberSites_succ, hv, State.obj_setObj_ne _ (fun h => by rw [← h] at hkey; omega), ih (by omega)]

theorem toReady_obj (s : State) {k : Nat} (hk : readyKey k = false) : s.toReady.obj k = s.obj k := by
  obtain ⟨hcore, hlink, hmod, hlog, hport⟩ := readyKey_iff.1 hk
  rw [toReady_eq, event_obj _ _ _ _ _ _ ⟨hlog, hport⟩, readyLinks_obj _ hlink, State.setModule,
    State.obj_setObj_ne _ (fun h => hmod (by rw [h]; rfl)), renumber_obj_outside _ hcore, placeSites_obj s le_rfl hcore]

/-! ### Self-test (R439, R660 to R665) -/

section
variable (s : State) (r : SelfTest)

theorem report_cluster {cl : Nat} (h : cl < 12) : (s.report r).obj (kDev 0x4101 (cl + 1)) = stCluster r cl := by
  dsimp only [State.report]
  rw [State.obj_setObj_ne _ (by unfold kDev objKey; omega), setObjs_miss (fun j _ => by unfold kDev objKey; omega),
    setObjs_miss (fun j _ => by unfold kDev objKey; omega), setObjs_miss (fun j _ => by unfold kDev objKey; omega)]
  exact setObjs_hit (key := fun i => kDev 0x4101 (i + 1)) h (fun j _ _ => by unfold kDev objKey; omega) s

theorem report_unit {m : Nat} (h : m < 24) : (s.report r).obj (kDev 0x4102 (m + 1)) = stMem r m := by
  dsimp only [State.report]
  rw [State.obj_setObj_ne _ (by unfold kDev objKey; omega), setObjs_miss (fun j _ => by unfold kDev objKey; omega),
    setObjs_miss (fun j _ => by unfold kDev objKey; omega)]
  exact setObjs_hit (key := fun i => kDev 0x4102 (i + 1)) h (fun j _ _ => by unfold kDev objKey; omega) _

theorem report_engine {e : Nat} (h : e < 12) :
    (s.report r).obj (kDev 0x4104 (e + 1)) = if nth false r.engines e then 1 else 2 := by
  dsimp only [State.report]
  rw [State.obj_setObj_ne _ (by unfold kDev objKey; omega)]
  exact setObjs_hit (key := fun i => kDev 0x4104 (i + 1)) (val := fun i => if nth false r.engines i then 1 else 2) h
    (fun j _ _ => by unfold kDev objKey; omega) _

end

/-- A unit that failed reads FAILED (R439). -/
def State.markUnit (s : State) (m : Nat) : State := if s.obj (kDev 0x4102 (m + 1)) = 2 then s.setObj (kDev (unitIdx m) 1) 3 else s

/-- An engine that failed reads FAILED (R660). -/
def State.markEngine (s : State) (e : Nat) : State := if s.obj (kDev 0x4104 (e + 1)) = 2 then s.setObj (kEng e 2) 4 else s

/-- The units and the engines that failed, marked. -/
def State.markParts (s : State) : State := (List.range 12).foldl State.markEngine ((List.range 24).foldl State.markUnit s)

theorem markFailed_eq (s : State) (r : SelfTest) : s.markFailed r =
    { s.markParts with power := { s.markParts.power with badLinks := (List.range 64).filter (fun n => nth 0 r.links n = 0) } } := by
  unfold State.markFailed State.markParts State.markUnit State.markEngine
  rfl

theorem markFailed_obj (s : State) (r : SelfTest) (k : Nat) : (s.markFailed r).obj k = s.markParts.obj k := by
  rw [markFailed_eq, State.obj, State.obj]

section
variable (s : State)

theorem markUnit_obj_ne {k m : Nat} (h : k ≠ kDev (unitIdx m) 1) : (s.markUnit m).obj k = s.obj k := by
  unfold State.markUnit
  split
  · exact State.obj_setObj_ne s h 3
  · rfl

theorem markEngine_obj_ne {k e : Nat} (h : k ≠ kEng e 2) : (s.markEngine e).obj k = s.obj k := by
  unfold State.markEngine
  split
  · exact State.obj_setObj_ne s h 4
  · rfl

theorem markUnits_obj {n k : Nat} (h : ∀ m < n, k ≠ kDev (unitIdx m) 1) : ((List.range n).foldl State.markUnit s).obj k = s.obj k :=
  foldl_keeps_on (fun s => s.obj k) _ (fun m hm s => markUnit_obj_ne s (h m (List.mem_range.1 hm))) s

theorem markEngines_obj {n k : Nat} (h : ∀ e < n, k ≠ kEng e 2) : ((List.range n).foldl State.markEngine s).obj k = s.obj k :=
  foldl_keeps_on (fun s => s.obj k) _ (fun e he s => markEngine_obj_ne s (h e (List.mem_range.1 he))) s

theorem markParts_objsOnly : ObjsOnly s s.markParts := by
  have hunit : ∀ (s : State) m, ObjsOnly s (s.markUnit m) := fun s m => by
    unfold State.markUnit
    split
    · exact setObj_objsOnly ..
    · exact .refl s
  have hengine : ∀ (s : State) e, ObjsOnly s (s.markEngine e) := fun s e => by
    unfold State.markEngine
    split
    · exact setObj_objsOnly ..
    · exact .refl s
  exact (ObjsOnly.foldl hunit s _).trans (ObjsOnly.foldl hengine _ _)

/-- The results that are reported stay as the parts that failed are marked. -/
theorem markParts_result {k : Nat} (h : k / 256 < 0x7100) : s.markParts.obj k = s.obj k := by
  rw [State.markParts, markEngines_obj _ fun e _ => by unfold kEng kDev objKey; split <;> omega,
    markUnits_obj _ fun m _ => by unfold unitIdx kDev objKey; split <;> omega]

theorem markParts_unit {m : Nat} (hm : m < 24) (h : s.obj (kDev 0x4102 (m + 1)) = 2) : s.markParts.obj (kDev (unitIdx m) 1) = 3 := by
  have hunits : ∀ j < m, kDev 0x4102 (m + 1) ≠ kDev (unitIdx j) 1 := fun j _ => by unfold unitIdx kDev objKey; split <;> omega
  rw [State.markParts, markEngines_obj _ fun e _ => by unfold kEng unitIdx kDev objKey; split <;> split <;> omega,
    foldl_range_part (fun s => s.obj (kDev (unitIdx m) 1)) hm fun j hj hne s =>
      markUnit_obj_ne s (by unfold unitIdx kDev objKey; split <;> split <;> omega),
    State.markUnit, markUnits_obj s hunits, if_pos h, State.obj_setObj_same]

theorem markParts_engine {e : Nat} (he : e < 12) (h : s.obj (kDev 0x4104 (e + 1)) = 2) : s.markParts.obj (kEng e 2) = 4 := by
  have hengines : ∀ j < e, kDev 0x4104 (e + 1) ≠ kEng j 2 := fun j _ => by unfold kEng kDev objKey; split <;> omega
  rw [State.markParts, foldl_range_part (fun s => s.obj (kEng e 2)) he fun j hj hne s =>
      markEngine_obj_ne s (by unfold kEng kDev objKey; split <;> split <;> omega),
    State.markEngine, markEngines_obj _ hengines, markUnits_obj s fun m _ => by unfold unitIdx kDev objKey; split <;> omega, if_pos h,
    State.obj_setObj_same]

end

theorem zeroMemory_obj (s : State) (k : Nat) : s.zeroMemory.obj k = s.obj k := rfl

/-- The module with the results of self-test in place, before they make READY or Lodge. -/
def State.tested (s : State) (r : SelfTest) : State := ((s.report r).zeroMemory).markFailed r

section
variable {s : State} {r : SelfTest}

theorem selftestDone_lodge (h : s.moduleState = 2)
    (hfail : ((List.range 12).any (fun cl => stCluster r cl % 256 ≠ 0) || stOther r) = true) :
    s.selftestDone r =
      ({ s.tested r with power := { (s.tested r).power with otherFail := stOther r } } : State).toLodge r.failPhase.toNat := by
  unfold State.selftestDone
  rw [if_neg (not_not.2 h)]
  exact if_pos hfail

theorem selftestDone_ready (h : s.moduleState = 2)
    (hpass : ((List.range 12).any (fun cl => stCluster r cl % 256 ≠ 0) || stOther r) = false) :
    ∃ v ∈ [1, 2], s.selftestDone r = ((s.tested r).setObj (kDev 0x4100 1) v).toReady := by
  refine ⟨if (List.range 64).any (fun n => nth 0 r.links n = 0) || (List.range 12).any (fun e => !nth false r.engines e) then 2 else 1,
    by split <;> decide, ?_⟩
  unfold State.selftestDone
  rw [if_neg (not_not.2 h)]
  exact if_neg (by rw [hpass]; exact Bool.false_ne_true)

variable (s r)

theorem tested_mem : (s.tested r).mem = [] := by
  rw [State.tested, markFailed_eq, (markParts_objsOnly _).eq, State.zeroMemory]

theorem tested_side : (s.tested r).side = [] := by
  rw [State.tested, markFailed_eq, (markParts_objsOnly _).eq, State.zeroMemory]

theorem tested_badLinks : (s.tested r).power.badLinks = (List.range 64).filter (fun n => nth 0 r.links n = 0) := by
  rw [State.tested, markFailed_eq]

theorem tested_cluster {cl : Nat} (h : cl < 12) : (s.tested r).obj (kDev 0x4101 (cl + 1)) = stCluster r cl := by
  rw [State.tested, markFailed_obj, markParts_result _ (by rw [kDev_div (by omega)]; decide), zeroMemory_obj, report_cluster s r h]

theorem tested_unit {m : Nat} (hm : m < 24) (h : stMem r m = 2) : (s.tested r).obj (kDev (unitIdx m) 1) = 3 := by
  rw [State.tested, markFailed_obj, markParts_unit _ hm (by rw [zeroMemory_obj, report_unit s r hm, h])]

theorem tested_engine {e : Nat} (he : e < 12) (h : nth false r.engines e = false) : (s.tested r).obj (kEng e 2) = 4 := by
  rw [State.tested, markFailed_obj, markParts_engine _ he (by rw [zeroMemory_obj, report_engine s r he, h, if_neg Bool.false_ne_true])]

end

/-! ### The entry into Lodge (R657, R663) -/

section
variable (s : State) (phase : Nat)

theorem toLodge_noticeOnly : NoticeOnly s (s.toLodge phase) :=
  (show NoticeOnly s (((s.setObj (kDev 0x4100 1) 3).setObj (kDev 0x4100 2) phase).setModule 5) from ⟨_, _, _, _, rfl⟩).trans
    (event_noticeOnly ..)

theorem toLodge_obj {k : Nat} (h : k / 256 ∉ [0x3001, 0x4100, 0x4000, 0x1010]) : (s.toLodge phase).obj k = s.obj k := by
  simp only [List.mem_cons, List.not_mem_nil, or_false, not_or] at h
  obtain ⟨hmod, hres, hlog⟩ := h
  rw [State.toLodge, event_obj _ _ _ _ _ _ hlog, State.setModule, State.obj_setObj_ne _ (fun h => hmod (by rw [h]; rfl)),
    State.obj_setObj_ne _ (fun h => hres (by rw [h]; rfl)), State.obj_setObj_ne _ (fun h => hres (by rw [h]; rfl))]

theorem toLodge_state : (s.toLodge phase).moduleState = 5 := by
  rw [State.moduleState, State.toLodge, event_obj _ _ _ _ _ _ (by decide)]
  exact State.obj_setObj_same ..

theorem toLodge_result : (s.toLodge phase).obj (kDev 0x4100 1) = 3 := by
  rw [State.toLodge, event_obj _ _ _ _ _ _ (by decide), State.setModule, State.obj_setObj_ne _ (by decide),
    State.obj_setObj_ne _ (by decide), State.obj_setObj_same]

end

/-! ### What self-test leads to (R660, R663) -/

section
variable {s : State} {r : SelfTest}

/-- What failed is marked, whether the results make READY or Lodge. -/
theorem selftestDone_marks (h : s.moduleState = 2) : (s.selftestDone r).power.badLinks =
      (List.range 64).filter (fun n => nth 0 r.links n = 0) ∧
    (∀ m < 24, stMem r m = 2 → (s.selftestDone r).obj (kDev (unitIdx m) 1) = 3) ∧
    ∀ e < 12, nth false r.engines e = false → (s.selftestDone r).obj (kEng e 2) = 4 := by
  have hunit : ∀ m < 24, 0x7100 ≤ kDev (unitIdx m) 1 / 256 ∧ kDev (unitIdx m) 1 / 256 < 0x9000 := fun m hm => by
    unfold unitIdx kDev objKey
    split <;> omega
  have hengine : ∀ e < 12, 0x7100 ≤ kEng e 2 / 256 ∧ kEng e 2 / 256 < 0x9000 := fun e he => by
    unfold kEng kDev objKey
    split <;> omega
  suffices hkeep : (s.selftestDone r).power.badLinks = (s.tested r).power.badLinks ∧
      ∀ k, 0x7100 ≤ k / 256 ∧ k / 256 < 0x9000 → (s.selftestDone r).obj k = (s.tested r).obj k by
    obtain ⟨hlinks, hobj⟩ := hkeep
    exact ⟨hlinks.trans (tested_badLinks s r), fun m hm hf => (hobj _ (hunit m hm)).trans (tested_unit s r hm hf),
      fun e he hf => (hobj _ (hengine e he)).trans (tested_engine s r he hf)⟩
  cases hfail : (List.range 12).any (fun cl => stCluster r cl % 256 ≠ 0) || stOther r
  · obtain ⟨v, _, hv⟩ := selftestDone_ready h hfail
    rw [hv]
    refine ⟨?_, fun k hk => ?_⟩
    · rw [(toReady_noticeOnly _).eq]
      rfl
    · rw [toReady_obj _ (readyKey_iff.2 (by omega)), State.obj_setObj_ne _ (by unfold kDev objKey; omega)]
  · rw [selftestDone_lodge h hfail]
    refine ⟨?_, fun k hk => ?_⟩
    · rw [(toLodge_noticeOnly ..).eq]
    · rw [toLodge_obj _ _ (by simp; omega), State.obj, State.obj]

/-- A result in which no core failed has no bit for one. -/
theorem bitAt_of_mod_eq_zero {w k : Nat} (h : w % 256 = 0) (hk : k < 8) : bitAt w k = false := by
  have htest := Nat.testBit_mod_two_pow w 8 k
  rw [show w % 2 ^ 8 = 0 from h, Nat.zero_testBit, decide_eq_true hk, Bool.true_and] at htest
  rw [bitAt, htest, Nat.testBit_eq_decide_div_mod_eq, Nat.shiftRight_eq_div_pow]

theorem selftestDone_passed (h : s.moduleState = 2) (hcores : (List.range 12).all (fun cl => stCluster r cl % 256 = 0) = true)
    (hother : stOther r = false) :
    (s.selftestDone r).moduleState = 3 ∧ (s.selftestDone r).mem = [] ∧ (s.selftestDone r).side = [] ∧
      (s.selftestDone r).obj (kDev 0x4100 1) ∈ [1, 2] ∧
      ∀ cl < 12, ∀ k < 8, bitAt (fuses cl) k = true → (s.selftestDone r).siteState cl k = 1 := by
  have hpass : ((List.range 12).any (fun cl => stCluster r cl % 256 ≠ 0) || stOther r) = false := by
    rw [hother, Bool.or_false, List.any_eq_false]
    intro cl hcl
    have := List.all_eq_true.1 hcores cl hcl
    simpa using this
  obtain ⟨v, hv, heq⟩ := selftestDone_ready h hpass
  rw [heq]
  have hn := toReady_noticeOnly ((s.tested r).setObj (kDev 0x4100 1) v)
  refine ⟨toReady_state _, ?_, ?_, ?_, fun cl hcl k hk hfuse => ?_⟩
  · rw [hn.mem, State.setObj, tested_mem]
  · rw [hn.eq, State.setObj, tested_side]
  · rw [toReady_obj _ (by decide), State.obj_setObj_same]
    exact hv
  · have hzero : stCluster r cl % 256 = 0 := by
      simpa using List.all_eq_true.1 hcores cl (List.mem_range.2 hcl)
    rw [toReady_siteState _ hcl hk hfuse, State.obj_setObj_ne _ (by unfold kDev objKey; omega), tested_cluster s r hcl,
      bitAt_of_mod_eq_zero hzero hk]
    rfl

theorem selftestDone_failed (h : s.moduleState = 2)
    (hfail : (List.range 12).any (fun cl => stCluster r cl % 256 ≠ 0) = true ∨ stOther r = true) :
    (s.selftestDone r).moduleState = 5 ∧ (s.selftestDone r).mem = [] ∧ (s.selftestDone r).side = [] ∧
      (s.selftestDone r).obj (kDev 0x4100 1) = 3 ∧ (s.selftestDone r).power.otherFail = stOther r := by
  rw [selftestDone_lodge h (Bool.or_eq_true_iff.2 hfail)]
  refine ⟨toLodge_state .., ?_, ?_, toLodge_result .., ?_⟩
  · rw [(toLodge_noticeOnly ..).mem, tested_mem]
  · rw [(toLodge_noticeOnly ..).eq, tested_side]
  · rw [(toLodge_noticeOnly ..).eq]

end

/-! ### The reset of the main domain (R532, R643, R680) -/

/-- The main domain as a reset clears it, before the straps and the retirement lists give their objects. -/
def State.mainCleared (s : State) : State :=
  { s with
    objs := nfilterOut (fun k => mainKey k && !keptKey k) s.objs, mem := [], side := [], cores := [], disp := State.reset.disp, reds := [],
    chair := { entries := [], tables := cleanTables s.chair.tables, transfers := [] }, fab := State.reset.fab, video := State.reset.video,
    mctl := { s.mctl with ceCount := [] }, host := State.reset.host, modes := State.reset.modes,
    patrol := { s.patrol with queue := s.patrol.queue.filter (fun m => !inbandMsg m) } }

theorem mainReset_eq (s : State) : s.mainReset = s.mainCleared.strapDefaults.markDegraded := by
  unfold State.mainReset
  rfl

/-- Objects alone are written, and of them those of the main domain. -/
structure MainWrites (s u : State) : Prop where
  only : ObjsOnly s u
  obj : ∀ {k}, mainKey k = false → u.obj k = s.obj k

theorem MainWrites.refl (s : State) : MainWrites s s := ⟨.refl s, fun _ => rfl⟩

theorem MainWrites.trans {s u v : State} (h : MainWrites s u) (k : MainWrites u v) : MainWrites s v :=
  ⟨h.only.trans k.only, fun hk => (k.obj hk).trans (h.obj hk)⟩

theorem setObj_mainWrites (s : State) {k : Nat} (hk : mainKey k = true) (v : Nat) : MainWrites s (s.setObj k v) :=
  ⟨setObj_objsOnly .., fun hj => State.obj_setObj_ne s (fun h => by rw [h, hk] at hj; exact Bool.noConfusion hj) v⟩

theorem MainWrites.foldl {f : State → Nat → State} {n : Nat} (hf : ∀ s, ∀ i < n, MainWrites s (f s i)) (s : State) :
    MainWrites s ((List.range n).foldl f s) := by
  induction n with
  | zero => exact .refl s
  | succ n ih =>
    rw [List.range_succ, List.foldl_append]
    exact (ih fun s i hi => hf s i (by omega)).trans (hf _ n (by omega))

theorem mainKey_of_range {k : Nat} (h : (0x2000 ≤ k / 256 ∧ k / 256 ≤ 0x2FFF) ∨ (0x5000 ≤ k / 256 ∧ k / 256 ≤ 0xAFFF)) :
    mainKey k = true := by
  simp only [mainKey, Bool.or_eq_true, Bool.and_eq_true, decide_eq_true_eq]
  omega

theorem strapDefaults_mainWrites (s : State) : MainWrites s s.strapDefaults := by
  have hkey : ∀ n < 64, ∀ sub < 256, mainKey (kLink n sub) = true := fun n hn sub hsub =>
    mainKey_of_range (.inr (by unfold kLink kDev objKey; omega))
  have hlinks : ∀ (s : State) (a b : State → Nat → Nat), MainWrites s ((List.range 64).foldl
      (fun (s : State) n => (s.setObj (kLink n 2) (a s n)).setObj (kLink n 4) (b s n)) s) := fun s a b =>
    MainWrites.foldl (fun s n hn => (setObj_mainWrites s (hkey n hn 2 (by omega)) _).trans
      (setObj_mainWrites _ (hkey n hn 4 (by omega)) _)) s
  have hgiven : ∀ a b c, MainWrites s (((s.setObj (kDev 0x2001 1) a).setObj (kDev 0x2002 1) b).setObj (kDev 0x2003 1) c) :=
    fun a b c => ((setObj_mainWrites s rfl a).trans (setObj_mainWrites _ rfl b)).trans (setObj_mainWrites _ rfl c)
  unfold State.strapDefaults
  dsimp only
  split
  · exact (hgiven ..).trans (hlinks _ (fun _ _ => 1) (fun _ _ => _))
  split
  · exact (hgiven ..).trans
      (hlinks _ (fun s n => (nget (0, 0) s.patrol.linkSet n).1) (fun s n => (nget (0, 0) s.patrol.linkSet n).2))
  · exact hgiven ..

theorem markDegraded_mainWrites (s : State) : MainWrites s s.markDegraded := by
  unfold State.markDegraded
  refine MainWrites.foldl (fun s u hu => ?_) s
  split
  · exact setObj_mainWrites s (mainKey_of_range (.inr (by unfold unitIdx kDev objKey; split <;> omega))) 2
  · exact .refl s

theorem mainReset_writes (s : State) : MainWrites s.mainCleared s.mainReset := by
  rw [mainReset_eq]
  exact (strapDefaults_mainWrites _).trans (markDegraded_mainWrites _)

section
variable (s : State)

theorem mainReset_obj {k : Nat} (h : mainKey k = false) : s.mainReset.obj k = s.obj k := by
  rw [(mainReset_writes s).obj h, State.obj, State.mainCleared, nget_nfilterOut, h, Bool.false_and, if_neg Bool.false_ne_true, State.obj]

@[simp] theorem mainReset_mem : s.mainReset.mem = [] := by rw [(mainReset_writes s).only.eq, State.mainCleared]
@[simp] theorem mainReset_side : s.mainReset.side = [] := by rw [(mainReset_writes s).only.eq, State.mainCleared]
@[simp] theorem mainReset_cores : s.mainReset.cores = [] := by rw [(mainReset_writes s).only.eq, State.mainCleared]
@[simp] theorem mainReset_power : s.mainReset.power = s.power := by rw [(mainReset_writes s).only.eq, State.mainCleared]
@[simp] theorem mainReset_timeNs : s.mainReset.timeNs = s.timeNs := by rw [(mainReset_writes s).only.eq, State.mainCleared]

@[simp] theorem mainReset_retired : s.mainReset.mctl.retired = s.mctl.retired := by
  rw [(mainReset_writes s).only.eq, State.mainCleared]

@[simp] theorem mainReset_patrol :
    s.mainReset.patrol = { s.patrol with queue := s.patrol.queue.filter (fun m => !inbandMsg m) } := by
  rw [(mainReset_writes s).only.eq, State.mainCleared]

end

/-! ### STANDBY, and the loss of standby power (R649, R651, R653) -/

section
variable (s : State)

theorem toStandby_eq : s.toStandby = { s.mainReset with objs := (s.mainReset.setModule 0).objs, power := s.toStandby.power } := by
  simp only [State.toStandby, State.setModule, State.setObj]

@[simp] theorem toStandby_mem : s.toStandby.mem = [] := by rw [toStandby_eq, mainReset_mem]
@[simp] theorem toStandby_side : s.toStandby.side = [] := by rw [toStandby_eq, mainReset_side]
@[simp] theorem toStandby_cores : s.toStandby.cores = [] := by rw [toStandby_eq, mainReset_cores]
@[simp] theorem toStandby_retired : s.toStandby.mctl.retired = s.mctl.retired := by rw [toStandby_eq, mainReset_retired]

@[simp] theorem toStandby_patrol :
    s.toStandby.patrol = { s.patrol with queue := s.patrol.queue.filter (fun m => !inbandMsg m) } := by
  rw [toStandby_eq, mainReset_patrol]

@[simp] theorem toStandby_snapBody : s.toStandby.power.snapBody = s.power.snapBody := by
  simp only [State.toStandby, State.setModule, State.setObj, mainReset_power]

theorem toStandby_obj (k : Nat) : s.toStandby.obj k = (s.mainReset.setModule 0).obj k := by rw [State.obj, toStandby_eq, State.obj]

theorem toStandby_moduleState : s.toStandby.moduleState = 0 := by
  rw [State.moduleState, toStandby_obj, State.setModule, State.obj_setObj_same]

/-- The write of an image, cut off by a loss of power, leaves no valid image (R690). -/
def State.tornImage (s : State) : State :=
  if s.obj (kDev 0x1030 6) = 1 then s.setObj (kDev 0x1030 (2 + s.obj (kDev 0x1030 4))) 0 else s

theorem tornImage_objsOnly : ObjsOnly s s.tornImage := by
  unfold State.tornImage
  split
  · exact setObj_objsOnly ..
  · exact .refl s

theorem standbyLoss_eq : ∃ ob, s.standbyLoss = { s.toStandby with
    objs := nfilterOut (fun k => !mramKey k && !keptKey k) ob
    power := { State.reset.power with
      snapFailed := s.toStandby.power.snapFailed, snapBody := s.power.snapBody, snapHdr := s.toStandby.power.snapHdr }
    patrol := { s.patrol with
      restarting := false, working := false, heldEvents := [], heldLost := 0, snapFailHeld := false, kept := [], queue := [],
      written := 0, cut := s.standbyLoss.patrol.cut, on := false } } := by
  have heq : s.standbyLoss = { s.toStandby.tornImage with
      objs := nfilterOut (fun k => !mramKey k && !keptKey k) s.toStandby.tornImage.objs
      power := { State.reset.power with
        snapFailed := s.toStandby.tornImage.power.snapFailed, snapBody := s.toStandby.tornImage.power.snapBody,
        snapHdr := s.toStandby.tornImage.power.snapHdr }
      patrol := { s.toStandby.tornImage.patrol with
        restarting := false, working := false, heldEvents := [], heldLost := 0, snapFailHeld := false, kept := [], queue := [],
        written := 0, cut := s.standbyLoss.patrol.cut, on := false } } := by
    simp only [State.standbyLoss, State.tornImage]
  obtain ⟨ob, hob⟩ := tornImage_objsOnly s.toStandby
  refine ⟨ob, heq.trans ?_⟩
  simp only [hob, toStandby_snapBody, toStandby_patrol]

/-- An object that neither MRAM nor the retirement lists hold has its default after a loss of standby power. -/
theorem standbyLoss_default {k : Nat} (h : mramKey k = false) (hk : keptKey k = false) : s.standbyLoss.obj k = objDefault k := by
  obtain ⟨ob, hob⟩ := standbyLoss_eq s
  rw [hob, State.obj, nget_nfilterOut, h, hk]
  rfl

end

/-! ### The straps and the boot of Patrol (R643, R659, R708) -/

/-- Writes of objects that all differ: each reads what it was given, and every other object stays. -/
theorem setObjs_obj {l : List (Nat × Nat)} (hl : (l.map Prod.fst).Nodup) (s : State) (k : Nat) :
    (l.foldl (fun (s : State) p => s.setObj p.1 p.2) s).obj k = ((l.find? (fun p => p.1 = k)).map (·.2)).getD (s.obj k) := by
  induction l generalizing s with
  | nil => rfl
  | cons p l ih =>
    rw [List.map_cons, List.nodup_cons] at hl
    obtain ⟨hp, hl⟩ := hl
    rw [List.foldl_cons, ih hl]
    by_cases h : p.1 = k
    · have hnone : l.find? (fun p => p.1 = k) = none := List.find?_eq_none.2 fun q hq hk =>
        hp (List.mem_map.2 ⟨q, hq, (of_decide_eq_true hk).trans h.symm⟩)
      rw [hnone, List.find?_cons_of_pos (by simpa using h), ← h, State.obj_setObj_same]
      rfl
    · rw [List.find?_cons_of_neg (by simpa using h), State.obj_setObj_ne _ (Ne.symm h)]

/-- The objects that the straps give, with their values (R643, R708). -/
def strapObjs (v : Nat) : List (Nat × Nat) :=
  [(kDev 0x1020 1, fld v 19 14), (kDev 0x1020 2, fld v 13 9), (kDev 0x1020 3, fld v 8 7), (kDev 0x1020 4, fld v 6 6),
   (kDev 0x1020 5, fld v 5 5), (kDev 0x1020 6, fld v 4 4), (kDev 0x1020 7, fld v 3 2), (kDev 0x1020 8, fld v 1 0),
   (kDev 0x3010 1, (sagPreset (fld v 3 2)).1), (kDev 0x3011 1, (sagPreset (fld v 3 2)).2)]

section
variable (s : State) (v : Nat)

theorem sampleStraps_eq : s.sampleStraps v =
    let u := (strapObjs v).foldl (fun (s : State) p => s.setObj p.1 p.2) s
    if s.patrol.nodeSet then u else u.setObj (kDev 0x1010 5) (fld v 13 9) := rfl

theorem sampleStraps_objsOnly : ObjsOnly s (s.sampleStraps v) := by
  have h : ObjsOnly s ((strapObjs v).foldl (fun (s : State) p => s.setObj p.1 p.2) s) := ObjsOnly.foldl (fun s p => setObj_objsOnly ..) s _
  rw [sampleStraps_eq]
  dsimp only
  split
  · exact h
  · exact h.trans (setObj_objsOnly ..)

/-- Each strap is read where it was sampled, and every object but these and PLCA_NODE_ID stays. -/
theorem sampleStraps_obj {k : Nat} (h : k ≠ kDev 0x1010 5) : (s.sampleStraps v).obj k =
    (((strapObjs v).find? (fun p => p.1 = k)).map (·.2)).getD (s.obj k) := by
  have hlist : ((strapObjs v).foldl (fun (s : State) p => s.setObj p.1 p.2) s).obj k =
      (((strapObjs v).find? (fun p => p.1 = k)).map (·.2)).getD (s.obj k) := by
    refine setObjs_obj ?_ s k
    simp [strapObjs, kDev_inj]
  rw [sampleStraps_eq]
  dsimp only
  split
  · exact hlist
  · exact (State.obj_setObj_ne _ h _).trans hlist

end

/-- The image that Patrol comes to run as it boots (R659). -/
def bootImage (src : Nat) (good : Nat → Bool) : Nat :=
  let a := if src = 1 then 1 else 0
  if src = 2 then 2 else if good a then a else if good (1 - a) then 1 - a else 2

/-- The objects that Patrol's boot may write: of images, of its version, of the log and the port. -/
def bootIdx : List Nat := [0x1030, 0x1001, 0x4000, 0x1010]

section
variable {s : State}

theorem setObj_outside {k j : Nat} (hk : k / 256 ∉ bootIdx) (hj : j / 256 ∈ bootIdx) (v : Nat) : (s.setObj j v).obj k = s.obj k :=
  State.obj_setObj_ne s (fun h => hk (by rwa [h])) v

theorem event_outside {k : Nat} (hk : k / 256 ∉ bootIdx) (code sev ctx p0 p1 : Nat) : (s.event code sev ctx p0 p1).obj k = s.obj k :=
  event_obj _ _ _ _ _ _ ⟨fun h => hk (by rw [h]; decide), fun h => hk (by rw [h]; decide)⟩

theorem runImage_outside {k : Nat} (hk : k / 256 ∉ bootIdx) (i : Nat) : (s.runImage i).obj k = s.obj k := by
  rw [State.runImage, setObj_outside hk (by decide), setObj_outside hk (by decide)]

theorem imageFails_outside {k i : Nat} (hk : k / 256 ∉ bootIdx) (hi : i ≤ 1) : (s.imageFails i).obj k = s.obj k := by
  rw [State.imageFails, event_outside hk, setObj_outside hk (by rw [kDev_div (by omega)]; decide)]

theorem bootFrom_outside {k a : Nat} (hk : k / 256 ∉ bootIdx) (ha : a ≤ 1) (good : Nat → Bool) :
    (s.bootFrom good a).obj k = s.obj k := by
  have heq : s.bootFrom good a = if good a then s.runImage a else if good (1 - a) then (s.imageFails a).runImage (1 - a)
      else ((s.imageFails a).imageFails (1 - a)).runImage 2 := rfl
  rw [heq]
  split
  · exact runImage_outside hk _
  split
  · rw [runImage_outside hk, imageFails_outside hk ha]
  · rw [runImage_outside hk, imageFails_outside hk (by omega), imageFails_outside hk ha]

end

/-- An image passes its check where the operand of the power-up and the held bytes both do (log 107). -/
def State.bootGood (s : State) (okA okB : Bool) (i : Nat) : Bool := (if i = 0 then okA else okB) && s.imageGood i

/-- The versions of the images, as a boot reads them from flash (R659, R682). -/
def State.imagesRead (s : State) (good : Nat → Bool) : State :=
  (s.setObj (kDev 0x1030 2) (if good 0 then s.imageVersion 0 else 0)).setObj (kDev 0x1030 3) (if good 1 then s.imageVersion 1 else 0)

/-- The module as Patrol turns to its images: a strap of 3 is logged (R659). -/
def State.bootBegun (s : State) (good : Nat → Bool) : State :=
  if s.obj (kDev 0x1020 3) = 3 then (s.imagesRead good).event 0x04 1 0xFF 0 0 else s.imagesRead good

section
variable {s : State}

theorem imagesRead_outside {k : Nat} (hk : k / 256 ∉ bootIdx) (good : Nat → Bool) : (s.imagesRead good).obj k = s.obj k := by
  rw [State.imagesRead, setObj_outside hk (by decide), setObj_outside hk (by decide)]

theorem bootBegun_outside {k : Nat} (hk : k / 256 ∉ bootIdx) (good : Nat → Bool) : (s.bootBegun good).obj k = s.obj k := by
  unfold State.bootBegun
  split
  · rw [event_outside hk, imagesRead_outside hk]
  · exact imagesRead_outside hk good

theorem bootBegun_leaves (h : s.patrol.restarting = false) (good : Nat → Bool) :
    NoticeOnly s (s.bootBegun good) ∧ ∃ l, (s.bootBegun good).patrol = { s.patrol with log := l } := by
  have hread : NoticeOnly s (s.imagesRead good) := ⟨_, _, _, _, rfl⟩
  unfold State.bootBegun
  split
  · exact ⟨hread.trans (event_noticeOnly ..), (event_logged (s := s.imagesRead good) h ..).patrol⟩
  · exact ⟨hread, _, rfl⟩

theorem boot_eq (okA okB : Bool) : s.boot okA okB =
    if s.obj (kDev 0x1020 3) = 2 then (s.imagesRead (s.bootGood okA okB)).runImage 2
    else (s.bootBegun (s.bootGood okA okB)).bootFrom (s.bootGood okA okB) (if s.obj (kDev 0x1020 3) = 1 then 1 else 0) := rfl

theorem boot_outside {k : Nat} (hk : k / 256 ∉ bootIdx) (okA okB : Bool) : (s.boot okA okB).obj k = s.obj k := by
  rw [boot_eq]
  split
  · rw [runImage_outside hk, imagesRead_outside hk]
  · rw [bootFrom_outside hk (by split <;> omega), bootBegun_outside hk]

theorem boot_boots (h : s.patrol.restarting = false) (okA okB : Bool) :
    Boots s (s.boot okA okB) (bootImage (s.obj (kDev 0x1020 3)) (s.bootGood okA okB)) := by
  rw [boot_eq, bootImage]
  split
  · exact runImage_boots ⟨_, _, _, _, rfl⟩ ⟨_, rfl⟩ 2
  · obtain ⟨hnotice, l, hl⟩ := bootBegun_leaves h (s.bootGood okA okB)
    have hawake : (s.bootBegun (s.bootGood okA okB)).patrol.restarting = false := by
      rw [hl]
      exact h
    obtain ⟨hn, ⟨m, hm⟩, hrun⟩ := bootFrom_boots hawake (s.bootGood okA okB) (if s.obj (kDev 0x1020 3) = 1 then 1 else 0)
    exact ⟨hnotice.trans hn, ⟨m, by rw [hm, hl]⟩, hrun⟩

end

/-! ### Standby power comes up (R429, R643, R659) -/

/-- Patrol has power, and module time is 0 (R656, R659). -/
def State.patrolOn (s : State) : State := { s with timeNs := 0, patrol := { s.patrol with on := true } }

theorem patrolOn_obj (s : State) (k : Nat) : s.patrolOn.obj k = s.obj k := rfl

/-- The module as its standby domain comes up, before Patrol boots: module time is 0 and the straps have given their defaults. -/
def State.strapped (s : State) (v : Nat) : State := (s.standbyLoss.patrolOn.sampleStraps v).mainReset

/-- A snapshot that was cut off is logged at the next boot (R649). -/
def State.cutSnapLogged (s : State) : State :=
  if s.power.snapFailed then
    ({ s with power := { s.power with snapFailed := false } } : State).event 0x14 3 0xFF (s.obj (kDev 0x3050 2)) 0
  else s

theorem standbyUp_eq (s : State) (v : Nat) (okA okB : Bool) :
    s.standbyUp v okA okB = ((s.strapped v).boot okA okB).plcaJoin.cutSnapLogged := by
  unfold State.standbyUp State.strapped State.cutSnapLogged State.patrolOn
  rfl

section
variable (s : State)

theorem cutSnapLogged_obj {k : Nat} (hk : k / 256 ≠ 0x4000 ∧ k / 256 ≠ 0x1010) : s.cutSnapLogged.obj k = s.obj k := by
  unfold State.cutSnapLogged
  split
  · rw [event_obj _ _ _ _ _ _ hk, State.obj, State.obj]
  · rfl

theorem cutSnapLogged_leaves (h : s.patrol.restarting = false) :
    (∃ f, NoticeOnly { s with power := { s.power with snapFailed := f } } s.cutSnapLogged) ∧
      ∃ l, s.cutSnapLogged.patrol = { s.patrol with log := l } := by
  unfold State.cutSnapLogged
  split
  · exact ⟨⟨false, event_noticeOnly ..⟩,
      (event_logged (s := { s with power := { s.power with snapFailed := false } }) h ..).patrol⟩
  · exact ⟨⟨s.power.snapFailed, .refl s⟩, _, rfl⟩

variable (v : Nat)

theorem strapped_patrol : (s.strapped v).patrol = { s.standbyLoss.patrol with
    on := true, queue := s.standbyLoss.patrol.queue.filter (fun m => !inbandMsg m) } := by
  rw [State.strapped, mainReset_patrol, (sampleStraps_objsOnly _ v).eq, State.patrolOn]

theorem strapped_mem : (s.strapped v).mem = [] := mainReset_mem _
theorem strapped_cores : (s.strapped v).cores = [] := mainReset_cores _

theorem strapped_timeNs : (s.strapped v).timeNs = 0 := by
  rw [State.strapped, mainReset_timeNs, (sampleStraps_objsOnly _ v).eq, State.patrolOn]

theorem strapped_power : (s.strapped v).power = s.standbyLoss.power := by
  rw [State.strapped, mainReset_power, (sampleStraps_objsOnly _ v).eq, State.patrolOn]

theorem strapped_obj {k : Nat} (hmain : mainKey k = false) (h : k ≠ kDev 0x1010 5) : (s.strapped v).obj k =
    (((strapObjs v).find? (fun p => p.1 = k)).map (·.2)).getD (s.standbyLoss.obj k) := by
  rw [State.strapped, mainReset_obj _ hmain, sampleStraps_obj _ _ h, patrolOn_obj]

theorem strapped_bootGood (okA okB : Bool) (i : Nat) :
    (s.strapped v).bootGood okA okB i = ((if i = 0 then okA else okB) && s.standbyLoss.imageGood i) := by
  rw [State.bootGood, State.imageGood, strapped_patrol, State.imageGood]

end

section
variable (s : State)

/-! ### What a loss of standby power leaves -/

theorem standbyLoss_mem : s.standbyLoss.mem = [] := by
  obtain ⟨_, h⟩ := standbyLoss_eq s
  rw [h, toStandby_mem]

theorem standbyLoss_side : s.standbyLoss.side = [] := by
  obtain ⟨_, h⟩ := standbyLoss_eq s
  rw [h, toStandby_side]

theorem standbyLoss_cores : s.standbyLoss.cores = [] := by
  obtain ⟨_, h⟩ := standbyLoss_eq s
  rw [h, toStandby_cores]

theorem standbyLoss_retired : s.standbyLoss.mctl.retired = s.mctl.retired := by
  obtain ⟨_, h⟩ := standbyLoss_eq s
  rw [h, toStandby_retired]

theorem standbyLoss_moduleState : s.standbyLoss.moduleState = 0 := standbyLoss_default s rfl rfl

theorem standbyLoss_snapBody : s.standbyLoss.power.snapBody = s.power.snapBody := by
  obtain ⟨_, h⟩ := standbyLoss_eq s
  rw [h]

theorem standbyLoss_inputLow : s.standbyLoss.power.inputLow = true := by
  obtain ⟨_, h⟩ := standbyLoss_eq s
  rw [h]
  rfl

theorem standbyLoss_patrol : s.standbyLoss.patrol = { s.patrol with
    restarting := false, working := false, heldEvents := [], heldLost := 0, snapFailHeld := false, kept := [], queue := [],
    written := 0, cut := s.standbyLoss.patrol.cut, on := false } := by
  obtain ⟨_, h⟩ := standbyLoss_eq s
  exact congrArg State.patrol h

/-! ### What its return leaves -/

variable (v : Nat) (okA okB : Bool)

theorem strapped_awake : (s.strapped v).patrol.restarting = false := by
  rw [strapped_patrol, standbyLoss_patrol]

theorem plcaJoin_outside {k : Nat} (hk : k ≠ kDev 0x1010 7) : s.plcaJoin.obj k = s.obj k := State.obj_setObj_ne s hk _

theorem noticeOnly_snapFailed {s u : State} (h : NoticeOnly s u) (f : Bool) :
    NoticeOnly { s with power := { s.power with snapFailed := f } } { u with power := { u.power with snapFailed := f } } := by
  obtain ⟨_, _, _, _, rfl⟩ := h
  exact ⟨_, _, _, _, rfl⟩

/-- Of the module that the straps have set up, the boot and what it logs leave all but objects, the log and its notices. -/
theorem standbyUp_leaves : (∃ f, NoticeOnly { s.strapped v with power := { (s.strapped v).power with snapFailed := f } }
      (s.standbyUp v okA okB)) ∧
    ∃ l, (s.standbyUp v okA okB).patrol = { (s.strapped v).patrol with log := l } := by
  obtain ⟨hboot, ⟨l, hl⟩, _⟩ := boot_boots (strapped_awake s v) okA okB
  obtain ⟨⟨f, hf⟩, m, hm⟩ := cutSnapLogged_leaves ((s.strapped v).boot okA okB).plcaJoin (by
    rw [State.plcaJoin, State.setObj, hl, strapped_awake s v])
  rw [standbyUp_eq]
  refine ⟨⟨f, .trans ?_ hf⟩, m, ?_⟩
  · exact noticeOnly_snapFailed (hboot.trans (setObj_noticeOnly ..)) f
  · rw [hm, State.plcaJoin, State.setObj, hl]

theorem standbyUp_obj {k : Nat} (hmain : mainKey k = false) (hk : k / 256 ∉ bootIdx) : (s.standbyUp v okA okB).obj k =
    (((strapObjs v).find? (fun p => p.1 = k)).map (·.2)).getD (s.standbyLoss.obj k) := by
  have hlog : k / 256 ≠ 0x4000 ∧ k / 256 ≠ 0x1010 := ⟨fun h => hk (by rw [h]; decide), fun h => hk (by rw [h]; decide)⟩
  have hport : ∀ sub < 256, k ≠ kDev 0x1010 sub := fun sub hsub h => hlog.2 (by rw [h, kDev_div hsub])
  rw [standbyUp_eq, cutSnapLogged_obj _ hlog, plcaJoin_outside _ (hport 7 (by omega)), boot_outside hk,
    strapped_obj s v hmain (hport 5 (by omega))]

theorem strapped_src : (s.strapped v).obj (kDev 0x1020 3) = fld v 8 7 := by
  rw [strapped_obj s v (by decide) (by decide)]
  rfl

theorem standbyUp_running : (s.standbyUp v okA okB).obj (kDev 0x1030 1) =
    bootImage (fld v 8 7) (fun i => (if i = 0 then okA else okB) && s.standbyLoss.imageGood i) := by
  have hgood : (s.strapped v).bootGood okA okB = fun i => (if i = 0 then okA else okB) && s.standbyLoss.imageGood i :=
    funext (strapped_bootGood s v okA okB)
  rw [standbyUp_eq, cutSnapLogged_obj _ (by decide), plcaJoin_outside _ (by decide),
    (boot_boots (strapped_awake s v) okA okB).running, hgood, strapped_src]

theorem standbyUp_moduleState : (s.standbyUp v okA okB).moduleState = 0 := by
  have hnone : (strapObjs v).find? (fun p => p.1 = kDev 0x3001 1) = none := rfl
  rw [State.moduleState, standbyUp_obj s v okA okB (by decide) (by decide), hnone, Option.map_none, Option.getD_none,
    ← State.moduleState, standbyLoss_moduleState]

theorem standbyUp_fields : (s.standbyUp v okA okB).power.inputLow = true ∧ (s.standbyUp v okA okB).timeNs = 0 ∧
    (s.standbyUp v okA okB).mem = [] ∧ (s.standbyUp v okA okB).cores = [] ∧ (s.standbyUp v okA okB).patrol.on = true := by
  obtain ⟨⟨f, hf⟩, l, hl⟩ := standbyUp_leaves s v okA okB
  refine ⟨?_, ?_, ?_, ?_, ?_⟩
  · rw [hf.eq, strapped_power]
    exact standbyLoss_inputLow s
  · rw [hf.eq, strapped_timeNs]
  · rw [hf.eq, strapped_mem]
  · rw [hf.eq, strapped_cores]
  · rw [hl, strapped_patrol]

end

section
variable (s : State) (v : Nat) (okA okB : Bool)

/-- A strap, and what it gives a default, reads as it was sampled. -/
theorem standbyUp_strap {k w : Nat} (hmain : mainKey k = false) (hk : k / 256 ∉ bootIdx)
    (h : (strapObjs v).find? (fun p => p.1 = k) = some (k, w)) : (s.standbyUp v okA okB).obj k = w := by
  rw [standbyUp_obj s v okA okB hmain hk, h, Option.map_some, Option.getD_some]

/-- Every object that the straps give. -/
theorem standbyUp_straps : (s.standbyUp v okA okB).obj (kDev 0x1020 1) = fld v 19 14 ∧
    (s.standbyUp v okA okB).obj (kDev 0x1020 2) = fld v 13 9 ∧ (s.standbyUp v okA okB).obj (kDev 0x1020 3) = fld v 8 7 ∧
    (s.standbyUp v okA okB).obj (kDev 0x1020 4) = fld v 6 6 ∧ (s.standbyUp v okA okB).obj (kDev 0x1020 5) = fld v 5 5 ∧
    (s.standbyUp v okA okB).obj (kDev 0x1020 6) = fld v 4 4 ∧ (s.standbyUp v okA okB).obj (kDev 0x1020 7) = fld v 3 2 ∧
    (s.standbyUp v okA okB).obj (kDev 0x1020 8) = fld v 1 0 ∧
    (s.standbyUp v okA okB).obj (kDev 0x3010 1) = (sagPreset (fld v 3 2)).1 ∧
    (s.standbyUp v okA okB).obj (kDev 0x3011 1) = (sagPreset (fld v 3 2)).2 := by
  have hread := fun {k w : Nat} => standbyUp_strap s v okA okB (k := k) (w := w)
  exact ⟨hread (by decide) (by decide) rfl, hread (by decide) (by decide) rfl, hread (by decide) (by decide) rfl,
    hread (by decide) (by decide) rfl, hread (by decide) (by decide) rfl, hread (by decide) (by decide) rfl,
    hread (by decide) (by decide) rfl, hread (by decide) (by decide) rfl, hread (by decide) (by decide) rfl,
    hread (by decide) (by decide) rfl⟩

end

section
variable {src : Nat} {good : Nat → Bool}

theorem bootImage_recovery (h : src = 2) : bootImage src good = 2 := if_pos h

/-- Patrol prefers image B where the strap says so, else image A (R659). -/
theorem bootImage_of_ne (h : src ≠ 2) : bootImage src good =
    if src = 1 then (if good 1 then 1 else if good 0 then 0 else 2) else if good 0 then 0 else if good 1 then 1 else 2 := by
  rw [bootImage, if_neg h]
  split <;> rfl

end

/-! ### The ramp (R635, R657, R664) -/

section
variable (s : State)

/-- The ramp begins in a main domain that holds nothing. -/
theorem rampBegins : (s.mainReset.clearResults.setModule 1).moduleState = 1 ∧ (s.mainReset.clearResults.setModule 1).mem = [] ∧
    (s.mainReset.clearResults.setModule 1).side = [] ∧ (s.mainReset.clearResults.setModule 1).cores = [] ∧
    (s.mainReset.clearResults.setModule 1).patrol.log = s.patrol.log := by
  refine ⟨State.obj_setObj_same .., ?_, ?_, ?_, ?_⟩
  · rw [State.setModule, State.setObj, State.clearResults, mainReset_mem]
  · rw [State.setModule, State.setObj, State.clearResults, mainReset_side]
  · rw [State.setModule, State.setObj, State.clearResults, mainReset_cores]
  · rw [State.setModule, State.setObj, State.clearResults, mainReset_patrol]

theorem railFault_stays {r : Nat} (h : s.moduleState ≠ 1 ∨ r = 0) : s.railFault r = s := if_pos h

theorem railFault_state {r : Nat} (h : s.moduleState = 1) (hr : r ≠ 0) :
    (s.railFault r).moduleState = if r ≤ 2 then 0 else 5 := by
  rw [State.railFault, if_neg (by rw [not_or]; exact ⟨not_not.2 h, hr⟩)]
  split
  · rw [State.moduleState, event_obj _ _ _ _ _ _ (by decide), ← State.moduleState, toStandby_moduleState]
  · exact toLodge_state ..

end

/-! ### Lodge and its controls (R663) -/

section
variable {s : State}

theorem acceptReduced_taken (h : s.moduleState = 5) (ho : s.power.otherFail = false)
    (hc : (List.range 12).all (fun cl => s.obj (kDev 0x4101 (cl + 1)) % 256 ≠ fuses cl) = true) :
    s.acceptReduced true = ((s.setObj (kDev 0x4100 3) 1).toReady, stOk) := by
  have hany : (List.range 12).any (fun cl => s.obj (kDev 0x4101 (cl + 1)) % 256 = fuses cl) = false := by
    rw [List.any_eq_false]
    intro cl hcl
    simpa using List.all_eq_true.1 hc cl hcl
  simp only [State.acceptReduced, h, ho, hany, Bool.not_true, Bool.false_eq_true, ne_eq, not_true_eq_false, decide_false, Bool.or_self,
    if_false]

theorem acceptReduced_refused (h : s.moduleState ≠ 5 ∨ s.power.otherFail = true ∨
      (List.range 12).any (fun cl => s.obj (kDev 0x4101 (cl + 1)) % 256 = fuses cl) = true) :
    s.acceptReduced true = (s, stState) := by
  have hguard : (s.moduleState ≠ 5 || s.power.otherFail ||
      (List.range 12).any (fun cl => s.obj (kDev 0x4101 (cl + 1)) % 256 = fuses cl)) = true := by
    rw [Bool.or_eq_true, Bool.or_eq_true, decide_eq_true_eq, or_assoc]
    exact h
  unfold State.acceptReduced
  rw [if_neg (by decide), if_pos hguard]

/-- READY with cores fenced: memory stays, and a core reads IDLE, or FENCED where it failed. -/
theorem acceptReduced_leaves (s : State) : let u := (s.setObj (kDev 0x4100 3) 1).toReady
    u.moduleState = 3 ∧ u.obj (kDev 0x4100 3) = 1 ∧ BytesStay s u ∧ ∀ cl < 12, ∀ k < 8, bitAt (fuses cl) k = true →
      u.siteState cl k = if bitAt (s.obj (kDev 0x4101 (cl + 1))) k then 3 else 1 := by
  refine ⟨toReady_state _, ?_, byte_of_mem (toReady_noticeOnly _).mem, fun cl hcl k hk hfuse => ?_⟩
  · rw [toReady_obj _ (by decide), State.obj_setObj_same]
  · rw [toReady_siteState _ hcl hk hfuse, State.obj_setObj_ne _ (by unfold kDev objKey; omega)]

end

/-! ### The writes of POWER_CTRL (R642, R658) -/

section
variable {s : State}

/-- The sensors hold the module in its trip while one of them reads above its limit. -/
theorem powerCtrl_on (s : State) : s.powerCtrl true =
    if s.power.tripped && !(List.range 50).all (fun i => s.temp i ≤ s.throttleAt i - 1000) then (s, stState)
    else (({ s with power := { s.power with tripped := false } } : State).setObj (kDev 0x3001 2) 1, stOk) := rfl

theorem powerCtrl_off (s : State) :
    s.powerCtrl false = if s.anyCtxActive then (s, stState) else (s.toStandby.setObj (kDev 0x3001 2) 0, stOk) := by
  unfold State.powerCtrl
  rfl

theorem powerCtrl_untripped (h : s.power.tripped = false) : s.powerCtrl true = (s.setObj (kDev 0x3001 2) 1, stOk) := by
  have hsame : ({ s with power := { s.power with tripped := false } } : State) = s := by rw [← h]
  rw [powerCtrl_on, h, hsame, Bool.false_and, if_neg Bool.false_ne_true]

theorem powerCtrl_hot (h : s.power.tripped = true)
    (hot : (List.range 50).any (fun i => s.throttleAt i - 1000 < s.temp i) = true) : s.powerCtrl true = (s, stState) := by
  have hall : (List.range 50).all (fun i => s.temp i ≤ s.throttleAt i - 1000) = false := by
    obtain ⟨i, hi, hlt⟩ := List.any_eq_true.1 hot
    exact List.all_eq_false.2 ⟨i, hi, by simpa using hlt⟩
  rw [powerCtrl_on, h, hall]
  rfl

theorem powerCtrl_cool (hall : (List.range 50).all (fun i => s.temp i ≤ s.throttleAt i - 1000) = true) : s.powerCtrl true =
    (({ s with power := { s.power with tripped := false } } : State).setObj (kDev 0x3001 2) 1, stOk) := by
  rw [powerCtrl_on, hall, Bool.not_true, Bool.and_false, if_neg Bool.false_ne_true]

theorem powerOff_leaves (s : State) : let u := s.toStandby.setObj (kDev 0x3001 2) 0
    u.moduleState = 0 ∧ u.obj (kDev 0x3001 2) = 0 ∧ u.mem = [] := by
  refine ⟨?_, State.obj_setObj_same .., ?_⟩
  · rw [State.moduleState, State.obj_setObj_ne _ (by decide), ← State.moduleState, toStandby_moduleState]
  · rw [State.setObj, toStandby_mem]

theorem powerUp_stays (h : s.moduleState ≠ 0 ∨ s.patrol.on = false ∨ s.obj (kDev 0x3001 2) ≠ 1 ∨ s.power.inputLow = true ∨
      s.power.tripped = true ∨ s.obj (kDev 0x1030 1) = 2 ∨ s.patrol.restarting = true) : s.powerUp = s := by
  refine if_neg fun hgo => ?_
  simp only [Bool.and_eq_true, Bool.not_eq_true', decide_eq_true_eq] at hgo
  obtain ⟨⟨⟨⟨⟨⟨hst, hon⟩, hctrl⟩, hlow⟩, htrip⟩, hrec⟩, hawake⟩ := hgo
  simp [hst, hon, hctrl, hlow, htrip, hrec, hawake] at h

theorem powerUp_ramps (hst : s.moduleState = 0) (hon : s.patrol.on = true) (hctrl : s.obj (kDev 0x3001 2) = 1)
    (hlow : s.power.inputLow = false) (htrip : s.power.tripped = false) (hrec : s.obj (kDev 0x1030 1) ≠ 2)
    (hawake : s.patrol.restarting = false) : s.powerUp = s.mainReset.clearResults.setModule 1 := by
  refine if_pos ?_
  simp [hst, hon, hctrl, hlow, htrip, hrec, hawake]

end

/-- Settles O50: the boot by `standbyUp_obj` and `standbyUp_running`, the ramp by `rampBegins`, the results of self-test by
`selftestDone_marks`, `selftestDone_passed` and `selftestDone_failed`; the controls by what their guards decide. -/
theorem powerUpLeadsToReady : Obligations.PowerUpLeadsToReady := by
  have hnext : ∀ {a b : State}, a = b → (Host.Outcome.next a : Host.Outcome State Fault Refusal) = .next b := fun h => congrArg _ h
  have hwrote : ∀ {a b : State × Nat}, a = b → (Host.Outcome.next (written a) : Host.Outcome State Fault Refusal) = .next (written b) :=
    fun h => congrArg (fun r => Host.Outcome.next (written r)) h
  have hdone : ∀ {a : State × Nat} {b : State}, a = (b, stOk) → (Host.Outcome.next (written a) : Host.Outcome State Fault Refusal) = .next b :=
    fun h => hwrote h
  refine ⟨fun s => ?_, fun s straps a b => ?_, fun s hst hon hctrl hlow htrip hrec hawake => ?_, fun s h => ?_, fun s r => ⟨?_, ?_⟩,
    fun s => ⟨?_, ?_⟩, fun s r h => ?_, fun s r h => ⟨_, rfl, selftestDone_marks h⟩, fun s r h => ⟨?_, ?_⟩, fun s => ⟨rfl, rfl⟩,
    fun s h ho hc => ?_, fun s h => ?_, fun s => ⟨?_, ?_⟩, fun s => ⟨?_, ?_, ?_, ?_, ?_⟩, fun s v => ⟨?_, ?_⟩⟩
  · refine ⟨_, rfl, standbyLoss_mem s, standbyLoss_side s, standbyLoss_cores s, standbyLoss_moduleState s, ?_, ?_, ?_, ?_, ?_, ?_,
      standbyLoss_snapBody s, standbyLoss_retired s, standbyLoss_inputLow s⟩ <;> rw [standbyLoss_patrol]
  · intro v goodA goodB
    obtain ⟨hlow, htime, hmem, hcores, hon⟩ := standbyUp_fields s v a b
    obtain ⟨h1, h2, h3, h4, h5, h6, h7, h8, hw, hr⟩ := standbyUp_straps s v a b
    have hrun := standbyUp_running s v a b
    have hA : ((if (0 : Nat) = 0 then a else b) && s.standbyLoss.imageGood 0) = goodA := rfl
    have hB : ((if (1 : Nat) = 0 then a else b) && s.standbyLoss.imageGood 1) = goodB := rfl
    refine ⟨s.standbyUp v a b, rfl, hlow, htime, hmem, hcores, standbyUp_moduleState s v a b, hon, h1, h2, h3, h4, h5, h6, h7, h8, hw, hr,
      fun h => hrun.trans (bootImage_recovery h), fun h => ?_, fun h => ?_, fun hfA hfB => ?_⟩
    · rw [hrun, bootImage_of_ne (by omega), if_neg (by omega), hA, hB]
      exact ⟨fun h0 => if_pos h0, fun h0 h1 => by rw [h0, h1]; rfl⟩
    · rw [hrun, bootImage_of_ne (by omega), if_pos h, hA, hB]
      exact ⟨fun h1 => if_pos h1, fun h1 h0 => by rw [h0, h1]; rfl⟩
    · rw [hrun]
      by_cases h : fld v 8 7 = 2
      · exact bootImage_recovery h
      · rw [bootImage_of_ne h, hA, hB, hfA, hfB]
        split <;> rfl
  · exact ⟨_, hnext (powerUp_ramps hst hon hctrl hlow htrip hrec hawake), rampBegins s⟩
  · exact hnext (powerUp_stays h)
  · exact fun h => hnext (railFault_stays s h)
  · exact fun h hr => ⟨_, rfl, railFault_state s h hr⟩
  · exact fun h => ⟨_, hnext (if_neg (not_not.2 h)), setObj_setObj_objWrite s (by decide) _ _⟩
  · exact fun h => hnext (if_pos h)
  · exact hnext (if_pos h)
  · exact fun hc ho => ⟨_, rfl, selftestDone_passed h hc ho⟩
  · exact fun hf => ⟨_, rfl, selftestDone_failed h hf⟩
  · exact ⟨(s.setObj (kDev 0x4100 3) 1).toReady, hdone (acceptReduced_taken h ho hc), acceptReduced_leaves s⟩
  · exact hwrote (acceptReduced_refused h)
  · intro h
    obtain ⟨hst, hmem, _, hcores, _⟩ := rampBegins s
    exact ⟨_, hdone ((if_neg (by decide)).trans (if_neg (not_not.2 h))), hst, hmem, hcores⟩
  · exact fun h => hwrote ((if_neg (by decide)).trans (if_pos h))
  · exact fun h => ⟨_, hdone (powerCtrl_untripped h), setObj_objWrite ..⟩
  · exact fun h hot => hwrote (powerCtrl_hot h hot)
  · exact fun _ hcool => ⟨_, hdone (powerCtrl_cool hcool), rfl, (setObj_objWrite ..).2⟩
  · exact fun h => hwrote ((powerCtrl_off s).trans (if_pos h))
  · exact fun h => ⟨_, hdone ((powerCtrl_off s).trans (if_neg (by rw [h]; exact Bool.false_ne_true))), powerOff_leaves s⟩
  · exact fun h => hwrote (if_neg (by rw [h]; exact Bool.false_ne_true))
  · exact fun h => hwrote (if_pos h)

end Sys2Proof.Machine
end

section
/-! PROOFS. A queue's relay counter that is written whole: LIMIT doorbells and queue bindings (R453, R454, R461, R463, R697). -/

namespace Sys2Proof.Machine

open Sys2Proof.Claims

/-! ### A relay counter that is written -/

@[simp] theorem setRelay_objs (s : State) (cl q next limit : Nat) (ex : Bool) : (s.setRelay cl q next limit ex).objs = s.objs := by
  obtain ⟨_, h⟩ := setRelay_memOnly s cl q next limit ex
  rw [h]

section
variable (s : State) (cl q next : Nat) {limit : Nat} (ex : Bool)

/-- The word with LIMIT and EXHAUSTED (R461). -/
theorem limitWord_setRelay (h : limit < 2 ^ 31) :
    (s.setRelay cl q next limit ex).word (relayPa cl q + 4) 4 = limit + b2n ex * 2 ^ 31 := by
  rw [State.setRelay, word_putWord_same, Nat.mod_eq_of_lt]
  cases ex <;> simp only [b2n, Bool.false_eq_true, if_false, if_true] <;> omega

theorem qLimit_setRelay_same (h : limit < 2 ^ 31) : (s.setRelay cl q next limit ex).qLimit cl q = limit := by
  rw [State.qLimit, limitWord_setRelay s cl q next ex h, Nat.add_mul_mod_self_right, Nat.mod_eq_of_lt h]

theorem qExhausted_setRelay_same (h : limit < 2 ^ 31) : (s.setRelay cl q next limit ex).qExhausted cl q = ex := by
  rw [State.qExhausted, limitWord_setRelay s cl q next ex h]
  cases ex with
  | false => exact decide_eq_false (by simp only [b2n, Bool.false_eq_true, if_false]; omega)
  | true => exact decide_eq_true (by simp only [b2n, if_true]; omega)

theorem setRelay_bytesOutside (limit : Nat) : BytesOutside s (s.setRelay cl q next limit ex) (relayPa cl q) 8 := fun b hb => by
  rw [State.setRelay, byte_putWord_outside _ _ _ _ _ (by omega), byte_putWord_outside _ _ _ _ _ (by omega)]

theorem qNext_lt : s.qNext cl q < 2 ^ 32 := by
  have hbound := Tests.leNat_bound (s.bytes (relayPa cl q) 4)
  rwa [State.bytes, ngetRun, List.length_map, List.length_range] at hbound

end

/-! ### The doorbell of a queue (R454, R697, R698) -/

section
variable {s : State} {fn cl q v : Nat}

theorem through_served {f : Nat} {win read : Bool} (h : s.gate f win = .served) (k : State → State) :
    s.through f win read k = k s := by
  rw [State.through, h]

/-- A doorbell that its function may ring with a value that LIMIT takes. -/
theorem doorbellLimit_taken (hv : v ≤ 0x7FFFFFFF) (hl : s.qLimit cl q ≤ v) (ho : s.ownsCtx fn (s.qCtx cl q) = true) :
    s.doorbellLimit fn cl q v =
      s.setRelay cl q (s.qNext cl q) v (s.qExhausted cl q && decide (v = s.qLimit cl q)) := by
  simp only [State.doorbellLimit, State.setLimit, Nat.not_lt.2 hv, Nat.not_lt.2 hl, if_false, ho, decide_true, Bool.and_self, if_true]

theorem doorbellLimit_dropped (h : 0x7FFFFFFF < v ∨ v < s.qLimit cl q ∨ s.ownsCtx fn (s.qCtx cl q) = false) :
    s.doorbellLimit fn cl q v = s.cnt16 (kDev 0x1050 6) 1 := by
  refine if_neg fun hgo => ?_
  rw [Bool.and_eq_true, decide_eq_true_eq] at hgo
  obtain ⟨howns, hok⟩ := hgo
  unfold State.setLimit at hok
  split_ifs at hok with hrange hstate
  · cases hok
  · cases hok
  · rcases h with h | h | h
    · exact hrange h
    · exact hstate h
    · exact Bool.false_ne_true (h.symm.trans howns)

end

/-! ### The binding of a queue (R453) -/

section
variable {s : State} {cl q v : Nat}

theorem bindQueue_idle (hv : v = 0xFF ∨ v ≤ 63) (h : s.queueIdle cl q = true) :
    written (s.bindQueue cl q v) = (s.setObj (kQ cl q 1) v).setRelay cl q 0 0 false := by
  have hrange : ¬(v ≠ 0xFF ∧ 63 < v) := by omega
  simp only [State.bindQueue, hrange, h, Bool.not_true, Bool.false_eq_true, if_false, written, if_true]

theorem bindQueue_open (hv : v = 0xFF ∨ v ≤ 63) (h : s.queueIdle cl q = false) :
    written (s.bindQueue cl q v) = s.emit (.refused stState) := by
  have hrange : ¬(v ≠ 0xFF ∧ 63 < v) := by omega
  simp only [State.bindQueue, hrange, h, Bool.not_false, if_false, if_true, written]
  rfl

end

/-! ### The obligation -/

/-- Settles O27: a doorbell by whether its function may ring it with that value, a binding by whether the queue holds anything; both
write the queue's relay counter whole. -/
theorem queueObjectsAreWritten : Obligations.QueueObjectsAreWritten := by
  refine ⟨fun s fn cl q v hgate => ⟨fun hv hl ho => ?_, fun h => ?_⟩, fun s cl q v => ⟨fun hv hidle => ?_, fun hv hopen => ?_⟩⟩
  · refine ⟨_, congrArg Host.Outcome.next ((through_served hgate _).trans (doorbellLimit_taken hv hl ho)),
      qLimit_setRelay_same _ _ _ _ _ (by omega), ?_, qExhausted_setRelay_same _ _ _ _ _ (by omega),
      fun b hb => setRelay_bytesOutside s _ _ _ _ _ b hb, setRelay_objs ..⟩
    rw [qNext_setRelay_same, Nat.mod_eq_of_lt (qNext_lt ..)]
  · exact congrArg Host.Outcome.next ((through_served hgate _).trans (doorbellLimit_dropped h))
  · refine ⟨_, congrArg Host.Outcome.next (bindQueue_idle hv hidle), ?_, qNext_setRelay_same ..,
      qLimit_setRelay_same _ _ _ _ _ (by decide), qExhausted_setRelay_same _ _ _ _ _ (by decide),
      fun b hb => setRelay_bytesOutside (s.setObj _ _) _ _ _ _ _ b hb⟩
    rw [State.qCtx, State.obj, setRelay_objs]
    exact State.obj_setObj_same s _ _
  · exact congrArg Host.Outcome.next (bindQueue_open hv hopen)

end Sys2Proof.Machine
end

section
/-! PROOFS. Leases are renewed in a WAIT and expire in a scan, and their positions then wait for re-issue (R284, R467, R469, R472). -/

namespace Sys2Proof.Machine

open Sys2Proof.Claims

/-! ### Lease tables and lists of positions -/

/-- The dispatchers' state differs; nothing else does. -/
def DispOnly (s u : State) : Prop := u = { s with disp := u.disp }

theorem DispOnly.refl (s : State) : DispOnly s s := rfl

theorem DispOnly.trans {s u v : State} (h : DispOnly s u) (k : DispOnly u v) : DispOnly s v := by
  rw [DispOnly] at h k ⊢
  rw [k, h]

theorem modLease_dispOnly (s : State) (cl q : Nat) (plan : Option Nat) (pos : Nat) (f : Lease → Lease) :
    DispOnly s (s.modLease cl q plan pos f) := rfl

theorem modLease_leases_ne (s : State) {cl c : Nat} (h : c ≠ cl) (q : Nat) (plan : Option Nat) (pos : Nat) (f : Lease → Lease) :
    (s.modLease cl q plan pos f).leases c = s.leases c := nget_nmod_ne _ _ h _

theorem queue_modQueue_ne (s : State) {cl q q' : Nat} (h : q ≠ q') (f : Queue → Queue) :
    (s.modQueue cl q' f).queue cl q = s.queue cl q := nget_nmod_ne _ _ (by omega) _

/-- Change the plans named `id'`: a plan of another name stays. -/
theorem plan_modPlan_ne {s : State} {id id' : Nat} (h : id ≠ id') {f : Plan → Plan} (hf : ∀ y, (f y).id = y.id) :
    (s.modPlan id' f).plan id = s.plan id := by
  have hsame : ((fun y : Plan => decide (y.id = id)) ∘ fun y => if y.id = id' then f y else y) = fun y => decide (y.id = id) := by
    funext y
    by_cases hy : y.id = id'
    · simp [hy, hf]
    · simp [hy]
  have hplan : (s.modPlan id' f).plan id = (s.plan id).map (fun y => if y.id = id' then f y else y) := by
    simp only [State.plan, State.modPlan, List.find?_map, hsame]
  rw [hplan]
  cases hp : s.plan id with
  | none => rfl
  | some p =>
    have hid : p.id = id := by simpa using List.find?_some hp
    rw [Option.map_some, if_neg (hid ▸ h)]

/-! ### A core in a WAIT (R467) -/

section
variable {s : State} {cl site : Nat} {t : Task}

theorem leaseRenewal_holder (hl : s.liveTask cl site = some t) (hw : t.hold = some 3) (h : s.holds cl t = true) :
    s.leaseRenewal cl site = s.modLease cl t.q t.plan t.pos (fun l => { l with expires := s.expiry }) := by
  simp only [State.leaseRenewal, hl, hw, if_true, State.renew, h]

theorem leaseRenewal_none (hl : s.liveTask cl site = some t) (h : t.hold ≠ some 3 ∨ s.holds cl t = false) :
    s.leaseRenewal cl site = s := by
  simp only [State.leaseRenewal, hl]
  split
  · next hw => exact if_neg (by rw [h.resolve_left (not_not.2 hw)]; exact Bool.false_ne_true)
  · rfl

end

/-! ### A lease expires (R469) -/

/-- A lease of the position of `l` has expired once more. -/
def Lease.expireFor (x l : Lease) : Lease :=
  if x.isOf l.queue l.plan l.pos then { x with state := .expired, seq := (x.seq + 1) % 2 ^ 32 } else x

theorem isOf_expireFor (x l : Lease) (q : Nat) (plan : Option Nat) (pos : Nat) :
    (x.expireFor l).isOf q plan pos = x.isOf q plan pos := by
  unfold Lease.expireFor
  split <;> rfl

/-- LEASE_SEQ of a lease advances once for each entry of its position. -/
theorem foldl_expireFor (gone : List Lease) (x : Lease) : gone.foldl Lease.expireFor x =
    if (gone.filter (fun l => x.isOf l.queue l.plan l.pos)).length = 0 then x
    else { x with state := .expired, seq := (x.seq + (gone.filter (fun l => x.isOf l.queue l.plan l.pos)).length) % 2 ^ 32 } := by
  induction gone generalizing x with
  | nil => rfl
  | cons l gone ih =>
    rw [List.foldl_cons, ih]
    simp only [isOf_expireFor]
    by_cases hof : x.isOf l.queue l.plan l.pos = true
    · rw [List.filter_cons, if_pos hof, Lease.expireFor, if_pos hof, List.length_cons, if_neg (Nat.succ_ne_zero _)]
      split
      · next hnone => rw [hnone]
      · rw [Nat.mod_add_mod, Nat.add_right_comm, ← Nat.add_assoc]
    · rw [List.filter_cons, if_neg hof, Lease.expireFor, if_neg hof]

section
variable (s : State) (cl : Nat) (l : Lease)

theorem joinReissue_dispOnly : DispOnly s (s.joinReissue cl l) := by
  unfold State.joinReissue
  split <;> rfl

theorem joinReissue_leases (c : Nat) : (s.joinReissue cl l).leases c = s.leases c := by
  unfold State.joinReissue
  split <;> rfl

theorem expireLease_dispOnly : DispOnly s (s.expireLease cl l) :=
  (modLease_dispOnly s ..).trans (joinReissue_dispOnly _ cl l)

theorem expireLease_leases_same : (s.expireLease cl l).leases cl = (s.leases cl).map (Lease.expireFor · l) := by
  rw [State.expireLease, joinReissue_leases, modLease_leases_same]
  rfl

theorem expireLease_leases_ne {c : Nat} (h : c ≠ cl) : (s.expireLease cl l).leases c = s.leases c := by
  rw [State.expireLease, joinReissue_leases, modLease_leases_ne s h]

end

/-- Every position that waits for re-issue goes on waiting, in its queue or in its plan. -/
structure ReissueGrows (s u : State) (cl : Nat) : Prop where
  queues : ∀ q, ∀ pos ∈ (s.queue cl q).reissue, pos ∈ (u.queue cl q).reissue
  plans : ∀ id p, s.plan id = some p → ∃ p', u.plan id = some p' ∧ ∀ pos ∈ (p.part cl).reissue, pos ∈ (p'.part cl).reissue

/-- The position of a lease waits for re-issue, in its queue or in the plan that was walked under its name. -/
def WaitsAgain (s u : State) (cl : Nat) (l : Lease) : Prop :=
  (l.plan = none → l.pos ∈ (u.queue cl l.queue).reissue) ∧
    ∀ id p, l.plan = some id → s.plan id = some p → ∃ p', u.plan id = some p' ∧ l.pos ∈ (p'.part cl).reissue

section
variable {s u v : State} {cl : Nat} {l : Lease}

theorem ReissueGrows.refl : ReissueGrows s s cl := ⟨fun _ _ h => h, fun _ p h => ⟨p, h, fun _ h => h⟩⟩

theorem ReissueGrows.trans (h : ReissueGrows s u cl) (k : ReissueGrows u v cl) : ReissueGrows s v cl := by
  refine ⟨fun q pos hp => k.queues q pos (h.queues q pos hp), fun id p hp => ?_⟩
  obtain ⟨p1, h1, hin1⟩ := h.plans id p hp
  obtain ⟨p2, h2, hin2⟩ := k.plans id p1 h1
  exact ⟨p2, h2, fun pos hpos => hin2 pos (hin1 pos hpos)⟩

theorem WaitsAgain.after (h : WaitsAgain s u cl l) (k : ReissueGrows u v cl) : WaitsAgain s v cl l := by
  refine ⟨fun hn => k.queues _ _ (h.1 hn), fun id p hid hp => ?_⟩
  obtain ⟨p1, h1, hin1⟩ := h.2 id p hid hp
  obtain ⟨p2, h2, hin2⟩ := k.plans id p1 h1
  exact ⟨p2, h2, hin2 _ hin1⟩

theorem WaitsAgain.before (h : ReissueGrows s u cl) (k : WaitsAgain u v cl l) : WaitsAgain s v cl l := by
  refine ⟨k.1, fun id p hid hp => ?_⟩
  obtain ⟨p1, h1, -⟩ := h.plans id p hp
  exact k.2 id p1 hid h1

end

/-- A position stands once in its re-issue list. -/
def withPos (pos : Nat) (x : List Nat) : List Nat := if x.contains pos then x else pos :: x

theorem mem_withPos {pos k : Nat} {x : List Nat} : k ∈ withPos pos x ↔ k = pos ∨ k ∈ x := by
  unfold withPos
  split
  · next h => exact ⟨.inr, fun hk => hk.elim (fun e => e ▸ List.contains_iff_mem.1 h) id⟩
  · exact List.mem_cons

/-- A core tile of a plan's part waits for re-issue. -/
def Plan.withAgain (p : Plan) (cl pos : Nat) : Plan := p.modPart cl (fun x => { x with reissue := withPos pos x.reissue })

section
variable (s : State) (cl : Nat) (l : Lease)

/-- A position that joins its re-issue list waits there, and every other goes on waiting. -/
theorem joinReissue_waits : ReissueGrows s (s.joinReissue cl l) cl ∧ WaitsAgain s (s.joinReissue cl l) cl l := by
  cases hplan : l.plan with
  | none =>
    have hjoin : s.joinReissue cl l = s.modQueue cl l.queue (fun x => { x with reissue := withPos l.pos x.reissue }) := by
      rw [State.joinReissue, hplan]
      rfl
    have hsame : ((s.joinReissue cl l).queue cl l.queue).reissue = withPos l.pos (s.queue cl l.queue).reissue := by
      rw [hjoin, queue_modQueue_same]
    refine ⟨⟨fun q pos hp => ?_, fun id p hp => ⟨p, by rw [hjoin]; exact hp, fun _ h => h⟩⟩, fun _ => ?_, fun id p hid => ?_⟩
    · by_cases hq : q = l.queue
      · rw [hq] at hp ⊢
        rw [hsame]
        exact mem_withPos.2 (.inr hp)
      · rwa [hjoin, queue_modQueue_ne s hq]
    · rw [hsame]
      exact mem_withPos.2 (.inl rfl)
    · rw [hplan] at hid
      cases hid
  | some id0 =>
    have hjoin : s.joinReissue cl l = s.modPlan id0 (·.withAgain cl l.pos) := by
      rw [State.joinReissue, hplan]
      rfl
    have hsame : ∀ p, s.plan id0 = some p → ∃ p', (s.joinReissue cl l).plan id0 = some p' ∧
        (p'.part cl).reissue = withPos l.pos (p.part cl).reissue := fun p hp => by
      rw [hjoin]
      exact ⟨p.withAgain cl l.pos, plan_modPlan hp fun _ => rfl, by rw [Plan.withAgain, part_modPart_same]⟩
    refine ⟨⟨fun q pos hp => by rw [hjoin]; exact hp, fun id p hp => ?_⟩, fun hn => ?_, fun id p hid hp => ?_⟩
    · by_cases hid : id = id0
      · subst hid
        obtain ⟨p', hp', hre⟩ := hsame p hp
        exact ⟨p', hp', fun pos hpos => hre ▸ mem_withPos.2 (.inr hpos)⟩
      · exact ⟨p, by rw [hjoin, plan_modPlan_ne (f := (·.withAgain cl l.pos)) hid fun _ => rfl, hp], fun _ h => h⟩
    · rw [hplan] at hn
      cases hn
    · rw [hplan] at hid
      cases hid
      obtain ⟨p', hp', hre⟩ := hsame p hp
      exact ⟨p', hp', hre ▸ mem_withPos.2 (.inl rfl)⟩

theorem expireLease_waits : ReissueGrows s (s.expireLease cl l) cl ∧ WaitsAgain s (s.expireLease cl l) cl l := by
  obtain ⟨hgrow, hwait⟩ := joinReissue_waits (s.modLease cl l.queue l.plan l.pos
    (fun l => { l with state := .expired, seq := (l.seq + 1) % 2 ^ 32 })) cl l
  exact ⟨⟨hgrow.queues, hgrow.plans⟩, hwait⟩

end

/-! ### A scan (R469) -/

/-- The leases of a list expire, one after the other. -/
def State.expireAll (s : State) (cl : Nat) (gone : List Lease) : State := gone.foldl (fun s l => s.expireLease cl l) s

section
variable (cl : Nat) (gone : List Lease)

theorem expireAll_dispOnly (s : State) : DispOnly s (s.expireAll cl gone) :=
  List.foldlRecOn (motive := DispOnly s) gone _ (.refl s) fun _ h l _ => h.trans (expireLease_dispOnly _ cl l)

theorem expireAll_leases_same (s : State) :
    (s.expireAll cl gone).leases cl = (s.leases cl).map (fun x => gone.foldl Lease.expireFor x) := by
  induction gone generalizing s with
  | nil => exact (List.map_id _).symm
  | cons l gone ih => exact (ih _).trans (by rw [expireLease_leases_same, List.map_map]; rfl)

theorem expireAll_leases_ne (s : State) {c : Nat} (h : c ≠ cl) : (s.expireAll cl gone).leases c = s.leases c :=
  foldl_keeps_part (fun v => v.leases c) (fun v l => expireLease_leases_ne v cl l h) s gone

theorem expireAll_waits (s : State) :
    ReissueGrows s (s.expireAll cl gone) cl ∧ ∀ l ∈ gone, WaitsAgain s (s.expireAll cl gone) cl l := by
  induction gone generalizing s with
  | nil => exact ⟨.refl, fun _ h => absurd h List.not_mem_nil⟩
  | cons x gone ih =>
    obtain ⟨hgrow, hwait⟩ := expireLease_waits s cl x
    obtain ⟨hgrows, hwaits⟩ := ih (s.expireLease cl x)
    refine ⟨hgrow.trans hgrows, fun l hl => ?_⟩
    rcases List.mem_cons.1 hl with rfl | hl
    · exact hwait.after hgrows
    · exact (hwaits l hl).before hgrow

end

/-! ### The obligation -/

/-- Settles O24: a renewal is one change of the holder's lease; a scan expires its leases one after the other, each advances the
LEASE_SEQ of the entries of its position (`foldl_expireFor`), and what waits for re-issue only grows (`expireAll_waits`). -/
theorem leasesAreRenewedAndExpire : Obligations.LeasesAreRenewedAndExpire := by
  refine ⟨fun s core t hl => ⟨fun hw hh => ?_, fun h => congrArg Host.Outcome.next (leaseRenewal_none hl h)⟩,
    fun s cl h => congrArg Host.Outcome.next (if_pos h), fun s cl h => ?_⟩
  · exact ⟨_, congrArg Host.Outcome.next (leaseRenewal_holder hl hw hh), rfl, modLease_leases_same ..,
      fun cl hcl => modLease_leases_ne s hcl ..⟩
  · dsimp only
    refine ⟨s.expireAll cl.val _, congrArg Host.Outcome.next (if_neg h), expireAll_dispOnly .., ?_,
      fun c hc => expireAll_leases_ne _ _ s hc, (expireAll_waits cl.val _ s).2⟩
    rw [expireAll_leases_same]
    exact List.map_congr_left fun x _ => foldl_expireFor _ x

end Sys2Proof.Machine
end

section
/-! PROOFS. What the Split Timer's decisions leave (R491, R492, R494, R497), and what a core that a task leaves holds. -/

namespace Sys2Proof.Machine

open Sys2Proof.Claims

theorem NoticeOnly.disp {s u : State} (h : NoticeOnly s u) : u.disp = s.disp := by
  obtain ⟨_, _, _, _, rfl⟩ := h
  rfl

theorem writeVa_cores {s u : State} {acc : Acc} {va : Nat} {bs : List Byte} (h : s.writeVa acc va bs = .ok u) : u.cores = s.cores :=
  congrArg Prod.fst (writeVa_coresDisp h)

theorem writeVa_disp {s u : State} {acc : Acc} {va : Nat} {bs : List Byte} (h : s.writeVa acc va bs = .ok u) : u.disp = s.disp :=
  congrArg Prod.snd (writeVa_coresDisp h)

/-- An object that a write of memory leaves. -/
theorem writeVa_obj {s u : State} {acc : Acc} {va k : Nat} {bs : List Byte} (hk : k % 256 ≠ 3) (h : s.writeVa acc va bs = .ok u) :
    u.obj k = s.obj k := by
  have hu : s.tryWriteVa acc va bs = u := by simp only [State.tryWriteVa, h]
  exact hu ▸ tryWriteVa_obj hk s acc va bs

theorem tryWriteVa_disp (s : State) (acc : Acc) (va : Nat) (bs : List Byte) : (s.tryWriteVa acc va bs).disp = s.disp := by
  unfold State.tryWriteVa
  split
  · rfl
  · next h => exact writeVa_disp h

/-! ### A group switches -/

/-- The first step that a group's fallback takes: that after the last of its primary (R492). -/
def SplitGroup.nextStep (g : SplitGroup) : Nat :=
  match g.maxStep with
  | some m => m + 1
  | none => 0

/-- The bytes of the record of a decision that is taken now (R494). -/
def State.decision (s : State) (g : SplitGroup) (reason proj : Nat) : List Byte :=
  toLE 64 (decisionRec (s.logSeq g.ctx) g.ctx reason g.nextStep (s.stepNow g.ctx) s.timeNs proj g.record)

/-- A group that has switched by the decision of number `seq` (R408, R492). -/
def SplitGroup.switchAt (g : SplitGroup) (from_ seq : Nat) : SplitGroup :=
  { g with state := .switched, fromStep := from_, seq := seq, switched := true, fbSlot := gFbSlot g.record,
           fbVersion := gFbVersion g.record }

/-- The log holds a decision's record: it goes to the group's SWITCH_ADDR too, the log moves on and the group switches (R492, R494). -/
def State.decided (s : State) (g : SplitGroup) (rec : List Byte) (seq : Nat) : State :=
  (((s.tryWriteVa (s.accOf g.ctx) (gSwitch g.record) rec).setObj (kCtx g.ctx 9) ((seq + 1) % 2 ^ 32)).cnt16 (kCtx g.ctx 0x10) 1).modGroup
    g.ctx g.id (·.switchAt g.nextStep seq)

section
variable {s : State} {g : SplitGroup} {reason proj : Nat}

theorem switchGroup_full (h : s.obj (kCtx g.ctx 8) ≤ s.logHeld g.ctx) :
    s.switchGroup g reason proj = (s.cnt16 (kCtx g.ctx 0x11) 1).event 0x34 1 g.ctx (s.logSeq g.ctx) 0 := if_pos h

/-- A group switches at the record of its decision, which the log must have room for and a place that can be written. -/
theorem switchGroup_eq (s : State) (g : SplitGroup) (reason proj : Nat) :
    s.switchGroup g reason proj =
      if s.obj (kCtx g.ctx 8) ≤ s.logHeld g.ctx then (s.cnt16 (kCtx g.ctx 0x11) 1).event 0x34 1 g.ctx (s.logSeq g.ctx) 0
      else match s.writeVa (s.accOf g.ctx) (s.logAddr g.ctx (s.logSeq g.ctx)) (s.decision g reason proj) with
        | .error _ => s
        | .ok w => w.decided g (s.decision g reason proj) (s.logSeq g.ctx) := by
  unfold State.switchGroup
  rfl

theorem switchGroup_unwritten {e : Nat} (h : s.logHeld g.ctx < s.obj (kCtx g.ctx 8))
    (hw : s.writeVa (s.accOf g.ctx) (s.logAddr g.ctx (s.logSeq g.ctx)) (s.decision g reason proj) = .error e) :
    s.switchGroup g reason proj = s := by
  rw [switchGroup_eq, if_neg (Nat.not_le.2 h), hw]

theorem switchGroup_written {w : State} (h : s.logHeld g.ctx < s.obj (kCtx g.ctx 8))
    (hw : s.writeVa (s.accOf g.ctx) (s.logAddr g.ctx (s.logSeq g.ctx)) (s.decision g reason proj) = .ok w) :
    s.switchGroup g reason proj = w.decided g (s.decision g reason proj) (s.logSeq g.ctx) := by
  rw [switchGroup_eq, if_neg (Nat.not_le.2 h), hw]

theorem decided_cores (rec : List Byte) (seq : Nat) : (s.decided g rec seq).cores = s.cores := tryWriteVa_cores ..

theorem switchGroup_cores (s : State) (g : SplitGroup) (reason proj : Nat) : (s.switchGroup g reason proj).cores = s.cores := by
  by_cases h : s.obj (kCtx g.ctx 8) ≤ s.logHeld g.ctx
  · rw [switchGroup_full h, event_cores]
    rfl
  · cases hw : s.writeVa (s.accOf g.ctx) (s.logAddr g.ctx (s.logSeq g.ctx)) (s.decision g reason proj) with
    | error e => rw [switchGroup_unwritten (Nat.not_le.1 h) hw]
    | ok w => rw [switchGroup_written (Nat.not_le.1 h) hw, decided_cores, writeVa_cores hw]

end

/-- A projection switches a group, or it does nothing (R491). -/
theorem project_cores (s : State) (t : Task) : (s.project t).cores = s.cores := by
  unfold State.project
  split
  · rfl
  · split
    · rfl
    · dsimp only
      split
      · exact switchGroup_cores ..
      · rfl

/-! ### A task leaves its core -/

theorem drainCluster_objsOnly (s : State) (cl : Nat) : ObjsOnly s (s.drainCluster cl) := by
  unfold State.drainCluster
  split
  · exact setObj_objsOnly ..
  · exact .refl s

theorem drainCluster_siteState (s : State) (c cl site : Nat) : (s.drainCluster c).siteState cl site = s.siteState cl site := by
  unfold State.drainCluster
  split
  · exact State.obj_setObj_ne s (by unfold kCore kCl objKey; omega) _
  · rfl

/-- A core whose task has left it: its rings' slabs are released and nothing is under way. -/
def CoreSt.left (c : CoreSt) : CoreSt := { c.endWork.releaseAll with task := none, wdCount := 0 }

section
variable (s : State) (cl site : Nat)

/-- A task's leaving changes its core and objects of the core and its cluster. -/
theorem leaveCore_objsOnly : ObjsOnly (s.modCore cl site CoreSt.left) (s.leaveCore cl site) := by
  refine ObjsOnly.trans (u := if (s.modCore cl site CoreSt.left).siteState cl site = 2 then
    (s.modCore cl site CoreSt.left).setObj (kCore cl site 0 1) 1 else s.modCore cl site CoreSt.left) ?_ (drainCluster_objsOnly _ cl)
  split
  · exact setObj_objsOnly ..
  · exact .refl _

@[simp] theorem leaveCore_mem : (s.leaveCore cl site).mem = s.mem := by rw [(leaveCore_objsOnly s cl site).eq]; rfl
@[simp] theorem leaveCore_disp : (s.leaveCore cl site).disp = s.disp := by rw [(leaveCore_objsOnly s cl site).eq]; rfl

theorem leaveCore_cores : (s.leaveCore cl site).cores = (s.modCore cl site CoreSt.left).cores := by
  rw [(leaveCore_objsOnly s cl site).eq]

theorem leaveCore_core_same : (s.leaveCore cl site).core cl site = (s.core cl site).left := by
  rw [State.core, leaveCore_cores]
  exact State.core_modCore_same ..

/-- A core that ran is idle. -/
theorem leaveCore_siteState {s : State} {cl site : Nat} (h : s.siteState cl site = 2) : (s.leaveCore cl site).siteState cl site = 1 := by
  have hrun : (s.modCore cl site CoreSt.left).siteState cl site = 2 := h
  rw [State.leaveCore, drainCluster_siteState]
  exact (congrArg (State.siteState · cl site) (if_pos hrun)).trans (State.obj_setObj_same ..)

end

end Sys2Proof.Machine
end

section
/-! PROOFS. Yield points and the save of a task (R467, R477, R481, R483). -/

namespace Sys2Proof.Machine

open Sys2Proof.Claims

/-! ### At a yield point -/

/-- The context of a task is pre-empted and its save has not failed: its tasks save at their yield points (R479, R483). -/
def State.mustSave (s : State) (t : Task) : Bool := s.ctxState t.ctx = 2 && !(s.ctx t.ctx).saveFailed

/-- The task on a core stands at a yield point that it has yet to pass (R144, R475, R477). -/
def State.atYieldPoint (s : State) (cl site : Nat) (t : Task) : Bool :=
  (s.core cl site).yieldTile.isSome || t.hold = some 6 || (t.hold = some 3 && (s.mustSave t || !t.yieldReported))

/-- The lease of a task at a yield point is renewed and its group projected (R467, R491). -/
def State.yielded (s : State) (cl : Nat) (t : Task) : State := (s.renew cl t).project t

section
variable {s : State} {cl site : Nat} {t : Task}

/-- A task that need not save passes its yield point. -/
theorem yieldPoint_pass (hl : s.liveTask cl site = some t) (hy : s.atYieldPoint cl site t = true) (hm : s.mustSave t = false) :
    s.yieldPoint cl site = (s.yielded cl t).passYield cl site t := by
  have hgo : ¬(!s.atYieldPoint cl site t) = true := Bool.eq_false_iff.1 (congrArg not hy)
  simp only [State.yieldPoint, hl]
  exact (if_neg hgo).trans (if_pos (congrArg not hm))

/-- A task of a context that is pre-empted saves, or waits until it can. -/
theorem yieldPoint_save (hl : s.liveTask cl site = some t) (hy : s.atYieldPoint cl site t = true) (hm : s.mustSave t = true) :
    s.yieldPoint cl site =
      if (s.yielded cl t).canSave cl site t then (s.yielded cl t).saveTask cl site t else s.yielded cl t := by
  have hgo : ¬(!s.atYieldPoint cl site t) = true := Bool.eq_false_iff.1 (congrArg not hy)
  have hsave : ¬(!s.mustSave t) = true := Bool.eq_false_iff.1 (congrArg not hm)
  simp only [State.yieldPoint, hl]
  exact (if_neg hgo).trans (if_neg hsave)

theorem yielded_cores (s : State) (cl : Nat) (t : Task) : (s.yielded cl t).cores = s.cores := by
  refine (project_cores _ t).trans ?_
  unfold State.renew
  split <;> rfl

theorem yielded_core (s : State) (cl : Nat) (t : Task) (cl' site : Nat) : (s.yielded cl t).core cl' site = s.core cl' site := by
  rw [State.core, yielded_cores, State.core]

/-! ### The task goes on -/

theorem passYield_tile {core : CoreId} {ti : Tile} (h : (s.core core.c core.s).yieldTile = some ti) (t : Task) :
    CoreOnly s (s.passYield core.c core.s t) core
      ((s.core core.c core.s).setTile { ti with yielded := ti.issued / (stepLen ti.schuss ti.cmd * 2 ^ (cYpt ti.cmd - 1)) }) := by
  unfold State.passYield
  rw [h]
  exact modCore_coreOnly s core _

theorem passYield_hold {core : CoreId} (hy : (s.core core.c core.s).yieldTile = none)
    (ht : (s.core core.c core.s).task = some t) :
    CoreOnly s (s.passYield core.c core.s t) core { s.core core.c core.s with
      task := some (if t.hold = some 6 then { t with hold := none, yieldReported := false } else { t with yieldReported := true }) } := by
  unfold State.passYield
  rw [hy]
  exact modTask_coreOnly _ ht

/-! ### The task is saved -/

theorem saveTask_ok {w : State} (h : s.writeVa (s.accOf t.ctx) (s.ctx t.ctx).saveNext (s.taskRecord cl site t) = .ok w) :
    s.saveTask cl site t =
      (w.modCtx t.ctx (fun k => { k with
        saveNext := (s.ctx t.ctx).saveNext + roundUp (s.taskRecord cl site t).length 4096 })).modTask cl site (fun t' =>
        { t' with hold := some 7, saveAddr := (s.ctx t.ctx).saveNext }) := by
  simp only [State.saveTask, h]

theorem saveTask_error {e : Nat} (h : s.writeVa (s.accOf t.ctx) (s.ctx t.ctx).saveNext (s.taskRecord cl site t) = .error e) :
    s.saveTask cl site t = s.saveFail t.ctx (s.ctx t.ctx).saveNext (s.taskRecord cl site t).length := by
  simp only [State.saveTask, h]

theorem saveTask_waits {w : State} (ht : (s.core cl site).task = some t)
    (h : s.writeVa (s.accOf t.ctx) (s.ctx t.ctx).saveNext (s.taskRecord cl site t) = .ok w) :
    (s.saveTask cl site t).mem = w.mem ∧
    ((s.saveTask cl site t).core cl site).task = some { t with hold := some 7, saveAddr := (s.ctx t.ctx).saveNext } ∧
    ((s.saveTask cl site t).ctx t.ctx).saveNext =
      (s.ctx t.ctx).saveNext + roundUp (s.taskRecord cl site t).length 4096 := by
  have hw : (w.core cl site).task = some t := by rw [State.core, writeVa_cores h]; exact ht
  rw [saveTask_ok h]
  exact ⟨rfl, modTask_task _ (s := w.modCtx _ _) hw, congrArg Ctx.saveNext (ctx_modCtx_same w _ _)⟩

theorem saveFail_ctx (s : State) (c va n : Nat) : ((s.saveFail c va n).ctx c).saveFailed = true := by
  rw [State.saveFail, State.ctx, (event_noticeOnly ..).disp]
  exact congrArg Ctx.saveFailed (ctx_modCtx_same ..)

@[simp] theorem saveFail_mem (s : State) (c va n : Nat) : (s.saveFail c va n).mem = s.mem := event_mem ..

/-! ### A saved task leaves its core -/

/-- The entry of a task among its context's saved ones, as the core leaves it (R481). -/
def State.savedTask (s : State) (cl site : Nat) (t : Task) : SavedTask :=
  { addr := t.saveAddr, ctx := t.ctx, cl := cl, qcl := t.qcl, q := t.q, pos := t.pos, plan := t.plan, ev := t.ev,
    dups := t.dups, staged := (t.staged.map (·.nans)).sum, nans := (s.core cl site).openNans,
    sums := (s.core cl site).openSums (s.madeRings cl site t) }

/-- The core without the task, whose descriptors of MOVEs are counted no more. -/
def State.freed (s : State) (cl site : Nat) (t : Task) : State := (s.unrefMoves (t.moves ++ t.commitMoves)).leaveCore cl site

/-- The lease of a saved task reads SAVED, and its context's saved tasks are those of a list. -/
def State.savedAs (s : State) (cl : Nat) (t : Task) (l : List SavedTask) : State :=
  (s.modLease cl t.q t.plan t.pos (fun l => { l with state := .saved })).modCtx t.ctx (fun k => { k with saveTasks := l })

theorem savedAs_leases (s : State) (cl : Nat) (t : Task) (l : List SavedTask) : (s.savedAs cl t l).leases cl =
    (s.leases cl).map (fun l => if l.isOf t.q t.plan t.pos then { l with state := .saved } else l) := modLease_leases_same ..

theorem savedAs_core (s : State) (cl : Nat) (t : Task) (l : List SavedTask) (cl' site : Nat) :
    (s.savedAs cl t l).core cl' site = s.core cl' site := rfl

theorem savedAs_obj (s : State) (cl : Nat) (t : Task) (l : List SavedTask) (k : Nat) : (s.savedAs cl t l).obj k = s.obj k := rfl

theorem savedAs_saveTasks (s : State) (cl : Nat) (t : Task) (l : List SavedTask) : ((s.savedAs cl t l).ctx t.ctx).saveTasks = l :=
  congrArg Ctx.saveTasks (ctx_modCtx_same ..)

theorem freed_disp (s : State) (cl site : Nat) (t : Task) : (s.freed cl site t).disp = s.disp := by
  rw [State.freed, leaveCore_disp, unrefMoves_disp]

theorem freed_leaves (h : s.siteState cl site = 2) :
    BytesStay s (s.freed cl site t) ∧ ((s.freed cl site t).core cl site).task = none ∧ (s.freed cl site t).siteState cl site = 1 := by
  refine ⟨fun a => byte_of_mem ?_ a, ?_, leaveCore_siteState ?_⟩
  · rw [State.freed, leaveCore_mem, unrefMoves_mem]
  · rw [State.freed, leaveCore_core_same]
    rfl
  · rw [State.siteState, State.obj, unrefMoves_objs]
    exact h

theorem taskSaveDone_holder (hl : s.liveTask cl site = some t) (hh : t.hold = some 7) (hc : s.holds cl t = true) :
    s.taskSaveDone cl site = (s.freed cl site t).savedAs cl t ((s.ctx t.ctx).saveTasks ++ [s.savedTask cl site t]) := by
  simp only [State.taskSaveDone, hl, hh, hc, ne_eq, not_true_eq_false, if_false, Bool.not_true, Bool.false_eq_true]
  rfl

theorem taskSaveDone_stale (hl : s.liveTask cl site = some t) (hh : t.hold = some 7) (hc : s.holds cl t = false) :
    s.taskSaveDone cl site = s.freed cl site t := by
  simp only [State.taskSaveDone, hl, hh, hc, ne_eq, not_true_eq_false, if_false, Bool.not_false, if_true]
  rfl

end

/-! ### The obligation -/

/-- Settles O20: `yieldPoint_pass` and `yieldPoint_save` on the renewed and projected state, whose cores are the same; a saved
task's core by `freed_leaves`, its lease and its entry by `taskSaveDone_holder`. -/
theorem yieldPointsPassOrSave : Obligations.YieldPointsPassOrSave := by
  refine ⟨fun s core t hl => ?_, fun s core t hl hh => ?_⟩
  · intro c pre hy v
    have hcore : v.core core.c core.s = c := yielded_core s core.c t core.c core.s
    have ht : (v.core core.c core.s).task = some t := hcore ▸ liveTask_task hl
    have hgo (hpre : pre = false) : exec (.yieldPoint core) s = .next (v.passYield core.c core.s t) :=
      congrArg Host.Outcome.next (yieldPoint_pass hl hy hpre)
    have hsave (hpre : pre = true) : exec (.yieldPoint core) s =
        .next (if v.canSave core.c core.s t then v.saveTask core.c core.s t else v) :=
      congrArg Host.Outcome.next (yieldPoint_save hl hy hpre)
    refine ⟨fun hpre => ⟨fun ti hti => ?_, fun hti h6 => ?_, fun hti h3 => ?_⟩, fun hpre hcan => ?_, fun hpre hcan => ?_⟩
    · exact ⟨_, hgo hpre, hcore ▸ passYield_tile (hcore ▸ hti) t⟩
    · have hp := passYield_hold (hcore ▸ hti) ht
      rw [if_pos h6, hcore] at hp
      exact ⟨_, hgo hpre, hp⟩
    · have hp := passYield_hold (hcore ▸ hti) ht
      rw [if_neg (by rw [h3]; decide), hcore] at hp
      exact ⟨_, hgo hpre, hp⟩
    · rw [hsave hpre, if_neg (Bool.eq_false_iff.1 hcan)]
    · rw [hsave hpre, if_pos hcan]
      refine ⟨fun w hw => ?_, fun e he => ?_⟩
      · obtain ⟨hmem, htask, hnext⟩ := saveTask_waits ht hw
        exact ⟨_, _, rfl, hmem, htask, rfl, rfl, hnext⟩
      · rw [saveTask_error he]
        exact ⟨_, rfl, saveFail_ctx .., saveFail_mem ..⟩
  · obtain ⟨hsite, -⟩ := liveTask_iff.1 hl
    obtain ⟨hbytes, htask, hidle⟩ := freed_leaves (t := t) hsite
    have hdisp := freed_disp s core.c core.s t
    cases hc : s.holds core.c t with
    | true =>
      have hrun : exec (.taskSaveDone core) s = .next ((s.freed core.c core.s t).savedAs core.c t
          ((s.ctx t.ctx).saveTasks ++ [s.savedTask core.c core.s t])) := congrArg Host.Outcome.next (taskSaveDone_holder hl hh hc)
      rw [hrun]
      refine ⟨_, rfl, hbytes, ?_, ?_, fun _ => ⟨?_, s.savedTask core.c core.s t, savedAs_saveTasks ..,
        rfl, rfl, rfl, rfl, rfl, rfl, rfl, rfl, rfl, rfl⟩, fun h => nomatch h⟩
      · rw [after, savedAs_core, htask]
      · rw [State.siteState, savedAs_obj, ← State.siteState, hidle]
      · rw [savedAs_leases, State.leases, hdisp, State.leases]
    | false =>
      have hrun : exec (.taskSaveDone core) s = .next (s.freed core.c core.s t) :=
        congrArg Host.Outcome.next (taskSaveDone_stale hl hh hc)
      refine ⟨_, hrun, hbytes, htask, hidle, (fun h => nomatch h), fun _ => ⟨?_, ?_⟩⟩
      · rw [State.leases, hdisp, State.leases]
      · rw [State.ctx, hdisp, State.ctx]

end Sys2Proof.Machine
end

section
/-! PROOFS. Programs are loaded and unloaded (R478, R508, R629): a context's tags, cores, leases and references. -/

namespace Sys2Proof.Machine

open Sys2Proof.Claims

/-! ### Tags (R456) -/

theorem setTags_memOnly (s : State) (c : Nat) (l : List Nat) : MemOnly s (s.setTags c l) :=
  .foldl (fun _ _ => ⟨_, rfl⟩) s _

/-- Tags of a context stand apart. -/
theorem tagPa_apart (c : Nat) {t t' : Nat} (h : t ≠ t') : tagPa c t + 4 ≤ tagPa c t' ∨ tagPa c t' + 4 ≤ tagPa c t := by
  unfold tagPa scratchPa
  omega

theorem tag_putWord_ne {t t' : Nat} (h : t ≠ t') (s : State) (c v : Nat) : (s.putWord (tagPa c t') 4 v).tag c t = s.tag c t :=
  word_putWord_apart s v (tagPa_apart c h)

theorem tag_setTags (s : State) (c : Nat) (l : List Nat) {t : Nat} (ht : t < 12288) :
    (s.setTags c l).tag c t = nth 0 l (t / 2) / 2 ^ (32 * (t % 2)) % 2 ^ 32 := by
  refine (foldl_range_part (fun v => v.tag c t) (i := t / 2) (by omega) (fun j _ hj v => ?_) s).trans ?_
  · exact (tag_putWord_ne (by omega) ..).trans (tag_putWord_ne (by omega) ..)
  · rcases Nat.mod_two_eq_zero_or_one t with h | h
    · refine (tag_putWord_ne (by omega) ..).trans ?_
      rw [show 2 * (t / 2) = t by omega, State.tag, word_putWord_same, h]
      simp
    · rw [show 2 * (t / 2) + 1 = t by omega, State.tag, word_putWord_same, h]
      exact Nat.mod_mod _ _

/-! ### A program is loaded -/

/-- A context as a program's load leaves it (R478, R490). -/
def Ctx.loaded (k : Ctx) (p : Program) (now : Nat) : Ctx :=
  { k with prog := some p, work := [], loadedAt := now, saveFailed := false, saveTasks := [], tagsLost := false }

/-- A context reads RUNNING with a program and its hash. -/
def State.loadedWith (v : State) (c : Nat) (p : Program) : State :=
  ((v.setObj (kSeed c 7) p.hash.toNat).modCtx c (·.loaded p (v.setObj (kSeed c 7) p.hash.toNat).timeNs)).setObj (kCtx c 1) 1

/-- What a load brings about in a state in which memory alone has changed. -/
theorem loadedWith_takes {s v : State} (hv : MemOnly s v) (c : Nat) (p : Program) :
    (v.loadedWith c p).ctxState c = 1 ∧ (v.loadedWith c p).obj (kSeed c 7) = p.hash.toNat ∧
      ((v.loadedWith c p).ctx c).prog = some p ∧ (∀ i, (v.loadedWith c p).tag c i = v.tag c i) ∧
      (v.loadedWith c p).cores = s.cores ∧
      (∀ c', c' ≠ c → (v.loadedWith c p).ctxState c' = s.ctxState c' ∧ (v.loadedWith c p).ctx c' = s.ctx c') := by
  obtain ⟨m, rfl⟩ := hv
  refine ⟨State.obj_setObj_same .., ?_, congrArg Ctx.prog (ctx_modCtx_same ..), fun i => rfl, rfl, fun c' hc' => ⟨?_, ctx_modCtx_ne _ hc' _⟩⟩
  · exact (State.obj_setObj_ne _ (by unfold kSeed kCtx kDev objKey; omega) 1).trans (State.obj_setObj_same ..)
  · exact (State.obj_setObj_ne _ (by unfold kCtx kDev objKey; omega) 1).trans
      (State.obj_setObj_ne _ (by unfold kSeed kDev objKey; omega) _)

theorem programLoad_idle {s : State} {c : Nat} {p : Program} (h : s.ctxState c = 0) (hp : s.programBad p = false) :
    s.programLoad c p = ((s.setTags c []).loadedWith c p, stOk) := by
  simp only [State.programLoad, h, hp, ne_eq, not_true_eq_false, decide_false, Bool.or_self, Bool.false_eq_true, if_false]
  rfl

theorem programLoad_refused {s : State} {c : Nat} {p : Program} (h : s.ctxState c ≠ 0 ∨ s.programBad p = true) :
    s.programLoad c p = (s, stState) := by
  refine if_pos ?_
  rw [Bool.or_eq_true, decide_eq_true_eq]
  exact h

/-! ### References on weight versions are released (R505, R508) -/

/-- What the release of references leaves alone: cores, dispatchers and the objects that are neither of a weight slot nor of the
event log. -/
structure RefsOnly (s u : State) : Prop where
  cores : u.cores = s.cores
  disp : u.disp = s.disp
  objs : ∀ k, k / 256 < 0xA100 → k / 256 ≠ 0x4000 → k / 256 ≠ 0x1010 → u.obj k = s.obj k

theorem RefsOnly.refl (s : State) : RefsOnly s s := ⟨rfl, rfl, fun _ _ _ _ => rfl⟩

theorem RefsOnly.trans {s u v : State} (h : RefsOnly s u) (k : RefsOnly u v) : RefsOnly s v :=
  ⟨k.cores.trans h.cores, k.disp.trans h.disp, fun j h1 h2 h3 => (k.objs j h1 h2 h3).trans (h.objs j h1 h2 h3)⟩

theorem RefsOnly.foldl {β : Type} {f : State → β → State} (hf : ∀ s x, RefsOnly s (f s x)) (s : State) (l : List β) :
    RefsOnly s (l.foldl f s) :=
  List.foldlRecOn (motive := RefsOnly s) l f (.refl s) fun _ h x _ => h.trans (hf _ x)

theorem setSlot_refsOnly (s : State) (sl sub v : Nat) : RefsOnly s (s.setObj (kSlot sl sub) v) :=
  ⟨rfl, rfl, fun k hk _ _ => State.obj_setObj_ne s (by unfold kSlot kDev objKey; omega) v⟩

theorem event_refsOnly (s : State) (code sev ctx p0 p1 : Nat) : RefsOnly s (s.event code sev ctx p0 p1) :=
  ⟨event_cores .., (event_noticeOnly ..).disp, fun _ _ h h' => event_obj _ _ _ _ _ _ ⟨h, h'⟩⟩

theorem modEntry_refsOnly (s : State) (sl e : Nat) (f : Entry → Entry) : RefsOnly s (s.modEntry sl e f) :=
  ⟨rfl, rfl, fun _ _ _ _ => rfl⟩

theorem leaveEntry_refsOnly (s : State) (sl e : Nat) : RefsOnly s (s.leaveEntry sl e) := by
  unfold State.leaveEntry
  split
  · exact setSlot_refsOnly ..
  · have hfree := (setSlot_refsOnly s sl (0x06 + e) eEmpty).trans (setSlot_refsOnly _ sl (0x09 + e) 0)
    exact hfree.trans ((modEntry_refsOnly ..).trans (event_refsOnly ..))

theorem unrefEntry_refsOnly (s : State) (sl e n : Nat) : RefsOnly s (s.unrefEntry sl e n) := by
  unfold State.unrefEntry
  refine (setSlot_refsOnly s sl (0x0C + e) (s.eRefs sl e - n)).trans ?_
  dsimp only
  split
  · exact leaveEntry_refsOnly ..
  · exact .refl _

theorem unbindVersion_refsOnly (s : State) (b : Option (Nat × Nat)) : RefsOnly s (s.unbindVersion b) := by
  unfold State.unbindVersion
  split
  · exact .refl s
  · split
    · exact unrefEntry_refsOnly ..
    · exact .refl s

theorem unrefTable_refsOnly (s : State) (tag : Option (Nat × Nat)) : RefsOnly s (s.unrefTable tag) := by
  obtain ⟨ch, h⟩ := unrefTable_chair_only s tag
  rw [h]
  exact ⟨rfl, rfl, fun _ _ _ _ => rfl⟩

/-! ### A program is unloaded -/

/-- What one step of a run brings about and every step keeps holds at its end. -/
theorem foldl_brings {β : Type} {P : State → Prop} {f : State → β → State} {x : β} (hx : ∀ s, P (f s x))
    (hkeep : ∀ s y, P s → P (f s y)) {l : List β} (hl : x ∈ l) (s : State) : P (l.foldl f s) := by
  obtain ⟨a, b, rfl⟩ := List.append_of_mem hl
  rw [List.foldl_append, List.foldl_cons]
  exact List.foldlRecOn (motive := P) b f (hx _) fun _ h y _ => hkeep _ y h

/-- No task of a context stands on a core. -/
def State.coreClear (s : State) (c cl site : Nat) : Prop := ∀ t, (s.core cl site).task = some t → t.ctx ≠ c

theorem State.coreClear.congr {s u : State} {c cl site : Nat} (hs : s.coreClear c cl site) (h : u.cores = s.cores) :
    u.coreClear c cl site := by
  rw [State.coreClear, State.core, h]
  exact hs

/-- One core of a run over all of them, without the task of a context that it holds. -/
def State.dropTask (s : State) (c i : Nat) : State :=
  match (s.core (i / 8) (i % 8)).task with
  | some t => if t.ctx = c then s.freed (i / 8) (i % 8) t else s
  | none => s

theorem dropTasks_eq (s : State) (c : Nat) : s.dropTasks c = (List.range 96).foldl (·.dropTask c ·) s := rfl

theorem freed_core (s : State) (cl site : Nat) (t : Task) (cl' site' : Nat) :
    (s.freed cl site t).core cl' site' = if cl' * 8 + site' = cl * 8 + site then (s.core cl site).left else s.core cl' site' := by
  rw [State.freed, State.core, leaveCore_cores, ← State.core, State.modCore, State.core_setCore, unrefMoves_core, unrefMoves_core]

theorem dropTask_clears (s : State) (c cl : Nat) {site : Nat} (hsite : site < 8) :
    (s.dropTask c (cl * 8 + site)).coreClear c cl site := by
  have hcl : (cl * 8 + site) / 8 = cl ∧ (cl * 8 + site) % 8 = site := by omega
  intro t ht
  rw [State.dropTask, hcl.1, hcl.2] at ht
  cases hold : (s.core cl site).task with
  | none =>
    simp only [hold] at ht
    cases ht
  | some x =>
    simp only [hold] at ht
    split at ht
    · rw [freed_core, if_pos rfl] at ht
      cases ht
    · next hx =>
      rw [hold] at ht
      cases ht
      exact hx

theorem dropTask_keeps (s : State) (c cl site i : Nat) (h : s.coreClear c cl site) : (s.dropTask c i).coreClear c cl site := by
  unfold State.dropTask
  split
  · split
    · intro t ht
      rw [freed_core] at ht
      split at ht
      · cases ht
      · exact h t ht
    · exact h
  · exact h

theorem dropTasks_clears (s : State) (c : Nat) {cl site : Nat} (hcl : cl < 12) (hsite : site < 8) :
    (s.dropTasks c).coreClear c cl site := by
  rw [dropTasks_eq]
  exact foldl_brings (x := cl * 8 + site) (fun s => dropTask_clears s c cl hsite) (fun s i => dropTask_keeps s c cl site i)
    (List.mem_range.2 (by omega)) s

/-- The leases of a context in a cluster's table are not valid. -/
def State.leasesClear (s : State) (c cl : Nat) : Prop := ∀ l ∈ s.leases cl, l.ctx = c → l.valid = false

/-- The leases of a context in one cluster leave use. -/
def State.dropLeasesOf (s : State) (c cl : Nat) : State :=
  (((s.leases cl).filter (fun l => l.valid && l.ctx = c)).foldl (fun s l => s.unbindVersion l.bound) s).modLeases cl
    (·.map (fun l => if l.ctx = c then { l with valid := false } else l))

theorem dropLeases_eq (s : State) (c : Nat) : s.dropLeases c = (List.range 12).foldl (·.dropLeasesOf c ·) s := rfl

theorem dropLeasesOf_unbound (s : State) (c cl : Nat) : ∃ v, RefsOnly s v ∧ s.dropLeasesOf c cl =
    v.modLeases cl (·.map (fun l => if l.ctx = c then { l with valid := false } else l)) :=
  ⟨_, .foldl (fun s (l : Lease) => unbindVersion_refsOnly s l.bound) s _, rfl⟩

theorem dropLeasesOf_cores (s : State) (c cl : Nat) : (s.dropLeasesOf c cl).cores = s.cores := by
  obtain ⟨v, hv, h⟩ := dropLeasesOf_unbound s c cl
  rw [h]
  exact hv.cores

theorem dropLeasesOf_clears (s : State) (c cl : Nat) : (s.dropLeasesOf c cl).leasesClear c cl := by
  obtain ⟨v, -, h⟩ := dropLeasesOf_unbound s c cl
  intro l hl hctx
  rw [h, State.leases, State.modLeases, nget_nmod_same, List.mem_map] at hl
  obtain ⟨x, -, rfl⟩ := hl
  by_cases hx : x.ctx = c
  · rw [if_pos hx]
  · rw [if_neg hx] at hctx
    exact absurd hctx hx

theorem dropLeasesOf_keeps (s : State) (c cl cl' : Nat) (hs : s.leasesClear c cl) : (s.dropLeasesOf c cl').leasesClear c cl := by
  by_cases hne : cl = cl'
  · rw [← hne]
    exact dropLeasesOf_clears s c cl
  · obtain ⟨v, hv, h⟩ := dropLeasesOf_unbound s c cl'
    have hsame : (s.dropLeasesOf c cl').leases cl = s.leases cl := by
      rw [h, State.leases, State.modLeases, nget_nmod_ne _ _ hne, hv.disp, State.leases]
    rw [State.leasesClear, hsame]
    exact hs

theorem dropLeases_clears (s : State) (c : Nat) {cl : Nat} (hcl : cl < 12) : (s.dropLeases c).leasesClear c cl := by
  rw [dropLeases_eq]
  exact foldl_brings (fun s => dropLeasesOf_clears s c cl) (fun s cl' => dropLeasesOf_keeps s c cl cl') (List.mem_range.2 hcl) s

theorem dropLeases_cores (s : State) (c : Nat) : (s.dropLeases c).cores = s.cores := by
  rw [dropLeases_eq]
  exact foldl_keeps_part State.cores (fun v cl => dropLeasesOf_cores v c cl) s _

/-- Cores and lease tables. -/
def State.coresLeases (s : State) : NMap CoreSt × NMap (List Lease) := (s.cores, s.disp.leases)

theorem cores_of_coresLeases {s u : State} (h : u.coresLeases = s.coresLeases) : u.cores = s.cores := congrArg Prod.fst h

theorem leases_of_coresLeases {s u : State} (h : u.coresLeases = s.coresLeases) (cl : Nat) : u.leases cl = s.leases cl :=
  congrArg (nget [] · cl) (congrArg Prod.snd h)

theorem dropPlans_coresLeases (s : State) (c : Nat) : (s.dropPlans c).coresLeases = s.coresLeases := by
  have hrefs := RefsOnly.foldl (fun (s : State) (p : Plan) => (unbindVersion_refsOnly s p.bound).trans (unrefTable_refsOnly _ p.xlat)) s
    (s.disp.plans.filter (fun p => p.ctx = c))
  have hleases := congrArg Disp.leases hrefs.disp
  exact congrArg₂ Prod.mk hrefs.cores hleases

theorem dropQueues_coresLeases (s : State) (c : Nat) : (s.dropQueues c).coresLeases = s.coresLeases := by
  refine foldl_keeps_part State.coresLeases (fun v p => ?_) s _
  obtain ⟨m, hm⟩ := setRelay_memOnly (v.modQueue p.1 p.2 (fun _ => Queue.empty)) p.1 p.2 (v.qLimit p.1 p.2) (v.qLimit p.1 p.2)
    (v.qExhausted p.1 p.2)
  exact (congrArg State.coresLeases hm).trans rfl

theorem setGroups_coresLeases (s : State) (c : Nat) (l : List SplitGroup) : (s.setGroups c l).coresLeases = s.coresLeases := rfl

/-- What an unload leaves of a context's work: neither plans nor queues nor groups. -/
def State.emptied (s : State) (c : Nat) : State := ((((s.dropTasks c).dropLeases c).dropPlans c).dropQueues c).setGroups c []

theorem emptied_coresLeases (s : State) (c : Nat) : (s.emptied c).coresLeases = ((s.dropTasks c).dropLeases c).coresLeases :=
  (setGroups_coresLeases _ c []).trans ((dropQueues_coresLeases _ c).trans (dropPlans_coresLeases _ c))

/-- Once a context's work is dropped, no task of it stands on a core. -/
theorem coreClear_of_emptied {s u : State} {c : Nat} (hu : u.coresLeases = (s.emptied c).coresLeases) {cl site : Nat} (hcl : cl < 12)
    (hsite : site < 8) : u.coreClear c cl site := by
  have hcores : u.cores = (s.dropTasks c).cores :=
    (cores_of_coresLeases (hu.trans (emptied_coresLeases s c))).trans (dropLeases_cores _ c)
  exact (dropTasks_clears s c hcl hsite).congr hcores

/-- Once a context's work is dropped, no lease of it is valid. -/
theorem leasesClear_of_emptied {s u : State} {c : Nat} (hu : u.coresLeases = (s.emptied c).coresLeases) {cl : Nat} (hcl : cl < 12) :
    u.leasesClear c cl := by
  rw [State.leasesClear, leases_of_coresLeases (hu.trans (emptied_coresLeases s c))]
  exact dropLeases_clears _ c hcl

/-- A context reads IDLE, without a program. -/
def State.unloaded (v : State) (c : Nat) : State :=
  (v.modCtx c (fun k => { k with prog := none, work := [], saveFailed := false, saveTasks := [] })).setObj (kCtx c 1) 0

theorem unloaded_prog (v : State) (c : Nat) : ((v.unloaded c).ctx c).prog = none := congrArg Ctx.prog (ctx_modCtx_same ..)

theorem unloaded_coresLeases (v : State) (c : Nat) : (v.unloaded c).coresLeases = v.coresLeases := rfl

theorem programUnload_saved {s : State} {c : Nat} (h : s.ctxState c = 3 ∨ s.ctxState c = 2 ∧ (s.ctx c).saveFailed = true) :
    s.programUnload c = ((s.emptied c).unloaded c, stOk) := by
  have hgo : (decide (s.ctxState c ≠ 3) && !(decide (s.ctxState c = 2) && (s.ctx c).saveFailed)) = false := by
    rcases h with h | ⟨h, hf⟩ <;> simp [*]
  exact if_neg (Bool.eq_false_iff.1 hgo)

theorem programUnload_refused {s : State} {c : Nat} (h : s.ctxState c ≠ 3) (hf : ¬(s.ctxState c = 2 ∧ (s.ctx c).saveFailed = true)) :
    s.programUnload c = (s, stState) := by
  refine if_pos ?_
  rw [Bool.and_eq_true, decide_eq_true_eq, Bool.not_eq_true', Bool.and_eq_false_imp, decide_eq_true_eq]
  exact ⟨h, fun h2 => Bool.eq_false_iff.2 fun hs => hf ⟨h2, hs⟩⟩

end Sys2Proof.Machine
end

section
/-! PROOFS. A context is pre-empted, saved and restored (R478, R482, R484, R485, R617, R647). -/

namespace Sys2Proof.Machine

open Sys2Proof.Claims

/-! ### PREEMPT (R478, R617) -/

/-- A context as its pre-emption begins: nothing of it is saved yet (R479). -/
def Ctx.preempted (k : Ctx) (next : Nat) : Ctx := { k with saveFailed := false, saveNext := next, saveTasks := [], tagsLost := false }

/-- A context that reads PREEMPTING. -/
def State.preempting (s : State) (c : Nat) : State :=
  (s.setObj (kCtx c 1) 2).modCtx c (·.preempted (s.obj (kCtx c 4) + saveTasksOff))

theorem beginPreempt_eq (s : State) (c : Nat) :
    s.beginPreempt c = if s.commitState c = 1 then (s.preempting c).commitFail c else s.preempting c := by
  have hcommit : (s.preempting c).obj (kCommit c 5) = s.obj (kCommit c 5) :=
    State.obj_setObj_ne s (by unfold kCommit kCtx kDev objKey; omega) 2
  unfold State.commitState
  rw [← hcommit]
  rfl

theorem preempt_running {s : State} {c : Nat} (h : s.ctxState c = 1) (hm : s.moduleState ≠ 4) :
    s.preempt c true = (s.beginPreempt c, stOk) := by
  simp [State.preempt, h, hm]

theorem preempt_refused {s : State} {c : Nat} (h : s.ctxState c ≠ 1 ∨ s.moduleState = 4) : s.preempt c true = (s, stState) := by
  simp only [State.preempt, Bool.not_true, Bool.false_eq_true, if_false]
  refine if_pos ?_
  rw [Bool.or_eq_true, decide_eq_true_eq, decide_eq_true_eq]
  exact h

/-- What a pre-emption brings about, whether or not a commit ends with it. -/
structure PreemptBegun (s u : State) (c commit : Nat) : Prop where
  state : u.ctxState c = 2
  mem : u.mem = s.mem
  cores : u.cores = s.cores
  saveFailed : (u.ctx c).saveFailed = false
  saveTasks : (u.ctx c).saveTasks = []
  commit : u.commitState c = commit

theorem preempting_begun (s : State) (c : Nat) : PreemptBegun s (s.preempting c) c (s.commitState c) where
  state := State.obj_setObj_same ..
  mem := rfl
  cores := rfl
  saveFailed := congrArg Ctx.saveFailed (ctx_modCtx_same ..)
  saveTasks := congrArg Ctx.saveTasks (ctx_modCtx_same ..)
  commit := State.obj_setObj_ne s (by unfold kCommit kCtx kDev objKey; omega) 2

/-- A commit that fails touches its context's commit alone (R620). -/
theorem commitFail_begun {s v : State} {c n : Nat} (hc : c < 64) (h : PreemptBegun s v c n) : PreemptBegun s (v.commitFail c) c 3 := by
  obtain ⟨hstate, hmem, hcores, hfailed, htasks, -⟩ := h
  unfold State.commitFail
  have hctx : kCtx c 1 / 256 = 0x9100 + c := by unfold kCtx kDev objKey; omega
  have hcommit : kCommit c 5 / 256 = 0x9200 + c := by unfold kCommit kDev objKey; omega
  constructor
  · refine (event_obj (k := kCtx c 1) _ _ _ _ _ _ (by omega)).trans ?_
    exact (State.obj_setObj_ne _ (by unfold kCommit kCtx kDev objKey; omega) 3).trans hstate
  · exact (event_mem ..).trans hmem
  · exact (event_cores ..).trans hcores
  · rw [State.ctx, (event_noticeOnly ..).disp]
    exact (congrArg Ctx.saveFailed (ctx_modCtx_same ..)).trans hfailed
  · rw [State.ctx, (event_noticeOnly ..).disp]
    exact (congrArg Ctx.saveTasks (ctx_modCtx_same ..)).trans htasks
  · rw [State.commitState, event_obj _ _ _ _ _ _ (by omega)]
    exact State.obj_setObj_same ..

theorem beginPreempt_begun (s : State) {c : Nat} (hc : c < 64) :
    PreemptBegun s (s.beginPreempt c) c (if s.commitState c = 1 then 3 else s.commitState c) := by
  rw [beginPreempt_eq]
  split
  · exact commitFail_begun hc (preempting_begun s c)
  · exact preempting_begun s c

/-! ### The area is written (R482) -/

theorem writeArea_ok {s v w : State} {c : Nat} {area : SaveArea} (hv : s.writeVa (s.accOf c) (s.obj (kCtx c 4)) area.hdr = .ok v)
    (hw : v.writeVa (v.accOf c) (s.obj (kCtx c 4) + area.off) area.body = .ok w) :
    s.writeArea c area = ((w.setObj (kCtx c 5) area.total).setObj (kCtx c 1) 3).event 0x32 0 c area.total 0 := by
  simp only [State.writeArea, hv, hw]

theorem saveArea_writes {s : State} {c : Nat} (h : s.ctxState c = 2) (hf : (s.ctx c).saveFailed = false)
    (hon : s.ctxOnCores c = false) : s.saveArea c = s.writeArea c (s.areaBytes c) := by
  simp [State.saveArea, h, hf, hon]

theorem saveArea_waits {s : State} {c : Nat} (h : s.ctxState c ≠ 2 ∨ (s.ctx c).saveFailed = true ∨ s.ctxOnCores c = true) :
    s.saveArea c = s := by
  refine if_pos ?_
  rw [Bool.or_eq_true, Bool.or_eq_true, decide_eq_true_eq, or_assoc]
  exact h

/-- A context reads SAVED with the size of its area. -/
structure AreaSaved (w u : State) (c total : Nat) : Prop where
  state : u.ctxState c = 3
  size : u.obj (kCtx c 5) = total
  mem : u.mem = w.mem
  cores : u.cores = w.cores
  disp : u.disp = w.disp

theorem event_areaSaved (w : State) {c : Nat} (hc : c < 64) (total : Nat) :
    AreaSaved w (((w.setObj (kCtx c 5) total).setObj (kCtx c 1) 3).event 0x32 0 c total 0) c total := by
  have hkey : ∀ sub, sub < 256 → kCtx c sub / 256 ≠ 0x4000 ∧ kCtx c sub / 256 ≠ 0x1010 := fun sub h => by
    unfold kCtx kDev objKey
    omega
  refine ⟨(event_obj _ _ _ _ _ _ (hkey 1 (by omega))).trans (State.obj_setObj_same ..),
    (event_obj _ _ _ _ _ _ (hkey 5 (by omega))).trans ?_, event_mem .., event_cores .., (event_noticeOnly ..).disp⟩
  exact (State.obj_setObj_ne _ (by unfold kCtx kDev objKey; omega) 3).trans (State.obj_setObj_same ..)

/-! ### Saved queues, plans and groups take their places (R484) -/

theorem MemOnly.cores {s u : State} (h : MemOnly s u) : u.cores = s.cores := by
  obtain ⟨_, rfl⟩ := h
  rfl

theorem takeQueue_cores (s : State) (c : Nat) (r : QueueRec) : (s.takeQueue c r).cores = s.cores := by
  dsimp only [State.takeQueue]
  rw [State.modQueue_cores, (setRelay_memOnly ..).cores]
  rfl

theorem openPlan_cores (s : State) (p : Plan) : (s.openPlan p).cores = s.cores := by
  unfold State.openPlan
  refine (showPlan_memOnly _ p).cores.trans ?_
  obtain ⟨ob, hob⟩ := bindVersion_objs_only s p.bound
  obtain ⟨ch, hch⟩ := refTable_chair_only { s with objs := ob } p.xlat
  rw [hob, hch]

theorem placePlan_cores (s : State) (p : Plan) : (s.placePlan p).cores = s.cores := by
  dsimp only [State.placePlan]
  split
  · exact (shown_memOnly ..).cores
  · split
    · exact openPlan_cores ..
    · exact openPlan_cores ..

theorem takePlans_cores (s : State) (c n : Nat) (l : List Nat) : (s.takePlans c n l).1.cores = s.cores := by
  induction n generalizing s l with
  | zero => rfl
  | succ n ih => exact (ih _ _).trans (placePlan_cores ..)

/-! ### Saved tasks join their queues and plans -/

theorem joinSaved_dispOnly (s : State) (st : SavedTask) (tile : Bool) : DispOnly s (s.joinSaved st tile) := by
  unfold State.joinSaved
  split
  · split
    · split
      · exact .refl s
      · rfl
    · exact .refl s
  · rfl

theorem takeSaved_dispOnly (s : State) (c base n : Nat) (l : List Nat) : DispOnly s (s.takeSaved c base n l) := by
  induction n generalizing s l with
  | zero => exact .refl s
  | succ n ih => exact (joinSaved_dispOnly ..).trans (ih _ _)

/-! ### Plans that have nothing left to do end (R288) -/

/-- A step counter's or a log sequence's place among a context's objects. -/
structure CounterKey (k : Nat) : Prop where
  dev : k / 256 < 0xA100 ∧ k / 256 ≠ 0x4000 ∧ k / 256 ≠ 0x1010
  sub : k % 256 = 4 ∨ k % 256 = 9

theorem counterKey_stepNow {c : Nat} (hc : c < 64) : CounterKey (kSeed c 4) := by
  constructor <;> unfold kSeed kDev objKey <;> omega

theorem counterKey_logSeq {c : Nat} (hc : c < 64) : CounterKey (kCtx c 9) := by
  constructor <;> unfold kCtx kDev objKey <;> omega

/-- The cores and one object. -/
def State.coresAt (s : State) (k : Nat) : NMap CoreSt × Nat := (s.cores, s.obj k)

section
variable {k : Nat}

theorem coresAt_of_parts {s u : State} (hc : u.cores = s.cores) (ho : u.obj k = s.obj k) : u.coresAt k = s.coresAt k :=
  congrArg₂ Prod.mk hc ho

theorem setObj_coresAt (s : State) {j : Nat} (h : k ≠ j) (v : Nat) : (s.setObj j v).coresAt k = s.coresAt k :=
  coresAt_of_parts rfl (State.obj_setObj_ne s h v)

theorem hostPieces_coresAt (s : State) (pasid : Nat) (ps : List (Nat × Nat)) (bs : List Byte) :
    (s.hostPieces pasid ps bs).coresAt k = s.coresAt k := by
  induction ps generalizing s bs with
  | nil => rfl
  | cons p ps ih =>
    have hlook : (s.atsLookup pasid (p.1 / 4096)).1.coresAt k = s.coresAt k := by
      unfold State.atsLookup
      split
      · rfl
      · rfl
    exact (ih _ _).trans hlook

theorem mirrorWrite_coresAt (s : State) (c addr : Nat) (bs : List Byte) : (s.mirrorWrite c addr bs).coresAt k = s.coresAt k := by
  dsimp only [State.mirrorWrite]
  split
  · exact hostPieces_coresAt ..
  · rfl

theorem MemOnly.coresAt {s u : State} (h : MemOnly s u) : u.coresAt k = s.coresAt k := by
  obtain ⟨_, rfl⟩ := h
  rfl

theorem freeCounters_memOnly (s : State) (p : Plan) : MemOnly s (s.freeCounters p) :=
  (setRelay_memOnly s ..).trans (.foldl (fun v _ => setRelay_memOnly v ..) _ _)

variable (hk : CounterKey k)
include hk

theorem RefsOnly.coresAt {s u : State} (h : RefsOnly s u) : u.coresAt k = s.coresAt k :=
  coresAt_of_parts h.cores (h.objs k hk.dev.1 hk.dev.2.1 hk.dev.2.2)

theorem mirror_coresAt (s : State) (c : Nat) (rec : List Byte) : (s.mirror c rec).coresAt k = s.coresAt k := by
  have hsub := hk.sub
  have hkey : k ≠ kSeed c 0x24 ∧ k ≠ kSeed c 0x26 := by
    unfold kSeed kDev objKey
    omega
  dsimp only [State.mirror]
  split
  · rfl
  · split
    · exact setObj_coresAt s hkey.2 _
    · exact (setObj_coresAt _ hkey.1 _).trans ((mirrorWrite_coresAt ..).trans (mirrorWrite_coresAt ..))

theorem writeVa_coresAt {s u : State} {acc : Acc} {va : Nat} {bs : List Byte} (h : s.writeVa acc va bs = .ok u) :
    u.coresAt k = s.coresAt k := by
  have hsub := hk.sub
  exact coresAt_of_parts (writeVa_cores h) (writeVa_obj (by omega) h)

theorem complete_coresAt (s : State) (cl q pos : Nat) (r : CRec) : (s.complete cl q pos r).coresAt k = s.coresAt k := by
  have hsub := hk.sub
  unfold State.complete
  refine (mirror_coresAt hk ..).trans ?_
  dsimp only [State.modQueue, State.coresAt]
  split
  · next v hv =>
    exact (setObj_coresAt v (j := kCtx r.ctx 0xD) (by unfold kCtx kDev objKey; omega) _).trans (writeVa_coresAt hk hv)
  · rfl

theorem planCheck_coresAt (s : State) (id : Nat) : (s.planCheck id).coresAt k = s.coresAt k := by
  unfold State.planCheck
  split
  · rfl
  · next p _ =>
    split
    · rfl
    · exact (freeCounters_memOnly _ p).coresAt.trans (((unrefTable_refsOnly ..).coresAt hk).trans
        (((unbindVersion_refsOnly ..).coresAt hk).trans (complete_coresAt hk ..)))

theorem checkPlans_coresAt (s : State) (c : Nat) : (s.checkPlans c).coresAt k = s.coresAt k :=
  foldl_keeps_part (State.coresAt · k) (fun v id => planCheck_coresAt hk v id) s _

end

/-! ### RESTORE (R484) -/

/-- The last of a restore: the step counter and the log's sequence are those of the header, saved tasks wait for their restore and
plans with nothing left to do end. -/
def State.resumeAt (v : State) (c step seq base n : Nat) (l : List Nat) : State :=
  (((v.setObj (kCtx c 9) seq).setObj (kSeed c 4) step).takeSaved c base n l).checkPlans c

theorem restoreArea_some {s r : State} {c : Nat} {h : List Byte} (hr : s.restoreArea c = some r)
    (hh : s.readVa (s.accOf c) (s.obj (kCtx c 4)) 256 = .ok h) :
    ∃ (v : State) (base n : Nat) (l : List Nat), v.cores = s.cores ∧ r = v.resumeAt c (leNat ((h.drop 16).take 8)) (leNat ((h.drop 36).take 4)) base n l := by
  simp only [State.restoreArea, hh] at hr
  split at hr
  · cases hr
  · split at hr
    · cases hr
    · split at hr
      · cases hr
      · refine ⟨_, _, _, _, ?_, (Option.some.inj hr).symm⟩
        refine (takePlans_cores ..).trans ((setTags_memOnly ..).cores.trans ?_)
        exact foldl_keeps_part State.cores (fun v r => takeQueue_cores v c r) s _

theorem resumeAt_reads (v : State) {c : Nat} (hc : c < 64) (step seq base n : Nat) (l : List Nat) :
    (v.resumeAt c step seq base n l).cores = v.cores ∧ (v.resumeAt c step seq base n l).stepNow c = step ∧
      (v.resumeAt c step seq base n l).logSeq c = seq := by
  have htaken := takeSaved_dispOnly ((v.setObj (kCtx c 9) seq).setObj (kSeed c 4) step) c base n l
  have hsaved : ∀ k, CounterKey k → (v.resumeAt c step seq base n l).coresAt k =
      ((v.setObj (kCtx c 9) seq).setObj (kSeed c 4) step).coresAt k := fun k hk => by
    refine (checkPlans_coresAt hk _ c).trans ?_
    rw [htaken]
    rfl
  have hstep := hsaved _ (counterKey_stepNow hc)
  have hseq := hsaved _ (counterKey_logSeq hc)
  refine ⟨congrArg Prod.fst hstep, (congrArg Prod.snd hstep).trans (State.obj_setObj_same ..), (congrArg Prod.snd hseq).trans ?_⟩
  exact (State.obj_setObj_ne _ (by unfold kCtx kSeed kDev objKey; omega) step).trans (State.obj_setObj_same ..)

theorem restore_some {s r : State} {c : Nat} (h : s.ctxState c = 3) (hm : s.moduleState ≠ 4) (hr : s.restoreArea c = some r) :
    s.restore c true = (r.setObj (kCtx c 1) 4, stOk) := by
  simp [State.restore, h, hm, hr]

theorem restore_none {s : State} {c : Nat} (h : s.restoreArea c = none) : s.restore c true = (s, stState) := by
  simp [State.restore, h]

theorem restore_refused {s : State} {c : Nat} (h : s.ctxState c ≠ 3 ∨ s.moduleState = 4) : s.restore c true = (s, stState) := by
  simp only [State.restore, Bool.not_true, Bool.false_eq_true, if_false]
  refine if_pos ?_
  rw [Bool.or_eq_true, decide_eq_true_eq, decide_eq_true_eq]
  exact h

end Sys2Proof.Machine
end

section
/-! PROOFS. FORCE_SWITCH and the states of a context (R478, R484, R492, R498, R629). -/

namespace Sys2Proof.Machine

open Sys2Proof.Claims

/-! ### FORCE_SWITCH (R498) -/

theorem group_named {s : State} {c g : Nat} {x : SplitGroup} (h : s.group c g = some x) : x.ctx = c ∧ x.id = g := by
  simpa using List.find?_some h

theorem group_modGroup {s : State} {c g : Nat} {x : SplitGroup} (h : s.group c g = some x) (hx : x.live = true)
    {f : SplitGroup → SplitGroup} (hf : ∀ y, (f y).ctx = y.ctx ∧ (f y).id = y.id) : (s.modGroup c g f).group c g = some (f x) := by
  have hsame : ((fun y : SplitGroup => decide (y.ctx = c) && decide (y.id = g)) ∘
      fun y => if y.ctx = c ∧ y.id = g ∧ y.live then f y else y) = fun y => decide (y.ctx = c) && decide (y.id = g) := by
    funext y
    by_cases hy : y.ctx = c ∧ y.id = g ∧ y.live
    · simp [hy, hf]
    · simp [hy]
  have hfind : (s.modGroup c g f).group c g = (s.group c g).map (fun y => if y.ctx = c ∧ y.id = g ∧ y.live then f y else y) := by
    simp only [State.group, State.modGroup, List.find?_map, hsame]
  obtain ⟨hctx, hid⟩ := group_named h
  rw [hfind, h, Option.map_some, if_pos ⟨hctx, hid, hx⟩]

section
variable {s : State} {x : SplitGroup} {reason proj : Nat}

theorem decided_group (w : State) (rec : List Byte) (seq : Nat) (hg : w.group x.ctx x.id = some x) (hx : x.live = true) :
    (w.decided x rec seq).group x.ctx x.id = some (x.switchAt x.nextStep seq) := by
  refine group_modGroup ?_ hx fun _ => ⟨rfl, rfl⟩
  have hdisp : (w.tryWriteVa (w.accOf x.ctx) (gSwitch x.record) rec).disp = w.disp := tryWriteVa_disp ..
  exact (congrArg (fun d : Disp => d.groups.find? _) hdisp).trans hg

theorem modGroup_obj (s : State) (c g : Nat) (f : SplitGroup → SplitGroup) (k : Nat) : (s.modGroup c g f).obj k = s.obj k := rfl

theorem decided_logSeq (w : State) (rec : List Byte) (seq : Nat) : (w.decided x rec seq).logSeq x.ctx = (seq + 1) % 2 ^ 32 := by
  have hkey : kCtx x.ctx 9 ≠ kCtx x.ctx 0x10 := by
    unfold kCtx kDev objKey
    omega
  rw [State.logSeq, State.decided, modGroup_obj, obj_cnt16_ne _ hkey, State.obj_setObj_same]

theorem decided_count (w : State) (rec : List Byte) (seq : Nat) :
    (w.decided x rec seq).obj (kCtx x.ctx 0x10) = satAdd16 (w.obj (kCtx x.ctx 0x10)) 1 := by
  have hkey : kCtx x.ctx 0x10 ≠ kCtx x.ctx 9 ∧ kCtx x.ctx 0x10 % 256 ≠ 3 := by
    unfold kCtx kDev objKey
    omega
  rw [State.decided, modGroup_obj, obj_cnt16_same, State.obj_setObj_ne _ hkey.1, tryWriteVa_obj hkey.2]

/-- What a decision that is recorded leaves: its group has switched, and the log has moved on (R492, R494). -/
theorem switchGroup_switches {w : State} (h : s.logHeld x.ctx < s.obj (kCtx x.ctx 8))
    (hw : s.writeVa (s.accOf x.ctx) (s.logAddr x.ctx (s.logSeq x.ctx)) (s.decision x reason proj) = .ok w)
    (hg : s.group x.ctx x.id = some x) (hx : x.live = true) :
    (s.switchGroup x reason proj).group x.ctx x.id = some (x.switchAt x.nextStep (s.logSeq x.ctx)) ∧
    (s.switchGroup x reason proj).logSeq x.ctx = (s.logSeq x.ctx + 1) % 2 ^ 32 ∧
    (s.switchGroup x reason proj).obj (kCtx x.ctx 0x10) = satAdd16 (s.obj (kCtx x.ctx 0x10)) 1 := by
  rw [switchGroup_written h hw]
  refine ⟨decided_group w _ _ ?_ hx, decided_logSeq .., (decided_count ..).trans ?_⟩
  · rw [State.group, writeVa_disp hw]
    exact hg
  · rw [writeVa_obj (by unfold kCtx kDev objKey; omega) hw]

/-- A decision for which the log has no room is counted alone (R497). -/
theorem switchGroup_counted (hc : x.ctx < 64) (h : s.obj (kCtx x.ctx 8) ≤ s.logHeld x.ctx) :
    (s.switchGroup x reason proj).mem = s.mem ∧ (s.switchGroup x reason proj).disp = s.disp ∧
    (s.switchGroup x reason proj).obj (kCtx x.ctx 0x11) = satAdd16 (s.obj (kCtx x.ctx 0x11)) 1 := by
  rw [switchGroup_full h]
  refine ⟨event_mem .., (event_noticeOnly ..).disp, (event_obj _ _ _ _ _ _ ?_).trans (obj_cnt16_same ..)⟩
  unfold kCtx kDev objKey
  omega

theorem forceSwitch_open {c g : Nat} (hg : s.group c g = some x) (hmode : s.obj (kCtx c 6) = 0) (ho : x.state = .open_) :
    s.forceSwitch c g = (s.switchGroup x 2 0, stOk) := by
  simp only [State.forceSwitch, hg]
  exact if_pos ⟨hmode, ho⟩

theorem forceSwitch_closed {c g : Nat} (hg : s.group c g = some x) (h : s.obj (kCtx c 6) ≠ 0 ∨ x.state ≠ .open_) :
    s.forceSwitch c g = (s, stState) := by
  simp only [State.forceSwitch, hg]
  exact if_neg (not_and_or.2 h)

theorem forceSwitch_none {c g : Nat} (hg : s.group c g = none) : s.forceSwitch c g = (s, stState) := by
  simp only [State.forceSwitch, hg]

end

/-! ### The state of a context after a load, an unload and a restore -/

/-- What an IDLE context takes with a program, and what the load leaves of the others. -/
theorem programLoad_takes {s : State} {c : Nat} {p : Program} (h : s.ctxState c = 0) (hp : s.programBad p = false) :
    ∃ u, s.programLoad c p = (u, stOk) ∧ u.ctxState c = 1 ∧ u.obj (kSeed c 7) = p.hash.toNat ∧ (u.ctx c).prog = some p ∧
      (∀ i, i < 12288 → u.tag c i = 0) ∧ u.cores = s.cores ∧ (∀ c', c' ≠ c → u.ctxState c' = s.ctxState c' ∧ u.ctx c' = s.ctx c') := by
  obtain ⟨hstate, hhash, hprog, htags, hcores, hothers⟩ := loadedWith_takes (setTags_memOnly s c []) c p
  refine ⟨_, programLoad_idle h hp, hstate, hhash, hprog, fun i hi => ?_, hcores, hothers⟩
  rw [htags, tag_setTags s c [] hi, show nth 0 ([] : List Nat) (i / 2) = 0 from rfl, Nat.zero_div, Nat.zero_mod]

/-- A saved context is unloaded. -/
theorem programUnload_empties {s : State} {c : Nat} (h : s.ctxState c = 3 ∨ s.ctxState c = 2 ∧ (s.ctx c).saveFailed = true) :
    ∃ u, s.programUnload c = (u, stOk) ∧ u.ctxState c = 0 ∧ (u.ctx c).prog = none ∧
      (∀ cl < 12, ∀ site < 8, u.coreClear c cl site) ∧ (∀ cl < 12, u.leasesClear c cl) :=
  ⟨_, programUnload_saved h, State.obj_setObj_same .., unloaded_prog .., fun _ hcl _ hsite =>
    coreClear_of_emptied (unloaded_coresLeases ..) hcl hsite, fun _ hcl => leasesClear_of_emptied (unloaded_coresLeases ..) hcl⟩

/-- An area that is read back: the context reads RESTORING, with its step counter and its log. -/
theorem restore_reads {s r : State} {c : Nat} (hc : c < 64) {h : List Byte} (hr : s.restoreArea c = some r)
    (hh : s.readVa (s.accOf c) (s.obj (kCtx c 4)) 256 = .ok h) :
    (r.setObj (kCtx c 1) 4).cores = s.cores ∧ (r.setObj (kCtx c 1) 4).stepNow c = leNat ((h.drop 16).take 8) ∧
      (r.setObj (kCtx c 1) 4).logSeq c = leNat ((h.drop 36).take 4) := by
  obtain ⟨v, base, n, l, hv, rfl⟩ := restoreArea_some hr hh
  obtain ⟨hcores, hstep, hseq⟩ := resumeAt_reads v hc (leNat ((h.drop 16).take 8)) (leNat ((h.drop 36).take 4)) base n l
  exact ⟨hcores.trans hv, (State.obj_setObj_ne _ (by unfold kSeed kCtx kDev objKey; omega) 4).trans hstep,
    (State.obj_setObj_ne _ (by unfold kCtx kDev objKey; omega) 4).trans hseq⟩

theorem restoreDone_restoring {s : State} {c : Nat} (h : s.ctxState c = 4) :
    s.restoreDone c = (s.setObj (kCtx c 1) 1).modCtx c (fun k => { k with loadedAt := s.timeNs }) := if_neg (not_not.2 h)

/-! ### The obligation -/

theorem programLoad_exec {s u : State} {ctx : Fin 64} {p : Program} {st : Nat} (h : s.programLoad ctx.val p = (u, st)) :
    exec (.programLoad ctx p) s = .next (written (u, st)) := congrArg (fun r => Host.Outcome.next (written r)) h

theorem programUnload_exec {s u : State} {ctx : Fin 64} {st : Nat} (h : s.programUnload ctx.val = (u, st)) :
    exec (.programUnload ctx) s = .next (written (u, st)) := congrArg (fun r => Host.Outcome.next (written r)) h

theorem preempt_exec {s u : State} {ctx : Fin 64} {v : Bool} {st : Nat} (h : s.preempt ctx.val v = (u, st)) :
    exec (.preempt ctx v) s = .next (written (u, st)) := congrArg (fun r => Host.Outcome.next (written r)) h

theorem restore_exec {s u : State} {ctx : Fin 64} {v : Bool} {st : Nat} (h : s.restore ctx.val v = (u, st)) :
    exec (.restore ctx v) s = .next (written (u, st)) := congrArg (fun r => Host.Outcome.next (written r)) h

theorem forceSwitch_exec {s u : State} {ctx : Fin 64} {g : BitVec 16} {st : Nat} (h : s.forceSwitch ctx.val g.toNat = (u, st)) :
    exec (.forceSwitch ctx g) s = .next (written (u, st)) := congrArg (fun r => Host.Outcome.next (written r)) h

/-- FORCE_SWITCH of an open group outside REPLAY, with room in the log and a place of it that can be written. -/
theorem forceSwitch_switches {s w : State} {ctx : Fin 64} {g : BitVec 16} {x : SplitGroup} (hg : s.group ctx.val g.toNat = some x)
    (hmode : s.obj (kCtx ctx.val 6) = 0) (ho : x.state = .open_) (hlog : s.logHeld ctx.val < s.obj (kCtx ctx.val 8))
    (hw : s.writeVa (s.accOf ctx.val) (s.logAddr ctx.val (s.logSeq ctx.val)) (s.decision x 2 0) = .ok w) :
    ∃ u, exec (.forceSwitch ctx g) s = .next u ∧
      u.group ctx.val g.toNat = some (x.switchAt x.nextStep (s.logSeq ctx.val)) ∧
      u.logSeq ctx.val = (s.logSeq ctx.val + 1) % 2 ^ 32 ∧
      u.obj (kCtx ctx.val 0x10) = satAdd16 (s.obj (kCtx ctx.val 0x10)) 1 ∧ u.cores = s.cores := by
  have hlive : x.live = true := by rw [SplitGroup.live, ho]; rfl
  refine ⟨_, forceSwitch_exec (forceSwitch_open hg hmode ho), ?_⟩
  obtain ⟨hctx, hid⟩ := group_named hg
  rw [← hctx, ← hid] at hg
  rw [← hctx] at hlog hw ⊢
  rw [← hid]
  obtain ⟨hgroup, hseq, hcount⟩ := switchGroup_switches hlog hw hg hlive
  exact ⟨hgroup, hseq, hcount, switchGroup_cores ..⟩

/-- FORCE_SWITCH of an open group whose context's log is full. -/
theorem forceSwitch_counts {s : State} {ctx : Fin 64} {g : BitVec 16} {x : SplitGroup} (hg : s.group ctx.val g.toNat = some x)
    (hmode : s.obj (kCtx ctx.val 6) = 0) (ho : x.state = .open_) (hlog : s.obj (kCtx ctx.val 8) ≤ s.logHeld ctx.val) :
    ∃ u, exec (.forceSwitch ctx g) s = .next u ∧ BytesStay s u ∧ u.disp.groups = s.disp.groups ∧
      u.obj (kCtx ctx.val 0x11) = satAdd16 (s.obj (kCtx ctx.val 0x11)) 1 ∧ u.cores = s.cores := by
  refine ⟨_, forceSwitch_exec (forceSwitch_open hg hmode ho), ?_⟩
  obtain ⟨hctx, -⟩ := group_named hg
  have hlt : x.ctx < 64 := hctx ▸ ctx.isLt
  rw [← hctx] at hlog ⊢
  obtain ⟨hmem, hdisp, hcount⟩ := switchGroup_counted (reason := 2) (proj := 0) hlt hlog
  exact ⟨byte_of_mem hmem, congrArg Disp.groups hdisp, hcount, switchGroup_cores ..⟩

/-- FORCE_SWITCH of an open group whose record cannot be written. -/
theorem forceSwitch_untaken {s : State} {ctx : Fin 64} {g : BitVec 16} {x : SplitGroup} {e : Nat}
    (hg : s.group ctx.val g.toNat = some x) (hmode : s.obj (kCtx ctx.val 6) = 0) (ho : x.state = .open_)
    (hlog : s.logHeld ctx.val < s.obj (kCtx ctx.val 8))
    (hw : s.writeVa (s.accOf ctx.val) (s.logAddr ctx.val (s.logSeq ctx.val)) (s.decision x 2 0) = .error e) :
    exec (.forceSwitch ctx g) s = .next s := by
  obtain ⟨hctx, -⟩ := group_named hg
  rw [forceSwitch_exec (forceSwitch_open hg hmode ho)]
  rw [← hctx] at hlog hw
  rw [switchGroup_unwritten hlog hw]
  rfl

/-- RESTORE_COMPLETE of a context that is read back (R485). -/
theorem restoreComplete_runs {s : State} {ctx : Fin 64} (h : s.ctxState ctx.val = 4) :
    ∃ u, exec (.restoreComplete ctx) s = .next u ∧ u = { s with objs := u.objs, disp := u.disp } ∧
      ObjsAre s u [(kCtx ctx.val 1, 1)] ∧ u.ctx ctx.val = { s.ctx ctx.val with loadedAt := s.timeNs } := by
  refine ⟨_, congrArg Host.Outcome.next (restoreDone_restoring h), rfl, fun k => ?_, ctx_modCtx_same ..⟩
  refine (State.obj_setObj s k _ 1).trans ?_
  by_cases hk : k = kCtx ctx.val 1
  · simp [hk]
  · simp [hk, Ne.symm hk]

/-- Settles O32: a load by `programLoad_takes`, an unload by `programUnload_empties`, PREEMPT by `beginPreempt_begun`, the area's end by
`event_areaSaved`, RESTORE by `restore_reads`, FORCE_SWITCH by what `switchGroup_eq` says of its decision. -/
theorem contextsChangeState : Obligations.ContextsChangeState := by
  refine ⟨fun s ctx p h hp => ?_, fun s ctx p h => programLoad_exec (programLoad_refused h), fun s ctx h => ?_,
    fun s ctx h hf => programUnload_exec (programUnload_refused h hf),
    fun s ctx => ⟨preempt_exec rfl, restore_exec rfl⟩, fun s ctx h hm => ?_,
    fun s ctx h => preempt_exec (preempt_refused h), fun s ctx v w h hf hon => ?_,
    fun s ctx h => congrArg Host.Outcome.next (saveArea_waits h), fun s ctx h hm => ⟨fun w hw => ?_, fun b hr hb => ?_, fun hr => ?_⟩,
    fun s ctx h => restore_exec (restore_refused h), fun s ctx h => restoreComplete_runs h,
    fun s ctx h => congrArg Host.Outcome.next (if_pos h), fun s ctx g x hg => ?_, fun s ctx g hg => forceSwitch_exec (forceSwitch_none hg)⟩
  · obtain ⟨u, hu, hreads⟩ := programLoad_takes h hp
    exact ⟨u, programLoad_exec hu, hreads⟩
  · obtain ⟨u, hu, hstate, hprog, hcores, hleases⟩ := programUnload_empties h
    exact ⟨u, programUnload_exec hu, hstate, hprog, hcores, hleases⟩
  · obtain ⟨hstate, hmem, hcores, hfailed, htasks, hcommit⟩ := beginPreempt_begun s ctx.isLt
    exact ⟨_, preempt_exec (preempt_running h hm), hstate, byte_of_mem hmem, hcores, hfailed, htasks, hcommit⟩
  · intro area base hv hw
    obtain ⟨hstate, hsize, hmem, hcores, hdisp⟩ := event_areaSaved w ctx.isLt area.total
    refine ⟨_, congrArg Host.Outcome.next ((saveArea_writes h hf hon).trans (writeArea_ok hv hw)), hstate, hsize, hmem, ?_, ?_⟩
    · rw [hcores, writeVa_cores hw, writeVa_cores hv]
    · rw [hdisp, writeVa_disp hw, writeVa_disp hv]
  · exact restore_exec (restore_some h hm hw)
  · obtain ⟨r, hr⟩ := Option.isSome_iff_exists.1 hr
    obtain ⟨hcores, hstep, hseq⟩ := restore_reads ctx.isLt hr hb
    exact ⟨_, restore_exec (restore_some h hm hr), State.obj_setObj_same .., hcores, hstep, hseq⟩
  · exact restore_exec (restore_none hr)
  · refine ⟨fun hmode ho => forceSwitch_exec (forceSwitch_open hg hmode ho), ?_⟩
    intro from_ write
    have hdecision : write = s.writeVa (s.accOf ctx.val) (s.logAddr ctx.val (s.logSeq ctx.val)) (s.decision x 2 0) := by
      rw [State.decision, (group_named hg).1]
      rfl
    refine ⟨fun hmode ho hlog hw => ?_, fun hmode ho hlog hw => ?_, fun hmode ho hlog => forceSwitch_counts hg hmode ho hlog,
      fun h => forceSwitch_exec (forceSwitch_closed hg h)⟩
    · cases hwrite : write with
      | ok w => rw [hwrite] at hw; cases hw
      | error e => exact forceSwitch_untaken hg hmode ho hlog (hdecision.symm.trans hwrite)
    · cases hwrite : write with
      | error e => rw [hwrite] at hw; cases hw
      | ok w =>
        obtain ⟨u, hu, hgroup, hreads⟩ := forceSwitch_switches hg hmode ho hlog (hdecision.symm.trans hwrite)
        exact ⟨u, _, hu, hgroup, rfl, rfl, rfl, rfl, rfl, rfl, hreads⟩

end Sys2Proof.Machine
end
